-- ==== Sys2Proof/Word.lean ====
section
/-! DEFINITION. The words of the machine (R1): bytes, the 64-bit register word, and the two kinds of
list every memory and every set of numbered things of this model is held in. -/

namespace Sys2Proof

/-- One byte. -/
abbrev Byte := BitVec 8

/-- A 64-bit word of a register or of a spoke core. -/
abbrev Word := BitVec 64

/-- A table of things with numbers: pairs in strictly rising number order, none equal to what an
unlisted number holds. -/
abbrev Tbl (α : Type) := List (Nat × α)

/-- A byte memory: a table of bytes by address (`Host.Cell` pairs), an unlisted address holding 0. -/
abbrev Mem := Tbl Byte

end Sys2Proof
end

