-- ==== Sys2Proof/Machine/Table.lean ====
section
/-! DEFINITION. The named operations over tables and byte memories: one read, one write, ranges of
bytes, and little-endian values (R1). A write keeps the canonical form. -/

namespace Sys2Proof.Machine

/-- What number `k` holds: `d` where nothing is listed. -/
def Tbl.get {α : Type} (d : α) (k : Nat) : Tbl α → α
  | [] => d
  | (j, v) :: m => if j = k then v else Tbl.get d k m

/-- Lists `v` under `k`, keeping the order. -/
def Tbl.put {α : Type} (k : Nat) (v : α) : Tbl α → Tbl α
  | [] => [(k, v)]
  | (j, w) :: m => if j < k then (j, w) :: Tbl.put k v m else if j = k then (k, v) :: m else (k, v) :: (j, w) :: m

/-- Drops number `k`. -/
def Tbl.del {α : Type} (k : Nat) : Tbl α → Tbl α
  | [] => []
  | (j, w) :: m => if j = k then Tbl.del k m else (j, w) :: Tbl.del k m

/-- Writes `v` at `k`; writing what an unlisted number holds removes the entry. -/
def Tbl.set {α : Type} [DecidableEq α] (d : α) (k : Nat) (v : α) (m : Tbl α) : Tbl α :=
  if v = d then Tbl.del k m else Tbl.put k v m

/-- The numbers of a table rise strictly, all above `lo`. -/
def Tbl.risingFrom {α : Type} : Option Nat → Tbl α → Bool
  | _, [] => true
  | none, (j, _) :: m => Tbl.risingFrom (some j) m
  | some lo, (j, _) :: m => decide (lo < j) && Tbl.risingFrom (some j) m

/-- The canonical form: numbers strictly rising, no entry equal to what an unlisted number holds. -/
def Tbl.wf {α : Type} [DecidableEq α] (d : α) (m : Tbl α) : Bool :=
  Tbl.risingFrom none m && m.all (fun e => decide (e.2 ≠ d))

/-- The canonical form of a byte memory. -/
def Memory.wf (m : Mem) : Bool := Tbl.wf (0 : Byte) m

/-- One byte of a memory. -/
def Mem.rd (m : Mem) (a : Nat) : Byte := Tbl.get 0 a m

/-- Writes one byte. -/
def Mem.wr (m : Mem) (a : Nat) (b : Byte) : Mem := Tbl.set 0 a b m

/-- `n` bytes from `a`, the lowest address first. -/
def Mem.bytes (m : Mem) : Nat → Nat → List Byte
  | _, 0 => []
  | a, n + 1 => Mem.rd m a :: Mem.bytes m (a + 1) n

/-- Writes bytes from `a` on. -/
def Mem.store (m : Mem) : Nat → List Byte → Mem
  | _, [] => m
  | a, b :: bs => Mem.store (Mem.wr m a b) (a + 1) bs

/-- Writes byte `i` of `bs` at `a + i` where the mask has bit `i`. -/
def Mem.storeMasked (m : Mem) : Nat → List Byte → List Bool → Mem
  | _, [], _ => m
  | _, _, [] => m
  | a, b :: bs, k :: ks => Mem.storeMasked (if k then Mem.wr m a b else m) (a + 1) bs ks

/-- Zeroes every byte from `lo` up to, not including, `hi`. -/
def Mem.wipe (m : Mem) (lo hi : Nat) : Mem := m.filter (fun e => !(decide (lo ≤ e.1) && decide (e.1 < hi)))

/-- The little-endian value of bytes (R1). -/
def leNat : List Byte → Nat
  | [] => 0
  | b :: bs => b.toNat + 256 * leNat bs

/-- `n` bytes of a value, little-endian (R1). -/
def leBytes : Nat → Nat → List Byte
  | 0, _ => []
  | n + 1, v => BitVec.ofNat 8 v :: leBytes n (v / 256)

/-- A little-endian value of `n` bytes at `a`. -/
def Mem.nat (m : Mem) (a n : Nat) : Nat := leNat (Mem.bytes m a n)

/-- Bits `lo` up to `lo + w - 1` of a value. -/
def bits (v lo w : Nat) : Nat := v / 2 ^ lo % 2 ^ w

/-- Bit `i` of a value. -/
def bit (v i : Nat) : Bool := v / 2 ^ i % 2 = 1

/-- 1 for true. -/
def b2n (b : Bool) : Nat := if b then 1 else 0

/-- Sets bit `i`. -/
def setBit (v i : Nat) : Nat := if bit v i then v else v + 2 ^ i

/-- Clears bit `i`. -/
def clrBit (v i : Nat) : Nat := if bit v i then v - 2 ^ i else v

/-- `w`-bit two's complement read as an integer. -/
def sext (w v : Nat) : Int := if v % 2 ^ w < 2 ^ (w - 1) then (v % 2 ^ w : Nat) else ((v % 2 ^ w : Nat) : Int) - (2 ^ w : Nat)

/-- An integer as a `w`-bit two's complement value. -/
def wrap (w : Nat) (z : Int) : Nat := (z % ((2 ^ w : Nat) : Int)).toNat

/-- A counter that stops at its greatest `w`-bit value. -/
def satAdd (w v n : Nat) : Nat := min (v + n) (2 ^ w - 1)

/-- Rounds a division up. -/
def ceilDiv (a b : Nat) : Nat := (a + b - 1) / b

/-- The first `some` of a search over a list. -/
def findFirst {α β : Type} (f : α → Option β) : List α → Option β
  | [] => none
  | x :: xs => match f x with
    | some y => some y
    | none => findFirst f xs

/-- Replaces the first element that meets `p`. -/
def replaceFirst {α : Type} (p : α → Bool) (f : α → α) : List α → List α
  | [] => []
  | x :: xs => if p x then f x :: xs else x :: replaceFirst p f xs

/-- Drops the first element that meets `p`. -/
def dropFirst {α : Type} (p : α → Bool) : List α → List α
  | [] => []
  | x :: xs => if p x then xs else x :: dropFirst p xs

end Sys2Proof.Machine
end

