-- ==== Sys2Proof/Machine/Arith.lean ====
section
/-! DEFINITION. Number formats, exact values, the one rounding of every result, stochastic rounding, MX
blocks and exact-accumulator images (R261 to R270, R278 to R282, R288, R289). -/

namespace Sys2Proof.Machine

open Sys2Proof

/-! Formats (R261, R263). -/

/-- A binary floating-point format: exponent and fraction bits, bias, infinities, and its NaNs: 0 none, 1 those
of IEEE 754, 2 the one of E4M3. -/
structure Fmt where
  eb : Nat
  mb : Nat
  bias : Nat
  inf : Bool
  nan : Nat
  deriving DecidableEq, Repr

namespace Fmt
def fp32 : Fmt := ⟨8, 23, 127, true, 1⟩
def bf16 : Fmt := ⟨8, 7, 127, true, 1⟩
def fp16 : Fmt := ⟨5, 10, 15, true, 1⟩
def fp64 : Fmt := ⟨11, 52, 1023, true, 1⟩
def e4m3 : Fmt := ⟨4, 3, 7, false, 2⟩
def e5m2 : Fmt := ⟨5, 2, 15, true, 1⟩
def e3m2 : Fmt := ⟨3, 2, 3, false, 0⟩
def e2m3 : Fmt := ⟨2, 3, 1, false, 0⟩
def e2m1 : Fmt := ⟨2, 1, 1, false, 0⟩
end Fmt

/-- Where the sign lies: above exponent and fraction. -/
def Fmt.signBit (F : Fmt) : Nat := F.eb + F.mb

/-- The greatest finite magnitude as a code without sign (R263). -/
def Fmt.maxCode (F : Fmt) : Nat :=
  if F.nan = 1 then (2 ^ F.eb - 1) * 2 ^ F.mb - 1
  else if F.nan = 2 then 2 ^ (F.eb + F.mb) - 2
  else 2 ^ (F.eb + F.mb) - 1

/-- The canonical NaN (R266). -/
def Fmt.canonNan (F : Fmt) : Nat :=
  if F.nan = 2 then 2 ^ (F.eb + F.mb) - 1 else (2 ^ F.eb - 1) * 2 ^ F.mb + 2 ^ (F.mb - 1)

/-- The element kind of a format code: a float format, an integer of a width, an MXINT8 element, or none. -/
inductive Elem where
  | flt (F : Fmt)
  | int (w : Nat)
  | mxint
  | none
  deriving DecidableEq, Repr

/-- The element of a code of R261; MX codes give their element format. -/
def elemOf : Nat → Elem
  | 0x0 => .flt .fp32
  | 0x1 => .flt .bf16
  | 0x2 => .flt .fp16
  | 0x3 => .flt .e4m3
  | 0x4 => .flt .e5m2
  | 0x5 => .flt .e4m3
  | 0x6 => .flt .e5m2
  | 0x7 => .flt .e3m2
  | 0x8 => .flt .e2m3
  | 0x9 => .flt .e2m1
  | 0xA => .mxint
  | 0xB => .int 8
  | 0xC => .int 32
  | 0xE => .flt .fp64
  | _ => .none

/-- Is the code one of the microscaled formats? -/
def isMx (c : Nat) : Bool := decide (5 ≤ c) && decide (c ≤ 0xA)

/-- The bits of one element of a code; 0 where it has none. -/
def elemBits : Nat → Nat
  | 0x0 => 32
  | 0x1 => 16
  | 0x2 => 16
  | 0x3 => 8
  | 0x4 => 8
  | 0x5 => 8
  | 0x6 => 8
  | 0x7 => 6
  | 0x8 => 6
  | 0x9 => 4
  | 0xA => 8
  | 0xB => 8
  | 0xC => 32
  | 0xD => 320
  | 0xE => 64
  | _ => 0

/-! Values. -/

/-- An exact value: a sign, a magnitude `n x 2^e`, or a special. -/
inductive Num where
  | fin (neg : Bool) (n : Nat) (e : Int)
  | inf (neg : Bool)
  | nan
  deriving DecidableEq, Repr

/-- The value of a code in a float format (R263). -/
def Fmt.decode (F : Fmt) (c : Nat) : Num :=
  let s := bit c F.signBit
  let ex := bits c F.mb F.eb
  let fr := bits c 0 F.mb
  if F.nan = 1 ∧ ex = 2 ^ F.eb - 1 then (if fr = 0 then .inf s else .nan)
  else if F.nan = 2 ∧ ex = 2 ^ F.eb - 1 ∧ fr = 2 ^ F.mb - 1 then .nan
  else if ex = 0 then .fin s fr (1 - F.bias - F.mb)
  else .fin s (2 ^ F.mb + fr) (ex - F.bias - F.mb)

/-- An integer as a value. -/
def Num.ofInt (z : Int) (e : Int) : Num := .fin (decide (z < 0)) z.natAbs e

/-- The value of an element. -/
def Elem.decode : Elem → Nat → Num
  | .flt F, c => F.decode c
  | .int w, c => Num.ofInt (sext w c) 0
  | .mxint, c => Num.ofInt (sext 8 c) (-6)
  | .none, _ => .nan

/-- A magnitude with its sign. -/
def signed (neg : Bool) (n : Nat) : Int := if neg then -(n : Int) else n

/-- The exact sum; an exact zero sum is +0 but for (-0) + (-0) (R265). -/
def Num.add : Num → Num → Num
  | .nan, _ => .nan
  | _, .nan => .nan
  | .inf a, .inf b => if a == b then .inf a else .nan
  | .inf a, _ => .inf a
  | _, .inf b => .inf b
  | .fin sa na ea, .fin sb nb eb =>
    let e := min ea eb
    let z := signed sa na * 2 ^ (ea - e).toNat + signed sb nb * 2 ^ (eb - e).toNat
    if z = 0 then .fin (sa && sb && na == 0 && nb == 0) 0 0 else Num.ofInt z e

def Num.neg : Num → Num
  | .fin s n e => .fin (!s) n e
  | .inf s => .inf (!s)
  | .nan => .nan

/-- The exact product. -/
def Num.mul : Num → Num → Num
  | .nan, _ => .nan
  | _, .nan => .nan
  | .inf a, .inf b => .inf (a != b)
  | .inf a, .fin b n _ => if n = 0 then .nan else .inf (a != b)
  | .fin a n _, .inf b => if n = 0 then .nan else .inf (a != b)
  | .fin sa na ea, .fin sb nb eb => .fin (sa != sb) (na * nb) (ea + eb)

/-- Scales by a power of two. -/
def Num.scale (k : Int) : Num → Num
  | .fin s n e => .fin s n (e + k)
  | x => x

def Num.isNan : Num → Bool
  | .nan => true
  | _ => false

def Num.isInf : Num → Bool
  | .inf _ => true
  | _ => false

/-- Compares two values that are not NaN: below, equal or above. Zeros of either sign are equal. -/
def Num.cmp : Num → Num → Ordering
  | .inf a, .inf b => if a == b then .eq else if a then .lt else .gt
  | .inf a, _ => if a then .lt else .gt
  | _, .inf b => if b then .gt else .lt
  | .fin sa na ea, .fin sb nb eb =>
    let e := min ea eb
    compare (signed sa na * 2 ^ (ea - e).toNat) (signed sb nb * 2 ^ (eb - e).toNat)
  | _, _ => .eq

/-- The magnitude. -/
def Num.abs : Num → Num
  | .fin _ n e => .fin false n e
  | .inf _ => .inf false
  | .nan => .nan

/-! Rounding (R265 to R268). -/

/-- The sticky flags of R267. -/
structure Flags where
  invalid : Bool := false
  overflow : Bool := false
  underflow : Bool := false
  inexact : Bool := false
  saturated : Bool := false
  deriving DecidableEq, Repr

def Flags.or (a b : Flags) : Flags :=
  ⟨a.invalid || b.invalid, a.overflow || b.overflow, a.underflow || b.underflow, a.inexact || b.inexact,
    a.saturated || b.saturated⟩

/-- How to round: to nearest even, or stochastically with 16 bits. -/
inductive Mode where
  | rne
  | sr (r : Nat)
  deriving DecidableEq, Repr

/-- `n / 2^d` rounded to an integer. -/
def roundShift (m : Mode) (n d : Nat) : Nat :=
  let q := n / 2 ^ d
  let r := n % 2 ^ d
  match m with
  | .rne => if 2 ^ d < 2 * r ∨ (2 * r = 2 ^ d ∧ q % 2 = 1) then q + 1 else q
  | .sr b => if r ≠ 0 ∧ 65536 ≤ 65536 * r / 2 ^ d + b then q + 1 else q

/-- A magnitude `n x 2^e` on the grid of `2^q`: the rounded multiple, and whether rounding changed it. -/
def onGrid (m : Mode) (n : Nat) (e q : Int) : Nat × Bool :=
  if q ≤ e then (n * 2 ^ (e - q).toNat, false)
  else (roundShift m n (q - e).toNat, n % 2 ^ (q - e).toNat != 0)

/-- The exponent of the lowest grid of a format: that of its subnormals. -/
def Fmt.qMin (F : Fmt) : Int := 1 - F.bias - F.mb

/-- Rounds a value to a float format (R265, R266); `sat` is SAT. An MX element format without infinities
gives its largest magnitude; its NaN is left to the scale (R269) and reads 0. -/
def Fmt.round (F : Fmt) (m : Mode) (sat : Bool) (v : Num) : Nat × Flags :=
  let sgn (s : Bool) := if s then 2 ^ F.signBit else 0
  let big (s : Bool) (fl : Flags) : Nat × Flags :=
    if F.nan = 0 ∨ sat then (sgn s + F.maxCode, { fl with saturated := true })
    else if F.nan = 2 then (F.canonNan, fl)
    else (sgn s + (2 ^ F.eb - 1) * 2 ^ F.mb, fl)
  match v with
  | .nan => (if F.nan = 0 then 0 else F.canonNan, {})
  | .inf s => big s {}
  | .fin s n e =>
    if n = 0 then (sgn s, {})
    else
      let q := max (Nat.log2 n + e - F.mb) F.qMin
      let g := onGrid m n e q
      let code := (q - F.qMin).toNat * 2 ^ F.mb + g.1
      if F.maxCode < code then big s { overflow := true, inexact := g.2 }
      else (sgn s + code, { inexact := g.2, underflow := g.2 && decide (code < 2 ^ F.mb) })

/-- Rounds a value to a two's-complement integer of `w` bits, in steps of `2^q`, saturating (R265, R266). -/
def roundInt (m : Mode) (w : Nat) (q : Int) (v : Num) : Nat × Flags :=
  let hi : Int := 2 ^ (w - 1) - 1
  let lo : Int := -(2 ^ (w - 1))
  match v with
  | .nan => (0, { invalid := true })
  | .inf s => (wrap w (if s then lo else hi), { saturated := true })
  | .fin s n e =>
    let g := onGrid m n e q
    let z := signed s g.1
    if z < lo then (wrap w lo, { overflow := true, saturated := true, inexact := g.2 })
    else if hi < z then (wrap w hi, { overflow := true, saturated := true, inexact := g.2 })
    else (wrap w z, { inexact := g.2 })

/-- Rounds a value to an element. -/
def Elem.round : Elem → Mode → Bool → Num → Nat × Flags
  | .flt F, m, sat, v => F.round m sat v
  | .int w, m, _, v => roundInt m w 0 v
  | .mxint, m, _, v => roundInt m 8 (-6) v
  | .none, _, _, _ => (0, {})

/-- The 16 stochastic-rounding bits of one element (R268). -/
def srBits (seed chunk elem : Nat) : Nat :=
  let x0 : BitVec 64 := BitVec.ofNat 64 seed ^^^ BitVec.ofNat 64 (chunk % 2 ^ 32 * 2 ^ 32 + elem % 2 ^ 32)
  let x1 := (x0 ^^^ (x0 >>> 30)) * 0xBF58476D1CE4E5B9#64
  let x2 := (x1 ^^^ (x1 >>> 27)) * 0x94D049BB133111EB#64
  let x3 := x2 ^^^ (x2 >>> 31)
  (x3 >>> 48).toNat

/-- Sum, rounded once in the element's format, integers wrapping (R270, R288). -/
def Elem.addRound (E : Elem) (a b : Nat) : Nat × Flags :=
  match E with
  | .int w => ((a + b) % 2 ^ w, {})
  | .none => (0, {})
  | _ =>
    let x := E.decode a
    let y := E.decode b
    let r := x.add y
    let f := E.round .rne false r
    (f.1, { f.2 with invalid := r.isNan && !x.isNan && !y.isNan })

/-! MX blocks (R264, R269). -/

/-- Element `i` of an element string of width `w`. -/
def mxElem (str w i : Nat) : Nat := bits str (w * i) w

/-- EMAX of an MX code (R269). -/
def mxEmax : Nat → Nat
  | 5 => 8
  | 6 => 15
  | 7 => 4
  | 8 => 2
  | 9 => 2
  | _ => 0

/-- `floor(log2)` of a finite non-zero magnitude. -/
def Num.log2 : Num → Int
  | .fin _ n e => Nat.log2 n + e
  | _ => 0

/-- The larger of two finite magnitudes. -/
def Num.maxMag (a b : Num) : Num := if a.cmp b = .lt then b else a

/-- The scale byte of a block (R269 steps 1 to 3) and whether it set INVALID. -/
def mxScale (code : Nat) (sat : Bool) (xs : List Num) : Nat × Bool :=
  if xs.any Num.isNan || (!sat && xs.any Num.isInf) then (0xFF, true)
  else
    let m : Num := (xs.filter (fun x => !x.isInf)).foldl (fun (a x : Num) => a.maxMag x.abs) (Num.fin false 0 0)
    match m with
    | .fin _ 0 _ => (0, false)
    | _ => ((min 127 (max (-127) (m.log2 - mxEmax code)) + 127).toNat, false)

/-- Rounds one element under a scale byte (R269 step 4): always saturated, MXINT8 within -127 to 127. -/
def mxQuant (code scale : Nat) (m : Mode) (x : Num) : Nat × Flags :=
  if scale = 0xFF then (0, {})
  else
    let y := x.scale (127 - (scale : Int))
    match elemOf code with
    | .mxint =>
      let r := roundInt m 8 (-6) y
      if r.1 = 0x80 then (0x81, { r.2 with saturated := true }) else r
    | E => E.round m true y

/-- The value of an MX element under its scale byte (R264). -/
def mxValue (code scale c : Nat) : Num :=
  if scale = 0xFF then .nan else ((elemOf code).decode c).scale ((scale : Int) - 127)

/-! Exact-accumulator images (R278 to R282). -/

/-- An accumulator: its value in units of 2^-160 and its flags (R279), the residue it carries (R289), and
whether it is poisoned (R290). -/
structure Accum where
  x : Int := 0
  nan : Bool := false
  pinf : Bool := false
  ninf : Bool := false
  res : Nat := 0
  poison : Bool := false
  deriving DecidableEq, Repr

/-- Does byte 39 of an image mark a special (R278)? -/
def imgSpecial (v : Nat) : Bool := v / 2 ^ 312 % 256 == 0x80

/-- Reads a 40-byte image; every special pattern that R278 does not define is a NaN. -/
def imgRead (v : Nat) : Accum :=
  if imgSpecial v then
    (if v % 2 ^ 312 = 2 then { pinf := true } else if v % 2 ^ 312 = 3 then { ninf := true } else { nan := true })
  else { x := sext 320 v }

/-- The values a finite image holds (R278). -/
def imgFinite (x : Int) : Bool := decide (-(2 ^ 319) + 2 ^ 312 ≤ x) && decide (x < 2 ^ 319)

def imgNan : Nat := 0x80 * 2 ^ 312 + 1
def imgInf (neg : Bool) : Nat := 0x80 * 2 ^ 312 + (if neg then 3 else 2)

/-- What an accumulator reads out as (R280, R281): the image, and whether a finite value overflowed. -/
def Accum.image (a : Accum) : Nat × Bool :=
  if a.nan || (a.pinf && a.ninf) then (imgNan, false)
  else if a.pinf then (imgInf false, false)
  else if a.ninf then (imgInf true, false)
  else if imgFinite a.x then (wrap 320 a.x, false)
  else (imgInf (decide (a.x < 0)), true)

/-- The value an accumulator reads out as, and whether it overflowed. An exact zero is +0. -/
def Accum.value (a : Accum) : Num × Bool :=
  if a.nan || (a.pinf && a.ninf) then (.nan, false)
  else if a.pinf then (.inf false, false)
  else if a.ninf then (.inf true, false)
  else if imgFinite a.x then (Num.ofInt a.x (-160), false)
  else (.inf (decide (a.x < 0)), true)

/-- The value modulo the 336 bits an accumulator holds (R279). -/
def wrap336 (x : Int) : Int := (x + 2 ^ 335) % 2 ^ 336 - 2 ^ 335

/-- The residue of an integer (R289). -/
def residue (x : Int) : Nat := (x % 127).toNat

/-- Adds one accumulator's contents into another (R279). -/
def Accum.add (a b : Accum) : Accum :=
  { a with x := wrap336 (a.x + b.x), nan := a.nan || b.nan, pinf := a.pinf || b.pinf, ninf := a.ninf || b.ninf,
           res := (a.res + residue b.x) % 127 }

/-- An exact value as an addend (R279): on the grid of 2^-160, a magnitude of 2^159 or more counting as an
infinity. Answers the addend, whether it was rounded onto the grid, and whether it overflowed. -/
def addendOf (v : Num) : Accum × Bool × Bool :=
  match v with
  | .nan => ({ nan := true }, false, false)
  | .inf s => ({ pinf := !s, ninf := s }, false, false)
  | .fin s n e =>
    let g := onGrid .rne n e (-160)
    if 2 ^ 319 ≤ g.1 then ({ pinf := !s, ninf := s }, g.2, true)
    else ({ x := signed s g.1 }, g.2, false)

/-- The target image with an addend image added (R288), and whether the result overflowed. -/
def imgAdd (t a : Nat) : Nat × Bool := ((imgRead t).add (imgRead a)).image

/-- One element of REDUCE_WRITE (R288): the new element, and whether an image overflowed. -/
def reduceElem (fmt old add : Nat) : Nat × Bool :=
  if fmt % 16 = 0xD then imgAdd old add else (((elemOf (fmt % 16)).addRound old add).1, false)

/-- The elements of REDUCE_WRITE bytes, of `k` bytes each; `n` bounds their number. Answers the bytes to
write and how many images overflowed. -/
def reduceBytes (fmt k : Nat) : Nat → List Byte → List Byte → List Byte × Nat
  | 0, _, _ => ([], 0)
  | n + 1, old, add =>
    if add = [] then ([], 0)
    else
      let r := reduceElem fmt (leNat (old.take k)) (leNat (add.take k))
      let rest := reduceBytes fmt k n (old.drop k) (add.drop k)
      (leBytes k r.1 ++ rest.1, b2n r.2 + rest.2)

end Sys2Proof.Machine
end

