-- ==== Sys2Proof/Machine/Reg.lean ====
section
/-! DEFINITION. What a register field is (R2, R8, R10, R11): where it lies, its access code, its reset
domain (R19) and its reset value. The fields themselves are in Machine/Regs.lean, taken from the
register maps of spec/. -/

namespace Sys2Proof.Machine

/-- The access codes of R2. -/
inductive Acc where
  | rw | ro | wo | w1c | w1s | rwl
  deriving DecidableEq, Repr

/-- Which resets clear a field: the domains of R19, the three registers of R426 that only a cold reset
clears, and the fields of R399 that come from the life-cycle store, which no reset changes. -/
inductive Dom where
  | main | freewheel | mgmt | alert | store
  deriving DecidableEq, Repr

/-- One field of a register map: the offset of its first register from the base of block 0 (R10), its
bits, its access code, its domain, up to two replications (stride and count), the select register that
names its instance, and its reset value by instance. -/
structure Fld where
  addr : Nat
  lo : Nat
  w : Nat
  acc : Acc
  dom : Dom
  s1 : Nat
  n1 : Nat
  s2 : Nat
  n2 : Nat
  sel : Option Nat
  rst : Nat → Nat

/-- The number a field at an offset and a lowest bit is stored under. -/
def Fld.keyOf (addr lo : Nat) : Nat := addr * 64 + lo

/-- The number a field is stored under. -/
def Fld.key (f : Fld) : Nat := Fld.keyOf f.addr f.lo

/-- The instance number of a field with two indices. -/
def ix (a b : Nat) : Nat := a * 1024 + b

/-- The replication index or indices of the instance at offset `off`, where the field has one there. -/
def Fld.arrayIx (f : Fld) (off : Nat) : Option (Option Nat) :=
  if off < f.addr then none
  else
    let d := off - f.addr
    if f.n1 ≤ 1 then (if d = 0 then some none else none)
    else if f.n2 ≤ 1 then (if d % f.s1 = 0 ∧ d / f.s1 < f.n1 then some (some (d / f.s1)) else none)
    else
      let r := d % f.s1
      if d / f.s1 < f.n1 ∧ r % f.s2 = 0 ∧ r / f.s2 < f.n2 then some (some (ix (d / f.s1) (r / f.s2))) else none

end Sys2Proof.Machine
end

