-- ==== Sys2Proof/Machine/Regs.lean ====
section
/-! DEFINITION. Every register field of the provider blocks, from the register maps of spec/ (R54, R105,
R132 to R134, R185, R207, R208, R227, R228, R260, R293, R294, R349, R368, R398, R399, R425, R426, R446, R457):
one constant a field, and the list of them by block. -/

namespace Sys2Proof.Machine.Reg

/-- CAD_COUNT.COUNT, CAD bits [63:0] (R54). -/
def CAD_COUNT_COUNT : Fld := ⟨0x0, 0, 64, .ro, .freewheel, 0x0, 1, 0x0, 1, none, fun _ => 0⟩
/-- CAD_STATUS.STATE, CAD bits [2:0] (R54). -/
def CAD_STATUS_STATE : Fld := ⟨0x8, 0, 3, .ro, .freewheel, 0x0, 1, 0x0, 1, none, fun _ => 0⟩
/-- CAD_STATUS.ROOT, CAD bits [3:3] (R54). -/
def CAD_STATUS_ROOT : Fld := ⟨0x8, 3, 1, .ro, .freewheel, 0x0, 1, 0x0, 1, none, fun _ => 0⟩
/-- CAD_STATUS.PPS_VALID, CAD bits [4:4] (R54). -/
def CAD_STATUS_PPS_VALID : Fld := ⟨0x8, 4, 1, .ro, .freewheel, 0x0, 1, 0x0, 1, none, fun _ => 0⟩
/-- CAD_STATUS.PTP_VALID, CAD bits [5:5] (R54). -/
def CAD_STATUS_PTP_VALID : Fld := ⟨0x8, 5, 1, .ro, .freewheel, 0x0, 1, 0x0, 1, none, fun _ => 0⟩
/-- CAD_STATUS.HOP_EQ, CAD bits [15:8] (R54). -/
def CAD_STATUS_HOP_EQ : Fld := ⟨0x8, 8, 8, .ro, .freewheel, 0x0, 1, 0x0, 1, none, fun _ => 255⟩
/-- CAD_STATUS.UPSTREAM, CAD bits [23:16] (R54). -/
def CAD_STATUS_UPSTREAM : Fld := ⟨0x8, 16, 8, .ro, .freewheel, 0x0, 1, 0x0, 1, none, fun _ => 255⟩
/-- CAD_STATUS.EST_ERR, CAD bits [39:24] (R54). -/
def CAD_STATUS_EST_ERR : Fld := ⟨0x8, 24, 16, .ro, .freewheel, 0x0, 1, 0x0, 1, none, fun _ => 65535⟩
/-- CAD_STATUS.ROOT_ID, CAD bits [55:40] (R54). -/
def CAD_STATUS_ROOT_ID : Fld := ⟨0x8, 40, 16, .ro, .freewheel, 0x0, 1, 0x0, 1, none, fun _ => 0⟩
/-- CAD_CTRL.ENABLE, CAD bits [0:0] (R54). -/
def CAD_CTRL_ENABLE : Fld := ⟨0x10, 0, 1, .rw, .freewheel, 0x0, 1, 0x0, 1, none, fun _ => 0⟩
/-- CAD_CTRL.ROOT_CAPABLE, CAD bits [1:1] (R54). -/
def CAD_CTRL_ROOT_CAPABLE : Fld := ⟨0x10, 1, 1, .rw, .freewheel, 0x0, 1, 0x0, 1, none, fun _ => 0⟩
/-- CAD_CTRL.REF_SRC, CAD bits [3:2] (R54). -/
def CAD_CTRL_REF_SRC : Fld := ⟨0x10, 2, 2, .rw, .freewheel, 0x0, 1, 0x0, 1, none, fun _ => 0⟩
/-- CAD_CTRL.PPS_OUT_EN, CAD bits [4:4] (R54). -/
def CAD_CTRL_PPS_OUT_EN : Fld := ⟨0x10, 4, 1, .rw, .freewheel, 0x0, 1, 0x0, 1, none, fun _ => 0⟩
/-- CAD_CTRL.PRIO, CAD bits [15:8] (R54). -/
def CAD_CTRL_PRIO : Fld := ⟨0x10, 8, 8, .rw, .freewheel, 0x0, 1, 0x0, 1, none, fun _ => 128⟩
/-- CAD_CTRL.SYNC_EN, CAD bits [51:16] (R54). -/
def CAD_CTRL_SYNC_EN : Fld := ⟨0x10, 16, 36, .rw, .freewheel, 0x0, 1, 0x0, 1, none, fun _ => 0⟩
/-- CAD_SYNC_INTERVAL.CT, CAD bits [31:0] (R54). -/
def CAD_SYNC_INTERVAL_CT : Fld := ⟨0x18, 0, 32, .rw, .freewheel, 0x0, 1, 0x0, 1, none, fun _ => 131072⟩
/-- CAD_SYNC_INTERVAL.ETYPE, CAD bits [47:32] (R54). -/
def CAD_SYNC_INTERVAL_ETYPE : Fld := ⟨0x18, 32, 16, .rw, .freewheel, 0x0, 1, 0x0, 1, none, fun _ => 34997⟩
/-- CAD_STEP_THRESH.CT, CAD bits [31:0] (R54). -/
def CAD_STEP_THRESH_CT : Fld := ⟨0x20, 0, 32, .rw, .freewheel, 0x0, 1, 0x0, 1, none, fun _ => 1000⟩
/-- CAD_MIN_LEAD.CT, CAD bits [63:32] (R54). -/
def CAD_MIN_LEAD_CT : Fld := ⟨0x20, 32, 32, .rw, .freewheel, 0x0, 1, 0x0, 1, none, fun _ => 2000⟩
/-- CAD_HOLD_ERR.PS, CAD bits [31:0] (R54). -/
def CAD_HOLD_ERR_PS : Fld := ⟨0x28, 0, 32, .rw, .freewheel, 0x0, 1, 0x0, 1, none, fun _ => 12500⟩
/-- CAD_UPSTREAM_CFG.CAND, CAD bits [31:0] (R54). -/
def CAD_UPSTREAM_CFG_CAND : Fld := ⟨0x30, 0, 32, .rw, .freewheel, 0x0, 1, 0x0, 1, none, fun _ => 4294967295⟩
/-- CAD_LOAD.COUNT, CAD bits [63:0] (R54). -/
def CAD_LOAD_COUNT : Fld := ⟨0x38, 0, 64, .rw, .freewheel, 0x0, 1, 0x0, 1, none, fun _ => 0⟩
/-- CAD_LOAD_GO.GO, CAD bits [0:0] (R54). -/
def CAD_LOAD_GO_GO : Fld := ⟨0x40, 0, 1, .wo, .freewheel, 0x0, 1, 0x0, 1, none, fun _ => 0⟩
/-- CAD_PPS_IN_STAMP.COUNT, CAD bits [63:0] (R54). -/
def CAD_PPS_IN_STAMP_COUNT : Fld := ⟨0x48, 0, 64, .ro, .freewheel, 0x0, 1, 0x0, 1, none, fun _ => 0⟩
/-- CAD_PPS_OUT_PERIOD.CT, CAD bits [63:0] (R54). -/
def CAD_PPS_OUT_PERIOD_CT : Fld := ⟨0x50, 0, 64, .rw, .freewheel, 0x0, 1, 0x0, 1, none, fun _ => 1000000000⟩
/-- CAD_SWAP_AT.COUNT, CAD bits [63:0] (R54). -/
def CAD_SWAP_AT_COUNT : Fld := ⟨0x58, 0, 64, .rw, .freewheel, 0x0, 1, 0x0, 1, none, fun _ => 0⟩
/-- CAD_SWAP_MASK.FWD, CAD bits [0:0] (R54). -/
def CAD_SWAP_MASK_FWD : Fld := ⟨0x60, 0, 1, .rw, .freewheel, 0x0, 1, 0x0, 1, none, fun _ => 0⟩
/-- CAD_SWAP_MASK.GATE, CAD bits [1:1] (R54). -/
def CAD_SWAP_MASK_GATE : Fld := ⟨0x60, 1, 1, .rw, .freewheel, 0x0, 1, 0x0, 1, none, fun _ => 0⟩
/-- CAD_SWAP_MASK.SHAPER, CAD bits [2:2] (R54). -/
def CAD_SWAP_MASK_SHAPER : Fld := ⟨0x60, 2, 1, .rw, .freewheel, 0x0, 1, 0x0, 1, none, fun _ => 0⟩
/-- CAD_SWAP_MASK.METER, CAD bits [3:3] (R54). -/
def CAD_SWAP_MASK_METER : Fld := ⟨0x60, 3, 1, .rw, .freewheel, 0x0, 1, 0x0, 1, none, fun _ => 0⟩
/-- CAD_SWAP_MASK.STEER, CAD bits [4:4] (R54). -/
def CAD_SWAP_MASK_STEER : Fld := ⟨0x60, 4, 1, .rw, .freewheel, 0x0, 1, 0x0, 1, none, fun _ => 0⟩
/-- CAD_SWAP_MASK.GROUPHASH, CAD bits [5:5] (R54). -/
def CAD_SWAP_MASK_GROUPHASH : Fld := ⟨0x60, 5, 1, .rw, .freewheel, 0x0, 1, 0x0, 1, none, fun _ => 0⟩
/-- CAD_SWAP_STATUS.ARMED, CAD bits [0:0] (R54). -/
def CAD_SWAP_STATUS_ARMED : Fld := ⟨0x68, 0, 1, .ro, .freewheel, 0x0, 1, 0x0, 1, none, fun _ => 0⟩
/-- CAD_SWAP_STATUS.DONE, CAD bits [1:1] (R54). -/
def CAD_SWAP_STATUS_DONE : Fld := ⟨0x68, 1, 1, .w1c, .freewheel, 0x0, 1, 0x0, 1, none, fun _ => 0⟩
/-- CAD_SWAP_STATUS.LATE, CAD bits [2:2] (R54). -/
def CAD_SWAP_STATUS_LATE : Fld := ⟨0x68, 2, 1, .w1c, .freewheel, 0x0, 1, 0x0, 1, none, fun _ => 0⟩
/-- CAD_SWAP_STATUS.CANCELLED, CAD bits [3:3] (R54). -/
def CAD_SWAP_STATUS_CANCELLED : Fld := ⟨0x68, 3, 1, .w1c, .freewheel, 0x0, 1, 0x0, 1, none, fun _ => 0⟩
/-- CAD_EVT_STATUS.STATE_CHANGE, CAD bits [0:0] (R54). -/
def CAD_EVT_STATUS_STATE_CHANGE : Fld := ⟨0x70, 0, 1, .w1c, .freewheel, 0x0, 1, 0x0, 1, none, fun _ => 0⟩
/-- CAD_EVT_STATUS.UPSTREAM_LOST, CAD bits [1:1] (R54). -/
def CAD_EVT_STATUS_UPSTREAM_LOST : Fld := ⟨0x70, 1, 1, .w1c, .freewheel, 0x0, 1, 0x0, 1, none, fun _ => 0⟩
/-- CAD_EVT_STATUS.FAULT, CAD bits [2:2] (R54). -/
def CAD_EVT_STATUS_FAULT : Fld := ⟨0x70, 2, 1, .w1c, .freewheel, 0x0, 1, 0x0, 1, none, fun _ => 0⟩
/-- CAD_EVT_STATUS.STEP_TAKEN, CAD bits [3:3] (R54). -/
def CAD_EVT_STATUS_STEP_TAKEN : Fld := ⟨0x70, 3, 1, .w1c, .freewheel, 0x0, 1, 0x0, 1, none, fun _ => 0⟩
/-- CAD_EVT_STATUS.LATE_FIRE, CAD bits [4:4] (R54). -/
def CAD_EVT_STATUS_LATE_FIRE : Fld := ⟨0x70, 4, 1, .w1c, .freewheel, 0x0, 1, 0x0, 1, none, fun _ => 0⟩
/-- CAD_EVT_STATUS.SYNC_CRC_ERR, CAD bits [5:5] (R54). -/
def CAD_EVT_STATUS_SYNC_CRC_ERR : Fld := ⟨0x70, 5, 1, .w1c, .freewheel, 0x0, 1, 0x0, 1, none, fun _ => 0⟩
/-- CAD_LATE_COUNT.COUNT, CAD bits [63:0] (R54). -/
def CAD_LATE_COUNT_COUNT : Fld := ⟨0x78, 0, 64, .ro, .freewheel, 0x0, 1, 0x0, 1, none, fun _ => 0⟩
/-- CAD_TDC_SEL.PELOTON, CAD bits [11:0] (R54). -/
def CAD_TDC_SEL_PELOTON : Fld := ⟨0x80, 0, 12, .rw, .freewheel, 0x0, 1, 0x0, 1, none, fun _ => 0⟩
/-- CAD_TDC_VAL.COUNT, CAD bits [63:0] (R54). -/
def CAD_TDC_VAL_COUNT : Fld := ⟨0x88, 0, 64, .ro, .freewheel, 0x0, 1, 0x0, 1, some (Fld.keyOf 0x80 0), fun _ => 0⟩
/-- CAD_TDC_MODULE.COUNT, CAD bits [63:0] (R54). -/
def CAD_TDC_MODULE_COUNT : Fld := ⟨0x90, 0, 64, .ro, .freewheel, 0x0, 1, 0x0, 1, none, fun _ => 0⟩
/-- CAD_SYNC_DISCARD.CRC, CAD bits [31:0] (R54). -/
def CAD_SYNC_DISCARD_CRC : Fld := ⟨0x98, 0, 32, .ro, .freewheel, 0x0, 1, 0x0, 1, none, fun _ => 0⟩
/-- CAD_SYNC_DISCARD.SEQ, CAD bits [63:32] (R54). -/
def CAD_SYNC_DISCARD_SEQ : Fld := ⟨0x98, 32, 32, .ro, .freewheel, 0x0, 1, 0x0, 1, none, fun _ => 0⟩
/-- CAD_PORT_ASYM[n].PS, CAD bits [31:0] (R54). -/
def CAD_PORT_ASYM_PS : Fld := ⟨0xA0, 0, 32, .rw, .freewheel, 0x8, 36, 0x0, 1, none, fun _ => 0⟩

/-- The fields of the CAD_ block. -/
def blockCAD : List Fld :=
  [CAD_COUNT_COUNT, CAD_STATUS_STATE, CAD_STATUS_ROOT, CAD_STATUS_PPS_VALID, CAD_STATUS_PTP_VALID, CAD_STATUS_HOP_EQ, CAD_STATUS_UPSTREAM, CAD_STATUS_EST_ERR, CAD_STATUS_ROOT_ID, CAD_CTRL_ENABLE, CAD_CTRL_ROOT_CAPABLE, CAD_CTRL_REF_SRC] ++
  [CAD_CTRL_PPS_OUT_EN, CAD_CTRL_PRIO, CAD_CTRL_SYNC_EN, CAD_SYNC_INTERVAL_CT, CAD_SYNC_INTERVAL_ETYPE, CAD_STEP_THRESH_CT, CAD_MIN_LEAD_CT, CAD_HOLD_ERR_PS, CAD_UPSTREAM_CFG_CAND, CAD_LOAD_COUNT, CAD_LOAD_GO_GO, CAD_PPS_IN_STAMP_COUNT] ++
  [CAD_PPS_OUT_PERIOD_CT, CAD_SWAP_AT_COUNT, CAD_SWAP_MASK_FWD, CAD_SWAP_MASK_GATE, CAD_SWAP_MASK_SHAPER, CAD_SWAP_MASK_METER, CAD_SWAP_MASK_STEER, CAD_SWAP_MASK_GROUPHASH, CAD_SWAP_STATUS_ARMED, CAD_SWAP_STATUS_DONE, CAD_SWAP_STATUS_LATE, CAD_SWAP_STATUS_CANCELLED] ++
  [CAD_EVT_STATUS_STATE_CHANGE, CAD_EVT_STATUS_UPSTREAM_LOST, CAD_EVT_STATUS_FAULT, CAD_EVT_STATUS_STEP_TAKEN, CAD_EVT_STATUS_LATE_FIRE, CAD_EVT_STATUS_SYNC_CRC_ERR, CAD_LATE_COUNT_COUNT, CAD_TDC_SEL_PELOTON, CAD_TDC_VAL_COUNT, CAD_TDC_MODULE_COUNT, CAD_SYNC_DISCARD_CRC, CAD_SYNC_DISCARD_SEQ] ++
  [CAD_PORT_ASYM_PS]

/-- XLT_CTRL.ENABLE, XLT bits [0:0] (R105). -/
def XLT_CTRL_ENABLE : Fld := ⟨0x100000, 0, 1, .rw, .main, 0x0, 1, 0x0, 1, none, fun _ => 0⟩
/-- XLT_CTRL.WALK_CACHE_EN, XLT bits [1:1] (R105). -/
def XLT_CTRL_WALK_CACHE_EN : Fld := ⟨0x100000, 1, 1, .rw, .main, 0x0, 1, 0x0, 1, none, fun _ => 1⟩
/-- XLT_CTRL.AD_UPDATE, XLT bits [2:2] (R105). -/
def XLT_CTRL_AD_UPDATE : Fld := ⟨0x100000, 2, 1, .rw, .main, 0x0, 1, 0x0, 1, none, fun _ => 1⟩
/-- XLT_FAULT_CFG.STALL_NS, XLT bits [12:0] (R105). -/
def XLT_FAULT_CFG_STALL_NS : Fld := ⟨0x100008, 0, 13, .rw, .main, 0x0, 1, 0x0, 1, none, fun _ => 4000⟩
/-- XLT_FAULT_CFG.BACKOFF_US, XLT bits [25:16] (R105). -/
def XLT_FAULT_CFG_BACKOFF_US : Fld := ⟨0x100008, 16, 10, .rw, .main, 0x0, 1, 0x0, 1, none, fun _ => 16⟩
/-- XLT_FAULT_CFG.PAGE_TIMEOUT_MS, XLT bits [47:32] (R105). -/
def XLT_FAULT_CFG_PAGE_TIMEOUT_MS : Fld := ⟨0x100008, 32, 16, .rw, .main, 0x0, 1, 0x0, 1, none, fun _ => 100⟩
/-- XLT_FAULT_CFG.RETRY_MAX, XLT bits [51:48] (R105). -/
def XLT_FAULT_CFG_RETRY_MAX : Fld := ⟨0x100008, 48, 4, .rw, .main, 0x0, 1, 0x0, 1, none, fun _ => 8⟩
/-- XLT_WALKER.IN_SERVICE, XLT bits [31:0] (R105). -/
def XLT_WALKER_IN_SERVICE : Fld := ⟨0x100010, 0, 32, .ro, .main, 0x0, 1, 0x0, 1, none, fun _ => 268435455⟩
/-- XLT_WALKER.FENCED, XLT bits [63:32] (R105). -/
def XLT_WALKER_FENCED : Fld := ⟨0x100010, 32, 32, .ro, .main, 0x0, 1, 0x0, 1, none, fun _ => 0⟩
/-- XLT_CTX_SEL.INDEX, XLT bits [13:0] (R105). -/
def XLT_CTX_SEL_INDEX : Fld := ⟨0x100018, 0, 14, .rw, .main, 0x0, 1, 0x0, 1, none, fun _ => 0⟩
/-- XLT_CTX_DESC0.VALID, XLT bits [0:0] (R105). -/
def XLT_CTX_DESC0_VALID : Fld := ⟨0x100020, 0, 1, .rw, .main, 0x0, 1, 0x0, 1, some (Fld.keyOf 0x100018 0), fun _ => 0⟩
/-- XLT_CTX_DESC0.ENDPOINT, XLT bits [3:1] (R105). -/
def XLT_CTX_DESC0_ENDPOINT : Fld := ⟨0x100020, 1, 3, .rw, .main, 0x0, 1, 0x0, 1, some (Fld.keyOf 0x100018 0), fun _ => 0⟩
/-- XLT_CTX_DESC0.ROOT_PFN, XLT bits [55:12] (R105). -/
def XLT_CTX_DESC0_ROOT_PFN : Fld := ⟨0x100020, 12, 44, .rw, .main, 0x0, 1, 0x0, 1, some (Fld.keyOf 0x100018 0), fun _ => 0⟩
/-- XLT_CTX_DESC1.TENANT, XLT bits [9:0] (R105). -/
def XLT_CTX_DESC1_TENANT : Fld := ⟨0x100028, 0, 10, .rw, .main, 0x0, 1, 0x0, 1, some (Fld.keyOf 0x100018 0), fun _ => 0⟩
/-- XLT_CTX_DESC1.CONTEXT, XLT bits [31:16] (R105). -/
def XLT_CTX_DESC1_CONTEXT : Fld := ⟨0x100028, 16, 16, .rw, .main, 0x0, 1, 0x0, 1, some (Fld.keyOf 0x100018 0), fun _ => 0⟩
/-- XLT_FQ_SEL.TENANT, XLT bits [9:0] (R105). -/
def XLT_FQ_SEL_TENANT : Fld := ⟨0x100030, 0, 10, .rw, .main, 0x0, 1, 0x0, 1, none, fun _ => 0⟩
/-- XLT_FQ_STATUS.OPEN, XLT bits [8:0] (R105). -/
def XLT_FQ_STATUS_OPEN : Fld := ⟨0x100038, 0, 9, .ro, .main, 0x0, 1, 0x0, 1, some (Fld.keyOf 0x100030 0), fun _ => 0⟩
/-- XLT_FQ_STATUS.OVERFLOW, XLT bits [16:16] (R105). -/
def XLT_FQ_STATUS_OVERFLOW : Fld := ⟨0x100038, 16, 1, .w1c, .main, 0x0, 1, 0x0, 1, some (Fld.keyOf 0x100030 0), fun _ => 0⟩
/-- XLT_FQ_STATUS.OVERFLOW_COUNT, XLT bits [63:32] (R105). -/
def XLT_FQ_STATUS_OVERFLOW_COUNT : Fld := ⟨0x100038, 32, 32, .ro, .main, 0x0, 1, 0x0, 1, some (Fld.keyOf 0x100030 0), fun _ => 0⟩
/-- XLT_VIOL_LOG0.TENANT, XLT bits [9:0] (R105). -/
def XLT_VIOL_LOG0_TENANT : Fld := ⟨0x100040, 0, 10, .ro, .main, 0x0, 1, 0x0, 1, none, fun _ => 0⟩
/-- XLT_VIOL_LOG0.CONTEXT, XLT bits [31:16] (R105). -/
def XLT_VIOL_LOG0_CONTEXT : Fld := ⟨0x100040, 16, 16, .ro, .main, 0x0, 1, 0x0, 1, none, fun _ => 0⟩
/-- XLT_VIOL_LOG0.KIND, XLT bits [35:32] (R105). -/
def XLT_VIOL_LOG0_KIND : Fld := ⟨0x100040, 32, 4, .ro, .main, 0x0, 1, 0x0, 1, none, fun _ => 0⟩
/-- XLT_VIOL_LOG0.CLUSTER, XLT bits [39:36] (R105). -/
def XLT_VIOL_LOG0_CLUSTER : Fld := ⟨0x100040, 36, 4, .ro, .main, 0x0, 1, 0x0, 1, none, fun _ => 0⟩
/-- XLT_VIOL_LOG0.VALID, XLT bits [40:40] (R105). -/
def XLT_VIOL_LOG0_VALID : Fld := ⟨0x100040, 40, 1, .w1c, .main, 0x0, 1, 0x0, 1, none, fun _ => 0⟩
/-- XLT_VIOL_LOG1.ADDR, XLT bits [63:0] (R105). -/
def XLT_VIOL_LOG1_ADDR : Fld := ⟨0x100048, 0, 64, .ro, .main, 0x0, 1, 0x0, 1, none, fun _ => 0⟩
/-- XLT_VIOL_COUNT.COUNT, XLT bits [63:0] (R105). -/
def XLT_VIOL_COUNT_COUNT : Fld := ⟨0x100050, 0, 64, .ro, .main, 0x0, 1, 0x0, 1, none, fun _ => 0⟩
/-- XLT_HIT_COUNT.COUNT, XLT bits [63:0] (R105). -/
def XLT_HIT_COUNT_COUNT : Fld := ⟨0x100058, 0, 64, .ro, .main, 0x0, 1, 0x0, 1, none, fun _ => 0⟩
/-- XLT_MISS_COUNT.COUNT, XLT bits [63:0] (R105). -/
def XLT_MISS_COUNT_COUNT : Fld := ⟨0x100060, 0, 64, .ro, .main, 0x0, 1, 0x0, 1, none, fun _ => 0⟩
/-- XLT_WALK_COUNT.COUNT, XLT bits [63:0] (R105). -/
def XLT_WALK_COUNT_COUNT : Fld := ⟨0x100068, 0, 64, .ro, .main, 0x0, 1, 0x0, 1, none, fun _ => 0⟩
/-- XLT_PNR_COUNT.COUNT, XLT bits [63:0] (R105). -/
def XLT_PNR_COUNT_COUNT : Fld := ⟨0x100070, 0, 64, .ro, .main, 0x0, 1, 0x0, 1, none, fun _ => 0⟩
/-- XLT_INV_SEQ_GAP.COUNT, XLT bits [31:0] (R105). -/
def XLT_INV_SEQ_GAP_COUNT : Fld := ⟨0x100078, 0, 32, .ro, .main, 0x0, 1, 0x0, 1, none, fun _ => 0⟩
/-- XLT_STRAY_RESP.COUNT, XLT bits [63:32] (R105). -/
def XLT_STRAY_RESP_COUNT : Fld := ⟨0x100078, 32, 32, .ro, .main, 0x0, 1, 0x0, 1, none, fun _ => 0⟩
/-- XLT_INV_SEQ[e].LAST_RCVD, XLT bits [31:0] (R105). -/
def XLT_INV_SEQ_LAST_RCVD : Fld := ⟨0x100100, 0, 32, .ro, .main, 0x8, 8, 0x0, 1, none, fun _ => 0⟩
/-- XLT_INV_SEQ[e].LAST_ACKED, XLT bits [63:32] (R105). -/
def XLT_INV_SEQ_LAST_ACKED : Fld := ⟨0x100100, 32, 32, .ro, .main, 0x8, 8, 0x0, 1, none, fun _ => 0⟩

/-- The fields of the XLT_ block. -/
def blockXLT : List Fld :=
  [XLT_CTRL_ENABLE, XLT_CTRL_WALK_CACHE_EN, XLT_CTRL_AD_UPDATE, XLT_FAULT_CFG_STALL_NS, XLT_FAULT_CFG_BACKOFF_US, XLT_FAULT_CFG_PAGE_TIMEOUT_MS, XLT_FAULT_CFG_RETRY_MAX, XLT_WALKER_IN_SERVICE, XLT_WALKER_FENCED, XLT_CTX_SEL_INDEX, XLT_CTX_DESC0_VALID, XLT_CTX_DESC0_ENDPOINT] ++
  [XLT_CTX_DESC0_ROOT_PFN, XLT_CTX_DESC1_TENANT, XLT_CTX_DESC1_CONTEXT, XLT_FQ_SEL_TENANT, XLT_FQ_STATUS_OPEN, XLT_FQ_STATUS_OVERFLOW, XLT_FQ_STATUS_OVERFLOW_COUNT, XLT_VIOL_LOG0_TENANT, XLT_VIOL_LOG0_CONTEXT, XLT_VIOL_LOG0_KIND, XLT_VIOL_LOG0_CLUSTER, XLT_VIOL_LOG0_VALID] ++
  [XLT_VIOL_LOG1_ADDR, XLT_VIOL_COUNT_COUNT, XLT_HIT_COUNT_COUNT, XLT_MISS_COUNT_COUNT, XLT_WALK_COUNT_COUNT, XLT_PNR_COUNT_COUNT, XLT_INV_SEQ_GAP_COUNT, XLT_STRAY_RESP_COUNT, XLT_INV_SEQ_LAST_RCVD, XLT_INV_SEQ_LAST_ACKED]

/-- QP_CTRL.ENABLE, QP bits [0:0] (R132). -/
def QP_CTRL_ENABLE : Fld := ⟨0x200000, 0, 1, .rw, .main, 0x0, 1, 0x0, 1, none, fun _ => 0⟩
/-- QP_CTRL.EARLY_DB_EVENT, QP bits [1:1] (R132). -/
def QP_CTRL_EARLY_DB_EVENT : Fld := ⟨0x200000, 1, 1, .rw, .main, 0x0, 1, 0x0, 1, none, fun _ => 0⟩
/-- QP_SEL.INDEX, QP bits [13:0] (R132). -/
def QP_SEL_INDEX : Fld := ⟨0x200008, 0, 14, .rw, .main, 0x0, 1, 0x0, 1, none, fun _ => 0⟩
/-- QP_DESC0.VALID, QP bits [0:0] (R132). -/
def QP_DESC0_VALID : Fld := ⟨0x200010, 0, 1, .rw, .main, 0x0, 1, 0x0, 1, some (Fld.keyOf 0x200008 0), fun _ => 0⟩
/-- QP_DESC0.LEGACY, QP bits [1:1] (R132). -/
def QP_DESC0_LEGACY : Fld := ⟨0x200010, 1, 1, .rw, .main, 0x0, 1, 0x0, 1, some (Fld.keyOf 0x200008 0), fun _ => 0⟩
/-- QP_DESC0.ATTACH, QP bits [4:2] (R132). -/
def QP_DESC0_ATTACH : Fld := ⟨0x200010, 2, 3, .rw, .main, 0x0, 1, 0x0, 1, some (Fld.keyOf 0x200008 0), fun _ => 0⟩
/-- QP_DESC0.LOG2_SIZE, QP bits [9:5] (R132). -/
def QP_DESC0_LOG2_SIZE : Fld := ⟨0x200010, 5, 5, .rw, .main, 0x0, 1, 0x0, 1, some (Fld.keyOf 0x200008 0), fun _ => 0⟩
/-- QP_DESC0.TENANT, QP bits [25:16] (R132). -/
def QP_DESC0_TENANT : Fld := ⟨0x200010, 16, 10, .rw, .main, 0x0, 1, 0x0, 1, some (Fld.keyOf 0x200008 0), fun _ => 0⟩
/-- QP_DESC0.CONTEXT, QP bits [47:32] (R132). -/
def QP_DESC0_CONTEXT : Fld := ⟨0x200010, 32, 16, .rw, .main, 0x0, 1, 0x0, 1, some (Fld.keyOf 0x200008 0), fun _ => 0⟩
/-- QP_DESC0.CQ, QP bits [59:48] (R132). -/
def QP_DESC0_CQ : Fld := ⟨0x200010, 48, 12, .rw, .main, 0x0, 1, 0x0, 1, some (Fld.keyOf 0x200008 0), fun _ => 0⟩
/-- QP_DESC0.TC, QP bits [63:60] (R132). -/
def QP_DESC0_TC : Fld := ⟨0x200010, 60, 4, .rw, .main, 0x0, 1, 0x0, 1, some (Fld.keyOf 0x200008 0), fun _ => 0⟩
/-- QP_DESC1.SQ_ADDR, QP bits [56:12] (R132). -/
def QP_DESC1_SQ_ADDR : Fld := ⟨0x200018, 12, 45, .rw, .main, 0x0, 1, 0x0, 1, some (Fld.keyOf 0x200008 0), fun _ => 0⟩
/-- QP_DESC2.INDEX_ADDR, QP bits [56:6] (R132). -/
def QP_DESC2_INDEX_ADDR : Fld := ⟨0x200020, 6, 51, .rw, .main, 0x0, 1, 0x0, 1, some (Fld.keyOf 0x200008 0), fun _ => 0⟩
/-- QP_DESC3.MAX_OUTSTANDING, QP bits [10:0] (R132). -/
def QP_DESC3_MAX_OUTSTANDING : Fld := ⟨0x200028, 0, 11, .rw, .main, 0x0, 1, 0x0, 1, some (Fld.keyOf 0x200008 0), fun _ => 1024⟩
/-- QP_DESC3.CLUSTER, QP bits [19:16] (R132). -/
def QP_DESC3_CLUSTER : Fld := ⟨0x200028, 16, 4, .ro, .main, 0x0, 1, 0x0, 1, some (Fld.keyOf 0x200008 0), fun _ => 0⟩
/-- QP_DESC3.SCHED_STATE, QP bits [26:24] (R132). -/
def QP_DESC3_SCHED_STATE : Fld := ⟨0x200028, 24, 3, .ro, .main, 0x0, 1, 0x0, 1, some (Fld.keyOf 0x200008 0), fun _ => 0⟩
/-- QP_HEAD.HEAD, QP bits [31:0] (R132). -/
def QP_HEAD_HEAD : Fld := ⟨0x200030, 0, 32, .ro, .main, 0x0, 1, 0x0, 1, some (Fld.keyOf 0x200008 0), fun _ => 0⟩
/-- QP_HEAD.TAIL_SEEN, QP bits [63:32] (R132). -/
def QP_HEAD_TAIL_SEEN : Fld := ⟨0x200030, 32, 32, .ro, .main, 0x0, 1, 0x0, 1, some (Fld.keyOf 0x200008 0), fun _ => 0⟩
/-- QP_OUT.COUNT, QP bits [10:0] (R132). -/
def QP_OUT_COUNT : Fld := ⟨0x200038, 0, 11, .ro, .main, 0x0, 1, 0x0, 1, some (Fld.keyOf 0x200008 0), fun _ => 0⟩
/-- QP_EARLY_DB_COUNT.COUNT, QP bits [63:32] (R132). -/
def QP_EARLY_DB_COUNT_COUNT : Fld := ⟨0x200038, 32, 32, .ro, .main, 0x0, 1, 0x0, 1, some (Fld.keyOf 0x200008 0), fun _ => 0⟩
/-- QP_MODULE_OUT.COUNT, QP bits [15:0] (R132). -/
def QP_MODULE_OUT_COUNT : Fld := ⟨0x200040, 0, 16, .ro, .main, 0x0, 1, 0x0, 1, none, fun _ => 0⟩
/-- QP_EARLY_DB_TOTAL.COUNT, QP bits [63:0] (R132). -/
def QP_EARLY_DB_TOTAL_COUNT : Fld := ⟨0x200048, 0, 64, .ro, .main, 0x0, 1, 0x0, 1, none, fun _ => 0⟩
/-- QP_SPEC_HIT.COUNT, QP bits [63:0] (R132). -/
def QP_SPEC_HIT_COUNT : Fld := ⟨0x200050, 0, 64, .ro, .main, 0x0, 1, 0x0, 1, none, fun _ => 0⟩
/-- QP_DB_DISCARD.COUNT, QP bits [63:0] (R132). -/
def QP_DB_DISCARD_COUNT : Fld := ⟨0x200058, 0, 64, .ro, .main, 0x0, 1, 0x0, 1, none, fun _ => 0⟩
/-- QP_INDEX_ERR.COUNT, QP bits [63:0] (R132). -/
def QP_INDEX_ERR_COUNT : Fld := ⟨0x200060, 0, 64, .ro, .main, 0x0, 1, 0x0, 1, none, fun _ => 0⟩
/-- QP_BAD_ENTRY.COUNT, QP bits [63:0] (R132). -/
def QP_BAD_ENTRY_COUNT : Fld := ⟨0x200068, 0, 64, .ro, .main, 0x0, 1, 0x0, 1, none, fun _ => 0⟩

/-- The fields of the QP_ block. -/
def blockQP : List Fld :=
  [QP_CTRL_ENABLE, QP_CTRL_EARLY_DB_EVENT, QP_SEL_INDEX, QP_DESC0_VALID, QP_DESC0_LEGACY, QP_DESC0_ATTACH, QP_DESC0_LOG2_SIZE, QP_DESC0_TENANT, QP_DESC0_CONTEXT, QP_DESC0_CQ, QP_DESC0_TC, QP_DESC1_SQ_ADDR] ++
  [QP_DESC2_INDEX_ADDR, QP_DESC3_MAX_OUTSTANDING, QP_DESC3_CLUSTER, QP_DESC3_SCHED_STATE, QP_HEAD_HEAD, QP_HEAD_TAIL_SEEN, QP_OUT_COUNT, QP_EARLY_DB_COUNT_COUNT, QP_MODULE_OUT_COUNT, QP_EARLY_DB_TOTAL_COUNT, QP_SPEC_HIT_COUNT, QP_DB_DISCARD_COUNT] ++
  [QP_INDEX_ERR_COUNT, QP_BAD_ENTRY_COUNT]

/-- CQ_SEL.INDEX, CQ bits [11:0] (R133). -/
def CQ_SEL_INDEX : Fld := ⟨0x300000, 0, 12, .rw, .main, 0x0, 1, 0x0, 1, none, fun _ => 0⟩
/-- CQ_DESC0.VALID, CQ bits [0:0] (R133). -/
def CQ_DESC0_VALID : Fld := ⟨0x300008, 0, 1, .rw, .main, 0x0, 1, 0x0, 1, some (Fld.keyOf 0x300000 0), fun _ => 0⟩
/-- CQ_DESC0.RELAXED, CQ bits [1:1] (R133). -/
def CQ_DESC0_RELAXED : Fld := ⟨0x300008, 1, 1, .rw, .main, 0x0, 1, 0x0, 1, some (Fld.keyOf 0x300000 0), fun _ => 0⟩
/-- CQ_DESC0.ARMED, CQ bits [2:2] (R133). -/
def CQ_DESC0_ARMED : Fld := ⟨0x300008, 2, 1, .ro, .main, 0x0, 1, 0x0, 1, some (Fld.keyOf 0x300000 0), fun _ => 0⟩
/-- CQ_DESC0.ATTACH, CQ bits [5:3] (R133). -/
def CQ_DESC0_ATTACH : Fld := ⟨0x300008, 3, 3, .rw, .main, 0x0, 1, 0x0, 1, some (Fld.keyOf 0x300000 0), fun _ => 0⟩
/-- CQ_DESC0.LOG2_SIZE, CQ bits [10:6] (R133). -/
def CQ_DESC0_LOG2_SIZE : Fld := ⟨0x300008, 6, 5, .rw, .main, 0x0, 1, 0x0, 1, some (Fld.keyOf 0x300000 0), fun _ => 0⟩
/-- CQ_DESC0.BROKEN, CQ bits [11:11] (R133). -/
def CQ_DESC0_BROKEN : Fld := ⟨0x300008, 11, 1, .ro, .main, 0x0, 1, 0x0, 1, some (Fld.keyOf 0x300000 0), fun _ => 0⟩
/-- CQ_DESC0.TENANT, CQ bits [25:16] (R133). -/
def CQ_DESC0_TENANT : Fld := ⟨0x300008, 16, 10, .rw, .main, 0x0, 1, 0x0, 1, some (Fld.keyOf 0x300000 0), fun _ => 0⟩
/-- CQ_DESC0.CONTEXT, CQ bits [47:32] (R133). -/
def CQ_DESC0_CONTEXT : Fld := ⟨0x300008, 32, 16, .rw, .main, 0x0, 1, 0x0, 1, some (Fld.keyOf 0x300000 0), fun _ => 0⟩
/-- CQ_DESC1.RING_ADDR, CQ bits [56:12] (R133). -/
def CQ_DESC1_RING_ADDR : Fld := ⟨0x300010, 12, 45, .rw, .main, 0x0, 1, 0x0, 1, some (Fld.keyOf 0x300000 0), fun _ => 0⟩
/-- CQ_DESC2.INDEX_ADDR, CQ bits [56:6] (R133). -/
def CQ_DESC2_INDEX_ADDR : Fld := ⟨0x300018, 6, 51, .rw, .main, 0x0, 1, 0x0, 1, some (Fld.keyOf 0x300000 0), fun _ => 0⟩
/-- CQ_DESC3.NOTIFY_ADDR, CQ bits [56:3] (R133). -/
def CQ_DESC3_NOTIFY_ADDR : Fld := ⟨0x300020, 3, 54, .rw, .main, 0x0, 1, 0x0, 1, some (Fld.keyOf 0x300000 0), fun _ => 0⟩
/-- CQ_POS.WRITTEN, CQ bits [31:0] (R133). -/
def CQ_POS_WRITTEN : Fld := ⟨0x300028, 0, 32, .ro, .main, 0x0, 1, 0x0, 1, some (Fld.keyOf 0x300000 0), fun _ => 0⟩
/-- CQ_POS.HEAD_SEEN, CQ bits [63:32] (R133). -/
def CQ_POS_HEAD_SEEN : Fld := ⟨0x300028, 32, 32, .ro, .main, 0x0, 1, 0x0, 1, some (Fld.keyOf 0x300000 0), fun _ => 0⟩
/-- CQ_PEND.PENDING, CQ bits [15:0] (R133). -/
def CQ_PEND_PENDING : Fld := ⟨0x300030, 0, 16, .ro, .main, 0x0, 1, 0x0, 1, some (Fld.keyOf 0x300000 0), fun _ => 0⟩
/-- CQ_PEND.FULL, CQ bits [16:16] (R133). -/
def CQ_PEND_FULL : Fld := ⟨0x300030, 16, 1, .ro, .main, 0x0, 1, 0x0, 1, some (Fld.keyOf 0x300000 0), fun _ => 0⟩
/-- CQ_PEND.FULL_EVENTS, CQ bits [63:32] (R133). -/
def CQ_PEND_FULL_EVENTS : Fld := ⟨0x300030, 32, 32, .ro, .main, 0x0, 1, 0x0, 1, some (Fld.keyOf 0x300000 0), fun _ => 0⟩
/-- CQ_FLUSH_COUNT.COUNT, CQ bits [63:0] (R133). -/
def CQ_FLUSH_COUNT_COUNT : Fld := ⟨0x300038, 0, 64, .ro, .main, 0x0, 1, 0x0, 1, some (Fld.keyOf 0x300000 0), fun _ => 0⟩

/-- The fields of the CQ_ block. -/
def blockCQ : List Fld :=
  [CQ_SEL_INDEX, CQ_DESC0_VALID, CQ_DESC0_RELAXED, CQ_DESC0_ARMED, CQ_DESC0_ATTACH, CQ_DESC0_LOG2_SIZE, CQ_DESC0_BROKEN, CQ_DESC0_TENANT, CQ_DESC0_CONTEXT, CQ_DESC1_RING_ADDR, CQ_DESC2_INDEX_ADDR, CQ_DESC3_NOTIFY_ADDR] ++
  [CQ_POS_WRITTEN, CQ_POS_HEAD_SEEN, CQ_PEND_PENDING, CQ_PEND_FULL, CQ_PEND_FULL_EVENTS, CQ_FLUSH_COUNT_COUNT]

/-- ADM_SEL.TENANT, ADM bits [9:0] (R134). -/
def ADM_SEL_TENANT : Fld := ⟨0x400000, 0, 10, .rw, .main, 0x0, 1, 0x0, 1, none, fun _ => 0⟩
/-- ADM_DESC0.BOUND, ADM bits [0:0] (R134). -/
def ADM_DESC0_BOUND : Fld := ⟨0x400008, 0, 1, .rw, .main, 0x0, 1, 0x0, 1, some (Fld.keyOf 0x400000 0), fun _ => 0⟩
/-- ADM_DESC0.ATTACH, ADM bits [3:1] (R134). -/
def ADM_DESC0_ATTACH : Fld := ⟨0x400008, 1, 3, .rw, .main, 0x0, 1, 0x0, 1, some (Fld.keyOf 0x400000 0), fun _ => 0⟩
/-- ADM_DESC0.SQ_LOG2, ADM bits [7:4] (R134). -/
def ADM_DESC0_SQ_LOG2 : Fld := ⟨0x400008, 4, 4, .rw, .main, 0x0, 1, 0x0, 1, some (Fld.keyOf 0x400000 0), fun _ => 0⟩
/-- ADM_DESC0.CQ_LOG2, ADM bits [11:8] (R134). -/
def ADM_DESC0_CQ_LOG2 : Fld := ⟨0x400008, 8, 4, .rw, .main, 0x0, 1, 0x0, 1, some (Fld.keyOf 0x400000 0), fun _ => 0⟩
/-- ADM_DESC0.CONTEXT, ADM bits [31:16] (R134). -/
def ADM_DESC0_CONTEXT : Fld := ⟨0x400008, 16, 16, .rw, .main, 0x0, 1, 0x0, 1, some (Fld.keyOf 0x400000 0), fun _ => 0⟩
/-- ADM_SQ_ADDR.ADDR, ADM bits [56:12] (R134). -/
def ADM_SQ_ADDR_ADDR : Fld := ⟨0x400010, 12, 45, .rw, .main, 0x0, 1, 0x0, 1, some (Fld.keyOf 0x400000 0), fun _ => 0⟩
/-- ADM_CQ_ADDR.ADDR, ADM bits [56:12] (R134). -/
def ADM_CQ_ADDR_ADDR : Fld := ⟨0x400018, 12, 45, .rw, .main, 0x0, 1, 0x0, 1, some (Fld.keyOf 0x400000 0), fun _ => 0⟩
/-- ADM_INDEX_ADDR.ADDR, ADM bits [56:6] (R134). -/
def ADM_INDEX_ADDR_ADDR : Fld := ⟨0x400020, 6, 51, .rw, .main, 0x0, 1, 0x0, 1, some (Fld.keyOf 0x400000 0), fun _ => 0⟩
/-- ADM_STATUS.CMDS_DONE, ADM bits [31:0] (R134). -/
def ADM_STATUS_CMDS_DONE : Fld := ⟨0x400028, 0, 32, .ro, .main, 0x0, 1, 0x0, 1, some (Fld.keyOf 0x400000 0), fun _ => 0⟩
/-- ADM_STATUS.EVENTS_HELD, ADM bits [40:32] (R134). -/
def ADM_STATUS_EVENTS_HELD : Fld := ⟨0x400028, 32, 9, .ro, .main, 0x0, 1, 0x0, 1, some (Fld.keyOf 0x400000 0), fun _ => 0⟩
/-- ADM_EVENT_LOST_COUNT.COUNT, ADM bits [63:0] (R134). -/
def ADM_EVENT_LOST_COUNT_COUNT : Fld := ⟨0x400030, 0, 64, .ro, .main, 0x0, 1, 0x0, 1, some (Fld.keyOf 0x400000 0), fun _ => 0⟩
/-- ADM_WIN_DENIED.COUNT, ADM bits [63:0] (R134). -/
def ADM_WIN_DENIED_COUNT : Fld := ⟨0x400038, 0, 64, .ro, .main, 0x0, 1, 0x0, 1, none, fun _ => 0⟩
/-- ADM_WIN_MALFORMED.COUNT, ADM bits [63:0] (R134). -/
def ADM_WIN_MALFORMED_COUNT : Fld := ⟨0x400040, 0, 64, .ro, .main, 0x0, 1, 0x0, 1, none, fun _ => 0⟩

/-- The fields of the ADM_ block. -/
def blockADM : List Fld :=
  [ADM_SEL_TENANT, ADM_DESC0_BOUND, ADM_DESC0_ATTACH, ADM_DESC0_SQ_LOG2, ADM_DESC0_CQ_LOG2, ADM_DESC0_CONTEXT, ADM_SQ_ADDR_ADDR, ADM_CQ_ADDR_ADDR, ADM_INDEX_ADDR_ADDR, ADM_STATUS_CMDS_DONE, ADM_STATUS_EVENTS_HELD, ADM_EVENT_LOST_COUNT_COUNT] ++
  [ADM_WIN_DENIED_COUNT, ADM_WIN_MALFORMED_COUNT]

/-- TRN_CTRL.ENABLE, TRN bits [0:0] (R185). -/
def TRN_CTRL_ENABLE : Fld := ⟨0x500000, 0, 1, .rw, .main, 0x0, 1, 0x0, 1, none, fun _ => 0⟩
/-- TRN_CTRL.IPV4_EN, TRN bits [1:1] (R185). -/
def TRN_CTRL_IPV4_EN : Fld := ⟨0x500000, 1, 1, .rw, .main, 0x0, 1, 0x0, 1, none, fun _ => 0⟩
/-- TRN_CTRL.HOP_LIMIT, TRN bits [15:8] (R185). -/
def TRN_CTRL_HOP_LIMIT : Fld := ⟨0x500000, 8, 8, .rw, .main, 0x0, 1, 0x0, 1, none, fun _ => 64⟩
/-- TRN_UDP.DPORT, TRN bits [15:0] (R185). -/
def TRN_UDP_DPORT : Fld := ⟨0x500008, 0, 16, .rw, .main, 0x0, 1, 0x0, 1, none, fun _ => 17079⟩
/-- TRN_TIMERS0.RTO_MIN_US, TRN bits [15:0] (R185). -/
def TRN_TIMERS0_RTO_MIN_US : Fld := ⟨0x500010, 0, 16, .rw, .main, 0x0, 1, 0x0, 1, none, fun _ => 20⟩
/-- TRN_TIMERS0.RTO_MAX_MS, TRN bits [31:16] (R185). -/
def TRN_TIMERS0_RTO_MAX_MS : Fld := ⟨0x500010, 16, 16, .rw, .main, 0x0, 1, 0x0, 1, none, fun _ => 64⟩
/-- TRN_TIMERS0.REORDER_NS, TRN bits [47:32] (R185). -/
def TRN_TIMERS0_REORDER_NS : Fld := ⟨0x500010, 32, 16, .rw, .main, 0x0, 1, 0x0, 1, none, fun _ => 4000⟩
/-- TRN_TIMERS0.ACK_DELAY_NS, TRN bits [63:48] (R185). -/
def TRN_TIMERS0_ACK_DELAY_NS : Fld := ⟨0x500010, 48, 16, .rw, .main, 0x0, 1, 0x0, 1, none, fun _ => 1000⟩
/-- TRN_TIMERS1.MAX_PKT_LIFE_MS, TRN bits [7:0] (R185). -/
def TRN_TIMERS1_MAX_PKT_LIFE_MS : Fld := ⟨0x500018, 0, 8, .rw, .main, 0x0, 1, 0x0, 1, none, fun _ => 100⟩
/-- TRN_TIMERS1.ACK_COALESCE, TRN bits [15:8] (R185). -/
def TRN_TIMERS1_ACK_COALESCE : Fld := ⟨0x500018, 8, 8, .rw, .main, 0x0, 1, 0x0, 1, none, fun _ => 16⟩
/-- TRN_TIMERS1.NAK_BACKOFF_US, TRN bits [31:16] (R185). -/
def TRN_TIMERS1_NAK_BACKOFF_US : Fld := ⟨0x500018, 16, 16, .rw, .main, 0x0, 1, 0x0, 1, none, fun _ => 16⟩
/-- TRN_TIMERS1.AUTH_FAIL_MAX, TRN bits [35:32] (R185). -/
def TRN_TIMERS1_AUTH_FAIL_MAX : Fld := ⟨0x500018, 32, 4, .rw, .main, 0x0, 1, 0x0, 1, none, fun _ => 8⟩
/-- TRN_TIMERS1.RESEND_LIMIT_MS, TRN bits [63:48] (R185). -/
def TRN_TIMERS1_RESEND_LIMIT_MS : Fld := ⟨0x500018, 48, 16, .rw, .main, 0x0, 1, 0x0, 1, none, fun _ => 1000⟩
/-- TRN_MODULE.ID, TRN bits [15:0] (R185). -/
def TRN_MODULE_ID : Fld := ⟨0x500020, 0, 16, .rw, .main, 0x0, 1, 0x0, 1, none, fun _ => 0⟩
/-- TRN_IP_VALID.VALID, TRN bits [15:0] (R185). -/
def TRN_IP_VALID_VALID : Fld := ⟨0x500028, 0, 16, .rw, .main, 0x0, 1, 0x0, 1, none, fun _ => 0⟩
/-- TRN_IP_VALID.IS_V4, TRN bits [31:16] (R185). -/
def TRN_IP_VALID_IS_V4 : Fld := ⟨0x500028, 16, 16, .rw, .main, 0x0, 1, 0x0, 1, none, fun _ => 0⟩
/-- TRN_RESP_REC.IN_USE, TRN bits [16:0] (R185). -/
def TRN_RESP_REC_IN_USE : Fld := ⟨0x500040, 0, 17, .ro, .main, 0x0, 1, 0x0, 1, none, fun _ => 0⟩
/-- TRN_RESP_REC.BUSY_NAKS, TRN bits [63:32] (R185). -/
def TRN_RESP_REC_BUSY_NAKS : Fld := ⟨0x500040, 32, 32, .ro, .main, 0x0, 1, 0x0, 1, none, fun _ => 0⟩
/-- TRN_SPRAY_MAP[k].PORTS, TRN bits [63:0] (R185). -/
def TRN_SPRAY_MAP_PORTS : Fld := ⟨0x500100, 0, 64, .rw, .main, 0x8, 8, 0x0, 1, none, fun _ => 18446744073709551615⟩
/-- TRN_LOCAL_IP[i].LO, TRN bits [63:0] (R185). -/
def TRN_LOCAL_IP_LO : Fld := ⟨0x500200, 0, 64, .rw, .main, 0x10, 16, 0x0, 1, none, fun _ => 0⟩
/-- TRN_LOCAL_IP[i].HI, TRN bits [63:0] (R185). -/
def TRN_LOCAL_IP_HI : Fld := ⟨0x500208, 0, 64, .rw, .main, 0x10, 16, 0x0, 1, none, fun _ => 0⟩
/-- TRN_TC_MAP[c].DSCP, TRN bits [5:0] (R185). -/
def TRN_TC_MAP_DSCP : Fld := ⟨0x500300, 0, 6, .rw, .main, 0x8, 16, 0x0, 1, none, fun _ => 0⟩
/-- TRN_TC_MAP[c].PCP, TRN bits [10:8] (R185). -/
def TRN_TC_MAP_PCP : Fld := ⟨0x500300, 8, 3, .rw, .main, 0x8, 16, 0x0, 1, none, fun _ => 0⟩
/-- TRN_QP_SEL.INDEX, TRN bits [13:0] (R185). -/
def TRN_QP_SEL_INDEX : Fld := ⟨0x501000, 0, 14, .rw, .main, 0x0, 1, 0x0, 1, none, fun _ => 0⟩
/-- TRN_QP_T0.STATE, TRN bits [2:0] (R185). -/
def TRN_QP_T0_STATE : Fld := ⟨0x501008, 0, 3, .ro, .main, 0x0, 1, 0x0, 1, some (Fld.keyOf 0x501000 0), fun _ => 0⟩
/-- TRN_QP_T0.EPOCH, TRN bits [15:8] (R185). -/
def TRN_QP_T0_EPOCH : Fld := ⟨0x501008, 8, 8, .ro, .main, 0x0, 1, 0x0, 1, some (Fld.keyOf 0x501000 0), fun _ => 0⟩
/-- TRN_QP_T0.PEER_MODULE, TRN bits [31:16] (R185). -/
def TRN_QP_T0_PEER_MODULE : Fld := ⟨0x501008, 16, 16, .ro, .main, 0x0, 1, 0x0, 1, some (Fld.keyOf 0x501000 0), fun _ => 0⟩
/-- TRN_QP_T0.PEER_QP, TRN bits [45:32] (R185). -/
def TRN_QP_T0_PEER_QP : Fld := ⟨0x501008, 32, 14, .ro, .main, 0x0, 1, 0x0, 1, some (Fld.keyOf 0x501000 0), fun _ => 0⟩
/-- TRN_QP_T0.MTU, TRN bits [49:48] (R185). -/
def TRN_QP_T0_MTU : Fld := ⟨0x501008, 48, 2, .ro, .main, 0x0, 1, 0x0, 1, some (Fld.keyOf 0x501000 0), fun _ => 0⟩
/-- TRN_QP_T0.NUM_PATHS, TRN bits [56:50] (R185). -/
def TRN_QP_T0_NUM_PATHS : Fld := ⟨0x501008, 50, 7, .ro, .main, 0x0, 1, 0x0, 1, some (Fld.keyOf 0x501000 0), fun _ => 0⟩
/-- TRN_QP_T0.RETRY_MAX, TRN bits [60:57] (R185). -/
def TRN_QP_T0_RETRY_MAX : Fld := ⟨0x501008, 57, 4, .ro, .main, 0x0, 1, 0x0, 1, some (Fld.keyOf 0x501000 0), fun _ => 0⟩
/-- TRN_QP_T1.SND_NXT, TRN bits [31:0] (R185). -/
def TRN_QP_T1_SND_NXT : Fld := ⟨0x501010, 0, 32, .ro, .main, 0x0, 1, 0x0, 1, some (Fld.keyOf 0x501000 0), fun _ => 0⟩
/-- TRN_QP_T1.SND_UNA, TRN bits [63:32] (R185). -/
def TRN_QP_T1_SND_UNA : Fld := ⟨0x501010, 32, 32, .ro, .main, 0x0, 1, 0x0, 1, some (Fld.keyOf 0x501000 0), fun _ => 0⟩
/-- TRN_QP_T2.RCV_BASE, TRN bits [31:0] (R185). -/
def TRN_QP_T2_RCV_BASE : Fld := ⟨0x501018, 0, 32, .ro, .main, 0x0, 1, 0x0, 1, some (Fld.keyOf 0x501000 0), fun _ => 0⟩
/-- TRN_QP_T2.ACK_BASE, TRN bits [63:32] (R185). -/
def TRN_QP_T2_ACK_BASE : Fld := ⟨0x501018, 32, 32, .ro, .main, 0x0, 1, 0x0, 1, some (Fld.keyOf 0x501000 0), fun _ => 0⟩
/-- TRN_QP_T3.SRTT_NS, TRN bits [31:0] (R185). -/
def TRN_QP_T3_SRTT_NS : Fld := ⟨0x501020, 0, 32, .ro, .main, 0x0, 1, 0x0, 1, some (Fld.keyOf 0x501000 0), fun _ => 0⟩
/-- TRN_QP_T3.RTO_NS, TRN bits [63:32] (R185). -/
def TRN_QP_T3_RTO_NS : Fld := ⟨0x501020, 32, 32, .ro, .main, 0x0, 1, 0x0, 1, some (Fld.keyOf 0x501000 0), fun _ => 0⟩
/-- TRN_QP_T4.MSN_NEXT, TRN bits [31:0] (R185). -/
def TRN_QP_T4_MSN_NEXT : Fld := ⟨0x501028, 0, 32, .ro, .main, 0x0, 1, 0x0, 1, some (Fld.keyOf 0x501000 0), fun _ => 0⟩
/-- TRN_QP_T4.RECV_POSTED, TRN bits [63:32] (R185). -/
def TRN_QP_T4_RECV_POSTED : Fld := ⟨0x501028, 32, 32, .ro, .main, 0x0, 1, 0x0, 1, some (Fld.keyOf 0x501000 0), fun _ => 0⟩
/-- TRN_QP_T5.ERR_SYNDROME, TRN bits [7:0] (R185). -/
def TRN_QP_T5_ERR_SYNDROME : Fld := ⟨0x501030, 0, 8, .ro, .main, 0x0, 1, 0x0, 1, some (Fld.keyOf 0x501000 0), fun _ => 0⟩
/-- TRN_QP_T5.ERR_DETAIL, TRN bits [15:8] (R185). -/
def TRN_QP_T5_ERR_DETAIL : Fld := ⟨0x501030, 8, 8, .ro, .main, 0x0, 1, 0x0, 1, some (Fld.keyOf 0x501000 0), fun _ => 0⟩
/-- TRN_QP_RETX.COUNT, TRN bits [63:0] (R185). -/
def TRN_QP_RETX_COUNT : Fld := ⟨0x501038, 0, 64, .ro, .main, 0x0, 1, 0x0, 1, some (Fld.keyOf 0x501000 0), fun _ => 0⟩
/-- TRN_TX_PKTS.COUNT, TRN bits [63:0] (R185). -/
def TRN_TX_PKTS_COUNT : Fld := ⟨0x502000, 0, 64, .ro, .main, 0x0, 1, 0x0, 1, none, fun _ => 0⟩
/-- TRN_RX_PKTS.COUNT, TRN bits [63:0] (R185). -/
def TRN_RX_PKTS_COUNT : Fld := ⟨0x502008, 0, 64, .ro, .main, 0x0, 1, 0x0, 1, none, fun _ => 0⟩
/-- TRN_RETX_PKTS.COUNT, TRN bits [63:0] (R185). -/
def TRN_RETX_PKTS_COUNT : Fld := ⟨0x502010, 0, 64, .ro, .main, 0x0, 1, 0x0, 1, none, fun _ => 0⟩
/-- TRN_DUP_IN_WINDOW.COUNT, TRN bits [63:0] (R185). -/
def TRN_DUP_IN_WINDOW_COUNT : Fld := ⟨0x502018, 0, 64, .ro, .main, 0x0, 1, 0x0, 1, none, fun _ => 0⟩
/-- TRN_DUP_OLD.COUNT, TRN bits [63:0] (R185). -/
def TRN_DUP_OLD_COUNT : Fld := ⟨0x502020, 0, 64, .ro, .main, 0x0, 1, 0x0, 1, none, fun _ => 0⟩
/-- TRN_OUT_OF_WINDOW.COUNT, TRN bits [63:0] (R185). -/
def TRN_OUT_OF_WINDOW_COUNT : Fld := ⟨0x502028, 0, 64, .ro, .main, 0x0, 1, 0x0, 1, none, fun _ => 0⟩
/-- TRN_EPOCH_DISCARD.COUNT, TRN bits [63:0] (R185). -/
def TRN_EPOCH_DISCARD_COUNT : Fld := ⟨0x502030, 0, 64, .ro, .main, 0x0, 1, 0x0, 1, none, fun _ => 0⟩
/-- TRN_LIFE_DISCARD.COUNT, TRN bits [63:0] (R185). -/
def TRN_LIFE_DISCARD_COUNT : Fld := ⟨0x502038, 0, 64, .ro, .main, 0x0, 1, 0x0, 1, none, fun _ => 0⟩
/-- TRN_PEER_MISMATCH.COUNT, TRN bits [63:0] (R185). -/
def TRN_PEER_MISMATCH_COUNT : Fld := ⟨0x502040, 0, 64, .ro, .main, 0x0, 1, 0x0, 1, none, fun _ => 0⟩
/-- TRN_NO_QP_DISCARD.COUNT, TRN bits [63:0] (R185). -/
def TRN_NO_QP_DISCARD_COUNT : Fld := ⟨0x502048, 0, 64, .ro, .main, 0x0, 1, 0x0, 1, none, fun _ => 0⟩
/-- TRN_AUTH_DISCARD.COUNT, TRN bits [63:0] (R185). -/
def TRN_AUTH_DISCARD_COUNT : Fld := ⟨0x502050, 0, 64, .ro, .main, 0x0, 1, 0x0, 1, none, fun _ => 0⟩
/-- TRN_NAK_TX.COUNT, TRN bits [63:0] (R185). -/
def TRN_NAK_TX_COUNT : Fld := ⟨0x502058, 0, 64, .ro, .main, 0x0, 1, 0x0, 1, none, fun _ => 0⟩
/-- TRN_NAK_RX.COUNT, TRN bits [63:0] (R185). -/
def TRN_NAK_RX_COUNT : Fld := ⟨0x502060, 0, 64, .ro, .main, 0x0, 1, 0x0, 1, none, fun _ => 0⟩
/-- TRN_STALE_RESP.COUNT, TRN bits [63:0] (R185). -/
def TRN_STALE_RESP_COUNT : Fld := ⟨0x502068, 0, 64, .ro, .main, 0x0, 1, 0x0, 1, none, fun _ => 0⟩
/-- TRN_REGION_VIOL.COUNT, TRN bits [63:0] (R185). -/
def TRN_REGION_VIOL_COUNT : Fld := ⟨0x502070, 0, 64, .ro, .main, 0x0, 1, 0x0, 1, none, fun _ => 0⟩
/-- TRN_BAD_HDR.COUNT, TRN bits [63:0] (R185). -/
def TRN_BAD_HDR_COUNT : Fld := ⟨0x502078, 0, 64, .ro, .main, 0x0, 1, 0x0, 1, none, fun _ => 0⟩
/-- TRN_CE_RCVD.COUNT, TRN bits [63:0] (R185). -/
def TRN_CE_RCVD_COUNT : Fld := ⟨0x502080, 0, 64, .ro, .main, 0x0, 1, 0x0, 1, none, fun _ => 0⟩
/-- TRN_REG_SEL.INDEX, TRN bits [16:0] (R185). -/
def TRN_REG_SEL_INDEX : Fld := ⟨0x503000, 0, 17, .rw, .main, 0x0, 1, 0x0, 1, none, fun _ => 0⟩
/-- TRN_REG_D0.VALID, TRN bits [0:0] (R185). -/
def TRN_REG_D0_VALID : Fld := ⟨0x503008, 0, 1, .rw, .main, 0x0, 1, 0x0, 1, some (Fld.keyOf 0x503000 0), fun _ => 0⟩
/-- TRN_REG_D0.REVOKED, TRN bits [1:1] (R185). -/
def TRN_REG_D0_REVOKED : Fld := ⟨0x503008, 1, 1, .rw, .main, 0x0, 1, 0x0, 1, some (Fld.keyOf 0x503000 0), fun _ => 0⟩
/-- TRN_REG_D0.RIGHTS, TRN bits [6:2] (R185). -/
def TRN_REG_D0_RIGHTS : Fld := ⟨0x503008, 2, 5, .rw, .main, 0x0, 1, 0x0, 1, some (Fld.keyOf 0x503000 0), fun _ => 0⟩
/-- TRN_REG_D0.TENANT, TRN bits [17:8] (R185). -/
def TRN_REG_D0_TENANT : Fld := ⟨0x503008, 8, 10, .rw, .main, 0x0, 1, 0x0, 1, some (Fld.keyOf 0x503000 0), fun _ => 0⟩
/-- TRN_REG_D0.CONTEXT, TRN bits [47:32] (R185). -/
def TRN_REG_D0_CONTEXT : Fld := ⟨0x503008, 32, 16, .rw, .main, 0x0, 1, 0x0, 1, some (Fld.keyOf 0x503000 0), fun _ => 0⟩
/-- TRN_REG_D0.GENERATION, TRN bits [62:48] (R185). -/
def TRN_REG_D0_GENERATION : Fld := ⟨0x503008, 48, 15, .rw, .main, 0x0, 1, 0x0, 1, some (Fld.keyOf 0x503000 0), fun _ => 0⟩
/-- TRN_REG_D1.BASE, TRN bits [63:0] (R185). -/
def TRN_REG_D1_BASE : Fld := ⟨0x503010, 0, 64, .rw, .main, 0x0, 1, 0x0, 1, some (Fld.keyOf 0x503000 0), fun _ => 0⟩
/-- TRN_REG_D2.LENGTH, TRN bits [46:0] (R185). -/
def TRN_REG_D2_LENGTH : Fld := ⟨0x503018, 0, 47, .rw, .main, 0x0, 1, 0x0, 1, some (Fld.keyOf 0x503000 0), fun _ => 0⟩
/-- TRN_REG_D2.QP_BIND, TRN bits [61:48] (R185). -/
def TRN_REG_D2_QP_BIND : Fld := ⟨0x503018, 48, 14, .rw, .main, 0x0, 1, 0x0, 1, some (Fld.keyOf 0x503000 0), fun _ => 0⟩
/-- TRN_REG_D2.QP_BIND_EN, TRN bits [62:62] (R185). -/
def TRN_REG_D2_QP_BIND_EN : Fld := ⟨0x503018, 62, 1, .rw, .main, 0x0, 1, 0x0, 1, some (Fld.keyOf 0x503000 0), fun _ => 0⟩
/-- TRN_CC_CTRL.ENABLE, TRN bits [0:0] (R207). -/
def TRN_CC_CTRL_ENABLE : Fld := ⟨0x580000, 0, 1, .rw, .main, 0x0, 1, 0x0, 1, none, fun _ => 1⟩
/-- TRN_CC_CTRL.MIN_UPDATE_NS, TRN bits [31:16] (R207). -/
def TRN_CC_CTRL_MIN_UPDATE_NS : Fld := ⟨0x580000, 16, 16, .rw, .main, 0x0, 1, 0x0, 1, none, fun _ => 2000⟩
/-- TRN_SHP_GLOBAL.REFILL_CT, TRN bits [15:0] (R207). -/
def TRN_SHP_GLOBAL_REFILL_CT : Fld := ⟨0x580008, 0, 16, .rw, .main, 0x0, 1, 0x0, 1, none, fun _ => 1024⟩
/-- TRN_RXBUF.OCC_KIB, TRN bits [14:0] (R207). -/
def TRN_RXBUF_OCC_KIB : Fld := ⟨0x580010, 0, 15, .ro, .main, 0x0, 1, 0x0, 1, none, fun _ => 0⟩
/-- TRN_CC_TC0[c].TARGET_NS, TRN bits [19:0] (R207). -/
def TRN_CC_TC0_TARGET_NS : Fld := ⟨0x580100, 0, 20, .rw, .main, 0x10, 16, 0x0, 1, none, fun _ => 12000⟩
/-- TRN_CC_TC0[c].GAIN, TRN bits [27:20] (R207). -/
def TRN_CC_TC0_GAIN : Fld := ⟨0x580100, 20, 8, .rw, .main, 0x10, 16, 0x0, 1, none, fun _ => 64⟩
/-- TRN_CC_TC0[c].MD, TRN bits [35:28] (R207). -/
def TRN_CC_TC0_MD : Fld := ⟨0x580100, 28, 8, .rw, .main, 0x10, 16, 0x0, 1, none, fun _ => 128⟩
/-- TRN_CC_TC0[c].MAX_DEC, TRN bits [43:36] (R207). -/
def TRN_CC_TC0_MAX_DEC : Fld := ⟨0x580100, 36, 8, .rw, .main, 0x10, 16, 0x0, 1, none, fun _ => 128⟩
/-- TRN_CC_TC0[c].AI_MBPS, TRN bits [63:44] (R207). -/
def TRN_CC_TC0_AI_MBPS : Fld := ⟨0x580100, 44, 20, .rw, .main, 0x10, 16, 0x0, 1, none, fun _ => 1000⟩
/-- TRN_CC_TC1[c].INIT_RATE, TRN bits [22:0] (R207). -/
def TRN_CC_TC1_INIT_RATE : Fld := ⟨0x580108, 0, 23, .rw, .main, 0x10, 16, 0x0, 1, none, fun _ => 100000⟩
/-- TRN_CC_TC1[c].MAX_RATE, TRN bits [45:23] (R207). -/
def TRN_CC_TC1_MAX_RATE : Fld := ⟨0x580108, 23, 23, .rw, .main, 0x10, 16, 0x0, 1, none, fun _ => 6400000⟩
/-- TRN_CC_TC1[c].MIN_RATE, TRN bits [63:46] (R207). -/
def TRN_CC_TC1_MIN_RATE : Fld := ⟨0x580108, 46, 18, .rw, .main, 0x10, 16, 0x0, 1, none, fun _ => 100⟩
/-- TRN_CCQ_SEL.INDEX, TRN bits [13:0] (R207). -/
def TRN_CCQ_SEL_INDEX : Fld := ⟨0x581000, 0, 14, .rw, .main, 0x0, 1, 0x0, 1, none, fun _ => 0⟩
/-- TRN_CCQ_RATE.RATE, TRN bits [22:0] (R207). -/
def TRN_CCQ_RATE_RATE : Fld := ⟨0x581008, 0, 23, .ro, .main, 0x0, 1, 0x0, 1, some (Fld.keyOf 0x581000 0), fun _ => 0⟩
/-- TRN_CCQ_STAT.DECREASES, TRN bits [31:0] (R207). -/
def TRN_CCQ_STAT_DECREASES : Fld := ⟨0x581010, 0, 32, .ro, .main, 0x0, 1, 0x0, 1, some (Fld.keyOf 0x581000 0), fun _ => 0⟩
/-- TRN_CCQ_STAT.CE_SEEN, TRN bits [63:32] (R207). -/
def TRN_CCQ_STAT_CE_SEEN : Fld := ⟨0x581010, 32, 32, .ro, .main, 0x0, 1, 0x0, 1, some (Fld.keyOf 0x581000 0), fun _ => 0⟩
/-- TRN_QSHP_SEL.INDEX, TRN bits [12:0] (R207). -/
def TRN_QSHP_SEL_INDEX : Fld := ⟨0x582000, 0, 13, .rw, .main, 0x0, 1, 0x0, 1, none, fun _ => 0⟩
/-- TRN_QSHP_CFG.RATE, TRN bits [23:0] (R207). -/
def TRN_QSHP_CFG_RATE : Fld := ⟨0x582008, 0, 24, .rw, .main, 0x0, 1, 0x0, 1, some (Fld.keyOf 0x582000 0), fun _ => 0⟩
/-- TRN_QSHP_CFG.BURST, TRN bits [47:24] (R207). -/
def TRN_QSHP_CFG_BURST : Fld := ⟨0x582008, 24, 24, .rw, .main, 0x0, 1, 0x0, 1, some (Fld.keyOf 0x582000 0), fun _ => 0⟩
/-- TRN_QSHP_CFG.EN, TRN bits [48:48] (R207). -/
def TRN_QSHP_CFG_EN : Fld := ⟨0x582008, 48, 1, .rw, .main, 0x0, 1, 0x0, 1, some (Fld.keyOf 0x582000 0), fun _ => 0⟩
/-- TRN_QSHP_BIND.QP, TRN bits [13:0] (R207). -/
def TRN_QSHP_BIND_QP : Fld := ⟨0x582010, 0, 14, .rw, .main, 0x0, 1, 0x0, 1, some (Fld.keyOf 0x582000 0), fun _ => 0⟩
/-- TRN_QSHP_BIND.BOUND, TRN bits [14:14] (R207). -/
def TRN_QSHP_BIND_BOUND : Fld := ⟨0x582010, 14, 1, .rw, .main, 0x0, 1, 0x0, 1, some (Fld.keyOf 0x582000 0), fun _ => 0⟩
/-- TRN_QSHP_TOKENS.TOKENS, TRN bits [63:0] (R207). -/
def TRN_QSHP_TOKENS_TOKENS : Fld := ⟨0x582018, 0, 64, .ro, .main, 0x0, 1, 0x0, 1, some (Fld.keyOf 0x582000 0), fun _ => 0⟩
/-- TRN_QSHP_APPLY.GO, TRN bits [0:0] (R207). -/
def TRN_QSHP_APPLY_GO : Fld := ⟨0x582020, 0, 1, .wo, .main, 0x0, 1, 0x0, 1, some (Fld.keyOf 0x582000 0), fun _ => 0⟩
/-- TRN_QSHP_ACT.CFG, TRN bits [63:0] (R207). -/
def TRN_QSHP_ACT_CFG : Fld := ⟨0x582028, 0, 64, .ro, .main, 0x0, 1, 0x0, 1, some (Fld.keyOf 0x582000 0), fun _ => 0⟩
/-- TRN_TSHP_SEL.INDEX, TRN bits [9:0] (R207). -/
def TRN_TSHP_SEL_INDEX : Fld := ⟨0x583000, 0, 10, .rw, .main, 0x0, 1, 0x0, 1, none, fun _ => 0⟩
/-- TRN_TSHP_CFG, TRN bits [48:0] (R207). -/
def TRN_TSHP_CFG : Fld := ⟨0x583008, 0, 49, .rw, .main, 0x0, 1, 0x0, 1, some (Fld.keyOf 0x583000 0), fun _ => 0⟩
/-- TRN_TSHP_BIND.TENANT, TRN bits [9:0] (R207). -/
def TRN_TSHP_BIND_TENANT : Fld := ⟨0x583010, 0, 10, .rw, .main, 0x0, 1, 0x0, 1, some (Fld.keyOf 0x583000 0), fun _ => 0⟩
/-- TRN_TSHP_BIND.BOUND, TRN bits [10:10] (R207). -/
def TRN_TSHP_BIND_BOUND : Fld := ⟨0x583010, 10, 1, .rw, .main, 0x0, 1, 0x0, 1, some (Fld.keyOf 0x583000 0), fun _ => 0⟩
/-- TRN_TSHP_BIND.TC_MASK, TRN bits [31:16] (R207). -/
def TRN_TSHP_BIND_TC_MASK : Fld := ⟨0x583010, 16, 16, .rw, .main, 0x0, 1, 0x0, 1, some (Fld.keyOf 0x583000 0), fun _ => 0⟩
/-- TRN_TSHP_TOKENS.TOKENS, TRN bits [63:0] (R207). -/
def TRN_TSHP_TOKENS_TOKENS : Fld := ⟨0x583018, 0, 64, .ro, .main, 0x0, 1, 0x0, 1, some (Fld.keyOf 0x583000 0), fun _ => 0⟩
/-- TRN_TSHP_APPLY.GO, TRN bits [0:0] (R207). -/
def TRN_TSHP_APPLY_GO : Fld := ⟨0x583020, 0, 1, .wo, .main, 0x0, 1, 0x0, 1, some (Fld.keyOf 0x583000 0), fun _ => 0⟩
/-- TRN_TSHP_ACT.CFG, TRN bits [63:0] (R207). -/
def TRN_TSHP_ACT_CFG : Fld := ⟨0x583028, 0, 64, .ro, .main, 0x0, 1, 0x0, 1, some (Fld.keyOf 0x583000 0), fun _ => 0⟩
/-- TRN_MTR_SEL.INDEX, TRN bits [9:0] (R207). -/
def TRN_MTR_SEL_INDEX : Fld := ⟨0x584000, 0, 10, .rw, .main, 0x0, 1, 0x0, 1, none, fun _ => 0⟩
/-- TRN_MTR_CFG0.CIR, TRN bits [23:0] (R207). -/
def TRN_MTR_CFG0_CIR : Fld := ⟨0x584008, 0, 24, .rw, .main, 0x0, 1, 0x0, 1, some (Fld.keyOf 0x584000 0), fun _ => 0⟩
/-- TRN_MTR_CFG0.PIR, TRN bits [47:24] (R207). -/
def TRN_MTR_CFG0_PIR : Fld := ⟨0x584008, 24, 24, .rw, .main, 0x0, 1, 0x0, 1, some (Fld.keyOf 0x584000 0), fun _ => 0⟩
/-- TRN_MTR_CFG0.EN, TRN bits [48:48] (R207). -/
def TRN_MTR_CFG0_EN : Fld := ⟨0x584008, 48, 1, .rw, .main, 0x0, 1, 0x0, 1, some (Fld.keyOf 0x584000 0), fun _ => 0⟩
/-- TRN_MTR_CFG1.CBS, TRN bits [23:0] (R207). -/
def TRN_MTR_CFG1_CBS : Fld := ⟨0x584010, 0, 24, .rw, .main, 0x0, 1, 0x0, 1, some (Fld.keyOf 0x584000 0), fun _ => 0⟩
/-- TRN_MTR_CFG1.PBS, TRN bits [47:24] (R207). -/
def TRN_MTR_CFG1_PBS : Fld := ⟨0x584010, 24, 24, .rw, .main, 0x0, 1, 0x0, 1, some (Fld.keyOf 0x584000 0), fun _ => 0⟩
/-- TRN_MTR_CFG1.YEL_THRESH_KIB, TRN bits [63:48] (R207). -/
def TRN_MTR_CFG1_YEL_THRESH_KIB : Fld := ⟨0x584010, 48, 16, .rw, .main, 0x0, 1, 0x0, 1, some (Fld.keyOf 0x584000 0), fun _ => 0⟩
/-- TRN_MTR_BIND.TENANT, TRN bits [9:0] (R207). -/
def TRN_MTR_BIND_TENANT : Fld := ⟨0x584018, 0, 10, .rw, .main, 0x0, 1, 0x0, 1, some (Fld.keyOf 0x584000 0), fun _ => 0⟩
/-- TRN_MTR_BIND.BOUND, TRN bits [10:10] (R207). -/
def TRN_MTR_BIND_BOUND : Fld := ⟨0x584018, 10, 1, .rw, .main, 0x0, 1, 0x0, 1, some (Fld.keyOf 0x584000 0), fun _ => 0⟩
/-- TRN_MTR_BIND.TC_MASK, TRN bits [31:16] (R207). -/
def TRN_MTR_BIND_TC_MASK : Fld := ⟨0x584018, 16, 16, .rw, .main, 0x0, 1, 0x0, 1, some (Fld.keyOf 0x584000 0), fun _ => 0⟩
/-- TRN_MTR_APPLY.GO, TRN bits [0:0] (R207). -/
def TRN_MTR_APPLY_GO : Fld := ⟨0x584020, 0, 1, .wo, .main, 0x0, 1, 0x0, 1, some (Fld.keyOf 0x584000 0), fun _ => 0⟩
/-- TRN_MTR_CNT_G.COUNT, TRN bits [63:0] (R207). -/
def TRN_MTR_CNT_G_COUNT : Fld := ⟨0x584028, 0, 64, .ro, .main, 0x0, 1, 0x0, 1, some (Fld.keyOf 0x584000 0), fun _ => 0⟩
/-- TRN_MTR_CNT_Y.COUNT, TRN bits [63:0] (R207). -/
def TRN_MTR_CNT_Y_COUNT : Fld := ⟨0x584030, 0, 64, .ro, .main, 0x0, 1, 0x0, 1, some (Fld.keyOf 0x584000 0), fun _ => 0⟩
/-- TRN_MTR_CNT_RDROP.COUNT, TRN bits [63:0] (R207). -/
def TRN_MTR_CNT_RDROP_COUNT : Fld := ⟨0x584038, 0, 64, .ro, .main, 0x0, 1, 0x0, 1, some (Fld.keyOf 0x584000 0), fun _ => 0⟩
/-- TRN_MTR_CNT_YDROP.COUNT, TRN bits [63:0] (R207). -/
def TRN_MTR_CNT_YDROP_COUNT : Fld := ⟨0x584040, 0, 64, .ro, .main, 0x0, 1, 0x0, 1, some (Fld.keyOf 0x584000 0), fun _ => 0⟩
/-- TRN_MTR_OCC.OCC_KIB, TRN bits [14:0] (R207). -/
def TRN_MTR_OCC_OCC_KIB : Fld := ⟨0x584048, 0, 15, .ro, .main, 0x0, 1, 0x0, 1, some (Fld.keyOf 0x584000 0), fun _ => 0⟩
/-- TRN_EGR_CTRL.GATE_EN, TRN bits [0:0] (R208). -/
def TRN_EGR_CTRL_GATE_EN : Fld := ⟨0x5C0000, 0, 1, .rw, .freewheel, 0x0, 1, 0x0, 1, none, fun _ => 0⟩
/-- TRN_EGR_CTRL.FALLBACK, TRN bits [1:1] (R208). -/
def TRN_EGR_CTRL_FALLBACK : Fld := ⟨0x5C0000, 1, 1, .rw, .freewheel, 0x0, 1, 0x0, 1, none, fun _ => 0⟩
/-- TRN_EGR_CTRL.MGMT_TC, TRN bits [11:8] (R208). -/
def TRN_EGR_CTRL_MGMT_TC : Fld := ⟨0x5C0000, 8, 4, .rw, .freewheel, 0x0, 1, 0x0, 1, none, fun _ => 15⟩
/-- TRN_GATE_BASE.COUNT, TRN bits [63:0] (R208). -/
def TRN_GATE_BASE_COUNT : Fld := ⟨0x5C0008, 0, 64, .rw, .freewheel, 0x0, 1, 0x0, 1, none, fun _ => 0⟩
/-- TRN_GATE_CYCLE.CYCLE_CT, TRN bits [31:0] (R208). -/
def TRN_GATE_CYCLE_CYCLE_CT : Fld := ⟨0x5C0010, 0, 32, .rw, .freewheel, 0x0, 1, 0x0, 1, none, fun _ => 0⟩
/-- TRN_GATE_CYCLE.LEN, TRN bits [38:32] (R208). -/
def TRN_GATE_CYCLE_LEN : Fld := ⟨0x5C0010, 32, 7, .rw, .freewheel, 0x0, 1, 0x0, 1, none, fun _ => 0⟩
/-- TRN_GATE_STATUS.RUNNING, TRN bits [0:0] (R208). -/
def TRN_GATE_STATUS_RUNNING : Fld := ⟨0x5C0018, 0, 1, .ro, .freewheel, 0x0, 1, 0x0, 1, none, fun _ => 0⟩
/-- TRN_GATE_STATUS.ENTRY, TRN bits [6:1] (R208). -/
def TRN_GATE_STATUS_ENTRY : Fld := ⟨0x5C0018, 1, 6, .ro, .freewheel, 0x0, 1, 0x0, 1, none, fun _ => 0⟩
/-- TRN_GATE_STATUS.FALLBACK_ACTIVE, TRN bits [7:7] (R208). -/
def TRN_GATE_STATUS_FALLBACK_ACTIVE : Fld := ⟨0x5C0018, 7, 1, .ro, .freewheel, 0x0, 1, 0x0, 1, none, fun _ => 1⟩
/-- TRN_GATE_STATUS.INVALID, TRN bits [8:8] (R208). -/
def TRN_GATE_STATUS_INVALID : Fld := ⟨0x5C0018, 8, 1, .ro, .freewheel, 0x0, 1, 0x0, 1, none, fun _ => 0⟩
/-- TRN_GATE_STATUS.CANCELLED, TRN bits [9:9] (R208). -/
def TRN_GATE_STATUS_CANCELLED : Fld := ⟨0x5C0018, 9, 1, .w1c, .freewheel, 0x0, 1, 0x0, 1, none, fun _ => 0⟩
/-- TRN_GCL[i].OPEN, TRN bits [15:0] (R208). -/
def TRN_GCL_OPEN : Fld := ⟨0x5C0100, 0, 16, .rw, .freewheel, 0x8, 64, 0x0, 1, none, fun _ => 0⟩
/-- TRN_GCL[i].DURATION_CT, TRN bits [63:32] (R208). -/
def TRN_GCL_DURATION_CT : Fld := ⟨0x5C0100, 32, 32, .rw, .freewheel, 0x8, 64, 0x0, 1, none, fun _ => 0⟩
/-- TRN_GCL_ACT[i], TRN bits [63:0] (R208). -/
def TRN_GCL_ACT : Fld := ⟨0x5C0400, 0, 64, .ro, .freewheel, 0x8, 64, 0x0, 1, none, fun _ => 0⟩
/-- TRN_TC_SCHED[c].BAND, TRN bits [1:0] (R208). -/
def TRN_TC_SCHED_BAND : Fld := ⟨0x5C0800, 0, 2, .rw, .freewheel, 0x8, 16, 0x0, 1, none, fun _ => 2⟩
/-- TRN_TC_SCHED[c].QUANTUM, TRN bits [23:8] (R208). -/
def TRN_TC_SCHED_QUANTUM : Fld := ⟨0x5C0800, 8, 16, .rw, .freewheel, 0x8, 16, 0x0, 1, none, fun _ => 9216⟩
/-- TRN_TC_SCHED[c].ECN_KIB, TRN bits [47:32] (R208). -/
def TRN_TC_SCHED_ECN_KIB : Fld := ⟨0x5C0800, 32, 16, .rw, .freewheel, 0x8, 16, 0x0, 1, none, fun _ => 64⟩
/-- TRN_HFC[n].CLASS_EN, TRN bits [15:0] (R208). -/
def TRN_HFC_CLASS_EN : Fld := ⟨0x5C1000, 0, 16, .rw, .freewheel, 0x8, 36, 0x0, 1, none, fun _ => 0⟩
/-- TRN_HFC[n].XOFF_KIB, TRN bits [27:16] (R208). -/
def TRN_HFC_XOFF_KIB : Fld := ⟨0x5C1000, 16, 12, .rw, .freewheel, 0x8, 36, 0x0, 1, none, fun _ => 96⟩
/-- TRN_HFC[n].XON_KIB, TRN bits [39:28] (R208). -/
def TRN_HFC_XON_KIB : Fld := ⟨0x5C1000, 28, 12, .rw, .freewheel, 0x8, 36, 0x0, 1, none, fun _ => 64⟩
/-- TRN_HFC[n].REFRESH_NS, TRN bits [55:40] (R208). -/
def TRN_HFC_REFRESH_NS : Fld := ⟨0x5C1000, 40, 16, .rw, .freewheel, 0x8, 36, 0x0, 1, none, fun _ => 8000⟩
/-- TRN_HFC_STAT[n].OFF_SENT, TRN bits [15:0] (R208). -/
def TRN_HFC_STAT_OFF_SENT : Fld := ⟨0x5C1200, 0, 16, .ro, .freewheel, 0x8, 36, 0x0, 1, none, fun _ => 0⟩
/-- TRN_HFC_STAT[n].PAUSED, TRN bits [31:16] (R208). -/
def TRN_HFC_STAT_PAUSED : Fld := ⟨0x5C1200, 16, 16, .ro, .freewheel, 0x8, 36, 0x0, 1, none, fun _ => 0⟩
/-- TRN_HFC_STAT[n].XOFF_COUNT, TRN bits [63:32] (R208). -/
def TRN_HFC_STAT_XOFF_COUNT : Fld := ⟨0x5C1200, 32, 32, .ro, .freewheel, 0x8, 36, 0x0, 1, none, fun _ => 0⟩
/-- TRN_GATE_WAIT.COUNT, TRN bits [63:0] (R208). -/
def TRN_GATE_WAIT_COUNT : Fld := ⟨0x5C2000, 0, 64, .ro, .freewheel, 0x0, 1, 0x0, 1, none, fun _ => 0⟩
/-- TRN_ECN_MARKED.COUNT, TRN bits [63:0] (R208). -/
def TRN_ECN_MARKED_COUNT : Fld := ⟨0x5C2008, 0, 64, .ro, .freewheel, 0x0, 1, 0x0, 1, none, fun _ => 0⟩

/-- The fields of the TRN_ block. -/
def blockTRN : List Fld :=
  [TRN_CTRL_ENABLE, TRN_CTRL_IPV4_EN, TRN_CTRL_HOP_LIMIT, TRN_UDP_DPORT, TRN_TIMERS0_RTO_MIN_US, TRN_TIMERS0_RTO_MAX_MS, TRN_TIMERS0_REORDER_NS, TRN_TIMERS0_ACK_DELAY_NS, TRN_TIMERS1_MAX_PKT_LIFE_MS, TRN_TIMERS1_ACK_COALESCE, TRN_TIMERS1_NAK_BACKOFF_US, TRN_TIMERS1_AUTH_FAIL_MAX] ++
  [TRN_TIMERS1_RESEND_LIMIT_MS, TRN_MODULE_ID, TRN_IP_VALID_VALID, TRN_IP_VALID_IS_V4, TRN_RESP_REC_IN_USE, TRN_RESP_REC_BUSY_NAKS, TRN_SPRAY_MAP_PORTS, TRN_LOCAL_IP_LO, TRN_LOCAL_IP_HI, TRN_TC_MAP_DSCP, TRN_TC_MAP_PCP, TRN_QP_SEL_INDEX] ++
  [TRN_QP_T0_STATE, TRN_QP_T0_EPOCH, TRN_QP_T0_PEER_MODULE, TRN_QP_T0_PEER_QP, TRN_QP_T0_MTU, TRN_QP_T0_NUM_PATHS, TRN_QP_T0_RETRY_MAX, TRN_QP_T1_SND_NXT, TRN_QP_T1_SND_UNA, TRN_QP_T2_RCV_BASE, TRN_QP_T2_ACK_BASE, TRN_QP_T3_SRTT_NS] ++
  [TRN_QP_T3_RTO_NS, TRN_QP_T4_MSN_NEXT, TRN_QP_T4_RECV_POSTED, TRN_QP_T5_ERR_SYNDROME, TRN_QP_T5_ERR_DETAIL, TRN_QP_RETX_COUNT, TRN_TX_PKTS_COUNT, TRN_RX_PKTS_COUNT, TRN_RETX_PKTS_COUNT, TRN_DUP_IN_WINDOW_COUNT, TRN_DUP_OLD_COUNT, TRN_OUT_OF_WINDOW_COUNT] ++
  [TRN_EPOCH_DISCARD_COUNT, TRN_LIFE_DISCARD_COUNT, TRN_PEER_MISMATCH_COUNT, TRN_NO_QP_DISCARD_COUNT, TRN_AUTH_DISCARD_COUNT, TRN_NAK_TX_COUNT, TRN_NAK_RX_COUNT, TRN_STALE_RESP_COUNT, TRN_REGION_VIOL_COUNT, TRN_BAD_HDR_COUNT, TRN_CE_RCVD_COUNT, TRN_REG_SEL_INDEX] ++
  [TRN_REG_D0_VALID, TRN_REG_D0_REVOKED, TRN_REG_D0_RIGHTS, TRN_REG_D0_TENANT, TRN_REG_D0_CONTEXT, TRN_REG_D0_GENERATION, TRN_REG_D1_BASE, TRN_REG_D2_LENGTH, TRN_REG_D2_QP_BIND, TRN_REG_D2_QP_BIND_EN, TRN_CC_CTRL_ENABLE, TRN_CC_CTRL_MIN_UPDATE_NS] ++
  [TRN_SHP_GLOBAL_REFILL_CT, TRN_RXBUF_OCC_KIB, TRN_CC_TC0_TARGET_NS, TRN_CC_TC0_GAIN, TRN_CC_TC0_MD, TRN_CC_TC0_MAX_DEC, TRN_CC_TC0_AI_MBPS, TRN_CC_TC1_INIT_RATE, TRN_CC_TC1_MAX_RATE, TRN_CC_TC1_MIN_RATE, TRN_CCQ_SEL_INDEX, TRN_CCQ_RATE_RATE] ++
  [TRN_CCQ_STAT_DECREASES, TRN_CCQ_STAT_CE_SEEN, TRN_QSHP_SEL_INDEX, TRN_QSHP_CFG_RATE, TRN_QSHP_CFG_BURST, TRN_QSHP_CFG_EN, TRN_QSHP_BIND_QP, TRN_QSHP_BIND_BOUND, TRN_QSHP_TOKENS_TOKENS, TRN_QSHP_APPLY_GO, TRN_QSHP_ACT_CFG, TRN_TSHP_SEL_INDEX] ++
  [TRN_TSHP_CFG, TRN_TSHP_BIND_TENANT, TRN_TSHP_BIND_BOUND, TRN_TSHP_BIND_TC_MASK, TRN_TSHP_TOKENS_TOKENS, TRN_TSHP_APPLY_GO, TRN_TSHP_ACT_CFG, TRN_MTR_SEL_INDEX, TRN_MTR_CFG0_CIR, TRN_MTR_CFG0_PIR, TRN_MTR_CFG0_EN, TRN_MTR_CFG1_CBS] ++
  [TRN_MTR_CFG1_PBS, TRN_MTR_CFG1_YEL_THRESH_KIB, TRN_MTR_BIND_TENANT, TRN_MTR_BIND_BOUND, TRN_MTR_BIND_TC_MASK, TRN_MTR_APPLY_GO, TRN_MTR_CNT_G_COUNT, TRN_MTR_CNT_Y_COUNT, TRN_MTR_CNT_RDROP_COUNT, TRN_MTR_CNT_YDROP_COUNT, TRN_MTR_OCC_OCC_KIB, TRN_EGR_CTRL_GATE_EN] ++
  [TRN_EGR_CTRL_FALLBACK, TRN_EGR_CTRL_MGMT_TC, TRN_GATE_BASE_COUNT, TRN_GATE_CYCLE_CYCLE_CT, TRN_GATE_CYCLE_LEN, TRN_GATE_STATUS_RUNNING, TRN_GATE_STATUS_ENTRY, TRN_GATE_STATUS_FALLBACK_ACTIVE, TRN_GATE_STATUS_INVALID, TRN_GATE_STATUS_CANCELLED, TRN_GCL_OPEN, TRN_GCL_DURATION_CT] ++
  [TRN_GCL_ACT, TRN_TC_SCHED_BAND, TRN_TC_SCHED_QUANTUM, TRN_TC_SCHED_ECN_KIB, TRN_HFC_CLASS_EN, TRN_HFC_XOFF_KIB, TRN_HFC_XON_KIB, TRN_HFC_REFRESH_NS, TRN_HFC_STAT_OFF_SENT, TRN_HFC_STAT_PAUSED, TRN_HFC_STAT_XOFF_COUNT, TRN_GATE_WAIT_COUNT] ++
  [TRN_ECN_MARKED_COUNT]

/-- MAC_PORT_CFG.WIDTH, MAC bits [2:0] (R227). -/
def MAC_PORT_CFG_WIDTH : Fld := ⟨0x600000, 0, 3, .rw, .freewheel, 0x1000, 36, 0x0, 1, none, fun _ => 0⟩
/-- MAC_PORT_CFG.PMD, MAC bits [4:3] (R227). -/
def MAC_PORT_CFG_PMD : Fld := ⟨0x600000, 3, 2, .rw, .freewheel, 0x1000, 36, 0x0, 1, none, fun _ => 0⟩
/-- MAC_PORT_CFG.AN_EN, MAC bits [5:5] (R227). -/
def MAC_PORT_CFG_AN_EN : Fld := ⟨0x600000, 5, 1, .rw, .freewheel, 0x1000, 36, 0x0, 1, none, fun _ => 1⟩
/-- MAC_PORT_CFG.ENABLE, MAC bits [6:6] (R227). -/
def MAC_PORT_CFG_ENABLE : Fld := ⟨0x600000, 6, 1, .rw, .freewheel, 0x1000, 36, 0x0, 1, none, fun _ => 0⟩
/-- MAC_PORT_CFG.HEVOR_ONLY, MAC bits [7:7] (R227). -/
def MAC_PORT_CFG_HEVOR_ONLY : Fld := ⟨0x600000, 7, 1, .rw, .freewheel, 0x1000, 36, 0x0, 1, none, fun _ => 1⟩
/-- MAC_PORT_CFG.PAUSE_RX_EN, MAC bits [8:8] (R227). -/
def MAC_PORT_CFG_PAUSE_RX_EN : Fld := ⟨0x600000, 8, 1, .rw, .freewheel, 0x1000, 36, 0x0, 1, none, fun _ => 0⟩
/-- MAC_PORT_CFG.PFC_RX_EN, MAC bits [9:9] (R227). -/
def MAC_PORT_CFG_PFC_RX_EN : Fld := ⟨0x600000, 9, 1, .rw, .freewheel, 0x1000, 36, 0x0, 1, none, fun _ => 1⟩
/-- MAC_PORT_CFG.SLOW_PATH_EN, MAC bits [10:10] (R227). -/
def MAC_PORT_CFG_SLOW_PATH_EN : Fld := ⟨0x600000, 10, 1, .rw, .freewheel, 0x1000, 36, 0x0, 1, none, fun _ => 0⟩
/-- MAC_PORT_CFG.LINK_HOLD_US, MAC bits [20:16] (R227). -/
def MAC_PORT_CFG_LINK_HOLD_US : Fld := ⟨0x600000, 16, 5, .rw, .freewheel, 0x1000, 36, 0x0, 1, none, fun _ => 10⟩
/-- MAC_ADDR.ADDR, MAC bits [47:0] (R227). -/
def MAC_ADDR_ADDR : Fld := ⟨0x600008, 0, 48, .rw, .freewheel, 0x1000, 36, 0x0, 1, none, fun _ => 0⟩
/-- MAC_NEXTHOP.ADDR, MAC bits [47:0] (R227). -/
def MAC_NEXTHOP_ADDR : Fld := ⟨0x600010, 0, 48, .rw, .freewheel, 0x1000, 36, 0x0, 1, none, fun _ => 0⟩
/-- MAC_PORT_STATUS.LINK_UP, MAC bits [0:0] (R227). -/
def MAC_PORT_STATUS_LINK_UP : Fld := ⟨0x600018, 0, 1, .ro, .freewheel, 0x1000, 36, 0x0, 1, none, fun _ => 0⟩
/-- MAC_PORT_STATUS.CFG_ERR, MAC bits [1:1] (R227). -/
def MAC_PORT_STATUS_CFG_ERR : Fld := ⟨0x600018, 1, 1, .ro, .freewheel, 0x1000, 36, 0x0, 1, none, fun _ => 0⟩
/-- MAC_PORT_STATUS.REMAP_BUSY, MAC bits [2:2] (R227). -/
def MAC_PORT_STATUS_REMAP_BUSY : Fld := ⟨0x600018, 2, 1, .ro, .freewheel, 0x1000, 36, 0x0, 1, none, fun _ => 0⟩
/-- MAC_PORT_STATUS.LANE_FAULT, MAC bits [3:3] (R227). -/
def MAC_PORT_STATUS_LANE_FAULT : Fld := ⟨0x600018, 3, 1, .ro, .freewheel, 0x1000, 36, 0x0, 1, none, fun _ => 0⟩
/-- MAC_PORT_STATUS.RETRAINING, MAC bits [4:4] (R227). -/
def MAC_PORT_STATUS_RETRAINING : Fld := ⟨0x600018, 4, 1, .ro, .freewheel, 0x1000, 36, 0x0, 1, none, fun _ => 0⟩
/-- MAC_PORT_STATUS.LINK_CHANGE, MAC bits [5:5] (R227). -/
def MAC_PORT_STATUS_LINK_CHANGE : Fld := ⟨0x600018, 5, 1, .w1c, .freewheel, 0x1000, 36, 0x0, 1, none, fun _ => 0⟩
/-- MAC_RX_FRAMES.COUNT, MAC bits [63:0] (R227). -/
def MAC_RX_FRAMES_COUNT : Fld := ⟨0x600020, 0, 64, .ro, .freewheel, 0x1000, 36, 0x0, 1, none, fun _ => 0⟩
/-- MAC_TX_FRAMES.COUNT, MAC bits [63:0] (R227). -/
def MAC_TX_FRAMES_COUNT : Fld := ⟨0x600028, 0, 64, .ro, .freewheel, 0x1000, 36, 0x0, 1, none, fun _ => 0⟩
/-- MAC_RX_FCS_DROP.COUNT, MAC bits [63:0] (R227). -/
def MAC_RX_FCS_DROP_COUNT : Fld := ⟨0x600030, 0, 64, .ro, .freewheel, 0x1000, 36, 0x0, 1, none, fun _ => 0⟩
/-- MAC_RX_RUNT_DROP.COUNT, MAC bits [63:0] (R227). -/
def MAC_RX_RUNT_DROP_COUNT : Fld := ⟨0x600038, 0, 64, .ro, .freewheel, 0x1000, 36, 0x0, 1, none, fun _ => 0⟩
/-- MAC_RX_OVERSIZE_DROP.COUNT, MAC bits [63:0] (R227). -/
def MAC_RX_OVERSIZE_DROP_COUNT : Fld := ⟨0x600040, 0, 64, .ro, .freewheel, 0x1000, 36, 0x0, 1, none, fun _ => 0⟩
/-- MAC_RX_ETYPE_DROP.COUNT, MAC bits [63:0] (R227). -/
def MAC_RX_ETYPE_DROP_COUNT : Fld := ⟨0x600048, 0, 64, .ro, .freewheel, 0x1000, 36, 0x0, 1, none, fun _ => 0⟩
/-- MAC_RX_FILTER_DROP.COUNT, MAC bits [63:0] (R227). -/
def MAC_RX_FILTER_DROP_COUNT : Fld := ⟨0x600050, 0, 64, .ro, .freewheel, 0x1000, 36, 0x0, 1, none, fun _ => 0⟩
/-- MAC_RX_BUF_DROP.COUNT, MAC bits [63:0] (R227). -/
def MAC_RX_BUF_DROP_COUNT : Fld := ⟨0x600058, 0, 64, .ro, .freewheel, 0x1000, 36, 0x0, 1, none, fun _ => 0⟩
/-- MAC_RX_PAUSE.COUNT, MAC bits [63:0] (R227). -/
def MAC_RX_PAUSE_COUNT : Fld := ⟨0x600060, 0, 64, .ro, .freewheel, 0x1000, 36, 0x0, 1, none, fun _ => 0⟩
/-- MAC_FEC_CORR.COUNT, MAC bits [63:0] (R227). -/
def MAC_FEC_CORR_COUNT : Fld := ⟨0x600068, 0, 64, .ro, .freewheel, 0x1000, 36, 0x0, 1, none, fun _ => 0⟩
/-- MAC_FEC_UNCORR.COUNT, MAC bits [63:0] (R227). -/
def MAC_FEC_UNCORR_COUNT : Fld := ⟨0x600070, 0, 64, .ro, .freewheel, 0x1000, 36, 0x0, 1, none, fun _ => 0⟩
/-- MAC_LINK_DOWN_COUNT.COUNT, MAC bits [63:0] (R227). -/
def MAC_LINK_DOWN_COUNT_COUNT : Fld := ⟨0x600078, 0, 64, .ro, .freewheel, 0x1000, 36, 0x0, 1, none, fun _ => 0⟩
/-- MAC_GHASH[k].BITS, MAC bits [63:0] (R227). -/
def MAC_GHASH_BITS : Fld := ⟨0x600200, 0, 64, .rw, .freewheel, 0x1000, 36, 0x8, 64, none, fun _ => 0⟩
/-- MAC_GHASH_ACT[k].BITS, MAC bits [63:0] (R227). -/
def MAC_GHASH_ACT_BITS : Fld := ⟨0x600400, 0, 64, .ro, .freewheel, 0x1000, 36, 0x8, 64, none, fun _ => 0⟩
/-- MAC_SPARE_CTRL.FAR_REMAP_EN, MAC bits [0:0] (R227). -/
def MAC_SPARE_CTRL_FAR_REMAP_EN : Fld := ⟨0x630000, 0, 1, .rw, .freewheel, 0x0, 1, 0x0, 1, none, fun _ => 1⟩
/-- MAC_SPARE_CTRL.NEAR_REMAP_EN, MAC bits [1:1] (R227). -/
def MAC_SPARE_CTRL_NEAR_REMAP_EN : Fld := ⟨0x630000, 1, 1, .rw, .freewheel, 0x0, 1, 0x0, 1, none, fun _ => 1⟩
/-- MAC_SPARE_CTRL.SER_LIMIT, MAC bits [31:16] (R227). -/
def MAC_SPARE_CTRL_SER_LIMIT : Fld := ⟨0x630000, 16, 16, .rw, .freewheel, 0x0, 1, 0x0, 1, none, fun _ => 4096⟩
/-- MAC_SPARE_CTRL.REQ_LANE, MAC bits [38:32] (R227). -/
def MAC_SPARE_CTRL_REQ_LANE : Fld := ⟨0x630000, 32, 7, .wo, .freewheel, 0x0, 1, 0x0, 1, none, fun _ => 0⟩
/-- MAC_SPARE_CFG[s].PORT, MAC bits [7:0] (R227). -/
def MAC_SPARE_CFG_PORT : Fld := ⟨0x630008, 0, 8, .rw, .freewheel, 0x8, 8, 0x0, 1, none, fun _ => 255⟩
/-- MAC_SPARE_CFG[s].CABLED, MAC bits [8:8] (R227). -/
def MAC_SPARE_CFG_CABLED : Fld := ⟨0x630008, 8, 1, .rw, .freewheel, 0x8, 8, 0x0, 1, none, fun _ => 0⟩
/-- MAC_SPARE_CFG[s].STATE, MAC bits [18:16] (R227). -/
def MAC_SPARE_CFG_STATE : Fld := ⟨0x630008, 16, 3, .ro, .freewheel, 0x8, 8, 0x0, 1, none, fun _ => 0⟩
/-- MAC_SPARE_CFG[s].REPLACES, MAC bits [31:24] (R227). -/
def MAC_SPARE_CFG_REPLACES : Fld := ⟨0x630008, 24, 8, .ro, .freewheel, 0x8, 8, 0x0, 1, none, fun _ => 255⟩
/-- MAC_LANE_MAP[l].PHYS, MAC bits [6:0] (R227). -/
def MAC_LANE_MAP_PHYS : Fld := ⟨0x630100, 0, 7, .ro, .freewheel, 0x8, 72, 0x0, 1, none, fun k => k⟩
/-- MAC_LANE_MAP[l].FENCED, MAC bits [7:7] (R227). -/
def MAC_LANE_MAP_FENCED : Fld := ⟨0x630100, 7, 1, .ro, .freewheel, 0x8, 72, 0x0, 1, none, fun _ => 0⟩
/-- MAC_REMAP_COUNT.DONE, MAC bits [31:0] (R227). -/
def MAC_REMAP_COUNT_DONE : Fld := ⟨0x630400, 0, 32, .ro, .freewheel, 0x0, 1, 0x0, 1, none, fun _ => 0⟩
/-- MAC_REMAP_COUNT.ABORTED, MAC bits [63:32] (R227). -/
def MAC_REMAP_COUNT_ABORTED : Fld := ⟨0x630400, 32, 32, .ro, .freewheel, 0x0, 1, 0x0, 1, none, fun _ => 0⟩
/-- MAC_SUBST_COUNT.COUNT, MAC bits [63:0] (R227). -/
def MAC_SUBST_COUNT_COUNT : Fld := ⟨0x630408, 0, 64, .ro, .freewheel, 0x0, 1, 0x0, 1, none, fun _ => 0⟩
/-- MAC_NEAR_STATUS[p].PATH_UP, MAC bits [0:0] (R227). -/
def MAC_NEAR_STATUS_PATH_UP : Fld := ⟨0x680000, 0, 1, .ro, .main, 0x100, 8, 0x0, 1, none, fun _ => 0⟩
/-- MAC_NEAR_STATUS[p].FEC_LOCK, MAC bits [1:1] (R227). -/
def MAC_NEAR_STATUS_FEC_LOCK : Fld := ⟨0x680000, 1, 1, .ro, .main, 0x100, 8, 0x0, 1, none, fun _ => 0⟩
/-- MAC_NEAR_STATUS[p].FLIT_LOCK, MAC bits [2:2] (R227). -/
def MAC_NEAR_STATUS_FLIT_LOCK : Fld := ⟨0x680000, 2, 1, .ro, .main, 0x100, 8, 0x0, 1, none, fun _ => 0⟩
/-- MAC_NEAR_STATUS[p].REMAP_BUSY, MAC bits [3:3] (R227). -/
def MAC_NEAR_STATUS_REMAP_BUSY : Fld := ⟨0x680000, 3, 1, .ro, .main, 0x100, 8, 0x0, 1, none, fun _ => 0⟩
/-- MAC_NEAR_STATUS[p].ATTACH, MAC bits [6:4] (R227). -/
def MAC_NEAR_STATUS_ATTACH : Fld := ⟨0x680000, 4, 3, .ro, .main, 0x100, 8, 0x0, 1, none, fun _ => 0⟩
/-- MAC_NEAR_STATUS[p].ATTACH_VALID, MAC bits [7:7] (R227). -/
def MAC_NEAR_STATUS_ATTACH_VALID : Fld := ⟨0x680000, 7, 1, .ro, .main, 0x100, 8, 0x0, 1, none, fun _ => 0⟩
/-- MAC_NEAR_STATUS[p].DOWN_REASON, MAC bits [15:8] (R227). -/
def MAC_NEAR_STATUS_DOWN_REASON : Fld := ⟨0x680000, 8, 8, .ro, .main, 0x100, 8, 0x0, 1, none, fun _ => 0⟩
/-- MAC_NEAR_FCRC_ERR.COUNT, MAC bits [63:0] (R227). -/
def MAC_NEAR_FCRC_ERR_COUNT : Fld := ⟨0x680008, 0, 64, .ro, .main, 0x100, 8, 0x0, 1, none, fun _ => 0⟩
/-- MAC_NEAR_REPLAY.COUNT, MAC bits [63:0] (R227). -/
def MAC_NEAR_REPLAY_COUNT : Fld := ⟨0x680010, 0, 64, .ro, .main, 0x100, 8, 0x0, 1, none, fun _ => 0⟩
/-- MAC_NEAR_DOWN.COUNT, MAC bits [63:0] (R227). -/
def MAC_NEAR_DOWN_COUNT : Fld := ⟨0x680018, 0, 64, .ro, .main, 0x100, 8, 0x0, 1, none, fun _ => 0⟩
/-- MAC_NEAR_MALFORMED.COUNT, MAC bits [63:0] (R227). -/
def MAC_NEAR_MALFORMED_COUNT : Fld := ⟨0x680020, 0, 64, .ro, .main, 0x100, 8, 0x0, 1, none, fun _ => 0⟩
/-- MAC_NEAR_BAD_TAG.COUNT, MAC bits [63:0] (R227). -/
def MAC_NEAR_BAD_TAG_COUNT : Fld := ⟨0x680028, 0, 64, .ro, .main, 0x100, 8, 0x0, 1, none, fun _ => 0⟩
/-- MAC_NEAR_ADDR_ERR.COUNT, MAC bits [63:0] (R227). -/
def MAC_NEAR_ADDR_ERR_COUNT : Fld := ⟨0x680030, 0, 64, .ro, .main, 0x100, 8, 0x0, 1, none, fun _ => 0⟩
/-- MAC_NEAR_DENIED.COUNT, MAC bits [63:0] (R227). -/
def MAC_NEAR_DENIED_COUNT : Fld := ⟨0x680038, 0, 64, .ro, .main, 0x100, 8, 0x0, 1, none, fun _ => 0⟩

/-- The fields of the MAC_ block. -/
def blockMAC : List Fld :=
  [MAC_PORT_CFG_WIDTH, MAC_PORT_CFG_PMD, MAC_PORT_CFG_AN_EN, MAC_PORT_CFG_ENABLE, MAC_PORT_CFG_HEVOR_ONLY, MAC_PORT_CFG_PAUSE_RX_EN, MAC_PORT_CFG_PFC_RX_EN, MAC_PORT_CFG_SLOW_PATH_EN, MAC_PORT_CFG_LINK_HOLD_US, MAC_ADDR_ADDR, MAC_NEXTHOP_ADDR, MAC_PORT_STATUS_LINK_UP] ++
  [MAC_PORT_STATUS_CFG_ERR, MAC_PORT_STATUS_REMAP_BUSY, MAC_PORT_STATUS_LANE_FAULT, MAC_PORT_STATUS_RETRAINING, MAC_PORT_STATUS_LINK_CHANGE, MAC_RX_FRAMES_COUNT, MAC_TX_FRAMES_COUNT, MAC_RX_FCS_DROP_COUNT, MAC_RX_RUNT_DROP_COUNT, MAC_RX_OVERSIZE_DROP_COUNT, MAC_RX_ETYPE_DROP_COUNT, MAC_RX_FILTER_DROP_COUNT] ++
  [MAC_RX_BUF_DROP_COUNT, MAC_RX_PAUSE_COUNT, MAC_FEC_CORR_COUNT, MAC_FEC_UNCORR_COUNT, MAC_LINK_DOWN_COUNT_COUNT, MAC_GHASH_BITS, MAC_GHASH_ACT_BITS, MAC_SPARE_CTRL_FAR_REMAP_EN, MAC_SPARE_CTRL_NEAR_REMAP_EN, MAC_SPARE_CTRL_SER_LIMIT, MAC_SPARE_CTRL_REQ_LANE, MAC_SPARE_CFG_PORT] ++
  [MAC_SPARE_CFG_CABLED, MAC_SPARE_CFG_STATE, MAC_SPARE_CFG_REPLACES, MAC_LANE_MAP_PHYS, MAC_LANE_MAP_FENCED, MAC_REMAP_COUNT_DONE, MAC_REMAP_COUNT_ABORTED, MAC_SUBST_COUNT_COUNT, MAC_NEAR_STATUS_PATH_UP, MAC_NEAR_STATUS_FEC_LOCK, MAC_NEAR_STATUS_FLIT_LOCK, MAC_NEAR_STATUS_REMAP_BUSY] ++
  [MAC_NEAR_STATUS_ATTACH, MAC_NEAR_STATUS_ATTACH_VALID, MAC_NEAR_STATUS_DOWN_REASON, MAC_NEAR_FCRC_ERR_COUNT, MAC_NEAR_REPLAY_COUNT, MAC_NEAR_DOWN_COUNT, MAC_NEAR_MALFORMED_COUNT, MAC_NEAR_BAD_TAG_COUNT, MAC_NEAR_ADDR_ERR_COUNT, MAC_NEAR_DENIED_COUNT]

/-- FWP_CTRL.ENABLE, FWP bits [0:0] (R228). -/
def FWP_CTRL_ENABLE : Fld := ⟨0x700000, 0, 1, .rw, .freewheel, 0x0, 1, 0x0, 1, none, fun _ => 0⟩
/-- FWP_CTRL.MC_EN, FWP bits [1:1] (R228). -/
def FWP_CTRL_MC_EN : Fld := ⟨0x700000, 1, 1, .rw, .freewheel, 0x0, 1, 0x0, 1, none, fun _ => 0⟩
/-- FWP_HOLD.WARM_HOLD_MS, FWP bits [13:0] (R228). -/
def FWP_HOLD_WARM_HOLD_MS : Fld := ⟨0x700008, 0, 14, .rw, .freewheel, 0x0, 1, 0x0, 1, none, fun _ => 10000⟩
/-- FWP_STATUS.STATE, FWP bits [1:0] (R228). -/
def FWP_STATUS_STATE : Fld := ⟨0x700010, 0, 2, .ro, .freewheel, 0x0, 1, 0x0, 1, none, fun _ => 0⟩
/-- FWP_STATUS.HOLD_LEFT_MS, FWP bits [29:16] (R228). -/
def FWP_STATUS_HOLD_LEFT_MS : Fld := ⟨0x700010, 16, 14, .ro, .freewheel, 0x0, 1, 0x0, 1, none, fun _ => 0⟩
/-- FWP_CONFIRM.GO, FWP bits [0:0] (R228). -/
def FWP_CONFIRM_GO : Fld := ⟨0x700018, 0, 1, .wo, .freewheel, 0x0, 1, 0x0, 1, none, fun _ => 0⟩
/-- FWP_FWD_SEL.MODULE, FWP bits [15:0] (R228). -/
def FWP_FWD_SEL_MODULE : Fld := ⟨0x700020, 0, 16, .rw, .freewheel, 0x0, 1, 0x0, 1, none, fun _ => 0⟩
/-- FWP_FWD_ENT.PORTS, FWP bits [31:0] (R228). -/
def FWP_FWD_ENT_PORTS : Fld := ⟨0x700028, 0, 32, .rw, .freewheel, 0x0, 1, 0x0, 1, some (Fld.keyOf 0x700020 0), fun _ => 0⟩
/-- FWP_FWD_ENT.PORTS (active copy), FWP bits [31:0] (R228). -/
def FWP_FWD_ENT_PORTS_ACT : Fld := ⟨0x700828, 0, 32, .ro, .freewheel, 0x0, 1, 0x0, 1, some (Fld.keyOf 0x700020 0), fun _ => 0⟩
/-- FWP_FWD_ENT.COUNT, FWP bits [34:32] (R228). -/
def FWP_FWD_ENT_COUNT : Fld := ⟨0x700028, 32, 3, .rw, .freewheel, 0x0, 1, 0x0, 1, some (Fld.keyOf 0x700020 0), fun _ => 0⟩
/-- FWP_FWD_ENT.COUNT (active copy), FWP bits [34:32] (R228). -/
def FWP_FWD_ENT_COUNT_ACT : Fld := ⟨0x700828, 32, 3, .ro, .freewheel, 0x0, 1, 0x0, 1, some (Fld.keyOf 0x700020 0), fun _ => 0⟩
/-- FWP_FWD_ENT.VALID, FWP bits [35:35] (R228). -/
def FWP_FWD_ENT_VALID : Fld := ⟨0x700028, 35, 1, .rw, .freewheel, 0x0, 1, 0x0, 1, some (Fld.keyOf 0x700020 0), fun _ => 0⟩
/-- FWP_FWD_ENT.VALID (active copy), FWP bits [35:35] (R228). -/
def FWP_FWD_ENT_VALID_ACT : Fld := ⟨0x700828, 35, 1, .ro, .freewheel, 0x0, 1, 0x0, 1, some (Fld.keyOf 0x700020 0), fun _ => 0⟩
/-- FWP_MC_SEL.TREE, FWP bits [11:0] (R228). -/
def FWP_MC_SEL_TREE : Fld := ⟨0x700030, 0, 12, .rw, .freewheel, 0x0, 1, 0x0, 1, none, fun _ => 0⟩
/-- FWP_MC_CFG.VALID, FWP bits [0:0] (R228). -/
def FWP_MC_CFG_VALID : Fld := ⟨0x700038, 0, 1, .rw, .freewheel, 0x0, 1, 0x0, 1, some (Fld.keyOf 0x700030 0), fun _ => 0⟩
/-- FWP_MC_CFG.VALID (active copy), FWP bits [0:0] (R228). -/
def FWP_MC_CFG_VALID_ACT : Fld := ⟨0x700838, 0, 1, .ro, .freewheel, 0x0, 1, 0x0, 1, some (Fld.keyOf 0x700030 0), fun _ => 0⟩
/-- FWP_MC_CFG.LOCAL, FWP bits [1:1] (R228). -/
def FWP_MC_CFG_LOCAL : Fld := ⟨0x700038, 1, 1, .rw, .freewheel, 0x0, 1, 0x0, 1, some (Fld.keyOf 0x700030 0), fun _ => 0⟩
/-- FWP_MC_CFG.LOCAL (active copy), FWP bits [1:1] (R228). -/
def FWP_MC_CFG_LOCAL_ACT : Fld := ⟨0x700838, 1, 1, .ro, .freewheel, 0x0, 1, 0x0, 1, some (Fld.keyOf 0x700030 0), fun _ => 0⟩
/-- FWP_MC_CFG.LOCAL_MEMBER, FWP bits [13:8] (R228). -/
def FWP_MC_CFG_LOCAL_MEMBER : Fld := ⟨0x700038, 8, 6, .rw, .freewheel, 0x0, 1, 0x0, 1, some (Fld.keyOf 0x700030 0), fun _ => 0⟩
/-- FWP_MC_CFG.LOCAL_MEMBER (active copy), FWP bits [13:8] (R228). -/
def FWP_MC_CFG_LOCAL_MEMBER_ACT : Fld := ⟨0x700838, 8, 6, .ro, .freewheel, 0x0, 1, 0x0, 1, some (Fld.keyOf 0x700030 0), fun _ => 0⟩
/-- FWP_MC_CFG.BRANCHES, FWP bits [19:16] (R228). -/
def FWP_MC_CFG_BRANCHES : Fld := ⟨0x700038, 16, 4, .rw, .freewheel, 0x0, 1, 0x0, 1, some (Fld.keyOf 0x700030 0), fun _ => 0⟩
/-- FWP_MC_CFG.BRANCHES (active copy), FWP bits [19:16] (R228). -/
def FWP_MC_CFG_BRANCHES_ACT : Fld := ⟨0x700838, 16, 4, .ro, .freewheel, 0x0, 1, 0x0, 1, some (Fld.keyOf 0x700030 0), fun _ => 0⟩
/-- FWP_MC_BR[b].PORT, FWP bits [7:0] (R228). -/
def FWP_MC_BR_PORT : Fld := ⟨0x700040, 0, 8, .rw, .freewheel, 0x10, 8, 0x0, 1, some (Fld.keyOf 0x700030 0), fun _ => 255⟩
/-- FWP_MC_BR[b].PORT (active copy), FWP bits [7:0] (R228). -/
def FWP_MC_BR_PORT_ACT : Fld := ⟨0x700840, 0, 8, .ro, .freewheel, 0x10, 8, 0x0, 1, some (Fld.keyOf 0x700030 0), fun _ => 255⟩
/-- FWP_MC_MEMB[b].MASK, FWP bits [63:0] (R228). -/
def FWP_MC_MEMB_MASK : Fld := ⟨0x700048, 0, 64, .rw, .freewheel, 0x10, 8, 0x0, 1, some (Fld.keyOf 0x700030 0), fun _ => 0⟩
/-- FWP_MC_MEMB[b].MASK (active copy), FWP bits [63:0] (R228). -/
def FWP_MC_MEMB_MASK_ACT : Fld := ⟨0x700848, 0, 64, .ro, .freewheel, 0x10, 8, 0x0, 1, some (Fld.keyOf 0x700030 0), fun _ => 0⟩
/-- FWP_MC_FENCED.MASK, FWP bits [63:0] (R228). -/
def FWP_MC_FENCED_MASK : Fld := ⟨0x7000C0, 0, 64, .rw, .freewheel, 0x0, 1, 0x0, 1, some (Fld.keyOf 0x700030 0), fun _ => 0⟩
/-- FWP_MC_FENCED.MASK (active copy), FWP bits [63:0] (R228). -/
def FWP_MC_FENCED_MASK_ACT : Fld := ⟨0x7008C0, 0, 64, .ro, .freewheel, 0x0, 1, 0x0, 1, some (Fld.keyOf 0x700030 0), fun _ => 0⟩
/-- FWP_FWD_FRAMES.COUNT, FWP bits [63:0] (R228). -/
def FWP_FWD_FRAMES_COUNT : Fld := ⟨0x701000, 0, 64, .ro, .freewheel, 0x0, 1, 0x0, 1, none, fun _ => 0⟩
/-- FWP_NO_ROUTE.COUNT, FWP bits [63:0] (R228). -/
def FWP_NO_ROUTE_COUNT : Fld := ⟨0x701008, 0, 64, .ro, .freewheel, 0x0, 1, 0x0, 1, none, fun _ => 0⟩
/-- FWP_TTL_DROP.COUNT, FWP bits [63:0] (R228). -/
def FWP_TTL_DROP_COUNT : Fld := ⟨0x701010, 0, 64, .ro, .freewheel, 0x0, 1, 0x0, 1, none, fun _ => 0⟩
/-- FWP_LOCAL_DROP.COUNT, FWP bits [63:0] (R228). -/
def FWP_LOCAL_DROP_COUNT : Fld := ⟨0x701018, 0, 64, .ro, .freewheel, 0x0, 1, 0x0, 1, none, fun _ => 0⟩
/-- FWP_MC_BRANCH_DROP.COUNT, FWP bits [63:0] (R228). -/
def FWP_MC_BRANCH_DROP_COUNT : Fld := ⟨0x701020, 0, 64, .ro, .freewheel, 0x0, 1, 0x0, 1, none, fun _ => 0⟩
/-- FWP_MC_COPIES.COUNT, FWP bits [63:0] (R228). -/
def FWP_MC_COPIES_COUNT : Fld := ⟨0x701028, 0, 64, .ro, .freewheel, 0x0, 1, 0x0, 1, none, fun _ => 0⟩
/-- FWP_HOLD_COUNT.COUNT, FWP bits [63:0] (R228). -/
def FWP_HOLD_COUNT_COUNT : Fld := ⟨0x701030, 0, 64, .ro, .freewheel, 0x0, 1, 0x0, 1, none, fun _ => 0⟩

/-- The fields of the FWP_ block. -/
def blockFWP : List Fld :=
  [FWP_CTRL_ENABLE, FWP_CTRL_MC_EN, FWP_HOLD_WARM_HOLD_MS, FWP_STATUS_STATE, FWP_STATUS_HOLD_LEFT_MS, FWP_CONFIRM_GO, FWP_FWD_SEL_MODULE, FWP_FWD_ENT_PORTS, FWP_FWD_ENT_COUNT, FWP_FWD_ENT_VALID, FWP_MC_SEL_TREE, FWP_MC_CFG_VALID] ++
  [FWP_MC_CFG_LOCAL, FWP_MC_CFG_LOCAL_MEMBER, FWP_MC_CFG_BRANCHES, FWP_MC_BR_PORT, FWP_MC_MEMB_MASK, FWP_MC_FENCED_MASK, FWP_FWD_FRAMES_COUNT, FWP_NO_ROUTE_COUNT, FWP_TTL_DROP_COUNT, FWP_LOCAL_DROP_COUNT, FWP_MC_BRANCH_DROP_COUNT, FWP_MC_COPIES_COUNT] ++
  [FWP_HOLD_COUNT_COUNT]

/-- CLU_CTRL.SERVICE_EN, CLU bits [0:0] (R260). -/
def CLU_CTRL_SERVICE_EN : Fld := ⟨0x800000, 0, 1, .rw, .main, 0x10000, 10, 0x0, 1, none, fun _ => 0⟩
/-- CLU_CTRL.CORE_EN, CLU bits [7:4] (R260). -/
def CLU_CTRL_CORE_EN : Fld := ⟨0x800000, 4, 4, .rw, .main, 0x10000, 10, 0x0, 1, none, fun _ => 15⟩
/-- CLU_STATUS.STATE, CLU bits [1:0] (R260). -/
def CLU_STATUS_STATE : Fld := ⟨0x800008, 0, 2, .ro, .main, 0x10000, 10, 0x0, 1, none, fun k => if k ≤ 7 then 1 else 0⟩
/-- CLU_STATUS.CORES_FENCED, CLU bits [7:4] (R260). -/
def CLU_STATUS_CORES_FENCED : Fld := ⟨0x800008, 4, 4, .ro, .main, 0x10000, 10, 0x0, 1, none, fun _ => 0⟩
/-- CLU_STATUS.WORK_OCC, CLU bits [28:16] (R260). -/
def CLU_STATUS_WORK_OCC : Fld := ⟨0x800008, 16, 13, .ro, .main, 0x10000, 10, 0x0, 1, none, fun _ => 0⟩
/-- CLU_STATUS.HUB_USED, CLU bits [40:32] (R260). -/
def CLU_STATUS_HUB_USED : Fld := ⟨0x800008, 32, 9, .ro, .main, 0x10000, 10, 0x0, 1, none, fun _ => 0⟩
/-- CLU_PSTORE_ADDR.ADDR, CLU bits [18:2] (R260). -/
def CLU_PSTORE_ADDR_ADDR : Fld := ⟨0x800010, 2, 17, .rw, .main, 0x10000, 10, 0x0, 1, none, fun _ => 0⟩
/-- CLU_THR_CTRL.RUN, CLU bits [0:0] (R260). -/
def CLU_THR_CTRL_RUN : Fld := ⟨0x800100, 0, 1, .rw, .main, 0x10000, 10, 0x40, 8, none, fun _ => 0⟩
/-- CLU_THR_CTRL.TENANT, CLU bits [25:16] (R260). -/
def CLU_THR_CTRL_TENANT : Fld := ⟨0x800100, 16, 10, .rw, .main, 0x10000, 10, 0x40, 8, none, fun _ => 1023⟩
/-- CLU_THR_CTRL.CONTEXT, CLU bits [47:32] (R260). -/
def CLU_THR_CTRL_CONTEXT : Fld := ⟨0x800100, 32, 16, .rw, .main, 0x10000, 10, 0x40, 8, none, fun _ => 0⟩
/-- CLU_THR_PC.PC, CLU bits [18:2] (R260). -/
def CLU_THR_PC_PC : Fld := ⟨0x800108, 2, 17, .rw, .main, 0x10000, 10, 0x40, 8, none, fun _ => 0⟩
/-- CLU_THR_STATUS.STATE, CLU bits [2:0] (R260). -/
def CLU_THR_STATUS_STATE : Fld := ⟨0x800110, 0, 3, .ro, .main, 0x10000, 10, 0x40, 8, none, fun _ => 0⟩
/-- CLU_THR_STATUS.LATE, CLU bits [8:8] (R260). -/
def CLU_THR_STATUS_LATE : Fld := ⟨0x800110, 8, 1, .w1c, .main, 0x10000, 10, 0x40, 8, none, fun _ => 0⟩
/-- CLU_THR_STATUS.CANCELLED, CLU bits [9:9] (R260). -/
def CLU_THR_STATUS_CANCELLED : Fld := ⟨0x800110, 9, 1, .w1c, .main, 0x10000, 10, 0x40, 8, none, fun _ => 0⟩
/-- CLU_THR_STATUS.TRAP_CAUSE, CLU bits [19:16] (R260). -/
def CLU_THR_STATUS_TRAP_CAUSE : Fld := ⟨0x800110, 16, 4, .ro, .main, 0x10000, 10, 0x40, 8, none, fun _ => 0⟩
/-- CLU_THR_TRAP.TRAP_PC, CLU bits [18:2] (R260). -/
def CLU_THR_TRAP_TRAP_PC : Fld := ⟨0x800118, 2, 17, .ro, .main, 0x10000, 10, 0x40, 8, none, fun _ => 0⟩
/-- CLU_THR_TRAP.TRAP_ADDR, CLU bits [56:32] (R260). -/
def CLU_THR_TRAP_TRAP_ADDR : Fld := ⟨0x800118, 32, 25, .ro, .main, 0x10000, 10, 0x40, 8, none, fun _ => 0⟩
/-- CLU_BANK_OWN[b].OWNER, CLU bits [3:0] (R260). -/
def CLU_BANK_OWN_OWNER : Fld := ⟨0x800400, 0, 4, .rw, .main, 0x10000, 10, 0x8, 16, none, fun _ => 0⟩
/-- CLU_BANK_OWN[b].SHARE_RD, CLU bits [13:4] (R260). -/
def CLU_BANK_OWN_SHARE_RD : Fld := ⟨0x800400, 4, 10, .rw, .main, 0x10000, 10, 0x8, 16, none, fun _ => 0⟩
/-- CLU_BANK_OWN[b].TENANT, CLU bits [25:16] (R260). -/
def CLU_BANK_OWN_TENANT : Fld := ⟨0x800400, 16, 10, .rw, .main, 0x10000, 10, 0x8, 16, none, fun _ => 1023⟩
/-- CLU_BANK_OWN[b].ZEROING, CLU bits [26:26] (R260). -/
def CLU_BANK_OWN_ZEROING : Fld := ⟨0x800400, 26, 1, .ro, .main, 0x10000, 10, 0x8, 16, none, fun _ => 0⟩
/-- CLU_BANK_MAP[b].PHYS, CLU bits [4:0] (R260). -/
def CLU_BANK_MAP_PHYS : Fld := ⟨0x800480, 0, 5, .ro, .main, 0x10000, 10, 0x8, 16, none, fun k => k % 1024⟩
/-- CLU_BANK_MAP[b].SPARED, CLU bits [5:5] (R260). -/
def CLU_BANK_MAP_SPARED : Fld := ⟨0x800480, 5, 1, .ro, .main, 0x10000, 10, 0x8, 16, none, fun _ => 0⟩
/-- CLU_ARR_OWN.HOLDER, CLU bits [3:0] (R260). -/
def CLU_ARR_OWN_HOLDER : Fld := ⟨0x800500, 0, 4, .rw, .main, 0x10000, 10, 0x0, 1, none, fun _ => 0⟩
/-- CLU_ARR_OWN.TENANT, CLU bits [25:16] (R260). -/
def CLU_ARR_OWN_TENANT : Fld := ⟨0x800500, 16, 10, .ro, .main, 0x10000, 10, 0x0, 1, none, fun _ => 1023⟩
/-- CLU_SPK_OWN.HOLDER, CLU bits [3:0] (R260). -/
def CLU_SPK_OWN_HOLDER : Fld := ⟨0x800508, 0, 4, .rw, .main, 0x10000, 10, 0x0, 1, none, fun _ => 0⟩
/-- CLU_SPK_OWN.TENANT, CLU bits [25:16] (R260). -/
def CLU_SPK_OWN_TENANT : Fld := ⟨0x800508, 16, 10, .ro, .main, 0x10000, 10, 0x0, 1, none, fun _ => 1023⟩
/-- CLU_STREAM_STATUS[u].BUSY, CLU bits [7:0] (R260). -/
def CLU_STREAM_STATUS_BUSY : Fld := ⟨0x800600, 0, 8, .ro, .main, 0x10000, 10, 0x8, 4, none, fun _ => 0⟩
/-- CLU_STREAM_STATUS[u].PARKED, CLU bits [15:8] (R260). -/
def CLU_STREAM_STATUS_PARKED : Fld := ⟨0x800600, 8, 8, .ro, .main, 0x10000, 10, 0x8, 4, none, fun _ => 0⟩
/-- CLU_STREAM_STATUS[u].LAST_STATUS, CLU bits [23:16] (R260). -/
def CLU_STREAM_STATUS_LAST_STATUS : Fld := ⟨0x800600, 16, 8, .ro, .main, 0x10000, 10, 0x8, 4, none, fun _ => 0⟩
/-- CLU_STREAM_STATUS[u].OUTSTANDING, CLU bits [40:32] (R260). -/
def CLU_STREAM_STATUS_OUTSTANDING : Fld := ⟨0x800600, 32, 9, .ro, .main, 0x10000, 10, 0x8, 4, none, fun _ => 0⟩
/-- CLU_CONFLICT_STALLS.COUNT, CLU bits [63:0] (R260). -/
def CLU_CONFLICT_STALLS_COUNT : Fld := ⟨0x800700, 0, 64, .ro, .main, 0x10000, 10, 0x0, 1, none, fun _ => 0⟩
/-- CLU_TRAP_COUNT.COUNT, CLU bits [63:0] (R260). -/
def CLU_TRAP_COUNT_COUNT : Fld := ⟨0x800708, 0, 64, .ro, .main, 0x10000, 10, 0x0, 1, none, fun _ => 0⟩
/-- CLU_SCRATCH_VIOL.COUNT, CLU bits [63:0] (R260). -/
def CLU_SCRATCH_VIOL_COUNT : Fld := ⟨0x800710, 0, 64, .ro, .main, 0x10000, 10, 0x0, 1, none, fun _ => 0⟩
/-- CLU_HANDOVERS.COUNT, CLU bits [63:0] (R260). -/
def CLU_HANDOVERS_COUNT : Fld := ⟨0x800718, 0, 64, .ro, .main, 0x10000, 10, 0x0, 1, none, fun _ => 0⟩
/-- CLU_GLOBAL.IN_SERVICE, CLU bits [9:0] (R260). -/
def CLU_GLOBAL_IN_SERVICE : Fld := ⟨0x8A0000, 0, 10, .ro, .main, 0x0, 1, 0x0, 1, none, fun _ => 255⟩
/-- CLU_GLOBAL.FENCED, CLU bits [25:16] (R260). -/
def CLU_GLOBAL_FENCED : Fld := ⟨0x8A0000, 16, 10, .ro, .main, 0x0, 1, 0x0, 1, none, fun _ => 0⟩
/-- CLU_STEER_SEL.QP, CLU bits [13:0] (R260). -/
def CLU_STEER_SEL_QP : Fld := ⟨0x8A0008, 0, 14, .rw, .main, 0x0, 1, 0x0, 1, none, fun _ => 0⟩
/-- CLU_STEER_ENT.CLUSTER, CLU bits [3:0] (R260). -/
def CLU_STEER_ENT_CLUSTER : Fld := ⟨0x8A0010, 0, 4, .rw, .main, 0x0, 1, 0x0, 1, some (Fld.keyOf 0x8A0008 0), fun _ => 0⟩
/-- CLU_STEER_ENT.VALID, CLU bits [4:4] (R260). -/
def CLU_STEER_ENT_VALID : Fld := ⟨0x8A0010, 4, 1, .rw, .main, 0x0, 1, 0x0, 1, some (Fld.keyOf 0x8A0008 0), fun _ => 0⟩
/-- CLU_STEER_ENT.CLUSTER_ACT, CLU bits [11:8] (R260). -/
def CLU_STEER_ENT_CLUSTER_ACT : Fld := ⟨0x8A0010, 8, 4, .ro, .main, 0x0, 1, 0x0, 1, some (Fld.keyOf 0x8A0008 0), fun _ => 0⟩
/-- CLU_STEER_ENT.VALID_ACT, CLU bits [12:12] (R260). -/
def CLU_STEER_ENT_VALID_ACT : Fld := ⟨0x8A0010, 12, 1, .ro, .main, 0x0, 1, 0x0, 1, some (Fld.keyOf 0x8A0008 0), fun _ => 0⟩
/-- CLU_STEER_HOLD.COUNT, CLU bits [63:0] (R260). -/
def CLU_STEER_HOLD_COUNT : Fld := ⟨0x8A0018, 0, 64, .ro, .main, 0x0, 1, 0x0, 1, none, fun _ => 0⟩
/-- CLU_XFORM_SEL.INDEX, CLU bits [7:0] (R260). -/
def CLU_XFORM_SEL_INDEX : Fld := ⟨0x8A0020, 0, 8, .rw, .main, 0x0, 1, 0x0, 1, none, fun _ => 0⟩
/-- CLU_XFORM_ENT.VALID, CLU bits [0:0] (R260). -/
def CLU_XFORM_ENT_VALID : Fld := ⟨0x8A0028, 0, 1, .rw, .main, 0x0, 1, 0x0, 1, some (Fld.keyOf 0x8A0020 0), fun _ => 0⟩
/-- CLU_XFORM_ENT.ENTRY_PC, CLU bits [18:2] (R260). -/
def CLU_XFORM_ENT_ENTRY_PC : Fld := ⟨0x8A0028, 2, 17, .rw, .main, 0x0, 1, 0x0, 1, some (Fld.keyOf 0x8A0020 0), fun _ => 0⟩

/-- The fields of the CLU_ block. -/
def blockCLU : List Fld :=
  [CLU_CTRL_SERVICE_EN, CLU_CTRL_CORE_EN, CLU_STATUS_STATE, CLU_STATUS_CORES_FENCED, CLU_STATUS_WORK_OCC, CLU_STATUS_HUB_USED, CLU_PSTORE_ADDR_ADDR, CLU_THR_CTRL_RUN, CLU_THR_CTRL_TENANT, CLU_THR_CTRL_CONTEXT, CLU_THR_PC_PC, CLU_THR_STATUS_STATE] ++
  [CLU_THR_STATUS_LATE, CLU_THR_STATUS_CANCELLED, CLU_THR_STATUS_TRAP_CAUSE, CLU_THR_TRAP_TRAP_PC, CLU_THR_TRAP_TRAP_ADDR, CLU_BANK_OWN_OWNER, CLU_BANK_OWN_SHARE_RD, CLU_BANK_OWN_TENANT, CLU_BANK_OWN_ZEROING, CLU_BANK_MAP_PHYS, CLU_BANK_MAP_SPARED, CLU_ARR_OWN_HOLDER] ++
  [CLU_ARR_OWN_TENANT, CLU_SPK_OWN_HOLDER, CLU_SPK_OWN_TENANT, CLU_STREAM_STATUS_BUSY, CLU_STREAM_STATUS_PARKED, CLU_STREAM_STATUS_LAST_STATUS, CLU_STREAM_STATUS_OUTSTANDING, CLU_CONFLICT_STALLS_COUNT, CLU_TRAP_COUNT_COUNT, CLU_SCRATCH_VIOL_COUNT, CLU_HANDOVERS_COUNT, CLU_GLOBAL_IN_SERVICE] ++
  [CLU_GLOBAL_FENCED, CLU_STEER_SEL_QP, CLU_STEER_ENT_CLUSTER, CLU_STEER_ENT_VALID, CLU_STEER_ENT_CLUSTER_ACT, CLU_STEER_ENT_VALID_ACT, CLU_STEER_HOLD_COUNT, CLU_XFORM_SEL_INDEX, CLU_XFORM_ENT_VALID, CLU_XFORM_ENT_ENTRY_PC]

/-- ARR_CTRL.CHK_EN, ARR bits [0:0] (R293). -/
def ARR_CTRL_CHK_EN : Fld := ⟨0x900000, 0, 1, .rwl, .main, 0x10000, 10, 0x0, 1, none, fun _ => 1⟩
/-- ARR_CTRL.TOL_BITS, ARR bits [12:8] (R293). -/
def ARR_CTRL_TOL_BITS : Fld := ⟨0x900000, 8, 5, .rw, .main, 0x10000, 10, 0x0, 1, none, fun _ => 14⟩
/-- ARR_STATUS.ROW_SPARED, ARR bits [0:0] (R293). -/
def ARR_STATUS_ROW_SPARED : Fld := ⟨0x900008, 0, 1, .ro, .main, 0x10000, 10, 0x0, 1, none, fun _ => 0⟩
/-- ARR_STATUS.ROW_REPLACED, ARR bits [7:1] (R293). -/
def ARR_STATUS_ROW_REPLACED : Fld := ⟨0x900008, 1, 7, .ro, .main, 0x10000, 10, 0x0, 1, none, fun _ => 0⟩
/-- ARR_STATUS.COL_SPARED, ARR bits [8:8] (R293). -/
def ARR_STATUS_COL_SPARED : Fld := ⟨0x900008, 8, 1, .ro, .main, 0x10000, 10, 0x0, 1, none, fun _ => 0⟩
/-- ARR_STATUS.COL_REPLACED, ARR bits [15:9] (R293). -/
def ARR_STATUS_COL_REPLACED : Fld := ⟨0x900008, 9, 7, .ro, .main, 0x10000, 10, 0x0, 1, none, fun _ => 0⟩
/-- ARR_STATUS.STATE, ARR bits [17:16] (R293). -/
def ARR_STATUS_STATE : Fld := ⟨0x900008, 16, 2, .ro, .main, 0x10000, 10, 0x0, 1, none, fun _ => 0⟩
/-- ARR_CHK_LOG.ROW, ARR bits [6:0] (R293). -/
def ARR_CHK_LOG_ROW : Fld := ⟨0x900010, 0, 7, .ro, .main, 0x10000, 10, 0x0, 1, none, fun _ => 0⟩
/-- ARR_CHK_LOG.ROW_VALID, ARR bits [7:7] (R293). -/
def ARR_CHK_LOG_ROW_VALID : Fld := ⟨0x900010, 7, 1, .ro, .main, 0x10000, 10, 0x0, 1, none, fun _ => 0⟩
/-- ARR_CHK_LOG.COL, ARR bits [14:8] (R293). -/
def ARR_CHK_LOG_COL : Fld := ⟨0x900010, 8, 7, .ro, .main, 0x10000, 10, 0x0, 1, none, fun _ => 0⟩
/-- ARR_CHK_LOG.COL_VALID, ARR bits [15:15] (R293). -/
def ARR_CHK_LOG_COL_VALID : Fld := ⟨0x900010, 15, 1, .ro, .main, 0x10000, 10, 0x0, 1, none, fun _ => 0⟩
/-- ARR_CHK_LOG.SECOND_FAIL, ARR bits [16:16] (R293). -/
def ARR_CHK_LOG_SECOND_FAIL : Fld := ⟨0x900010, 16, 1, .ro, .main, 0x10000, 10, 0x0, 1, none, fun _ => 0⟩
/-- ARR_CHK_LOG.FMT, ARR bits [23:20] (R293). -/
def ARR_CHK_LOG_FMT : Fld := ⟨0x900010, 20, 4, .ro, .main, 0x10000, 10, 0x0, 1, none, fun _ => 0⟩
/-- ARR_CHK_LOG.VALID, ARR bits [24:24] (R293). -/
def ARR_CHK_LOG_VALID : Fld := ⟨0x900010, 24, 1, .w1c, .main, 0x10000, 10, 0x0, 1, none, fun _ => 0⟩
/-- ARR_CHK_FAIL.COUNT, ARR bits [63:0] (R293). -/
def ARR_CHK_FAIL_COUNT : Fld := ⟨0x900018, 0, 64, .ro, .main, 0x10000, 10, 0x0, 1, none, fun _ => 0⟩
/-- ARR_RECOMPUTE_OK.COUNT, ARR bits [63:0] (R293). -/
def ARR_RECOMPUTE_OK_COUNT : Fld := ⟨0x900020, 0, 64, .ro, .main, 0x10000, 10, 0x0, 1, none, fun _ => 0⟩
/-- ARR_PASSES.COUNT, ARR bits [63:0] (R293). -/
def ARR_PASSES_COUNT : Fld := ⟨0x900028, 0, 64, .ro, .main, 0x10000, 10, 0x0, 1, none, fun _ => 0⟩
/-- ARR_VRES.MISMATCH, ARR bits [31:0] (R293). -/
def ARR_VRES_MISMATCH : Fld := ⟨0x900030, 0, 32, .ro, .main, 0x10000, 10, 0x0, 1, none, fun _ => 0⟩
/-- ARR_VRES.RETRY_OK, ARR bits [63:32] (R293). -/
def ARR_VRES_RETRY_OK : Fld := ⟨0x900030, 32, 32, .ro, .main, 0x10000, 10, 0x0, 1, none, fun _ => 0⟩
/-- ARR_THR_FP.ROUND, ARR bits [0:0] (R293). -/
def ARR_THR_FP_ROUND : Fld := ⟨0x900100, 0, 1, .rw, .main, 0x10000, 10, 0x20, 8, none, fun _ => 0⟩
/-- ARR_THR_FP.SAT, ARR bits [1:1] (R293). -/
def ARR_THR_FP_SAT : Fld := ⟨0x900100, 1, 1, .rw, .main, 0x10000, 10, 0x20, 8, none, fun _ => 1⟩
/-- ARR_THR_FP.INVALID, ARR bits [8:8] (R293). -/
def ARR_THR_FP_INVALID : Fld := ⟨0x900100, 8, 1, .w1c, .main, 0x10000, 10, 0x20, 8, none, fun _ => 0⟩
/-- ARR_THR_FP.OVERFLOW, ARR bits [9:9] (R293). -/
def ARR_THR_FP_OVERFLOW : Fld := ⟨0x900100, 9, 1, .w1c, .main, 0x10000, 10, 0x20, 8, none, fun _ => 0⟩
/-- ARR_THR_FP.UNDERFLOW, ARR bits [10:10] (R293). -/
def ARR_THR_FP_UNDERFLOW : Fld := ⟨0x900100, 10, 1, .w1c, .main, 0x10000, 10, 0x20, 8, none, fun _ => 0⟩
/-- ARR_THR_FP.INEXACT, ARR bits [11:11] (R293). -/
def ARR_THR_FP_INEXACT : Fld := ⟨0x900100, 11, 1, .w1c, .main, 0x10000, 10, 0x20, 8, none, fun _ => 0⟩
/-- ARR_THR_FP.SATURATED, ARR bits [12:12] (R293). -/
def ARR_THR_FP_SATURATED : Fld := ⟨0x900100, 12, 1, .w1c, .main, 0x10000, 10, 0x20, 8, none, fun _ => 0⟩
/-- ARR_SR_SEED.SEED, ARR bits [63:0] (R293). -/
def ARR_SR_SEED_SEED : Fld := ⟨0x900108, 0, 64, .rw, .main, 0x10000, 10, 0x20, 8, none, fun _ => 0⟩
/-- ARR_SR_IDX.CHUNK, ARR bits [31:0] (R293). -/
def ARR_SR_IDX_CHUNK : Fld := ⟨0x900110, 0, 32, .rw, .main, 0x10000, 10, 0x20, 8, none, fun _ => 0⟩
/-- ARR_SR_IDX.ELEM, ARR bits [63:32] (R293). -/
def ARR_SR_IDX_ELEM : Fld := ⟨0x900110, 32, 32, .rw, .main, 0x10000, 10, 0x20, 8, none, fun _ => 0⟩

/-- The fields of the ARR_ block. -/
def blockARR : List Fld :=
  [ARR_CTRL_CHK_EN, ARR_CTRL_TOL_BITS, ARR_STATUS_ROW_SPARED, ARR_STATUS_ROW_REPLACED, ARR_STATUS_COL_SPARED, ARR_STATUS_COL_REPLACED, ARR_STATUS_STATE, ARR_CHK_LOG_ROW, ARR_CHK_LOG_ROW_VALID, ARR_CHK_LOG_COL, ARR_CHK_LOG_COL_VALID, ARR_CHK_LOG_SECOND_FAIL] ++
  [ARR_CHK_LOG_FMT, ARR_CHK_LOG_VALID, ARR_CHK_FAIL_COUNT, ARR_RECOMPUTE_OK_COUNT, ARR_PASSES_COUNT, ARR_VRES_MISMATCH, ARR_VRES_RETRY_OK, ARR_THR_FP_ROUND, ARR_THR_FP_SAT, ARR_THR_FP_INVALID, ARR_THR_FP_OVERFLOW, ARR_THR_FP_UNDERFLOW] ++
  [ARR_THR_FP_INEXACT, ARR_THR_FP_SATURATED, ARR_SR_SEED_SEED, ARR_SR_IDX_CHUNK, ARR_SR_IDX_ELEM]

/-- SPK_CFG.IN_FMT, SPK bits [3:0] (R294). -/
def SPK_CFG_IN_FMT : Fld := ⟨0xA00000, 0, 4, .ro, .main, 0x10000, 10, 0x0, 1, none, fun _ => 1⟩
/-- SPK_CFG.IN2_FMT, SPK bits [7:4] (R294). -/
def SPK_CFG_IN2_FMT : Fld := ⟨0xA00000, 4, 4, .ro, .main, 0x10000, 10, 0x0, 1, none, fun _ => 1⟩
/-- SPK_CFG.OUT_FMT, SPK bits [11:8] (R294). -/
def SPK_CFG_OUT_FMT : Fld := ⟨0xA00000, 8, 4, .ro, .main, 0x10000, 10, 0x0, 1, none, fun _ => 1⟩
/-- SPK_CFG.ROUND, SPK bits [12:12] (R294). -/
def SPK_CFG_ROUND : Fld := ⟨0xA00000, 12, 1, .ro, .main, 0x10000, 10, 0x0, 1, none, fun _ => 0⟩
/-- SPK_CFG.SAT, SPK bits [13:13] (R294). -/
def SPK_CFG_SAT : Fld := ⟨0xA00000, 13, 1, .ro, .main, 0x10000, 10, 0x0, 1, none, fun _ => 1⟩
/-- SPK_STATUS.BUSY, SPK bits [0:0] (R294). -/
def SPK_STATUS_BUSY : Fld := ⟨0xA00008, 0, 1, .ro, .main, 0x10000, 10, 0x0, 1, none, fun _ => 0⟩
/-- SPK_STATUS.OVERFLOW, SPK bits [8:8] (R294). -/
def SPK_STATUS_OVERFLOW : Fld := ⟨0xA00008, 8, 1, .w1c, .main, 0x10000, 10, 0x0, 1, none, fun _ => 0⟩
/-- SPK_STATUS.INVALID, SPK bits [9:9] (R294). -/
def SPK_STATUS_INVALID : Fld := ⟨0xA00008, 9, 1, .w1c, .main, 0x10000, 10, 0x0, 1, none, fun _ => 0⟩
/-- SPK_STATUS.PRODUCT_INEXACT, SPK bits [10:10] (R294). -/
def SPK_STATUS_PRODUCT_INEXACT : Fld := ⟨0xA00008, 10, 1, .w1c, .main, 0x10000, 10, 0x0, 1, none, fun _ => 0⟩
/-- SPK_STATUS.INEXACT, SPK bits [11:11] (R294). -/
def SPK_STATUS_INEXACT : Fld := ⟨0xA00008, 11, 1, .w1c, .main, 0x10000, 10, 0x0, 1, none, fun _ => 0⟩
/-- SPK_STATUS.POISONED, SPK bits [12:12] (R294). -/
def SPK_STATUS_POISONED : Fld := ⟨0xA00008, 12, 1, .w1c, .main, 0x10000, 10, 0x0, 1, none, fun _ => 0⟩
/-- SPK_ADDENDS.COUNT, SPK bits [63:0] (R294). -/
def SPK_ADDENDS_COUNT : Fld := ⟨0xA00010, 0, 64, .ro, .main, 0x10000, 10, 0x0, 1, none, fun _ => 0⟩
/-- SPK_RES_ERR.COUNT, SPK bits [63:0] (R294). -/
def SPK_RES_ERR_COUNT : Fld := ⟨0xA00018, 0, 64, .ro, .main, 0x10000, 10, 0x0, 1, none, fun _ => 0⟩
/-- SPK_POISON_LOG.ACC, SPK bits [13:0] (R294). -/
def SPK_POISON_LOG_ACC : Fld := ⟨0xA00020, 0, 14, .ro, .main, 0x10000, 10, 0x0, 1, none, fun _ => 0⟩
/-- SPK_POISON_LOG.VALID, SPK bits [16:16] (R294). -/
def SPK_POISON_LOG_VALID : Fld := ⟨0xA00020, 16, 1, .w1c, .main, 0x10000, 10, 0x0, 1, none, fun _ => 0⟩
/-- SPK_RW_OVF.COUNT, SPK bits [63:0] (R294). -/
def SPK_RW_OVF_COUNT : Fld := ⟨0xA00028, 0, 64, .ro, .main, 0x10000, 10, 0x0, 1, none, fun _ => 0⟩

/-- The fields of the SPK_ block. -/
def blockSPK : List Fld :=
  [SPK_CFG_IN_FMT, SPK_CFG_IN2_FMT, SPK_CFG_OUT_FMT, SPK_CFG_ROUND, SPK_CFG_SAT, SPK_STATUS_BUSY, SPK_STATUS_OVERFLOW, SPK_STATUS_INVALID, SPK_STATUS_PRODUCT_INEXACT, SPK_STATUS_INEXACT, SPK_STATUS_POISONED, SPK_ADDENDS_COUNT] ++
  [SPK_RES_ERR_COUNT, SPK_POISON_LOG_ACC, SPK_POISON_LOG_VALID, SPK_RW_OVF_COUNT]

/-- TEN_CTRL.KEEP_HOLD_S, TEN bits [15:0] (R349). -/
def TEN_CTRL_KEEP_HOLD_S : Fld := ⟨0xC00000, 0, 16, .rw, .main, 0x0, 1, 0x0, 1, none, fun _ => 300⟩
/-- TEN_WIPE_STATUS.BUSY, TEN bits [0:0] (R349). -/
def TEN_WIPE_STATUS_BUSY : Fld := ⟨0xC00008, 0, 1, .ro, .main, 0x0, 1, 0x0, 1, none, fun _ => 0⟩
/-- TEN_WIPE_STATUS.FULL, TEN bits [1:1] (R349). -/
def TEN_WIPE_STATUS_FULL : Fld := ⟨0xC00008, 1, 1, .ro, .main, 0x0, 1, 0x0, 1, none, fun _ => 0⟩
/-- TEN_WIPE_STATUS.UNITS_LEFT, TEN bits [46:32] (R349). -/
def TEN_WIPE_STATUS_UNITS_LEFT : Fld := ⟨0xC00008, 32, 15, .ro, .main, 0x0, 1, 0x0, 1, none, fun _ => 0⟩
/-- TEN_SEL.TENANT, TEN bits [9:0] (R349). -/
def TEN_SEL_TENANT : Fld := ⟨0xC00010, 0, 10, .rw, .main, 0x0, 1, 0x0, 1, none, fun _ => 0⟩
/-- TEN_SLICE0.STATE, TEN bits [2:0] (R349). -/
def TEN_SLICE0_STATE : Fld := ⟨0xC00018, 0, 3, .ro, .main, 0x0, 1, 0x0, 1, some (Fld.keyOf 0xC00010 0), fun _ => 0⟩
/-- TEN_SLICE0.POOL, TEN bits [10:8] (R349). -/
def TEN_SLICE0_POOL : Fld := ⟨0xC00018, 8, 3, .ro, .main, 0x0, 1, 0x0, 1, some (Fld.keyOf 0xC00010 0), fun _ => 0⟩
/-- TEN_SLICE0.QP_BASE, TEN bits [29:16] (R349). -/
def TEN_SLICE0_QP_BASE : Fld := ⟨0xC00018, 16, 14, .ro, .main, 0x0, 1, 0x0, 1, some (Fld.keyOf 0xC00010 0), fun _ => 0⟩
/-- TEN_SLICE0.QP_COUNT, TEN bits [46:32] (R349). -/
def TEN_SLICE0_QP_COUNT : Fld := ⟨0xC00018, 32, 15, .ro, .main, 0x0, 1, 0x0, 1, some (Fld.keyOf 0xC00010 0), fun _ => 0⟩
/-- TEN_SLICE1.CQ_BASE, TEN bits [11:0] (R349). -/
def TEN_SLICE1_CQ_BASE : Fld := ⟨0xC00020, 0, 12, .ro, .main, 0x0, 1, 0x0, 1, some (Fld.keyOf 0xC00010 0), fun _ => 0⟩
/-- TEN_SLICE1.CQ_COUNT, TEN bits [28:16] (R349). -/
def TEN_SLICE1_CQ_COUNT : Fld := ⟨0xC00020, 16, 13, .ro, .main, 0x0, 1, 0x0, 1, some (Fld.keyOf 0xC00010 0), fun _ => 0⟩
/-- TEN_SLICE1.PEL_BASE, TEN bits [43:32] (R349). -/
def TEN_SLICE1_PEL_BASE : Fld := ⟨0xC00020, 32, 12, .ro, .main, 0x0, 1, 0x0, 1, some (Fld.keyOf 0xC00010 0), fun _ => 0⟩
/-- TEN_SLICE1.PEL_COUNT, TEN bits [60:48] (R349). -/
def TEN_SLICE1_PEL_COUNT : Fld := ⟨0xC00020, 48, 13, .ro, .main, 0x0, 1, 0x0, 1, some (Fld.keyOf 0xC00010 0), fun _ => 0⟩
/-- TEN_SLICE2.GDDR7_UNITS, TEN bits [14:0] (R349). -/
def TEN_SLICE2_GDDR7_UNITS : Fld := ⟨0xC00028, 0, 15, .ro, .main, 0x0, 1, 0x0, 1, some (Fld.keyOf 0xC00010 0), fun _ => 0⟩
/-- TEN_SLICE2.UNITS_USED, TEN bits [30:16] (R349). -/
def TEN_SLICE2_UNITS_USED : Fld := ⟨0xC00028, 16, 15, .ro, .main, 0x0, 1, 0x0, 1, some (Fld.keyOf 0xC00010 0), fun _ => 0⟩
/-- TEN_SLICE2.REGIONS, TEN bits [48:32] (R349). -/
def TEN_SLICE2_REGIONS : Fld := ⟨0xC00028, 32, 17, .ro, .main, 0x0, 1, 0x0, 1, some (Fld.keyOf 0xC00010 0), fun _ => 0⟩
/-- TEN_SLICE3.CONTEXTS, TEN bits [14:0] (R349). -/
def TEN_SLICE3_CONTEXTS : Fld := ⟨0xC00030, 0, 15, .ro, .main, 0x0, 1, 0x0, 1, some (Fld.keyOf 0xC00010 0), fun _ => 0⟩
/-- TEN_SLICE3.BANKS, TEN bits [20:16] (R349). -/
def TEN_SLICE3_BANKS : Fld := ⟨0xC00030, 16, 5, .ro, .main, 0x0, 1, 0x0, 1, some (Fld.keyOf 0xC00010 0), fun _ => 0⟩
/-- TEN_SLICE3.XLT_QUOTA, TEN bits [31:24] (R349). -/
def TEN_SLICE3_XLT_QUOTA : Fld := ⟨0xC00030, 24, 8, .ro, .main, 0x0, 1, 0x0, 1, some (Fld.keyOf 0xC00010 0), fun _ => 0⟩
/-- TEN_SLICE3.CIPHER_CTX, TEN bits [42:32] (R349). -/
def TEN_SLICE3_CIPHER_CTX : Fld := ⟨0xC00030, 32, 11, .ro, .main, 0x0, 1, 0x0, 1, some (Fld.keyOf 0xC00010 0), fun _ => 0⟩
/-- TEN_SLICE3.TSHAPERS, TEN bits [44:43] (R349). -/
def TEN_SLICE3_TSHAPERS : Fld := ⟨0xC00030, 43, 2, .ro, .main, 0x0, 1, 0x0, 1, some (Fld.keyOf 0xC00010 0), fun _ => 0⟩
/-- TEN_SLICE3.METERS, TEN bits [47:45] (R349). -/
def TEN_SLICE3_METERS : Fld := ⟨0xC00030, 45, 3, .ro, .main, 0x0, 1, 0x0, 1, some (Fld.keyOf 0xC00010 0), fun _ => 0⟩
/-- TEN_SLICE3.QSHAPERS, TEN bits [61:48] (R349). -/
def TEN_SLICE3_QSHAPERS : Fld := ⟨0xC00030, 48, 14, .ro, .main, 0x0, 1, 0x0, 1, some (Fld.keyOf 0xC00010 0), fun _ => 0⟩
/-- TEN_SLICE4.FREEZE_AT, TEN bits [63:0] (R349). -/
def TEN_SLICE4_FREEZE_AT : Fld := ⟨0xC00038, 0, 64, .ro, .main, 0x0, 1, 0x0, 1, some (Fld.keyOf 0xC00010 0), fun _ => 0⟩
/-- TEN_SLICE5.LEGACY, TEN bits [7:0] (R349). -/
def TEN_SLICE5_LEGACY : Fld := ⟨0xC00040, 0, 8, .ro, .main, 0x0, 1, 0x0, 1, some (Fld.keyOf 0xC00010 0), fun _ => 0⟩
/-- TEN_EXT_SEL.INDEX, TEN bits [11:0] (R349). -/
def TEN_EXT_SEL_INDEX : Fld := ⟨0xC00100, 0, 12, .rw, .main, 0x0, 1, 0x0, 1, none, fun _ => 0⟩
/-- TEN_EXT0.STATE, TEN bits [2:0] (R349). -/
def TEN_EXT0_STATE : Fld := ⟨0xC00108, 0, 3, .ro, .main, 0x0, 1, 0x0, 1, some (Fld.keyOf 0xC00100 0), fun _ => 0⟩
/-- TEN_EXT0.KEEP, TEN bits [3:3] (R349). -/
def TEN_EXT0_KEEP : Fld := ⟨0xC00108, 3, 1, .ro, .main, 0x0, 1, 0x0, 1, some (Fld.keyOf 0xC00100 0), fun _ => 0⟩
/-- TEN_EXT0.ANY_CONTEXT, TEN bits [4:4] (R349). -/
def TEN_EXT0_ANY_CONTEXT : Fld := ⟨0xC00108, 4, 1, .ro, .main, 0x0, 1, 0x0, 1, some (Fld.keyOf 0xC00100 0), fun _ => 0⟩
/-- TEN_EXT0.TENANT, TEN bits [17:8] (R349). -/
def TEN_EXT0_TENANT : Fld := ⟨0xC00108, 8, 10, .ro, .main, 0x0, 1, 0x0, 1, some (Fld.keyOf 0xC00100 0), fun _ => 0⟩
/-- TEN_EXT0.ATTACH, TEN bits [20:18] (R349). -/
def TEN_EXT0_ATTACH : Fld := ⟨0xC00108, 18, 3, .ro, .main, 0x0, 1, 0x0, 1, some (Fld.keyOf 0xC00100 0), fun _ => 0⟩
/-- TEN_EXT0.CONTEXT, TEN bits [47:32] (R349). -/
def TEN_EXT0_CONTEXT : Fld := ⟨0xC00108, 32, 16, .ro, .main, 0x0, 1, 0x0, 1, some (Fld.keyOf 0xC00100 0), fun _ => 0⟩
/-- TEN_EXT1.BASE_UNIT, TEN bits [14:0] (R349). -/
def TEN_EXT1_BASE_UNIT : Fld := ⟨0xC00110, 0, 15, .ro, .main, 0x0, 1, 0x0, 1, some (Fld.keyOf 0xC00100 0), fun _ => 0⟩
/-- TEN_EXT1.UNITS, TEN bits [30:16] (R349). -/
def TEN_EXT1_UNITS : Fld := ⟨0xC00110, 16, 15, .ro, .main, 0x0, 1, 0x0, 1, some (Fld.keyOf 0xC00100 0), fun _ => 0⟩
/-- TEN_EP_SEL.RECORD, TEN bits [3:0] (R349). -/
def TEN_EP_SEL_RECORD : Fld := ⟨0xC00200, 0, 4, .rw, .main, 0x0, 1, 0x0, 1, none, fun _ => 0⟩
/-- TEN_EP_ID.ID, TEN bits [63:0] (R349). -/
def TEN_EP_ID_ID : Fld := ⟨0xC00208, 0, 64, .ro, .main, 0x0, 1, 0x0, 1, some (Fld.keyOf 0xC00200 0), fun _ => 0⟩
/-- TEN_EP_TEN[k].TENANT, TEN bits [9:0] (R349). -/
def TEN_EP_TEN_TENANT : Fld := ⟨0xC00300, 0, 10, .ro, .main, 0x8, 32, 0x0, 1, some (Fld.keyOf 0xC00200 0), fun _ => 0⟩
/-- TEN_EP_TEN[k].VALID, TEN bits [10:10] (R349). -/
def TEN_EP_TEN_VALID : Fld := ⟨0xC00300, 10, 1, .ro, .main, 0x8, 32, 0x0, 1, some (Fld.keyOf 0xC00200 0), fun _ => 0⟩
/-- TEN_FROZEN_WR.COUNT, TEN bits [63:0] (R349). -/
def TEN_FROZEN_WR_COUNT : Fld := ⟨0xC00400, 0, 64, .ro, .main, 0x0, 1, 0x0, 1, none, fun _ => 0⟩
/-- TEN_WIPES.COUNT, TEN bits [63:0] (R349). -/
def TEN_WIPES_COUNT : Fld := ⟨0xC00408, 0, 64, .ro, .main, 0x0, 1, 0x0, 1, none, fun _ => 0⟩
/-- TEN_KEEP_EXPIRED.COUNT, TEN bits [63:0] (R349). -/
def TEN_KEEP_EXPIRED_COUNT : Fld := ⟨0xC00410, 0, 64, .ro, .main, 0x0, 1, 0x0, 1, none, fun _ => 0⟩
/-- TEN_BIND_REFUSED.COUNT, TEN bits [63:0] (R349). -/
def TEN_BIND_REFUSED_COUNT : Fld := ⟨0xC00418, 0, 64, .ro, .main, 0x0, 1, 0x0, 1, none, fun _ => 0⟩

/-- The fields of the TEN_ block. -/
def blockTEN : List Fld :=
  [TEN_CTRL_KEEP_HOLD_S, TEN_WIPE_STATUS_BUSY, TEN_WIPE_STATUS_FULL, TEN_WIPE_STATUS_UNITS_LEFT, TEN_SEL_TENANT, TEN_SLICE0_STATE, TEN_SLICE0_POOL, TEN_SLICE0_QP_BASE, TEN_SLICE0_QP_COUNT, TEN_SLICE1_CQ_BASE, TEN_SLICE1_CQ_COUNT, TEN_SLICE1_PEL_BASE] ++
  [TEN_SLICE1_PEL_COUNT, TEN_SLICE2_GDDR7_UNITS, TEN_SLICE2_UNITS_USED, TEN_SLICE2_REGIONS, TEN_SLICE3_CONTEXTS, TEN_SLICE3_BANKS, TEN_SLICE3_XLT_QUOTA, TEN_SLICE3_CIPHER_CTX, TEN_SLICE3_TSHAPERS, TEN_SLICE3_METERS, TEN_SLICE3_QSHAPERS, TEN_SLICE4_FREEZE_AT] ++
  [TEN_SLICE5_LEGACY, TEN_EXT_SEL_INDEX, TEN_EXT0_STATE, TEN_EXT0_KEEP, TEN_EXT0_ANY_CONTEXT, TEN_EXT0_TENANT, TEN_EXT0_ATTACH, TEN_EXT0_CONTEXT, TEN_EXT1_BASE_UNIT, TEN_EXT1_UNITS, TEN_EP_SEL_RECORD, TEN_EP_ID_ID] ++
  [TEN_EP_TEN_TENANT, TEN_EP_TEN_VALID, TEN_FROZEN_WR_COUNT, TEN_WIPES_COUNT, TEN_KEEP_EXPIRED_COUNT, TEN_BIND_REFUSED_COUNT]

/-- CIP_CTRL.ENABLE, CIP bits [0:0] (R368). -/
def CIP_CTRL_ENABLE : Fld := ⟨0xD00000, 0, 1, .rw, .main, 0x0, 1, 0x0, 1, none, fun _ => 0⟩
/-- CIP_CTRL.TANDEM_EN, CIP bits [1:1] (R368). -/
def CIP_CTRL_TANDEM_EN : Fld := ⟨0xD00000, 1, 1, .rwl, .main, 0x0, 1, 0x0, 1, none, fun _ => 1⟩
/-- CIP_CORES.IN_SERVICE, CIP bits [15:0] (R368). -/
def CIP_CORES_IN_SERVICE : Fld := ⟨0xD00008, 0, 16, .ro, .main, 0x0, 1, 0x0, 1, none, fun _ => 16383⟩
/-- CIP_CORES.FENCED, CIP bits [31:16] (R368). -/
def CIP_CORES_FENCED : Fld := ⟨0xD00008, 16, 16, .ro, .main, 0x0, 1, 0x0, 1, none, fun _ => 0⟩
/-- CIP_CTX_SEL.INDEX, CIP bits [10:0] (R368). -/
def CIP_CTX_SEL_INDEX : Fld := ⟨0xD00010, 0, 11, .rw, .main, 0x0, 1, 0x0, 1, none, fun _ => 0⟩
/-- CIP_CTX0.VALID, CIP bits [0:0] (R368). -/
def CIP_CTX0_VALID : Fld := ⟨0xD00018, 0, 1, .ro, .main, 0x0, 1, 0x0, 1, some (Fld.keyOf 0xD00010 0), fun _ => 0⟩
/-- CIP_CTX0.TX_PHASE, CIP bits [1:1] (R368). -/
def CIP_CTX0_TX_PHASE : Fld := ⟨0xD00018, 1, 1, .ro, .main, 0x0, 1, 0x0, 1, some (Fld.keyOf 0xD00010 0), fun _ => 0⟩
/-- CIP_CTX0.SLOT0_VALID, CIP bits [2:2] (R368). -/
def CIP_CTX0_SLOT0_VALID : Fld := ⟨0xD00018, 2, 1, .ro, .main, 0x0, 1, 0x0, 1, some (Fld.keyOf 0xD00010 0), fun _ => 0⟩
/-- CIP_CTX0.SLOT1_VALID, CIP bits [3:3] (R368). -/
def CIP_CTX0_SLOT1_VALID : Fld := ⟨0xD00018, 3, 1, .ro, .main, 0x0, 1, 0x0, 1, some (Fld.keyOf 0xD00010 0), fun _ => 0⟩
/-- CIP_CTX0.REKEY_REQ, CIP bits [4:4] (R368). -/
def CIP_CTX0_REKEY_REQ : Fld := ⟨0xD00018, 4, 1, .ro, .main, 0x0, 1, 0x0, 1, some (Fld.keyOf 0xD00010 0), fun _ => 0⟩
/-- CIP_CTX0.EXHAUSTED, CIP bits [5:5] (R368). -/
def CIP_CTX0_EXHAUSTED : Fld := ⟨0xD00018, 5, 1, .ro, .main, 0x0, 1, 0x0, 1, some (Fld.keyOf 0xD00010 0), fun _ => 0⟩
/-- CIP_CTX0.SLOT0_USED, CIP bits [6:6] (R368). -/
def CIP_CTX0_SLOT0_USED : Fld := ⟨0xD00018, 6, 1, .ro, .main, 0x0, 1, 0x0, 1, some (Fld.keyOf 0xD00010 0), fun _ => 0⟩
/-- CIP_CTX0.SLOT1_USED, CIP bits [7:7] (R368). -/
def CIP_CTX0_SLOT1_USED : Fld := ⟨0xD00018, 7, 1, .ro, .main, 0x0, 1, 0x0, 1, some (Fld.keyOf 0xD00010 0), fun _ => 0⟩
/-- CIP_CTX0.TENANT, CIP bits [17:8] (R368). -/
def CIP_CTX0_TENANT : Fld := ⟨0xD00018, 8, 10, .ro, .main, 0x0, 1, 0x0, 1, some (Fld.keyOf 0xD00010 0), fun _ => 0⟩
/-- CIP_CTX0.KEY_ID0, CIP bits [47:32] (R368). -/
def CIP_CTX0_KEY_ID0 : Fld := ⟨0xD00018, 32, 16, .ro, .main, 0x0, 1, 0x0, 1, some (Fld.keyOf 0xD00010 0), fun _ => 0⟩
/-- CIP_CTX0.KEY_ID1, CIP bits [63:48] (R368). -/
def CIP_CTX0_KEY_ID1 : Fld := ⟨0xD00018, 48, 16, .ro, .main, 0x0, 1, 0x0, 1, some (Fld.keyOf 0xD00010 0), fun _ => 0⟩
/-- CIP_CTX_CTR.COUNTER, CIP bits [63:0] (R368). -/
def CIP_CTX_CTR_COUNTER : Fld := ⟨0xD00020, 0, 64, .ro, .main, 0x0, 1, 0x0, 1, some (Fld.keyOf 0xD00010 0), fun _ => 0⟩
/-- CIP_CTX_SEALED.COUNT, CIP bits [63:0] (R368). -/
def CIP_CTX_SEALED_COUNT : Fld := ⟨0xD00028, 0, 64, .ro, .main, 0x0, 1, 0x0, 1, some (Fld.keyOf 0xD00010 0), fun _ => 0⟩
/-- CIP_CTX_OPENED.COUNT, CIP bits [63:0] (R368). -/
def CIP_CTX_OPENED_COUNT : Fld := ⟨0xD00030, 0, 64, .ro, .main, 0x0, 1, 0x0, 1, some (Fld.keyOf 0xD00010 0), fun _ => 0⟩
/-- CIP_CTX_AUTH_FAIL.COUNT, CIP bits [63:0] (R368). -/
def CIP_CTX_AUTH_FAIL_COUNT : Fld := ⟨0xD00038, 0, 64, .ro, .main, 0x0, 1, 0x0, 1, some (Fld.keyOf 0xD00010 0), fun _ => 0⟩
/-- CIP_QP_SEL.INDEX, CIP bits [13:0] (R368). -/
def CIP_QP_SEL_INDEX : Fld := ⟨0xD00040, 0, 14, .rw, .main, 0x0, 1, 0x0, 1, none, fun _ => 0⟩
/-- CIP_QP_CTX.CONTEXT, CIP bits [10:0] (R368). -/
def CIP_QP_CTX_CONTEXT : Fld := ⟨0xD00048, 0, 11, .rw, .main, 0x0, 1, 0x0, 1, some (Fld.keyOf 0xD00040 0), fun _ => 0⟩
/-- CIP_QP_CTX.VALID, CIP bits [11:11] (R368). -/
def CIP_QP_CTX_VALID : Fld := ⟨0xD00048, 11, 1, .rw, .main, 0x0, 1, 0x0, 1, some (Fld.keyOf 0xD00040 0), fun _ => 0⟩
/-- CIP_AUTH_LOG0.SRC_MODULE, CIP bits [15:0] (R368). -/
def CIP_AUTH_LOG0_SRC_MODULE : Fld := ⟨0xD00050, 0, 16, .ro, .main, 0x0, 1, 0x0, 1, none, fun _ => 0⟩
/-- CIP_AUTH_LOG0.DST_QP, CIP bits [29:16] (R368). -/
def CIP_AUTH_LOG0_DST_QP : Fld := ⟨0xD00050, 16, 14, .ro, .main, 0x0, 1, 0x0, 1, none, fun _ => 0⟩
/-- CIP_AUTH_LOG0.CONTEXT, CIP bits [42:32] (R368). -/
def CIP_AUTH_LOG0_CONTEXT : Fld := ⟨0xD00050, 32, 11, .ro, .main, 0x0, 1, 0x0, 1, none, fun _ => 0⟩
/-- CIP_AUTH_LOG0.VALID, CIP bits [63:63] (R368). -/
def CIP_AUTH_LOG0_VALID : Fld := ⟨0xD00050, 63, 1, .w1c, .main, 0x0, 1, 0x0, 1, none, fun _ => 0⟩
/-- CIP_AUTH_LOG1.NONCE_CTR, CIP bits [63:0] (R368). -/
def CIP_AUTH_LOG1_NONCE_CTR : Fld := ⟨0xD00058, 0, 64, .ro, .main, 0x0, 1, 0x0, 1, none, fun _ => 0⟩
/-- CIP_SEALED.COUNT, CIP bits [63:0] (R368). -/
def CIP_SEALED_COUNT : Fld := ⟨0xD00060, 0, 64, .ro, .main, 0x0, 1, 0x0, 1, none, fun _ => 0⟩
/-- CIP_OPENED.COUNT, CIP bits [63:0] (R368). -/
def CIP_OPENED_COUNT : Fld := ⟨0xD00068, 0, 64, .ro, .main, 0x0, 1, 0x0, 1, none, fun _ => 0⟩
/-- CIP_AUTH_FAIL.COUNT, CIP bits [63:0] (R368). -/
def CIP_AUTH_FAIL_COUNT : Fld := ⟨0xD00070, 0, 64, .ro, .main, 0x0, 1, 0x0, 1, none, fun _ => 0⟩
/-- CIP_TANDEM_RETRY_OK.COUNT, CIP bits [63:0] (R368). -/
def CIP_TANDEM_RETRY_OK_COUNT : Fld := ⟨0xD00078, 0, 64, .ro, .main, 0x0, 1, 0x0, 1, none, fun _ => 0⟩
/-- CIP_TANDEM_FAIL.COUNT, CIP bits [63:0] (R368). -/
def CIP_TANDEM_FAIL_COUNT : Fld := ⟨0xD00080, 0, 64, .ro, .main, 0x0, 1, 0x0, 1, none, fun _ => 0⟩
/-- CIP_UNWRAP_FAIL.COUNT, CIP bits [63:0] (R368). -/
def CIP_UNWRAP_FAIL_COUNT : Fld := ⟨0xD00088, 0, 64, .ro, .main, 0x0, 1, 0x0, 1, none, fun _ => 0⟩
/-- CIP_SEAL_REFUSED.COUNT, CIP bits [63:0] (R368). -/
def CIP_SEAL_REFUSED_COUNT : Fld := ⟨0xD00090, 0, 64, .ro, .main, 0x0, 1, 0x0, 1, none, fun _ => 0⟩
/-- CIP_CORE_STAT[k].STATE, CIP bits [1:0] (R368). -/
def CIP_CORE_STAT_STATE : Fld := ⟨0xD00100, 0, 2, .ro, .main, 0x8, 16, 0x0, 1, none, fun k => if k ≤ 13 then 0 else 1⟩
/-- CIP_CORE_STAT[k].TANDEM_MISMATCH, CIP bits [63:32] (R368). -/
def CIP_CORE_STAT_TANDEM_MISMATCH : Fld := ⟨0xD00100, 32, 32, .ro, .main, 0x8, 16, 0x0, 1, none, fun _ => 0⟩

/-- The fields of the CIP_ block. -/
def blockCIP : List Fld :=
  [CIP_CTRL_ENABLE, CIP_CTRL_TANDEM_EN, CIP_CORES_IN_SERVICE, CIP_CORES_FENCED, CIP_CTX_SEL_INDEX, CIP_CTX0_VALID, CIP_CTX0_TX_PHASE, CIP_CTX0_SLOT0_VALID, CIP_CTX0_SLOT1_VALID, CIP_CTX0_REKEY_REQ, CIP_CTX0_EXHAUSTED, CIP_CTX0_SLOT0_USED] ++
  [CIP_CTX0_SLOT1_USED, CIP_CTX0_TENANT, CIP_CTX0_KEY_ID0, CIP_CTX0_KEY_ID1, CIP_CTX_CTR_COUNTER, CIP_CTX_SEALED_COUNT, CIP_CTX_OPENED_COUNT, CIP_CTX_AUTH_FAIL_COUNT, CIP_QP_SEL_INDEX, CIP_QP_CTX_CONTEXT, CIP_QP_CTX_VALID, CIP_AUTH_LOG0_SRC_MODULE] ++
  [CIP_AUTH_LOG0_DST_QP, CIP_AUTH_LOG0_CONTEXT, CIP_AUTH_LOG0_VALID, CIP_AUTH_LOG1_NONCE_CTR, CIP_SEALED_COUNT, CIP_OPENED_COUNT, CIP_AUTH_FAIL_COUNT, CIP_TANDEM_RETRY_OK_COUNT, CIP_TANDEM_FAIL_COUNT, CIP_UNWRAP_FAIL_COUNT, CIP_SEAL_REFUSED_COUNT, CIP_CORE_STAT_STATE] ++
  [CIP_CORE_STAT_TANDEM_MISMATCH]

/-- MBX_KILURN.STATE, MBX bits [1:0] (R398). -/
def MBX_KILURN_STATE : Fld := ⟨0xE00000, 0, 2, .ro, .mgmt, 0x0, 1, 0x0, 1, none, fun _ => 0⟩
/-- MBX_KILURN.CORES_FENCED, MBX bits [11:8] (R398). -/
def MBX_KILURN_CORES_FENCED : Fld := ⟨0xE00000, 8, 4, .ro, .mgmt, 0x0, 1, 0x0, 1, none, fun _ => 0⟩
/-- MBX_FW.VERSION, MBX bits [31:0] (R398). -/
def MBX_FW_VERSION : Fld := ⟨0xE00008, 0, 32, .ro, .mgmt, 0x0, 1, 0x0, 1, none, fun _ => 0⟩
/-- MBX_FW.SVN, MBX bits [63:32] (R398). -/
def MBX_FW_SVN : Fld := ⟨0xE00008, 32, 32, .ro, .mgmt, 0x0, 1, 0x0, 1, none, fun _ => 0⟩
/-- MBX_MGMT_CFG.UDP_PORT, MBX bits [15:0] (R398). -/
def MBX_MGMT_CFG_UDP_PORT : Fld := ⟨0xE00010, 0, 16, .rw, .mgmt, 0x0, 1, 0x0, 1, none, fun _ => 17080⟩
/-- MBX_MGMT_CFG.PORT_EN, MBX bits [16:16] (R398). -/
def MBX_MGMT_CFG_PORT_EN : Fld := ⟨0xE00010, 16, 1, .rw, .mgmt, 0x0, 1, 0x0, 1, none, fun _ => 1⟩
/-- MBX_MGMT_CFG.FAR_EN, MBX bits [17:17] (R398). -/
def MBX_MGMT_CFG_FAR_EN : Fld := ⟨0xE00010, 17, 1, .rw, .mgmt, 0x0, 1, 0x0, 1, none, fun _ => 0⟩
/-- MBX_MGMT_CFG.IPV4, MBX bits [18:18] (R398). -/
def MBX_MGMT_CFG_IPV4 : Fld := ⟨0xE00010, 18, 1, .rw, .mgmt, 0x0, 1, 0x0, 1, none, fun _ => 0⟩
/-- MBX_MGMT_CFG.FM_ID, MBX bits [47:32] (R398). -/
def MBX_MGMT_CFG_FM_ID : Fld := ⟨0xE00010, 32, 16, .rw, .mgmt, 0x0, 1, 0x0, 1, none, fun _ => 65535⟩
/-- MBX_MGMT_IP.LO, MBX bits [63:0] (R398). -/
def MBX_MGMT_IP_LO : Fld := ⟨0xE00018, 0, 64, .rw, .mgmt, 0x0, 1, 0x0, 1, none, fun _ => 0⟩
/-- MBX_MGMT_IP.HI, MBX bits [63:0] (R398). -/
def MBX_MGMT_IP_HI : Fld := ⟨0xE00020, 0, 64, .rw, .mgmt, 0x0, 1, 0x0, 1, none, fun _ => 0⟩
/-- MBX_SLOT_SEL.SLOT, MBX bits [9:0] (R398). -/
def MBX_SLOT_SEL_SLOT : Fld := ⟨0xE00028, 0, 10, .rw, .mgmt, 0x0, 1, 0x0, 1, none, fun _ => 0⟩
/-- MBX_SLOT_STATUS.BUSY, MBX bits [0:0] (R398). -/
def MBX_SLOT_STATUS_BUSY : Fld := ⟨0xE00030, 0, 1, .ro, .mgmt, 0x0, 1, 0x0, 1, some (Fld.keyOf 0xE00028 0), fun _ => 0⟩
/-- MBX_SLOT_STATUS.DONE, MBX bits [1:1] (R398). -/
def MBX_SLOT_STATUS_DONE : Fld := ⟨0xE00030, 1, 1, .ro, .mgmt, 0x0, 1, 0x0, 1, some (Fld.keyOf 0xE00028 0), fun _ => 0⟩
/-- MBX_SLOT_STATUS.LAST_STATUS, MBX bits [15:8] (R398). -/
def MBX_SLOT_STATUS_LAST_STATUS : Fld := ⟨0xE00030, 8, 8, .ro, .mgmt, 0x0, 1, 0x0, 1, some (Fld.keyOf 0xE00028 0), fun _ => 0⟩
/-- MBX_SLOT_STATUS.LAST_CMD, MBX bits [31:16] (R398). -/
def MBX_SLOT_STATUS_LAST_CMD : Fld := ⟨0xE00030, 16, 16, .ro, .mgmt, 0x0, 1, 0x0, 1, some (Fld.keyOf 0xE00028 0), fun _ => 0⟩
/-- MBX_SLOT_STATUS.SEQ_DONE, MBX bits [63:32] (R398). -/
def MBX_SLOT_STATUS_SEQ_DONE : Fld := ⟨0xE00030, 32, 32, .ro, .mgmt, 0x0, 1, 0x0, 1, some (Fld.keyOf 0xE00028 0), fun _ => 0⟩
/-- MBX_CMD_COUNT.COUNT, MBX bits [63:0] (R398). -/
def MBX_CMD_COUNT_COUNT : Fld := ⟨0xE00100, 0, 64, .ro, .mgmt, 0x0, 1, 0x0, 1, none, fun _ => 0⟩
/-- MBX_DB_BUSY.COUNT, MBX bits [63:0] (R398). -/
def MBX_DB_BUSY_COUNT : Fld := ⟨0xE00108, 0, 64, .ro, .mgmt, 0x0, 1, 0x0, 1, none, fun _ => 0⟩
/-- MBX_WR_BUSY.COUNT, MBX bits [63:0] (R398). -/
def MBX_WR_BUSY_COUNT : Fld := ⟨0xE00110, 0, 64, .ro, .mgmt, 0x0, 1, 0x0, 1, none, fun _ => 0⟩
/-- MBX_AUTH_REJECT.COUNT, MBX bits [63:0] (R398). -/
def MBX_AUTH_REJECT_COUNT : Fld := ⟨0xE00118, 0, 64, .ro, .mgmt, 0x0, 1, 0x0, 1, none, fun _ => 0⟩
/-- MBX_RESTART_COUNT.COUNT, MBX bits [63:0] (R398). -/
def MBX_RESTART_COUNT_COUNT : Fld := ⟨0xE00120, 0, 64, .ro, .mgmt, 0x0, 1, 0x0, 1, none, fun _ => 0⟩
/-- MBX_WDOG_COUNT.COUNT, MBX bits [63:0] (R398). -/
def MBX_WDOG_COUNT_COUNT : Fld := ⟨0xE00128, 0, 64, .ro, .mgmt, 0x0, 1, 0x0, 1, none, fun _ => 0⟩
/-- MBX_CFS_ERR.COUNT, MBX bits [63:0] (R398). -/
def MBX_CFS_ERR_COUNT : Fld := ⟨0xE00130, 0, 64, .ro, .mgmt, 0x0, 1, 0x0, 1, none, fun _ => 0⟩
/-- MBX_ECC.CORR, MBX bits [31:0] (R398). -/
def MBX_ECC_CORR : Fld := ⟨0xE00138, 0, 32, .ro, .mgmt, 0x0, 1, 0x0, 1, none, fun _ => 0⟩
/-- MBX_ECC.UNCORR, MBX bits [63:32] (R398). -/
def MBX_ECC_UNCORR : Fld := ⟨0xE00138, 32, 32, .ro, .mgmt, 0x0, 1, 0x0, 1, none, fun _ => 0⟩
/-- MBX_JOURNAL_RERUN.COUNT, MBX bits [63:0] (R398). -/
def MBX_JOURNAL_RERUN_COUNT : Fld := ⟨0xE00140, 0, 64, .ro, .mgmt, 0x0, 1, 0x0, 1, none, fun _ => 0⟩

/-- The fields of the MBX_ block. -/
def blockMBX : List Fld :=
  [MBX_KILURN_STATE, MBX_KILURN_CORES_FENCED, MBX_FW_VERSION, MBX_FW_SVN, MBX_MGMT_CFG_UDP_PORT, MBX_MGMT_CFG_PORT_EN, MBX_MGMT_CFG_FAR_EN, MBX_MGMT_CFG_IPV4, MBX_MGMT_CFG_FM_ID, MBX_MGMT_IP_LO, MBX_MGMT_IP_HI, MBX_SLOT_SEL_SLOT] ++
  [MBX_SLOT_STATUS_BUSY, MBX_SLOT_STATUS_DONE, MBX_SLOT_STATUS_LAST_STATUS, MBX_SLOT_STATUS_LAST_CMD, MBX_SLOT_STATUS_SEQ_DONE, MBX_CMD_COUNT_COUNT, MBX_DB_BUSY_COUNT, MBX_WR_BUSY_COUNT, MBX_AUTH_REJECT_COUNT, MBX_RESTART_COUNT_COUNT, MBX_WDOG_COUNT_COUNT, MBX_CFS_ERR_COUNT] ++
  [MBX_ECC_CORR, MBX_ECC_UNCORR, MBX_JOURNAL_RERUN_COUNT]

/-- LCS_STATE.STATE, LCS bits [1:0] (R399). -/
def LCS_STATE_STATE : Fld := ⟨0xF00000, 0, 2, .ro, .store, 0x0, 1, 0x0, 1, none, fun _ => 0⟩
/-- LCS_STATE.LOCK, LCS bits [2:2] (R399). -/
def LCS_STATE_LOCK : Fld := ⟨0xF00000, 2, 1, .ro, .store, 0x0, 1, 0x0, 1, none, fun _ => 0⟩
/-- LCS_STATE.PENDING, LCS bits [3:3] (R399). -/
def LCS_STATE_PENDING : Fld := ⟨0xF00000, 3, 1, .ro, .store, 0x0, 1, 0x0, 1, none, fun _ => 0⟩
/-- LCS_STATE.KEY0_REVOKED, LCS bits [4:4] (R399). -/
def LCS_STATE_KEY0_REVOKED : Fld := ⟨0xF00000, 4, 1, .ro, .store, 0x0, 1, 0x0, 1, none, fun _ => 0⟩
/-- LCS_SVN.MIN, LCS bits [31:0] (R399). -/
def LCS_SVN_MIN : Fld := ⟨0xF00008, 0, 32, .ro, .store, 0x0, 1, 0x0, 1, none, fun _ => 0⟩
/-- LCS_SVN.RUNNING, LCS bits [63:32] (R399). -/
def LCS_SVN_RUNNING : Fld := ⟨0xF00008, 32, 32, .ro, .mgmt, 0x0, 1, 0x0, 1, none, fun _ => 0⟩
/-- LCS_BOOT.RECOVERED, LCS bits [0:0] (R399). -/
def LCS_BOOT_RECOVERED : Fld := ⟨0xF00010, 0, 1, .ro, .mgmt, 0x0, 1, 0x0, 1, none, fun _ => 0⟩
/-- LCS_BOOT.IMAGE_FAIL_REASON, LCS bits [11:8] (R399). -/
def LCS_BOOT_IMAGE_FAIL_REASON : Fld := ⟨0xF00010, 8, 4, .ro, .mgmt, 0x0, 1, 0x0, 1, none, fun _ => 0⟩
/-- LCS_BOOT.RECOVERY_ATTEMPTS, LCS bits [31:16] (R399). -/
def LCS_BOOT_RECOVERY_ATTEMPTS : Fld := ⟨0xF00010, 16, 16, .ro, .mgmt, 0x0, 1, 0x0, 1, none, fun _ => 0⟩
/-- LCS_BOOT.COLD_BOOTS, LCS bits [63:32] (R399). -/
def LCS_BOOT_COLD_BOOTS : Fld := ⟨0xF00010, 32, 32, .ro, .store, 0x0, 1, 0x0, 1, none, fun _ => 0⟩
/-- LCS_OWNER_HASH[k], LCS bits [63:0] (R399). -/
def LCS_OWNER_HASH : Fld := ⟨0xF00018, 0, 64, .ro, .store, 0x8, 4, 0x0, 1, none, fun _ => 0⟩
/-- LCS_IDENT_HASH[k], LCS bits [63:0] (R399). -/
def LCS_IDENT_HASH : Fld := ⟨0xF00038, 0, 64, .ro, .store, 0x8, 4, 0x0, 1, none, fun _ => 0⟩
/-- LCS_M_IMAGE[k], LCS bits [63:0] (R399). -/
def LCS_M_IMAGE : Fld := ⟨0xF00058, 0, 64, .ro, .mgmt, 0x8, 4, 0x0, 1, none, fun _ => 0⟩
/-- LCS_M_CONFIG[k], LCS bits [63:0] (R399). -/
def LCS_M_CONFIG : Fld := ⟨0xF00078, 0, 64, .ro, .mgmt, 0x8, 4, 0x0, 1, none, fun _ => 0⟩

/-- The fields of the LCS_ block. -/
def blockLCS : List Fld :=
  [LCS_STATE_STATE, LCS_STATE_LOCK, LCS_STATE_PENDING, LCS_STATE_KEY0_REVOKED, LCS_SVN_MIN, LCS_SVN_RUNNING, LCS_BOOT_RECOVERED, LCS_BOOT_IMAGE_FAIL_REASON, LCS_BOOT_RECOVERY_ATTEMPTS, LCS_BOOT_COLD_BOOTS, LCS_OWNER_HASH, LCS_IDENT_HASH] ++
  [LCS_M_IMAGE, LCS_M_CONFIG]

/-- MEM_CTRL.ECC_EN, MEM bits [0:0] (R425). -/
def MEM_CTRL_ECC_EN : Fld := ⟨0xB00000, 0, 1, .rwl, .main, 0x0, 1, 0x0, 1, none, fun _ => 1⟩
/-- MEM_CTRL.SCRUB_EN, MEM bits [1:1] (R425). -/
def MEM_CTRL_SCRUB_EN : Fld := ⟨0xB00000, 1, 1, .rw, .main, 0x0, 1, 0x0, 1, none, fun _ => 1⟩
/-- MEM_CTRL.SCRUB_H, MEM bits [12:8] (R425). -/
def MEM_CTRL_SCRUB_H : Fld := ⟨0xB00000, 8, 5, .rw, .main, 0x0, 1, 0x0, 1, none, fun _ => 24⟩
/-- MEM_CORR_LIMIT.LIMIT, MEM bits [31:0] (R425). -/
def MEM_CORR_LIMIT_LIMIT : Fld := ⟨0xB00008, 0, 32, .rw, .main, 0x0, 1, 0x0, 1, none, fun _ => 4096⟩
/-- MEM_COPY.SRC, MEM bits [4:0] (R425). -/
def MEM_COPY_SRC : Fld := ⟨0xB00010, 0, 5, .ro, .main, 0x0, 1, 0x0, 1, none, fun _ => 31⟩
/-- MEM_COPY.DST, MEM bits [12:8] (R425). -/
def MEM_COPY_DST : Fld := ⟨0xB00010, 8, 5, .ro, .main, 0x0, 1, 0x0, 1, none, fun _ => 31⟩
/-- MEM_COPY.ACTIVE, MEM bits [13:13] (R425). -/
def MEM_COPY_ACTIVE : Fld := ⟨0xB00010, 13, 1, .ro, .main, 0x0, 1, 0x0, 1, none, fun _ => 0⟩
/-- MEM_COPY.REQ, MEM bits [20:16] (R425). -/
def MEM_COPY_REQ : Fld := ⟨0xB00010, 16, 5, .wo, .main, 0x0, 1, 0x0, 1, none, fun _ => 0⟩
/-- MEM_COPY.DONE_MIB, MEM bits [63:32] (R425). -/
def MEM_COPY_DONE_MIB : Fld := ⟨0xB00010, 32, 32, .ro, .main, 0x0, 1, 0x0, 1, none, fun _ => 0⟩
/-- MEM_SCRUB_STATUS.PASSES, MEM bits [31:0] (R425). -/
def MEM_SCRUB_STATUS_PASSES : Fld := ⟨0xB00018, 0, 32, .ro, .main, 0x0, 1, 0x0, 1, none, fun _ => 0⟩
/-- MEM_SCRUB_STATUS.PERMILLE, MEM bits [47:32] (R425). -/
def MEM_SCRUB_STATUS_PERMILLE : Fld := ⟨0xB00018, 32, 16, .ro, .main, 0x0, 1, 0x0, 1, none, fun _ => 0⟩
/-- MEM_ERR_LOG0.DEVICE, MEM bits [4:0] (R425). -/
def MEM_ERR_LOG0_DEVICE : Fld := ⟨0xB00020, 0, 5, .ro, .main, 0x0, 1, 0x0, 1, none, fun _ => 0⟩
/-- MEM_ERR_LOG0.UNCORR, MEM bits [5:5] (R425). -/
def MEM_ERR_LOG0_UNCORR : Fld := ⟨0xB00020, 5, 1, .ro, .main, 0x0, 1, 0x0, 1, none, fun _ => 0⟩
/-- MEM_ERR_LOG0.LASTING_ROW, MEM bits [6:6] (R425). -/
def MEM_ERR_LOG0_LASTING_ROW : Fld := ⟨0xB00020, 6, 1, .ro, .main, 0x0, 1, 0x0, 1, none, fun _ => 0⟩
/-- MEM_ERR_LOG0.SCRUB, MEM bits [7:7] (R425). -/
def MEM_ERR_LOG0_SCRUB : Fld := ⟨0xB00020, 7, 1, .ro, .main, 0x0, 1, 0x0, 1, none, fun _ => 0⟩
/-- MEM_ERR_LOG0.VALID, MEM bits [63:63] (R425). -/
def MEM_ERR_LOG0_VALID : Fld := ⟨0xB00020, 63, 1, .w1c, .main, 0x0, 1, 0x0, 1, none, fun _ => 0⟩
/-- MEM_ERR_LOG1.ADDR, MEM bits [63:0] (R425). -/
def MEM_ERR_LOG1_ADDR : Fld := ⟨0xB00028, 0, 64, .ro, .main, 0x0, 1, 0x0, 1, none, fun _ => 0⟩
/-- MEM_DEV[d].STATE, MEM bits [2:0] (R425). -/
def MEM_DEV_STATE : Fld := ⟨0xB00100, 0, 3, .ro, .main, 0x8, 18, 0x0, 1, none, fun k => if k ≤ 15 then 0 else 1⟩
/-- MEM_DEV[d].LOGICAL, MEM bits [12:8] (R425). -/
def MEM_DEV_LOGICAL : Fld := ⟨0xB00100, 8, 5, .ro, .main, 0x8, 18, 0x0, 1, none, fun k => if k ≤ 15 then k else 0x1F⟩
/-- MEM_DEV[d].LASTING_ROWS, MEM bits [23:16] (R425). -/
def MEM_DEV_LASTING_ROWS : Fld := ⟨0xB00100, 16, 8, .ro, .main, 0x8, 18, 0x0, 1, none, fun _ => 0⟩
/-- MEM_DEV[d].CORR_24H, MEM bits [63:32] (R425). -/
def MEM_DEV_CORR_24H : Fld := ⟨0xB00100, 32, 32, .ro, .main, 0x8, 18, 0x0, 1, none, fun _ => 0⟩
/-- MEM_CORR[d].COUNT, MEM bits [63:0] (R425). -/
def MEM_CORR_COUNT : Fld := ⟨0xB00200, 0, 64, .ro, .main, 0x8, 18, 0x0, 1, none, fun _ => 0⟩
/-- MEM_UNCORR[d].COUNT, MEM bits [63:0] (R425). -/
def MEM_UNCORR_COUNT : Fld := ⟨0xB00300, 0, 64, .ro, .main, 0x8, 18, 0x0, 1, none, fun _ => 0⟩

/-- The fields of the MEM_ block. -/
def blockMEM : List Fld :=
  [MEM_CTRL_ECC_EN, MEM_CTRL_SCRUB_EN, MEM_CTRL_SCRUB_H, MEM_CORR_LIMIT_LIMIT, MEM_COPY_SRC, MEM_COPY_DST, MEM_COPY_ACTIVE, MEM_COPY_REQ, MEM_COPY_DONE_MIB, MEM_SCRUB_STATUS_PASSES, MEM_SCRUB_STATUS_PERMILLE, MEM_ERR_LOG0_DEVICE] ++
  [MEM_ERR_LOG0_UNCORR, MEM_ERR_LOG0_LASTING_ROW, MEM_ERR_LOG0_SCRUB, MEM_ERR_LOG0_VALID, MEM_ERR_LOG1_ADDR, MEM_DEV_STATE, MEM_DEV_LOGICAL, MEM_DEV_LASTING_ROWS, MEM_DEV_CORR_24H, MEM_CORR_COUNT, MEM_UNCORR_COUNT]

/-- RES_CTRL.TEST_EN, RES bits [0:0] (R426). -/
def RES_CTRL_TEST_EN : Fld := ⟨0x1000000, 0, 1, .rwl, .main, 0x0, 1, 0x0, 1, none, fun _ => 1⟩
/-- RES_CTRL.SWEEP_EN, RES bits [1:1] (R426). -/
def RES_CTRL_SWEEP_EN : Fld := ⟨0x1000000, 1, 1, .rw, .main, 0x0, 1, 0x0, 1, none, fun _ => 1⟩
/-- RES_CTRL.ALERT_ON_FENCE, RES bits [2:2] (R426). -/
def RES_CTRL_ALERT_ON_FENCE : Fld := ⟨0x1000000, 2, 1, .rw, .main, 0x0, 1, 0x0, 1, none, fun _ => 0⟩
/-- RES_CTRL.TRANSIENT_LIMIT, RES bits [11:8] (R426). -/
def RES_CTRL_TRANSIENT_LIMIT : Fld := ⟨0x1000000, 8, 4, .rw, .main, 0x0, 1, 0x0, 1, none, fun _ => 3⟩
/-- RES_CTRL.TRANSIENT_WINDOW_H, RES bits [23:16] (R426). -/
def RES_CTRL_TRANSIENT_WINDOW_H : Fld := ⟨0x1000000, 16, 8, .rw, .main, 0x0, 1, 0x0, 1, none, fun _ => 24⟩
/-- RES_CTRL.EOL_LIMIT_D, RES bits [47:32] (R426). -/
def RES_CTRL_EOL_LIMIT_D : Fld := ⟨0x1000000, 32, 16, .rw, .main, 0x0, 1, 0x0, 1, none, fun _ => 90⟩
/-- RES_CTRL.SPARE_TEST_S, RES bits [63:48] (R426). -/
def RES_CTRL_SPARE_TEST_S : Fld := ⟨0x1000000, 48, 16, .rw, .main, 0x0, 1, 0x0, 1, none, fun _ => 3600⟩
/-- RES_ALERT.REPLACE, RES bits [0:0] (R426). -/
def RES_ALERT_REPLACE : Fld := ⟨0x1000008, 0, 1, .ro, .alert, 0x0, 1, 0x0, 1, none, fun _ => 0⟩
/-- RES_ALERT.RECOVERY, RES bits [1:1] (R426). -/
def RES_ALERT_RECOVERY : Fld := ⟨0x1000008, 1, 1, .ro, .alert, 0x0, 1, 0x0, 1, none, fun _ => 0⟩
/-- RES_ALERT.FENCE, RES bits [2:2] (R426). -/
def RES_ALERT_FENCE : Fld := ⟨0x1000008, 2, 1, .w1c, .alert, 0x0, 1, 0x0, 1, none, fun _ => 0⟩
/-- RES_REPLACE.SPARE_EXHAUSTED, RES bits [0:0] (R426). -/
def RES_REPLACE_SPARE_EXHAUSTED : Fld := ⟨0x1000010, 0, 1, .ro, .alert, 0x0, 1, 0x0, 1, none, fun _ => 0⟩
/-- RES_REPLACE.EOL, RES bits [1:1] (R426). -/
def RES_REPLACE_EOL : Fld := ⟨0x1000010, 1, 1, .ro, .alert, 0x0, 1, 0x0, 1, none, fun _ => 0⟩
/-- RES_REPLACE.MGMT, RES bits [2:2] (R426). -/
def RES_REPLACE_MGMT : Fld := ⟨0x1000010, 2, 1, .ro, .alert, 0x0, 1, 0x0, 1, none, fun _ => 0⟩
/-- RES_REPLACE.CLASSES, RES bits [18:8] (R426). -/
def RES_REPLACE_CLASSES : Fld := ⟨0x1000010, 8, 11, .ro, .alert, 0x0, 1, 0x0, 1, none, fun _ => 0⟩
/-- RES_EOL.DAYS, RES bits [15:0] (R426). -/
def RES_EOL_DAYS : Fld := ⟨0x1000018, 0, 16, .ro, .main, 0x0, 1, 0x0, 1, none, fun _ => 65535⟩
/-- RES_EOL.MONITOR, RES bits [22:16] (R426). -/
def RES_EOL_MONITOR : Fld := ⟨0x1000018, 16, 7, .ro, .main, 0x0, 1, 0x0, 1, none, fun _ => 127⟩
/-- RES_ERR_LOG0.UNIT, RES bits [15:0] (R426). -/
def RES_ERR_LOG0_UNIT : Fld := ⟨0x1000020, 0, 16, .ro, .alert, 0x0, 1, 0x0, 1, none, fun _ => 0⟩
/-- RES_ERR_LOG0.CLASS, RES bits [18:16] (R426). -/
def RES_ERR_LOG0_CLASS : Fld := ⟨0x1000020, 16, 3, .ro, .alert, 0x0, 1, 0x0, 1, none, fun _ => 0⟩
/-- RES_ERR_LOG0.UNCORR, RES bits [19:19] (R426). -/
def RES_ERR_LOG0_UNCORR : Fld := ⟨0x1000020, 19, 1, .ro, .alert, 0x0, 1, 0x0, 1, none, fun _ => 0⟩
/-- RES_ERR_LOG0.RESET, RES bits [20:20] (R426). -/
def RES_ERR_LOG0_RESET : Fld := ⟨0x1000020, 20, 1, .ro, .alert, 0x0, 1, 0x0, 1, none, fun _ => 0⟩
/-- RES_ERR_LOG0.VALID, RES bits [63:63] (R426). -/
def RES_ERR_LOG0_VALID : Fld := ⟨0x1000020, 63, 1, .w1c, .alert, 0x0, 1, 0x0, 1, none, fun _ => 0⟩
/-- RES_ERR_LOG1.COUNT, RES bits [63:0] (R426). -/
def RES_ERR_LOG1_COUNT : Fld := ⟨0x1000028, 0, 64, .ro, .alert, 0x0, 1, 0x0, 1, none, fun _ => 0⟩
/-- RES_TEST_REQ.UNIT, RES bits [15:0] (R426). -/
def RES_TEST_REQ_UNIT : Fld := ⟨0x1000030, 0, 16, .wo, .main, 0x0, 1, 0x0, 1, none, fun _ => 0⟩
/-- RES_SWEEP.STEP_CT, RES bits [63:0] (R426). -/
def RES_SWEEP_STEP_CT : Fld := ⟨0x1000038, 0, 64, .rw, .main, 0x0, 1, 0x0, 1, none, fun _ => 250000000⟩
/-- RES_SWEEP_STATUS.PASSES, RES bits [31:0] (R426). -/
def RES_SWEEP_STATUS_PASSES : Fld := ⟨0x1000040, 0, 32, .ro, .main, 0x0, 1, 0x0, 1, none, fun _ => 0⟩
/-- RES_SWEEP_STATUS.FINDINGS, RES bits [63:32] (R426). -/
def RES_SWEEP_STATUS_FINDINGS : Fld := ⟨0x1000040, 32, 32, .ro, .main, 0x0, 1, 0x0, 1, none, fun _ => 0⟩
/-- RES_MARCH.CLUSTER, RES bits [3:0] (R426). -/
def RES_MARCH_CLUSTER : Fld := ⟨0x1000048, 0, 4, .rw, .main, 0x0, 1, 0x0, 1, none, fun _ => 0⟩
/-- RES_MARCH.BANK, RES bits [8:4] (R426). -/
def RES_MARCH_BANK : Fld := ⟨0x1000048, 4, 5, .rw, .main, 0x0, 1, 0x0, 1, none, fun _ => 0⟩
/-- RES_MARCH.PRESERVE, RES bits [9:9] (R426). -/
def RES_MARCH_PRESERVE : Fld := ⟨0x1000048, 9, 1, .rw, .main, 0x0, 1, 0x0, 1, none, fun _ => 1⟩
/-- RES_MARCH.GO, RES bits [10:10] (R426). -/
def RES_MARCH_GO : Fld := ⟨0x1000048, 10, 1, .wo, .main, 0x0, 1, 0x0, 1, none, fun _ => 0⟩
/-- RES_MARCH.BUSY, RES bits [11:11] (R426). -/
def RES_MARCH_BUSY : Fld := ⟨0x1000048, 11, 1, .ro, .main, 0x0, 1, 0x0, 1, none, fun _ => 0⟩
/-- RES_MARCH.FAIL, RES bits [12:12] (R426). -/
def RES_MARCH_FAIL : Fld := ⟨0x1000048, 12, 1, .w1c, .main, 0x0, 1, 0x0, 1, none, fun _ => 0⟩
/-- RES_MARCH.REFUSED, RES bits [13:13] (R426). -/
def RES_MARCH_REFUSED : Fld := ⟨0x1000048, 13, 1, .w1c, .main, 0x0, 1, 0x0, 1, none, fun _ => 0⟩
/-- RES_UNIT_SEL.UNIT, RES bits [15:0] (R426). -/
def RES_UNIT_SEL_UNIT : Fld := ⟨0x1000050, 0, 16, .rw, .main, 0x0, 1, 0x0, 1, none, fun _ => 0⟩
/-- RES_UNIT_STAT.STATE, RES bits [2:0] (R426). -/
def RES_UNIT_STAT_STATE : Fld := ⟨0x1000058, 0, 3, .ro, .main, 0x0, 1, 0x0, 1, some (Fld.keyOf 0x1000050 0), fun _ => 0⟩
/-- RES_UNIT_STAT.PASSES, RES bits [11:8] (R426). -/
def RES_UNIT_STAT_PASSES : Fld := ⟨0x1000058, 8, 4, .ro, .main, 0x0, 1, 0x0, 1, some (Fld.keyOf 0x1000050 0), fun _ => 0⟩
/-- RES_UNIT_STAT.ERRORS, RES bits [47:16] (R426). -/
def RES_UNIT_STAT_ERRORS : Fld := ⟨0x1000058, 16, 32, .ro, .main, 0x0, 1, 0x0, 1, some (Fld.keyOf 0x1000050 0), fun _ => 0⟩
/-- RES_ERRORS.COUNT, RES bits [63:0] (R426). -/
def RES_ERRORS_COUNT : Fld := ⟨0x1000100, 0, 64, .ro, .main, 0x0, 1, 0x0, 1, none, fun _ => 0⟩
/-- RES_TESTS.COUNT, RES bits [63:0] (R426). -/
def RES_TESTS_COUNT : Fld := ⟨0x1000108, 0, 64, .ro, .main, 0x0, 1, 0x0, 1, none, fun _ => 0⟩
/-- RES_TRANSIENT.COUNT, RES bits [63:0] (R426). -/
def RES_TRANSIENT_COUNT : Fld := ⟨0x1000110, 0, 64, .ro, .main, 0x0, 1, 0x0, 1, none, fun _ => 0⟩
/-- RES_LASTING.COUNT, RES bits [63:0] (R426). -/
def RES_LASTING_COUNT : Fld := ⟨0x1000118, 0, 64, .ro, .main, 0x0, 1, 0x0, 1, none, fun _ => 0⟩
/-- RES_SPARES[k].TOTAL, RES bits [7:0] (R426). -/
def RES_SPARES_TOTAL : Fld := ⟨0x1000200, 0, 8, .ro, .main, 0x8, 11, 0x0, 1, none, fun _ => 0⟩
/-- RES_SPARES[k].FREE, RES bits [15:8] (R426). -/
def RES_SPARES_FREE : Fld := ⟨0x1000200, 8, 8, .ro, .main, 0x8, 11, 0x0, 1, none, fun _ => 0⟩
/-- RES_SPARES[k].IN_USE, RES bits [23:16] (R426). -/
def RES_SPARES_IN_USE : Fld := ⟨0x1000200, 16, 8, .ro, .main, 0x8, 11, 0x0, 1, none, fun _ => 0⟩
/-- RES_SPARES[k].FENCED, RES bits [31:24] (R426). -/
def RES_SPARES_FENCED : Fld := ⟨0x1000200, 24, 8, .ro, .main, 0x8, 11, 0x0, 1, none, fun _ => 0⟩
/-- RES_AGE_SEL.MONITOR, RES bits [6:0] (R426). -/
def RES_AGE_SEL_MONITOR : Fld := ⟨0x1000300, 0, 7, .rw, .main, 0x0, 1, 0x0, 1, none, fun _ => 0⟩
/-- RES_AGE_STAT.MARGIN, RES bits [15:0] (R426). -/
def RES_AGE_STAT_MARGIN : Fld := ⟨0x1000308, 0, 16, .ro, .main, 0x0, 1, 0x0, 1, some (Fld.keyOf 0x1000300 0), fun _ => 0⟩
/-- RES_AGE_STAT.DAYS, RES bits [31:16] (R426). -/
def RES_AGE_STAT_DAYS : Fld := ⟨0x1000308, 16, 16, .ro, .main, 0x0, 1, 0x0, 1, some (Fld.keyOf 0x1000300 0), fun _ => 65535⟩
/-- RES_AGE_STAT.SAMPLES, RES bits [37:32] (R426). -/
def RES_AGE_STAT_SAMPLES : Fld := ⟨0x1000308, 32, 6, .ro, .main, 0x0, 1, 0x0, 1, some (Fld.keyOf 0x1000300 0), fun _ => 0⟩
/-- RES_AGE_HIST[s].MARGIN, RES bits [15:0] (R426). -/
def RES_AGE_HIST_MARGIN : Fld := ⟨0x1000310, 0, 16, .rw, .main, 0x8, 32, 0x0, 1, some (Fld.keyOf 0x1000300 0), fun _ => 0⟩

/-- The fields of the RES_ block. -/
def blockRES : List Fld :=
  [RES_CTRL_TEST_EN, RES_CTRL_SWEEP_EN, RES_CTRL_ALERT_ON_FENCE, RES_CTRL_TRANSIENT_LIMIT, RES_CTRL_TRANSIENT_WINDOW_H, RES_CTRL_EOL_LIMIT_D, RES_CTRL_SPARE_TEST_S, RES_ALERT_REPLACE, RES_ALERT_RECOVERY, RES_ALERT_FENCE, RES_REPLACE_SPARE_EXHAUSTED, RES_REPLACE_EOL] ++
  [RES_REPLACE_MGMT, RES_REPLACE_CLASSES, RES_EOL_DAYS, RES_EOL_MONITOR, RES_ERR_LOG0_UNIT, RES_ERR_LOG0_CLASS, RES_ERR_LOG0_UNCORR, RES_ERR_LOG0_RESET, RES_ERR_LOG0_VALID, RES_ERR_LOG1_COUNT, RES_TEST_REQ_UNIT, RES_SWEEP_STEP_CT] ++
  [RES_SWEEP_STATUS_PASSES, RES_SWEEP_STATUS_FINDINGS, RES_MARCH_CLUSTER, RES_MARCH_BANK, RES_MARCH_PRESERVE, RES_MARCH_GO, RES_MARCH_BUSY, RES_MARCH_FAIL, RES_MARCH_REFUSED, RES_UNIT_SEL_UNIT, RES_UNIT_STAT_STATE, RES_UNIT_STAT_PASSES] ++
  [RES_UNIT_STAT_ERRORS, RES_ERRORS_COUNT, RES_TESTS_COUNT, RES_TRANSIENT_COUNT, RES_LASTING_COUNT, RES_SPARES_TOTAL, RES_SPARES_FREE, RES_SPARES_IN_USE, RES_SPARES_FENCED, RES_AGE_SEL_MONITOR, RES_AGE_STAT_MARGIN, RES_AGE_STAT_DAYS] ++
  [RES_AGE_STAT_SAMPLES, RES_AGE_HIST_MARGIN]

/-- PWR_REQ.TARGET, PWR bits [2:0] (R446). -/
def PWR_REQ_TARGET : Fld := ⟨0x1100000, 0, 3, .rw, .mgmt, 0x0, 1, 0x0, 1, none, fun _ => 0⟩
/-- PWR_STATUS.STATE, PWR bits [2:0] (R446). -/
def PWR_STATUS_STATE : Fld := ⟨0x1100008, 0, 3, .ro, .mgmt, 0x0, 1, 0x0, 1, none, fun _ => 0⟩
/-- PWR_STATUS.RESUME, PWR bits [5:3] (R446). -/
def PWR_STATUS_RESUME : Fld := ⟨0x1100008, 3, 3, .ro, .mgmt, 0x0, 1, 0x0, 1, none, fun _ => 0⟩
/-- PWR_STATUS.DIP_ACTIVE, PWR bits [6:6] (R446). -/
def PWR_STATUS_DIP_ACTIVE : Fld := ⟨0x1100008, 6, 1, .ro, .mgmt, 0x0, 1, 0x0, 1, none, fun _ => 0⟩
/-- PWR_STATUS.CAP_FLOOR, PWR bits [7:7] (R446). -/
def PWR_STATUS_CAP_FLOOR : Fld := ⟨0x1100008, 7, 1, .ro, .mgmt, 0x0, 1, 0x0, 1, none, fun _ => 0⟩
/-- PWR_STATUS.STEP, PWR bits [11:8] (R446). -/
def PWR_STATUS_STEP : Fld := ⟨0x1100008, 8, 4, .ro, .mgmt, 0x0, 1, 0x0, 1, none, fun _ => 8⟩
/-- PWR_STATUS.REFUSE_CAUSE, PWR bits [19:16] (R446). -/
def PWR_STATUS_REFUSE_CAUSE : Fld := ⟨0x1100008, 16, 4, .ro, .mgmt, 0x0, 1, 0x0, 1, none, fun _ => 0⟩
/-- PWR_STATUS.WAKE_CAUSE, PWR bits [23:20] (R446). -/
def PWR_STATUS_WAKE_CAUSE : Fld := ⟨0x1100008, 20, 4, .ro, .mgmt, 0x0, 1, 0x0, 1, none, fun _ => 0⟩
/-- PWR_CROCUS.INTERVAL_CT, PWR bits [31:0] (R446). -/
def PWR_CROCUS_INTERVAL_CT : Fld := ⟨0x1100010, 0, 32, .rw, .mgmt, 0x0, 1, 0x0, 1, none, fun _ => 1000000⟩
/-- PWR_CROCUS.WATCH_NS, PWR bits [47:32] (R446). -/
def PWR_CROCUS_WATCH_NS : Fld := ⟨0x1100010, 32, 16, .rw, .mgmt, 0x0, 1, 0x0, 1, none, fun _ => 8000⟩
/-- PWR_CROCUS_TH.TEMP_HI_C, PWR bits [7:0] (R446). -/
def PWR_CROCUS_TH_TEMP_HI_C : Fld := ⟨0x1100018, 0, 8, .rw, .mgmt, 0x0, 1, 0x0, 1, none, fun _ => 95⟩
/-- PWR_CROCUS_TH.VIN_LO_DV, PWR bits [19:8] (R446). -/
def PWR_CROCUS_TH_VIN_LO_DV : Fld := ⟨0x1100018, 8, 12, .rw, .mgmt, 0x0, 1, 0x0, 1, none, fun _ => 400⟩
/-- PWR_CROCUS_TH.VIN_HI_DV, PWR bits [31:20] (R446). -/
def PWR_CROCUS_TH_VIN_HI_DV : Fld := ⟨0x1100018, 20, 12, .rw, .mgmt, 0x0, 1, 0x0, 1, none, fun _ => 600⟩
/-- PWR_CAP.LIMIT_W, PWR bits [9:0] (R446). -/
def PWR_CAP_LIMIT_W : Fld := ⟨0x1100020, 0, 10, .rw, .mgmt, 0x0, 1, 0x0, 1, none, fun _ => 450⟩
/-- PWR_CAP.POWER_W, PWR bits [25:16] (R446). -/
def PWR_CAP_POWER_W : Fld := ⟨0x1100020, 16, 10, .ro, .mgmt, 0x0, 1, 0x0, 1, none, fun _ => 0⟩
/-- PWR_DIP_CFG.VIN_WARN_DV, PWR bits [11:0] (R446). -/
def PWR_DIP_CFG_VIN_WARN_DV : Fld := ⟨0x1100028, 0, 12, .rw, .mgmt, 0x0, 1, 0x0, 1, none, fun _ => 380⟩
/-- PWR_DIP_CFG.VIN_RESET_DV, PWR bits [23:12] (R446). -/
def PWR_DIP_CFG_VIN_RESET_DV : Fld := ⟨0x1100028, 12, 12, .ro, .mgmt, 0x0, 1, 0x0, 1, none, fun _ => 340⟩
/-- PWR_DIP_CFG.RAIL_WARN_PCT, PWR bits [27:24] (R446). -/
def PWR_DIP_CFG_RAIL_WARN_PCT : Fld := ⟨0x1100028, 24, 4, .rw, .mgmt, 0x0, 1, 0x0, 1, none, fun _ => 5⟩
/-- PWR_DIP_CFG.HOLD_MS, PWR bits [47:32] (R446). -/
def PWR_DIP_CFG_HOLD_MS : Fld := ⟨0x1100028, 32, 16, .rw, .mgmt, 0x0, 1, 0x0, 1, none, fun _ => 10⟩
/-- PWR_DIP_CFG.VIN_HYST_DV, PWR bits [55:48] (R446). -/
def PWR_DIP_CFG_VIN_HYST_DV : Fld := ⟨0x1100028, 48, 8, .rw, .mgmt, 0x0, 1, 0x0, 1, none, fun _ => 5⟩
/-- PWR_DIP_CFG.RAIL_HYST_PCT, PWR bits [59:56] (R446). -/
def PWR_DIP_CFG_RAIL_HYST_PCT : Fld := ⟨0x1100028, 56, 4, .rw, .mgmt, 0x0, 1, 0x0, 1, none, fun _ => 1⟩
/-- PWR_DIP_LOG0.SOURCE, PWR bits [3:0] (R446). -/
def PWR_DIP_LOG0_SOURCE : Fld := ⟨0x1100030, 0, 4, .ro, .mgmt, 0x0, 1, 0x0, 1, none, fun _ => 0⟩
/-- PWR_DIP_LOG0.MIN_MV, PWR bits [31:16] (R446). -/
def PWR_DIP_LOG0_MIN_MV : Fld := ⟨0x1100030, 16, 16, .ro, .mgmt, 0x0, 1, 0x0, 1, none, fun _ => 0⟩
/-- PWR_DIP_LOG0.DURATION_US, PWR bits [62:32] (R446). -/
def PWR_DIP_LOG0_DURATION_US : Fld := ⟨0x1100030, 32, 31, .ro, .mgmt, 0x0, 1, 0x0, 1, none, fun _ => 0⟩
/-- PWR_DIP_LOG0.VALID, PWR bits [63:63] (R446). -/
def PWR_DIP_LOG0_VALID : Fld := ⟨0x1100030, 63, 1, .w1c, .mgmt, 0x0, 1, 0x0, 1, none, fun _ => 0⟩
/-- PWR_DIP_LOG1.COUNT, PWR bits [63:0] (R446). -/
def PWR_DIP_LOG1_COUNT : Fld := ⟨0x1100038, 0, 64, .ro, .mgmt, 0x0, 1, 0x0, 1, none, fun _ => 0⟩
/-- PWR_PMBUS.PENDING, PWR bits [7:0] (R446). -/
def PWR_PMBUS_PENDING : Fld := ⟨0x1100040, 0, 8, .ro, .mgmt, 0x0, 1, 0x0, 1, none, fun _ => 0⟩
/-- PWR_PMBUS.TIMEOUTS, PWR bits [63:32] (R446). -/
def PWR_PMBUS_TIMEOUTS : Fld := ⟨0x1100040, 32, 32, .ro, .mgmt, 0x0, 1, 0x0, 1, none, fun _ => 0⟩
/-- PWR_RAIL[r].SET_MV, PWR bits [15:0] (R446). -/
def PWR_RAIL_SET_MV : Fld := ⟨0x1100100, 0, 16, .ro, .mgmt, 0x8, 8, 0x0, 1, none, fun k => [800, 750, 750, 1200, 750, 900, 750, 1800].getD k 0⟩
/-- PWR_RAIL[r].MEAS_MV, PWR bits [31:16] (R446). -/
def PWR_RAIL_MEAS_MV : Fld := ⟨0x1100100, 16, 16, .ro, .mgmt, 0x8, 8, 0x0, 1, none, fun _ => 0⟩
/-- PWR_DIPS.COUNT, PWR bits [63:0] (R446). -/
def PWR_DIPS_COUNT : Fld := ⟨0x1100200, 0, 64, .ro, .mgmt, 0x0, 1, 0x0, 1, none, fun _ => 0⟩
/-- PWR_WAKES.COUNT, PWR bits [63:0] (R446). -/
def PWR_WAKES_COUNT : Fld := ⟨0x1100208, 0, 64, .ro, .mgmt, 0x0, 1, 0x0, 1, none, fun _ => 0⟩
/-- PWR_WATCHES.COUNT, PWR bits [63:0] (R446). -/
def PWR_WATCHES_COUNT : Fld := ⟨0x1100210, 0, 64, .ro, .mgmt, 0x0, 1, 0x0, 1, none, fun _ => 0⟩
/-- PWR_SKIPPED.COUNT, PWR bits [63:0] (R446). -/
def PWR_SKIPPED_COUNT : Fld := ⟨0x1100218, 0, 64, .ro, .mgmt, 0x0, 1, 0x0, 1, none, fun _ => 0⟩
/-- PWR_CAP_STEPS.COUNT, PWR bits [63:0] (R446). -/
def PWR_CAP_STEPS_COUNT : Fld := ⟨0x1100220, 0, 64, .ro, .mgmt, 0x0, 1, 0x0, 1, none, fun _ => 0⟩

/-- The fields of the PWR_ block. -/
def blockPWR : List Fld :=
  [PWR_REQ_TARGET, PWR_STATUS_STATE, PWR_STATUS_RESUME, PWR_STATUS_DIP_ACTIVE, PWR_STATUS_CAP_FLOOR, PWR_STATUS_STEP, PWR_STATUS_REFUSE_CAUSE, PWR_STATUS_WAKE_CAUSE, PWR_CROCUS_INTERVAL_CT, PWR_CROCUS_WATCH_NS, PWR_CROCUS_TH_TEMP_HI_C, PWR_CROCUS_TH_VIN_LO_DV] ++
  [PWR_CROCUS_TH_VIN_HI_DV, PWR_CAP_LIMIT_W, PWR_CAP_POWER_W, PWR_DIP_CFG_VIN_WARN_DV, PWR_DIP_CFG_VIN_RESET_DV, PWR_DIP_CFG_RAIL_WARN_PCT, PWR_DIP_CFG_HOLD_MS, PWR_DIP_CFG_VIN_HYST_DV, PWR_DIP_CFG_RAIL_HYST_PCT, PWR_DIP_LOG0_SOURCE, PWR_DIP_LOG0_MIN_MV, PWR_DIP_LOG0_DURATION_US] ++
  [PWR_DIP_LOG0_VALID, PWR_DIP_LOG1_COUNT, PWR_PMBUS_PENDING, PWR_PMBUS_TIMEOUTS, PWR_RAIL_SET_MV, PWR_RAIL_MEAS_MV, PWR_DIPS_COUNT, PWR_WAKES_COUNT, PWR_WATCHES_COUNT, PWR_SKIPPED_COUNT, PWR_CAP_STEPS_COUNT]

/-- PMC_CTRL.ENABLE, PMC bits [0:0] (R457). -/
def PMC_CTRL_ENABLE : Fld := ⟨0x1200000, 0, 1, .rw, .main, 0x0, 1, 0x0, 1, none, fun _ => 1⟩
/-- PMC_CTRL.FREEZE, PMC bits [1:1] (R457). -/
def PMC_CTRL_FREEZE : Fld := ⟨0x1200000, 1, 1, .rw, .main, 0x0, 1, 0x0, 1, none, fun _ => 0⟩
/-- PMC_CTRL.CLEAR_ALL, PMC bits [2:2] (R457). -/
def PMC_CTRL_CLEAR_ALL : Fld := ⟨0x1200000, 2, 1, .wo, .main, 0x0, 1, 0x0, 1, none, fun _ => 0⟩
/-- PMC_DUMP_CFG.PERIOD_CT, PMC bits [39:0] (R457). -/
def PMC_DUMP_CFG_PERIOD_CT : Fld := ⟨0x1200008, 0, 40, .rw, .main, 0x0, 1, 0x0, 1, none, fun _ => 1000000000⟩
/-- PMC_DUMP_CFG.DUMP_EN, PMC bits [40:40] (R457). -/
def PMC_DUMP_CFG_DUMP_EN : Fld := ⟨0x1200008, 40, 1, .rw, .main, 0x0, 1, 0x0, 1, none, fun _ => 0⟩
/-- PMC_DUMP_CFG.CLEAR_ON_DUMP, PMC bits [41:41] (R457). -/
def PMC_DUMP_CFG_CLEAR_ON_DUMP : Fld := ⟨0x1200008, 41, 1, .rw, .main, 0x0, 1, 0x0, 1, none, fun _ => 0⟩
/-- PMC_DUMP_BASE.OFFSET, PMC bits [35:12] (R457). -/
def PMC_DUMP_BASE_OFFSET : Fld := ⟨0x1200010, 12, 24, .rw, .main, 0x0, 1, 0x0, 1, none, fun _ => 0⟩
/-- PMC_DUMP_BASE.LOG2_RECORDS, PMC bits [44:40] (R457). -/
def PMC_DUMP_BASE_LOG2_RECORDS : Fld := ⟨0x1200010, 40, 5, .rw, .main, 0x0, 1, 0x0, 1, none, fun _ => 4⟩
/-- PMC_DUMP_WPTR.SEQ, PMC bits [63:0] (R457). -/
def PMC_DUMP_WPTR_SEQ : Fld := ⟨0x1200018, 0, 64, .ro, .main, 0x0, 1, 0x0, 1, none, fun _ => 0⟩
/-- PMC_DUMP_RPTR.SEQ, PMC bits [63:0] (R457). -/
def PMC_DUMP_RPTR_SEQ : Fld := ⟨0x1200020, 0, 64, .rw, .main, 0x0, 1, 0x0, 1, none, fun _ => 0⟩
/-- PMC_DUMP_STATUS.BAD_DEST, PMC bits [0:0] (R457). -/
def PMC_DUMP_STATUS_BAD_DEST : Fld := ⟨0x1200028, 0, 1, .w1c, .main, 0x0, 1, 0x0, 1, none, fun _ => 0⟩
/-- PMC_DUMP_STATUS.LATE, PMC bits [1:1] (R457). -/
def PMC_DUMP_STATUS_LATE : Fld := ⟨0x1200028, 1, 1, .w1c, .main, 0x0, 1, 0x0, 1, none, fun _ => 0⟩
/-- PMC_DUMP_STATUS.GAP, PMC bits [2:2] (R457). -/
def PMC_DUMP_STATUS_GAP : Fld := ⟨0x1200028, 2, 1, .w1c, .main, 0x0, 1, 0x0, 1, none, fun _ => 0⟩
/-- PMC_DUMP_LOST.COUNT, PMC bits [63:0] (R457). -/
def PMC_DUMP_LOST_COUNT : Fld := ⟨0x1200030, 0, 64, .ro, .main, 0x0, 1, 0x0, 1, none, fun _ => 0⟩
/-- PMC_DUMPS.COUNT, PMC bits [63:0] (R457). -/
def PMC_DUMPS_COUNT : Fld := ⟨0x1200038, 0, 64, .ro, .main, 0x0, 1, 0x0, 1, none, fun _ => 0⟩
/-- PMC_CNT_CFG.EVENT, PMC bits [7:0] (R457). -/
def PMC_CNT_CFG_EVENT : Fld := ⟨0x1201000, 0, 8, .rw, .main, 0x40, 16, 0x8, 8, none, fun _ => 0⟩
/-- PMC_CNT_CFG.TENANT, PMC bits [25:16] (R457). -/
def PMC_CNT_CFG_TENANT : Fld := ⟨0x1201000, 16, 10, .rw, .main, 0x40, 16, 0x8, 8, none, fun _ => 0⟩
/-- PMC_CNT_CFG.TENANT_EN, PMC bits [26:26] (R457). -/
def PMC_CNT_CFG_TENANT_EN : Fld := ⟨0x1201000, 26, 1, .rw, .main, 0x40, 16, 0x8, 8, none, fun _ => 0⟩
/-- PMC_CNT_VAL.VALUE, PMC bits [47:0] (R457). -/
def PMC_CNT_VAL_VALUE : Fld := ⟨0x1202000, 0, 48, .rw, .main, 0x40, 16, 0x8, 8, none, fun _ => 0⟩
/-- PMC_CNT_VAL.OVF, PMC bits [63:63] (R457). -/
def PMC_CNT_VAL_OVF : Fld := ⟨0x1202000, 63, 1, .w1c, .main, 0x40, 16, 0x8, 8, none, fun _ => 0⟩
/-- PMC_CORE_SLOT.VALUE, PMC bits [47:0] (R457). -/
def PMC_CORE_SLOT_VALUE : Fld := ⟨0x1204000, 0, 48, .rw, .main, 0x28, 40, 0x8, 5, none, fun _ => 0⟩
/-- PMC_CORE_SLOT.OVF, PMC bits [63:63] (R457). -/
def PMC_CORE_SLOT_OVF : Fld := ⟨0x1204000, 63, 1, .w1c, .main, 0x28, 40, 0x8, 5, none, fun _ => 0⟩
/-- PMC_TRN_SLOT.VALUE, PMC bits [47:0] (R457). -/
def PMC_TRN_SLOT_VALUE : Fld := ⟨0x1204800, 0, 48, .rw, .main, 0x20, 2, 0x8, 4, none, fun _ => 0⟩
/-- PMC_TRN_SLOT.OVF, PMC bits [63:63] (R457). -/
def PMC_TRN_SLOT_OVF : Fld := ⟨0x1204800, 63, 1, .w1c, .main, 0x20, 2, 0x8, 4, none, fun _ => 0⟩

/-- The fields of the PMC_ block. -/
def blockPMC : List Fld :=
  [PMC_CTRL_ENABLE, PMC_CTRL_FREEZE, PMC_CTRL_CLEAR_ALL, PMC_DUMP_CFG_PERIOD_CT, PMC_DUMP_CFG_DUMP_EN, PMC_DUMP_CFG_CLEAR_ON_DUMP, PMC_DUMP_BASE_OFFSET, PMC_DUMP_BASE_LOG2_RECORDS, PMC_DUMP_WPTR_SEQ, PMC_DUMP_RPTR_SEQ, PMC_DUMP_STATUS_BAD_DEST, PMC_DUMP_STATUS_LATE] ++
  [PMC_DUMP_STATUS_GAP, PMC_DUMP_LOST_COUNT, PMC_DUMPS_COUNT, PMC_CNT_CFG_EVENT, PMC_CNT_CFG_TENANT, PMC_CNT_CFG_TENANT_EN, PMC_CNT_VAL_VALUE, PMC_CNT_VAL_OVF, PMC_CORE_SLOT_VALUE, PMC_CORE_SLOT_OVF, PMC_TRN_SLOT_VALUE, PMC_TRN_SLOT_OVF]

/-- ADM_SLICE_STATUS.EVENT_LOST of the tenant control page (R131), by tenant slot. The page lies outside the
provider blocks; the field is stored under an offset that no block has. -/
def ADM_SLICE_STATUS_EVENT_LOST : Fld := ⟨0x2000010, 3, 1, .w1c, .main, 0x1000, 1024, 0x0, 1, none, fun _ => 0⟩

/-- The fields that no address shows: the active copies of FWP_ (R48), and the status of a tenant control page. -/
def hidden : List Fld :=
  [FWP_FWD_ENT_PORTS_ACT, FWP_FWD_ENT_COUNT_ACT, FWP_FWD_ENT_VALID_ACT, FWP_MC_CFG_VALID_ACT, FWP_MC_CFG_LOCAL_ACT, FWP_MC_CFG_LOCAL_MEMBER_ACT, FWP_MC_CFG_BRANCHES_ACT, FWP_MC_BR_PORT_ACT, FWP_MC_MEMB_MASK_ACT, FWP_MC_FENCED_MASK_ACT, ADM_SLICE_STATUS_EVENT_LOST]

/-- Block n of R10, by its number. -/
def blockFields : Nat → List Fld
  | 0 => blockCAD
  | 1 => blockXLT
  | 2 => blockQP
  | 3 => blockCQ
  | 4 => blockADM
  | 5 => blockTRN
  | 6 => blockMAC
  | 7 => blockFWP
  | 8 => blockCLU
  | 9 => blockARR
  | 10 => blockSPK
  | 12 => blockTEN
  | 13 => blockCIP
  | 14 => blockMBX
  | 15 => blockLCS
  | 11 => blockMEM
  | 16 => blockRES
  | 17 => blockPWR
  | 18 => blockPMC
  | _ => []

end Sys2Proof.Machine.Reg
end

