-- ==== Sys2Proof/Terms.lean ====
section
/-! DEFINITION. The things commands carry: near-link messages (R59, R63, R68), Hevor packets (R150 to
R156), cadence messages (R34), submission entries as raw bytes, and the results of the parties outside
the block. -/

namespace Sys2Proof

/-- A near-link message header and its data (R63, R65). -/
structure NearMsg where
  op : Nat := 0
  status : Nat := 0
  last : Bool := true
  len : Nat := 0
  tag : Nat := 0
  tenant : Nat := 0
  ctx : Nat := 0
  addr : Nat := 0
  opspec : Nat := 0
  data : List Byte := []
  deriving DecidableEq, Repr

/-- The link header of a flit as the receiver sees it (R59): KIND, FSEQ, ACK, whether the FCRC holds, and
the messages it carries. -/
structure Flit where
  kind : Nat := 0
  fseq : Nat := 0
  ack : Nat := 0
  fcrcOk : Bool := true
  msgs : List NearMsg := []
  deriving DecidableEq, Repr

/-- The body of a CAPS message (R68). -/
structure Caps where
  profile : Nat := 1
  port : Nat := 0
  incarnation : Nat := 0
  ident : Nat := 0
  windowBase : Nat := 0
  paBits : Nat := 48
  ptf : Nat := 1
  pHdr : Nat := 64
  pData : Nat := 1024
  npHdr : Nat := 64
  features : Nat := 7
  deriving DecidableEq, Repr

/-- A Hevor packet: the base header (R150), the extension headers (R152 to R156) in one record, and the
payload. Fields an opcode does not carry are 0. -/
structure Pkt where
  opc : Nat := 0
  ackReq : Bool := false
  retx : Bool := false
  ver : Nat := 1
  tc : Nat := 0
  epoch : Nat := 0
  srcMod : Nat := 0
  dstMod : Nat := 0
  srcQp : Nat := 0
  dstQp : Nat := 0
  psn : Nat := 0
  msn : Nat := 0
  entropy : Nat := 0
  nonce : Nat := 0
  txTime : Nat := 0
  rkey : Nat := 0
  imm : Nat := 0
  immValid : Bool := false
  target : Nat := 0
  pktOffset : Nat := 0
  msgLen : Nat := 0
  format : Nat := 0
  rangeOffset : Nat := 0
  rangeLen : Nat := 0
  readPsn : Nat := 0
  op0 : Nat := 0
  op1 : Nat := 0
  cumPsn : Nat := 0
  sackBase : Nat := 0
  sack : Nat := 0
  tsEcho : Nat := 0
  ackDelay : Nat := 0
  ceCount : Nat := 0
  nakKind : Nat := 0
  syndrome : Nat := 0
  reason : Nat := 0
  detail : Nat := 0
  backoff : Nat := 0
  old : Nat := 0
  ext : List Byte := []
  payload : List Byte := []
  deriving DecidableEq, Repr

/-- What a received packet carries around its Hevor headers, and what the port and the cipher engine found of it: its IP
destination, 16 octets or 4 in network order, and its UDP destination port (R146), the checksum (R147), the CE mark (R148), whether the tag verifies (R355), and whether the two pipelines of
the tandem check agree, first and on the rerun (R362). `data` is what accelerator memory holds where the
packet reads it, and `dataErr` 1 or 2 tells that it reads uncorrectable or refused data (R182). -/
structure Rx where
  ip : List Byte := []
  dport : Nat := 0
  csumOk : Bool := true
  ce : Bool := false
  authOk : Bool := true
  tandemOk : Bool := true
  rerunOk : Bool := true
  core : Nat := 0
  data : List Byte := []
  dataErr : Nat := 0
  deriving DecidableEq, Repr

/-- A cadence-sync message (R34): counts in ct with their fractions in 1/256 ns, and whether its CRC
holds. -/
structure SyncMsg where
  flags : Nat := 0
  sender : Nat := 0
  rootId : Nat := 0
  rootPrio : Nat := 0
  hopEq : Nat := 0
  seq : Nat := 0
  estErr : Nat := 0xFFFF
  t1 : Nat := 0
  t1f : Nat := 0
  t2 : Nat := 0
  t2f : Nat := 0
  t3 : Nat := 0
  t3f : Nat := 0
  crcOk : Bool := true
  deriving DecidableEq, Repr

/-- A frame as a far port receives it (R212, R220): whether its FCS holds, its length, its EtherType (the inner one after
0x8100), its destination address with the first octet highest, its class, for an IP frame bits [11:0] of a multicast
destination, the UDP ports, the IP destination in network order, the hop limit, and the ECN codepoint; and
the Hevor packet it carries. -/
structure RxFrame where
  fcsOk : Bool := true
  bytes : Nat := 64
  etype : Nat := 0x86DD
  dst : Nat := 0
  tc : Nat := 0
  tree : Option Nat := none
  sport : Nat := 0
  dport : Nat := 0
  ip : List Byte := []
  ttl : Nat := 64
  ect : Bool := false
  ce : Bool := false
  pkt : Option Pkt := none
  deriving DecidableEq, Repr

/-- A LANE_REMAP body (R217). -/
structure LaneMsg where
  op : Nat := 1
  reason : Nat := 0
  port : Nat := 0
  logical : Nat := 0
  oldLane : Nat := 0
  newLane : Nat := 0
  seq : Nat := 0
  sender : Nat := 0
  crcOk : Bool := true
  deriving DecidableEq, Repr

/-- What an error report says beside its unit and class (R401 to R404): the address concerned, which is the window offset for
a GDDR7 device, the byte of a bank, for a spoke core 16,384 x (1 for the program thread) + the byte of its local memory, for a
cluster the byte of the program store, or 2^19 + that of the hub buffer; for a chainring array the located row and column, and for the transport engine the scope (0 one queue pair, 1 one message record,
2 any other), the queue pair and the message. -/
structure ErrX where
  addr : Nat := 0
  row : Option Nat := none
  col : Option Nat := none
  scope : Nat := 2
  qp : Nat := 0
  msn : Nat := 0
  deriving DecidableEq, Repr

/-- What a boot finds (R387, R388, R409): the units that failed the start-up tests; the image in flash, where no commit has
written one; which of the two firmware-signing keys of the boot ROM its SIGNER names; and whether its signature verifies. -/
structure Boot where
  failed : List Nat := []
  image : List Byte := []
  signer : Option Nat := none
  sigOk : Bool := false
  deriving DecidableEq, Repr

/-- `n` bytes at offset `o` of a list of bytes, little-endian (R1); bytes beyond its end read as 0. -/
def leAt (e : List Byte) (o n : Nat) : Nat := ((e.drop o).take n).foldr (fun b acc => b.toNat + 256 * acc) 0

end Sys2Proof
end

