-- ==== Sys2Proof/Machine/Parts.lean ====
section
/-! DEFINITION. The kinds of state the machine holds beside its registers: link buffers, caches, queues,
windows, records and stores, as the chapters of spec/ give them. -/

namespace Sys2Proof.Machine

/-! Who waits for a translation, an answer or a completion. -/

/-- The user of a memory request inside the module (R96): a packet to be placed for a remote requester, an
operation of a local queue pair, a stream slot, a peloton, a ring fetch, a completion write, a page walk, the flushes of an invalidation. -/
inductive User where
  | pkt (qp psn : Nat)
  | op (qp serial : Nat)
  | slot (c u k : Nat)
  | pel (p : Nat)
  | sqIndex (qp : Nat)
  | sqSlots (qp : Nat)
  | resp (qp psn : Nat)
  | vis (c i : Nat)
  | cqe (cq : Nat)
  | cqIndex (cq : Nat)
  | admin (t : Nat)
  | walk (id : Nat)
  | inval (e seq : Nat)
  deriving DecidableEq, Repr

/-- What a non-posted request of the module is for. -/
inductive NpKind where
  | read | flush | atomic | table | adUpdate
  deriving DecidableEq, Repr

/-- A non-posted request the module has sent on a path (R65, R67): its tag, what it was and for whom. -/
structure NpReq where
  tag : Nat
  kind : NpKind
  user : User
  msg : NearMsg
  deriving DecidableEq, Repr

/-- Where an admin command came from: the ring of a slot, or the ADMIN command on a provider channel (R125,
R376, R382); its tag and CMD, and the slice it names, whose M_SLICE it extends (R395). -/
structure Origin where
  slot : Nat := 0
  tag : Nat := 0
  cmd : Nat := 0
  mbx : Option Nat := none
  names : Option Nat := none
  deriving DecidableEq, Repr

/-! Near links (chapter 3). -/

/-- One near port's link state beside its MAC_NEAR registers (R59 to R69, R82). `replay` holds the PROTOCOL
flits sent and not acknowledged, oldest first. -/
structure Near where
  goodFlits : Nat := 0
  txSeq : Nat := 0
  rxSeq : Nat := 4095
  retryAsked : Bool := false
  replay : List (Nat × NearMsg × Option User) := []
  replays : Nat := 0
  replayHead : Nat := 0
  epid : Option Nat := none
  slot : Nat := 0
  ready : Bool := false
  peerReady : Bool := false
  capsSent : Bool := false
  crdP : Nat := 0
  crdD : Nat := 0
  crdNp : Nat := 0
  np : List NpReq := []
  nextTag : Nat := 0
  unflushed : Bool := false
  resting : Bool := false
  wakes : Nat := 0
  malfAt : Option Nat := none
  waitP : List (NearMsg × Option User) := []
  waitNp : List NpReq := []
  deriving DecidableEq, Repr

/-- An endpoint that has taken an attachment slot of the module (R56, R68); `up` tells that a path of it has been up since. -/
structure Endpoint where
  used : Bool := false
  epid : Nat := 0
  incarnation : Nat := 0
  windowBase : Nat := 0
  paBits : Nat := 48
  invAny : Bool := false
  up : Bool := false
  held : List (Option (NpKind × User) × NearMsg × Option User) := []
  deriving DecidableEq, Repr

/-- The states of R79; `none` before ATTACH and after the end. -/
inductive AttSt where
  | none | attached | absent | gone | locked
  deriving DecidableEq, Repr

/-- An attachment of a tenant, numbered 8 x tenant + slot (R79, R80), plus 8,192 times a number of its own once it is GONE: its token, the endpoint it was made
with, and the retired-operation counts that REATTACH reports. -/
structure Attach where
  st : AttSt := .none
  epid : Nat := 0
  token : Option Nat := none
  retired : List (Nat × Nat) := []
  deriving DecidableEq, Repr

/-! Address translation (chapter 4). -/

/-- An access kind, weakest first (R98). -/
inductive AccK where
  | read | write | atomic
  deriving DecidableEq, Repr

/-- One translation-cache entry (R90). A list of them runs from the most to the least recently used. -/
structure Tlb where
  tenant : Nat
  ctx : Nat
  shift : Nat
  vpn : Nat
  pfn : Nat
  w : Bool
  d : Bool
  att : Nat
  marked : Bool := false
  deriving DecidableEq, Repr

/-- A walk-cache entry: a non-leaf entry of level 5 or 4 (R91). -/
structure WalkC where
  tenant : Nat
  ctx : Nat
  level : Nat
  idx : Nat
  pfn : Nat
  w : Bool
  marked : Bool := false
  deriving DecidableEq, Repr

/-- Who waits on a walk or a fault record: the request, its access, whether it has been parked (R99). -/
structure Waiter where
  user : User
  acc : AccK
  va : Nat
  cluster : Nat
  parked : Bool := false
  deriving DecidableEq, Repr

/-- A walk in progress (R91, R95, R89). -/
structure Walk where
  id : Nat
  tenant : Nat
  ctx : Nat
  va : Nat
  acc : AccK
  cluster : Nat
  walker : Option Nat
  level : Nat
  table : Nat
  wOk : Bool
  att : Nat
  leaf : Option (Nat × Nat) := none
  restart : Bool := false
  waiters : List Waiter
  fault : Option Nat := none
  deriving DecidableEq, Repr

/-- The states of a fault record (R102); FREE is an absent record. -/
inductive FaultSt where
  | free | open | retryWait | rewalk
  deriving DecidableEq, Repr

/-- A fault record (R98, R100, R102), by tenant slot and index. `expired` notes that the page timer ran
out during the re-walk. -/
structure FaultR where
  st : FaultSt := .free
  ctx : Nat := 0
  page : Nat := 0
  acc : AccK := .read
  attempts : Nat := 0
  pnr : Nat := 0
  cluster : Nat := 0
  att : Nat := 0
  waiters : List Waiter := []
  expired : Bool := false
  deriving DecidableEq, Repr

/-- An invalidation in progress (R93, R94): the slot and path it came on, what it covers, and whether its
uses have drained. -/
structure Inval where
  seq : Nat
  slot : Nat
  path : Nat
  tenant : Nat
  ctx : Nat
  base : Nat
  size : Nat
  wholeCtx : Bool
  wholeTen : Bool
  drained : Bool := false
  marked : Bool := true
  deriving DecidableEq, Repr

/-- The shared translation logic: caches, walks, fault records by 256 x tenant + index, the faults that wait
for a record (tenant, context, waiter; R103), invalidations. -/
structure Xlt where
  tlb : Tbl (List Tlb) := []
  walkc : List WalkC := []
  walks : List Walk := []
  nextWalk : Nat := 0
  faults : Tbl FaultR := []
  queued : List (Nat × Nat × Waiter) := []
  invals : List Inval := []
  deriving DecidableEq, Repr

/-! Rings (chapters 5 and 6). -/

/-- Where an accepted operation stands: not started, started, waiting only for its completion entry to be
written. -/
inductive OpSt where
  | queued | started | done
  deriving DecidableEq, Repr

/-- A submission entry as accepted (R110, R112, R137): its fields, its inline payload, its raw first slot
(for the legacy write-back) and where it was taken. -/
structure Sqe where
  opcode : Nat := 0
  fence : Bool := false
  localWin : Bool := false
  immValid : Bool := false
  format : Nat := 0
  xform : Nat := 0
  tag : Nat := 0
  laddr : Nat := 0
  len : Nat := 0
  raddr : Nat := 0
  rkey : Nat := 0
  imm : Nat := 0
  op0 : Nat := 0
  op1 : Nat := 0
  xarg : Nat := 0
  inl : Option (List Byte) := none
  bad : Bool := false
  pos : Nat := 0
  slots : Nat := 1
  raw : List Byte := []
  deriving DecidableEq, Repr

/-- An operation of a queue pair from its acceptance to its completion (R118, R161, R172). -/
structure Op where
  serial : Nat
  sqe : Sqe
  st : OpSt := .queued
  msn : Nat := 0
  ssn : Nat := 0
  psn0 : Nat := 0
  npk : Nat := 0
  cut : Nat := 0
  got : List (Nat × Nat) := []
  reissues : Nat := 0
  bytes : Nat := 0
  aux : Nat := 0
  resps : Nat := 0
  paths : Nat := 0
  status : Nat := 0
  detail : Nat := 0
  partialMask : Nat := 0
  deriving DecidableEq, Repr

/-- A posted receive (R175): the count of its POST_RECV since CONNECT, and its buffer. -/
structure Recv where
  ssn : Nat
  serial : Nat
  tag : Nat
  laddr : Nat
  len : Nat
  localWin : Bool := false
  deriving DecidableEq, Repr

/-- What a fetch is doing (R115). -/
inductive Fetch where
  | none | index | slots | wait
  deriving DecidableEq, Repr

/-- The submission side of a queue pair beside its QP_ registers (R115 to R119, R142 to R144). `took` tells that the
fetch has accepted an entry, `recorded` that a doorbell came while the slice was frozen or the scheduler stopped (R335, R435, R442); `start` is the head when
the slots were asked for, `wbFlush` the operation whose legacy write-back waits for its flushes (R141). -/
structure Sq where
  phase : Fetch := .none
  bell : Bool := false
  again : Bool := false
  refetches : Nat := 0
  headWritten : Nat := 0
  held : Bool := false
  earlyAt : Option Nat := none
  serial : Nat := 0
  ops : List Op := []
  destroying : Option (Origin × Nat) := none
  took : Bool := false
  recorded : Bool := false
  start : Nat := 0
  wbFlush : Option (Nat × List (Nat × Nat)) := none
  deriving DecidableEq, Repr

/-- A completion entry before it takes its position (R120). `counts` tells that an operation is released
when it is written; `wait` holds the flushes not back, by near port and tag. -/
structure Cqe where
  tag : Nat := 0
  qp : Nat := 0
  status : Nat := 0
  opcode : Nat := 0
  aux : Nat := 0
  bytes : Nat := 0
  paths : Nat := 0
  immValid : Bool := false
  responder : Bool := false
  detail : Nat := 0
  serial : Option Nat := none
  msn : Option Nat := none
  flushed : Bool := false
  wait : List (Nat × Nat) := []
  deriving DecidableEq, Repr

/-- A completion ring beside its CQ_ registers (R121 to R123). -/
structure Cq where
  waiting : List Cqe := []
  notified : Nat := 0
  armRead : Bool := false
  fenced : Bool := false
  deriving DecidableEq, Repr

/-- An entry of an admin completion ring: a command completion or an event (R124). -/
structure AdmEnt where
  tag : Nat := 0
  event : Bool := false
  code : Nat := 0
  cmd : Nat := 0
  detail : Nat := 0
  arg0 : Nat := 0
  arg1 : Nat := 0
  arg2 : Nat := 0
  deriving DecidableEq, Repr

/-! Transport (chapter 7). -/

/-- A sequenced packet sent and not yet acknowledged (R162, R167, R183). `nakAt` is the count at its first
RESEND_AFTER NAK; `hold` tells that it waits for that NAK's backoff. A multicast queue pair keeps one for each member `mem` (R321). -/
structure Sent where
  psn : Nat
  serial : Nat
  pkt : Pkt
  sends : Nat := 1
  txTime : Nat := 0
  entropy : Nat := 0
  resend : Bool := false
  nakAt : Option Nat := none
  nakReason : Nat := 0
  hold : Bool := false
  uncounted : Bool := false
  mem : Nat := 0
  deriving DecidableEq, Repr

/-- A responder message record (R170, R171): the flushes it waits for by near port and tag, and whether its
completion entry has been made ready. -/
structure MsgRec where
  msn : Nat
  opc : Nat
  len : Nat
  target : Nat
  rkey : Nat
  format : Nat
  imm : Option Nat := none
  got : Nat := 0
  paths : Nat := 0
  psns : List Nat := []
  lastPsn : Nat := 0
  complete : Bool := false
  flush : List (Nat × Nat) := []
  entered : Bool := false
  cqWait : Bool := false
  recv : Option Recv := none
  deriving DecidableEq, Repr

/-- One side of a connection beside its TRN_QP registers (R158 to R184). `seen` holds the accepted PSNs of
the window, `unackable` the accepted PSNs not yet acknowledgeable, `held` the packets that wait for a translation,
`reReqs` the ranges of READs to be asked for again, `mcast` the peloton and slot of a multicast queue pair, `rate`
the sending rate in 1/65,536 Mbit/s. -/
structure Conn where
  peerIp : Nat := 0
  srcIp : Nat := 0
  vlan : Option Nat := none
  lastEpoch : Option Nat := none
  ssnNext : Nat := 0
  seen : List Nat := []
  unackable : List Nat := []
  sent : List Sent := []
  respQ : List Pkt := []
  nextE : Nat := 0
  holds : List (Nat × Nat) := []
  recs : List MsgRec := []
  atomics : List (Nat × Nat) := []
  recvs : List Recv := []
  held : List (Pkt × Rx) := []
  rate : Nat := 0
  reReqs : List (Nat × Nat × Nat) := []
  respCe : Nat := 0
  ackPsn : Nat := 0
  mcast : Option (Nat × Nat) := none
  authLast : Option Nat := none
  sinceAck : Nat := 0
  ackTimer : Bool := false
  ackEcho : Nat := 0
  ackRcvd : Nat := 0
  ce : Nat := 0
  authFails : Nat := 0
  fatalAt : Option Nat := none
  exhNak : Bool := false
  rttvar : Nat := 0
  rttAny : Bool := false
  rMin : Option Nat := none
  ceSum : Nat := 0
  ackedSum : Nat := 0
  ackSeen : Bool := false
  nextTx : Nat := 0
  deriving DecidableEq, Repr

/-- The key store of the cipher engine: keys by 2 x context + phase, and the slice context number of each
module context (R352). -/
structure Cip where
  keys : Tbl Nat := []
  sliceNo : Tbl Nat := []
  deriving DecidableEq, Repr

/-! Traffic control (chapter 8). -/

/-- A frame of a far port: its length from the destination address through the FCS, its class, the Hevor
packet it carries if it is one, whether its ECN codepoint is ECT or already CE, the module it is for, its hop limit, the
multicast tree it follows, its UDP source port, and, in an ingress buffer, whether it is for the transport. -/
structure Frame where
  bytes : Nat := 64
  tc : Nat := 0
  pkt : Option Pkt := none
  ect : Bool := false
  ce : Bool := false
  dstModule : Nat := 0
  ttl : Nat := 64
  tree : Option Nat := none
  sport : Nat := 0
  toUs : Bool := false
  deriving DecidableEq, Repr

/-- A meter as applied: its configuration words, its binding and its two buckets in 1/1,024 byte (R196). -/
structure Meter where
  cfg0 : Nat := 0
  cfg1 : Nat := 0
  bind : Nat := 0
  tp : Nat := 0
  tc : Nat := 0
  deriving DecidableEq, Repr

/-- What is applied of shapers, meters and gates: active bindings by instance, meters, the cycle count of the
last refill, the active gate list's BASE, CYCLE_CT and LEN, whether it was cancelled, the open mask of the
last entry applied (R197 to R202). -/
structure Traffic where
  qbind : Tbl Nat := []
  tbind : Tbl Nat := []
  meters : Tbl Meter := []
  lastRefill : Nat := 0
  gateBase : Nat := 0
  gateCycle : Nat := 0
  gateLen : Nat := 0
  gateOpen : Nat := 0xFFFF
  gateStopped : Bool := true
  deriving DecidableEq, Repr

/-- One far port beside its registers: class queues, deficits and, by band, the class whose turn it is with whether the turn
has begun (R203), the frames that wait in the ingress buffer, oldest first (R192), the counts until which classes are paused,
number 16 being a PAUSE (R214), the classes whose head frame has been counted as waiting (R201), and the cadence-sync messages
that wait through a PAUSE, by type. -/
structure Far where
  classQ : Tbl (List Frame) := []
  deficit : Tbl Nat := []
  turn : Tbl (Nat × Bool) := []
  ingress : List Frame := []
  pausedTo : Tbl Nat := []
  waited : List Nat := []
  syncs : List (Nat × SyncMsg) := []
  deriving DecidableEq, Repr

/-! Pelotons (chapter 12). -/

/-- The states of R323; a free peloton number holds none of them. -/
inductive PelSt where
  | free | reserved | ready | armed | running | stalled | reforming | excluded | error
  deriving DecidableEq, Repr

/-- An entry of a member table (R296). -/
structure Member where
  module : Nat
  baseQp : Nat
  vlan : Option Nat
  ip : Nat
  deriving DecidableEq, Repr

/-- A STALL or LEAVE message (R315). KIND 0 WAITING, 1 LATE, 2 RESTART, 3 LEAVE. -/
structure Ctl where
  epoch : Nat
  round : Nat
  kind : Nat
  origin : Nat
  action : Nat := 0
  extNum : Nat := 0
  reason : Nat := 0
  count : Nat := 0
  w : List Nat := []
  deriving DecidableEq, Repr

/-- A chunk as received into the hub, its parts by offset (R303, R310, R311). -/
structure Chunk where
  slot : Nat
  msn : Nat
  epoch : Nat
  round : Nat
  cfmt : Nat
  chunk : Nat
  len : Nat
  crc : Nat
  src : Nat
  piece : Nat
  rows : Nat
  parts : Tbl (List Byte) := []
  whole : Bool := false
  deriving DecidableEq, Repr

/-- An operation of a peloton (R305 to R309, R322). `ext` counts the extensions applied in the epoch, `shift` is
the list of (round, amount) they add to deadlines, `settled` the number of chunks settled, `excl` the members excluded
during the operation, and `missed` tells that the launch count came while the operation could not start (R307). -/
structure PelOp where
  qp : Nat
  serial : Nat
  cop : Nat
  format : Nat
  outFormat : Nat
  src : Nat
  dst : Nat
  count : Nat
  launchAt : Nat
  stepCt : Nat
  report : Nat
  capRows : Nat
  root : Nat
  localWin : Bool
  base : Nat := 0
  ext : Nat := 0
  shift : List (Nat × Nat) := []
  extNums : List Nat := []
  extensions : Nat := 0
  reforms : Nat := 0
  epochStart : Nat := 0
  firstFinal : Nat := 0
  capDrops : Nat := 0
  dropsListed : Nat := 0
  signal : Nat := 0
  crcFails : Nat := 0
  crcSent : Nat := 0
  settled : Nat := 0
  excl : List Nat := []
  started : Bool := false
  missed : Bool := false
  deriving DecidableEq, Repr

/-- A peloton (R295 to R298, R315 to R323). `bankIds` are the logical banks its program holds during an operation, and
`sendPos` the next descriptor of the send ring (R303). -/
structure Pel where
  st : PelSt := .free
  tenant : Nat := 0
  ctx : Nat := 0
  group : Nat := 0
  cluster : Nat := 0
  baseQp : Nat := 0
  slots : Nat := 0
  sched : Nat := 0
  modes : Nat := 0
  cops : Nat := 0
  cores : Nat := 0
  banks : Nat := 0
  bankIds : List Nat := []
  entry : Nat := 0
  codeAt : Nat := 0
  codeLen : Nat := 0
  mode : Nat := 0
  log2Chunk : Nat := 0
  tc : Nat := 0
  mtu : Nat := 0
  seed : Nat := 0
  extendCt : Nat := 0
  extendMax : Nat := 0
  numPaths : Nat := 1
  retryMax : Nat := 1
  srcIp : Nat := 0
  lead : Nat := 0
  minMembers : Nat := 2
  tree : Option Nat := none
  me : Nat := 0
  members : List Member := []
  epoch : Nat := 0
  excluded : List Nat := []
  live : List Nat := []
  tR : Option Nat := none
  ctls : List Ctl := []
  seen : List Ctl := []
  stallSeen : List (Nat × Nat) := []
  reformAts : List Nat := []
  op : Option PelOp := none
  waitOps : List PelOp := []
  chunks : List Chunk := []
  sendPos : Nat := 0
  deriving DecidableEq, Repr

/-! Tenant slices (chapter 13). -/

/-- The field values of one numbered object, by field key (a select register shows them; R132 to R134, R186, R207, R349,
R366). -/
abbrev Obj := List (Nat × Nat)

/-- An extent as an image carries it (R339): its old first unit, its length in units, its context and flags, and the
attachment slot it was bound to. -/
structure ImgExt where
  base : Nat
  units : Nat
  ctx : Nat
  any : Bool
  keep : Bool
  slot : Nat
  deriving DecidableEq, Repr

/-- What a slice image says (R338, R339): the header fields that a restore reads, and the sections, whose contents are
Kilurn's own. -/
structure SliceImg where
  version : Nat := 1
  tenant : Nat := 0
  freeze : Nat := 0
  id : Nat := 0
  srcIdent : List Byte := []
  tgtIdent : List Byte := []
  quota : List Nat := []
  qpBase : Nat := 0
  cqBase : Nat := 0
  pelBase : Nat := 0
  atts : List (Nat × Nat) := []
  ctxs : List (Nat × Nat) := []
  exts : List ImgExt := []
  qps : List (Nat × Obj × Sq × Conn) := []
  cqs : List (Nat × Obj × Cq) := []
  adm : Obj := []
  events : List AdmEnt := []
  regions : List (Nat × Obj) := []
  pels : List (Nat × Nat × List Nat × Pel) := []
  shapers : List (Nat × Obj) := []
  tshapers : List (Nat × Obj) := []
  meters : List (Nat × Obj) := []
  cips : List (Nat × Obj × Nat × Nat) := []
  cipQps : List (Nat × Nat) := []
  mSlice : List Byte := []
  deriving DecidableEq, Repr

/-- What an admin command finds outside its entry: bytes at the address it names, the 64 bytes of the public key it names,
an image, whether its signature and its tag verify, and member tables by peloton (R298, R336, R337, R341). -/
structure AdmX where
  mem : List Byte := []
  tables : Tbl (List Byte) := []
  key : List Byte := []
  img : SliceImg := {}
  sigOk : Bool := false
  tagOk : Bool := false
  deriving DecidableEq, Repr

/-- An admin queue beside its ADM_ registers (R125, R126): entries waiting for room, events lost since the
last EVENT_LOST, positions of both rings, whether a command runs, and the commands that wait for it. -/
structure Adm where
  held : List AdmEnt := []
  lost : Nat := 0
  written : Nat := 0
  headSeen : Nat := 0
  sqHead : Nat := 0
  busy : Bool := false
  queue : List (Origin × List Byte × AdmX) := []
  deriving DecidableEq, Repr

/-- A slice beside its TEN_ registers (R327, R334 to R343): the FREEZE that waits, whether the freeze count has come,
the count reported, the DESTROY_TENANT that waits, the KEPT extents it has adopted, wrong REATTACH tokens in a row, the
IMAGE_ID of its restore, M_SLICE (R395), the migration tokens not yet used by saved attachment slot, and the contexts of the
image with theirs (R342). -/
structure Slice where
  freeze : Option Origin := none
  stepped : Bool := false
  reported : Nat := 0
  destroying : Option Origin := none
  adopted : List Nat := []
  wrong : Nat := 0
  image : Option Nat := none
  mSlice : List Byte := []
  migs : List (Nat × Nat) := []
  ctxs : List (Nat × Nat) := []
  deriving DecidableEq, Repr

/-- An extent beside its TEN_EXT registers (R332, R484): the endpoint of the attachment it is bound to or preserved by,
and the attachment that preserved it. -/
structure Ext where
  epid : Nat := 0
  att : Option Nat := none
  deriving DecidableEq, Repr

/-- Admin and mailbox commands that wait for something to drain: DEREGISTER_REGION by region index (R181),
UNREGISTER_CONTEXT by descriptor (R129), XFORM_REMOVE by transform index (R382). -/
inductive Job where
  | dereg (o : Origin) (i : Nat)
  | unreg (o : Origin) (d : Nat)
  | unxform (i : Nat)
  deriving DecidableEq, Repr

/-- What Kilurn keeps of pools, slices and extents beside the registers: pool totals in the order of R327 (an unlisted
pool holds what a reset gives it), slices, extents, waiting jobs, the IMAGE_IDs restored since cold reset (R340), and
the count at which the hold of KEPT extents began (R345). -/
structure Ten where
  pools : Tbl (List Nat) := []
  slices : Tbl Slice := []
  exts : Tbl Ext := []
  jobs : List Job := []
  images : List Nat := []
  keepFrom : Option Nat := none
  deriving DecidableEq, Repr

/-! Compute clusters (chapters 10 and 11). -/

/-- A work item of the transport engine (R253): 0 a gather, 1 a placement, 2 the serving of a READ range; its hub
slots once it has them, and for a gather with a transform the output length (R255). -/
structure Work where
  kind : Nat
  qp : Nat
  serial : Nat
  tenant : Nat
  ctx : Nat
  addr : Nat
  len : Nat
  xform : Nat := 0
  xarg : Nat := 0
  hub : Option Nat := none
  slots : Nat := 0
  outLen : Option Nat := none
  deriving DecidableEq, Repr

/-- What a thread that is not ready waits for (R236, R238, R240, R245). -/
inductive Wait where
  | none
  | slotFree (k : Nat)
  | slotDone (k d : Nat)
  | fence (mask : Nat)
  | barrier (mask : Nat)
  | cadence (t d : Nat)
  deriving DecidableEq, Repr

/-- A hardware thread beside its CLU_THR registers (R232): general, vector and predicate registers by number, its
local memory, what it waits for, the work item bound to it, and for VIS fences the near paths it wrote on and the
flushes not back (R238). -/
structure Thr where
  g : Tbl Nat := []
  v : Tbl Nat := []
  p : Tbl Nat := []
  mem : Mem := []
  wait : Wait := .none
  work : Option Work := none
  wrote : Nat := 0
  flush : List (Nat × Nat) := []
  zeroing : Bool := false
  cur : Nat := 0
  deriving DecidableEq, Repr

/-- A stream slot (R240 to R245): its direction, the parts not yet requested and those requested of accelerator
memory, as local offset, remote address and length, and its first failure. -/
structure Slot where
  busy : Bool := false
  thread : Nat := 0
  store : Bool := false
  hub : Bool := false
  win : Bool := false
  todo : List (Nat × Nat × Nat) := []
  out : List (Nat × Nat × Nat × Nat) := []
  status : Nat := 0
  parked : Bool := false
  deriving DecidableEq, Repr

/-- A chainring configuration (R273): the format codes, ROUND and SAT. -/
structure CrCfg where
  aFmt : Nat := 0
  bFmt : Nat := 0
  outFmt : Nat := 0
  round : Bool := false
  sat : Bool := false
  deriving DecidableEq, Repr

/-- A chainring command that waits, with the configuration it was issued under (R273). -/
inductive CrCmd where
  | load (cfg : CrCfg) (buf addr k : Nat)
  | mul (cfg : CrCfg) (addr k buf : Nat) (acc : Bool)
  | store (cfg : CrCfg) (addr : Nat) (clear : Bool)
  deriving DecidableEq, Repr

/-- The chainring array (R271 to R276): the configuration last set, the K of the B buffers as issued and their
bytes, the two output planes by 128 x row + column, the plane last completed, its status, whether it failed, the
commands in issue order, and whether the holder has given the unit up. -/
structure Arr where
  cfg : CrCfg := {}
  kOf : Tbl Nat := []
  bufs : Tbl (List Byte) := []
  planes : Tbl (Tbl Nat) := []
  last : Nat := 1
  status : Nat := 0
  failed : Bool := false
  queue : List CrCmd := []
  release : Bool := false
  deriving DecidableEq, Repr

/-- The configuration of the sprocket as issued (R285). -/
structure SpCfg where
  inFmt : Nat := 1
  in2 : Nat := 1
  outFmt : Nat := 1
  round : Bool := false
  sat : Bool := true
  deriving DecidableEq, Repr

/-- A sprocket command that waits (R285); an addition or rounding keeps the configuration it was issued under, and
mode 2 its scalar. -/
inductive SpCmd where
  | clr (base n : Nat)
  | add (cfg : SpCfg) (base n addr other mode : Nat)
  | imp (base n addr : Nat) (trimmed : Bool)
  | exp (base n addr : Nat) (trimmed clear : Bool)
  | rnd (cfg : SpCfg) (base n addr : Nat) (clear : Bool)
  deriving DecidableEq, Repr

/-- The sprocket unit beside its SPK registers (R279, R284, R290): accumulators by number, commands in issue order,
whether a poisoned accumulator was read since the last FENCE [3], and whether the holder has given the unit up. -/
structure Spk where
  accs : Tbl Accum := []
  queue : List SpCmd := []
  trapDue : Bool := false
  release : Bool := false
  deriving DecidableEq, Repr

/-- A cluster beside its CLU registers (R229): threads by number, banks by 2^18 x physical bank + offset, the
program store by word, the hub buffer and its slots in use, the work queue, the items done whose packets are not all
sent (R253), stream slots by 8 x unit + slot, and the handovers that wait for zeroing by bank (owner, readers, tenant;
R247). The work of queue pairs that no cluster serves is kept under number 31 (R252). -/
structure Clu where
  thr : Tbl Thr := []
  bank : Mem := []
  pstore : Tbl Nat := []
  hub : Mem := []
  hubUsed : List Nat := []
  work : List Work := []
  done : List Work := []
  slots : Tbl Slot := []
  arr : Arr := {}
  spk : Spk := {}
  handing : Tbl (Nat × Nat × Nat) := []
  deriving DecidableEq, Repr

/-! The management processor (chapter 15). -/

/-- A request of a remote provider channel (R384): its MSG_ID, whether it came sealed, the number of the party that asks,
its 64-byte command header and its parameters. -/
structure Req where
  msgId : Nat := 0
  sealed_ : Bool := true
  src : Nat := 0
  header : List Byte := []
  params : List Byte := []
  deriving DecidableEq, Repr

/-- A mailbox (R373 to R376, R384, R385), by slot: its page from offset 0x040 on, the SEQ of the latched doorbell with the
near port and endpoint of its path, whether its command waits for something to end, and the response data of a REATTACH whose
flush is out (R379); for the management port (1,024) and
the far-port channel (1,025) the requests not answered, oldest first, the last 16 responses by MSG_ID, and the greatest
NONCE_CTR accepted. -/
structure Mbx where
  page : Mem := []
  seq : Nat := 0
  port : Nat := 0
  epid : Nat := 0
  waiting : Bool := false
  reqs : List Req := []
  later : Option (List Byte) := none
  done : List (Nat × List Byte) := []
  nonce : Option Nat := none
  deriving DecidableEq, Repr

/-- The recovery protocol of the boot ROM (R389): the responder, the image length, the bytes in hand, the retries of
the block it waits for, and whether a cold reset led to it. -/
structure Recovery where
  responder : Option Nat := none
  len : Nat := 0
  data : List Byte := []
  retries : Nat := 0
  cold : Bool := false
  deriving DecidableEq, Repr

/-- What the management processor and the life-cycle store hold beside the MBX_ and LCS_ registers (R357, R369, R371, R378,
R386, R389, R391, R392, R394, R395): the staging buffer, the image copy, the flash, its certificate area, the transform
programs by index (first word and words), outstanding key challenges by slot and the life-cycle challenge with their
counts, the configuration log, the time of each core's last fault, the device identity public key, the key-agreement public key, the target
of an LC_ADVANCE under way, the measurement of the boot ROM, the key that signed the running image, the DN9's INCARNATION (R68),
and the recovery. The flash is `none` while it holds the image the module came with, which the
spec does not give. -/
structure Mgmt where
  mbx : Tbl Mbx := []
  stage : Mem := []
  image : List Byte := []
  flash : Option (List Byte) := none
  cert : List Byte := []
  xforms : Tbl (Nat × Nat) := []
  chals : Tbl (List (Nat × Nat)) := []
  lcChal : Option (Nat × Nat) := none
  log : List (List Byte × Nat × Nat) := []
  wrapped : Bool := false
  faults : Tbl Nat := []
  identPub : List Byte := []
  kaPub : List Byte := []
  advance : Option (Nat × List Byte) := none
  rom : List Byte := []
  signer : Option Nat := none
  incarnation : Nat := 0
  recovery : Option Recovery := none
  deriving DecidableEq, Repr

/-! Scheduled events (R44 to R47). -/

/-- The owner of a scheduled event. -/
inductive EvKind where
  | swap
  | gate
  | refill
  | freeze (t : Nat)
  | launch (p serial : Nat)
  | deadline (p round : Nat)
  | cwait (c i : Nat)
  | dump
  | spareTest
  | sweep
  | crocus
  deriving DecidableEq, Repr

/-- An armed event: its owner and its count. -/
structure Ev where
  kind : EvKind
  at_ : Nat
  deriving DecidableEq, Repr

/-! What leaves the block. -/

/-- Everything the block has sent to the outside, in order. -/
inductive Out where
  | near (p : Nat) (m : NearMsg)
  | caps (p : Nat) (c : Caps)
  | retryReq (p : Nat)
  | idleFlits (p : Nat)
  | wake (p : Nat)
  | indexRead (qp : Nat)
  | slotsRead (qp start n : Nat)
  | sqHead (qp head : Nat)
  | cqHeadRead (cq : Nat)
  | notify (cq count : Nat)
  | admRead (slot : Nat)
  | admCqRead (slot : Nat)
  | adm (slot pos : Nat) (e : AdmEnt)
  | admHead (slot head : Nat)
  | writeBack (qp pos : Nat) (b : List Byte)
  | frame (port : Nat) (f : Frame)
  | pfc (port cls quanta : Nat)
  | report (p addr : Nat) (b : List Byte)
  | response (ch msgId src nonce : Nat) (sealed_ : Bool) (b : List Byte)
  | image (addr : Nat) (img : SliceImg)
  | sync (lane type_ : Nat) (m : SyncMsg)
  | remap (near : Bool) (port : Nat) (m : LaneMsg)
  | pps (count : Nat)
  | smbus (b : List Byte)
  | recovery (to_ : Option Nat) (offset len : Nat)
  | vout (rail mv : Nat)
  | boundary (cells : List Bool)
  | wrote (addr : Nat) (b : List Byte)
  deriving DecidableEq, Repr

end Sys2Proof.Machine
end

