-- ==== Sys2Proof/Syntax.lean ====
section
/-! DEFINITION. The commands of the block: one constructor for each row of spec/opcode_table.json. The table
gives its rows no operand fields; the operands here are those the rule of each row needs. -/

namespace Sys2Proof

/-- The commands (spec/opcode_table.json), in the order of the table. -/
inductive Instr where
  /-- COLD_RESET (R19). `b` is what the boot finds. -/
  | coldReset (b : Boot)
  /-- WARM_RESET (R19). -/
  | warmReset (b : Boot)
  /-- KILURN_READY (R387). -/
  | kilurnReady
  /-- RECOVERY_REQUEST_TIMER (R389). -/
  | recoveryRequestTimer
  /-- RECOVERY_DATA (R389). `src` names the responder, `len` is IMAGE_LEN. -/
  | recoveryData (src offset len : Nat) (data : List Byte) (b : Boot)
  /-- RECOVERY_BLOCK_TIMEOUT (R389). -/
  | recoveryBlockTimeout
  /-- AUX_3V3_RISE (R469). -/
  | aux3v3Rise (mv : Nat) (b : Boot)
  /-- AUX_3V3_LOSS (R464). -/
  | aux3v3Loss (mv : Nat)
  /-- MOD_PWR_EN_RISE (R469). the four sensors, in 1/16 C. -/
  | modPwrEnRise (temps : List Int)
  /-- MOD_PWR_EN_FALL (R469). -/
  | modPwrEnFall
  /-- VIN_START_LEVEL (R464). in 10 mV. -/
  | vinStartLevel (vin : Nat)
  /-- RAIL_POWER_GOOD (R469). -/
  | railPowerGood (b : Boot)
  /-- RAIL_START_TIMEOUT (R464). -/
  | railStartTimeout
  /-- MOD_RST_N_FALL (R470). -/
  | modRstNFall
  /-- MOD_RST_N_WARM_TIMER (R470). -/
  | modRstNWarmTimer
  /-- MOD_RST_N_COLD_TIMER (R470). -/
  | modRstNColdTimer
  /-- MOD_RST_N_RISE (R470). -/
  | modRstNRise (b : Boot)
  /-- REFCLK_LOSS (R467). -/
  | refclkLoss
  /-- REFCLK_RETURN (R467). -/
  | refclkReturn
  /-- THERMAL_THROTTLE_STEP (R476). the four sensors, in 1/16 C. -/
  | thermalThrottleStep (temps : List Int)
  /-- THERMAL_TRIP (R476). -/
  | thermalTrip (temps : List Int)
  /-- POWER_CAP_STEP (R433). VIN in 10 mV, the power from AUX_3V3 in mW. -/
  | powerCapStep (watts vin auxMw : Nat)
  /-- SUPPLY_DIP_START (R442). `source` is a rail, or 15 for VIN. -/
  | supplyDipStart (source mv : Nat)
  /-- SUPPLY_DIP_RECOVERY (R442). -/
  | supplyDipRecovery (source minMv us : Nat)
  /-- DIP_HOLD_EXPIRE (R443). -/
  | dipHoldExpire
  /-- SUPPLY_BELOW_RESET (R443). -/
  | supplyBelowReset (source mv : Nat) (b : Boot)
  /-- PWR_REQ_RUN (R441). -/
  | pwrReqRun
  /-- PWR_REQ_TRIM (R441). -/
  | pwrReqTrim
  /-- PWR_REQ_CROCUS (R434). -/
  | pwrReqCrocus
  /-- PWR_REQ_REST (R434). -/
  | pwrReqRest
  /-- POWER_ENTRY_DRAIN_DONE (R435). -/
  | powerEntryDrainDone
  /-- POWER_ENTRY_DRAIN_TIMEOUT (R435). -/
  | powerEntryDrainTimeout
  /-- PMBUS_ACK (R432). -/
  | pmbusAck (r mv : Nat)
  /-- PMBUS_TIMEOUT (R432). -/
  | pmbusTimeout (r : Nat)
  /-- CROCUS_WATCH (R438). -/
  | crocusWatch (activity : Bool) (temps : List Int) (vin : Nat)
  /-- REST_LANE_ACTIVITY (R439). -/
  | restLaneActivity
  /-- SMBUS_STATUS (R474). -/
  | smbusStatus
  /-- SMBUS_REPLACE (R474). -/
  | smbusReplace
  /-- SMBUS_TEMP (R474). -/
  | smbusTemp (temps : List Int)
  /-- SMBUS_POWER (R474). -/
  | smbusPower (vin auxMv : Nat)
  /-- SMBUS_IDENT (R474). the management MAC address. -/
  | smbusIdent (mac : List Byte)
  /-- JTAG_BYPASS (R475). -/
  | jtagBypass
  /-- JTAG_SAMPLE_PRELOAD (R475). -/
  | jtagSamplePreload (cells : List Bool)
  /-- JTAG_EXTEST (R475). -/
  | jtagExtest
  /-- JTAG_TEST_LOGIC_RESET (R475). -/
  | jtagTestLogicReset
  /-- NEAR_WR (R72). -/
  | nearWr (p : Nat) (m : NearMsg)
  /-- NEAR_RD (R66). -/
  | nearRd (p : Nat) (m : NearMsg)
  /-- NEAR_FLUSH_RD (R74). -/
  | nearFlushRd (p : Nat) (m : NearMsg)
  /-- NEAR_FADD (R486). -/
  | nearFadd (p : Nat) (m : NearMsg)
  /-- NEAR_CSWAP (R486). -/
  | nearCswap (p : Nat) (m : NearMsg)
  /-- NEAR_CPL_RECEIVE (R66). -/
  | nearCplReceive (p : Nat) (m : NearMsg)
  /-- NEAR_FLIT_RECEIVE (R60). -/
  | nearFlitReceive (p : Nat) (f : Flit)
  /-- NEAR_RETRY_REQ (R60). the port, and the ACK of the flit. -/
  | nearRetryReq (p ack : Nat)
  /-- NEAR_REPLAY_EXHAUSTED (R60). -/
  | nearReplayExhausted (p : Nat)
  /-- NEAR_FEC_LOCK (R69). -/
  | nearFecLock (p : Nat)
  /-- NEAR_FEC_LOSS_TIMEOUT (R77). -/
  | nearFecLossTimeout (p : Nat)
  /-- NEAR_FLIT_ABSENCE_TIMEOUT (R77). -/
  | nearFlitAbsenceTimeout (p : Nat)
  /-- NP_COMPLETION_TIMEOUT (R67). -/
  | npCompletionTimeout (p tag : Nat)
  /-- NEAR_CAPS (R69). -/
  | nearCaps (p : Nat) (c : Caps)
  /-- NEAR_READY (R69). -/
  | nearReady (p : Nat)
  /-- NEAR_DOWN (R77). -/
  | nearDown (p : Nat)
  /-- NEAR_CREDIT (R62). P headers, P data units, NP headers. -/
  | nearCredit (p h d n : Nat)
  /-- NEAR_WAKE_PATTERN (R82). -/
  | nearWakePattern (p : Nat)
  /-- NEAR_WAKE_RETRY (R82). -/
  | nearWakeRetry (p : Nat)
  /-- NEAR_PORT_REST (R436). -/
  | nearPortRest (p : Nat)
  /-- ENDPOINT_GRACE_EXPIRE (R79). `e` is an attachment slot. -/
  | endpointGraceExpire (e : Nat)
  /-- INVAL (R93). -/
  | inval (p : Nat) (m : NearMsg)
  /-- INVAL_DRAINED (R93). -/
  | invalDrained (e seq : Nat)
  /-- PAGE_RESP (R102). -/
  | pageResp (p : Nat) (m : NearMsg)
  /-- WALK_READ_DONE (R91). -/
  | walkReadDone (p tag status value : Nat)
  /-- AD_UPDATE_DONE (R89). -/
  | adUpdateDone (p tag status value : Nat)
  /-- FAULT_STALL_EXPIRE (R99). `k` counts the waiters of record `i`; `i` = 256 names the list of R103. -/
  | faultStallExpire (ten i k : Nat)
  /-- PAGE_RETRY_WAIT_EXPIRE (R102). -/
  | pageRetryWaitExpire (ten i : Nat)
  /-- PAGE_TIMER_EXPIRE (R102). -/
  | pageTimerExpire (ten i : Nat)
  /-- QP_DOORBELL (R115). The queue pair and the value written -/
  | qpDoorbell (q v : Nat)
  /-- SQ_INDEX_READ_DONE (R115). SQ_TAIL as read -/
  | sqIndexReadDone (q t : Nat)
  /-- SQ_SLOTS_READ_DONE (R115). The slots from the head on -/
  | sqSlotsReadDone (q : Nat) (slots : List (List Byte))
  /-- SQ_FETCH_FAILED (R115). -/
  | sqFetchFailed (q code detail addr : Nat)
  /-- REFETCH_WAIT_EXPIRE (R115). -/
  | refetchWaitExpire (q : Nat)
  /-- SQ_HEAD_WRITEBACK (R117). -/
  | sqHeadWriteback (q : Nat)
  /-- SQ_ACCEPT_RESUME (R118). -/
  | sqAcceptResume (q : Nat)
  /-- SQE_NOP (R111). The slots of the entry, 64 bytes each -/
  | sqeNop (q : Nat) (slots : List (List Byte))
  /-- SQE_SEND (R174). -/
  | sqeSend (q : Nat) (slots : List (List Byte))
  /-- SQE_WRITE (R174). -/
  | sqeWrite (q : Nat) (slots : List (List Byte))
  /-- SQE_WRITE_IMM (R174). -/
  | sqeWriteImm (q : Nat) (slots : List (List Byte))
  /-- SQE_READ (R176). -/
  | sqeRead (q : Nat) (slots : List (List Byte))
  /-- SQE_FETCH_ADD (R177). -/
  | sqeFetchAdd (q : Nat) (slots : List (List Byte))
  /-- SQE_COMPARE_SWAP (R177). -/
  | sqeCompareSwap (q : Nat) (slots : List (List Byte))
  /-- SQE_REDUCE_WRITE (R178). -/
  | sqeReduceWrite (q : Nat) (slots : List (List Byte))
  /-- SQE_COLLECTIVE (R305). -/
  | sqeCollective (q : Nat) (slots : List (List Byte))
  /-- SQE_POST_RECV (R175). -/
  | sqePostRecv (q : Nat) (slots : List (List Byte))
  /-- SQE_CONT_OUTSIDE_CHAIN (R113). -/
  | sqeContOutsideChain (q : Nat) (slots : List (List Byte))
  /-- SQE_RESERVED_OPCODE (R111). -/
  | sqeReservedOpcode (q o : Nat) (slots : List (List Byte))
  /-- CQ_DOORBELL (R122). -/
  | cqDoorbell (cq : Nat)
  /-- CQ_ARM (R123). -/
  | cqArm (cq v : Nat)
  /-- CQ_HEAD_READ_DONE (R122). CQ_HEAD as read -/
  | cqHeadReadDone (cq h : Nat)
  /-- CQ_HEAD_POLL (R122). -/
  | cqHeadPoll (cq : Nat)
  /-- CQE_WRITE (R121). The accelerator address of the position -/
  | cqeWrite (cq pa : Nat)
  /-- CQ_BROKEN (R488). -/
  | cqBroken (cq code addr : Nat)
  /-- ADM_SQ_DOORBELL (R125). -/
  | admSqDoorbell (t : Nat)
  /-- ADM_CQ_DOORBELL (R126). The slot, and its CQ_HEAD as read -/
  | admCqDoorbell (t h : Nat)
  /-- ADMIN_UNKNOWN_CMD (R127). The slot of the admin queue and the entry of 64 bytes -/
  | adminUnknownCmd (t : Nat) (e : List Byte)
  /-- CREATE_CQ (R128). -/
  | createCq (t : Nat) (e : List Byte)
  /-- DESTROY_CQ (R129). -/
  | destroyCq (t : Nat) (e : List Byte)
  /-- CREATE_QP (R129). -/
  | createQp (t : Nat) (e : List Byte)
  /-- DESTROY_QP (R129). -/
  | destroyQp (t : Nat) (e : List Byte)
  /-- DESTROY_QP_DONE (R129). -/
  | destroyQpDone (q : Nat)
  /-- MODIFY_QP_RESET (R159). -/
  | modifyQpReset (t : Nat) (e : List Byte)
  /-- MODIFY_QP_CONNECT (R159). -/
  | modifyQpConnect (t : Nat) (e : List Byte)
  /-- MODIFY_QP_REPATH (R159). -/
  | modifyQpRepath (t : Nat) (e : List Byte)
  /-- MODIFY_QP_SET_ERROR (R160). -/
  | modifyQpSetError (t : Nat) (e : List Byte)
  /-- QUERY_QP (R128). -/
  | queryQp (t : Nat) (e : List Byte)
  /-- CREATE_LEGACY_QP (R135). -/
  | createLegacyQp (t : Nat) (e : List Byte)
  /-- REGISTER_CONTEXT (R129). -/
  | registerContext (t : Nat) (e : List Byte)
  /-- UNREGISTER_CONTEXT (R129). -/
  | unregisterContext (t : Nat) (e : List Byte)
  /-- REGISTER_REGION (R179). -/
  | registerRegion (t : Nat) (e : List Byte)
  /-- DEREGISTER_REGION (R181). -/
  | deregisterRegion (t : Nat) (e : List Byte)
  /-- DEREGISTER_REGION_DONE (R181). The slot whose command waits -/
  | deregisterRegionDone (t : Nat)
  /-- CREATE_PELOTON_RESERVE (R299). The image in x.mem -/
  | createPelotonReserve (t : Nat) (e : List Byte) (x : Machine.AdmX)
  /-- CREATE_PELOTON_BIND (R300). The member table in x.mem -/
  | createPelotonBind (t : Nat) (e : List Byte) (x : Machine.AdmX)
  /-- DESTROY_PELOTON (R323). -/
  | destroyPeloton (t : Nat) (e : List Byte)
  /-- ALLOC_EXTENT (R331). -/
  | allocExtent (t : Nat) (e : List Byte)
  /-- ALLOC_EXTENT_CLAIM (R332). -/
  | allocExtentClaim (t : Nat) (e : List Byte)
  /-- FREE_EXTENT (R331). -/
  | freeExtent (t : Nat) (e : List Byte)
  /-- EXTENT_WIPE_DONE (R332). The extent -/
  | extentWipeDone (n : Nat)
  /-- CREATE_TENANT (R327). -/
  | createTenant (t : Nat) (e : List Byte)
  /-- DESTROY_TENANT (R343). -/
  | destroyTenant (t : Nat) (e : List Byte)
  /-- DESTROY_TENANT_DONE (R343). The slice -/
  | destroyTenantDone (n : Nat)
  /-- SET_POOL (R327). -/
  | setPool (t : Nat) (e : List Byte)
  /-- SET_ENDPOINT_TENANTS_ADD (R328). -/
  | setEndpointTenantsAdd (t : Nat) (e : List Byte)
  /-- SET_ENDPOINT_TENANTS_REMOVE (R328). -/
  | setEndpointTenantsRemove (t : Nat) (e : List Byte)
  /-- SET_ENDPOINT_TENANTS_CLEAR (R328). -/
  | setEndpointTenantsClear (t : Nat) (e : List Byte)
  /-- FREEZE_SLICE_FREEZE (R335). -/
  | freezeSliceFreeze (t : Nat) (e : List Byte)
  /-- FREEZE_SLICE_THAW (R336). The member tables in x.tables -/
  | freezeSliceThaw (t : Nat) (e : List Byte) (x : Machine.AdmX)
  /-- SAVE_SLICE (R337). The key in x.key -/
  | saveSlice (t : Nat) (e : List Byte) (x : Machine.AdmX)
  /-- RESTORE_SLICE (R342). The image and its verification in x -/
  | restoreSlice (t : Nat) (e : List Byte) (x : Machine.AdmX)
  /-- UNLOCK_REATTACH (R343). -/
  | unlockReattach (t : Nat) (e : List Byte)
  /-- SLICE_FREEZE_FIRE (R335). The slice -/
  | sliceFreezeFire (n : Nat)
  /-- FREEZE_SCAN_DONE (R335). The slice -/
  | freezeScanDone (n : Nat)
  /-- KEEP_HOLD_EXPIRE (R345). -/
  | keepHoldExpire
  /-- LEGACY_DOORBELL (R142). -/
  | legacyDoorbell (q t : Nat) (merged : Bool)
  /-- LEGACY_SLOTS_READ_DONE (R144). -/
  | legacySlotsReadDone (q : Nat) (slots : List (List Byte))
  /-- LEGACY_NOP (R138). The 32 bytes of the entry -/
  | legacyNop (q : Nat) (b : List Byte)
  /-- LEGACY_SEND (R138). -/
  | legacySend (q : Nat) (b : List Byte)
  /-- LEGACY_WRITE (R138). -/
  | legacyWrite (q : Nat) (b : List Byte)
  /-- LEGACY_WRITE_IMM (R139). -/
  | legacyWriteImm (q : Nat) (b : List Byte)
  /-- LEGACY_READ (R138). -/
  | legacyRead (q : Nat) (b : List Byte)
  /-- LEGACY_FETCH_ADD (R138). -/
  | legacyFetchAdd (q : Nat) (b : List Byte)
  /-- LEGACY_COLLECTIVE (R306). -/
  | legacyCollective (q : Nat) (b : List Byte)
  /-- LEGACY_POST_RECV (R138). -/
  | legacyPostRecv (q : Nat) (b : List Byte)
  /-- LEGACY_BAD_ENTRY (R138). -/
  | legacyBadEntry (q : Nat) (b : List Byte)
  /-- LEGACY_WRITEBACK (R141). -/
  | legacyWriteback (q : Nat)
  /-- PACKET_TRANSMIT (R187). The queue pair, what accelerator memory holds where it gathers, 1 or 2 for data in error -/
  | packetTransmit (q : Nat) (data : List Byte) (err : Nat)
  /-- ACK_COALESCE_TIMER (R166). -/
  | ackCoalesceTimer (q : Nat)
  /-- RTO_EXPIRE (R167). The copy by PSN, and by member on a multicast queue pair -/
  | rtoExpire (q psn mem : Nat)
  /-- RESEND_BACKOFF_EXPIRE (R182). -/
  | resendBackoffExpire (q psn mem : Nat)
  /-- RESEND_LIMIT_EXPIRE (R183). -/
  | resendLimitExpire (q psn mem : Nat)
  /-- READ_RESP_TIMEOUT (R176). -/
  | readRespTimeout (q serial : Nat)
  /-- ENTROPY_HOLD_EXPIRE (R169). -/
  | entropyHoldExpire (q e : Nat)
  /-- RATE_UPDATE (R188). -/
  | rateUpdate (q : Nat)
  /-- RX_SEND (R175). -/
  | rxSend (p : Pkt) (r : Rx)
  /-- RX_WRITE (R174). -/
  | rxWrite (p : Pkt) (r : Rx)
  /-- RX_WRITE_IMM (R171). -/
  | rxWriteImm (p : Pkt) (r : Rx)
  /-- RX_READ_REQ (R176). -/
  | rxReadReq (p : Pkt) (r : Rx)
  /-- RX_READ_RESP (R176). -/
  | rxReadResp (p : Pkt) (r : Rx)
  /-- RX_FETCH_ADD (R177). -/
  | rxFetchAdd (p : Pkt) (r : Rx)
  /-- RX_COMPARE_SWAP (R177). -/
  | rxCompareSwap (p : Pkt) (r : Rx)
  /-- RX_REDUCE_WRITE (R178). -/
  | rxReduceWrite (p : Pkt) (r : Rx)
  /-- RX_ACK (R167). -/
  | rxAck (p : Pkt) (r : Rx)
  /-- RX_NAK_RESEND_AFTER (R182). -/
  | rxNakResendAfter (p : Pkt) (r : Rx)
  /-- RX_NAK_FAIL_OP (R182). -/
  | rxNakFailOp (p : Pkt) (r : Rx)
  /-- RX_NAK_FATAL (R182). -/
  | rxNakFatal (p : Pkt) (r : Rx)
  /-- RX_ATOMIC_ACK (R172). -/
  | rxAtomicAck (p : Pkt) (r : Rx)
  /-- RX_CADENCE_PACKET (R164). -/
  | rxCadencePacket (p : Pkt) (r : Rx) (lane ty hops : Nat) (m : SyncMsg) (f2 wait f3 : Nat)
  /-- RX_MGMT_PACKET (R384). `far` tells the far-port channel from the management port; `src` is the party that asks. -/
  | rxMgmtPacket (far : Bool) (src : Nat) (p : Pkt) (r : Rx)
  /-- PTP_MESSAGE (R472). Whether the boundary clock is locked, and its time now. -/
  | ptpMessage (valid : Bool) (time frac : Nat)
  /-- MESSAGE_PLACED_FLUSHED (R171). -/
  | messagePlacedFlushed (q msn : Nat)
  /-- SHAPER_REFILL (R198). -/
  | shaperRefill
  /-- TRN_QSHP_APPLY (R199). -/
  | trnQshpApply (i : Nat)
  /-- TRN_TSHP_APPLY (R199). -/
  | trnTshpApply (i : Nat)
  /-- TRN_MTR_APPLY (R199). -/
  | trnMtrApply (i : Nat)
  /-- GATE_ENTRY_CHANGE (R200). -/
  | gateEntryChange
  /-- EGRESS_SCHEDULE (R203). -/
  | egressSchedule (n : Nat)
  /-- PFC_XON_SEND (R193). -/
  | pfcXonSend (n c : Nat)
  /-- PFC_REFRESH_TIMER (R193). -/
  | pfcRefreshTimer (n c : Nat)
  /-- PAUSE_FRAME (R214). -/
  | pauseFrame (n quanta : Nat)
  /-- PFC_FRAME (R214). -/
  | pfcFrame (n mask : Nat) (quanta : List Nat)
  /-- PAUSE_EXPIRE (R214). -/
  | pauseExpire (n c : Nat)
  /-- FAR_FRAME_RECEIVE (R212). -/
  | farFrameReceive (n : Nat) (f : RxFrame)
  /-- FAR_LINK_DOWN (R211). -/
  | farLinkDown (n : Nat)
  /-- FAR_LINK_UP (R211). -/
  | farLinkUp (n : Nat)
  /-- LANE_FAILING (R216). Lane positions 36 on are near lanes; `reason` is 1 error rate, 2 lock loss, 3 margin. -/
  | laneFailing (l reason : Nat)
  /-- MAC_SPARE_REQ_LANE (R216). -/
  | macSpareReqLane (l : Nat)
  /-- LANE_REMAP_PROPOSE (R218). -/
  | laneRemapPropose (near : Bool) (port : Nat) (m : LaneMsg)
  /-- LANE_REMAP_DONE (R218). -/
  | laneRemapDone (near : Bool) (port : Nat) (m : LaneMsg)
  /-- LANE_REMAP_REFUSE (R218). -/
  | laneRemapRefuse (near : Bool) (port : Nat) (m : LaneMsg)
  /-- LANE_REMAP_ABORT (R218). -/
  | laneRemapAbort (near : Bool) (port : Nat) (m : LaneMsg)
  /-- SPARE_TRAINED (R218). -/
  | spareTrained (near : Bool) (port : Nat)
  /-- REMAP_TIMEOUT (R218). -/
  | remapTimeout (near : Bool) (port : Nat)
  /-- PIN_SUBSTITUTION_DONE (R219). -/
  | pinSubstitutionDone (port : Nat) (ok : Bool)
  /-- FWP_ENABLE_WRITE (R222). -/
  | fwpEnableWrite (v : Nat)
  /-- FWP_CONFIRM_GO (R222). -/
  | fwpConfirmGo
  /-- WARM_HOLD_EXPIRE (R222). -/
  | warmHoldExpire
  /-- CAD_ENABLE_WRITE (R39). `v` is the word written to CAD_CTRL. -/
  | cadEnableWrite (v : Nat)
  /-- CAD_LOAD_GO (R29). -/
  | cadLoadGo
  /-- CAD_SWAP_AT_WRITE (R48). -/
  | cadSwapAtWrite (t : Nat)
  /-- TABLE_SWAP (R48). -/
  | tableSwap
  /-- SYNC_INTERVAL_END (R35). -/
  | syncIntervalEnd
  /-- UPSTREAM_LOST (R37). -/
  | upstreamLost
  /-- SYNC_REQ (R35). The message is received `f2`/256 ns after a count, and its answer sent `wait` ct later at `f3`/256 ns. -/
  | syncReq (lane : Nat) (m : SyncMsg) (f2 wait f3 : Nat)
  /-- SYNC_RESP (R36). The message is received `f4`/256 ns after a count, over `hops` hop-equivalents. -/
  | syncResp (lane : Nat) (m : SyncMsg) (f4 hops : Nat) (switched : Bool)
  /-- ANNOUNCE (R32). -/
  | announce (lane : Nat) (m : SyncMsg) (hops : Nat)
  /-- PPS_EDGE (R38). The edge comes `frac`/256 ns after a count; `sec` is the second PTP gives for it. -/
  | ppsEdge (frac sec : Nat)
  /-- PPS_OUT_PULSE (R38). -/
  | ppsOutPulse
  /-- REFERENCE_LOST (R39). 1 PPS, 2 PTP. -/
  | referenceLost (which : Nat)
  /-- HOLDOVER_ERROR_LIMIT (R39). -/
  | holdoverErrorLimit
  /-- CADENCE_CLOCK_FAULT (R39). -/
  | cadenceClockFault
  /-- CADENCE_CLOCK_HEALTHY (R480). -/
  | cadenceClockHealthy
  /-- CWAIT_FIRE (R236). -/
  | cwaitFire (c i : Nat)
  /-- LAUNCH_FIRE (R307). the launch count of the operation with a serial number of peloton p -/
  | launchFire (p serial : Nat)
  /-- STEP_DEADLINE_FIRE (R308). the deadline of a round of peloton p -/
  | stepDeadlineFire (p round : Nat)
  /-- RX_CHUNK (R311). a CHUNK packet, and what the port and cipher engine found of it -/
  | rxChunk (p : Pkt) (r : Rx)
  /-- RX_BCAST_CHUNK (R321). a BCAST_CHUNK packet -/
  | rxBcastChunk (p : Pkt) (r : Rx)
  /-- RX_STALL (R318). a STALL packet -/
  | rxStall (p : Pkt) (r : Rx)
  /-- RX_LEAVE (R318). a LEAVE packet -/
  | rxLeave (p : Pkt) (r : Rx)
  /-- REFORM_AT_TR (R319). T_R of peloton p -/
  | reformAtTr (p : Nat)
  /-- COLLECTIVE_COMPLETE (R322). every result of the operation of peloton p is visible -/
  | collectiveComplete (p bytes drops listed : Nat)
  /-- ILLEGAL_INSTRUCTION (R235). The cluster and the thread -/
  | illegalInstruction (c i : Nat)
  /-- ADD (R235). -/
  | add (c i d a b : Nat)
  /-- SUB (R235). -/
  | sub (c i d a b : Nat)
  /-- AND (R235). -/
  | and (c i d a b : Nat)
  /-- OR (R235). -/
  | or (c i d a b : Nat)
  /-- XOR (R235). -/
  | xor (c i d a b : Nat)
  /-- SHL (R235). -/
  | shl (c i d a b : Nat)
  /-- SHR (R235). -/
  | shr (c i d a b : Nat)
  /-- SRA (R235). -/
  | sra (c i d a b : Nat)
  /-- SLT (R235). -/
  | slt (c i d a b : Nat)
  /-- SLTU (R235). -/
  | sltu (c i d a b : Nat)
  /-- MIN (R235). -/
  | min (c i d a b : Nat)
  /-- MAX (R235). -/
  | max (c i d a b : Nat)
  /-- POPC (R235). -/
  | popc (c i d a : Nat)
  /-- CLZ (R235). -/
  | clz (c i d a : Nat)
  /-- MUL (R235). -/
  | mul (c i d a b : Nat)
  /-- MULH (R235). -/
  | mulh (c i d a b : Nat)
  /-- DIV (R235). -/
  | div (c i d a b : Nat)
  /-- REM (R235). -/
  | rem (c i d a b : Nat)
  /-- ADDI (R235). -/
  | addi (c i d a imm : Nat)
  /-- ANDI (R235). -/
  | andi (c i d a imm : Nat)
  /-- ORI (R235). -/
  | ori (c i d a imm : Nat)
  /-- XORI (R235). -/
  | xori (c i d a imm : Nat)
  /-- SHLI (R235). -/
  | shli (c i d a imm : Nat)
  /-- SHRI (R235). -/
  | shri (c i d a imm : Nat)
  /-- SRAI (R235). -/
  | srai (c i d a imm : Nat)
  /-- SLTI (R235). -/
  | slti (c i d a imm : Nat)
  /-- LUI (R235). -/
  | lui (c i d imm : Nat)
  /-- LD_B (R232). -/
  | ldB (c i d a imm : Nat)
  /-- LD_H (R232). -/
  | ldH (c i d a imm : Nat)
  /-- LD_W (R232). -/
  | ldW (c i d a imm : Nat)
  /-- LD_D (R232). -/
  | ldD (c i d a imm : Nat)
  /-- ST_B (R232). -/
  | stB (c i d a imm : Nat)
  /-- ST_H (R232). -/
  | stH (c i d a imm : Nat)
  /-- ST_W (R232). -/
  | stW (c i d a imm : Nat)
  /-- ST_D (R232). -/
  | stD (c i d a imm : Nat)
  /-- BEQ (R235). -/
  | beq (c i d a imm : Nat)
  /-- BNE (R235). -/
  | bne (c i d a imm : Nat)
  /-- BLT (R235). -/
  | blt (c i d a imm : Nat)
  /-- BGE (R235). -/
  | bge (c i d a imm : Nat)
  /-- BLTU (R235). -/
  | bltu (c i d a imm : Nat)
  /-- BGEU (R235). -/
  | bgeu (c i d a imm : Nat)
  /-- JAL (R235). -/
  | jal (c i d imm : Nat)
  /-- JALR (R235). -/
  | jalr (c i d a imm : Nat)
  /-- VADD (R270). Cluster, thread, fields, and what the residue checks found -/
  | vadd (c i d a b f chk : Nat)
  /-- VSUB (R270). -/
  | vsub (c i d a b f chk : Nat)
  /-- VMUL (R270). -/
  | vmul (c i d a b f chk : Nat)
  /-- VFMA (R270). -/
  | vfma (c i d a b f chk : Nat)
  /-- VMIN (R270). -/
  | vmin (c i d a b f : Nat)
  /-- VMAX (R270). -/
  | vmax (c i d a b f : Nat)
  /-- VCMP (R270). -/
  | vcmp (c i d f : Nat)
  /-- VSEL (R270). -/
  | vsel (c i d a b f : Nat)
  /-- VCVT (R270). The source format stands beside the fields -/
  | vcvt (c i d a b f src chk : Nat)
  /-- VBMAX (R269). -/
  | vbmax (c i d a f src : Nat)
  /-- VSCALE (R269). -/
  | vscale (c i d a b f src chk : Nat)
  /-- VWADD (R270). -/
  | vwadd (c i d a f chk : Nat)
  /-- VREDUCE (R270). -/
  | vreduce (c i d a f chk : Nat)
  /-- VLD (R235). -/
  | vld (c i d a imm : Nat)
  /-- VST (R235). -/
  | vst (c i d a imm : Nat)
  /-- VPERM (R235). -/
  | vperm (c i d a b : Nat)
  /-- VBCAST (R235). The lane width and lane stand for the modifiers -/
  | vbcast (c i d a w l : Nat)
  /-- VMOVG (R235). -/
  | vmovg (c i d a w l : Nat)
  /-- VMOVV (R235). -/
  | vmovv (c i d a w l : Nat)
  /-- SLD (R240). -/
  | sld (c i d a b f : Nat)
  /-- SST (R240). -/
  | sst (c i d a b f : Nat)
  /-- SGATHER (R244). -/
  | sgather (c i d a b f : Nat)
  /-- SSCATTER (R244). -/
  | sscatter (c i d a b f : Nat)
  /-- SWAIT (R245). -/
  | swait (c i d f : Nat)
  /-- SPOLL (R245). -/
  | spoll (c i d f : Nat)
  /-- HLD (R240). -/
  | hld (c i d a b f : Nat)
  /-- HST (R240). -/
  | hst (c i d a b f : Nat)
  /-- SHX (R240). -/
  | shx (c i d a b f : Nat)
  /-- STREAM_SLOT_DONE (R245). The cluster, the stream unit and the slot -/
  | streamSlotDone (c u k : Nat)
  /-- CR_CFG (R273). -/
  | crCfg (c i a : Nat)
  /-- CR_LOAD (R273). -/
  | crLoad (c i d a b : Nat)
  /-- CR_MUL (R273). -/
  | crMul (c i a b : Nat)
  /-- CR_STORE (R273). -/
  | crStore (c i a b : Nat)
  /-- CR_STAT (R273). -/
  | crStat (c i d : Nat)
  /-- CHAINRING_PASS_DONE (R275). The rows and columns whose checks failed, first and second run -/
  | chainringPassDone (c : Nat) (rows cols rows2 cols2 : List Nat)
  /-- SP_CFG (R285). -/
  | spCfg (c i a : Nat)
  /-- SP_CLR (R285). -/
  | spClr (c i d : Nat)
  /-- SP_ADD (R285). -/
  | spAdd (c i d a b f : Nat)
  /-- SP_EXPORT (R285). -/
  | spExport (c i d a f : Nat)
  /-- SP_IMPORT (R285). -/
  | spImport (c i d a f : Nat)
  /-- SP_ROUND (R285). -/
  | spRound (c i d a f : Nat)
  /-- SPROCKET_COMMAND_DONE (R285). The accumulators whose residue check failed -/
  | sprocketCommandDone (c : Nat) (bad : List Nat)
  /-- CREAD (R236). -/
  | cread (c i d : Nat)
  /-- CWAIT (R236). -/
  | cwait (c i d a : Nat)
  /-- CDEADLINE (R236). -/
  | cdeadline (c i d a : Nat)
  /-- FENCE (R238). -/
  | fence (c i mask : Nat)
  /-- FENCE_RELEASE (R238). -/
  | fenceRelease (c i : Nat)
  /-- BARRIER (R238). -/
  | barrier (c i mask : Nat)
  /-- BARRIER_RELEASE (R238). -/
  | barrierRelease (c mask : Nat)
  /-- SIGNAL (R303). The value signalled -/
  | signal (c i v : Nat)
  /-- CSRR (R260). -/
  | csrr (c i d imm : Nat)
  /-- CSRW (R260). -/
  | csrw (c i a imm : Nat)
  /-- UCLAIM (R249). -/
  | uclaim (c i d imm : Nat)
  /-- URELEASE (R249). -/
  | urelease (c i imm : Nat)
  /-- HALT (R255). -/
  | halt (c i : Nat)
  /-- TRAP (R235). -/
  | trap (c i : Nat)
  /-- YIELD (R235). -/
  | yield (c i : Nat)
  /-- WORKGET (R253). -/
  | workget (c i d : Nat)
  /-- WORKDONE (R253). -/
  | workdone (c i : Nat)
  /-- CLU_THR_CTRL_WRITE (R230). The word that Kilurn or the fabric manager writes -/
  | cluThrCtrlWrite (c i v : Nat)
  /-- CLU_BANK_OWN_WRITE (R247). -/
  | cluBankOwnWrite (c b v : Nat)
  /-- BANK_ZEROING_DONE (R247). -/
  | bankZeroingDone (c b : Nat)
  /-- CLU_PSTORE_DATA_WRITE (R233). -/
  | cluPstoreDataWrite (c v : Nat)
  /-- MBX_DOORBELL (R374). the near port of its path, the slot of the page, and the value. -/
  | mbxDoorbell (p slot seq : Nat)
  /-- MAILBOX_UNKNOWN_CMD (R375). the channel: a slot, 1,024 the management port, or 1,025 the far-port channel. -/
  | mailboxUnknownCmd (ch : Nat)
  /-- GET_INFO (R378). -/
  | getInfo (ch : Nat)
  /-- GET_ATTESTATION (R394). -/
  | getAttestation (ch : Nat)
  /-- GET_IDENTITY_CERT (R378). -/
  | getIdentityCert (ch : Nat)
  /-- ATTACH (R380). -/
  | attach (ch : Nat)
  /-- REATTACH_ORDINARY (R379). -/
  | reattachOrdinary (ch : Nat)
  /-- REATTACH_MIGRATION (R379). the records at LIST_PA: context and address of its level-5 table. -/
  | reattachMigration (ch : Nat) (recs : List (Nat × Nat))
  /-- RELEASE (R378). -/
  | release (ch : Nat)
  /-- BIND_ADMIN (R381). -/
  | bindAdmin (ch : Nat)
  /-- UNBIND_ADMIN (R381). -/
  | unbindAdmin (ch : Nat)
  /-- KEY_AGREE (R358). -/
  | keyAgree (ch : Nat)
  /-- KEY_INSTALL (R359). the DETAIL of a failed owner signature, else 0; whether EPH_PUB is a point, whether the tag verifies, and the unwrapped key. -/
  | keyInstall (ch : Nat) (owner : Nat) (pointOk tagOk : Bool) (key : Nat)
  /-- KEY_ACTIVATE (R356). -/
  | keyActivate (ch : Nat)
  /-- KEY_RETIRE (R365). -/
  | keyRetire (ch : Nat)
  /-- KEY_QUERY (R358). -/
  | keyQuery (ch : Nat)
  /-- CTX_BIND_QP (R353). -/
  | ctxBindQp (ch : Nat)
  /-- KEY_CHALLENGE_EXPIRE (R358). -/
  | keyChallengeExpire (slot : Nat)
  /-- ADMIN (R382). -/
  | admin (ch : Nat) (x : Machine.AdmX)
  /-- EVENT_READ (R382). -/
  | eventRead (ch : Nat)
  /-- REG_READ (R382). -/
  | regRead (ch : Nat)
  /-- REG_WRITE (R382). -/
  | regWrite (ch : Nat)
  /-- STAGE (R382). -/
  | stage (ch : Nat)
  /-- FW_COMMIT (R383). which ROM key SIGNER names, and whether the signature verifies. -/
  | fwCommit (ch : Nat) (signer : Option Nat) (sigOk : Bool)
  /-- XFORM_INSTALL (R382). -/
  | xformInstall (ch : Nat)
  /-- XFORM_REMOVE (R382). -/
  | xformRemove (ch : Nat)
  /-- XFORM_REMOVE_DONE (R382). -/
  | xformRemoveDone (i : Nat)
  /-- CONFIG_LOG (R395). -/
  | configLog (ch : Nat)
  /-- LC_CHALLENGE (R392). -/
  | lcChallenge (ch : Nat)
  /-- LC_CHALLENGE_EXPIRE (R392). -/
  | lcChallengeExpire
  /-- LC_ADVANCE (R390). -/
  | lcAdvance (ch : Nat) (sigOk : Bool)
  /-- LC_PENDING_RECORD (R391). -/
  | lcPendingRecord
  /-- LC_STATE_COMMIT (R391). -/
  | lcStateCommit (b : Boot)
  /-- MODULE_RESET_WARM (R378). -/
  | moduleResetWarm (ch : Nat) (b : Boot)
  /-- MODULE_RESET_RESTART (R378). -/
  | moduleResetRestart (ch : Nat) (copyOk : Bool) (b : Boot)
  /-- CONTROL_FLOW_MISMATCH (R370). -/
  | controlFlowMismatch (core : Nat) (copyOk : Bool) (b : Boot)
  /-- MGMT_ECC_UNCORRECTABLE (R370). -/
  | mgmtEccUncorrectable (core : Nat) (copyOk : Bool) (b : Boot)
  /-- WATCHDOG_EXPIRE (R370). -/
  | watchdogExpire (core : Nat) (copyOk : Bool) (b : Boot)
  /-- ERROR_REPORT (R401). the image copy matches, and what a boot finds, for the reports that restart Kilurn or reset the module. -/
  | errorReport (unit cls : Nat) (uncorr : Bool) (x : ErrX) (copyOk : Bool) (b : Boot)
  /-- TARGETED_TEST_DONE (R405). -/
  | targetedTestDone (unit : Nat) (pass : Bool)
  /-- TARGETED_TEST_TIMEOUT (R405). -/
  | targetedTestTimeout (unit : Nat)
  /-- RES_TEST_REQ (R405). -/
  | resTestReq (unit : Nat)
  /-- SPARE_TEST_SLOT (R408). the spare whose slot it is. -/
  | spareTestSlot (unit : Nat)
  /-- CLUSTER_DRAIN_DONE (R410). -/
  | clusterDrainDone (c : Nat)
  /-- BANK_COPY_DONE (R411). `b` is the physical bank copied. -/
  | bankCopyDone (c b : Nat)
  /-- RES_MARCH_GO (R412). `v` is the word written to RES_MARCH. -/
  | resMarchGo (v : Nat)
  /-- MARCH_DONE (R412). -/
  | marchDone (fail : Bool)
  /-- SWEEP_STEP (R414). the units whose segments failed, whether the save copy held an uncorrectable error, and its address. -/
  | sweepStep (found : List (Nat × Bool × ErrX))
  /-- GDDR7_ROW_TEST_DONE (R415). -/
  | gddr7RowTestDone (d : Nat) (pass : Bool)
  /-- MEM_COPY_REQ (R416). -/
  | memCopyReq (d : Nat)
  /-- DEVICE_COPY_DONE (R416). -/
  | deviceCopyDone
  /-- PATROL_SCRUB_STEP (R417). `n` lines are read; the device, the window offset and whether uncorrectable of each error. -/
  | patrolScrubStep (n : Nat) (errs : List (Nat × Nat × Bool))
  /-- AGEING_HOURLY_READ (R421). monitors 0 to 91. -/
  | ageingHourlyRead (margins : List Nat)
  /-- COUNTER_DUMP (R453). -/
  | counterDump
  /-- PMC_CLEAR_ALL (R448). -/
  | pmcClearAll
  /-- PMC_DUMP_ENABLE (R454). `v` is the word written to PMC_DUMP_CFG. -/
  | pmcDumpEnable (v : Nat)
  /-- REGISTER_WRITE (R2). `off` counts from 0xF_F000_0000. -/
  | registerWrite (off v : Nat)
  /-- UNREGISTER_CONTEXT_DONE (R129). The slot whose command waits -/
  | unregisterContextDone (t : Nat)
  /-- MAC_PORT_CFG_WRITE (R209). -/
  | macPortCfgWrite (n v : Nat)
  /-- CHAINRING_COMMAND_DONE (R273). -/
  | chainringCommandDone (c : Nat)
  /-- PROGRAM_THREAD_ZEROING_DONE (R230). -/
  | programThreadZeroingDone (c i : Nat)
  deriving DecidableEq, Repr

end Sys2Proof
end

