-- ==== Sys2Proof/Decode.lean ====
section
/-! DEFINITION. The commands that a word spells. spec/opcode_table.json gives none of its rows any bits, so no word spells a
command. -/

namespace Sys2Proof

/-- The command that `w`, of `nbits` bits, spells by the bits of the opcode table: none, since no row has bits. -/
def decodeTableWord (_nbits _w : Nat) : Option Instr := none

end Sys2Proof
end

