-- ==== Sys2Proof/Config.lean ====
section
/-! DEFINITION. The values the spec leaves open. None has a body that says which value it is: nothing in
Lean can prove which. -/

namespace Sys2Proof.Config

/-- The n-th value the spec does not state. A step that needs one takes the next n (`State.fresh`).
DESIGN CHOICE (log entry 1). -/
opaque freeValue : Nat → Nat

/-- The quotient DIV stores where R235 states none: a divisor of 0, or the one quotient out of range. DESIGN CHOICE (log
entry 2). -/
opaque divOpen : BitVec 64 → BitVec 64 → BitVec 64

/-- The remainder REM stores in those cases. DESIGN CHOICE (log entry 2). -/
opaque remOpen : BitVec 64 → BitVec 64 → BitVec 64

/-- From which instruction a branch offset counts: R234 gives its unit, not its origin. The target lies
`branchBase` instructions after the branch itself, plus the offset. DESIGN CHOICE (log entry 3). -/
opaque branchBase : Nat

/-- What JAL and JALR store for a program counter: R235 names the operations and not the value. DESIGN CHOICE (log
entry 3). -/
opaque linkValue : Nat → Nat

/-- The byte of v[A] that VPERM moves to byte `j`, for a selector v[B]: R235 names a permute and not its rule. DESIGN
CHOICE (log entry 4). -/
opaque permByte : Nat → Nat → Nat

end Sys2Proof.Config
end

