-- ==== Sys2Proof/Machine/Board.lean ====
section
/-! DEFINITION. The kinds of state of the cadence unit, the derailleur, the resilience unit, the power controller, the
counter unit and the test port, beside their registers. -/

namespace Sys2Proof.Machine

/-! The cadence unit (chapter 2). -/

/-- The last ANNOUNCE heard on a far lane (R32, R34): its sender's root with reference and priority, the sender's
distance, whether the sender is LOCKED, and the hop-equivalents of the link. -/
structure Heard where
  root : Nat
  ref : Nat
  prio : Nat
  hopEq : Nat
  locked : Bool
  hop : Nat
  deriving DecidableEq, Repr

/-- The cadence unit beside the CAD_ registers (R32 to R42, R55, R480 to R482): the ANNOUNCEs heard by lane, intervals ended
since ENABLE, intervals without a valid SYNC_RESP, whether the current one has had one, the request not answered (SEQ, T1 and
its fraction), exchanges in a row within 2 ns, the part of the last correction still to be slewed in 1/512,000 ns, the
register writes that wait for the end of the interval (field key, instance, value), whether the clock is healthy, EST_ERR
at the last change of state and the count then, the upstream's EST_ERR with the hop-equivalents of its link and whether it is
the root, the root's reference and priority, the exchanges of the batch of a switched path (delay, offset), the count of
the last pulse, and the seconds of PTP. -/
structure Cad where
  heard : Tbl Heard := []
  interval : Nat := 0
  missed : Nat := 0
  answered : Bool := false
  req : Option (Nat × Nat × Nat) := none
  good : Nat := 0
  slew : Int := 0
  deferred : List (Nat × Nat × Nat) := []
  healthy : Bool := true
  errBase : Nat := 0xFFFF
  errAt : Nat := 0
  upErr : Nat := 0xFFFF
  upHop : Nat := 0
  upRoot : Bool := false
  ref : Nat := 0
  prio : Nat := 0
  batch : List (Int × Int) := []
  pulse : Option Nat := none
  ptpSec : Nat := 0
  deriving DecidableEq, Repr

/-! The derailleur (chapter 9). -/

/-- A lane-remap exchange that runs on a port (R217, R218): the position, the spare by its index in MAC_SPARE_CFG, SEQ,
whether the DN9 proposed it, and whether it has sent and received DONE. -/
structure Exch where
  near : Bool
  port : Nat
  logical : Nat
  spare : Nat
  seq : Nat
  proposer : Bool
  sent : Bool := false
  rcvd : Bool := false
  deriving DecidableEq, Repr

/-- A pin substitution under way on a far port (R219): the position of the lane and the spare. -/
structure Subst where
  port : Nat
  pos : Nat
  spare : Nat
  deriving DecidableEq, Repr

/-- What the far side holds beside registers: the exchanges, the pin substitutions, Kilurn's slow-path queue (R212), and
through a warm reset the module's number and port as they were before it (log entry 38). -/
structure Lanes where
  exchs : List Exch := []
  substs : List Subst := []
  slow : List RxFrame := []
  kept : Option (Nat × Nat) := none
  deriving DecidableEq, Repr

/-! The resilience unit (chapter 16). -/

/-- A test that runs (R405, R406, R408): the unit, whether it is a spare-test slot, whether a pass returns the unit to
service, whether the error that started it was uncorrectable, and for a GDDR7 device the window offset of the row, for a
chainring array the row, or 256 + the column. -/
structure Test where
  unit : Nat
  slot : Bool := false
  returns : Bool := false
  uncorr : Bool := false
  addr : Nat := 0
  deriving DecidableEq, Repr

/-- A copy of a bank to its cluster's spare (R411): the cluster, the logical bank, and the two physical banks. -/
structure BankCopy where
  cluster : Nat
  logical : Nat
  old : Nat
  new : Nat
  deriving DecidableEq, Repr

/-- A cluster move (R410): the cluster that drains, those that take its work, whether a core that failed causes it, the
pelotons that move (number, cluster, place of the code), the queue pairs that move, and whether the swap has come. -/
structure Move where
  src : Nat
  dst : List Nat
  core : Bool := false
  pels : List (Nat × Nat × Nat) := []
  qps : List Nat := []
  swapped : Bool := false
  deriving DecidableEq, Repr

/-- A requested march (R412): the cluster, the physical bank, and whether it preserves. -/
structure March where
  cluster : Nat
  phys : Nat
  preserve : Bool
  deriving DecidableEq, Repr

/-- The resilience unit beside the RES_ and MEM_ registers (R405, R410 to R417, R421): the counts of the passes of a unit,
the tests, bank copies, cluster moves and the march that run, poisoned lines of GDDR7 by window offset / 64, of banks by
2^17 x cluster + line, of local memories by 256 x (8 x cluster + thread) + line, and of program stores by 8,192 x cluster +
line, corrected errors of the last 24 hours by device, the lines the scrub has read in its pass, the segment
of the sweep, spare wires in use by link, chainring rows and columns in use by cluster, and for the ageing monitors the
hourly readings taken and the least margin of the day. -/
structure Res where
  passes : Tbl (List Nat) := []
  tests : List Test := []
  copies : List BankCopy := []
  moves : List Move := []
  march : Option March := none
  poison : List Nat := []
  bankPoison : List Nat := []
  localPoison : List Nat := []
  storePoison : List Nat := []
  corr : Tbl (List Nat) := []
  scrub : Nat := 0
  sweep : Nat := 0
  extra : Nat := 0
  wires : Tbl Nat := []
  rowCols : Tbl Nat := []
  hours : Nat := 0
  least : Tbl Nat := []
  deriving DecidableEq, Repr

/-! The power controller and the contacts (chapters 17 and 19). -/

/-- Where the power-up sequence stands (R464, R469): waiting for MOD_PWR_EN, for VIN, raising the rail of a place in the
order, all rails up, or stopped until MOD_PWR_EN falls and rises. -/
inductive RailSeq where
  | idle
  | waitVin
  | raising (k : Nat)
  | up
  | stopped
  deriving DecidableEq, Repr

/-- A supply dip that lasts (R442): its source, the least value seen in mV, whether PWR_DIP_LOG holds it, and whether it began
in CROCUS or REST. -/
structure Dip where
  source : Nat
  minMv : Nat
  logged : Bool
  resting : Bool
  deriving DecidableEq, Repr

/-- The power controller beside the PWR_ registers (R427 to R443, R464 to R476): whether the module is OFF, where the
sequence of the rails stands, AUX_3V3 and MOD_PWR_EN, how long MOD_RST_N has been low (0 high, 1 low, 2 past 100 us, 3 past
100 ms), the shutdown cause and the failed rail, REFCLK, the state an entry goes to with the state it left, whether an exit
waits for a dip, the raise of VDD_CMP under way as the step and state it goes to, the set point asked for, the steps and
states that wait for a change to end, the dips, whether TRIM was entered for a dip (R443), VIN in 10 mV, AUX_3V3 in mV, the
last measured power of AUX in mW, and the four temperatures in 1/16 C. -/
structure Pwr where
  off : Bool := false
  seq : RailSeq := .up
  aux : Bool := true
  en : Bool := true
  rst : Nat := 0
  cause : Nat := 0
  rail : Nat := 0
  refclk : Bool := true
  entry : Option (Nat × Nat) := none
  exitHeld : Bool := false
  raising : Option (Nat × Nat) := none
  asked : Nat := 800
  wants : List (Nat × Nat) := []
  dips : List Dip := []
  trimHeld : Bool := false
  vin : Nat := 4800
  auxMw : Nat := 0
  auxMv : Nat := 3300
  temps : List Int := [400, 400, 400, 400]
  deriving DecidableEq, Repr

/-- The counter unit beside the PMC_ registers (R453 to R455): records lost since the last one written, and whether the next
record carries GAP. -/
structure Pmc where
  lost : Nat := 0
  gap : Bool := false
  deriving DecidableEq, Repr

/-- The test port (R475): the instruction, 0 BYPASS, 1 SAMPLE/PRELOAD, 2 EXTEST; and the boundary-scan cells. -/
structure Jtag where
  ir : Nat := 0
  cells : List Bool := []
  deriving DecidableEq, Repr

/-- Those parts together, with the count at which each periodic event last fell (R198, R408, R413, R438, R453): 0 counter
dump, 1 spare-test slot, 2 sweep step, 3 CROCUS watch, 4 sync
interval, 5 refill passed over at rest; 6 the last counter snapshot (R453), 7 the begin of the hold of R222. -/
structure Board where
  cad : Cad := {}
  lanes : Lanes := {}
  res : Res := {}
  pwr : Pwr := {}
  pmc : Pmc := {}
  jtag : Jtag := {}
  marks : Tbl Nat := []
  deriving DecidableEq, Repr

end Sys2Proof.Machine
end

