-- ==== Sys2Proof/Machine/State.lean ====
section
/-! DEFINITION. The state of the module, its stops, and the machine right after reset. -/

namespace Sys2Proof.Machine

/-- The state of the DN9 module. Registers are held once, by field and instance (`regs`), an unlisted one
holding its reset value; what the spec keeps outside registers is in the other fields. -/
structure State where
  /-- The commands that wait, first in, first out. -/
  pending : List Instr
  /-- Every register field that differs from its reset value, by field key and instance. -/
  regs : Tbl (Tbl Nat)
  /-- GDDR7, by window offset (R4); an unlisted byte is 0. -/
  gddr : Mem
  /-- How many free values have been taken (the model's own). -/
  fresh : Nat
  /-- What has left the block, oldest first. -/
  out : List Out
  near : Tbl Near
  eps : Tbl Endpoint
  atts : Tbl Attach
  xlt : Xlt
  sqs : Tbl Sq
  cqs : Tbl Cq
  adms : Tbl Adm
  conns : Tbl Conn
  cip : Cip
  traffic : Traffic
  far : Tbl Far
  pels : Tbl Pel
  clus : Tbl Clu
  ten : Ten
  mgmt : Mgmt
  board : Board
  armed : List Ev
  deriving DecidableEq, Repr

/-- The faults. -/
inductive Fault where
  /-- Raised by the meanings of spoke-core instructions for a cluster or thread the module does not have
  (R16). Safe: no such thread exists. -/
  | noSuchThread
  deriving DecidableEq, Repr

/-- The refusals. -/
inductive Refusal where
  /-- Raised by an arm of the dispatch that has no meaning yet. Safe. -/
  | notModelled (mnemonic : String)
  deriving DecidableEq, Repr

/-- The outcome of a command. -/
abbrev Result := Host.Outcome State Fault Refusal

/-- The machine right after a cold reset (R19, R30, R81): every register at its reset value, memories
wiped, nothing in progress. -/
def State.reset : State where
  pending := []
  regs := []
  gddr := []
  fresh := 0
  out := []
  near := []
  eps := []
  atts := []
  xlt := {}
  sqs := []
  cqs := []
  adms := []
  conns := []
  cip := {}
  traffic := {}
  far := []
  pels := []
  clus := []
  ten := {}
  mgmt := {}
  board := {}
  armed := []

end Sys2Proof.Machine
end

