-- ==== Sys2Proof/Machine/Ops.lean ====
section
/-! DEFINITION. The named operations over the state: registers, free values, what is sent, the tables of
numbered things, events (R124, R126), and the counters and statuses many meanings share. -/

namespace Sys2Proof.Machine

open Sys2Proof

/-! Registers. -/

/-- The value of field `f`, instance `i` (`ix a b` where it has two indices). -/
def State.rd (s : State) (f : Fld) (i : Nat := 0) : Nat :=
  Tbl.get (f.rst i) i (Tbl.get [] f.key s.regs)

/-- Sets field `f`, instance `i`, to the low bits of `v` that the field has. -/
def State.wr (s : State) (f : Fld) (i : Nat) (v : Nat) : State :=
  { s with regs := Tbl.set [] f.key (Tbl.set (f.rst i) i (v % 2 ^ f.w) (Tbl.get [] f.key s.regs)) s.regs }

/-- Is the field 1? -/
def State.on (s : State) (f : Fld) (i : Nat := 0) : Bool := s.rd f i == 1

/-- Adds `n` to a field, modulo its width. -/
def State.inc (s : State) (f : Fld) (i : Nat := 0) (n : Nat := 1) : State := s.wr f i (s.rd f i + n)

/-- Adds `n` to a counter that stops at its greatest value. -/
def State.count (s : State) (f : Fld) (i : Nat := 0) (n : Nat := 1) : State :=
  s.wr f i (satAdd f.w (s.rd f i) n)

/-- Subtracts `n` from a field, not below 0. -/
def State.dec (s : State) (f : Fld) (i : Nat := 0) (n : Nat := 1) : State := s.wr f i (s.rd f i - n)

/-- Sets or clears a one-bit field. -/
def State.put (s : State) (f : Fld) (i : Nat) (b : Bool) : State := s.wr f i (b2n b)

/-- The instances of a field that differ from its reset value. -/
def State.listed (s : State) (f : Fld) : List Nat := (Tbl.get [] f.key s.regs).map (·.1)

/-- What a write of `v` by software does to a field of each access code (R2, R3). RWL fields are discarded
once the life-cycle lock is set (R393); RO fields always; WO fields hold nothing. -/
def State.access (s : State) (f : Fld) (i v : Nat) : State :=
  match f.acc with
  | .rw => s.wr f i v
  | .ro => s
  | .wo => s
  | .w1c => s.wr f i (s.rd f i &&& (2 ^ f.w - 1 - v % 2 ^ f.w))
  | .w1s => s.wr f i (s.rd f i ||| v % 2 ^ f.w)
  | .rwl => if s.rd Reg.LCS_STATE_LOCK = 1 then s else s.wr f i v

/-! The counter unit. -/

/-- Counts `n` events of a code in a bank (R447 to R450): on every counter that selects it, and whose tenant filter, where it
has one, names the event's tenant. -/
def State.pmc (s : State) (bank code : Nat) (ten : Option Nat) (n : Nat := 1) : State :=
  if !s.on Reg.PMC_CTRL_ENABLE ∨ s.on Reg.PMC_CTRL_FREEZE then s
  else
    (List.range 8).foldl (fun s k =>
      let i := ix bank k
      if s.rd Reg.PMC_CNT_CFG_EVENT i ≠ code ∨ (s.on Reg.PMC_CNT_CFG_TENANT_EN i ∧ ten ≠ some (s.rd Reg.PMC_CNT_CFG_TENANT i)) then s
      else
        let v := s.rd Reg.PMC_CNT_VAL_VALUE i + n
        if v < 2 ^ 48 then s.wr Reg.PMC_CNT_VAL_VALUE i v else (s.wr Reg.PMC_CNT_VAL_VALUE i v).wr Reg.PMC_CNT_VAL_OVF i 1) s

/-- The 64-byte lines that `n` bytes from `a` touch. -/
def linesOf (a n : Nat) : Nat := if n = 0 then 0 else (a + n - 1) / 64 + 1 - a / 64

/-! Sending, and free values. -/

/-- Appends something to what has left the block. -/
def State.emit (s : State) (o : Out) : State := { s with out := s.out ++ [o] }

/-- The next value the spec does not state, in `w` bits (log entry 1). -/
def State.free (s : State) (w : Nat) : Nat := Config.freeValue s.fresh % 2 ^ w

/-- Takes the next free value. -/
def State.bump (s : State) : State := { s with fresh := s.fresh + 1 }

/-- The k-th free value after the next one, in `w` bits. -/
def State.freeAt (s : State) (k w : Nat) : Nat := Config.freeValue (s.fresh + k) % 2 ^ w

/-- Takes `n` free values. -/
def State.bumpN (s : State) (n : Nat) : State := { s with fresh := s.fresh + n }

/-! The tables. -/

def State.nearOf (s : State) (p : Nat) : Near := Tbl.get {} p s.near
def State.setNear (s : State) (p : Nat) (v : Near) : State := { s with near := Tbl.set {} p v s.near }
def State.epOf (s : State) (e : Nat) : Endpoint := Tbl.get {} e s.eps
def State.setEp (s : State) (e : Nat) (v : Endpoint) : State := { s with eps := Tbl.set {} e v s.eps }
def State.attOf (s : State) (a : Nat) : Attach := Tbl.get {} a s.atts
def State.setAtt (s : State) (a : Nat) (v : Attach) : State := { s with atts := Tbl.set {} a v s.atts }
def State.sqOf (s : State) (q : Nat) : Sq := Tbl.get {} q s.sqs
def State.setSq (s : State) (q : Nat) (v : Sq) : State := { s with sqs := Tbl.set {} q v s.sqs }
def State.cqOf (s : State) (c : Nat) : Cq := Tbl.get {} c s.cqs
def State.setCq (s : State) (c : Nat) (v : Cq) : State := { s with cqs := Tbl.set {} c v s.cqs }
def State.admOf (s : State) (t : Nat) : Adm := Tbl.get {} t s.adms
def State.setAdm (s : State) (t : Nat) (v : Adm) : State := { s with adms := Tbl.set {} t v s.adms }
def State.connOf (s : State) (q : Nat) : Conn := Tbl.get {} q s.conns
def State.setConn (s : State) (q : Nat) (v : Conn) : State := { s with conns := Tbl.set {} q v s.conns }

def State.farOf (s : State) (n : Nat) : Far := Tbl.get {} n s.far
def State.setFar (s : State) (n : Nat) (v : Far) : State := { s with far := Tbl.set {} n v s.far }

def State.pelOf (s : State) (p : Nat) : Pel := Tbl.get {} p s.pels
def State.setPel (s : State) (p : Nat) (v : Pel) : State := { s with pels := Tbl.set {} p v s.pels }

def State.cluOf (s : State) (c : Nat) : Clu := Tbl.get {} c s.clus
def State.setClu (s : State) (c : Nat) (v : Clu) : State := { s with clus := Tbl.set {} c v s.clus }
def State.thrOf (s : State) (c i : Nat) : Thr := Tbl.get {} i (s.cluOf c).thr
def State.setThr (s : State) (c i : Nat) (t : Thr) : State :=
  s.setClu c { s.cluOf c with thr := Tbl.set {} i t (s.cluOf c).thr }

/-- The cadence count (R29). -/
def State.now (s : State) : Nat := s.rd Reg.CAD_COUNT_COUNT

/-- The provider's identity and slot (R5). -/
def provider : Nat := 0x3FF

/-! Status, syndrome and event codes (R130). -/

namespace Code
def success : Nat := 0x00
def flushed : Nat := 0x01
def badEntry : Nat := 0x02
def lengthError : Nat := 0x03
def accessViolation : Nat := 0x10
def retryExceeded : Nat := 0x11
def remoteError : Nat := 0x12
def pageNotReady : Nat := 0x13
def pageTimeout : Nat := 0x14
def hostGone : Nat := 0x15
def hostDataError : Nat := 0x16
def pathLost : Nat := 0x17
def authFail : Nat := 0x18
def partialDelivery : Nat := 0x19
def memoryError : Nat := 0x1A
def stepTimeout : Nat := 0x20
def memberFenced : Nat := 0x21
def capacityDrop : Nat := 0x22
def groupStall : Nat := 0x23
def groupReformed : Nat := 0x24
def chunkCrcError : Nat := 0x25
def arithCheckError : Nat := 0x26
def cadenceStep : Nat := 0x27
def schedulePast : Nat := 0x28
def earlyDoorbell : Nat := 0x30
def sqIndexError : Nat := 0x31
def cqFull : Nat := 0x32
def faultQueueFull : Nat := 0x33
def pathDown : Nat := 0x34
def eventLost : Nat := 0x35
def nearProtocolError : Nat := 0x36
def reattachLocked : Nat := 0x37
def invalidCommand : Nat := 0x40
def invalidParam : Nat := 0x41
def resourceExhausted : Nat := 0x42
def notPermitted : Nat := 0x43
def busy : Nat := 0x44
def notFound : Nat := 0x45
def tenantFrozen : Nat := 0x46
def unitFenced : Nat := 0x50
def replaceRequest : Nat := 0x51
def rekeyRequired : Nat := 0x52
def nonceExhausted : Nat := 0x53
def supplyDip : Nat := 0x54
end Code

/-- Is an IP destination, its octets in network order, a valid local address (R146)? -/
def State.localIp (s : State) (ip : List Byte) : Bool :=
  (List.range 16).any fun i =>
    bit (s.rd Reg.TRN_IP_VALID_VALID) i &&
      (if bit (s.rd Reg.TRN_IP_VALID_IS_V4) i then
        s.on Reg.TRN_CTRL_IPV4_EN && ip.length == 4 && leNat ip == s.rd Reg.TRN_LOCAL_IP_LO i % 2 ^ 32
      else ip.length == 16 && leNat ip == s.rd Reg.TRN_LOCAL_IP_LO i + 2 ^ 64 * s.rd Reg.TRN_LOCAL_IP_HI i)

/-! Tenant slices (R334). -/

/-- The state of a slice: 0 FREE, 1 ACTIVE, 2 FREEZING, 3 FROZEN, 4 SAVED, 5 RESTORED, 6 DESTROYING. -/
def State.slice (s : State) (t : Nat) : Nat := s.rd Reg.TEN_SLICE0_STATE t

def State.sliceOf (s : State) (t : Nat) : Slice := Tbl.get {} t s.ten.slices
def State.setSlice (s : State) (t : Nat) (v : Slice) : State := { s with ten := { s.ten with slices := Tbl.set {} t v s.ten.slices } }
def State.extOf (s : State) (n : Nat) : Ext := Tbl.get {} n s.ten.exts
def State.setExt (s : State) (n : Nat) (v : Ext) : State := { s with ten := { s.ten with exts := Tbl.set {} n v s.ten.exts } }

/-- Is a command or an entry of the slice stopped by a freeze (R129, R335)? From the freeze count on, and in a restored
slice until its THAW (R336, R342). -/
def State.frozen (s : State) (t : Nat) : Bool :=
  t != provider && ((s.slice t == 2 && (s.sliceOf t).stepped) || s.slice t == 3 || s.slice t == 4 || s.slice t == 5)

/-! Events and admin completions (R124 to R126). -/

/-- ARG0 of an event: object number and kind (R124). -/
def evObj (kind n : Nat) : Nat := n % 2 ^ 16 + kind * 2 ^ 16

/-- Is there room in the slot's admin completion ring? (R106, R126) -/
def State.admRoom (s : State) (t : Nat) : Bool :=
  s.on Reg.ADM_DESC0_BOUND t &&
    decide (((s.admOf t).written + 2 ^ 32 - (s.admOf t).headSeen) % 2 ^ 32 < 2 ^ s.rd Reg.ADM_DESC0_CQ_LOG2 t)

/-- The number of events held for a slot. -/
def Adm.events (a : Adm) : Nat := (a.held.filter (·.event)).length

/-- Writes held entries into the ring of slot `t` while there is room, oldest first; the events of a frozen slice stay
held (R335 step 5). -/
def State.drainAdm (t : Nat) : Nat → State → State
  | 0, s => s
  | n + 1, s =>
    let go (e : AdmEnt) : Bool := !e.event || !s.frozen t
    match (s.admOf t).held.find? go with
    | none => s
    | some e =>
      if s.admRoom t then
        State.drainAdm t n
          ((s.setAdm t { s.admOf t with held := dropFirst go (s.admOf t).held, written := ((s.admOf t).written + 1) % 2 ^ 32 }).emit
            (.adm t (s.admOf t).written e))
      else s

/-- Queues the EVENT_LOST event of R126 once an event can be held again. -/
def State.reportLost (s : State) (t : Nat) : State :=
  let a := s.admOf t
  if a.lost ≠ 0 ∧ a.events < 256 ∧ !s.frozen t then
    s.setAdm t { a with lost := 0, held := a.held ++
      [{ event := true, code := Code.eventLost, arg0 := evObj 5 t, arg1 := a.lost, arg2 := s.now % 2 ^ 56 }] }
  else s

/-- Shows the number of events held (R131, R134). -/
def State.showHeld (s : State) (t : Nat) : State := s.wr Reg.ADM_STATUS_EVENTS_HELD t (s.admOf t).events

/-- Writes what can be written of a slot's entries, and reports losses (R126). -/
def State.settleAdm (s : State) (t : Nat) : State :=
  let s1 := State.drainAdm t (s.admOf t).held.length s
  let s2 := s1.reportLost t
  (State.drainAdm t (s2.admOf t).held.length s2).showHeld t

/-- Posts an event to the admin completion ring of slot `t`, holding up to 256 while the ring is unbound or
full, and losing what is beyond (R126). -/
def State.event (s : State) (t code detail arg0 arg1 : Nat) : State :=
  let e : AdmEnt := { event := true, code, detail, arg0, arg1, arg2 := s.now % 2 ^ 56 }
  let a := s.admOf t
  if s.admRoom t ∧ a.held = [] ∧ a.lost = 0 ∧ !s.frozen t then
    (s.setAdm t { a with written := (a.written + 1) % 2 ^ 32 }).emit (.adm t a.written e)
  else if a.events < 256 ∧ a.lost = 0 then (s.setAdm t { a with held := a.held ++ [e] }).showHeld t
  else
    ((s.setAdm t { a with lost := a.lost + 1 }).inc Reg.ADM_EVENT_LOST_COUNT_COUNT t).wr
      Reg.ADM_SLICE_STATUS_EVENT_LOST t 1

/-- Posts an event whose arguments the spec does not state: DETAIL, ARG0 below bit 20 and ARG1 are free values (log
entry 1). -/
def State.eventOpen (s : State) (t code : Nat) : State :=
  (s.event t code (s.freeAt 0 8) (s.freeAt 1 20) (s.freeAt 2 64)).bumpN 3

/-- Writes the completion of an admin command (R124, R125): SUCCESS with its result, or an error code. -/
def State.admDone (s : State) (t tag cmd code detail arg0 arg1 : Nat) : State :=
  let e : AdmEnt := { tag, code, cmd, detail, arg0, arg1 }
  let a := s.admOf t
  ((s.setAdm t { a with held := a.held ++ [e] }).inc Reg.ADM_STATUS_CMDS_DONE t).settleAdm t

/-! The resilience unit's record of reports (R401, R426). -/

/-- Counts a report of an error, and logs it while the log is clear. -/
def State.logReport (s : State) (unit cls : Nat) (uncorr reset : Bool) : State :=
  let s1 := (s.count Reg.RES_ERRORS_COUNT).count Reg.RES_UNIT_STAT_ERRORS unit
  if s1.on Reg.RES_ERR_LOG0_VALID then s1
  else
    (((((s1.wr Reg.RES_ERR_LOG0_UNIT 0 unit).wr Reg.RES_ERR_LOG0_CLASS 0 cls).put Reg.RES_ERR_LOG0_UNCORR 0 uncorr).put
      Reg.RES_ERR_LOG0_RESET 0 reset).wr Reg.RES_ERR_LOG0_VALID 0 1).wr Reg.RES_ERR_LOG1_COUNT 0 s1.now

/-- The number of a unit (R401). -/
def unitNo (kind ix : Nat) : Nat := kind * 1024 + ix

/-! Scheduled events (R43 to R46). -/

/-- May an event be armed for count `t` (R45)? In LOCKED or HOLDOVER, CAD_MIN_LEAD ahead. -/
def State.mayArm (s : State) (t : Nat) : Bool :=
  (s.rd Reg.CAD_STATUS_STATE == 2 || s.rd Reg.CAD_STATUS_STATE == 3) && decide (s.now + s.rd Reg.CAD_MIN_LEAD_CT ≤ t)

/-- Arms an event. -/
def State.arm (s : State) (k : EvKind) (t : Nat) : State := { s with armed := s.armed ++ [{ kind := k, at_ := t }] }

/-- Drops the armed events of an owner. -/
def State.disarm (s : State) (k : EvKind) : State := { s with armed := s.armed.filter (fun e => e.kind ≠ k) }

/-- The count an owner's event is armed for. -/
def State.armedAt (s : State) (k : EvKind) : Option Nat := (s.armed.find? (fun e => e.kind = k)).map (·.at_)

/-- The order of the kinds of event that fall on one count (R47). -/
def EvKind.order : EvKind → Nat
  | .swap => 1
  | .gate => 2
  | .refill => 3
  | .freeze _ => 4
  | .launch _ _ => 5
  | .deadline _ _ => 5
  | .cwait _ _ => 5
  | .dump => 6
  | .spareTest => 7
  | .sweep => 7
  | .crocus => 8

/-- Has every armed event that takes effect before this one already done so (R44, R47)? -/
def State.isNext (s : State) (k : EvKind) (t : Nat) : Bool :=
  s.armed.all fun e => decide (t < e.at_) || (e.at_ == t && decide (k.order ≤ e.kind.order))

/-- The power state (R427). -/
def State.power (s : State) : Nat := s.rd Reg.PWR_STATUS_STATE

/-- Is the module in RUN or TRIM? -/
def State.awake (s : State) : Bool := !s.board.pwr.off && decide (s.power < 2)

/-- Is it in CROCUS or REST? -/
def State.resting (s : State) : Bool := s.power == 2 || s.power == 3

/-- Takes an event that fires: the count reaches its T (R44), or is past it, which is late (R46). Answers whether
it was armed, and whether it is late. Nothing fires while events are suspended in FAULT; in CROCUS and REST it takes no effect
and is counted (R440). -/
def State.fire (s : State) (k : EvKind) : State × Bool × Bool :=
  match s.armedAt k with
  | none => (s, false, false)
  | some t =>
    if s.rd Reg.CAD_STATUS_STATE = 4 ∨ s.isNext k t = false then (s, false, false)
    else
      let s1 := s.disarm k
      if s.resting then (s1.count Reg.PWR_SKIPPED_COUNT, false, false)
      else if t < s.now then ((s1.count Reg.CAD_LATE_COUNT_COUNT).wr Reg.CAD_EVT_STATUS_LATE_FIRE 0 1, true, true)
      else (s1.wr Reg.CAD_COUNT_COUNT 0 t, true, false)

/-- Puts a number before the first that is not smaller. -/
def insertUp (a : Nat) : List Nat → List Nat
  | [] => [a]
  | b :: l => if a ≤ b then a :: b :: l else b :: insertUp a l

/-- A list in rising order. -/
def sortUp (l : List Nat) : List Nat := l.foldr insertUp []

end Sys2Proof.Machine
end

