-- ==== Sys2Proof/Machine/Entries.lean ====
section
/-! DEFINITION. Submission and completion entries as bytes: phase bits (R106), short, inline and chained
entries (R110 to R113), legacy entries (R137, R138), completion entries (R120) and admin entries (R124). -/

namespace Sys2Proof.Machine

open Sys2Proof

/-- Is the phase bit of a ring element at count `c` current (R106)? `b` is the byte that carries it. -/
def phaseOk (log2 c b : Nat) : Bool := (b / 128 % 2) == (c / 2 ^ log2 % 2 + 1) % 2

/-- Byte `i` of a slot; a byte beyond its end reads as 0. -/
def byteAt (b : List Byte) (i : Nat) : Nat := leAt b i 1

/-- Usable bytes of slots: bytes 0 to 62 of each, in order (R112). -/
def usable (slots : List (List Byte)) : List Byte :=
  slots.flatMap fun sl => (List.range 63).map fun i => BitVec.ofNat 8 (byteAt sl i)

/-- The opcodes of native entries that R111 lists. -/
def nativeOpcode (o : Nat) : Bool := o ≤ 8 || o == 0x10 || o == 0x1F

/-- The opcodes an inline entry may carry (R111, R112). -/
def inlineOpcode (o : Nat) : Bool := o == 1 || o == 2 || o == 3 || o == 7

/-- How many slots the entry whose first slot is `b` takes: one, four, or four for each entry of a chain. -/
def slotsOf (b : List Byte) : Nat :=
  if byteAt b 0 = 0x1F then 4
  else if bit (byteAt b 1) 1 then
    (if bit (byteAt b 1) 4 then 4 * (1 + bits (byteAt b 28) 0 2) else 4)
  else 1

/-- The element size of a REDUCE_WRITE FORMAT, 0 for one it does not take: FP32, BF16, FP16, INT32 or the
exact-accumulator image, with ROUND and SAT 0 (R178, R261, R262). -/
def reduceSize (f : Nat) : Nat :=
  if bits f 4 2 ≠ 0 then 0
  else match f % 16 with
    | 0x0 => 4
    | 0x1 => 2
    | 0x2 => 2
    | 0xC => 4
    | 0xD => 40
    | _ => 0

/-- Are TARGET and MSG_LEN of a REDUCE_WRITE multiples of the element size, TARGET of the image 8-byte
aligned (R178)? -/
def reduceAligned (f target len : Nat) : Bool :=
  reduceSize f != 0 && len % reduceSize f == 0 &&
    (if reduceSize f = 40 then target % 8 == 0 else target % reduceSize f == 0)

/-- Does an opcode use LENGTH (R111)? -/
def usesLength (o : Nat) : Bool := o == 1 || o == 2 || o == 3 || o == 4 || o == 7 || o == 0x10

/-- A short entry (R110). -/
def parseShort (b : List Byte) : Sqe :=
  let o := byteAt b 0
  let fl := byteAt b 1
  let len := leAt b 16 8
  let bad := !nativeOpcode o || bit fl 4 || (usesLength o && decide (2 ^ 32 < len)) ||
    (o == 7 && !reduceAligned (byteAt b 2) (leAt b 24 8) len)
  { opcode := o, fence := bit fl 0, localWin := bit fl 2, immValid := bit fl 3, format := byteAt b 2,
    xform := byteAt b 3, tag := leAt b 4 4, laddr := leAt b 8 8, len, raddr := leAt b 24 8, rkey := leAt b 32 4,
    imm := leAt b 36 4, op0 := leAt b 40 8, op1 := leAt b 48 8, xarg := leAt b 56 4, bad, raw := b }

/-- The payload of a chain from its continuation entries (R113): usable bytes 16 to 251 of each; nothing
where one is missing, out of sequence or of another WORK_TAG. -/
def chainTail (tag : Nat) : Nat → Nat → List Byte → Option (List Byte)
  | 0, _, _ => some []
  | n + 1, j, u =>
    if byteAt u 0 = 0x1F ∧ byteAt u 2 = j ∧ leAt u 4 4 = tag then
      (chainTail tag n (j + 1) (u.drop 252)).map ((u.drop 16).take 236 ++ ·)
    else none

/-- An inline entry or a chain (R112, R113). -/
def parseInline (slots : List (List Byte)) : Sqe :=
  let u := usable slots
  let o := byteAt u 0
  let fl := byteAt u 1
  let len := leAt u 24 2
  let tag := leAt u 4 4
  let cc := bits (leAt u 28 4) 0 2
  let hd : Sqe := { opcode := o, fence := bit fl 0, immValid := bit fl 3, format := byteAt u 2, tag := tag,
                     len := len, raddr := leAt u 8 8, rkey := leAt u 16 4,
                     imm := leAt u 20 4, slots := slots.length }
  let okCommon := inlineOpcode o && !bit fl 2 && (o != 7 || reduceAligned (byteAt u 2) (leAt u 8 8) len)
  if bit fl 4 then
    match chainTail tag cc 1 (u.drop 252) with
    | some rest =>
      if okCommon ∧ 225 ≤ len ∧ len ≤ 928 ∧ 1 ≤ cc ∧ cc = ceilDiv (len - 220) 236 then
        { hd with inl := some ((((u.drop 32).take 220) ++ rest).take len) }
      else { hd with bad := true }
    | none => { hd with bad := true }
  else if okCommon ∧ 1 ≤ len ∧ len ≤ 224 then { hd with inl := some ((u.drop 28).take len) }
  else { hd with bad := true }

/-- The entry that begins with the first of `slots`, of as many slots as it takes. A CONT outside a chain is
taken whole, with the WORK_TAG of its usable bytes 4 to 7 (R113). -/
def parseEntry (slots : List (List Byte)) : Sqe :=
  match slots with
  | [] => { bad := true }
  | b :: _ =>
    if byteAt b 0 = 0x1F then
      { opcode := 0x1F, tag := leAt (usable slots) 4 4, bad := true, slots := slots.length }
    else if bit (byteAt b 1) 1 then parseInline slots
    else parseShort b

/-- The opcodes of legacy entries (R138). -/
def legacyOpcode (o : Nat) : Bool := o ≤ 5 || o == 8 || o == 0x10

/-- A legacy entry (R137 to R139). With INLINE, bytes 4 to 27 hold the payload. -/
def parseLegacy (b : List Byte) : Sqe :=
  let o := byteAt b 0
  let fl := byteAt b 1
  let isInl := bit fl 1
  let il := byteAt b 2
  let bad := !legacyOpcode o || (isInl && (o != 1 || il == 0 || decide (24 < il))) || (!isInl && il != 0)
  { opcode := o, fence := bit fl 0, immValid := bit fl 2 || o == 3, tag := 0,
    laddr := if isInl then 0 else leAt b 8 8, len := if isInl then il else leAt b 4 4,
    raddr := if isInl then 0 else leAt b 16 8, rkey := if isInl then 0 else leAt b 24 4,
    imm := bits (leAt b 28 4) 8 16, op0 := leAt b 8 8, inl := if isInl then some ((b.drop 4).take il) else none,
    bad, raw := b }

/-- Is OWN set in a legacy slot (R137)? -/
def legacyOwn (b : List Byte) : Bool := bit (byteAt b 31) 7

/-- The 32 bytes of a completion entry at position `pos` of its ring (R120, R106). -/
def cqeBytes (e : Cqe) (path head log2 pos : Nat) : List Byte :=
  leBytes 4 e.tag ++ leBytes 2 (e.qp % 2 ^ 14) ++ leBytes 1 e.status ++ leBytes 1 e.opcode ++ leBytes 8 e.aux ++
    leBytes 5 (e.bytes % 2 ^ 33) ++ leBytes 1 e.paths ++
    leBytes 1 (path % 8 + 8 * b2n e.immValid + 16 * b2n e.responder) ++ leBytes 1 e.detail ++ leBytes 4 head ++
    leBytes 3 0 ++ leBytes 1 (128 * ((pos / 2 ^ log2 % 2 + 1) % 2))

/-- The 32 bytes of an admin completion entry or event (R124, R106). -/
def admBytes (e : AdmEnt) (log2 pos : Nat) : List Byte :=
  leBytes 4 e.tag ++ leBytes 1 (b2n e.event) ++ leBytes 1 e.code ++ leBytes 1 e.cmd ++ leBytes 1 e.detail ++
    leBytes 8 e.arg0 ++ leBytes 8 e.arg1 ++ leBytes 7 e.arg2 ++ leBytes 1 (128 * ((pos / 2 ^ log2 % 2 + 1) % 2))

/-- The 32 bytes a legacy operation writes back (R139, R140): the slot as accepted, with LENGTH the bytes
moved, the old value of a FETCH_ADD, the immediate data of a receive, STATUS, and OWN = 0. -/
def legacyBytes (o : Op) (imm : Option Nat) : List Byte :=
  let b := o.sqe.raw
  let byteOr (i : Nat) := BitVec.ofNat 8 (byteAt b i)
  let fl := byteAt b 1 + (if imm.isSome ∧ !bit (byteAt b 1) 3 then 8 else 0) +
    (match imm with
      | some v => if v / 65536 ≠ 0 ∧ !bit (byteAt b 1) 4 then 16 else 0
      | none => 0)
  let ctrl := leAt b 28 4
  let imm16 := match imm with
    | some v => v % 65536
    | none => bits ctrl 8 16
  [byteOr 0, BitVec.ofNat 8 fl, byteOr 2, byteOr 3] ++ leBytes 4 o.bytes ++
    (if o.sqe.opcode = 5 then leBytes 8 o.aux else (List.range 8).map (fun i => byteOr (8 + i))) ++
    (List.range 12).map (fun i => byteOr (16 + i)) ++
    leBytes 4 (o.status % 256 + imm16 * 256 + bits ctrl 24 7 * 2 ^ 24)

end Sys2Proof.Machine
end

