-- ==== Sys2Proof/Machine/NearOps.lean ====
section
/-! DEFINITION. Near-link operations: choosing a path (R57), sending under flow control (R60, R62, R71),
and the DN9's own writes and reads of accelerator memory (R64, R65). -/

namespace Sys2Proof.Machine

open Sys2Proof

/-- Is the number of set bits of `v`, over `n` bits, odd? -/
def oddParity : Nat → Nat → Bool
  | 0, _ => false
  | n + 1, v => (v % 2 == 1) != oddParity n (v / 2)

/-- The near ports whose path serves attachment slot `e` and is up, rising. -/
def State.upPaths (s : State) (e : Nat) : List Nat :=
  (List.range 8).filter fun p =>
    s.on Reg.MAC_NEAR_STATUS_PATH_UP p && s.on Reg.MAC_NEAR_STATUS_ATTACH_VALID p &&
      s.rd Reg.MAC_NEAR_STATUS_ATTACH p == e

/-- The path to slot `e` for a request to accelerator physical address `pa` (R57): with two paths up, port k
for even parity of bits [20:12] and port k + 4 for odd. -/
def State.pathFor (s : State) (e pa : Nat) : Option Nat :=
  match s.upPaths e with
  | [] => none
  | [p] => some p
  | p :: q :: _ => some (if oddParity 9 (bits pa 12 9) then q else p)

/-- Data units of 64 bytes that a message takes (R62). -/
def unitsOf (m : NearMsg) : Nat := ceilDiv m.data.length 64

/-- Counts a flit sent with a message (R449). -/
def State.countFlit (s : State) (m : NearMsg) : State :=
  let s1 := s.pmc 15 0x70 none
  if m.op = 1 then s1.pmc 15 0x75 (some m.tenant) m.data.length
  else if m.op = 2 ∧ m.len = 0 then s1.pmc 15 0x73 (some m.tenant)
  else if m.op = 2 then s1.pmc 15 0x74 (some m.tenant) m.len
  else s1

/-- Puts a posted message or a completion on the link: one PROTOCOL flit, kept for replay (R60), its credits spent. -/
def State.launchP (s : State) (p : Nat) (m : NearMsg) (u : Option User) : State :=
  let n := s.nearOf p
  ((s.setNear p { n with
    txSeq := (n.txSeq + 1) % 4096, replay := n.replay ++ [(n.txSeq, m, u)],
    crdP := if m.op = 5 ∨ m.op = 6 then n.crdP else n.crdP - 1,
    crdD := if m.op = 5 ∨ m.op = 6 then n.crdD else n.crdD - unitsOf m,
    unflushed := n.unflushed || m.op == 1 }).countFlit m).emit (.near p m)

/-- Is a message a completion, which takes no credit (R62)? -/
def isCpl (m : NearMsg) : Bool := m.op == 5 || m.op == 6

/-- May a posted message of this size, or a completion, go now (R60, R62, R82)? -/
def Near.roomP (n : Near) (m : NearMsg) : Bool :=
  (isCpl m || (decide (1 ≤ n.crdP) && decide (unitsOf m ≤ n.crdD))) && decide (n.replay.length < 512) && !n.resting

/-- Wakes a resting port that has a message to send (R82, R436). -/
def State.rouse (s : State) (p : Nat) : State :=
  let n := s.nearOf p
  if n.resting ∧ n.wakes = 0 ∧ s.awake then (s.setNear p { n with wakes := 1 }).emit (.wake p) else s

/-- Sends a posted message on path `p`, in order, waiting for credit where it must. -/
def State.sendP (s : State) (p : Nat) (m : NearMsg) (u : Option User := none) : State :=
  let n := s.nearOf p
  if n.waitP = [] ∧ n.roomP m then s.launchP p m u
  else (s.setNear p { n with waitP := n.waitP ++ [(m, u)] }).rouse p

/-- Puts a non-posted request on the link under its tag. -/
def State.launchNp (s : State) (p : Nat) (r : NpReq) : State :=
  let n := s.nearOf p
  ((s.setNear p { n with
    txSeq := (n.txSeq + 1) % 4096, replay := n.replay ++ [(n.txSeq, r.msg, some r.user)],
    crdNp := n.crdNp - 1, np := n.np ++ [r], unflushed := n.unflushed && r.kind != .flush }).countFlit r.msg).emit (.near p r.msg)

/-- Sends a non-posted request on path `p`: behind earlier posted writes (R71), waiting for NP credit. -/
def State.sendNp (s : State) (p : Nat) (kind : NpKind) (user : User) (m : NearMsg) : State :=
  let n := s.nearOf p
  let m' := { m with tag := n.nextTag }
  let r : NpReq := { tag := n.nextTag, kind, user, msg := m' }
  let s1 := s.setNear p { n with nextTag := (n.nextTag + 1) % 4096 }
  if n.waitP = [] ∧ n.waitNp = [] ∧ 1 ≤ n.crdNp ∧ n.replay.length < 512 ∧ !n.resting then s1.launchNp p r
  else (s1.setNear p { s1.nearOf p with waitNp := n.waitNp ++ [r] }).rouse p

/-- Sends waiting posted messages while credit lasts. -/
def State.drainP (p : Nat) : Nat → State → State
  | 0, s => s
  | k + 1, s =>
    match (s.nearOf p).waitP with
    | [] => s
    | (m, u) :: rest =>
      if (s.nearOf p).roomP m then
        State.drainP p k ((s.setNear p { s.nearOf p with waitP := rest }).launchP p m u)
      else s

/-- Sends waiting non-posted requests while credit lasts and no posted message waits. -/
def State.drainNp (p : Nat) : Nat → State → State
  | 0, s => s
  | k + 1, s =>
    match (s.nearOf p).waitNp with
    | [] => s
    | r :: rest =>
      if (s.nearOf p).waitP = [] ∧ 1 ≤ (s.nearOf p).crdNp ∧ (s.nearOf p).replay.length < 512 ∧ !(s.nearOf p).resting then
        State.drainNp p k ((s.setNear p { s.nearOf p with waitNp := rest }).launchNp p r)
      else s

/-- Sends what waits on a path: posted messages first, since they never wait behind non-posted ones (R62). -/
def State.drainPath (s : State) (p : Nat) : State :=
  let s1 := State.drainP p (s.nearOf p).waitP.length s
  State.drainNp p (s1.nearOf p).waitNp.length s1

/-- A write of the DN9 to accelerator memory of slot `e`, steered by its address (R57); held while the
endpoint has no path up (R79). Answers the path used. -/
def State.hostWrite (s : State) (e ten ctx pa : Nat) (data : List Byte) (u : Option User) : State × Option Nat :=
  let m : NearMsg := { op := 1, len := data.length, tenant := ten, ctx, addr := pa, data }
  match s.pathFor e pa with
  | some p => (s.sendP p m u, some p)
  | none =>
    let ep := s.epOf e
    (s.setEp e { ep with held := ep.held ++ [(none, m, u)] }, none)

/-- A read, flush or atomic of the DN9 toward slot `e`, steered by its address; held while no path is up. -/
def State.hostRequest (s : State) (e : Nat) (kind : NpKind) (user : User) (m : NearMsg) : State :=
  match s.pathFor e m.addr with
  | some p => s.sendNp p kind user m
  | none =>
    let ep := s.epOf e
    s.setEp e { ep with held := ep.held ++ [(some (kind, user), m, some user)] }

/-- Sends the requests held for an endpoint while it had no path up. -/
def State.releaseHeld (e : Nat) : List (Option (NpKind × User) × NearMsg × Option User) → State → State
  | [], s => s
  | (k, m, u) :: rest, s =>
    match k, s.pathFor e m.addr with
    | some (kind, user), some p => State.releaseHeld e rest (s.sendNp p kind user m)
    | none, some p => State.releaseHeld e rest (s.sendP p m u)
    | _, none => State.releaseHeld e rest (s.setEp e { s.epOf e with held := (s.epOf e).held ++ [(k, m, u)] })

/-- Splits bytes at 4 KiB boundaries of the address: no request crosses one (R57, R65). -/
def split4k : Nat → Nat → List Byte → List (Nat × List Byte)
  | 0, _, _ => []
  | n + 1, a, bs =>
    if bs = [] then []
    else
      let k := 4096 - a % 4096
      (a, bs.take k) :: split4k n (a + k) (bs.drop k)

/-- Counts a malformed message of a near port and reports it, at most once per port per 1 ms (R83, R485).
`detail` is 0 for a malformed message, 1 for an unknown TAG. -/
def State.protocolError (s : State) (p detail op tag : Nat) : State :=
  let s1 := if detail = 0 then s.count Reg.MAC_NEAR_MALFORMED_COUNT p else s.count Reg.MAC_NEAR_BAD_TAG_COUNT p
  let due := match (s1.nearOf p).malfAt with
    | none => true
    | some t => decide (t + 1000000 ≤ s1.now)
  if due then
    (s1.setNear p { s1.nearOf p with malfAt := some s1.now }).event provider Code.nearProtocolError detail
      (evObj 8 p) (op % 256 + tag % 4096 * 256)
  else s1

end Sys2Proof.Machine
end

