-- ==== Sys2Proof/Machine/XltOps.lean ====
section
/-! DEFINITION. Translation, its checks and on-demand paging (R84 to R104), and the GDDR7 checkpoint (R96,
R332). -/

namespace Sys2Proof.Machine

open Sys2Proof

/-! The KIND values of XLT_VIOL_LOG0 (R105). -/
namespace Kind
def nonCanonical : Nat := 1
def tenantMismatch : Nat := 2
def pteMalformed : Nat := 3
def noContext : Nat := 4
def windowRegister : Nat := 5
def pageInvalid : Nat := 6
def extent : Nat := 7
def scratch : Nat := 8
def egress : Nat := 9
def hostDenied : Nat := 10
end Kind

/-- Records a remote access violation (R97): counted, and logged while the log is clear. -/
def State.violation (s : State) (kind ten ctx cluster addr : Nat) : State :=
  let s1 := s.inc Reg.XLT_VIOL_COUNT_COUNT
  if s.on Reg.XLT_VIOL_LOG0_VALID then s1
  else
    (((((s1.wr Reg.XLT_VIOL_LOG0_TENANT 0 ten).wr Reg.XLT_VIOL_LOG0_CONTEXT 0 ctx).wr
      Reg.XLT_VIOL_LOG0_KIND 0 kind).wr Reg.XLT_VIOL_LOG0_CLUSTER 0 cluster).wr
      Reg.XLT_VIOL_LOG1_ADDR 0 addr).wr Reg.XLT_VIOL_LOG0_VALID 0 1

/-- Bits [63:57] equal bit 56 (R84). -/
def canonical (va : Nat) : Bool := bits va 57 7 == if bit va 56 then 0x7F else 0

/-- The descriptor of a (tenant, context) pair (R87). -/
def State.descOf (s : State) (ten ctx : Nat) : Option Nat :=
  (s.listed Reg.XLT_CTX_DESC0_VALID).find? fun d =>
    s.on Reg.XLT_CTX_DESC0_VALID d && s.rd Reg.XLT_CTX_DESC1_TENANT d == ten &&
      s.rd Reg.XLT_CTX_DESC1_CONTEXT d == ctx

/-- The endpoint record that holds an endpoint ID (R328). -/
def State.epRecord (s : State) (epid : Nat) : Option Nat :=
  if epid = 0 then none else (List.range 16).find? fun r => s.rd Reg.TEN_EP_ID_ID r == epid

/-- May the endpoint present this tenant (R70, R328)? In BLANK and RETURN every endpoint may present the provider's (R377). -/
def State.permitted (s : State) (epid ten : Nat) : Bool :=
  (ten == provider && (s.rd Reg.LCS_STATE_STATE == 0 || s.rd Reg.LCS_STATE_STATE == 3)) ||
  match s.epRecord epid with
  | none => false
  | some r => (List.range 64).any fun k =>
      s.on Reg.TEN_EP_TEN_VALID (ix r k) && s.rd Reg.TEN_EP_TEN_TENANT (ix r k) == ten

/-! GDDR7 (R330 to R332). -/

/-- The 2 MiB unit. -/
def unitBytes : Nat := 2 ^ 21

/-- The end of usable GDDR7 (R4). -/
def gddrEnd : Nat := 0xB40000000

/-- The extent that holds window offset `a`. -/
def State.extentAt (s : State) (a : Nat) : Option Nat :=
  (s.listed Reg.TEN_EXT0_STATE).find? fun n =>
    s.rd Reg.TEN_EXT0_STATE n != 0 &&
      decide (s.rd Reg.TEN_EXT1_BASE_UNIT n ≤ a / unitBytes) &&
      decide (a / unitBytes < s.rd Reg.TEN_EXT1_BASE_UNIT n + s.rd Reg.TEN_EXT1_UNITS n)

/-- Does the GDDR7 controller pass a request of a tenant and context to one byte (R332)? The provider always passes, but for
the unit of the extent table, which it may only read (R330). -/
def State.gddrPass (s : State) (ten ctx : Nat) (acc : AccK) (a : Nat) : Bool :=
  (ten == provider && (acc == .read || decide (unitBytes ≤ a))) ||
  match s.extentAt a with
  | none => false
  | some n =>
    (s.rd Reg.TEN_EXT0_STATE n == 1 || s.rd Reg.TEN_EXT0_STATE n == 2) && s.rd Reg.TEN_EXT0_TENANT n == ten &&
      (s.on Reg.TEN_EXT0_ANY_CONTEXT n || s.rd Reg.TEN_EXT0_CONTEXT n == ctx)

/-- The window offsets of a request, 2 MiB unit by unit, at which the controller checks it. -/
def checkPoints (a len : Nat) : List Nat :=
  a :: ((List.range (len / unitBytes + 2)).map (fun k => (a / unitBytes + k) * unitBytes)).filter
    (fun b => decide (a < b) && decide (b < a + len))

/-- Does every byte of a request pass (R96, R332)? -/
def State.gddrPassAll (s : State) (ten ctx : Nat) (acc : AccK) (a len : Nat) : Bool :=
  decide (a + len ≤ gddrEnd) && (checkPoints a len).all (s.gddrPass ten ctx acc)

/-- Is a write of tenant `ten` stopped by a frozen slice (R335 step 5)? -/
def State.gddrFrozen (s : State) (ten : Nat) : Bool := s.frozen ten

/-- Does a range of `n` bytes from `a` touch line `l` of 64 bytes; does it hold the whole line? -/
def touchesLine (a n l : Nat) : Bool := decide (a < 64 * l + 64) && decide (64 * l < a + n)
def holdsLine (a n l : Nat) : Bool := decide (a ≤ 64 * l) && decide (64 * l + 64 ≤ a + n)

/-- Does a range of GDDR7 touch a poisoned line (R402)? -/
def State.gddrPoisoned (s : State) (a n : Nat) : Bool := s.board.res.poison.any (touchesLine a n)

/-- The record of extent `n` in the extent table (R484). -/
def State.extRecord (s : State) (n : Nat) : List Byte :=
  let st := s.rd Reg.TEN_EXT0_STATE n
  if st = 0 then []
  else
    leBytes 1 (st + 8 * s.rd Reg.TEN_EXT0_KEEP n + 16 * s.rd Reg.TEN_EXT0_ANY_CONTEXT n) ++ leBytes 1 (s.rd Reg.TEN_EXT0_ATTACH n) ++
      leBytes 2 (s.rd Reg.TEN_EXT0_TENANT n) ++ leBytes 2 (s.rd Reg.TEN_EXT0_CONTEXT n) ++ leBytes 2 0 ++
      leBytes 4 (s.rd Reg.TEN_EXT1_BASE_UNIT n) ++ leBytes 4 (s.rd Reg.TEN_EXT1_UNITS n) ++
      leBytes 8 (if st = 1 ∨ st = 2 then (s.extOf n).epid else 0)

/-- `n` bytes of the GDDR7 range from window offset `a`; its first unit holds the extent table (R330, R484). -/
def State.gddrBytes (s : State) (a n : Nat) : List Byte :=
  if unitBytes ≤ a then Mem.bytes s.gddr a n
  else (List.range n).map (fun k =>
    if a + k < unitBytes then (s.extRecord ((a + k) / 32)).getD ((a + k) % 32) 0 else Mem.rd s.gddr (a + k))

/-- Stores bytes to GDDR7; a write of a whole line clears its poison (R402). -/
def State.gddrStore (s : State) (a : Nat) (b : List Byte) : State :=
  { s with gddr := Mem.store s.gddr a b,
           board := { s.board with res := { s.board.res with poison := s.board.res.poison.filter (fun l => !holdsLine a b.length l) } } }

/-! The translation cache (R90). -/

/-- The cache of a cluster. -/
def State.tlbOf (s : State) (c : Nat) : List Tlb := Tbl.get [] c s.xlt.tlb
def State.setTlb (s : State) (c : Nat) (l : List Tlb) : State :=
  { s with xlt := { s.xlt with tlb := Tbl.set [] c l s.xlt.tlb } }

/-- Does an entry translate this address? -/
def tlbHits (ten ctx va : Nat) (e : Tlb) : Bool :=
  e.tenant == ten && e.ctx == ctx && e.vpn == va / 2 ^ e.shift && !e.marked

/-- The set of an entry: its own virtual page number modulo 1,024 (R90). -/
def Tlb.setIx (e : Tlb) : Nat := e.vpn % 1024

/-- Drops the least recently used entry that meets `p` (the list runs from the most recent). -/
def dropLru (p : Tlb → Bool) (l : List Tlb) : List Tlb := (dropFirst p l.reverse).reverse

/-- The quota of a tenant per cluster, in entries; none for the provider (R90). -/
def State.tlbQuota (s : State) (ten : Nat) : Option Nat :=
  if ten = provider then none else some (64 * s.rd Reg.TEN_SLICE3_XLT_QUOTA ten)

/-- Installs an entry under the five fill rules of R90. -/
def State.tlbFill (s : State) (c : Nat) (e : Tlb) : State :=
  let l := (s.tlbOf c).filter fun x => !(x.tenant == e.tenant && x.ctx == e.ctx && x.shift == e.shift && x.vpn == e.vpn)
  let held (t : Nat) := (l.filter (·.tenant == t)).length
  let inSet (x : Tlb) := x.setIx == e.setIx
  let mine (x : Tlb) := inSet x && x.tenant == e.tenant
  let above (t : Nat) := match s.tlbQuota t with
    | none => false
    | some q => decide (q < held t)
  let full := decide (8 ≤ (l.filter inSet).length)
  if above e.tenant && !l.any mine then s
  else
    match (l.filter inSet).find? (fun x => above x.tenant) with
    | some x => s.setTlb c (e :: dropLru (fun y => inSet y && y.tenant == x.tenant) l)
    | none =>
      let atQuota := match s.tlbQuota e.tenant with
        | none => false
        | some q => decide (q ≤ held e.tenant)
      if atQuota && l.any mine then s.setTlb c (e :: dropLru mine l)
      else if full then s.setTlb c (e :: dropLru inSet l)
      else s.setTlb c (e :: l)

/-- What a translation answers: an accelerator address at an attachment slot, a GDDR7 offset (R92), a miss,
or a violation of a KIND. -/
inductive XlRes where
  | host (slot pa : Nat)
  | gddr (a : Nat)
  | miss
  | bad (kind : Nat)
  deriving DecidableEq, Repr

/-- The near-link egress checkpoint (R96). -/
def State.egressOk (s : State) (slot ten ctx : Nat) : Bool :=
  s.permitted (s.epOf slot).epid ten && (ten == provider || (s.attOf (8 * ten + slot)).st == .attached || (s.attOf (8 * ten + slot)).st == .absent) &&
    match s.descOf ten ctx with
    | none => false
    | some d => s.rd Reg.XLT_CTX_DESC0_ENDPOINT d == slot

/-- Where a translated physical address leads (R92, R96). -/
def State.target (s : State) (slot pa ten ctx : Nat) (acc : AccK) : XlRes :=
  let base := (s.epOf slot).windowBase
  if base ≤ pa ∧ pa < base + 2 ^ 36 then
    if pa - base < gddrEnd then
      (if s.gddrPass ten ctx acc (pa - base) then .gddr (pa - base) else .bad Kind.extent)
    else .bad Kind.windowRegister
  else if s.egressOk slot ten ctx then .host slot pa
  else .bad Kind.egress

/-- Translates a virtual address in the cache of cluster `c` (R84, R87, R90). A write needs W and D, else the
page is walked. Answers the state with the counters and the recency moved. -/
def State.translate (s : State) (c ten ctx va : Nat) (acc : AccK) : State × XlRes :=
  if !s.on Reg.XLT_CTRL_ENABLE then (s, .bad Kind.noContext)
  else if !canonical va then (s, .bad Kind.nonCanonical)
  else
    match s.descOf ten ctx with
    | none => (s, .bad Kind.noContext)
    | some _ =>
      match (s.tlbOf c).find? (tlbHits ten ctx va) with
      | none => ((s.inc Reg.XLT_MISS_COUNT_COUNT).pmc c 0x14 (some ten), .miss)
      | some e =>
        if acc ≠ .read ∧ !(e.w && e.d) then ((s.inc Reg.XLT_MISS_COUNT_COUNT).pmc c 0x14 (some ten), .miss)
        else
          let s1 := (s.setTlb c (e :: (s.tlbOf c).filter (· ≠ e))).inc Reg.XLT_HIT_COUNT_COUNT
          (s1.pmc c 0x13 (some ten), s1.target e.att (e.pfn * 4096 + va % 2 ^ e.shift) ten ctx acc)

/-! Walks (R91). -/

/-- The page number a walk is merged under. -/
def page4k (va : Nat) : Nat := va / 4096

/-- The index into the table of a level (R84). -/
def levelIx (level va : Nat) : Nat := bits va (12 + 9 * (level - 1)) 9

def State.setWalks (s : State) (l : List Walk) : State := { s with xlt := { s.xlt with walks := l } }
def State.walkOf (s : State) (id : Nat) : Option Walk := s.xlt.walks.find? (·.id == id)
def State.putWalk (s : State) (w : Walk) : State := s.setWalks (replaceFirst (·.id == w.id) (fun _ => w) s.xlt.walks)
def State.dropWalk (s : State) (id : Nat) : State := s.setWalks (dropFirst (·.id == id) s.xlt.walks)

/-- Asks for the table entry of a walk's level: a RD of LEN 8 (R91). -/
def State.readTable (s : State) (w : Walk) : State :=
  s.hostRequest w.att .table (.walk w.id)
    { op := 2, len := 8, tenant := w.tenant, ctx := w.ctx, addr := w.table * 4096 + 8 * levelIx w.level w.va }

/-- Sets a walk at the level its cached upper entries allow (R91): level 3 after a cached level-4 entry,
level 4 after a cached level-5 entry, else level 5. -/
def State.walkStart (s : State) (w : Walk) : Walk :=
  let hit (lv : Nat) := s.xlt.walkc.find? fun e =>
    e.tenant == w.tenant && e.ctx == w.ctx && e.level == lv && e.idx == w.va / 2 ^ (12 + 9 * (lv - 1)) && !e.marked
  match hit 4 with
  | some e => { w with level := 3, table := e.pfn, wOk := e.w }
  | none =>
    match hit 5 with
    | some e => { w with level := 4, table := e.pfn, wOk := e.w }
    | none => w

/-- The lowest-numbered in-service walker that runs no walk. -/
def State.freeWalker (s : State) : Option Nat :=
  (List.range 32).find? fun n =>
    bit (s.rd Reg.XLT_WALKER_IN_SERVICE) n && !(s.xlt.walks.any fun w => w.walker == some n)

/-- Gives free walkers to waiting walks, oldest first, and starts their reads. -/
def State.serveWalks : List Walk → State → State
  | [], s => s
  | w :: rest, s =>
    match w.walker, s.freeWalker with
    | none, some n =>
      let w' := { w with walker := some n }
      State.serveWalks rest ((s.putWalk w').readTable w')
    | _, _ => State.serveWalks rest s

/-- Starts a walk for a page, or joins the walk of the same (tenant, context, page) (R91). -/
def State.startWalk (s : State) (c ten ctx va : Nat) (acc : AccK) (ws : List Waiter) (fault : Option Nat) : State :=
  match s.xlt.walks.find? (fun w => w.tenant == ten && w.ctx == ctx && page4k w.va == page4k va && w.fault == fault) with
  | some w =>
    s.putWalk { w with
      waiters := w.waiters ++ ws, acc := if w.acc = .atomic ∨ acc = .read then w.acc else acc }
  | none =>
    match s.descOf ten ctx with
    | none => s
    | some d =>
      let w0 : Walk := { id := s.xlt.nextWalk, tenant := ten, ctx, va, acc, cluster := c, walker := none, level := 5,
                         table := s.rd Reg.XLT_CTX_DESC0_ROOT_PFN d, wOk := true,
                         att := s.rd Reg.XLT_CTX_DESC0_ENDPOINT d, waiters := ws, fault }
      let w := if s.on Reg.XLT_CTRL_WALK_CACHE_EN then s.walkStart w0 else w0
      let s0 := s.pmc 11 0x30 (some ten)
      let s1' := if w.level < 5 then s0.pmc 11 0x31 (some ten) else s0
      let s1 := { s1' with xlt := { s.xlt with nextWalk := s.xlt.nextWalk + 1, walks := s.xlt.walks ++ [w] } }
      State.serveWalks s1.xlt.walks s1

/-- Puts a walk back to level 5 (R89, R91, R95). -/
def State.restartWalk (s : State) (w : Walk) : State :=
  match s.descOf w.tenant w.ctx with
  | none => s
  | some d =>
    let w' := { w with level := 5, table := s.rd Reg.XLT_CTX_DESC0_ROOT_PFN d, wOk := true, leaf := none, restart := false }
    (s.putWalk w').readTable w'

/-! Fault records (R98 to R103). -/

def faultKey (ten i : Nat) : Nat := 256 * ten + i
def State.faultOf (s : State) (ten i : Nat) : FaultR := Tbl.get {} (faultKey ten i) s.xlt.faults
def State.setFault (s : State) (ten i : Nat) (f : FaultR) : State :=
  { s with xlt := { s.xlt with faults := Tbl.set {} (faultKey ten i) f s.xlt.faults } }

/-- The stronger of two accesses (R98). -/
def strongest : AccK → AccK → AccK
  | .atomic, _ => .atomic
  | _, .atomic => .atomic
  | .write, _ => .write
  | _, .write => .write
  | .read, .read => .read

/-- The OPSPEC code of an access (R65). -/
def accCode : AccK → Nat
  | .read => 0
  | .write => 1
  | .atomic => 2

/-- The strongest access of a list of waiters. -/
def strongestOf (ws : List Waiter) : AccK := ws.foldl (fun a w => strongest a w.acc) .read

/-- Sends PAGE_REQ for a record on the lowest-numbered path of its endpoint that is up (R101). -/
def State.pageReq (s : State) (ten i : Nat) (f : FaultR) : State :=
  let m : NearMsg := { op := 0x0A, tenant := ten, ctx := f.ctx, addr := f.page * 4096, opspec := i + 256 * accCode f.acc }
  match s.upPaths f.att with
  | p :: _ => s.sendP p m
  | [] => s.setEp f.att { s.epOf f.att with held := (s.epOf f.att).held ++ [(none, m, none)] }

/-- The open records of a tenant. -/
def State.openFaults (s : State) (ten : Nat) : Nat :=
  ((List.range 256).filter fun i => (s.faultOf ten i).st != .free).length

/-- The record with a key, if one is open (R98). -/
def State.faultMatch (s : State) (ten ctx page : Nat) : Option Nat :=
  (List.range 256).find? fun i =>
    (s.faultOf ten i).st != .free && (s.faultOf ten i).ctx == ctx && (s.faultOf ten i).page == page

/-- Opens record `i` for a fault and sends its first PAGE_REQ (R102); the transition to 256 open records
posts FAULT_QUEUE_FULL (R103). -/
def State.openFault (s : State) (ten i ctx att c : Nat) (ws : List Waiter) (va : Nat) : State :=
  let f : FaultR := { st := .open, ctx, page := page4k va, acc := strongestOf ws, attempts := 1, cluster := c, att,
                      waiters := ws }
  let s1 := (((s.setFault ten i f).inc Reg.XLT_FQ_STATUS_OPEN ten).pmc 11 0x32 (some ten)).pageReq ten i f
  if s1.rd Reg.XLT_FQ_STATUS_OPEN ten = 256 then
    (s1.event ten Code.faultQueueFull 0 (evObj 5 ten) (s1.free 64)).bump
  else s1

/-- Is the request one that places data for a remote requester? -/
def Waiter.remote (w : Waiter) : Bool :=
  match w.user with
  | .pkt _ _ => true
  | _ => false

/-- What the translation logic hands back to the users of requests: those whose page translates now, those
that fail with a code and DETAIL, and those answered PAGE_NOT_READY with a backoff in us. -/
structure XlFx where
  ok : List Waiter := []
  bad : List (Waiter × Nat × Nat) := []
  pnr : List (Waiter × Nat) := []
  deriving DecidableEq, Repr

/-- Joins the effects of two parts of a step. -/
def XlFx.add (a b : XlFx) : XlFx := { ok := a.ok ++ b.ok, bad := a.bad ++ b.bad, pnr := a.pnr ++ b.pnr }

/-- The first backoff, in us (R100, R105). -/
def State.backoff0 (s : State) : Nat := max 1 (s.rd Reg.XLT_FAULT_CFG_BACKOFF_US)

/-- A fault of waiters on one page (R98, R103). -/
def State.fault (s : State) (c ten ctx va att : Nat) (ws : List Waiter) : State × XlFx :=
  match s.faultMatch ten ctx (page4k va) with
  | some i =>
    let f := s.faultOf ten i
    (s.setFault ten i { f with waiters := f.waiters ++ ws, acc := strongest f.acc (strongestOf ws) }, {})
  | none =>
    match (List.range 256).find? (fun i => (s.faultOf ten i).st == .free) with
    | some i => (s.openFault ten i ctx att c ws va, {})
    | none =>
      let s1 := (s.count Reg.XLT_FQ_STATUS_OVERFLOW_COUNT ten).wr Reg.XLT_FQ_STATUS_OVERFLOW ten 1
      let loc := ws.filter (fun w => !w.remote)
      ({ s1 with xlt := { s1.xlt with queued := s1.xlt.queued ++ loc.map (fun w => (ten, ctx, w)) } },
       { pnr := (ws.filter (·.remote)).map (fun w => (w, s1.backoff0)) })

/-- Frees a record; it goes to the oldest waiting fault of the tenant (R103), which opens it. -/
def State.freeFault (s : State) (ten i : Nat) : State :=
  let s1 := (s.setFault ten i {}).dec Reg.XLT_FQ_STATUS_OPEN ten
  match s1.xlt.queued.find? (fun q => q.1 == ten) with
  | none => s1
  | some (_, ctx, w) =>
    let s2 := { s1 with xlt := { s1.xlt with queued := dropFirst (fun q => q.1 == ten) s1.xlt.queued } }
    let att := match s2.descOf ten ctx with
      | none => 0
      | some d => s2.rd Reg.XLT_CTX_DESC0_ENDPOINT d
    match s2.faultMatch ten ctx (page4k w.va) with
    | some j =>
      let f := s2.faultOf ten j
      s2.setFault ten j { f with waiters := f.waiters ++ [w], acc := strongest f.acc w.acc }
    | none => s2.openFault ten i ctx att w.cluster [w] w.va

/-- The greatest number of PAGE_REQ attempts (R105). -/
def State.retryMax (s : State) : Nat := max 1 (s.rd Reg.XLT_FAULT_CFG_RETRY_MAX)

/-- Sends another PAGE_REQ for a record, or fails its waiters with PAGE_TIMEOUT at the last attempt (R102). -/
def State.faultAgain (s : State) (ten i : Nat) (ws : List Waiter) : State × XlFx :=
  let f := s.faultOf ten i
  if f.attempts < s.retryMax then
    let f' := { f with st := .open, attempts := f.attempts + 1, waiters := ws, acc := strongestOf ws }
    ((s.setFault ten i f').pageReq ten i f', {})
  else (s.freeFault ten i, { bad := ws.map (fun w => (w, Code.pageTimeout, 0)) })

/-- Does a leaf satisfy an access: W along the walk for a write or atomic (R86)? -/
def leafAllows (wOk : Bool) (acc : AccK) : Bool := acc == .read || wOk

/-- The waiters of a walk, with those that joined its fault record meanwhile. -/
def State.walkWaiters (s : State) (w : Walk) : List Waiter :=
  w.waiters ++ (match w.fault with
    | some i => (s.faultOf w.tenant i).waiters
    | none => [])

/-- The end of a walk at a leaf entry whose A and D stand as needed: installs the translation, releases the
waiters whose access it allows, and faults the others (R86, R90, R102). -/
def State.walkLeaf (s : State) (w : Walk) (wOk : Bool) (shift pfn : Nat) (dBit : Bool) : State × XlFx :=
  let e : Tlb := { tenant := w.tenant, ctx := w.ctx, shift, vpn := w.va / 2 ^ shift, pfn, w := wOk, d := dBit, att := w.att }
  let s1 := ((s.dropWalk w.id).tlbFill w.cluster e).inc Reg.XLT_WALK_COUNT_COUNT
  let s2 := State.serveWalks s1.xlt.walks s1
  let ws := s2.walkWaiters w
  let okW := ws.filter (fun x => leafAllows wOk x.acc)
  let badW := ws.filter (fun x => !leafAllows wOk x.acc)
  match w.fault with
  | none => if badW = [] then (s2, { ok := okW }) else
      let r := s2.fault w.cluster w.tenant w.ctx w.va w.att badW
      (r.1, r.2.add { ok := okW })
  | some i =>
    if badW = [] then (s2.freeFault w.tenant i, { ok := okW })
    else if (s2.faultOf w.tenant i).expired then
      (s2.freeFault w.tenant i, { ok := okW, bad := badW.map (fun x => (x, Code.pageTimeout, 0)) })
    else
      let r := s2.faultAgain w.tenant i badW
      (r.1, r.2.add { ok := okW })

/-- The end of a walk at an entry treated as not present: every waiter faults (R86, R98, R102). -/
def State.walkAbsent (s : State) (w : Walk) : State × XlFx :=
  let s1 := (s.dropWalk w.id).inc Reg.XLT_WALK_COUNT_COUNT
  let s2 := State.serveWalks s1.xlt.walks s1
  match w.fault with
  | none => s2.fault w.cluster w.tenant w.ctx w.va w.att w.waiters
  | some i =>
    let ws := s2.walkWaiters w
    if (s2.faultOf w.tenant i).expired ∨ ws = [] then
      (s2.freeFault w.tenant i, { bad := ws.map (fun x => (x, Code.pageTimeout, 0)) })
    else s2.faultAgain w.tenant i ws

/-- The end of a walk that fails its waiters with a code (R86, R91). -/
def State.walkFail (s : State) (w : Walk) (code detail : Nat) : State × XlFx :=
  let s1 := if code = Code.accessViolation then
      (s.walkWaiters w).foldl (fun s x => s.violation detail w.tenant w.ctx x.cluster x.va) s
    else s
  let s2 := (s1.dropWalk w.id).inc Reg.XLT_WALK_COUNT_COUNT
  let s3 := State.serveWalks s2.xlt.walks s2
  let s4 := match w.fault with
    | none => s3
    | some i => s3.freeFault w.tenant i
  (s4, { bad := (s3.walkWaiters w).map (fun x => (x, code, detail)) })

/-- Is PFN bits `[12 + n - 1 : 12]` all 0, for a leaf of 2^(12+n) bytes (R86)? -/
def leafAligned (pte n : Nat) : Bool := bits pte 12 n == 0

/-- What a table entry means at a level of a walk (R85, R86). -/
inductive PteRes where
  | absent
  | bad (kind : Nat)
  | table (pfn : Nat)
  | leaf (shift : Nat)
  deriving DecidableEq, Repr

/-- Reads a table entry (R85, R86). -/
def pteCheck (ten level paBits pte : Nat) : PteRes :=
  let tctx := bits pte 8 4 + 16 * bits pte 56 8
  if !bit pte 0 then .absent
  else if bits tctx 0 10 ≠ ten then .bad Kind.tenantMismatch
  else if bits tctx 10 2 ≠ 0 ∨ (bit pte 5 ∧ 4 ≤ level) ∨ 2 ^ paBits ≤ bits pte 12 44 * 4096 then .bad Kind.pteMalformed
  else if level = 1 then .leaf 12
  else if bit pte 5 ∧ level = 2 then (if leafAligned pte 9 then .leaf 21 else .bad Kind.pteMalformed)
  else if bit pte 5 ∧ level = 3 then (if leafAligned pte 18 then .leaf 30 else .bad Kind.pteMalformed)
  else .table (bits pte 12 44)

/-- The A and D bits a leaf lacks for an access (R89). -/
def leafNeeds (pte : Nat) (acc : AccK) : Bool := !bit pte 3 || (acc != .read && !bit pte 4)

/-- A leaf entry of a walk: sets A and D with a CSWAP where they lack and AD_UPDATE allows it, else treats
the page as not present (R89). -/
def State.walkAtLeaf (s : State) (w : Walk) (wOk : Bool) (shift pte : Nat) : State × XlFx :=
  if leafNeeds pte w.acc ∧ leafAllows wOk w.acc then
    if s.on Reg.XLT_CTRL_AD_UPDATE then
      let new := setBit (if w.acc = .read then pte else setBit pte 4) 3
      let w' := { w with leaf := some (shift, new), wOk }
      ((s.putWalk w').hostRequest w.att .adUpdate (.walk w.id)
        { op := 4, len := 16, tenant := w.tenant, ctx := w.ctx, addr := w.table * 4096 + 8 * levelIx w.level w.va,
          data := leBytes 8 pte ++ leBytes 8 new }, {})
    else s.walkAbsent w
  else s.walkLeaf w wOk shift (bits pte 12 44) (bit pte 4)

/-- One table entry arrives for a walk (R91). -/
def State.walkEntry (s : State) (w : Walk) (pte : Nat) : State × XlFx :=
  match pteCheck w.tenant w.level (s.epOf w.att).paBits pte with
  | .absent => s.walkAbsent w
  | .bad k => s.walkFail w Code.accessViolation k
  | .leaf shift => s.walkAtLeaf w (w.wOk && bit pte 1) shift pte
  | .table pfn =>
    let wOk := w.wOk && bit pte 1
    let s1 := if 4 ≤ w.level ∧ s.on Reg.XLT_CTRL_WALK_CACHE_EN then
        let e : WalkC := { tenant := w.tenant, ctx := w.ctx, level := w.level, idx := w.va / 2 ^ (12 + 9 * (w.level - 1)), pfn, w := wOk }
        { s with xlt := { s.xlt with walkc := (e :: s.xlt.walkc.filter (· ≠ e)).take 1024 } }
      else s
    let w' := { w with level := w.level - 1, table := pfn, wOk }
    ((s1.putWalk w').readTable w', {})

/-! Invalidation (R93 to R95). -/

/-- Does an invalidation cover a page of `2 ^ shift` bytes of a tenant and context? -/
def Inval.covers (v : Inval) (ten ctx va shift : Nat) : Bool :=
  v.tenant == ten && (v.wholeTen || (v.ctx == ctx && (v.wholeCtx ||
    (decide (va < v.base / 2 ^ v.size * 2 ^ v.size + 2 ^ v.size) && decide (v.base / 2 ^ v.size * 2 ^ v.size < va + 2 ^ shift)))))

/-- Marks every cached translation that an invalidation covers, and every walk that it covers for a restart. -/
def State.markInval (s : State) (v : Inval) : State :=
  { s with xlt := { s.xlt with
    tlb := s.xlt.tlb.map (fun p => (p.1, p.2.map (fun e =>
      if v.covers e.tenant e.ctx (e.vpn * 2 ^ e.shift) e.shift then { e with marked := true } else e)))
    walkc := s.xlt.walkc.map (fun e =>
      if v.covers e.tenant e.ctx (e.idx * 2 ^ (12 + 9 * (e.level - 1))) (12 + 9 * (e.level - 1)) then { e with marked := true } else e)
    walks := s.xlt.walks.map (fun w => if v.covers w.tenant w.ctx w.va 12 then { w with restart := true } else w) } }

/-- Removes the marked translations that an invalidation covers (R93 step 3). -/
def State.sweepInval (s : State) (v : Inval) : State :=
  { s with xlt := { s.xlt with
    tlb := (s.xlt.tlb.map (fun p => (p.1, p.2.filter (fun e =>
      !(e.marked && v.covers e.tenant e.ctx (e.vpn * 2 ^ e.shift) e.shift))))).filter (fun p => !p.2.isEmpty)
    walkc := s.xlt.walkc.filter (fun e =>
      !(e.marked && v.covers e.tenant e.ctx (e.idx * 2 ^ (12 + 9 * (e.level - 1))) (12 + 9 * (e.level - 1)))) } }

/-- Drops every cached translation of a (tenant, context) pair (R80, R129). -/
def State.dropContext (s : State) (ten ctx : Nat) : State :=
  { s with xlt := { s.xlt with
    tlb := (s.xlt.tlb.map (fun p => (p.1, p.2.filter (fun e => !(e.tenant == ten && e.ctx == ctx))))).filter
      (fun p => !p.2.isEmpty)
    walkc := s.xlt.walkc.filter (fun e => !(e.tenant == ten && e.ctx == ctx)) } }

/-- Starts an invalidation (R93 step 1): the entries are marked, and a flush goes out on each path that carried writes not yet
known to be visible. -/
def State.startInval (s : State) (v : Inval) : State :=
  let s1 := s.markInval v
  (List.range 8).foldl (fun s p =>
    if s.on Reg.MAC_NEAR_STATUS_PATH_UP p ∧ ((s.nearOf p).unflushed ∨ (s.nearOf p).np.any (fun r => r.kind == .flush)) then
      s.sendNp p .flush (.inval v.slot v.seq) { op := 2, tenant := v.tenant, ctx := v.ctx }
    else s) s1

/-- Starts the oldest invalidation of slot `e` that the limit of 256 held back (R94). -/
def State.nextInval (s : State) (e : Nat) : State :=
  match s.xlt.invals.find? (fun v => v.slot == e && !v.marked) with
  | none => s
  | some v =>
    let v' := { v with marked := true }
    ({ s with xlt := { s.xlt with invals := replaceFirst (· == v) (fun _ => v') s.xlt.invals } }).startInval v'

/-- Sends the INVAL_ACKs of slot `e` that are due, in sequence order (R94): a number is acknowledged only
after every earlier one. On the path it came on if that is up, else on another path of the endpoint; while
none is up they wait. -/
def State.ackInvals (e : Nat) : Nat → State → State
  | 0, s => s
  | k + 1, s =>
    match s.xlt.invals.find? (·.slot == e) with
    | none => s
    | some v =>
      if !v.drained then s
      else
        match (if v.path ∈ s.upPaths e then some v.path else (s.upPaths e).head?) with
        | none => s
        | some p =>
          let s1 := { s with xlt := { s.xlt with invals := dropFirst (·.slot == e) s.xlt.invals } }
          State.ackInvals e k ((((s1.pmc 11 0x34 (some v.tenant)).nextInval e).wr Reg.XLT_INV_SEQ_LAST_ACKED e v.seq).sendP p
            { op := 0x09, tenant := v.tenant, ctx := v.ctx, opspec := v.seq })

end Sys2Proof.Machine
end

