-- ==== Sys2Proof/Machine/QueueOps.lean ====
section
/-! DEFINITION. Operations of queue pairs and completion rings: outstanding operations (R118), completions
made ready, flushed (R76) and written (R120 to R123), and full and broken rings (R122, R488). -/

namespace Sys2Proof.Machine

open Sys2Proof

/-- The tenant of a queue pair. -/
def State.qpTenant (s : State) (q : Nat) : Nat := s.rd Reg.QP_DESC0_TENANT q

/-- Does the queue pair exist? -/
def State.qpValid (s : State) (q : Nat) : Bool := s.on Reg.QP_DESC0_VALID q

/-- The queue pairs that exist. -/
def State.qpList (s : State) : List Nat := (s.listed Reg.QP_DESC0_VALID).filter s.qpValid

/-! The scheduler states of R119. -/
namespace Sched
def idle : Nat := 0
def fetch : Nat := 1
def refetch : Nat := 2
def parked : Nat := 3
def fenced : Nat := 4
def error : Nat := 5
end Sched

def State.sched (s : State) (q : Nat) : Nat := s.rd Reg.QP_DESC3_SCHED_STATE q
def State.setSched (s : State) (q v : Nat) : State := s.wr Reg.QP_DESC3_SCHED_STATE q v

/-- Takes an operation out of its queue pair: it is no longer outstanding (R118). POST_RECV entries are not
counted. -/
def State.releaseOp (s : State) (q serial : Nat) : State :=
  let sq := s.sqOf q
  match sq.ops.find? (·.serial == serial) with
  | none => s
  | some o =>
    let s1 := s.setSq q { sq with ops := dropFirst (·.serial == serial) sq.ops }
    if o.sqe.opcode = 0x10 then s1 else (s1.dec Reg.QP_OUT_COUNT q).dec Reg.QP_MODULE_OUT_COUNT

/-- Issues the flushes a completion entry waits for: a RD of LEN 0 on every path in DATA_PATHS that is up
(R76). Answers the (port, tag) pairs awaited. -/
def State.issueFlushes (cq e : Nat) : List Nat → State → State × List (Nat × Nat)
  | [], s => (s, [])
  | p :: rest, s =>
    if s.on Reg.MAC_NEAR_STATUS_PATH_UP p then
      let tag := (s.nearOf p).nextTag
      let s1 := (s.sendNp p .flush (.cqe cq) { op := 2, len := 0, tenant := s.rd Reg.CQ_DESC0_TENANT cq, ctx := s.rd Reg.CQ_DESC0_CONTEXT cq }).inc
        Reg.CQ_FLUSH_COUNT_COUNT cq
      let r := State.issueFlushes cq e rest s1
      (r.1, (p, tag) :: r.2)
    else State.issueFlushes cq e rest s

/-- The near ports of a mask. -/
def portsOf (mask : Nat) : List Nat := (List.range 8).filter (bit mask)

/-- Makes a completion ready for ring `cq` (R121, R122). On a broken ring it is discarded and counts as
written (R488); on a fenced ring nothing is written (R80). In strict mode its flushes go out (R76). -/
def State.pushCqe (s : State) (cq : Nat) (e : Cqe) : State :=
  let release (s : State) := match e.serial with
    | none => s
    | some n => s.releaseOp e.qp n
  if s.on Reg.CQ_DESC0_BROKEN cq then (release s).inc Reg.CQ_POS_WRITTEN cq
  else if (s.cqOf cq).fenced then s
  else
    let r := if s.on Reg.CQ_DESC0_RELAXED cq then (s, []) else State.issueFlushes cq 0 (portsOf e.paths) s
    let c := r.1.cqOf cq
    (r.1.setCq cq { c with waiting := c.waiting ++ [{ e with wait := r.2, flushed := true }] }).wr
      Reg.CQ_PEND_PENDING cq (c.waiting.length + 1)

/-- Ends an operation: its completion entry is made ready, or, on a legacy queue pair, its write-back (R140). -/
def State.finishOp (s : State) (q serial status detail : Nat) : State :=
  let sq := s.sqOf q
  match sq.ops.find? (·.serial == serial) with
  | none => s
  | some o =>
    if o.st = .done then s
    else
      let o' := { o with st := .done, status, detail }
      let s1 := s.setSq q { sq with ops := replaceFirst (·.serial == serial) (fun _ => o') sq.ops }
      let s2 := if status = Code.badEntry then s1.inc Reg.QP_BAD_ENTRY_COUNT else s1
      if s.on Reg.QP_DESC0_LEGACY q then s2
      else
        s2.pushCqe (s.rd Reg.QP_DESC0_CQ q)
          { tag := o.sqe.tag, qp := q, status, opcode := o.sqe.opcode, aux := o.aux, bytes := o.bytes,
            paths := o.paths, detail, serial := some serial }

/-- Is there room in a ring for the next entry (R122)? -/
def State.cqRoom (s : State) (cq : Nat) : Bool :=
  decide ((s.rd Reg.CQ_POS_WRITTEN cq + 2 ^ 32 - s.rd Reg.CQ_POS_HEAD_SEEN cq) % 2 ^ 32 < 2 ^ s.rd Reg.CQ_DESC0_LOG2_SIZE cq)

/-- A full episode begins when the first completion starts to wait for room (R122). -/
def State.cqBeginFull (s : State) (cq : Nat) : State :=
  if s.on Reg.CQ_PEND_FULL cq then s
  else
    let s1 := (s.wr Reg.CQ_PEND_FULL cq 1).inc Reg.CQ_PEND_FULL_EVENTS cq
    (s1.event (s.rd Reg.CQ_DESC0_TENANT cq) Code.cqFull 0 (evObj 1 cq) (s1.free 64)).bump

/-- Shows what waits, and ends a full episode when nothing does (R122). -/
def State.cqShow (s : State) (cq : Nat) : State :=
  let n := (s.cqOf cq).waiting.length
  let s1 := s.wr Reg.CQ_PEND_PENDING cq n
  if n = 0 then s1.wr Reg.CQ_PEND_FULL cq 0 else s1

/-- Writes SQ_HEAD to the index block (R117). -/
def State.writeHead (s : State) (q : Nat) : State :=
  let h := s.rd Reg.QP_HEAD_HEAD q
  (s.setSq q { s.sqOf q with headWritten := h }).emit (.sqHead q h)

/-- The notification write of an armed ring, with the count of entries written; the arm is cleared (R123). -/
def State.cqNotify (s : State) (cq : Nat) : State :=
  let w := s.rd Reg.CQ_POS_WRITTEN cq
  ((s.setCq cq { s.cqOf cq with notified := w }).wr Reg.CQ_DESC0_ARMED cq 0).emit (.notify cq w)

/-- What a completion entry leaves behind once written: the operation is released (R118), and the message
record of a responder completion may be acknowledged (R171). The second part is the transport's. -/
def State.afterCqe (s : State) (e : Cqe) : State :=
  match e.serial with
  | none => s
  | some n => s.releaseOp e.qp n

/-- Writes the oldest ready completion of a ring at its next position, as one 32-byte WR to `pa` (R120, R121),
SQ_HEAD before it where it is behind (R117), and the notification after it where the ring is armed (R123). -/
def State.cqWriteFront (s : State) (cq pa : Nat) : State × Option Cqe :=
  match (s.cqOf cq).waiting with
  | [] => (s, none)
  | e :: rest =>
    if s.on Reg.CQ_DESC0_BROKEN cq || (s.cqOf cq).fenced || e.wait != [] then (s, none)
    else if !s.cqRoom cq then (s.cqBeginFull cq, none)
    else
      let s0 := if (s.sqOf e.qp).headWritten ≠ s.rd Reg.QP_HEAD_HEAD e.qp then s.writeHead e.qp else s
      let pos := s0.rd Reg.CQ_POS_WRITTEN cq
      let slot := s0.rd Reg.CQ_DESC0_ATTACH cq
      let path := (s0.pathFor slot pa).getD 0
      let b := cqeBytes e path (s0.rd Reg.QP_HEAD_HEAD e.qp) (s0.rd Reg.CQ_DESC0_LOG2_SIZE cq) pos
      let s1 := (s0.hostWrite slot (s0.rd Reg.CQ_DESC0_TENANT cq) (s0.rd Reg.CQ_DESC0_CONTEXT cq) pa b (some (.cqe cq))).1
      let s2 := ((s1.setCq cq { s1.cqOf cq with waiting := rest }).wr Reg.CQ_POS_WRITTEN cq (pos + 1)).pmc 10 0x29 (some (s.rd Reg.CQ_DESC0_TENANT cq))
      let s3 := if s2.on Reg.CQ_DESC0_ARMED cq then s2.cqNotify cq else s2
      ((s3.afterCqe e).cqShow cq, some e)

end Sys2Proof.Machine
end

