-- ==== Sys2Proof/Machine/TrafficOps.lean ====
section
/-! DEFINITION. Frames and class queues (R149, R190, R192), the choice of a far port (R169), and the shapers
a packet passes (R197). -/

namespace Sys2Proof.Machine

open Sys2Proof

/-- The extension bytes of an opcode (R151). -/
def extBytes : Nat → Nat
  | 0x01 => 32
  | 0x02 => 32
  | 0x03 => 32
  | 0x04 => 32
  | 0x05 => 16
  | 0x06 => 32
  | 0x07 => 32
  | 0x08 => 32
  | 0x10 => 40
  | 0x11 => 8
  | 0x12 => 8
  | _ => 0

/-- The length of a Hevor frame from the destination address through the FCS (R149). -/
def frameBytes (vlan v4 : Bool) (p : Pkt) : Nat :=
  14 + (if vlan then 4 else 0) + (if v4 then 20 else 40) + 8 + 40 + extBytes p.opc + p.ext.length + p.payload.length + 16 + 4

/-- Frame bytes with preamble and gap: wire bytes (R187). -/
def wireBytes (n : Nat) : Nat := n + 20

/-- Does far port `n` send: it starts a port, is enabled, and its link is up (R209, R211)? -/
def State.portUp (s : State) (n : Nat) : Bool :=
  s.on Reg.MAC_PORT_CFG_ENABLE n && s.rd Reg.MAC_PORT_CFG_WIDTH n != 0 && s.on Reg.MAC_PORT_STATUS_LINK_UP n

/-- Entry `i` of TRN_SPRAY_MAP (R169). -/
def State.sprayEntry (s : State) (i : Nat) : Nat := bits (s.rd Reg.TRN_SPRAY_MAP_PORTS (i / 8)) (8 * (i % 8)) 8

/-- The far port of a packet: entry (E + SRC_QP) mod 64, passing over 0xFF and ports that are down (R169). -/
def State.egressPort (s : State) (e q : Nat) : Option Nat :=
  ((List.range 64).map (fun k => s.sprayEntry ((e + q + k) % 64))).find? fun n => n != 0xFF && s.portUp n

/-- Lanes of a far port by its WIDTH code (R209). -/
def lanesOf : Nat → Nat
  | 1 => 1
  | 2 => 2
  | 3 => 4
  | 4 => 8
  | _ => 0

/-- The frames in the class queue of a class at a far port. -/
def Far.queue (f : Far) (c : Nat) : List Frame := Tbl.get [] c f.classQ
def Far.setQueue (f : Far) (c : Nat) (l : List Frame) : Far := { f with classQ := Tbl.set [] c l f.classQ }

/-- The bytes in a class queue. -/
def queueBytes (l : List Frame) : Nat := l.foldl (fun a f => a + f.bytes) 0

/-- The free class-queue space of a far port, in bytes: 128 KiB per lane, shared (R192). -/
def State.egressFree (s : State) (n : Nat) : Nat :=
  131072 * lanesOf (s.rd Reg.MAC_PORT_CFG_WIDTH n) - (((s.farOf n).classQ).foldl (fun a c => a + queueBytes c.2) 0)

/-- Is the class queue of a far port on (R191, R192)? -/
def State.classOn (s : State) (n : Nat) : Bool := decide (9216 ≤ s.egressFree n)

/-- Puts a frame into its class queue; a frame that may carry a mark is marked CE when the queue already
holds more than ECN_KIB (R190). -/
def State.enqueue (s : State) (n : Nat) (f : Frame) : State :=
  let p := s.farOf n
  let mark := f.ect && !f.ce && decide (1024 * s.rd Reg.TRN_TC_SCHED_ECN_KIB f.tc < queueBytes (p.queue f.tc))
  let f' := if mark then { f with ce := true } else f
  let s1 := s.setFar n (p.setQueue f.tc (p.queue f.tc ++ [f']))
  if mark then s1.inc Reg.TRN_ECN_MARKED_COUNT else s1

/-- Is an opcode that of a sequenced packet (R151)? -/
def sequenced (o : Nat) : Bool := (1 ≤ o && o ≤ 4) || o == 6 || o == 7 || o == 8 || (0x18 ≤ o && o ≤ 0x1B)

/-- Counts a packet sent of queue pair `q` (R204, R449). -/
def State.countTx (s : State) (q : Nat) (p : Pkt) : State :=
  let t := some (s.rd Reg.QP_DESC0_TENANT q)
  let s1 := s.inc Reg.TRN_TX_PKTS_COUNT
  let s2 := if sequenced p.opc then s1.pmc 10 0x20 t else s1
  (s2.pmc 10 0x26 t p.payload.length).pmc 12 0x43 t p.payload.length

/-- Hands a Hevor packet of queue pair `q` to the class queue of a far port (R204). -/
def State.handOver (s : State) (n q : Nat) (p : Pkt) : State :=
  let c := s.connOf q
  let v4 := s.rd Reg.TRN_IP_VALID_IS_V4 / 2 ^ c.srcIp % 2 == 1
  (s.enqueue n { bytes := frameBytes c.vlan.isSome v4 p, tc := p.tc, pkt := some p, ect := true,
                 dstModule := p.dstMod, ttl := s.rd Reg.TRN_CTRL_HOP_LIMIT }).countTx q p

/-! Shapers (R197). -/

/-- A token count of a 64-bit field, signed, in 1/1,024 byte. -/
def tokens (v : Nat) : Int := sext 64 v

/-- The queue-pair shapers that apply to `q`, by instance. -/
def State.qpShapers (s : State) (q : Nat) : List Nat :=
  (s.traffic.qbind.filter fun e => bit e.2 14 && bits e.2 0 14 == q && bit (s.rd Reg.TRN_QSHP_ACT_CFG e.1) 48).map (·.1)

/-- The tenant shapers that apply to a tenant and class, by instance. -/
def State.tenShapers (s : State) (t c : Nat) : List Nat :=
  (s.traffic.tbind.filter fun e => bit e.2 10 && bits e.2 0 10 == t && bit e.2 (16 + c) && bit (s.rd Reg.TRN_TSHP_ACT_CFG e.1) 48).map (·.1)

/-- Is the token count of every shaper that applies above 0 (R197)? -/
def State.shapersPass (s : State) (q t c : Nat) : Bool :=
  (s.qpShapers q).all (fun i => decide (0 < tokens (s.rd Reg.TRN_QSHP_TOKENS_TOKENS i))) &&
    (s.tenShapers t c).all (fun i => decide (0 < tokens (s.rd Reg.TRN_TSHP_TOKENS_TOKENS i)))

/-- Takes a packet's wire bytes from a field of tokens. -/
def State.chargeOne (s : State) (f : Fld) (i bytes : Nat) : State :=
  s.wr f i (wrap 64 (tokens (s.rd f i) - (1024 * bytes : Nat)))

/-- Takes a packet's wire bytes from every shaper that applies (R197). -/
def State.charge (s : State) (q t c bytes : Nat) : State :=
  let s1 := (s.qpShapers q).foldl (fun s i => s.chargeOne Reg.TRN_QSHP_TOKENS_TOKENS i bytes) s
  (s.tenShapers t c).foldl (fun s i => s.chargeOne Reg.TRN_TSHP_TOKENS_TOKENS i bytes) s1

end Sys2Proof.Machine
end

