-- ==== Sys2Proof/Machine/CipherOps.lean ====
section
/-! DEFINITION. Sealing and opening with the cipher contexts: keys, nonce counters and their limits (R352 to
R356, R362, R364). -/

namespace Sys2Proof.Machine

open Sys2Proof

/-- The valid bit of the key slot of a phase. -/
def slotValid (p : Nat) : Fld := if p = 0 then Reg.CIP_CTX0_SLOT0_VALID else Reg.CIP_CTX0_SLOT1_VALID
/-- The used bit of the key slot of a phase. -/
def slotUsed (p : Nat) : Fld := if p = 0 then Reg.CIP_CTX0_SLOT0_USED else Reg.CIP_CTX0_SLOT1_USED
/-- The KEY_ID of the key slot of a phase. -/
def slotKeyId (p : Nat) : Fld := if p = 0 then Reg.CIP_CTX0_KEY_ID0 else Reg.CIP_CTX0_KEY_ID1

/-- The count of the active key: the counter minus its start value p x 2^63 (R356). -/
def State.keyCount (s : State) (c : Nat) : Nat :=
  s.rd Reg.CIP_CTX_CTR_COUNTER c - s.rd Reg.CIP_CTX0_TX_PHASE c * 2 ^ 63

/-- The admin slot of the owner of a cipher context. -/
def State.cipOwner (s : State) (c : Nat) : Nat := if c = 1024 then provider else s.rd Reg.CIP_CTX0_TENANT c

/-- ARG1 of the events of R356: slice context and phase. -/
def State.cipArg (s : State) (c : Nat) : Nat :=
  Tbl.get 0 c s.cip.sliceNo + 2 ^ 16 * s.rd Reg.CIP_CTX0_TX_PHASE c

/-- Takes the next counter value of a context: counts the packet, and raises REKEY_REQUIRED at 2^47 and
NONCE_EXHAUSTED at 2^48 (R354, R356). -/
def State.takeNonce (s : State) (c : Nat) : State :=
  let s1 := (((s.inc Reg.CIP_CTX_CTR_COUNTER c).count Reg.CIP_CTX_SEALED_COUNT c).count Reg.CIP_SEALED_COUNT).pmc 12 0x40 (some (s.cipOwner c))
  let k := s1.keyCount c
  if k = 2 ^ 47 then
    (s1.wr Reg.CIP_CTX0_REKEY_REQ c 1).event (s.cipOwner c) Code.rekeyRequired 0 (evObj 5 (s.cipOwner c)) (s1.cipArg c)
  else if k = 2 ^ 48 then
    (s1.wr Reg.CIP_CTX0_EXHAUSTED c 1).event (s.cipOwner c) Code.nonceExhausted 0 (evObj 5 (s.cipOwner c)) (s1.cipArg c)
  else s1

/-- What a request to seal answers: the nonce counter used, nothing sealed, or an exhausted context. -/
inductive Seal where
  | ok (nonce : Nat)
  | off
  | exhausted
  deriving DecidableEq, Repr

/-- Seals a packet under a context (R354, R356). `last` marks a FATAL NAK with NONCE_EXHAUSTED, which the
reserve of 65,536 values may carry. -/
def State.sealCtx (s : State) (c : Nat) (last : Bool) : State × Seal :=
  if !s.on Reg.CIP_CTRL_ENABLE || !s.on (slotValid (s.rd Reg.CIP_CTX0_TX_PHASE c)) c then (s, .off)
  else
    let k := s.keyCount c
    if k < 2 ^ 48 ∨ (last ∧ k < 2 ^ 48 + 65536) then (s.takeNonce c, .ok (s.rd Reg.CIP_CTX_CTR_COUNTER c))
    else if k < 2 ^ 48 + 65536 then (s, .exhausted)
    else (s.count Reg.CIP_SEAL_REFUSED_COUNT, .exhausted)

/-- The module context bound to a queue pair (R353). -/
def State.qpCtx (s : State) (q : Nat) : Option Nat :=
  if s.on Reg.CIP_QP_CTX_VALID q then some (s.rd Reg.CIP_QP_CTX_CONTEXT q) else none

/-- The key slot a received packet is opened with: the phase is bit 63 of NONCE_CTR (R355). -/
def rxPhase (nonce : Nat) : Nat := nonce / 2 ^ 63 % 2

/-- What opening a packet gives: opened, failed authentication, or lost to the tandem check (R355, R362,
R364). -/
inductive Opened where
  | ok
  | authFail
  | lost
  | off
  deriving DecidableEq, Repr

/-- Opens a received packet under a context (R355): counts it, logs an authentication failure (R364), and
runs the tandem check again on another core where the pipelines disagree (R362). -/
def State.openCtx (s : State) (c : Nat) (p : Pkt) (r : Rx) : State × Opened :=
  if !s.on Reg.CIP_CTRL_ENABLE then (s, .off)
  else if s.on Reg.CIP_CTRL_TANDEM_EN ∧ !r.tandemOk ∧ !r.rerunOk then ((s.count Reg.CIP_TANDEM_FAIL_COUNT).pmc 12 0x44 (some (s.cipOwner c)), .lost)
  else
    let s0 := if s.on Reg.CIP_CTRL_TANDEM_EN ∧ !r.tandemOk then
        ((s.count Reg.CIP_TANDEM_RETRY_OK_COUNT).count Reg.CIP_CORE_STAT_TANDEM_MISMATCH r.core).pmc 12 0x44 (some (s.cipOwner c))
      else s
    if r.authOk ∧ s.on (slotValid (rxPhase p.nonce)) c then
      ((((s0.count Reg.CIP_CTX_OPENED_COUNT c).count Reg.CIP_OPENED_COUNT).pmc 12 0x41 (some (s.cipOwner c))).pmc 12 0x43 (some (s.cipOwner c)) p.payload.length, .ok)
    else
      let s1 := ((s0.count Reg.CIP_CTX_AUTH_FAIL_COUNT c).count Reg.CIP_AUTH_FAIL_COUNT).pmc 12 0x42 (some (s.cipOwner c))
      if s1.on Reg.CIP_AUTH_LOG0_VALID then (s1, .authFail)
      else
        (((((s1.wr Reg.CIP_AUTH_LOG0_SRC_MODULE 0 p.srcMod).wr Reg.CIP_AUTH_LOG0_DST_QP 0 p.dstQp).wr
          Reg.CIP_AUTH_LOG0_CONTEXT 0 c).wr Reg.CIP_AUTH_LOG1_NONCE_CTR 0 p.nonce).wr Reg.CIP_AUTH_LOG0_VALID 0 1, .authFail)

end Sys2Proof.Machine
end

