-- ==== Sys2Proof/Machine/PelOps.lean ====
section
/-! DEFINITION. Pelotons: their links, the control messages STALL and LEAVE, and the end of an operation (R295
to R301, R315 to R318, R322). -/

namespace Sys2Proof.Machine

open Sys2Proof

/-- CRC-32C over bytes, reflected, as in IETF RFC 3720 (R302, R310). -/
def crc32cStep : Nat → Nat → Nat
  | 0, c => c
  | n + 1, c => crc32cStep n (if c % 2 = 1 then (c / 2) ^^^ 0x82F63B78 else c / 2)

def crc32c (bs : List Byte) : Nat :=
  (bs.foldl (fun c b => crc32cStep 8 (c ^^^ b.toNat)) 0xFFFFFFFF) ^^^ 0xFFFFFFFF

/-- The peloton and slot whose link a queue pair is (R299). -/
def State.linkPel (s : State) (q : Nat) : Option (Nat × Nat) :=
  findFirst (fun e => if e.2.st ≠ .free ∧ e.2.baseQp ≤ q ∧ q < e.2.baseQp + e.2.slots then some (e.1, q - e.2.baseQp) else none) s.pels

/-- The live list of a member list of `n` with the excluded removed (R297). -/
def liveOf (n : Nat) (excluded : List Nat) : List Nat := (List.range n).filter (fun m => !excluded.contains m)

/-- This member's live rank. -/
def Pel.rank (p : Pel) : Nat := (p.live.idxOf? p.me).getD 0

/-- The member at a live rank. -/
def Pel.atRank (p : Pel) (r : Nat) : Option Nat := p.live[r]?

/-- The whole square root of `n`, its bits from bit `k` - 1 down added to `r`. -/
def rootOf : Nat → Nat → Nat → Nat
  | 0, r, _ => r
  | k + 1, r, n => rootOf k (if (r + 2 ^ k) * (r + 2 ^ k) ≤ n then r + 2 ^ k else r) n

/-- floor of the square root, rounded up (R301). -/
def ceilSqrt (n : Nat) : Nat :=
  let r := rootOf (n.log2 / 2 + 1) 0 n
  if r * r = n then r else r + 1

/-- The other ranks of rank `k`'s grid row, then of its column (R301 ALLTOALL). -/
def gridRanks (n k : Nat) : List Nat :=
  let c := ceilSqrt n
  ((List.range n).filter (fun r => r / c == k / c && r != k)) ++ ((List.range n).filter (fun r => r % c == k % c && r != k))

/-- The live rank that slot `sl` of rank `k` of `n` names under a schedule (R301). -/
def slotRank (sched n k sl : Nat) : Option Nat :=
  let lg := Nat.log2 n
  let ok (r : Nat) : Option Nat := if r < n ∧ r ≠ k then some r else none
  if sl = 0 then ok ((k + n - 1) % n)
  else if sl = 1 then ok ((k + 1) % n)
  else match sched with
    | 1 => if sl = 2 then (if k = 0 then none else ok ((k - 1) / 2)) else if sl = 3 then ok (2 * k + 1) else if sl = 4 then ok (2 * k + 2) else none
    | 2 =>
      let p := 2 ^ lg
      if sl - 2 < lg then (if k < p then ok (k ^^^ 2 ^ (sl - 2)) else none)
      else if sl - 2 = lg then (if p ≤ k then ok (k - p) else ok (k + p)) else none
    | 3 => (gridRanks n k)[sl - 2]?
    | _ => none

/-- The slot by which the peer of slot `sl` names this rank (R301). -/
def pairSlot (sched n k sl peer : Nat) : Nat :=
  if sl = 0 then 1
  else if sl = 1 then 0
  else match sched with
    | 1 => if sl = 2 then (if k = 2 * peer + 1 then 3 else 4) else 2
    | 3 => 2 + ((gridRanks n peer).idxOf? k).getD 0
    | _ => sl

/-- How many slots the schedule needs for `n` members (R301). -/
def schedSlots (sched n : Nat) : Nat :=
  match sched with
  | 0 => 2
  | 1 => 5
  | 2 => 3 + Nat.log2 n
  | _ => 2 + (ceilSqrt n - 1) + (ceilDiv n (ceilSqrt n) - 1)

/-- Adds a timing-dependent choice (R53). -/
def State.addChoice (s : State) (p : Nat) : State :=
  (s.count Reg.CAD_TDC_VAL_COUNT p).count Reg.CAD_TDC_MODULE_COUNT

/-- Puts a message of the module's own on a link queue pair: a chunk, STALL or LEAVE (R310, R315). `raw` is the
extension of its first packet. -/
def State.postLink (s : State) (q opc : Nat) (ext payload : List Byte) : State :=
  let sq := s.sqOf q
  s.setSq q { sq with
    serial := sq.serial + 1,
    ops := sq.ops ++ [{ serial := sq.serial, sqe := { opcode := opc, len := payload.length, inl := some payload, raw := ext } }] }

/-- The 40-byte extension of a STALL or LEAVE (R315). -/
def ctlExt (group : Nat) (c : Ctl) : List Byte :=
  leBytes 4 group ++ leBytes 4 c.epoch ++ leBytes 3 c.round ++ leBytes 1 c.kind ++ leBytes 2 c.origin ++
    leBytes 1 c.action ++ leBytes 1 c.extNum ++ leBytes 1 c.reason ++ leBytes 1 0 ++ leBytes 2 c.w.length ++
    leBytes 4 0 ++ leBytes 8 c.count ++ leBytes 8 0

/-- Reads the extension and payload of a STALL or LEAVE. -/
def ctlOf (e payload : List Byte) : Ctl :=
  { epoch := leAt e 4 4, round := leAt e 8 3, kind := leAt e 11 1, origin := leAt e 12 2, action := leAt e 14 1,
    extNum := leAt e 15 1, reason := leAt e 16 1, count := leAt e 24 8,
    w := (List.range (leAt e 18 2)).map (fun i => leAt payload (2 * i) 2) }

/-- Are two messages the same one (R315: GROUP_ID, EPOCH, ORIGIN, KIND, ROUND, EXT_NUM)? -/
def Ctl.same (a b : Ctl) : Bool :=
  a.epoch == b.epoch && a.origin == b.origin && a.kind == b.kind && a.round == b.round && a.extNum == b.extNum

/-- Sends a control message on every connected link but the one it came on (R315). -/
def State.flood (s : State) (p : Nat) (c : Ctl) (except : Option Nat) : State :=
  let pl := s.pelOf p
  (List.range pl.slots).foldl (fun s sl =>
    if some sl ≠ except ∧ s.rd Reg.TRN_QP_T0_STATE (pl.baseQp + sl) = 1 then
      s.postLink (pl.baseQp + sl) (if c.kind = 3 then 0x1B else 0x1A) (ctlExt pl.group c)
        (c.w.flatMap (fun m => leBytes 2 m))
    else s) s

/-- GROUP_STALL once for each epoch and round (R315). -/
def State.groupStall (s : State) (p epoch round : Nat) : State :=
  let pl := s.pelOf p
  if pl.stallSeen.contains (epoch, round) then s
  else (s.setPel p { pl with stallSeen := pl.stallSeen ++ [(epoch, round)] }).event pl.tenant Code.groupStall 0 (evObj 2 p) round

/-- Fixes T_R by the first REFORM, RESTART or LEAVE of the epoch (R318, R323). -/
def State.fixTr (s : State) (p t : Nat) : State :=
  let pl := s.pelOf p
  if pl.tR.isSome then s
  else
    let st := match pl.st with
      | .ready => PelSt.reforming
      | .armed => .reforming
      | .running => .reforming
      | .stalled => .reforming
      | x => x
    s.setPel p { pl with tR := some t, st }

/-- The sum of the extensions of round `r` (R308, R318). -/
def PelOp.shiftOf (o : PelOp) (r : Nat) : Nat := (o.shift.filter (fun x => decide (x.1 ≤ r))).foldl (fun a x => a + x.2) 0

/-- The count of the deadline of round `r` (R308). -/
def PelOp.due (o : PelOp) (r : Nat) : Nat := o.base + (r + 1) * o.stepCt + o.shiftOf r

/-- Applies an EXTEND once per EXT_NUM (R318): the shift for its round and every later one, armed deadlines with
them, and a choice. -/
def State.applyExtend (s : State) (p : Nat) (c : Ctl) : State :=
  let pl := s.pelOf p
  match pl.op with
  | none => s
  | some o =>
    if pl.tR.isSome ∨ o.extNums.contains c.extNum then s
    else
      let o' := { o with ext := o.ext + 1, extensions := o.extensions + 1, extNums := o.extNums ++ [c.extNum],
                         shift := o.shift ++ [(c.round, pl.extendCt)] }
      let moved := s.armed.map (fun e => match e.kind with
        | .deadline p' r => if p' = p ∧ c.round ≤ r then { e with at_ := e.at_ + pl.extendCt } else e
        | _ => e)
      let again := if o.launchAt = 0 ∨ (s.armedAt (.deadline p c.round)).isSome then moved
        else moved ++ [{ kind := .deadline p c.round, at_ := o'.due c.round }]
      (State.setPel { s with armed := again } p { pl with op := some o', st := if pl.st = .stalled then .running else pl.st }).addChoice p

/-- Applies a control message of the current epoch (R318). -/
def State.applyCtl (s : State) (p : Nat) (c : Ctl) : State :=
  let pl := s.pelOf p
  let s1 := s.setPel p { pl with ctls := pl.ctls ++ [c] }
  if c.kind = 2 ∨ c.kind = 3 ∨ c.action = 2 then s1.fixTr p c.count
  else if c.action = 1 then
    s1.applyExtend p c
  else s1

/-- Originates a control message: it is seen, reported, flooded and applied (R315 to R318). -/
def State.originate (s : State) (p : Nat) (c : Ctl) : State :=
  let pl := s.pelOf p
  let s1 := (s.setPel p { pl with seen := pl.seen ++ [c] }).flood p c none
  let s2 := if c.kind = 3 then s1 else s1.groupStall p c.epoch c.round
  let s3 := if c.kind ≤ 1 ∧ (s2.pelOf p).st = .running then s2.setPel p { s2.pelOf p with st := .stalled } else s2
  s3.applyCtl p c

/-- A STALL of KIND WAITING or LATE (R316): EXTEND while extensions are left, else REFORM; `due` is the missed
deadline. Nothing is sent once T_R is fixed (R318). -/
def State.stall (s : State) (p kind round due : Nat) (w : List Nat) : State :=
  let pl := s.pelOf p
  if pl.tR.isSome ∨ pl.st = .free ∨ pl.st = .reserved ∨ pl.st = .excluded ∨ pl.st = .error then s
  else
    let e := match pl.op with
      | some o => o.ext
      | none => pl.extendMax
    let c : Ctl := { epoch := pl.epoch, round, kind, origin := pl.me, w }
    if e < pl.extendMax then s.originate p { c with action := 1, extNum := e, count := due + pl.extendCt }
    else s.originate p { c with action := 2, extNum := e, count := due + pl.lead }

/-- A RESTART (R316): W empty, T_R REFORM_LEAD_CT after the sending. -/
def State.restartPel (s : State) (p : Nat) : State :=
  let pl := s.pelOf p
  if pl.tR.isSome ∨ pl.st = .free ∨ pl.st = .reserved ∨ pl.st = .excluded ∨ pl.st = .error then s
  else s.originate p { epoch := pl.epoch, round := 0, kind := 2, origin := pl.me, count := s.now + pl.lead }

/-- The bytes of a report record (R322). -/
def reportBytes (tdc : Nat) (pl : Pel) (o : PelOp) (excl : List Nat) : List Byte :=
  leBytes 8 tdc ++ leBytes 4 o.epochStart ++ leBytes 4 pl.epoch ++ leBytes 4 o.extensions ++ leBytes 4 o.reforms ++
    leBytes 4 o.firstFinal ++ leBytes 4 pl.live.length ++ leBytes 4 o.capDrops ++ leBytes 4 o.dropsListed ++
    leBytes 4 o.signal ++ leBytes 4 o.crcFails ++ leBytes 4 (excl.take 2016).length ++ leBytes 12 0 ++
    (excl.take 2016).flatMap (fun m => leBytes 2 m)

/-- Changes an accepted operation of a queue pair. -/
def State.updOp (s : State) (q serial : Nat) (f : Op → Op) : State :=
  let sq := s.sqOf q
  s.setSq q { sq with ops := replaceFirst (·.serial == serial) f sq.ops }

/-- The peloton takes its next waiting operation, or rests in READY (R323). -/
def State.pelNext (s : State) (p : Nat) : State :=
  let pl := s.pelOf p
  match pl.waitOps with
  | [] => s.setPel p { pl with op := none, st := if pl.st = .reforming then .reforming else .ready, bankIds := [] }
  | o :: rest => s.setPel p { pl with op := some o, waitOps := rest, st := if pl.st = .reforming then .reforming else .armed, bankIds := [] }

/-- Takes the operations of a queue pair that have not started out of their pelotons (R119, R129, R160). -/
def State.dropPelOps (s : State) (q : Nat) : State :=
  s.pels.foldl (fun s e =>
    let p := e.1
    let pl := s.pelOf p
    let s1 := (pl.waitOps.filter (fun o => o.qp == q)).foldl (fun s o => s.disarm (.launch p o.serial)) s
    let s2 := s1.setPel p { pl with waitOps := pl.waitOps.filter (fun o => o.qp != q) }
    match pl.op with
    | some o => if o.qp = q ∧ !o.started then (s2.disarm (.launch p o.serial)).pelNext p else s2
    | none => s2) s

/-- Completes an operation of a peloton: the report, then the completion entry with the counter of R53 in AUX
(R322). -/
def State.pelOpDone (s : State) (p : Nat) (o : PelOp) (status detail bytes : Nat) : State :=
  let tdc := s.rd Reg.CAD_TDC_VAL_COUNT p
  let s1 := if o.report = 0 then s else s.emit (.report p o.report (reportBytes tdc (s.pelOf p) o o.excl))
  (s1.updOp o.qp o.serial (fun x => { x with aux := tdc, bytes })).finishOp o.qp o.serial status detail

/-- The program of a peloton stops: its threads halt, its deadlines go, its banks become free (R303). A trapped thread
stays trapped. -/
def State.endProgram (s : State) (p : Nat) : State :=
  let pl := s.pelOf p
  let c := pl.cluster
  let s1 := { s with armed := s.armed.filter (fun e => match e.kind with
    | .deadline x _ => x != p
    | _ => true) }
  let s2 := ([0, 1, 2, 3].filter (bit pl.cores)).foldl (fun s k =>
    let i := ix c (2 * k + 1)
    let t := ((s.disarm (.cwait c (2 * k + 1))).setThr c (2 * k + 1) { s.thrOf c (2 * k + 1) with wait := .none }).wr Reg.CLU_THR_CTRL_RUN i 0
    if t.rd Reg.CLU_THR_STATUS_STATE i = 5 then t else t.wr Reg.CLU_THR_STATUS_STATE i 0) s1
  let s3 := pl.bankIds.foldl (fun s b => (s.wr Reg.CLU_BANK_OWN_OWNER (ix c b) 0).wr Reg.CLU_BANK_OWN_SHARE_RD (ix c b) 0) s2
  s3.setPel p { s3.pelOf p with bankIds := [], chunks := [], sendPos := 0 }

/-- Ends the operation of a peloton and every one that waits, when the peloton leaves the group (R317, R319,
R323). -/
def State.pelEnd (s : State) (p : Nat) (st : PelSt) (status detail : Nat) : State :=
  let pl := s.pelOf p
  let s0 := match pl.op with
    | some o => if o.started then s.endProgram p else s.disarm (.launch p o.serial)
    | none => s
  let s1 := (pl.waitOps.foldl (fun (s : State) o => s.disarm (.launch p o.serial)) s0).setPel p
    { s0.pelOf p with st, op := none, waitOps := [], tR := none }
  let s2 := match pl.op with
    | some o => s1.pelOpDone p o status detail 0
    | none => s1
  let rest := if st = .error then (Code.stepTimeout, 0) else (Code.memberFenced, 2)
  pl.waitOps.foldl (fun s o => s.pelOpDone p o rest.1 rest.2 0) s2

/-- A member leaves and floods LEAVE with its reason (R317). -/
def State.pelLeave (s : State) (p reason : Nat) : State :=
  let pl := s.pelOf p
  if pl.st = .free ∨ pl.st = .reserved ∨ pl.st = .excluded ∨ pl.st = .error then s
  else
    let c : Ctl := { epoch := pl.epoch, round := 0, kind := 3, origin := pl.me, reason, count := s.now + pl.lead }
    ((s.setPel p { pl with seen := pl.seen ++ [c] }).flood p c none).pelEnd p .excluded reason 0

/-- A link queue pair of a peloton enters ERROR (R316): WAITING for its peer. Where the cause is a FATAL NAK with
CHUNK_CRC_ERROR the member that received it restarts, and leaves at the third such failure (R311); the member that sent it
does neither (log entry 34). -/
def State.linkError (s : State) (q code : Nat) (fromPeer : Bool) : State :=
  match s.linkPel q with
  | none => s
  | some (p, sl) =>
    let pl := s.pelOf p
    if code = Code.chunkCrcError then
      if !fromPeer then s else
      match pl.op with
      | some o =>
        let s1 := s.setPel p { pl with op := some { o with crcSent := o.crcSent + 1 } }
        if 3 ≤ o.crcSent + 1 then s1.pelLeave p Code.chunkCrcError else s1.restartPel p
      | none => s.restartPel p
    else
      match (slotRank pl.sched pl.live.length pl.rank sl).bind pl.atRank with
      | none => s
      | some m => s.stall p 0 0 s.now [m]

end Sys2Proof.Machine
end

