-- ==== Sys2Proof/Machine/TransportOps.lean ====
section
/-! DEFINITION. The transport engine's shared operations: headers and control packets (R150 to R156), the error
state (R160), receipt (R164, R165), acknowledgement (R166), regions (R180), placement and completion (R170 to
R178), sending (R161, R162, R169, R187), and what an ACK or NAK does (R167, R168, R182, R183). -/

namespace Sys2Proof.Machine

open Sys2Proof

/-! Work items (R252, R253). -/

/-- The cluster that the active steering entry of a queue pair names, where it serves (R252). -/
def State.steer (s : State) (q : Nat) : Option Nat :=
  let c := s.rd Reg.CLU_STEER_ENT_CLUSTER_ACT q
  if s.on Reg.CLU_STEER_ENT_VALID_ACT q && (s.rd Reg.CLU_STATUS_STATE c == 1 || s.rd Reg.CLU_STATUS_STATE c == 2) && decide (c < 10) then some c
  else none

/-- Shows the work queue and the hub of a cluster (R260): at most 4,096 items stand in the queue, the transport
engine holds the rest (R253). -/
def State.showClu (s : State) (c : Nat) : State :=
  (s.wr Reg.CLU_STATUS_WORK_OCC c (min 4096 (s.cluOf c).work.length)).wr Reg.CLU_STATUS_HUB_USED c (s.cluOf c).hubUsed.length

/-- The lowest run of `n` free hub slots. -/
def hubFind (used : List Nat) (n : Nat) : Option Nat :=
  (List.range 257).find? fun b => decide (b + n ≤ 256) && (List.range n).all (fun k => !used.contains (b + k))

/-- The hub slots of a run. -/
def hubRun (b n : Nat) : List Nat := (List.range n).map (b + ·)

/-- Gives an item its hub slots where they are free (R253). -/
def State.giveHub (s : State) (c : Nat) (w : Work) : State × Work :=
  match w.hub with
  | some _ => (s, w)
  | none =>
    match hubFind (s.cluOf c).hubUsed w.slots with
    | none => (s, w)
    | some b => (s.setClu c { s.cluOf c with hubUsed := (s.cluOf c).hubUsed ++ hubRun b w.slots }, { w with hub := some b })

/-- Releases the hub slots of an item (R253). -/
def State.freeHub (s : State) (c : Nat) (w : Work) : State :=
  match w.hub with
  | none => s
  | some b =>
    (s.setClu c { s.cluOf c with hubUsed := (s.cluOf c).hubUsed.filter (fun k => !(hubRun b w.slots).contains k) }).showClu c

/-- Posts a work item to a cluster (R253). -/
def State.postWork (s : State) (c : Nat) (w : Work) : State :=
  let t := s.giveHub c w
  (t.1.setClu c { t.1.cluOf c with work := (t.1.cluOf c).work ++ [t.2] }).showClu c

/-- The number under which the work of queue pairs that no cluster serves is held (R252). -/
def noCluster : Nat := 31

/-- Holds an item that no cluster serves (R252). -/
def State.holdWork (s : State) (w : Work) : State :=
  (s.setClu noCluster { s.cluOf noCluster with work := (s.cluOf noCluster).work ++ [w] }).count Reg.CLU_STEER_HOLD_COUNT

/-- Posts the work item of a gather (0), a placement (1) or the serving of a READ range (2) (R252, R253). -/
def State.postItem (s : State) (kind q serial ctx addr len xform xarg : Nat) : State :=
  let w : Work := { kind, qp := q, serial, tenant := s.qpTenant q, ctx, addr, len, xform, xarg, slots := min 256 (ceilDiv len 4096) }
  match s.steer q with
  | some c => s.postWork c w
  | none => s.holdWork w

/-- Posts the held items whose queue pairs a cluster serves again (R252). -/
def State.postHeld (s : State) : State :=
  let l := (s.cluOf noCluster).work
  let s1 := s.setClu noCluster { s.cluOf noCluster with work := l.filter (fun w => (s.steer w.qp).isNone) }
  l.foldl (fun s w => match s.steer w.qp with
    | some c => s.postWork c w
    | none => s) s1

/-- Has everything of a gather or a READ range been sent (R253)? -/
def State.sentOut (s : State) (w : Work) : Bool :=
  if w.kind = 2 then !(s.connOf w.qp).respQ.any (fun p => p.psn == w.serial)
  else match (s.sqOf w.qp).ops.find? (·.serial == w.serial) with
    | none => true
    | some o => o.st == .done || (o.st == .started && decide (o.npk ≤ o.cut))

/-- Releases the hub slots of the items that are done and sent. -/
def State.releaseSent (s : State) (c : Nat) : State :=
  let out := (s.cluOf c).done.filter s.sentOut
  out.foldl (fun s w => s.freeHub c w) (s.setClu c { s.cluOf c with done := (s.cluOf c).done.filter (fun w => !s.sentOut w) })

/-- The same for every cluster. -/
def State.releaseAll (s : State) : State := (List.range 10).foldl State.releaseSent s

/-! Sequence numbers and the state of a connection. -/

/-- The difference of two PSNs modulo 2^32 (R161). -/
def d32 (a b : Nat) : Nat := (a + (2 ^ 32 - b % 2 ^ 32)) % 2 ^ 32

namespace Cst
def reset : Nat := 0
def connected : Nat := 1
def suspended : Nat := 2
def error : Nat := 3
def fenced : Nat := 4
end Cst

/-- The connection state (R159). -/
def State.cst (s : State) (q : Nat) : Nat := s.rd Reg.TRN_QP_T0_STATE q

/-- The payload bytes of a packet of a queue pair (R158). -/
def State.mtu (s : State) (q : Nat) : Nat := 1024 * 2 ^ s.rd Reg.TRN_QP_T0_MTU q

/-- The number of entropy values; a legacy queue pair uses E = 0 alone (R145, R158). -/
def State.numPaths (s : State) (q : Nat) : Nat :=
  if s.on Reg.QP_DESC0_LEGACY q then 1 else max 1 (s.rd Reg.TRN_QP_T0_NUM_PATHS q)

/-- The packet lifetime in ns (R163, R185). -/
def State.maxLife (s : State) : Nat := 1000000 * min 250 (max 1 (s.rd Reg.TRN_TIMERS1_MAX_PKT_LIFE_MS))

/-- The payload of a full packet (R161): the MTU, or for REDUCE_WRITE the largest multiple of the element. -/
def State.fullPkt (s : State) (q opc fmt : Nat) : Nat :=
  if opc = 8 ∧ 0 < reduceSize fmt then s.mtu q / reduceSize fmt * reduceSize fmt else s.mtu q

/-- The base header of a packet of a queue pair (R150). -/
def State.hdr (s : State) (q opc psn msn : Nat) : Pkt :=
  { opc, tc := s.rd Reg.QP_DESC0_TC q, epoch := s.rd Reg.TRN_QP_T0_EPOCH q, srcMod := s.rd Reg.TRN_MODULE_ID,
    dstMod := s.rd Reg.TRN_QP_T0_PEER_MODULE q, srcQp := q, dstQp := s.rd Reg.TRN_QP_T0_PEER_QP q, psn, msn,
    txTime := s.now }

/-- Seals with the context of a queue pair (R353, R354). -/
def State.sealQp (s : State) (q : Nat) (last : Bool) : State × Seal :=
  match s.qpCtx q with
  | none => (s, .off)
  | some c => s.sealCtx c last

/-- Sends a control packet on an entropy value that the spec leaves open (log entry 20). Answers whether the
cipher context refused. -/
def State.sendCtl (s : State) (q : Nat) (p : Pkt) (last : Bool := false) : State × Bool :=
  let n := s.numPaths q
  let e := if n = 1 then 0 else s.free 6 % n
  let s0 := if n = 1 then s else s.bump
  match s0.egressPort e q with
  | none => (s0, false)
  | some port =>
    match s0.sealQp q last with
    | (s1, .ok nonce) => (s1.handOver port q { p with entropy := e, nonce }, false)
    | (s1, .off) => (s1, false)
    | (s1, .exhausted) => (s1, true)

/-- Sends a NAK (R156, R182). -/
def State.sendNak (s : State) (q psn msn kind syndrome reason detail backoff : Nat) : State × Bool :=
  let p := { s.hdr q 0x11 psn msn with nakKind := kind, syndrome, reason, detail, backoff }
  let fin := kind == 3 && syndrome == Code.nonceExhausted
  if fin ∧ (s.connOf q).exhNak then (s, false)
  else
    let s1 := if fin then s.setConn q { s.connOf q with exhNak := true } else s
    ((s1.inc Reg.TRN_NAK_TX_COUNT).pmc 10 0x24 (some (s.qpTenant q))).sendCtl q p fin

/-! The error state (R160). -/

/-- Operations whose last packet's acknowledgement completes them (R172): SEND, WRITE, WRITE_IMM, REDUCE_WRITE
and the chunk and control messages of a link. -/
def ackedKind (o : Nat) : Bool := o == 1 || o == 2 || o == 3 || o == 7 || (0x18 ≤ o && o ≤ 0x1B)

/-- Has every packet of an operation been sent and acknowledged? -/
def Conn.allAcked (c : Conn) (o : Op) : Bool :=
  ackedKind o.sqe.opcode && o.st == .started && o.cut == o.npk && !c.sent.any (·.serial == o.serial)

/-- How an operation of a queue pair that enters ERROR ends (R160 steps 2 to 5). -/
def State.endOne (q code detail : Nat) (cause : Option Nat) (s : State) (o : Op) : State :=
  if o.st = .done then s
  else if cause = some o.serial then s.finishOp q o.serial code detail
  else if (s.connOf q).allAcked o then
    (s.updOp q o.serial (fun x => { x with bytes := o.sqe.len })).finishOp q o.serial Code.success 0
  else if o.st = .started then
    (if o.sqe.opcode = 0x10 ∧ !s.on Reg.QP_DESC0_LEGACY q then s.releaseOp q o.serial
     else s.finishOp q o.serial code 0xFE)
  else s.finishOp q o.serial Code.flushed 0

/-- Drops the windows of a connection: nothing is in flight any more. -/
def Conn.dropWindows (c : Conn) : Conn :=
  { c with sent := [], respQ := [], recs := [], held := [], reReqs := [], recvs := [], ackTimer := false, sinceAck := 0 }

/-- The queue pair enters ERROR (R160): one FATAL NAK unless the peer's caused it, then the operations end and
the message records are released. -/
def State.qpError (s : State) (q code detail : Nat) (cause : Option Nat) (fromPeer : Bool := false)
    (psn : Nat := 0) (msn : Nat := 0) : State :=
  if s.cst q = Cst.error ∨ s.cst q = Cst.fenced then s
  else
    let wasUp := s.cst q = Cst.connected ∨ s.cst q = Cst.suspended
    let s1 := (((s.wr Reg.TRN_QP_T0_STATE q Cst.error).wr Reg.TRN_QP_T5_ERR_SYNDROME q code).wr
      Reg.TRN_QP_T5_ERR_DETAIL q detail).setSched q Sched.error
    let s1 := s1.setSq q { s1.sqOf q with phase := .none, bell := false, again := false, held := false }
    let s2 := if wasUp ∧ !fromPeer then (s1.sendNak q psn msn 3 code 0 detail 0).1 else s1
    let ops := (s2.sqOf q).ops
    let first := ops.filter (fun o => cause == some o.serial)
    let acked := ops.filter (fun o => cause != some o.serial && (s2.connOf q).allAcked o)
    let started := ops.filter (fun o => cause != some o.serial && !(s2.connOf q).allAcked o && o.st == .started)
    let rest := ops.filter (fun o => cause != some o.serial && o.st == .queued)
    let s3 := (first ++ acked ++ started ++ rest).foldl (State.endOne q code detail cause) s2
    let n := (s3.connOf q).recs.length
    let s4 := (s3.dec Reg.TRN_RESP_REC_IN_USE 0 n).setConn q (s3.connOf q).dropWindows
    (s4.dropPelOps q).linkError q code fromPeer

/-- The backoff of NO_RECV, BUSY, FROZEN and CQ_FULL (R182). -/
def State.nakBackoff (s : State) : Nat := s.rd Reg.TRN_TIMERS1_NAK_BACKOFF_US

/-- What a control packet leaves: an exhausted context moves the queue pair to ERROR (R182, R356). -/
def ctlSent (q : Nat) (r : State × Bool) : State :=
  if r.2 then r.1.qpError q Code.nonceExhausted 0 none else r.1

/-- A RESEND_AFTER NAK. -/
def State.nakResend (s : State) (q psn msn syndrome reason backoff : Nat) : State :=
  ctlSent q (s.sendNak q psn msn 1 syndrome reason 0 backoff)

/-- A FAIL_OP NAK. -/
def State.nakFail (s : State) (q psn msn detail : Nat) : State :=
  ctlSent q (s.sendNak q psn msn 2 Code.remoteError 0 detail 0)

/-! Acceptance and acknowledgement (R165, R166). -/

def State.rcvBase (s : State) (q : Nat) : Nat := s.rd Reg.TRN_QP_T2_RCV_BASE q
def State.ackBase (s : State) (q : Nat) : Nat := s.rd Reg.TRN_QP_T2_ACK_BASE q

/-- Has a PSN been accepted? -/
def State.accepted (s : State) (q psn : Nat) : Bool :=
  decide (2 ^ 31 ≤ d32 psn (s.rcvBase q)) || (s.connOf q).seen.contains psn

/-- Is a PSN acknowledgeable (R166)? -/
def State.ackable (s : State) (q psn : Nat) : Bool := s.accepted q psn && !(s.connOf q).unackable.contains psn

/-- RCV_BASE past every accepted PSN at the bottom of the window (R165). -/
def advanceBase : Nat → Nat → List Nat → Nat × List Nat
  | 0, b, seen => (b, seen)
  | n + 1, b, seen =>
    if seen.contains b then advanceBase n ((b + 1) % 2 ^ 32) (seen.filter (· ≠ b)) else (b, seen)

/-- ACK_BASE: the oldest PSN from the old one on that is not acknowledgeable. -/
def newAckBase (old rcv : Nat) (unack : List Nat) : Nat :=
  unack.foldl (fun b u => if d32 u old < d32 b old then u else b) rcv

/-- Shows ACK_BASE. -/
def State.settleAck (s : State) (q : Nat) : State :=
  s.wr Reg.TRN_QP_T2_ACK_BASE q (newAckBase (s.ackBase q) (s.rcvBase q) (s.connOf q).unackable)

/-- Sets the bit of a PSN; `wait` where its message is not yet acknowledgeable. -/
def State.markPsn (s : State) (q psn : Nat) (wait : Bool) : State :=
  let c := s.connOf q
  let r := advanceBase 1025 (s.rcvBase q) (psn :: c.seen)
  (((s.setConn q { c with seen := r.2, unackable := if wait then psn :: c.unackable else c.unackable }).wr
    Reg.TRN_QP_T2_RCV_BASE q r.1).pmc 10 0x21 (some (s.qpTenant q))).settleAck q

/-- The SACK bits from `b` on (R155). -/
def State.sackBits (s : State) (q b : Nat) : Nat :=
  (List.range 128).foldl (fun v i => if s.ackable q ((b + i) % 2 ^ 32) then v + 2 ^ i else v) 0

/-- The ACK for a packet of a PSN, with the TX_TIME and the receipt of the copy that caused it (R155, R166). -/
def State.ackPkt (s : State) (q psn echo rcvd ce : Nat) : Pkt :=
  let cum := s.ackBase q
  let d := d32 psn cum
  let b := if 129 ≤ d ∧ d < 2 ^ 31 then d32 psn 127 else (cum + 1) % 2 ^ 32
  { s.hdr q 0x10 0 0 with cumPsn := cum, sackBase := b, sack := s.sackBits q b, tsEcho := echo,
                          ackDelay := (s.now - rcvd) % 2 ^ 32, ceCount := ce }

/-- Sends an ACK now, with the CE packets since the last (R166). -/
def State.ackNow (s : State) (q psn echo rcvd : Nat) : State :=
  let c := s.connOf q
  let p := s.ackPkt q psn echo rcvd c.ce
  let s1 := s.setConn q { c with ce := 0, sinceAck := 0, ackTimer := false }
  ctlSent q (s1.sendCtl q p)

/-- After a packet has been accepted: an ACK at once for ACK_REQ, beyond a gap, or at the coalescing count; else
the delay runs from the first packet not acknowledged (R166). -/
def State.ackAfter (s : State) (q : Nat) (p : Pkt) : State :=
  let c := s.connOf q
  let gap := c.seen.contains p.psn
  if p.ackReq || gap || decide (max 1 (s.rd Reg.TRN_TIMERS1_ACK_COALESCE) ≤ c.sinceAck + 1) then s.ackNow q p.psn p.txTime s.now
  else if c.ackTimer then s.setConn q { c with sinceAck := c.sinceAck + 1 }
  else s.setConn q { c with sinceAck := c.sinceAck + 1, ackTimer := true, ackEcho := p.txTime, ackRcvd := s.now, ackPsn := p.psn }

/-! Receipt (R164, R195). -/

/-- The bytes of a tenant that wait in the transport's receive buffer (R192). -/
def State.rxOcc (s : State) (t : Nat) : Nat :=
  (s.conns.filter (fun e => s.qpTenant e.1 == t)).foldl
    (fun a e => a + e.2.held.foldl (fun b x => b + frameBytes e.2.vlan.isSome false x.1) 0) 0

/-- The opcodes R151 lists. -/
def knownOpc (o : Nat) : Bool := (1 ≤ o && o ≤ 8) || (0x10 ≤ o && o ≤ 0x12) || (0x18 ≤ o && o ≤ 0x1B) || o == 0x3E || o == 0x3F

/-- The meter bound to a tenant and class (R195). -/
def State.meterFor (s : State) (t tc : Nat) : Option Nat :=
  (s.traffic.meters.find? (fun e => bit e.2.bind 10 && bits e.2.bind 0 10 == t && bit e.2.bind (16 + tc) && bit e.2.cfg0 48)).map (·.1)

/-- Meters a packet of a tenant (R196): the state, and whether it passes. -/
def State.meter (s : State) (t : Nat) (p : Pkt) : State × Bool :=
  match s.meterFor t p.tc with
  | none => (s, true)
  | some i =>
    let m := Tbl.get {} i s.traffic.meters
    let c := s.connOf p.dstQp
    let b := 1024 * frameBytes c.vlan.isSome (bit (s.rd Reg.TRN_IP_VALID_IS_V4) c.srcIp) p
    let put (s : State) (m : Meter) : State := { s with traffic := { s.traffic with meters := Tbl.set {} i m s.traffic.meters } }
    if m.tp < b then ((s.count Reg.TRN_MTR_CNT_RDROP_COUNT i).pmc 10 0x28 (some t), false)
    else if m.tc < b then
      let s1 := put s { m with tp := m.tp - b }
      if 1024 * bits m.cfg1 48 16 < s.rxOcc t then ((s1.count Reg.TRN_MTR_CNT_YDROP_COUNT i).pmc 10 0x28 (some t), false)
      else (s1.count Reg.TRN_MTR_CNT_Y_COUNT i, true)
    else ((put s { m with tp := m.tp - b, tc := m.tc - b }).count Reg.TRN_MTR_CNT_G_COUNT i, true)

/-- The members a multicast queue pair waits for: the live members of its peloton but this one (R321, log entry
21). -/
def State.mcMembers (s : State) (p : Nat) : List Nat := (s.pelOf p).live.filter (· ≠ (s.pelOf p).me)

/-- The member whose packet this is, on a multicast queue pair; 0 on any other (R164 step 4, R321). -/
def State.peerMember (s : State) (q : Nat) (p : Pkt) : Option Nat :=
  match (s.connOf q).mcast with
  | none =>
    if p.srcMod = s.rd Reg.TRN_QP_T0_PEER_MODULE q ∧ p.srcQp = s.rd Reg.TRN_QP_T0_PEER_QP q then some 0 else none
  | some (pel, sl) =>
    (s.mcMembers pel).find? fun m =>
      match (s.pelOf pel).members[m]? with
      | none => false
      | some x => x.module == p.srcMod && x.baseQp + sl == p.srcQp

/-- A packet fails authentication (R184). -/
def State.authFailed (s : State) (q : Nat) : State :=
  let s1 := s.count Reg.TRN_AUTH_DISCARD_COUNT
  let c := s1.connOf q
  if c.authFails + 1 < max 1 (s.rd Reg.TRN_TIMERS1_AUTH_FAIL_MAX) then s1.setConn q { c with authFails := c.authFails + 1 }
  else
    let was := s1.cst q
    let s2 := (s1.setConn q { c with authFails := 0 }).qpError q Code.authFail 0 none
    let due : Bool := match c.authLast with
      | none => true
      | some t => decide (t + 1000000 ≤ s.now)
    if (was = Cst.connected ∨ was = Cst.suspended) ∧ due then
      ((s2.setConn q { s2.connOf q with authLast := some s.now }).event (s.qpTenant q) Code.authFail 0 (evObj 0 q) (s2.free 64)).bump
    else s2

/-- A packet of a SAVED slice (R337): ACKs are discarded and counted, a sequenced packet is answered FROZEN. The keys are
cleared by then (R365), so the answer carries no nonce the spec states (log entry 26). -/
def State.savedRx (s : State) (q : Nat) (p : Pkt) : State :=
  if !sequenced p.opc then s.count Reg.TRN_NO_QP_DISCARD_COUNT
  else
    let n := { s.hdr q 0x11 p.psn p.msn with nakKind := 1, reason := 3, backoff := s.rd Reg.TRN_TIMERS1_NAK_BACKOFF_US, nonce := s.freeAt 1 64 }
    let s1 := ((s.inc Reg.TRN_NAK_TX_COUNT).pmc 10 0x24 (some (s.qpTenant q))).bumpN 2
    match s.egressPort (s.free 6 % s.numPaths q) q with
    | none => s1
    | some port => s1.handOver port q n

/-- Steps 1 to 6 of R164, after the meter of R195. Answers whether the packet goes on. -/
def State.rxHead (s : State) (p : Pkt) (r : Rx) : State × Bool :=
  let q := p.dstQp
  let m := if (sequenced p.opc || p.opc == 5) && s.qpValid q then s.meter (s.qpTenant q) p else (s, true)
  if !m.2 then m
  else
    let s := (m.1.count Reg.TRN_RX_PKTS_COUNT)
    if !s.on Reg.TRN_CTRL_ENABLE || !s.localIp r.ip || r.dport != s.rd Reg.TRN_UDP_DPORT || !r.csumOk || p.ver != 1 || !knownOpc p.opc || p.dstMod != s.rd Reg.TRN_MODULE_ID then
      (s.count Reg.TRN_BAD_HDR_COUNT, false)
    else
      let s := if r.ce then (s.count Reg.TRN_CE_RCVD_COUNT).pmc 10 0x25 (some (s.qpTenant q)) else s
      if !s.qpValid q || s.cst q == Cst.reset then (s.count Reg.TRN_NO_QP_DISCARD_COUNT, false)
      else if s.slice (s.qpTenant q) = 4 ∧ s.qpTenant q ≠ provider then (s.savedRx q p, false)
      else
        match (match s.qpCtx q with
          | none => (s, Opened.authFail)
          | some c => s.openCtx c p r) with
        | (s, .authFail) => (s.authFailed q, false)
        | (s, .lost) => (s, false)
        | (s, .off) => (s, false)
        | (s, .ok) =>
          let s := s.setConn q { s.connOf q with authFails := 0 }
          if s.peerMember q p = none then (s.count Reg.TRN_PEER_MISMATCH_COUNT, false)
          else if p.epoch ≠ s.rd Reg.TRN_QP_T0_EPOCH q then (s.count Reg.TRN_EPOCH_DISCARD_COUNT, false)
          else if p.txTime + s.maxLife < s.now then (s.count Reg.TRN_LIFE_DISCARD_COUNT, false)
          else (s, true)

/-- Is a PSN of a message whose responder completion waits for room (R165, R171)? -/
def Conn.cqHeld (c : Conn) (psn : Nat) : Bool := c.recs.any (fun m => m.cqWait && m.psns.contains psn)

/-- Answers a duplicate (R165, R171, R177). -/
def State.duplicate (s : State) (q : Nat) (p : Pkt) : State :=
  let c := s.connOf q
  if c.cqHeld p.psn then s.nakResend q p.psn p.msn Code.success 4 s.nakBackoff
  else
    let s1 := s.ackNow q p.psn p.txTime s.now
    if p.opc = 6 ∨ p.opc = 7 then
      match c.atomics.find? (·.1 == p.psn) with
      | some a => ctlSent q (s1.sendCtl q { s1.hdr q 0x12 p.psn p.msn with old := a.2 })
      | none => if c.recs.any (fun m => m.psns.contains p.psn) then s1 else s1.count Reg.TRN_STALE_RESP_COUNT
    else s1

/-- The CE mark of a sequenced packet (R155). -/
def State.noteCe (s : State) (q : Nat) (r : Rx) : State :=
  if r.ce then s.setConn q { s.connOf q with ce := min 0xFFFF ((s.connOf q).ce + 1) } else s

/-- Steps 7 and 8 of R164 for a sequenced packet (R159, R165). Answers whether it is new. -/
def State.rxSeq (s : State) (p : Pkt) (r : Rx) : State × Bool :=
  let q := p.dstQp
  let s := s.noteCe q r
  let c := s.connOf q
  if s.cst q = Cst.suspended then (s.nakResend q p.psn p.msn Code.success 3 s.nakBackoff, false)
  else if s.cst q = Cst.error ∨ s.cst q = Cst.fenced then
    let due : Bool := match c.fatalAt with
      | none => true
      | some t => decide (t + 100000 ≤ s.now)
    if due then
      let code := if s.cst q = Cst.fenced then Code.hostGone else s.rd Reg.TRN_QP_T5_ERR_SYNDROME q
      let det := if s.cst q = Cst.fenced then 0 else s.rd Reg.TRN_QP_T5_ERR_DETAIL q
      (((s.setConn q { c with fatalAt := some s.now }).sendNak q p.psn p.msn 3 code 0 det 0).1, false)
    else (s, false)
  else
    let d := d32 p.psn (s.rcvBase q)
    if d < 1024 then
      if c.seen.contains p.psn then (((s.count Reg.TRN_DUP_IN_WINDOW_COUNT).pmc 10 0x23 (some (s.qpTenant q))).duplicate q p, false)
      else (s, !(c.held.any (fun x => x.1.psn == p.psn && x.1.opc != 5)))
    else if 2 ^ 31 ≤ d then (((s.count Reg.TRN_DUP_OLD_COUNT).pmc 10 0x23 (some (s.qpTenant q))).duplicate q p, false)
    else (s.count Reg.TRN_OUT_OF_WINDOW_COUNT, false)

/-! Regions (R179, R180). -/

/-- What the region check gives: the address of an offset, its context and space; a DETAIL; or a revoked region. -/
inductive RegRes where
  | ok (addr ctx : Nat) (win : Bool)
  | bad (detail : Nat)
  | gone
  deriving DecidableEq, Repr

/-- The region check (R180) for `len` bytes at `target`; `right` is the bit of RIGHTS. -/
def State.regionCheck (s : State) (q rkey target len right : Nat) (aligned : Bool) : RegRes :=
  let i := bits rkey 0 17
  if i = 0 ∨ !s.on Reg.TRN_REG_D0_VALID i ∨ s.rd Reg.TRN_REG_D0_GENERATION i ≠ bits rkey 17 15 then .bad 0x81
  else if s.on Reg.TRN_REG_D0_REVOKED i then .gone
  else if s.rd Reg.TRN_REG_D0_TENANT i ≠ s.qpTenant q then .bad 0x82
  else if s.on Reg.TRN_REG_D2_QP_BIND_EN i ∧ s.rd Reg.TRN_REG_D2_QP_BIND i ≠ q then .bad 0x83
  else if !bit (s.rd Reg.TRN_REG_D0_RIGHTS i) right then .bad 0x84
  else if s.rd Reg.TRN_REG_D2_LENGTH i < target + len then .bad 0x85
  else if !aligned then .bad 0x86
  else .ok (s.rd Reg.TRN_REG_D1_BASE i + target) (s.rd Reg.TRN_REG_D0_CONTEXT i) (bit (s.rd Reg.TRN_REG_D0_RIGHTS i) 4)

/-- A remote access violation on behalf of a remote requester (R97, R180): the event, and ERROR with its NAK. -/
def State.remoteViolation (s : State) (q detail arg : Nat) (p : Pkt) : State :=
  (s.event (s.qpTenant q) Code.accessViolation detail (evObj 0 q) arg).qpError q Code.accessViolation detail none false p.psn p.msn

/-! Memory of a queue pair's requests. -/

/-- Pieces of a range within 4 KiB pages. -/
def pieces (a len : Nat) : List (Nat × Nat) :=
  (List.range (len / 4096 + 2)).filterMap fun k =>
    let lo := max a ((a / 4096 + k) * 4096)
    let hi := min (a + len) ((a / 4096 + k + 1) * 4096)
    if lo < hi then some (lo, hi - lo) else none

/-- What translating every piece of a range gives: where each lies, the pages missing, or a violation. -/
inductive RangeRes where
  | ok (l : List (XlRes × Nat × Nat))
  | miss (vas : List Nat)
  | bad (kind va : Nat)
  deriving DecidableEq, Repr

/-- Adds the result of one piece. -/
def RangeRes.push (r : RangeRes) (x : XlRes) (a n : Nat) : RangeRes :=
  match r, x with
  | .bad k v, _ => .bad k v
  | _, .bad k => .bad k a
  | .miss l, .miss => .miss (l ++ [a])
  | .ok _, .miss => .miss [a]
  | .miss l, _ => .miss l
  | .ok l, y => .ok (l ++ [(y, a, n)])

/-- Translates a range, page by page. -/
def State.rangeVa (c ten ctx : Nat) (acc : AccK) : List (Nat × Nat) → State → State × RangeRes
  | [], s => (s, .ok [])
  | (a, n) :: rest, s =>
    let r := s.translate c ten ctx a acc
    let t := State.rangeVa c ten ctx acc rest r.1
    (t.1, match t.2 with
      | .ok l => match r.2 with
        | .bad k => .bad k a
        | .miss => .miss [a]
        | y => .ok ((y, a, n) :: l)
      | .miss l => match r.2 with
        | .bad k => .bad k a
        | .miss => .miss (a :: l)
        | _ => .miss l
      | .bad k v => match r.2 with
        | .bad k' => .bad k' a
        | _ => .bad k v)

/-- Where a range of a queue pair's tenant lies: a GDDR7 window offset with LOCAL_WIN, else virtual (R96). -/
def State.range (s : State) (q ctx : Nat) (win : Bool) (acc : AccK) (a len : Nat) : State × RangeRes :=
  if len = 0 then (s, .ok [])
  else if win then
    (s, if s.gddrPassAll (s.qpTenant q) ctx acc a len then .ok [(.gddr a, a, len)] else .bad Kind.extent a)
  else State.rangeVa (s.rd Reg.QP_DESC3_CLUSTER q) (s.qpTenant q) ctx acc (pieces a len) s

/-- Starts the walks of missing pages for a user. -/
def State.walkFor (s : State) (q ctx : Nat) (acc : AccK) (u : User) (vas : List Nat) : State :=
  vas.foldl (fun s va => s.startWalk (s.rd Reg.QP_DESC3_CLUSTER q) (s.qpTenant q) ctx va acc
    [{ user := u, acc, va, cluster := s.rd Reg.QP_DESC3_CLUSTER q }] none) s

/-- Writes bytes over the places of a range. Answers the near ports used, as a mask. -/
def State.writeRange (q ctx : Nat) (u : User) : List (XlRes × Nat × Nat) → List Byte → State → State × Nat
  | [], _, s => (s, 0)
  | (x, _, n) :: rest, b, s =>
    match x with
    | .host slot pa =>
      let r := s.hostWrite slot (s.qpTenant q) ctx pa (b.take n) (some u)
      let t := State.writeRange q ctx u rest (b.drop n) r.1
      (t.1, match r.2 with
        | some p => setBit t.2 p
        | none => t.2)
    | .gddr a => State.writeRange q ctx u rest (b.drop n) ((s.gddrStore a (b.take n)).pmc 13 0x51 (some (s.qpTenant q)) (linesOf a n))
    | _ => State.writeRange q ctx u rest (b.drop n) s

/-- Reads the places of a range; accelerator memory gives the bytes of `data` in turn. -/
def State.readRange (s : State) : List (XlRes × Nat × Nat) → List Byte → List Byte
  | [], _ => []
  | (x, _, n) :: rest, d =>
    match x with
    | .gddr a => s.gddrBytes a n ++ State.readRange s rest d
    | _ => (d ++ List.replicate n 0).take n ++ State.readRange s rest (d.drop n)

/-- Counts the GDDR7 reads of a range (R449). -/
def State.countReads (s : State) (q : Nat) (l : List (XlRes × Nat × Nat)) : State :=
  s.pmc 13 0x50 (some (s.qpTenant q)) (l.foldl (fun a x => match x.1 with
    | .gddr g => a + linesOf g x.2.2
    | _ => a) 0)

/-- Does a range touch a poisoned line of GDDR7 (R402)? -/
def State.rangePoisoned (s : State) (l : List (XlRes × Nat × Nat)) : Bool := l.any fun x => match x.1 with
  | .gddr g => s.gddrPoisoned g x.2.2
  | _ => false

/-- Does a range touch accelerator memory? -/
def touchesHost (l : List (XlRes × Nat × Nat)) : Bool := l.any fun x => match x.1 with
  | .host _ _ => true
  | _ => false

/-! Message records (R170, R171). -/

def State.recOf (s : State) (q msn : Nat) : Option MsgRec := (s.connOf q).recs.find? (·.msn == msn)
def State.putRec (s : State) (q : Nat) (m : MsgRec) : State :=
  s.setConn q { s.connOf q with recs := replaceFirst (·.msn == m.msn) (fun _ => m) (s.connOf q).recs }
def State.dropRec (s : State) (q msn : Nat) : State :=
  (s.setConn q { s.connOf q with recs := dropFirst (·.msn == msn) (s.connOf q).recs }).dec Reg.TRN_RESP_REC_IN_USE

/-- Step 3 of R171: the completing packet becomes acknowledgeable, an ACK goes out, the record is released. -/
def State.msgAck (s : State) (q : Nat) (m : MsgRec) : State :=
  let c := s.connOf q
  let s1 := ((s.setConn q { c with unackable := c.unackable.filter (· ≠ m.lastPsn) }).dropRec q m.msn).settleAck q
  s1.ackNow q m.lastPsn c.ackEcho c.ackRcvd

/-- Makes the responder completion entry of a SEND or WRITE_IMM ready (R171 step 2). Its flushes are those of
step 1. -/
def State.respEntry (s : State) (q : Nat) (m : MsgRec) : State :=
  let cq := s.rd Reg.QP_DESC0_CQ q
  let e : Cqe := { tag := (m.recv.map (·.tag)).getD 0, qp := q, opcode := m.opc, aux := m.imm.getD 0, bytes := m.len,
                   paths := m.paths, immValid := m.imm.isSome, responder := true, serial := m.recv.map (·.serial),
                   msn := some m.msn, flushed := true }
  let c := s.cqOf cq
  (s.setCq cq { c with waiting := c.waiting ++ [e] }).wr Reg.CQ_PEND_PENDING cq (c.waiting.length + 1)

/-- Step 2 of R171 once the flushes are back. Where the ring is full the completing packet is answered CQ_FULL at
once; a broken ring holds nothing back (R488); a fenced one takes nothing more. -/
def State.msgEntry (s : State) (q : Nat) (m : MsgRec) : State :=
  if m.opc ≠ 1 ∧ m.opc ≠ 3 then s.msgAck q m
  else
    let cq := s.rd Reg.QP_DESC0_CQ q
    if s.on Reg.QP_DESC0_LEGACY q then
      match m.recv with
      | none => s.msgAck q m
      | some r =>
        (s.updOp q r.serial (fun o => { o with bytes := m.len, paths := m.paths, st := .done, aux := m.imm.getD 0,
                                               resps := b2n m.imm.isSome })).putRec q { m with entered := true }
    else if s.on Reg.CQ_DESC0_BROKEN cq then
      let s1 := match m.recv with
        | some r => s.releaseOp q r.serial
        | none => s
      (s1.inc Reg.CQ_POS_WRITTEN cq).msgAck q m
    else if (s.cqOf cq).fenced then s.msgAck q m
    else
      let full := !s.cqRoom cq || s.on Reg.CQ_PEND_FULL cq
      let s1 := (s.respEntry q m).putRec q { m with entered := true, cqWait := full }
      if full then (s1.cqBeginFull cq).nakResend q m.lastPsn m.msn Code.success 4 s1.nakBackoff else s1

/-- A responder completion entry has been written (R171 step 3). -/
def State.respWritten (s : State) (e : Cqe) : State :=
  match e.msn with
  | none => s
  | some msn =>
    match s.recOf e.qp msn with
    | none => s
    | some m => s.msgAck e.qp m

/-- The message is complete: its flushes go out on every path that carried its data (R171 step 1). -/
def State.msgComplete (s : State) (q : Nat) (m : MsgRec) : State :=
  let fl := (portsOf m.paths).foldl (fun (r : State × List (Nat × Nat)) p =>
    if r.1.on Reg.MAC_NEAR_STATUS_PATH_UP p then
      ((r.1.sendNp p .flush (.pkt q m.lastPsn) { op := 2, tenant := s.qpTenant q, ctx := s.rd Reg.QP_DESC0_CONTEXT q }),
        r.2 ++ [(p, (r.1.nearOf p).nextTag)])
    else r) (s, [])
  fl.1.putRec q { m with complete := true, flush := fl.2 }

/-- Counts an accepted packet of a message, and completes it when every byte is in (R170, R171). -/
def State.msgGot (s : State) (q : Nat) (m : MsgRec) (p : Pkt) (mask : Nat) : State :=
  let s := s.pmc 10 0x27 (some (s.qpTenant q)) p.payload.length
  let m' := { m with got := m.got + p.payload.length, paths := m.paths ||| mask, psns := p.psn :: m.psns, lastPsn := p.psn }
  let whole := decide (m.len ≤ m'.got)
  let s1 := (s.markPsn q p.psn whole).putRec q m'
  let s2 := s1.ackAfter q p
  if whole then (s2.setConn q { s2.connOf q with ackEcho := p.txTime, ackRcvd := s.now }).msgComplete q m' else s2

/-- Does a packet's place in its message keep R161? -/
def State.placeOk (s : State) (q : Nat) (p : Pkt) : Bool :=
  let f := s.fullPkt q p.opc p.format
  p.pktOffset % f == 0 && p.payload.length == min f (p.msgLen - p.pktOffset) &&
    (decide (p.pktOffset < p.msgLen) || (p.msgLen == 0 && p.pktOffset == 0))

/-- The record of a packet's message: the open one where the packet agrees with it, or a new one (R170). -/
inductive RecRes where
  | opened (s : State) (m : MsgRec)
  | busy
  | mismatch

/-- Step 9 of R164: a message record. -/
def State.msgRecord (s : State) (q : Nat) (p : Pkt) : RecRes :=
  match s.recOf q p.msn with
  | some m =>
    if m.opc = p.opc ∧ m.len = p.msgLen ∧ m.target = p.target ∧ m.rkey = p.rkey ∧ m.format = p.format ∧ s.placeOk q p then
      .opened s m
    else .mismatch
  | none =>
    if 65536 ≤ s.rd Reg.TRN_RESP_REC_IN_USE then .busy
    else if !s.placeOk q p then .mismatch
    else
      let m : MsgRec := { msn := p.msn, opc := p.opc, len := p.msgLen, target := p.target, rkey := p.rkey, format := p.format,
                          imm := if p.immValid then some p.imm else none }
      .opened ((s.setConn q { s.connOf q with recs := (s.connOf q).recs ++ [m] }).inc Reg.TRN_RESP_REC_IN_USE) m

/-- A BUSY NAK (R170). -/
def State.nakBusy (s : State) (q : Nat) (p : Pkt) : State :=
  (s.count Reg.TRN_RESP_REC_BUSY_NAKS).nakResend q p.psn p.msn Code.success 2 s.nakBackoff

/-- A FATAL NAK with LENGTH_ERROR (R170, R175). -/
def State.nakLength (s : State) (q : Nat) (p : Pkt) : State := s.qpError q Code.lengthError 0 none false p.psn p.msn

/-- Holds a packet until its translations stand. -/
def State.holdPkt (s : State) (q : Nat) (p : Pkt) (r : Rx) : State :=
  s.setConn q { s.connOf q with held := (s.connOf q).held ++ [(p, r)] }

/-- Places a packet's bytes (R164 steps 11 and 12): translates first, then writes every piece, marks the PSN and
counts the bytes. -/
def State.placePkt (s : State) (q : Nat) (m : MsgRec) (p : Pkt) (r : Rx) (ctx a : Nat) (win : Bool) : State :=
  match s.range q ctx win .write a p.payload.length with
  | (s1, .bad k va) => (s1.violation k (s.qpTenant q) ctx (s.rd Reg.QP_DESC3_CLUSTER q) va).remoteViolation q k va p
  | (s1, .miss vas) => (s1.holdPkt q p r).walkFor q ctx .write (.pkt q p.psn) vas
  | (s1, .ok l) =>
    if p.opc = 8 ∧ s1.rangePoisoned l then (s1.markPsn q p.psn false).nakFail q p.psn p.msn Code.memoryError
    else
    let bytes := if p.opc = 8 then
        reduceBytes p.format (reduceSize p.format) (p.payload.length + 1) (s1.readRange l r.data) p.payload
      else (p.payload, 0)
    let s2 := if bytes.2 = 0 then s1 else s1.count Reg.SPK_RW_OVF_COUNT (s.rd Reg.QP_DESC3_CLUSTER q) bytes.2
    let s3 := if p.payload = [] then s2 else s2.postItem 1 q p.psn ctx a p.payload.length 0 0
    let w := State.writeRange q ctx (.pkt q p.psn) l bytes.1 s3
    w.1.msgGot q m p w.2

/-- Gives a new SEND its receive (R175). -/
def State.takeRecv (s : State) (q : Nat) (m : MsgRec) (rv : Recv) : State × MsgRec :=
  let m' := { m with recv := some rv }
  (((s.putRec q m').setConn q { (s.putRec q m').connOf q with
      recvs := dropFirst (·.ssn == rv.ssn) ((s.putRec q m').connOf q).recvs }).updOp q rv.serial (fun o => { o with st := .started }), m')

/-- Steps 9 to 12 for a SEND (R175). -/
def State.newSend (s : State) (p : Pkt) (r : Rx) : State :=
  let q := p.dstQp
  let go (s : State) (m : MsgRec) (rv : Recv) : State :=
    s.placePkt q m p r (s.rd Reg.QP_DESC0_CONTEXT q) (rv.laddr + p.pktOffset) rv.localWin
  match s.msgRecord q p with
  | .busy => s.nakBusy q p
  | .mismatch => s.nakLength q p
  | .opened s1 m =>
    match m.recv with
    | some rv => go s1 m rv
    | none =>
      match (s.connOf q).recvs.find? (·.ssn == p.target % 2 ^ 32) with
      | none => s.nakResend q p.psn p.msn Code.success 1 s.nakBackoff
      | some rv =>
        if rv.len < p.msgLen then ((s1.dropRec q p.msn).finishOp q rv.serial Code.lengthError 0).nakLength q p
        else
          let t := s1.takeRecv q m rv
          go t.1 t.2 rv

/-- Steps 9 to 12 for a WRITE, WRITE_IMM or REDUCE_WRITE (R174, R178); `right` is the bit of R179. -/
def State.newWrite (s : State) (right : Nat) (p : Pkt) (r : Rx) : State :=
  let q := p.dstQp
  match s.msgRecord q p with
  | .busy => s.nakBusy q p
  | .mismatch => s.nakLength q p
  | .opened s1 m =>
    match s1.regionCheck q p.rkey p.target p.msgLen right (p.opc != 8 || reduceAligned p.format p.target p.msgLen) with
    | .gone => s1.qpError q Code.hostGone 0 none false p.psn p.msn
    | .bad d => (s1.inc Reg.TRN_REGION_VIOL_COUNT).remoteViolation q d p.rkey p
    | .ok a ctx win => s1.placePkt q m p r ctx (a + p.pktOffset) win

/-- Steps 9 to 12 for a READ_REQ (R176): accepted, its range waits to be read and sent. -/
def State.newReadReq (s : State) (p : Pkt) : State :=
  let q := p.dstQp
  if 65536 ≤ s.rd Reg.TRN_RESP_REC_IN_USE then s.nakBusy q p
  else if p.msgLen < p.rangeOffset + p.rangeLen then s.nakLength q p
  else
    match s.regionCheck q p.rkey p.target p.msgLen 0 true with
    | .gone => s.qpError q Code.hostGone 0 none false p.psn p.msn
    | .bad d => (s.inc Reg.TRN_REGION_VIOL_COUNT).remoteViolation q d p.rkey p
    | .ok a ctx win =>
      let w : Pkt := { p with target := a, op0 := ctx, op1 := b2n win, pktOffset := p.rangeOffset }
      let s1 := s.markPsn q p.psn false
      let s2 := if p.rangeLen = 0 then s1
        else (s1.setConn q { s1.connOf q with respQ := (s1.connOf q).respQ ++ [w] }).postItem 2 q p.psn ctx (a + p.rangeOffset) p.rangeLen 0 0
      s2.ackAfter q p

/-- Keeps an atomic's old value, of the 16 of highest PSN (R177), and returns it. -/
def State.atomicDone (s : State) (q psn msn old : Nat) : State :=
  let c := s.connOf q
  let l := c.atomics ++ [(psn, old)]
  let low := l.foldl (fun b x => if d32 x.1 (d32 psn (2 ^ 31)) < d32 b (d32 psn (2 ^ 31)) then x.1 else b) psn
  let l' := if 16 < l.length then l.filter (fun x => x.1 ≠ low) else l
  let s1 := s.setConn q { c with atomics := l' }
  ctlSent q (s1.sendCtl q { s1.hdr q 0x12 psn msn with old })

/-- The value an atomic stores (R177). -/
def atomicNew (opc old op0 op1 : Nat) : Nat :=
  if opc = 6 then (old + op0) % 2 ^ 64 else if old = op0 then op1 else old

/-- Steps 9 to 12 for an atomic (R177): at the GDDR7 controller, or with FADD or CSWAP over the near link. -/
def State.newAtomic (s : State) (p : Pkt) (r : Rx) : State :=
  let q := p.dstQp
  if 65536 ≤ s.rd Reg.TRN_RESP_REC_IN_USE then s.nakBusy q p
  else
    match s.regionCheck q p.rkey p.target 8 2 (p.target % 8 == 0) with
    | .gone => s.qpError q Code.hostGone 0 none false p.psn p.msn
    | .bad d => (s.inc Reg.TRN_REGION_VIOL_COUNT).remoteViolation q d p.rkey p
    | .ok a ctx win =>
      match s.range q ctx win .atomic a 8 with
      | (s1, .bad k va) => (s1.violation k (s.qpTenant q) ctx (s.rd Reg.QP_DESC3_CLUSTER q) va).remoteViolation q k va p
      | (s1, .miss vas) => (s1.holdPkt q p r).walkFor q ctx .atomic (.pkt q p.psn) vas
      | (s1, .ok ((.gddr g, _, _) :: _)) =>
        if s1.gddrPoisoned g 8 then (s1.markPsn q p.psn false).nakFail q p.psn p.msn Code.memoryError
        else
        let old := Mem.nat s1.gddr g 8
        let s2 := ((((s1.gddrStore g (leBytes 8 (atomicNew p.opc old p.op0 p.op1))).pmc 13 0x50 (some (s.qpTenant q))).pmc 13 0x51 (some (s.qpTenant q))).markPsn q p.psn false).ackAfter q p
        s2.atomicDone q p.psn p.msn old
      | (s1, .ok ((.host slot pa, _, _) :: _)) =>
        let m : MsgRec := { msn := p.msn, opc := p.opc, len := 8, target := p.target, rkey := p.rkey, format := 0, psns := [p.psn], lastPsn := p.psn }
        let msg : NearMsg := { op := if p.opc = 6 then 3 else 4, len := if p.opc = 6 then 8 else 16, tenant := s.qpTenant q, ctx, addr := pa,
                               data := leBytes 8 p.op0 ++ (if p.opc = 6 then [] else leBytes 8 p.op1) }
        let s2 := (s1.setConn q { s1.connOf q with recs := (s1.connOf q).recs ++ [m] }).inc Reg.TRN_RESP_REC_IN_USE
        ((s2.hostRequest slot .atomic (.pkt q p.psn) msg).markPsn q p.psn false).ackAfter q p
      | (s1, _) => s1

/-! Requester: READ responses. -/

/-- Does a list of (offset, length) parts cover `n` bytes from `pos` on? -/
def coversFrom : Nat → Nat → Nat → List (Nat × Nat) → Bool
  | 0, pos, n, _ => decide (n ≤ pos)
  | k + 1, pos, n, l =>
    if n ≤ pos then true
    else match l.find? (fun x => decide (x.1 ≤ pos) && decide (pos < x.1 + x.2)) with
      | none => false
      | some x => coversFrom k (x.1 + x.2) n l

def covers (n : Nat) (l : List (Nat × Nat)) : Bool := coversFrom (l.length + 1) 0 n l

/-- The parts of `n` bytes from `pos` on that a list of parts leaves missing. -/
def missingFrom : Nat → Nat → Nat → List (Nat × Nat) → List (Nat × Nat)
  | 0, _, _, _ => []
  | k + 1, pos, n, l =>
    if n ≤ pos then []
    else match l.find? (fun x => decide (x.1 ≤ pos) && decide (pos < x.1 + x.2)) with
      | some x => missingFrom k (x.1 + x.2) n l
      | none =>
        let nxt := (l.filter (fun x => decide (pos < x.1))).foldl (fun a x => min a x.1) n
        (pos, nxt - pos) :: missingFrom k nxt n l

/-- The ACK of a READ requester (R189), with the CE marks of READ_RESP packets. -/
def State.readAck (s : State) (q : Nat) (p : Pkt) : State :=
  let c := s.connOf q
  let a := s.ackPkt q (s.ackBase q) p.txTime s.now c.respCe
  let s1 := s.setConn q { c with respCe := 0 }
  ctlSent q (s1.sendCtl q a)

/-- Places a READ_RESP of a READ in progress (R176), and completes the READ when every byte is in (R172). -/
def State.placeResp (s : State) (q : Nat) (o : Op) (p : Pkt) (r : Rx) : State :=
  let ctx := s.rd Reg.QP_DESC0_CONTEXT q
  match s.range q ctx o.sqe.localWin .write (o.sqe.laddr + p.pktOffset) p.payload.length with
  | (s1, .bad k va) =>
    (s1.violation k (s.qpTenant q) ctx (s.rd Reg.QP_DESC3_CLUSTER q) va).qpError q Code.accessViolation k (some o.serial)
  | (s1, .miss vas) => (s1.holdPkt q p r).walkFor q ctx .write (.op q o.serial) vas
  | (s1, .ok l) =>
    let w := State.writeRange q ctx (.op q o.serial) l p.payload
      (if p.payload = [] then s1 else s1.postItem 1 q p.psn ctx (o.sqe.laddr + p.pktOffset) p.payload.length 0 0)
    let o' := { o with got := o.got ++ [(p.pktOffset, p.payload.length)], paths := o.paths ||| w.2, resps := o.resps + 1 }
    let s2 := w.1.updOp q o.serial (fun _ => o')
    let c := s2.connOf q
    let s3 := s2.setConn q { c with respCe := min 0xFFFF (c.respCe + b2n r.ce) }
    let s4 := if r.ce || o'.resps % max 1 (s.rd Reg.TRN_TIMERS1_ACK_COALESCE) == 0 then s3.readAck q p else s3
    if covers o.sqe.len o'.got then
      (s4.updOp q o.serial (fun x => { x with bytes := o.sqe.len })).finishOp q o.serial Code.success 0
    else s4

/-- A READ_RESP (R176): stale unless its READ is in progress and the payload within its range. -/
def State.rxReadResp (s : State) (p : Pkt) (r : Rx) : State :=
  let q := p.dstQp
  match (s.sqOf q).ops.find? (fun o => o.sqe.opcode == 4 && o.st == .started && o.msn == p.msn) with
  | none => s.count Reg.TRN_STALE_RESP_COUNT
  | some o =>
    if (s.steer q).isNone then (s.holdPkt q p r).count Reg.CLU_STEER_HOLD_COUNT
    else if p.pktOffset + p.payload.length ≤ o.sqe.len then s.placeResp q o p r else s.count Reg.TRN_STALE_RESP_COUNT

/-- Steps 9 to 12 for a new sequenced packet of the data opcodes; held while no cluster serves its queue pair
(R252). -/
def State.newPacket (s : State) (p : Pkt) (r : Rx) : State :=
  if (s.steer p.dstQp).isNone then (s.holdPkt p.dstQp p r).count Reg.CLU_STEER_HOLD_COUNT
  else match p.opc with
  | 1 => s.newSend p r
  | 2 => s.newWrite 1 p r
  | 3 => s.newWrite 1 p r
  | 4 => s.newReadReq p
  | 6 => s.newAtomic p r
  | 7 => s.newAtomic p r
  | 8 => s.newWrite 3 p r
  | _ => s

/-- Receives a sequenced packet of a data opcode (R164). -/
def State.rxPacket (s : State) (p : Pkt) (r : Rx) : State :=
  let h := s.rxHead p r
  if !h.2 then h.1
  else
    let q := h.1.rxSeq p r
    if !q.2 then q.1 else q.1.newPacket p r

/-! Sending (R161, R162, R169, R187). -/

/-- The sending rate in 1/65,536 Mbit/s: MAX_RATE while the control is off (R188). -/
def State.rate (s : State) (q : Nat) : Nat :=
  if s.on Reg.TRN_CC_CTRL_ENABLE then (s.connOf q).rate
  else 65536 * s.rd Reg.TRN_CC_TC1_MAX_RATE (s.rd Reg.QP_DESC0_TC q)

/-- Sets the sending rate and shows it in Mbit/s, to the nearest. -/
def State.setRate (s : State) (q r : Nat) : State :=
  (s.setConn q { s.connOf q with rate := r }).wr Reg.TRN_CCQ_RATE_RATE q ((r + 32768) / 65536)

/-- The time a packet's wire bits take at a rate, in ns (R187). -/
def paceNs (bytes rate : Nat) : Nat := ceilDiv (8 * bytes * 1000 * 65536) rate

/-- An entropy value for a new packet: round robin over those not on hold, or the one released soonest (R169). -/
def State.nextEntropy (s : State) (q : Nat) : Nat :=
  let c := s.connOf q
  let n := s.numPaths q
  match ((List.range n).map (fun k => (c.nextE + k) % n)).find? (fun e => !c.holds.any (·.1 == e)) with
  | some e => e
  | none => (c.holds.foldl (fun b x => if x.2 < b.2 then x else b) (c.holds.headD (0, 0))).1

/-- Is every earlier operation of a queue pair complete (R110, R173)? -/
def Sq.earlierDone (q : Sq) (serial : Nat) : Bool :=
  q.ops.all fun o => decide (serial ≤ o.serial) || o.st == .done || o.sqe.opcode == 0x10

/-- The atomics of a queue pair outstanding (R162). -/
def Sq.atomicsOut (q : Sq) : Nat := (q.ops.filter (fun o => (o.sqe.opcode == 5 || o.sqe.opcode == 6) && o.st == .started)).length

/-- May an accepted operation send its first packet? -/
def Sq.mayStart (q : Sq) (o : Op) : Bool :=
  o.st == .queued && o.sqe.opcode != 0 && o.sqe.opcode != 8 && o.sqe.opcode != 0x10 &&
    (o.sqe.xform == 0 || o.sqe.inl.isSome || !ackedKind o.sqe.opcode) && (!o.sqe.fence || q.earlierDone o.serial) &&
    ((o.sqe.opcode != 5 && o.sqe.opcode != 6) || decide (q.atomicsOut < 16))

/-- The packets of a message (R161); READ and atomics take one. -/
def State.pktCount (s : State) (q : Nat) (e : Sqe) : Nat :=
  if e.opcode = 4 ∨ e.opcode = 5 ∨ e.opcode = 6 then 1
  else max 1 (ceilDiv e.len (s.fullPkt q (if e.opcode = 7 then 8 else e.opcode) e.format))

/-- What a queue pair sends next: a resend, a READ response, a READ range asked for again, or a new packet. -/
inductive Next where
  | resend (x : Sent)
  | resp (w : Pkt)
  | again (serial off len : Nat)
  | fresh (o : Op)
  | none

/-- Chooses it: resends first, then responses, then new packets, one message at a time (log entry 22). -/
def State.nextSend (s : State) (q : Nat) : Next :=
  let c := s.connOf q
  match c.sent.find? (fun x => x.resend && !x.hold) with
  | some x => .resend x
  | none =>
    match c.respQ with
    | w :: _ => .resp w
    | [] =>
      if 1024 ≤ d32 (s.rd Reg.TRN_QP_T1_SND_NXT q) (s.rd Reg.TRN_QP_T1_SND_UNA q) then .none
      else
        match (s.sqOf q).ops.find? (fun o => o.st == .started && decide (o.cut < o.npk)) with
        | some o => .fresh o
        | none =>
          match c.reReqs with
          | (n, a, l) :: _ => .again n a l
          | [] =>
            match (s.sqOf q).ops.find? (s.sqOf q).mayStart with
            | some o => .fresh o
            | none => .none

/-- Seals and hands a paced packet to its class queue on entropy `e` (R187, R197, R204); `none` where it cannot go
now. -/
inductive Emit where
  | sent (s : State) (p : Pkt) (port : Nat)
  | wait
  | exhausted (s : State)

def State.emitPkt (s : State) (q e : Nat) (p : Pkt) (copy : State → Nat → Nat → Pkt → State) : Emit :=
  match s.egressPort e q with
  | none => .wait
  | some port =>
    if !s.classOn port then .wait
    else
      match s.sealQp q false with
      | (_, .off) => .wait
      | (s1, .exhausted) => .exhausted s1
      | (s1, .ok nonce) =>
        let p' := { p with entropy := e, nonce, txTime := s.now }
        let c := s1.connOf q
        let b := wireBytes (frameBytes c.vlan.isSome (bit (s.rd Reg.TRN_IP_VALID_IS_V4) c.srcIp) p')
        let s2 := (copy s1 port q p').charge q (s.qpTenant q) p.tc b
        .sent (s2.setConn q { s2.connOf q with nextTx := max c.nextTx s.now + paceNs b (s.rate q) }) p' port

/-- Sends one copy by unicast. -/
def unicast (s : State) (port q : Nat) (p : Pkt) : State := s.handOver port q p

/-- Are all members of a mask marked fenced in the active copy (R224)? -/
def State.allFenced (s : State) (tree mask : Nat) : Bool := mask &&& s.rd Reg.FWP_MC_FENCED_MASK_ACT tree == mask

/-- The copies of a frame on every branch of a tree but the one it came on (R224): those of a branch that is down
or wholly fenced are dropped, counted once. -/
def State.replicate (s : State) (tree : Nat) (except : Option Nat) (f : Frame) : State :=
  let brs := (List.range (s.rd Reg.FWP_MC_CFG_BRANCHES_ACT tree)).map (fun b => (s.rd Reg.FWP_MC_BR_PORT_ACT (ix tree b), s.rd Reg.FWP_MC_MEMB_MASK_ACT (ix tree b)))
  let use := brs.filter (fun b => some b.1 ≠ except)
  let ok := use.filter (fun b => s.portUp b.1 && !s.allFenced tree b.2)
  let s1 := ok.foldl (fun s b => (s.enqueue b.1 { f with tree := some tree }).inc Reg.FWP_MC_COPIES_COUNT) s
  if ok.length < use.length then s1.inc Reg.FWP_MC_BRANCH_DROP_COUNT else s1

/-- Sends a packet of a multicast queue pair into its tree on this module (R224, R321). -/
def State.multicast (tree : Nat) (s : State) (_port q : Nat) (p : Pkt) : State :=
  let c := s.connOf q
  let v4 := bit (s.rd Reg.TRN_IP_VALID_IS_V4) c.srcIp
  (s.replicate tree none { bytes := frameBytes c.vlan.isSome v4 p, tc := p.tc, pkt := some p, ect := true, dstModule := p.dstMod, ttl := s.rd Reg.TRN_CTRL_HOP_LIMIT }).countTx q p

/-- The tree of a multicast queue pair. -/
def State.treeOf (s : State) (q : Nat) : Option Nat := (s.connOf q).mcast.bind fun x => (s.pelOf x.1).tree

/-- A local operation fails (R97, R104): before its first packet it alone completes; once some of its packets are
out, or for a violation, its queue pair enters ERROR (log entry 23). -/
def State.opFail (s : State) (q : Nat) (o : Op) (code detail : Nat) : State :=
  if code ≠ Code.accessViolation ∧ (o.cut = 0 ∨ o.sqe.opcode = 4) then s.finishOp q o.serial code detail
  else s.qpError q code detail (some o.serial)

/-- What gathering a packet's payload gives. -/
inductive Gather where
  | bytes (b : List Byte)
  | miss (vas : List Nat)
  | bad (kind va : Nat)
  | memErr
  | err

/-- Gathers `n` bytes at offset `off` of an operation's local buffer; `data` is what accelerator memory holds
there, `err` tells of uncorrectable data. -/
def State.gather (s : State) (q : Nat) (o : Op) (off n : Nat) (data : List Byte) (err : Nat) : State × Gather :=
  match o.sqe.inl with
  | some b => (s, .bytes ((b.drop off).take n))
  | none =>
    match s.range q (s.rd Reg.QP_DESC0_CONTEXT q) o.sqe.localWin .read (o.sqe.laddr + off) n with
    | (s1, .bad k va) => (s1, .bad k va)
    | (s1, .miss vas) => (s1, .miss vas)
    | (s1, .ok l) =>
      if s1.rangePoisoned l then (s1, .memErr)
      else if err ≠ 0 ∧ (touchesHost l ∨ err = 1) then (s1, if err = 1 then .memErr else .err)
      else (s1.countReads q l, .bytes (s1.readRange l data))

/-- The packet opcode of a submission opcode (R111, R151). -/
def pktOpc : Nat → Nat
  | 5 => 6
  | 6 => 7
  | 7 => 8
  | o => o

/-- Packet `k` of an operation without its payload (R151 to R154). -/
def State.buildPkt (s : State) (q : Nat) (o : Op) (k psn : Nat) : Pkt :=
  let e := o.sqe
  let opc := pktOpc e.opcode
  let f := s.fullPkt q opc e.format
  let p := { s.hdr q opc psn o.msn with ackReq := decide (k + 1 = o.npk) }
  match opc with
  | 1 => { p with target := o.ssn, pktOffset := k * f, msgLen := e.len, imm := if e.immValid then e.imm else 0, immValid := e.immValid }
  | 2 => { p with rkey := e.rkey, target := e.raddr, pktOffset := k * f, msgLen := e.len }
  | 3 => { p with rkey := e.rkey, target := e.raddr, pktOffset := k * f, msgLen := e.len, imm := e.imm, immValid := true }
  | 4 => { p with rkey := e.rkey, target := e.raddr, rangeOffset := 0, rangeLen := e.len, msgLen := e.len }
  | 6 => { p with rkey := e.rkey, target := e.raddr, op0 := e.op0 }
  | 7 => { p with rkey := e.rkey, target := e.raddr, op0 := e.op0, op1 := e.op1 }
  | 8 => { p with rkey := e.rkey, target := e.raddr, pktOffset := k * f, msgLen := e.len, format := e.format }
  | _ =>
    let ext := if opc = 0x18 ∨ opc = 0x19 then e.raw.take 16 ++ leBytes 4 (k * f) ++ e.raw.drop 20 else e.raw
    { p with ext, pktOffset := k * f, msgLen := e.len }

/-- Starts an operation (R161): its MSN, SSN, packets and first PSN. -/
def State.startOp (s : State) (q : Nat) (o : Op) : State × Op :=
  let c := s.connOf q
  let o' := { o with st := .started, msn := s.rd Reg.TRN_QP_T4_MSN_NEXT q, ssn := c.ssnNext, npk := s.pktCount q o.sqe,
                     psn0 := s.rd Reg.TRN_QP_T1_SND_NXT q }
  (((s.inc Reg.TRN_QP_T4_MSN_NEXT q).setConn q { c with ssnNext := if o.sqe.opcode = 1 then (c.ssnNext + 1) % 2 ^ 32 else c.ssnNext }).updOp
    q o.serial (fun _ => o'), o')

/-- The members a packet of a queue pair must reach: 0 alone by unicast. -/
def State.needs (s : State) (q : Nat) : List Nat :=
  match (s.connOf q).mcast, s.treeOf q with
  | some (p, _), some t => (s.mcMembers p).filter (fun m => !bit (s.rd Reg.FWP_MC_FENCED_MASK_ACT t) m)
  | some (p, _), none => s.mcMembers p
  | none, _ => [0]

/-- The fenced members of a multicast queue pair, as a mask (R225). -/
def State.fencedMask (s : State) (q : Nat) : Nat :=
  match (s.connOf q).mcast, s.treeOf q with
  | some (p, _), some t => (s.mcMembers p).foldl (fun v m => if bit (s.rd Reg.FWP_MC_FENCED_MASK_ACT t) m then setBit v m else v) 0
  | _, _ => 0

/-- Sends a new sequenced packet of an operation: the next PSN, kept until it is acknowledged (R162). -/
def State.sendFresh (s : State) (q : Nat) (o : Op) (p : Pkt) : State :=
  let e := s.nextEntropy q
  match s.emitPkt q e p (match s.treeOf q with
    | some t => State.multicast t
    | none => unicast) with
  | .wait => s
  | .exhausted s1 => s1.qpError q Code.nonceExhausted 0 (some o.serial)
  | .sent s1 p' _ =>
    let c := s1.connOf q
    let add := (s1.needs q).map (fun m => ({ psn := p.psn, serial := o.serial, pkt := p', txTime := p'.txTime, entropy := e, mem := m } : Sent))
    ((s1.setConn q { c with sent := c.sent ++ add, nextE := (e + 1) % s1.numPaths q }).wr Reg.TRN_QP_T1_SND_NXT q (p.psn + 1))

/-- Puts back a violation of a local gather (R97). -/
def State.localViolation (s : State) (q : Nat) (o : Op) (k va : Nat) : State :=
  (s.violation k (s.qpTenant q) (s.rd Reg.QP_DESC0_CONTEXT q) (s.rd Reg.QP_DESC3_CLUSTER q) va).opFail q o Code.accessViolation k

/-- Sends the next new packet of an operation, gathering its payload. -/
def State.transmitFresh (s : State) (q : Nat) (o : Op) (data : List Byte) (err : Nat) : State :=
  let t := if o.st = .queued then s.startOp q o else (s, o)
  let s1 := t.1
  let o1 := t.2
  let psn := s1.rd Reg.TRN_QP_T1_SND_NXT q
  let p := s1.buildPkt q o1 o1.cut psn
  let f := s1.fullPkt q p.opc p.format
  let n := if p.opc = 4 ∨ p.opc = 6 ∨ p.opc = 7 then 0 else min f (o1.sqe.len - o1.cut * f)
  let g := if n = 0 then (s1, Gather.bytes []) else s1.gather q o1 (o1.cut * f) n data err
  match g.2 with
  | .bad k va => g.1.localViolation q o1 k va
  | .miss vas => g.1.walkFor q (s.rd Reg.QP_DESC0_CONTEXT q) .read (.op q o.serial) vas
  | .memErr => g.1.opFail q o1 Code.memoryError 0
  | .err => g.1.opFail q o1 Code.hostDataError 0
  | .bytes b =>
    let s2 := g.1.sendFresh q o1 { p with payload := b }
    if s2.rd Reg.TRN_QP_T1_SND_NXT q = psn then (if s2.cst q = Cst.connected then s else s2)
    else s2.updOp q o.serial (fun x => { x with cut := x.cut + 1, partialMask := x.partialMask ||| s2.fencedMask q })

/-- Resends a copy: RETX, a fresh TX_TIME and the entropy value after that of the lost copy (R167, R169); to the
member that lacks it on a multicast queue pair (R321). -/
def State.transmitResend (s : State) (q : Nat) (x : Sent) : State :=
  let e := (x.entropy + 1) % s.numPaths q
  let p0 := { x.pkt with retx := true, ackReq := true, epoch := s.rd Reg.TRN_QP_T0_EPOCH q }
  let p := match (s.connOf q).mcast with
    | none => { p0 with dstMod := s.rd Reg.TRN_QP_T0_PEER_MODULE q, dstQp := s.rd Reg.TRN_QP_T0_PEER_QP q }
    | some (pel, sl) =>
      match (s.pelOf pel).members[x.mem]? with
      | none => p0
      | some m => { p0 with dstMod := m.module, dstQp := m.baseQp + sl }
  match s.emitPkt q e p unicast with
  | .wait => s
  | .exhausted s1 => s1.qpError q Code.nonceExhausted 0 (some x.serial)
  | .sent s1 p' _ =>
    let c := s1.connOf q
    let x' := { x with sends := if x.uncounted then x.sends else x.sends + 1, txTime := p'.txTime, entropy := e, resend := false,
                       uncounted := false, pkt := p' }
    (((s1.setConn q { c with sent := replaceFirst (fun y => y.psn == x.psn && y.mem == x.mem) (fun _ => x') c.sent }).inc
      Reg.TRN_QP_RETX_COUNT q).inc Reg.TRN_RETX_PKTS_COUNT).pmc 10 0x22 (some (s.qpTenant q))

/-- Sends the next READ_RESP of a range (R176), or answers uncorrectable data with FAIL_OP (R182). -/
def State.transmitResp (s : State) (q : Nat) (w : Pkt) (data : List Byte) (err : Nat) : State :=
  let left := w.rangeOffset + w.rangeLen - w.pktOffset
  let n := min (s.mtu q) left
  let drop (s : State) : State := s.setConn q { s.connOf q with respQ := (s.connOf q).respQ.tail }
  match s.range q w.op0 (w.op1 == 1) .read (w.target + w.pktOffset) n with
  | (s1, .bad k va) => (s1.violation k (s.qpTenant q) w.op0 (s.rd Reg.QP_DESC3_CLUSTER q) va).remoteViolation q k va w
  | (s1, .miss vas) => s1.walkFor q w.op0 .read (.resp q w.psn) vas
  | (s1, .ok l) =>
    let mem : Bool := s1.rangePoisoned l || err == 1
    if mem ∨ (err ≠ 0 ∧ touchesHost l) then
      (drop s1).nakFail q w.psn w.msn (if mem then Code.memoryError else Code.hostDataError)
    else
      let e := s1.nextEntropy q
      let p := { s1.hdr q 5 0 w.msn with readPsn := w.psn, pktOffset := w.pktOffset, payload := s1.readRange l data }
      match (s1.countReads q l).emitPkt q e p unicast with
      | .wait => s
      | .exhausted s2 => s2.qpError q Code.nonceExhausted 0 none
      | .sent s2 _ _ =>
        let c := s2.connOf q
        let q' := if n < left then { w with pktOffset := w.pktOffset + n } :: c.respQ.tail else c.respQ.tail
        s2.setConn q { c with respQ := q', nextE := (e + 1) % s2.numPaths q }

/-- Sends a new READ_REQ for a missing range, with a new PSN and the MSN of the READ (R176). -/
def State.transmitAgain (s : State) (q serial off len : Nat) : State :=
  match (s.sqOf q).ops.find? (fun o => o.serial == serial && o.st == .started) with
  | none => s.setConn q { s.connOf q with reReqs := (s.connOf q).reReqs.tail }
  | some o =>
    let psn := s.rd Reg.TRN_QP_T1_SND_NXT q
    let p := { s.buildPkt q o 0 psn with rangeOffset := off, rangeLen := len }
    let s1 := s.sendFresh q o p
    if s1.rd Reg.TRN_QP_T1_SND_NXT q = psn then s1
    else s1.setConn q { s1.connOf q with reReqs := (s1.connOf q).reReqs.tail }

/-- One packet of a queue pair at its pacing time (R187). -/
def State.transmit (s : State) (q : Nat) (data : List Byte) (err : Nat) : State :=
  if !s.on Reg.TRN_CTRL_ENABLE || !s.qpValid q || s.cst q != Cst.connected || decide (s.now < (s.connOf q).nextTx) ||
      s.rate q == 0 || (s.steer q).isNone || !s.shapersPass q (s.qpTenant q) (s.rd Reg.QP_DESC0_TC q) then s
  else
    match s.nextSend q with
    | .resend x => s.transmitResend q x
    | .resp w => s.transmitResp q w data err
    | .again n a l => s.transmitAgain q n a l
    | .fresh o => s.transmitFresh q o data err
    | .none => s

/-- Sends, and releases the hub slots of what is sent (R253). -/
def State.transmitDone (s : State) (q : Nat) (data : List Byte) (err : Nat) : State := (s.transmit q data err).releaseAll

/-! What ACKs, NAKs and timers do at the requester (R167, R168, R172, R182, R183). -/

/-- SND_UNA: the oldest PSN not acknowledged (R162). -/
def State.settleUna (s : State) (q : Nat) : State :=
  let nxt := s.rd Reg.TRN_QP_T1_SND_NXT q
  let old := s.rd Reg.TRN_QP_T1_SND_UNA q
  s.wr Reg.TRN_QP_T1_SND_UNA q ((s.connOf q).sent.foldl (fun b x => if d32 x.psn old < d32 b old then x.psn else b) nxt)

/-- Ends the operations whose every packet is acknowledged (R172), and READs of no bytes. -/
def State.endAcked (s : State) (q : Nat) : State :=
  (s.sqOf q).ops.foldl (fun s o =>
    let c := s.connOf q
    if c.allAcked o then
      (if 0x18 ≤ o.sqe.opcode then (s.finishOp q o.serial Code.success 0).releaseOp q o.serial
       else
        (s.updOp q o.serial (fun x => { x with bytes := o.sqe.len, aux := o.partialMask })).finishOp q o.serial
          (if o.partialMask = 0 then Code.success else Code.partialDelivery) 0)
    else if o.sqe.opcode = 4 ∧ o.sqe.len = 0 ∧ o.st = .started ∧ o.cut = 1 ∧ !c.sent.any (·.serial == o.serial) then
      s.finishOp q o.serial Code.success 0
    else s) s

/-- A NOP completes with SUCCESS once started (R111). -/
def State.settleNops (s : State) (q : Nat) : State :=
  if s.cst q ≠ Cst.connected then s
  else (s.sqOf q).ops.foldl (fun s o =>
    if o.sqe.opcode = 0 ∧ o.st = .queued ∧ (!o.sqe.fence || (s.sqOf q).earlierDone o.serial) then s.finishOp q o.serial Code.success 0
    else s) s

/-- RTO limits in ns (R167, R185). -/
def State.rtoMin (s : State) : Nat := 1000 * max 1 (s.rd Reg.TRN_TIMERS0_RTO_MIN_US)
def State.rtoMax (s : State) : Nat := 1000000 * max 1 (s.rd Reg.TRN_TIMERS0_RTO_MAX_MS)

/-- The RTO without doublings (R167). -/
def State.baseRto (s : State) (q : Nat) : Nat :=
  min s.rtoMax (max s.rtoMin (s.rd Reg.TRN_QP_T3_SRTT_NS q + 4 * (s.connOf q).rttvar))

/-- Takes an RTT sample (R167) and the rate control's part of it (R188). -/
def State.rttSample (s : State) (q r ce n : Nat) : State :=
  let c := s.connOf q
  let srtt := s.rd Reg.TRN_QP_T3_SRTT_NS q
  let dev := if srtt < r then r - srtt else srtt - r
  let v := if c.rttAny then (3 * c.rttvar + dev) / 4 else r / 2
  let m := if c.rttAny then (7 * srtt + r) / 8 else r
  let c' := { c with rttvar := v, rttAny := true, rMin := some (min r (c.rMin.getD r)), ceSum := c.ceSum + ce,
                     ackedSum := c.ackedSum + n, ackSeen := true }
  ((s.setConn q c').wr Reg.TRN_QP_T3_SRTT_NS q m).count Reg.TRN_CCQ_STAT_CE_SEEN q ce

/-- Does an ACK acknowledge a PSN (R155)? -/
def pktAcks (p : Pkt) (psn : Nat) : Bool :=
  decide (2 ^ 31 ≤ d32 psn p.cumPsn) || (decide (d32 psn p.sackBase < 128) && bit p.sack (d32 psn p.sackBase))

/-- Is a sent packet an atomic? Its ATOMIC_ACK answers it (R172, log entry 24). -/
def Sent.atomic (x : Sent) : Bool := x.pkt.opc == 6 || x.pkt.opc == 7

/-- A PSN without sends left fails its operation (R168). -/
def State.retryOut (s : State) (q : Nat) (x : Sent) : State := s.qpError q Code.retryExceeded 0 (some x.serial)

/-- A lost PSN: resent, or out of retries (R167, R168). -/
def State.lost (q : Nat) (s : State) (x : Sent) : State :=
  if s.cst q ≠ Cst.connected then s
  else if s.rd Reg.TRN_QP_T0_RETRY_MAX q < x.sends then s.retryOut q x
  else
    let c := s.connOf q
    s.setConn q { c with sent := c.sent.map (fun y => if y.psn == x.psn && y.mem == x.mem then { y with resend := true } else y) }

/-- Judges what a multicast queue pair has outstanding against the active copy of the fenced members (R225): their
copies are no longer waited for. -/
def State.dropFenced (s : State) (q : Nat) : State :=
  let mask := s.fencedMask q
  let c := s.connOf q
  let gone := c.sent.filter (fun x => bit mask x.mem)
  if mask = 0 ∨ c.mcast = none then s
  else
    let s1 := gone.foldl (fun s x => s.updOp q x.serial (fun o => { o with partialMask := setBit o.partialMask x.mem })) s
    ((s1.setConn q { c with sent := c.sent.filter (fun x => !bit mask x.mem) }).settleUna q).endAcked q

/-- An ACK (R167, R172). -/
def State.rxAck (s : State) (p : Pkt) : State :=
  let q := p.dstQp
  match s.peerMember q p with
  | none => s
  | some mem =>
    let c := s.connOf q
    let got := c.sent.filter (fun x => x.mem == mem && pktAcks p x.psn && !x.atomic)
    let keep := c.sent.filter (fun x => !(x.mem == mem && pktAcks p x.psn && !x.atomic))
    let newest := got.foldl (fun a x => max a x.txTime) 0
    let s1 := (s.setConn q { c with sent := keep }).settleUna q
    let s2 := s1.rttSample q (s.now - p.tsEcho - p.ackDelay) p.ceCount got.length
    let s3 := if got = [] then s2 else s2.wr Reg.TRN_QP_T3_RTO_NS q (s2.baseRto q)
    let late := keep.filter (fun x => x.mem == mem && !x.resend && !x.hold && decide (x.txTime + s.rd Reg.TRN_TIMERS0_REORDER_NS < newest))
    ((late.foldl (State.lost q) s3).endAcked q).settleNops q

/-- Halves the rate at an RTO expiry (R188). -/
def State.halveRate (s : State) (q : Nat) : State :=
  if s.on Reg.TRN_CC_CTRL_ENABLE then
    (s.setRate q (max (65536 * max 1 (s.rd Reg.TRN_CC_TC1_MIN_RATE (s.rd Reg.QP_DESC0_TC q))) ((s.connOf q).rate / 2))).count Reg.TRN_CCQ_STAT_DECREASES q
  else s

/-- The sent copy of a PSN (and member). -/
def Conn.sentOf (c : Conn) (psn mem : Nat) : Option Sent := c.sent.find? (fun x => x.psn == psn && x.mem == mem)

/-- An RTO expires for a copy (R167, R169, R188). -/
def State.rtoExpire (s : State) (q psn mem : Nat) : State :=
  if s.cst q ≠ Cst.connected then s
  else
    match (s.connOf q).sentOf psn mem with
    | none => s
    | some x =>
      if x.hold ∨ x.resend then s
      else
        let c := s.connOf q
        let s1 := s.setConn q { c with holds := c.holds.filter (·.1 ≠ x.entropy) ++ [(x.entropy, s.now + 8 * s.rd Reg.TRN_QP_T3_SRTT_NS q)] }
        let s2 := (s1.wr Reg.TRN_QP_T3_RTO_NS q (min s.rtoMax (2 * s.rd Reg.TRN_QP_T3_RTO_NS q))).halveRate q
        State.lost q s2 x

/-- Resends every packet not acknowledged (R159 REPATH and thaw). -/
def State.resendAll (s : State) (q : Nat) (clearCounts : Bool) : State :=
  let c := s.connOf q
  s.setConn q { c with sent := c.sent.map (fun x => { x with resend := true, hold := false, uncounted := true, sends := if clearCounts then 1 else x.sends }) }

/-- A RESEND_AFTER NAK (R182, R183): the RTO of the PSN is suspended until its backoff ends. -/
def State.rxNakResend (s : State) (p : Pkt) : State :=
  let q := p.dstQp
  match s.peerMember q p with
  | none => s
  | some mem =>
    let c := s.connOf q
    s.setConn q { c with sent := c.sent.map (fun x =>
      if x.psn == p.psn && x.mem == mem then { x with hold := true, resend := false, nakAt := some (x.nakAt.getD s.now), nakReason := p.reason }
      else x) }

/-- A FAIL_OP NAK (R182). -/
def State.rxNakFail (s : State) (p : Pkt) : State :=
  let q := p.dstQp
  let c := s.connOf q
  let op := match c.sent.find? (·.psn == p.psn) with
    | some x => some x.serial
    | none => ((s.sqOf q).ops.find? (fun o => o.st == .started && o.msn == p.msn)).map (·.serial)
  let s1 := (s.setConn q { c with sent := c.sent.filter (fun x => x.psn ≠ p.psn) }).settleUna q
  match op with
  | none => s1
  | some n => (s1.finishOp q n Code.remoteError p.detail).settleNops q

/-- A FATAL NAK (R182). -/
def State.rxNakFatal (s : State) (p : Pkt) : State :=
  let q := p.dstQp
  s.qpError q p.syndrome p.detail (((s.connOf q).sent.find? (fun x => x.psn == p.psn && x.pkt.msn == p.msn)).map (·.serial)) true

/-- An ATOMIC_ACK (R172). -/
def State.rxAtomicAck (s : State) (p : Pkt) : State :=
  let q := p.dstQp
  let c := s.connOf q
  match c.sent.find? (fun x => x.psn == p.psn && x.atomic) with
  | none => s
  | some x =>
    let s1 := (s.setConn q { c with sent := c.sent.filter (fun y => y.psn ≠ p.psn) }).settleUna q
    ((s1.updOp q x.serial (fun o => { o with aux := p.old, bytes := 8 })).finishOp q x.serial Code.success 0).settleNops q

/-- The end of an update interval of the rate control (R188). -/
def State.rateUpdate (s : State) (q : Nat) : State :=
  let c := s.connOf q
  let t := s.rd Reg.QP_DESC0_TC q
  if !s.on Reg.TRN_CC_CTRL_ENABLE || !c.ackSeen then s
  else
    let n := max 1 c.ackedSum
    let rmin := c.rMin.getD 0
    let target := s.rd Reg.TRN_CC_TC0_TARGET_NS t
    let md := s.rd Reg.TRN_CC_TC0_MD t
    let (r, dec) :=
      if 0 < c.ceSum then (c.rate - c.rate * md * min c.ceSum n / (256 * n), true)
      else if target < rmin then
        let byGain := c.rate * s.rd Reg.TRN_CC_TC0_GAIN t * (rmin - target) / (256 * rmin)
        let byMax := c.rate * s.rd Reg.TRN_CC_TC0_MAX_DEC t / 256
        (c.rate - min byGain byMax, true)
      else (c.rate + 65536 * s.rd Reg.TRN_CC_TC0_AI_MBPS t, false)
    let lo := 65536 * max 1 (s.rd Reg.TRN_CC_TC1_MIN_RATE t)
    let hi := 65536 * s.rd Reg.TRN_CC_TC1_MAX_RATE t
    let s1 := s.setConn q { c with rMin := none, ceSum := 0, ackedSum := 0, ackSeen := false }
    let s2 := s1.setRate q (min hi (max lo r))
    if dec then s2.count Reg.TRN_CCQ_STAT_DECREASES q else s2

end Sys2Proof.Machine
end

