-- ==== Sys2Proof/Machine/FetchOps.lean ====
section
/-! DEFINITION. The submission side of a queue pair: doorbells and fetches (R115, R116, R118, R119, R142 to R144), and
what accepting an entry does (R109 to R113, R118, R137, R305 to R307). -/

namespace Sys2Proof.Machine

open Sys2Proof

def State.modSq (s : State) (q : Nat) (f : Sq → Sq) : State := s.setSq q (f (s.sqOf q))

/-- The ring size of a queue pair. -/
def State.ringSize (s : State) (q : Nat) : Nat := 2 ^ s.rd Reg.QP_DESC0_LOG2_SIZE q

/-- Is the queue pair a legacy one? -/
def State.legacy (s : State) (q : Nat) : Bool := s.on Reg.QP_DESC0_LEGACY q

/-- Does the queue scheduler fetch: in RUN or TRIM, with no supply dip (R435 step 1, R442 step 3)? -/
def State.mayFetch (s : State) : Bool := s.awake && !s.on Reg.PWR_STATUS_DIP_ACTIVE

/-- A fetch that may not go on: the doorbell stays latched until the scheduler runs again (R435, R439, R442). -/
def State.latchBell (s : State) (q : Nat) : State :=
  (s.modSq q (fun (x : Sq) => { x with phase := .none, recorded := true })).setSched q Sched.idle

/-- Asks for `n` slots from the head on. -/
def State.askSlots (s : State) (q n : Nat) : State :=
  if !s.mayFetch then s.latchBell q else
  (s.modSq q (fun (x : Sq) => { x with phase := .slots, start := s.rd Reg.QP_HEAD_HEAD q })).emit (.slotsRead q (s.rd Reg.QP_HEAD_HEAD q) n)

/-- The entries from h up to T_seen of a legacy queue pair (R142, R144). -/
def State.legacyLeft (s : State) (q : Nat) : Nat :=
  (s.rd Reg.QP_HEAD_TAIL_SEEN q + 2 * s.ringSize q - s.rd Reg.QP_HEAD_HEAD q) % (2 * s.ringSize q)

/-- Reads the index block, or the slots alone on a legacy queue pair (R115, R144). -/
def State.readRing (s : State) (q : Nat) : State :=
  if !s.mayFetch then s.latchBell q
  else if s.legacy q then s.askSlots q (s.legacyLeft q) else (s.modSq q (fun (x : Sq) => { x with phase := .index })).emit (.indexRead q)

/-- Begins a fetch (R115, R119). -/
def State.beginFetch (s : State) (q : Nat) : State :=
  if s.legacy q ∧ s.legacyLeft q = 0 then (s.modSq q (fun (x : Sq) => { x with phase := .none, bell := false, again := false, held := false })).setSched q Sched.idle
  else
    ((s.modSq q (fun (x : Sq) => { x with bell := false, again := false, held := false, took := false, refetches := 0 })).setSched q Sched.fetch).readRing q

/-- A doorbell that its queue pair takes (R115 step 6, R116, R119). -/
def State.ring (s : State) (q : Nat) : State :=
  let sq := s.sqOf q
  match sq.phase with
  | .none => s.beginFetch q
  | .wait => (s.setSq q { sq with refetches := 0 }).readRing q
  | _ => if s.sched q = Sched.refetch then s.setSq q { sq with again := true, refetches := 0 } else s.setSq q { sq with bell := true }

/-- The queue scheduler runs again: latched doorbells are served (R439, R442). -/
def State.resumeFetch (s : State) : State :=
  if !s.mayFetch then s
  else
    (s.qpList.filter (fun q => (s.sqOf q).recorded && !s.frozen (s.qpTenant q))).foldl (fun s q =>
      (s.modSq q (fun (x : Sq) => { x with recorded := false })).ring q) s

/-- Is a doorbell of a queue pair discarded (R119, R129, R132, R343)? -/
def State.bellOff (s : State) (q : Nat) : Bool :=
  !s.on Reg.QP_CTRL_ENABLE || s.sched q == Sched.error || s.sched q == Sched.fenced || (s.sqOf q).destroying.isSome ||
    (s.qpTenant q != provider && s.slice (s.qpTenant q) == 6)

/-- A native doorbell, whose value is ignored (R115); one of a frozen slice is recorded (R335). -/
def State.doorbell (s : State) (q : Nat) : State :=
  if !s.qpValid q then s
  else if s.bellOff q then s.inc Reg.QP_DB_DISCARD_COUNT
  else if s.frozen (s.qpTenant q) then s.modSq q (fun (x : Sq) => { x with recorded := true })
  else s.ring q

/-- A failure of the submission side: a completion with WORK_TAG 0, an event, and ERROR (R115, R119). A legacy queue
pair has no ring for the completion (R136). -/
def State.sqFail (s : State) (q code detail arg : Nat) : State :=
  let s1 := if s.legacy q then s else s.pushCqe (s.rd Reg.QP_DESC0_CQ q) { qp := q, status := code, detail }
  (s1.event (s.qpTenant q) code detail (evObj 0 q) arg).qpError q code detail none

/-- An invalid tail (R115 step 1, R142). -/
def State.indexError (s : State) (q : Nat) : State :=
  ((s.inc Reg.QP_INDEX_ERR_COUNT).sqFail q Code.sqIndexError 0 (s.free 64)).bump

/-- A legacy doorbell (R142). -/
def State.legacyBell (s : State) (q v : Nat) : State :=
  if !s.qpValid q then s
  else if s.bellOff q then s.inc Reg.QP_DB_DISCARD_COUNT
  else
    let t := v % 2 ^ 32
    let m := 2 * s.ringSize q
    let h := s.rd Reg.QP_HEAD_HEAD q
    let dt := (t + m - h) % m
    let ds := s.legacyLeft q
    if m ≤ t ∨ s.ringSize q < dt then s.indexError q
    else if dt < ds then s
    else
      let s1 := s.wr Reg.QP_HEAD_TAIL_SEEN q t
      if s.frozen (s.qpTenant q) then s1.modSq q (fun (x : Sq) => { x with recorded := true }) else s1.ring q

/-! Acceptance. -/

/-- What a COLLECTIVE entry holds (R305); a legacy one is an ALLREDUCE of FP32 at once (R138, R306), its operand length
in bytes. -/
def colFields (leg : Bool) (q serial : Nat) (e : Sqe) : PelOp :=
  let b := e.raw
  if leg then
    { qp := q, serial, cop := 0, format := 0, outFormat := 0, src := leAt b 8 8, dst := leAt b 16 8, count := leAt b 4 4 / 4,
      launchAt := 0, stepCt := 0, report := 0, capRows := 0, root := 0, localWin := false }
  else
  { qp := q, serial, cop := byteAt b 34, format := byteAt b 2, outFormat := byteAt b 35, src := leAt b 8 8, dst := leAt b 16 8,
    count := leAt b 24 8, launchAt := leAt b 36 8, stepCt := leAt b 44 4, report := leAt b 48 8, capRows := leAt b 56 4,
    root := leAt b 60 2, localWin := e.localWin, base := leAt b 36 8 }

/-- The peloton a COLLECTIVE entry names. -/
def colPel (leg : Bool) (e : Sqe) : Nat := if leg then leAt e.raw 24 2 % 4096 else leAt e.raw 32 2 % 4096

/-- Is FORMAT one that a reduction mode takes: an addend format of R279 under EXACT, FP32, BF16 or FP16 else (R305)? -/
def modeFormat (mode f : Nat) : Bool :=
  if mode = 0 then 1 ≤ f % 16 && f % 16 ≤ 0xB else f % 16 ≤ 2

/-- Does a COLLECTIVE entry break a field of R305, or name an EXACT peloton in legacy form (R138)? -/
def State.colBad (s : State) (q : Nat) (e : Sqe) : Bool :=
  let leg := s.legacy q
  let o := colFields leg q 0 e
  let pl := s.pelOf (colPel leg e)
  (leg && (pl.mode == 0 || leAt e.raw 4 4 % 4 != 0)) ||
  pl.st == .free || pl.st == .reserved || pl.tenant != s.qpTenant q || e.xform != 0 || !bit pl.cops o.cop || decide (4 < o.cop) ||
    (o.cop == 4 && (o.count != 0 || o.capRows == 0 || decide (65536 < o.capRows))) ||
    (o.cop == 3 && decide (pl.members.length ≤ o.root)) || (o.launchAt != 0 && decide (o.stepCt < 4096)) ||
    o.report % 4096 != 0 || !modeFormat pl.mode o.format || o.outFormat % 16 == 0xF

/-- The DETAIL with which an entry completes as BAD_ENTRY (R110 to R113, R255, R261, R305); `none` for a good one. -/
def State.entryBad (s : State) (q : Nat) (e : Sqe) : Option Nat :=
  if e.bad then some 0
  else if e.opcode = 8 then (if s.colBad q e then some 0 else none)
  else if e.xform ≠ 0 ∧ e.inl = none ∧ ackedKind e.opcode then
    (if !s.on Reg.CLU_XFORM_ENT_VALID e.xform then some 0xC0 else if e.format % 16 = 0xF then some 0 else none)
  else none

/-- A COLLECTIVE is accepted (R305, R307, R323): refused by R45, completed at once by a peloton that has left, else it
arms its launch and waits for the peloton. -/
def State.acceptCollective (s : State) (p : Nat) (o : PelOp) : State :=
  let pl := s.pelOf p
  if pl.st = .excluded then s.pelOpDone p o Code.memberFenced 2 0
  else if pl.st = .error then s.pelOpDone p o Code.stepTimeout 0 0
  else if o.launchAt ≠ 0 ∧ !s.mayArm o.launchAt then s.pelOpDone p o Code.schedulePast 0 0
  else
    let s1 := if o.launchAt = 0 then s else s.arm (.launch p o.serial) o.launchAt
    match pl.op with
    | none => s1.setPel p { pl with op := some o, st := if pl.st = .ready then .armed else pl.st }
    | some _ => s1.setPel p { pl with waitOps := pl.waitOps ++ [o] }

/-- Puts an accepted operation into its queue pair; a POST_RECV counts toward no outstanding limit (R118). -/
def State.addOp (s : State) (q : Nat) (o : Op) : State :=
  let s1 := s.modSq q (fun (x : Sq) => { x with serial := x.serial + 1, ops := x.ops ++ [o] })
  if o.sqe.opcode = 0x10 then s1 else (s1.inc Reg.QP_OUT_COUNT q).inc Reg.QP_MODULE_OUT_COUNT

/-- What an accepted entry starts: a receive is posted (R175), a NOP completes (R111), a COLLECTIVE goes to its peloton,
a message that is gathered gets its work item (R253). -/
def State.startEntry (s : State) (q serial : Nat) (e : Sqe) : State :=
  if e.opcode = 0x10 then
    let r : Recv := { ssn := s.rd Reg.TRN_QP_T4_RECV_POSTED q, serial, tag := e.tag, laddr := e.laddr, len := e.len, localWin := e.localWin }
    (s.setConn q { s.connOf q with recvs := (s.connOf q).recvs ++ [r] }).inc Reg.TRN_QP_T4_RECV_POSTED q
  else if e.opcode = 8 then s.acceptCollective (colPel (s.legacy q) e) (colFields (s.legacy q) q serial e)
  else if e.opcode = 0 then s.settleNops q
  else if ackedKind e.opcode ∧ e.inl = none ∧ e.len ≠ 0 then
    s.postItem 0 q serial (s.rd Reg.QP_DESC0_CONTEXT q) e.laddr e.len e.xform e.xarg
  else s

/-- Is there capacity for an entry (R118, R122)? -/
def State.capacity (s : State) (q : Nat) (e : Sqe) : Bool :=
  (s.legacy q || !s.on Reg.CQ_PEND_FULL (s.rd Reg.QP_DESC0_CQ q)) &&
    (if e.opcode = 0x10 then decide (((s.sqOf q).ops.filter (·.sqe.opcode == 0x10)).length < 1024)
     else decide (s.rd Reg.QP_OUT_COUNT q < s.rd Reg.QP_DESC3_MAX_OUTSTANDING q) && decide (s.rd Reg.QP_MODULE_OUT_COUNT < 32768))

/-- How far an entry got. -/
inductive Took where
  | yes
  | stop
  | full
  | bad
  deriving DecidableEq, Repr

/-- Accepts an entry of `k` slots at the head (R109, R115, R117, R119): the head passes it, a native head is written
after every 16 slots, and a bad entry takes the queue pair to ERROR. -/
def State.accept (s : State) (q k : Nat) (e : Sqe) : State × Took :=
  let h := s.rd Reg.QP_HEAD_HEAD q
  let serial := (s.sqOf q).serial
  if !s.capacity q e then (s, .full)
  else
    let h' := if s.legacy q then (h + k) % (2 * s.ringSize q) else (h + k) % 2 ^ 32
    let bad := s.entryBad q e
    let s1 := ((s.wr Reg.QP_HEAD_HEAD q h').modSq q (fun (x : Sq) => { x with took := true })).addOp q
      { serial, sqe := { e with pos := h } }
    let s2 := if !s.legacy q && decide (d32 h (s.rd Reg.QP_HEAD_TAIL_SEEN q) < 2 ^ 31) then s1.inc Reg.QP_SPEC_HIT_COUNT else s1
    let s3 := if !s.legacy q && decide (16 ≤ d32 h' (s.sqOf q).headWritten) then s2.writeHead q else s2
    match bad with
    | some d => (s3.qpError q Code.badEntry d (some serial), .bad)
    | none => (s3.startEntry q serial e, .yes)

/-- Are the phase bits of slots at count `h` on current (R109)? -/
def phasesOk (log2 : Nat) : Nat → List (List Byte) → Bool
  | _, [] => true
  | h, b :: rest => phaseOk log2 h (byteAt b 63) && phasesOk log2 ((h + 1) % 2 ^ 32) rest

/-- Takes the next whole entry of the slots from the head on (R115 step 3; R137, R144 for a legacy queue pair). -/
def State.acceptNext (s : State) (q : Nat) (slots : List (List Byte)) : State × Took :=
  match slots with
  | [] => (s, .stop)
  | b :: _ =>
    let h := s.rd Reg.QP_HEAD_HEAD q
    if s.frozen (s.qpTenant q) then (s.modSq q (fun (x : Sq) => { x with recorded := true }), .full)
    else if s.legacy q then
      if s.legacyLeft q = 0 ∨ !legacyOwn b then (s, .stop)
      else s.accept q 1 (parseLegacy b)
    else
      let k := slotsOf b
      let sl := slots.take k
      let room := (s.rd Reg.QP_HEAD_TAIL_SEEN q + 16 + 2 ^ 32 - h) % 2 ^ 32
      if sl.length < k ∨ room < k ∨ !phasesOk (s.rd Reg.QP_DESC0_LOG2_SIZE q) h sl then (s, .stop)
      else s.accept q k (parseEntry sl)

/-- Takes entries in ring order until one is not taken. -/
def State.acceptAll (q : Nat) : Nat → List (List Byte) → State → State × Took
  | 0, _, s => (s, .stop)
  | n + 1, slots, s =>
    let r := s.acceptNext q slots
    match r.2 with
    | .yes => State.acceptAll q n (slots.drop (if s.legacy q then 1 else slotsOf (slots.headD []))) r.1
    | _ => r

/-- Writes SQ_HEAD where it has moved; a legacy queue pair has none (R117, R136). -/
def State.showHead (s : State) (q : Nat) : State :=
  if s.legacy q ∨ (s.sqOf q).headWritten = s.rd Reg.QP_HEAD_HEAD q then s else s.writeHead q

/-- The queue pair parks (R115 step 5): counts, and EARLY_DOORBELL at most once per 1 ms. -/
def State.park (s : State) (q : Nat) : State :=
  let s1 := (((s.inc Reg.QP_EARLY_DB_COUNT_COUNT q).inc Reg.QP_EARLY_DB_TOTAL_COUNT).setSched q Sched.parked).modSq q
    (fun (x : Sq) => { x with phase := .none, again := false })
  let due : Bool := match (s.sqOf q).earlyAt with
    | none => true
    | some t => decide (t + 1000000 ≤ s.now)
  let s2 := if s.on Reg.QP_CTRL_EARLY_DB_EVENT ∧ due then
      ((s1.modSq q (fun (x : Sq) => { x with earlyAt := some s.now })).event (s.qpTenant q) Code.earlyDoorbell 0 (evObj 0 q) (s1.free 64)).bump
    else s1
  if (s.sqOf q).bell then s2.beginFetch q else s2

/-- Has the fetch reached the tail (R115 steps 4 and 5; R144)? -/
def State.reached (s : State) (q : Nat) : Bool :=
  if s.legacy q then s.legacyLeft q == 0
  else (s.sqOf q).took && decide (d32 (s.rd Reg.QP_HEAD_HEAD q) (s.rd Reg.QP_HEAD_TAIL_SEEN q) < 2 ^ 31)

/-- The end of one read of slots (R115 steps 4 to 6, R118, R119). -/
def State.endRead (s : State) (q : Nat) (r : Took) : State :=
  let sq := s.sqOf q
  match r with
  | .bad => s
  | .full => ((s.showHead q).modSq q (fun (x : Sq) => { x with phase := .none, bell := false, again := false, held := true })).setSched q Sched.idle
  | _ =>
    if s.reached q then
      let s1 := (s.showHead q).modSq q (fun (x : Sq) => { x with phase := .none })
      if sq.bell ∨ sq.again then s1.beginFetch q else s1.setSched q Sched.idle
    else
      let moved := sq.start != s.rd Reg.QP_HEAD_HEAD q
      let n := if moved || sq.again || s.sched q != Sched.refetch then 0 else sq.refetches + 1
      if 8 ≤ n then (s.showHead q).park q
      else
        let s1 := (s.modSq q (fun (x : Sq) => { x with phase := .wait, refetches := n, again := false })).setSched q Sched.refetch
        if sq.again then s1.readRing q else s1

/-- The index block has been read (R115 steps 1 and 2). -/
def State.indexRead (s : State) (q t : Nat) : State :=
  let h := s.rd Reg.QP_HEAD_HEAD q
  let sz := s.ringSize q
  let s1 := s.wr Reg.QP_HEAD_TAIL_SEEN q t
  if d32 t h ≤ sz then s1.askSlots q (min (d32 t h + 16) sz)
  else if d32 h t ≤ 16 then
    let s2 := s1.modSq q (fun (x : Sq) => { x with start := h })
    if d32 h t = 16 then s2.endRead q .stop else s1.askSlots q (16 - d32 h t)
  else s1.indexError q

end Sys2Proof.Machine
end

