-- ==== Sys2Proof/Machine/Sha.lean ====
section
/-! DEFINITION. SHA-256 (FIPS 180-4), by which Kilurn measures images, configuration and slices (R386, R387, R394, R395). -/

namespace Sys2Proof.Machine

open Sys2Proof

/-- The round constants. -/
def shaK : List Nat :=
  [0x428a2f98, 0x71374491, 0xb5c0fbcf, 0xe9b5dba5, 0x3956c25b, 0x59f111f1, 0x923f82a4, 0xab1c5ed5,
   0xd807aa98, 0x12835b01, 0x243185be, 0x550c7dc3, 0x72be5d74, 0x80deb1fe, 0x9bdc06a7, 0xc19bf174] ++
  [0xe49b69c1, 0xefbe4786, 0x0fc19dc6, 0x240ca1cc, 0x2de92c6f, 0x4a7484aa, 0x5cb0a9dc, 0x76f988da,
   0x983e5152, 0xa831c66d, 0xb00327c8, 0xbf597fc7, 0xc6e00bf3, 0xd5a79147, 0x06ca6351, 0x14292967] ++
  [0x27b70a85, 0x2e1b2138, 0x4d2c6dfc, 0x53380d13, 0x650a7354, 0x766a0abb, 0x81c2c92e, 0x92722c85,
   0xa2bfe8a1, 0xa81a664b, 0xc24b8b70, 0xc76c51a3, 0xd192e819, 0xd6990624, 0xf40e3585, 0x106aa070] ++
  [0x19a4c116, 0x1e376c08, 0x2748774c, 0x34b0bcb5, 0x391c0cb3, 0x4ed8aa4a, 0x5b9cca4f, 0x682e6ff3,
   0x748f82ee, 0x78a5636f, 0x84c87814, 0x8cc70208, 0x90befffa, 0xa4506ceb, 0xbef9a3f7, 0xc67178f2]

/-- The initial hash words. -/
def shaInit : List Nat :=
  [0x6a09e667, 0xbb67ae85, 0x3c6ef372, 0xa54ff53a, 0x510e527f, 0x9b05688c, 0x1f83d9ab, 0x5be0cd19]

/-- A 32-bit rotation to the right. -/
def rotr (x n : Nat) : Nat := (x / 2 ^ n + x * 2 ^ (32 - n)) % 2 ^ 32

/-- The value of bytes, the first the most significant. -/
def beNat (b : List Byte) : Nat := b.foldl (fun a x => 256 * a + x.toNat) 0

/-- `n` bytes of a value, the most significant first. -/
def beBytes (n v : Nat) : List Byte := (leBytes n v).reverse

/-- The message schedule, the newest word first. -/
def shaExtend : Nat → List Nat → List Nat
  | 0, l => l
  | n + 1, l =>
    let a := l.getD 14 0
    let b := l.getD 1 0
    let w := (l.getD 15 0 + (rotr a 7 ^^^ rotr a 18 ^^^ (a / 2 ^ 3)) + l.getD 6 0 + (rotr b 17 ^^^ rotr b 19 ^^^ (b / 2 ^ 10))) % 2 ^ 32
    shaExtend n (w :: l)

/-- One round over the eight working words. -/
def shaRound (v : List Nat) (kw : Nat × Nat) : List Nat :=
  match v with
  | [a, b, c, d, e, f, g, h] =>
    let ch := (e &&& f) ^^^ ((2 ^ 32 - 1 - e) &&& g)
    let maj := (a &&& b) ^^^ (a &&& c) ^^^ (b &&& c)
    let t1 := h + (rotr e 6 ^^^ rotr e 11 ^^^ rotr e 25) + ch + kw.1 + kw.2
    let t2 := (rotr a 2 ^^^ rotr a 13 ^^^ rotr a 22) + maj
    [(t1 + t2) % 2 ^ 32, a, b, c, (d + t1) % 2 ^ 32, e, f, g]
  | v => v

/-- One block of 64 bytes. -/
def shaBlock (h : List Nat) (b : List Byte) : List Nat :=
  let w := shaExtend 48 ((List.range 16).map (fun i => beNat ((b.drop (4 * i)).take 4))).reverse
  (List.zip h ((List.zip shaK w.reverse).foldl shaRound h)).map (fun x => (x.1 + x.2) % 2 ^ 32)

/-- The blocks of a padded message. -/
def shaBlocks : Nat → List Byte → List Nat → List Nat
  | 0, _, h => h
  | n + 1, b, h => shaBlocks n (b.drop 64) (shaBlock h b)

/-- The SHA-256 digest, 32 bytes. -/
def sha256 (b : List Byte) : List Byte :=
  let z := (119 - b.length % 64) % 64
  let m := b ++ [0x80] ++ List.replicate z 0 ++ beBytes 8 (8 * b.length)
  (shaBlocks (m.length / 64) m shaInit).flatMap (beBytes 4)

end Sys2Proof.Machine
end

