-- ==== Sys2Proof/Machine/MbxOps.lean ====
section
/-! DEFINITION. Mailboxes (R373 to R377, R384, R385): what a command finds in its page or packet, and its response; the
measurements of R395. -/

namespace Sys2Proof.Machine

open Sys2Proof

/-- The management port's channel and the far-port channel, beside the mailboxes of the slots (R376). -/
def chPort : Nat := 1024
def chFar : Nat := 1025

def State.mbxOf (s : State) (ch : Nat) : Mbx := Tbl.get {} ch s.mgmt.mbx
def State.setMbx (s : State) (ch : Nat) (v : Mbx) : State := { s with mgmt := { s.mgmt with mbx := Tbl.set {} ch v s.mgmt.mbx } }
def State.modMgmt (s : State) (f : Mgmt → Mgmt) : State := { s with mgmt := f s.mgmt }

/-- The slot a channel acts for: its own, or the provider's. -/
def chSlot (ch : Nat) : Nat := if ch < 512 then ch else provider

/-- The 64-byte command header of the command of a channel. -/
def State.header (s : State) (ch : Nat) : List Byte :=
  if ch < 1024 then Mem.bytes (s.mbxOf ch).page 0x040 64 else ((s.mbxOf ch).reqs.head?.map (·.header)).getD []

/-- CMD, SEQ and PARAM_LEN of a header (R373). -/
def hdrCmd (h : List Byte) : Nat := leAt h 0 2
def hdrSeq (h : List Byte) : Nat := leAt h 4 4
def hdrLen (h : List Byte) : Nat := leAt h 8 4

/-- The parameters of the command of a channel: 1,920 bytes. -/
def State.params (s : State) (ch : Nat) : List Byte :=
  if ch < 1024 then Mem.bytes (s.mbxOf ch).page 0x080 1920 else ((s.mbxOf ch).reqs.head?.map (·.params)).getD []

/-- Has a channel a command that waits to run or runs? -/
def State.mbxBusy (s : State) (ch : Nat) : Bool :=
  if ch < 1024 then s.on Reg.MBX_SLOT_STATUS_BUSY ch else !(s.mbxOf ch).reqs.isEmpty

/-- The 64 bytes of a response header (R373). -/
def respHeader (seq status detail cmd len : Nat) : List Byte :=
  leBytes 4 seq ++ leBytes 1 status ++ leBytes 1 detail ++ leBytes 2 cmd ++ leBytes 4 len ++ List.replicate 52 0

/-- Writes the response of the command of a channel (R374 step 5), or sends it as a MGMT packet (R384), sealed with context
1,024 where the request was, and keeps it (R385). -/
def State.respond (s : State) (ch status detail : Nat) (data : List Byte) : State :=
  let m := { s.mbxOf ch with later := none }
  let h := s.header ch
  let s1 := s.count Reg.MBX_CMD_COUNT_COUNT
  if ch < 1024 then
    let b := respHeader m.seq status detail (hdrCmd h) data.length
    (((((s1.setMbx ch { m with waiting := false, page := Mem.store (Mem.store (Mem.wipe m.page 0x800 0x1000) 0x800 b) 0x840 (data.take 1984) }).wr
      Reg.MBX_SLOT_STATUS_SEQ_DONE ch m.seq).wr Reg.MBX_SLOT_STATUS_LAST_STATUS ch status).wr
      Reg.MBX_SLOT_STATUS_LAST_CMD ch (hdrCmd h)).wr Reg.MBX_SLOT_STATUS_DONE ch 1).wr Reg.MBX_SLOT_STATUS_BUSY ch 0
  else
    match m.reqs with
    | [] => s1
    | r :: rest =>
      let b := respHeader (hdrSeq h) status detail (hdrCmd h) data.length ++ data.take 1984
      let s2 := s1.setMbx ch { m with waiting := false, reqs := rest, done := ((r.msgId, b) :: m.done.filter (·.1 ≠ r.msgId)).take 16 }
      if r.sealed_ then
        match s2.sealCtx 1024 false with
        | (s3, .ok n) => s3.emit (.response ch r.msgId r.src n true b)
        | (s3, _) => s3
      else s2.emit (.response ch r.msgId r.src 0 false b)

/-! Measurements (R395). -/

/-- The bytes of four 64-bit registers, and back. -/
def State.quad (s : State) (f : Fld) : List Byte := (List.range 4).flatMap (fun k => leBytes 8 (s.rd f k))
def State.setQuad (s : State) (f : Fld) (b : List Byte) : State := (List.range 4).foldl (fun s k => s.wr f k (leAt b (8 * k) 8)) s

/-- d of R395: the digest of the command header and its parameters; for a command that came on an admin ring, which has
neither, a value the spec does not state (log entry 25). -/
def State.digest (s : State) (ch : Option Nat) : List Byte :=
  match ch with
  | some c => sha256 (s.header c ++ (s.params c).take (hdrLen (s.header c)))
  | none => leBytes 32 (s.free 256)

/-- Takes the free value where the digest used one. -/
def State.tookDigest (s : State) (ch : Option Nat) : State := if ch.isSome then s else s.bump

/-- M of R395, extended by a digest. -/
def extend (m d : List Byte) : List Byte := sha256 (m ++ d)

/-- Extends M_CONFIG, and logs the command: the last 4,096 entries (R395). -/
def State.extendConfig (s : State) (cmd : Nat) (d : List Byte) : State :=
  let s1 := s.setQuad Reg.LCS_M_CONFIG (extend (s.quad Reg.LCS_M_CONFIG) d)
  let l := s.mgmt.log ++ [(d, cmd, s.now)]
  s1.modMgmt (fun (m : Mgmt) => { m with log := l.drop (l.length - 4096), wrapped := m.wrapped || decide (4096 < l.length) })

/-- M_SLICE of a slice: zeros at its creation. -/
def Slice.measure (v : Slice) : List Byte := if v.mSlice = [] then List.replicate 32 0 else v.mSlice

/-- Extends M_SLICE of a slice (R395). -/
def State.extendSlice (s : State) (t : Nat) (d : List Byte) : State :=
  let v := s.sliceOf t
  s.setSlice t { v with mSlice := extend v.measure d }

end Sys2Proof.Machine
end

