-- ==== Sys2Proof/Machine/AdmOps.lean ====
section
/-! DEFINITION. Operations of the admin commands (R125 to R129, R326, R483): how a command ends, the numbers an owner may
take, attachments and contexts, and creating and freeing queue pairs (R129, R299, R353). -/

namespace Sys2Proof.Machine

open Sys2Proof

/-- How a command ends: SUCCESS with its results, an error code that changes nothing (R125), or not yet. -/
inductive AdmRes where
  | ok (s : State) (a0 a1 : Nat)
  | err (code detail a1 : Nat)
  | wait (s : State)

/-- An error code without detail. -/
def bad (code : Nat) : AdmRes := .err code 0 0

/-- The completion of a command (R124, R125): in the ring of its slot, or, for ADMIN, in the response of its channel
(R382). -/
def State.answer (s : State) (o : Origin) (code detail a0 a1 : Nat) : State :=
  match o.mbx with
  | none => s.admDone o.slot o.tag o.cmd code detail a0 a1
  | some ch =>
    (s.inc Reg.ADM_STATUS_CMDS_DONE o.slot).respond ch 0 0
      (leBytes 4 o.tag ++ leBytes 1 0 ++ leBytes 1 code ++ leBytes 1 o.cmd ++ leBytes 1 detail ++ leBytes 8 a0 ++ leBytes 8 a1 ++ leBytes 8 0)

/-- The measurements that a command of success extends (R395): commands 0x40 to 0x47 M_CONFIG, those that name a slice its
M_SLICE. -/
def State.measure (s : State) (o : Origin) : State :=
  if 0x40 ≤ o.cmd ∧ o.cmd ≤ 0x47 then
    let d := s.digest o.mbx
    let s1 := (s.tookDigest o.mbx).extendConfig o.cmd d
    match o.names with
    | some t => if s1.slice t ≠ 0 then s1.extendSlice t d else s1
    | none => s1
  else s

/-- The completion of a command that succeeds. -/
def State.admOk (s : State) (o : Origin) (a0 a1 : Nat) : State := (s.measure o).answer o Code.success 0 a0 a1

/-! Numbers (R326, R483). -/

/-- The first of `n` numbers from `k` on that meets `p`. -/
def firstFrom (p : Nat → Bool) : Nat → Nat → Option Nat
  | 0, _ => none
  | n + 1, k => if p k then some k else firstFrom p n (k + 1)

/-- The greatest number below `n` that meets `p`. -/
def lastBelow (p : Nat → Bool) : Nat → Option Nat
  | 0 => none
  | n + 1 => if p n then some n else lastBelow p n

/-- Do `n` numbers from `k` on all meet `p`? -/
def allFrom (p : Nat → Bool) : Nat → Nat → Bool
  | 0, _ => true
  | n + 1, k => p k && allFrom p n (k + 1)

/-- The slices that exist. -/
def State.sliceList (s : State) : List Nat := (s.listed Reg.TEN_SLICE0_STATE).filter (fun t => s.slice t ≠ 0)

/-- Does a slice hold number `n` of the range that two fields give? -/
def State.inRange (s : State) (base cnt : Fld) (t n : Nat) : Bool := decide (s.rd base t ≤ n) && decide (n < s.rd base t + s.rd cnt t)

/-- A block of `n` free numbers of owner `t`: the lowest of the slice's range, or for the provider the highest that no
slice holds (R326, R483). `used` tells the numbers in use. -/
def State.pick (s : State) (t n total : Nat) (base cnt : Fld) (used : Nat → Bool) : Option Nat :=
  if t = provider then
    lastBelow (fun k => decide (k + n ≤ total) && allFrom (fun j => !used j && !s.sliceList.any (fun x => s.inRange base cnt x j)) n k) total
  else
    firstFrom (fun k => decide (k + n ≤ s.rd base t + s.rd cnt t) && allFrom (fun j => !used j) n k) (s.rd cnt t) (s.rd base t)

def State.pickQps (s : State) (t n : Nat) : Option Nat := s.pick t n 16384 Reg.TEN_SLICE0_QP_BASE Reg.TEN_SLICE0_QP_COUNT s.qpValid
def State.pickCq (s : State) (t : Nat) : Option Nat :=
  s.pick t 1 4096 Reg.TEN_SLICE1_CQ_BASE Reg.TEN_SLICE1_CQ_COUNT (fun n => s.on Reg.CQ_DESC0_VALID n)
def State.pickPel (s : State) (t : Nat) : Option Nat :=
  s.pick t 1 4096 Reg.TEN_SLICE1_PEL_BASE Reg.TEN_SLICE1_PEL_COUNT (fun n => (s.pelOf n).st != .free)

/-- How many of the objects whose VALID and TENANT fields are given an owner holds. -/
def State.owned (s : State) (valid ten : Fld) (t : Nat) : Nat :=
  ((s.listed valid).filter (fun n => s.on valid n && s.rd ten n == t)).length

/-- A free descriptor or region index of an owner within its quota, from `lo` up to `total`; none applies to the
provider. -/
def State.pickIndex (s : State) (t lo total quota : Nat) (valid ten : Fld) (used : Nat → Bool) : Option Nat :=
  if t = provider then (lastBelow (fun n => decide (lo ≤ n) && !used n) total)
  else if quota ≤ s.owned valid ten t then none
  else firstFrom (fun n => !used n) (total - lo) lo

/-! Objects as field values. -/

/-- The fields shown by a select register. -/
def fieldsOf (sel : Fld) : List Fld := (Reg.blockFields (sel.addr / 2 ^ 20)).filter (fun f => f.sel == some sel.key)

/-- Puts the fields of an object back to their reset values. -/
def State.clearObj (s : State) (l : List Fld) (n : Nat) : State := l.foldl (fun s f => s.wr f n (f.rst n)) s

/-- The field values of an object that differ from their reset values. -/
def State.saveObj (s : State) (l : List Fld) (n : Nat) : Obj := (l.filter (fun f => s.rd f n ≠ f.rst n)).map (fun f => (f.key, s.rd f n))

/-- Writes the field values of an object. -/
def State.loadObj (s : State) (l : List Fld) (n : Nat) (o : Obj) : State :=
  l.foldl (fun s f => match o.find? (fun x => x.1 = f.key) with
    | some x => s.wr f n x.2
    | none => s.wr f n (f.rst n)) s

/-! Attachments and contexts. -/

/-- The number of an attachment (R124). -/
def attNo (t slot : Nat) : Nat := 8 * t + slot

/-- The attachments of a tenant, GONE ones included. -/
def State.attsOf (s : State) (t : Nat) : List Nat := (s.atts.map Prod.fst).filter (fun a => a % 8192 / 8 == t)

/-- Does an attachment of the owner stand at a slot, ATTACHED or ABSENT (R79, R129)? The provider, which makes none, has
one at every slot whose endpoint may present it (log entry 27). -/
def State.attLive (s : State) (t slot : Nat) : Bool :=
  if t = provider then (s.epOf slot).used && s.permitted (s.epOf slot).epid provider
  else (s.attOf (attNo t slot)).st == .attached || (s.attOf (attNo t slot)).st == .absent

/-- The attachment slot that the descriptor of a context names, while it stands. -/
def State.ctxSlot (s : State) (t ctx : Nat) : Option Nat :=
  (s.descOf t ctx).bind fun d =>
    let k := s.rd Reg.XLT_CTX_DESC0_ENDPOINT d
    if s.attLive t k then some k else none

/-- Is a virtual address canonical and a multiple of `n` (R84, R108)? -/
def addrOk (va n : Nat) : Bool := canonical va && va % n == 0

/-! Clusters and cipher contexts. -/

/-- The clusters that serve (R17). -/
def State.serving (s : State) : List Nat := (List.range 10).filter (fun c => s.rd Reg.CLU_STATUS_STATE c == 1)

/-- Kilurn's choice of an owning cluster, which the spec leaves open (R17; log entry 28). -/
def State.chooseCluster (s : State) : Option Nat := s.serving[s.free 16 % s.serving.length]?

/-- Writes both copies of a steering entry (R252). -/
def State.setSteer (s : State) (q : Nat) (c : Option Nat) : State :=
  let v := c.getD 0
  (((s.wr Reg.CLU_STEER_ENT_CLUSTER q v).put Reg.CLU_STEER_ENT_VALID q c.isSome).wr Reg.CLU_STEER_ENT_CLUSTER_ACT q v).put
    Reg.CLU_STEER_ENT_VALID_ACT q c.isSome

/-- The module context of a slice context of an owner (R352); the provider's is 1,024, named 0 (R358). -/
def State.cipMap (s : State) (t k : Nat) : Option Nat :=
  if t = provider then (if k = 0 then some 1024 else none)
  else if s.rd Reg.TEN_SLICE3_CIPHER_CTX t ≤ k then none
  else (s.listed Reg.CIP_CTX0_VALID).find? (fun c => s.on Reg.CIP_CTX0_VALID c && s.rd Reg.CIP_CTX0_TENANT c == t && Tbl.get 0 c s.cip.sliceNo == k)

/-- Binds a queue pair to slice context 0 of its owner (R353). -/
def State.bindCip (s : State) (q t : Nat) : State :=
  match s.cipMap t 0 with
  | some c => (s.wr Reg.CIP_QP_CTX_CONTEXT q c).wr Reg.CIP_QP_CTX_VALID q 1
  | none => s.wr Reg.CIP_QP_CTX_VALID q 0

/-- May a queue pair connect: its context exists and holds a valid key in TX_PHASE (R353)? -/
def State.cipReady (s : State) (q : Nat) : Bool :=
  match s.qpCtx q with
  | some c => s.on (slotValid (s.rd Reg.CIP_CTX0_TX_PHASE c)) c
  | none => false

/-- Clears a key slot: key, KEY_ID, valid and used bit (R365). -/
def State.clearKey (s : State) (c p : Nat) : State :=
  let s1 := ((s.wr (slotValid p) c 0).wr (slotUsed p) c 0).wr (slotKeyId p) c 0
  { s1 with cip := { s1.cip with keys := Tbl.set 0 (2 * c + p) 0 s1.cip.keys } }

/-! Queue pairs (R129, R299). -/

def qpRegs : List Fld := fieldsOf Reg.QP_SEL_INDEX
def trnRegs : List Fld := fieldsOf Reg.TRN_QP_SEL_INDEX
def ccqRegs : List Fld := fieldsOf Reg.TRN_CCQ_SEL_INDEX

/-- Frees a queue pair: nothing of it is left. -/
def State.freeQp (s : State) (q : Nat) : State :=
  let n := (((s.sqOf q).ops.filter (fun o => o.sqe.opcode ≠ 0x10 ∧ o.sqe.opcode < 0x18)).length)
  let r := (s.connOf q).recs.length
  let s1 := (((s.dec Reg.QP_MODULE_OUT_COUNT 0 n).dec Reg.TRN_RESP_REC_IN_USE 0 r).setSq q {}).setConn q {}
  let s2 := ((s1.clearObj qpRegs q).clearObj trnRegs q).clearObj ccqRegs q
  ((s2.wr Reg.CIP_QP_CTX_VALID q 0).wr Reg.CIP_QP_CTX_CONTEXT q 0).setSteer q none

/-- Makes a queue pair of an owner, in RESET and IDLE, with H = 0 (R129). -/
def State.makeQp (s : State) (q t ctx slot tc cluster : Nat) : State :=
  let s1 := (s.clearObj qpRegs q).clearObj trnRegs q
  let s2 := ((((((s1.wr Reg.QP_DESC0_VALID q 1).wr Reg.QP_DESC0_TENANT q t).wr Reg.QP_DESC0_CONTEXT q ctx).wr Reg.QP_DESC0_ATTACH q slot).wr
    Reg.QP_DESC0_TC q tc).wr Reg.QP_DESC3_CLUSTER q cluster)
  ((s2.setSteer q (some cluster)).bindCip q t).setSq q {}

/-- Is a queue pair a link of a peloton (R299)? -/
def State.isLink (s : State) (q : Nat) : Bool := (s.linkPel q).isSome

/-- Does a completion of a queue pair wait to be written (R159)? -/
def State.cqesLeft (s : State) (q : Nat) : Bool := !(s.sqOf q).ops.isEmpty || s.cqs.any (fun e => e.2.waiting.any (·.qp == q))

/-! Connections (R158, R159, R300). -/

/-- The peer parameters of CONNECT and REPATH. -/
structure Peer where
  module : Nat
  qp : Nat
  ip : Nat
  paths : Nat
  vlan : Option Nat
  srcIp : Nat
  deriving DecidableEq, Repr

/-- Is an address, as the value of its 16 bytes in network order, an IPv4 one? -/
def isV4 (ip : Nat) : Bool := ip / 2 ^ 32 == 0xFFFF

/-- Is SRC_IP a valid local address of the family of PEER_IP (R158)? -/
def State.srcIpOk (s : State) (i ip : Nat) : Bool :=
  decide (i < 16) && bit (s.rd Reg.TRN_IP_VALID_VALID) i && (bit (s.rd Reg.TRN_IP_VALID_IS_V4) i == isV4 ip)

/-- The multicast tree of a group address (R224, R321): its low 12 bits. -/
def groupTree (ip : Nat) : Option Nat :=
  if ip / 2 ^ 120 = 0xFF ∨ (isV4 ip ∧ 224 ≤ ip / 2 ^ 24 % 256 ∧ ip / 2 ^ 24 % 256 < 240) then some (ip % 4096) else none

/-- The peloton and slot that a CONNECT names for a multicast queue pair: a bound peloton of the owner whose TREE is that
of the address (R321). -/
def State.groupOf (s : State) (t : Nat) (p : Peer) : Option (Nat × Nat) :=
  (groupTree p.ip).bind fun tree =>
    let pl := s.pelOf p.module
    if pl.st ≠ .free ∧ pl.st ≠ .reserved ∧ pl.tenant = t ∧ pl.tree = some tree then some (p.module, p.qp) else none

/-- Writes the peer parameters. -/
def State.setPeer (s : State) (q : Nat) (p : Peer) : State :=
  (((s.wr Reg.TRN_QP_T0_PEER_MODULE q p.module).wr Reg.TRN_QP_T0_PEER_QP q p.qp).wr Reg.TRN_QP_T0_NUM_PATHS q
    (if s.on Reg.QP_DESC0_LEGACY q then 1 else p.paths)).setConn q
    { s.connOf q with peerIp := p.ip, srcIp := p.srcIp, vlan := p.vlan, mcast := s.groupOf (s.qpTenant q) p }

/-- CONNECT (R159): the parameters, both windows at their first PSNs, MSN and SSN 0; what waited starts. -/
def State.connect (s : State) (q epoch sqPsn rqPsn mtu retry : Nat) (p : Peer) : State :=
  let c := s.connOf q
  let s0 := s.setConn q { recvs := c.recvs, lastEpoch := some epoch, nextTx := s.now }
  let s1 := (((((s0.wr Reg.TRN_QP_T0_EPOCH q epoch).wr Reg.TRN_QP_T0_MTU q mtu).wr Reg.TRN_QP_T0_RETRY_MAX q retry).wr
    Reg.TRN_QP_T1_SND_NXT q sqPsn).wr Reg.TRN_QP_T1_SND_UNA q sqPsn).wr Reg.TRN_QP_T2_RCV_BASE q rqPsn
  let s2 := (((s1.wr Reg.TRN_QP_T2_ACK_BASE q rqPsn).wr Reg.TRN_QP_T4_MSN_NEXT q 0).wr Reg.TRN_QP_T3_SRTT_NS q 0).wr Reg.TRN_QP_T3_RTO_NS q 0
  let s3 := (s2.setPeer q p).wr Reg.TRN_QP_T0_STATE q Cst.connected
  (s3.setRate q (65536 * s.rd Reg.TRN_CC_TC1_INIT_RATE (s.rd Reg.QP_DESC0_TC q))).settleNops q

/-- Clears the transport side of a queue pair (R159): windows, bitmap, records and atomic results; the epoch stays known. -/
def State.resetConn (s : State) (q : Nat) : State :=
  let c := s.connOf q
  ((s.dec Reg.TRN_RESP_REC_IN_USE 0 c.recs.length).setConn q { lastEpoch := c.lastEpoch }).wr Reg.TRN_QP_T0_STATE q Cst.reset

/-- Resets a link queue pair of a peloton, with what it had to send (R299, R319). -/
def State.resetLink (s : State) (q : Nat) : State := (s.resetConn q).setSq q { serial := (s.sqOf q).serial }

/-- Connects the links of a peloton for its live list (R300); a slot without a peer stays in RESET. -/
def State.connectLinks (s : State) (p : Nat) : State :=
  (List.range (s.pelOf p).slots).foldl (fun s sl =>
    let pl := s.pelOf p
    let q := pl.baseQp + sl
    let s1 := s.resetLink q
    let peer := (slotRank pl.sched pl.live.length pl.rank sl).bind (fun r => (pl.atRank r).bind (fun m => (pl.members[m]?).map (fun e => (r, e))))
    match peer with
    | none => s1
    | some (r, e) =>
      (s1.setSched q Sched.idle).connect q (pl.epoch % 256) 0 0 pl.mtu pl.retryMax
        { module := e.module, qp := e.baseQp + pairSlot pl.sched pl.live.length pl.rank sl r, ip := e.ip, paths := pl.numPaths,
          vlan := e.vlan, srcIp := pl.srcIp }) s

end Sys2Proof.Machine
end

