-- ==== Sys2Proof/Machine/AdmQueues.lean ====
section
/-! DEFINITION. The admin commands of chapters 5 to 7: rings, queue pairs, connections, contexts and regions. Each takes the
slot, the entry and the state. A parameter out of range is refused before a missing object, and that before a missing
resource (log entry 29). -/

namespace Sys2Proof.Machine

open Sys2Proof

def cqRegs : List Fld := fieldsOf Reg.CQ_SEL_INDEX

/-- CREATE_CQ (R128, R129). -/
def cmdCreateCq (t : Nat) (e : List Byte) (s : State) : AdmRes :=
  let ring := leAt e 8 8
  let ixa := leAt e 16 8
  let note := leAt e 24 8
  let ctx := leAt e 32 2
  let lg := byteAt e 34
  if !addrOk ring 4096 || !addrOk ixa 64 || !addrOk note 8 || decide (lg < 6) || decide (16 < lg) then bad Code.invalidParam
  else match s.ctxSlot t ctx with
    | none => bad Code.notFound
    | some slot =>
      match s.pickCq t with
      | none => bad Code.resourceExhausted
      | some n =>
        let s1 := ((((((s.clearObj cqRegs n).setCq n {}).wr Reg.CQ_DESC0_VALID n 1).wr Reg.CQ_DESC0_RELAXED n (byteAt e 35)).wr
          Reg.CQ_DESC0_ATTACH n slot).wr Reg.CQ_DESC0_LOG2_SIZE n lg).wr Reg.CQ_DESC0_TENANT n t
        .ok ((((s1.wr Reg.CQ_DESC0_CONTEXT n ctx).wr Reg.CQ_DESC1_RING_ADDR n (ring / 4096)).wr
          Reg.CQ_DESC2_INDEX_ADDR n (ixa / 64)).wr Reg.CQ_DESC3_NOTIFY_ADDR n (note / 8)) n 0

/-- Is a ring one of the owner's? -/
def State.ownsCq (s : State) (t n : Nat) : Bool := s.on Reg.CQ_DESC0_VALID n && s.rd Reg.CQ_DESC0_TENANT n == t

/-- DESTROY_CQ (R129). -/
def cmdDestroyCq (t : Nat) (e : List Byte) (s : State) : AdmRes :=
  let n := leAt e 8 2
  if !s.ownsCq t n then bad Code.notFound
  else if s.qpList.any (fun q => s.rd Reg.QP_DESC0_CQ q == n && !s.on Reg.QP_DESC0_LEGACY q && !s.isLink q) ||
      (!s.on Reg.CQ_DESC0_BROKEN n && !(s.cqOf n).waiting.isEmpty) then bad Code.busy
  else .ok ((s.clearObj cqRegs n).setCq n {}) 0 0

/-- The queue pair that CREATE_QP and CREATE_LEGACY_QP make (R128, R129, R136). -/
def State.createQp (s : State) (t ctx slot lg tc maxOut sq : Nat) (f : Nat → State → State) : AdmRes :=
  match s.pickQps t 1, s.chooseCluster with
  | some q, some c =>
    let s1 := ((((s.bump).makeQp q t ctx slot tc c).wr Reg.QP_DESC0_LOG2_SIZE q lg).wr Reg.QP_DESC3_MAX_OUTSTANDING q maxOut).wr
      Reg.QP_DESC1_SQ_ADDR q (sq / 4096)
    .ok (f q s1) q 0
  | _, _ => bad Code.resourceExhausted

/-- CREATE_QP (R128, R129). -/
def cmdCreateQp (t : Nat) (e : List Byte) (s : State) : AdmRes :=
  let sq := leAt e 8 8
  let ixa := leAt e 16 8
  let ctx := leAt e 24 2
  let cq := leAt e 26 2
  let lg := byteAt e 28
  let tc := byteAt e 29
  let mo := leAt e 30 2
  if !addrOk sq 4096 || !addrOk ixa 64 || decide (lg < 6) || decide (16 < lg) || decide (15 < tc) || mo == 0 || decide (1024 < mo) then
    bad Code.invalidParam
  else match s.ctxSlot t ctx with
    | none => bad Code.notFound
    | some slot =>
      if !s.ownsCq t cq then bad Code.notFound
      else s.createQp t ctx slot lg tc mo sq (fun q s => (s.wr Reg.QP_DESC0_CQ q cq).wr Reg.QP_DESC2_INDEX_ADDR q (ixa / 64))

/-- The legacy queue pairs of an owner, or of the module. -/
def State.legacyCount (s : State) (p : Nat → Bool) : Nat := (s.qpList.filter (fun q => s.on Reg.QP_DESC0_LEGACY q && p q)).length

/-- CREATE_LEGACY_QP (R135, R136). -/
def cmdCreateLegacyQp (t : Nat) (e : List Byte) (s : State) : AdmRes :=
  let sq := leAt e 8 8
  let ctx := leAt e 24 2
  let lg := byteAt e 28
  let tc := byteAt e 29
  let mo := leAt e 30 2
  if 64 ≤ t then bad Code.notPermitted
  else if !addrOk sq 4096 || decide (lg < 6) || decide (12 < lg) || decide (15 < tc) || mo == 0 || decide (min 1024 (2 ^ lg) < mo) then
    bad Code.invalidParam
  else match s.ctxSlot t ctx with
    | none => bad Code.notFound
    | some slot =>
      if 128 ≤ s.legacyCount (fun _ => true) ∨ s.rd Reg.TEN_SLICE5_LEGACY t ≤ s.legacyCount (fun q => s.qpTenant q == t) then
        bad Code.resourceExhausted
      else s.createQp t ctx slot lg tc mo sq (fun q s => s.wr Reg.QP_DESC0_LEGACY q 1)

/-- Is a queue pair one of the owner's? -/
def State.ownsQp (s : State) (t q : Nat) : Bool := decide (q < 16384) && s.qpValid q && s.qpTenant q == t

/-- DESTROY_QP (R129): fetching stops, what has not started is flushed, and the command waits for the rest. -/
def cmdDestroyQp (o : Origin) (e : List Byte) (s : State) : AdmRes :=
  let q := leAt e 8 2
  if !s.ownsQp o.slot q then bad Code.notFound
  else if s.isLink q then bad Code.notPermitted
  else
    let l := (s.sqOf q).ops.filter (fun x => x.st == .queued)
    let s1 := s.modSq q (fun (x : Sq) => { x with phase := .none, bell := false, again := false, held := false, destroying := some (o, l.length) })
    .wait (l.foldl (fun s x => s.finishOp q x.serial Code.flushed 0) s1 |>.dropPelOps q)

/-- The peer parameters of a MODIFY_QP entry (R158). -/
def peerAt (e : List Byte) : Peer :=
  { module := leAt e 12 2, qp := leAt e 14 2 % 16384, ip := beNat ((List.range 16).map (fun i => (BitVec.ofNat 8 (byteAt e (16 + i))))),
    paths := byteAt e 41, vlan := if bit (byteAt e 43) 0 then some (leAt e 44 2 % 4096) else none, srcIp := byteAt e 46 }

/-- Are the peer parameters in range (R158)? A legacy queue pair takes one path whatever is given. -/
def State.peerOk (s : State) (q : Nat) (p : Peer) : Bool :=
  (s.on Reg.QP_DESC0_LEGACY q || (decide (1 ≤ p.paths) && decide (p.paths ≤ 64))) && s.srcIpOk p.srcIp p.ip

/-- The part that every MODIFY_QP shares (R158, R299): the queue pair is the owner's, no link, and not FENCED; the ACTION
is allowed in its connection state. -/
def State.modifyQp (s : State) (t q : Nat) (allowed : Nat → Bool) (f : AdmRes) : AdmRes :=
  if !s.ownsQp t q then bad Code.notFound
  else if s.isLink q ∨ s.cst q = Cst.fenced then bad Code.notPermitted
  else if !allowed (s.cst q) then bad Code.invalidParam
  else f

/-- MODIFY_QP RESET (R119, R159). -/
def cmdQpReset (t : Nat) (e : List Byte) (s : State) : AdmRes :=
  let q := leAt e 8 2
  s.modifyQp t q (· == Cst.error)
    (if s.cqesLeft q then bad Code.busy
    else
      let h := if s.legacy q then leAt e 32 4 % (2 * s.ringSize q) else leAt e 32 4
      let s1 := ((((s.resetConn q).wr Reg.TRN_QP_T4_RECV_POSTED q 0).wr Reg.QP_HEAD_HEAD q h).wr Reg.QP_HEAD_TAIL_SEEN q
        (if s.legacy q then h else s.rd Reg.QP_HEAD_TAIL_SEEN q)).setSched q Sched.idle
      .ok (s1.setSq q { serial := (s1.sqOf q).serial, headWritten := (s1.sqOf q).headWritten }) 0 0)

/-- MODIFY_QP CONNECT (R158, R159, R321, R353). -/
def cmdQpConnect (t : Nat) (e : List Byte) (s : State) : AdmRes :=
  let q := leAt e 8 2
  let p := peerAt e
  s.modifyQp t q (· == Cst.reset)
    (if !s.peerOk q p || (s.connOf q).lastEpoch == some (byteAt e 11) || decide (3 < byteAt e 40) || byteAt e 42 % 16 == 0 then bad Code.invalidParam
    else if !s.cipReady q then .err Code.invalidParam 0xE0 0
    else .ok (s.connect q (byteAt e 11) (leAt e 32 4) (leAt e 36 4) (byteAt e 40) (byteAt e 42 % 16) p) 0 0)

/-- MODIFY_QP REPATH (R159): the retry counts start again, and everything unacknowledged is resent. -/
def cmdQpRepath (t : Nat) (e : List Byte) (s : State) : AdmRes :=
  let q := leAt e 8 2
  let p := peerAt e
  s.modifyQp t q (· == Cst.connected)
    (if !s.peerOk q p then bad Code.invalidParam else .ok ((s.setPeer q p).resendAll q true) 0 0)

/-- MODIFY_QP SET_ERROR (R159, R160): the spec names no syndrome for it, so that is a free value (log entry 30). -/
def cmdQpSetError (t : Nat) (e : List Byte) (s : State) : AdmRes :=
  let q := leAt e 8 2
  s.modifyQp t q (· == Cst.connected) (.ok (s.bump.qpError q (s.free 8) 0 none) 0 0)

/-- QUERY_QP (R128). -/
def cmdQueryQp (t : Nat) (e : List Byte) (s : State) : AdmRes :=
  let q := leAt e 8 2
  if !s.ownsQp t q then bad Code.notFound
  else .ok s (s.rd Reg.QP_HEAD_HEAD q + 2 ^ 32 * s.rd Reg.QP_OUT_COUNT q + 2 ^ 48 * s.sched q) (s.rd Reg.QP_EARLY_DB_COUNT_COUNT q)

/-! Contexts (R87, R129). -/

/-- REGISTER_CONTEXT (R128, R129). -/
def cmdRegisterContext (t : Nat) (e : List Byte) (s : State) : AdmRes :=
  let ctx := leAt e 8 2
  let slot := byteAt e 10
  let pa := leAt e 16 8
  if 7 < slot ∨ pa % 4096 ≠ 0 ∨ 2 ^ 56 ≤ pa then bad Code.invalidParam
  else if !s.attLive t slot then bad Code.notFound
  else if (s.descOf t ctx).isSome then bad Code.busy
  else match s.pickIndex t 0 16384 (s.rd Reg.TEN_SLICE3_CONTEXTS t) Reg.XLT_CTX_DESC0_VALID Reg.XLT_CTX_DESC1_TENANT
      (fun d => s.on Reg.XLT_CTX_DESC0_VALID d || s.ten.jobs.any (fun j => match j with
        | .unreg _ d' => d' == d
        | _ => false)) with
    | none => bad Code.resourceExhausted
    | some d =>
      .ok (((((s.wr Reg.XLT_CTX_DESC0_ENDPOINT d slot).wr Reg.XLT_CTX_DESC0_ROOT_PFN d (pa / 4096)).wr Reg.XLT_CTX_DESC1_TENANT d t).wr
        Reg.XLT_CTX_DESC1_CONTEXT d ctx).wr Reg.XLT_CTX_DESC0_VALID d 1) d 0

/-- Does a queue pair, ring, region or peloton of the owner use a context (R129)? -/
def State.ctxUsed (s : State) (t ctx : Nat) : Bool :=
  s.qpList.any (fun q => s.qpTenant q == t && s.rd Reg.QP_DESC0_CONTEXT q == ctx) ||
    (s.listed Reg.CQ_DESC0_VALID).any (fun n => s.ownsCq t n && s.rd Reg.CQ_DESC0_CONTEXT n == ctx) ||
    (s.listed Reg.TRN_REG_D0_VALID).any (fun i => s.on Reg.TRN_REG_D0_VALID i && s.rd Reg.TRN_REG_D0_TENANT i == t && s.rd Reg.TRN_REG_D0_CONTEXT i == ctx) ||
    s.pels.any (fun e => e.2.st != .free && e.2.tenant == t && e.2.ctx == ctx)

def State.addJob (s : State) (j : Job) : State := { s with ten := { s.ten with jobs := s.ten.jobs ++ [j] } }

/-- UNREGISTER_CONTEXT (R129): the descriptor is valid no more, its translations are marked, and the command waits for the
uses of them to drain (R93). -/
def cmdUnregisterContext (o : Origin) (e : List Byte) (s : State) : AdmRes :=
  let ctx := leAt e 8 2
  match s.descOf o.slot ctx with
  | none => bad Code.notFound
  | some d =>
    if s.ctxUsed o.slot ctx then bad Code.busy
    else
      .wait (((s.wr Reg.XLT_CTX_DESC0_VALID d 0).markInval
        { seq := 0, slot := 0, path := 0, tenant := o.slot, ctx, base := 0, size := 57, wholeCtx := true, wholeTen := false }).addJob (.unreg o d))

/-! Regions (R179 to R181). -/

/-- The key of a region: index and generation. -/
def State.regKey (s : State) (i : Nat) : Nat := i + 2 ^ 17 * s.rd Reg.TRN_REG_D0_GENERATION i

/-- REGISTER_REGION (R179): each reuse of an index increments its generation; an index used before still holds the length
it had. -/
def cmdRegisterRegion (t : Nat) (e : List Byte) (s : State) : AdmRes :=
  let base := leAt e 8 8
  let len := leAt e 16 8
  let ctx := leAt e 24 2
  let rights := byteAt e 26
  let qb := leAt e 28 2
  if len = 0 ∨ 2 ^ 46 < len ∨ (!bit rights 4 ∧ !canonical base) ∨ (qb ≠ 0xFFFF ∧ 16384 ≤ qb) then bad Code.invalidParam
  else if (s.descOf t ctx).isNone ∨ (qb ≠ 0xFFFF ∧ !s.ownsQp t qb) then bad Code.notFound
  else match s.pickIndex t 1 131072 (s.rd Reg.TEN_SLICE2_REGIONS t) Reg.TRN_REG_D0_VALID Reg.TRN_REG_D0_TENANT
      (fun i => s.on Reg.TRN_REG_D0_VALID i || s.ten.jobs.any (fun j => match j with
        | .dereg _ i' => i' == i
        | _ => false)) with
    | none => bad Code.resourceExhausted
    | some i =>
      let s1 := if s.rd Reg.TRN_REG_D2_LENGTH i = 0 then s else s.inc Reg.TRN_REG_D0_GENERATION i
      let s2 := ((((s1.wr Reg.TRN_REG_D0_REVOKED i 0).wr Reg.TRN_REG_D0_RIGHTS i rights).wr Reg.TRN_REG_D0_TENANT i t).wr
        Reg.TRN_REG_D0_CONTEXT i ctx).wr Reg.TRN_REG_D1_BASE i base
      let s3 := ((s2.wr Reg.TRN_REG_D2_LENGTH i len).wr Reg.TRN_REG_D2_QP_BIND i qb).put Reg.TRN_REG_D2_QP_BIND_EN i (qb != 0xFFFF)
      .ok (s3.wr Reg.TRN_REG_D0_VALID i 1) (s3.regKey i) 0

/-- DEREGISTER_REGION (R181): the key fails at once; the command waits for the accesses under way. -/
def cmdDeregisterRegion (o : Origin) (e : List Byte) (s : State) : AdmRes :=
  let i := leAt e 8 4 % 2 ^ 17
  if i = 0 ∨ !s.on Reg.TRN_REG_D0_VALID i ∨ s.regKey i ≠ leAt e 8 4 ∨ s.rd Reg.TRN_REG_D0_TENANT i ≠ o.slot then bad Code.notFound
  else .wait ((s.wr Reg.TRN_REG_D0_VALID i 0).addJob (.dereg o i))

end Sys2Proof.Machine
end

