-- ==== Sys2Proof/Machine/AdmPelotons.lean ====
section
/-! DEFINITION. The admin commands of pelotons (R298 to R302, R323): reserving, binding and destroying. -/

namespace Sys2Proof.Machine

open Sys2Proof

/-! The image (R302). -/

/-- The code of an image. -/
def imgCode (b : List Byte) : List Byte := (b.drop 64).take (leAt b 8 4)

/-- Does an image of `len` bytes pass the checks of R302? -/
def imgOk (b : List Byte) (len : Nat) : Bool :=
  let n := leAt b 8 4
  leAt b 0 4 == 0xC011EC71 && leAt b 4 2 == 1 && decide (byteAt b 6 ≤ 3) && byteAt b 7 % 8 != 0 && decide (4 ≤ n) && decide (n ≤ 65536) &&
    n % 4 == 0 && len == 64 + n && decide (leAt b 12 4 < n) && leAt b 12 4 % 4 == 0 && decide (schedSlots (byteAt b 6) 2 ≤ leAt b 16 2) &&
    decide (leAt b 16 2 ≤ 256) && decide (1 ≤ byteAt b 18) && decide (byteAt b 18 ≤ 16) && byteAt b 19 % 16 != 0 &&
    leAt b 24 4 == crc32c (imgCode b)

/-- The words of a program store that collective code may take, the upper half: where Kilurn loads code is its own affair
(R233; log entry 31). -/
def codeLo : Nat := 65536
def codeHi : Nat := 131072

/-- Is a run of words free in a cluster's program store? -/
def State.codeFree (s : State) (c n a : Nat) : Bool :=
  decide (a + n ≤ codeHi) && !s.pels.any (fun e => e.2.st != .free && e.2.cluster == c && decide (a < e.2.codeAt + e.2.codeLen) && decide (e.2.codeAt < a + n))

/-- The lowest free run for code of `n` words: the start, or the end of the code of another peloton. -/
def State.codePlace (s : State) (c n : Nat) : Option Nat :=
  (sortUp (codeLo :: (s.pels.filter (fun e => e.2.st != .free && e.2.cluster == c)).map (fun e => e.2.codeAt + e.2.codeLen))).find? (s.codeFree c n)

/-- Writes words of code into a cluster's program store; a line written whole loses its poison (R402). -/
def State.loadCode (s : State) (c a : Nat) (b : List Byte) : State :=
  let s1 := (List.range (b.length / 4)).foldl (fun s k =>
    s.setClu c { s.cluOf c with pstore := Tbl.set 0 (a + k) (leAt b (4 * k) 4) (s.cluOf c).pstore }) s
  { s1 with board := { s1.board with res := { s1.board.res with
    storePoison := s1.board.res.storePoison.filter (fun l =>
      !(l / 8192 == c && decide (a ≤ 16 * (l % 8192)) && decide (16 * (l % 8192) + 16 ≤ a + b.length / 4))) } } }

/-- CREATE_PELOTON RESERVE (R298, R299, R302). -/
def cmdPelReserve (t : Nat) (e : List Byte) (x : AdmX) (s : State) : AdmRes :=
  let b := x.mem
  let ctx := leAt e 10 2
  let n := leAt b 16 2
  if !imgOk b (leAt e 24 4) then bad Code.invalidParam
  else match s.ctxSlot t ctx with
    | none => bad Code.notFound
    | some slot =>
      if s.pels.any (fun p => p.2.st != .free && p.2.group == leAt e 12 4) then bad Code.busy
      else match s.pickPel t, s.pickQps t n, s.chooseCluster with
        | some p, some q, some c =>
          match s.codePlace c (leAt b 8 4 / 4) with
          | none => bad Code.resourceExhausted
          | some a =>
            let s1 := (List.range n).foldl (fun s k => s.makeQp (q + k) t ctx slot 0 c) s.bump
            let s2 := (s1.loadCode c a (imgCode b)).setPel p
              { st := .reserved, tenant := t, ctx, group := leAt e 12 4, cluster := c, baseQp := q, slots := n, sched := byteAt b 6, modes := byteAt b 7,
                cops := byteAt b 20, cores := byteAt b 19 % 16, banks := byteAt b 18, entry := leAt b 12 4 / 4, codeAt := a, codeLen := leAt b 8 4 / 4 }
            .ok (s2.wr Reg.CAD_TDC_VAL_COUNT p 0) (p + 2 ^ 12 * c + 2 ^ 16 * q + 2 ^ 32 * n) 0
        | _, _, _ => bad Code.resourceExhausted

/-- An entry of a member table (R296). -/
def memberAt (b : List Byte) (i : Nat) : Member :=
  let o := 32 * i
  { module := leAt b o 2, baseQp := leAt b (o + 2) 2 % 16384, vlan := if bit (byteAt b (o + 4)) 0 then some (leAt b (o + 6) 2 % 4096) else none,
    ip := beNat ((List.range 16).map (fun k => BitVec.ofNat 8 (byteAt b (o + 8 + k)))) }

/-- The member table of `n` members. -/
def memberTable (b : List Byte) (n : Nat) : List Member := (List.range n).map (memberAt b)

/-- What BIND sets (R298). -/
def bindPel (pl : Pel) (e : List Byte) (ms : List Member) : Pel :=
  let n := leAt e 12 4
  { pl with
    st := .ready, members := ms, me := leAt e 24 4, mode := byteAt e 28, log2Chunk := byteAt e 29, tc := byteAt e 30, mtu := byteAt e 31,
    seed := leAt e 32 8, extendCt := leAt e 40 4, extendMax := byteAt e 44, numPaths := byteAt e 45, retryMax := byteAt e 46,
    srcIp := byteAt e 47, lead := leAt e 48 4, minMembers := leAt e 52 4,
    tree := if bit (leAt e 56 2) 15 then some (leAt e 56 2 % 4096) else none, epoch := 0, excluded := [], live := List.range n }

/-- Is everything BIND names in range (R298, R301)? -/
def State.bindOk (s : State) (pl : Pel) (e : List Byte) (ms : List Member) : Bool :=
  let n := leAt e 12 4
  let me := leAt e 24 4
  let tree := leAt e 56 2 % 4096
  pl.st == .reserved && decide (2 ≤ n) && decide (n ≤ (if pl.sched = 3 then 16384 else 65536)) && decide (schedSlots pl.sched n ≤ pl.slots) &&
    addrOk (leAt e 16 8) 64 && decide (me < n) && decide (byteAt e 28 ≤ 2) && bit pl.modes (byteAt e 28) &&
    (byteAt e 28 != 1 || pl.sched == 0) && decide (12 ≤ byteAt e 29) && decide (byteAt e 29 ≤ 18) && decide (byteAt e 30 ≤ 15) &&
    decide (byteAt e 31 ≤ 3) && decide (byteAt e 44 ≤ 15) && decide (1 ≤ byteAt e 45) && decide (byteAt e 45 ≤ 64) &&
    decide (1 ≤ byteAt e 46) && decide (byteAt e 46 ≤ 15) && decide (10000 ≤ leAt e 48 4) && decide (2 ≤ leAt e 52 4) && decide (leAt e 52 4 ≤ n) &&
    (match ms[me]? with
      | some m => m.module == s.rd Reg.TRN_MODULE_ID && s.srcIpOk (byteAt e 47) m.ip
      | none => false) &&
    (!bit (leAt e 56 2) 15 ||
      (s.on Reg.FWP_MC_CFG_VALID_ACT tree && s.on Reg.FWP_MC_CFG_LOCAL_ACT tree && s.rd Reg.FWP_MC_CFG_LOCAL_MEMBER_ACT tree == me && decide (n ≤ 64)))

/-- CREATE_PELOTON BIND (R298, R300, R353). -/
def cmdPelBind (t : Nat) (e : List Byte) (x : AdmX) (s : State) : AdmRes :=
  let p := leAt e 10 2
  let pl := s.pelOf p
  let ms := memberTable x.mem (leAt e 12 4)
  if 4096 ≤ p ∨ pl.st = .free ∨ pl.tenant ≠ t then bad Code.notFound
  else if !s.bindOk pl e ms then bad Code.invalidParam
  else if !s.cipReady pl.baseQp then .err Code.invalidParam 0xE0 0
  else
    let s1 := (List.range pl.slots).foldl (fun s k => s.wr Reg.QP_DESC0_TC (pl.baseQp + k) (byteAt e 30)) (s.setPel p (bindPel pl e ms))
    .ok (s1.connectLinks p) 0 0

/-- Frees a peloton: its links, its code and its banks (R323). -/
def State.freePel (s : State) (p : Nat) : State :=
  let pl := s.pelOf p
  let s1 := (List.range pl.slots).foldl (fun s k => s.freeQp (pl.baseQp + k)) s
  let s2 := s1.setClu pl.cluster { s1.cluOf pl.cluster with
    pstore := (s1.cluOf pl.cluster).pstore.filter (fun w => !(decide (pl.codeAt ≤ w.1) && decide (w.1 < pl.codeAt + pl.codeLen))) }
  { s2 with pels := Tbl.set {} p {} s2.pels, armed := s2.armed.filter (fun e => match e.kind with
      | .launch p' _ => p' ≠ p
      | .deadline p' _ => p' ≠ p
      | _ => true) }

/-- Sends the LEAVE that a peloton's links hold, before they go (R317, R323; log entry 32). -/
def State.sendLinks (s : State) (p : Nat) : State :=
  (List.range (s.pelOf p).slots).foldl (fun s k =>
    let q := (s.pelOf p).baseQp + k
    if (s.sqOf q).ops.any (fun o => o.sqe.opcode == 0x1B && o.st == .queued) then s.transmitDone q [] 0 else s) s

/-- DESTROY_PELOTON (R323). -/
def cmdDestroyPeloton (t : Nat) (e : List Byte) (s : State) : AdmRes :=
  let p := leAt e 8 2
  let pl := s.pelOf p
  if 4096 ≤ p ∨ pl.st = .free ∨ pl.tenant ≠ t then bad Code.notFound
  else match pl.st with
    | .armed => bad Code.busy
    | .running => bad Code.busy
    | .stalled => bad Code.busy
    | .reforming => bad Code.busy
    | .ready => .ok (((s.pelLeave p Code.success).sendLinks p).freePel p) 0 0
    | _ => .ok (s.freePel p) 0 0

end Sys2Proof.Machine
end

