-- ==== Sys2Proof/Machine/RegOps.lean ====
section
/-! DEFINITION. Registers by address (R2, R3, R10): which field instances a register holds, its value as a word, and
what a write of a word does where a field has no effect of its own. -/

namespace Sys2Proof.Machine

open Sys2Proof

/-- The instance of a field that its select register and replication name. -/
def State.selInst (s : State) (f : Fld) (r : Option Nat) : Nat :=
  match f.sel, r with
  | none, none => 0
  | none, some k => k
  | some key, none => Tbl.get 0 0 (Tbl.get [] key s.regs)
  | some key, some k => ix (Tbl.get 0 0 (Tbl.get [] key s.regs)) k

/-- The instance of a field at an offset, where it has one there. -/
def State.fieldAt (s : State) (f : Fld) (off : Nat) : Option Nat := (f.arrayIx off).map (s.selInst f)

/-- The value of the register at an offset: the fields there, reserved and write-only bits 0 (R2). -/
def State.wordAt (s : State) (l : List Fld) (off : Nat) : Nat :=
  l.foldl (fun acc f => match s.fieldAt f off with
    | some i => if f.acc = .wo then acc else acc + s.rd f i * 2 ^ f.lo
    | none => acc) 0

/-- Writes every field of the register at an offset by its access code (R2, R3). -/
def State.accessAt (s : State) (l : List Fld) (off v : Nat) : State :=
  l.foldl (fun t f => match s.fieldAt f off with
    | some i => t.access f i (v / 2 ^ f.lo)
    | none => t) s

/-- Does a register stand at an offset? -/
def regExists (l : List Fld) (off : Nat) : Bool := l.any fun f => (f.arrayIx off).isSome

end Sys2Proof.Machine
end

