-- ==== Sys2Proof/Machine/ClusterOps.lean ====
section
/-! DEFINITION. Cluster operations: threads and their registers (R232), traps (R239), scratchpad views and bank
checks (R246 to R250), stream slots (R240 to R245), work items (R252 to R255). -/

namespace Sys2Proof.Machine

open Sys2Proof

/-! Threads. -/

/-! The state values of CLU_THR_STATUS (R260). -/
namespace Ts
def halted : Nat := 0
def ready : Nat := 1
def waitCadence : Nat := 2
def waitStream : Nat := 3
def waitSync : Nat := 4
def trapped : Nat := 5
end Ts

/-! The causes of a trap (R239). -/
namespace Cause
def illegal : Nat := 1
def privileged : Nat := 2
def range : Nat := 3
def misaligned : Nat := 4
def bankNotOwned : Nat := 5
def unitNotOwned : Nat := 6
def tenant : Nat := 7
def arith : Nat := 8
def pstoreEcc : Nat := 9
end Cause

/-- Does the module have the thread (R16, R229)? -/
def isThread (c i : Nat) : Bool := decide (c < 10) && decide (i < 8)

/-- The core of a thread, and whether it is the core's service thread (R260). -/
def coreOf (i : Nat) : Nat := i / 2
def isService (i : Nat) : Bool := i % 2 == 0

def State.thState (s : State) (c i : Nat) : Nat := s.rd Reg.CLU_THR_STATUS_STATE (ix c i)
def State.setThState (s : State) (c i v : Nat) : State := s.wr Reg.CLU_THR_STATUS_STATE (ix c i) v
def State.pc (s : State) (c i : Nat) : Nat := s.rd Reg.CLU_THR_PC_PC (ix c i)
def State.setPc (s : State) (c i v : Nat) : State := s.wr Reg.CLU_THR_PC_PC (ix c i) v
/-- The next instruction. -/
def State.step1 (s : State) (c i : Nat) : State := s.inc Reg.CLU_THR_PC_PC (ix c i)
def State.thTenant (s : State) (c i : Nat) : Nat := s.rd Reg.CLU_THR_CTRL_TENANT (ix c i)
def State.thCtx (s : State) (c i : Nat) : Nat := s.rd Reg.CLU_THR_CTRL_CONTEXT (ix c i)

/-- A general register; g0 reads as 0 (R232). -/
def State.g (s : State) (c i n : Nat) : Nat := if n % 32 = 0 then 0 else Tbl.get 0 (n % 32) (s.thrOf c i).g
/-- Writes a general register; a write of g0 is ignored. -/
def State.setG (s : State) (c i n v : Nat) : State :=
  if n % 32 = 0 then s else s.setThr c i { s.thrOf c i with g := Tbl.set 0 (n % 32) (v % 2 ^ 64) (s.thrOf c i).g }
/-- A vector register. -/
def State.v (s : State) (c i n : Nat) : Nat := Tbl.get 0 (n % 32) (s.thrOf c i).v
def State.setV (s : State) (c i n v : Nat) : State :=
  s.setThr c i { s.thrOf c i with v := Tbl.set 0 (n % 32) (v % 2 ^ 1024) (s.thrOf c i).v }
/-- A predicate register; p0 reads as all ones (R232). -/
def State.p (s : State) (c i n : Nat) : Nat := if n % 8 = 0 then 2 ^ 128 - 1 else Tbl.get 0 (n % 8) (s.thrOf c i).p
def State.setP (s : State) (c i n v : Nat) : State :=
  if n % 8 = 0 then s else s.setThr c i { s.thrOf c i with p := Tbl.set 0 (n % 8) (v % 2 ^ 128) (s.thrOf c i).p }

/-- Zeroes a thread's registers and local memory (R230). -/
def Thr.wipe (t : Thr) : Thr := { t with g := [], v := [], p := [], mem := [] }

/-! Work items taken. -/

/-- Returns a bound item to the front of the work queue (R254). -/
def State.returnWork (s : State) (c i : Nat) : State :=
  match (s.thrOf c i).work with
  | none => s
  | some w =>
    let s1 := s.setThr c i { s.thrOf c i with work := none }
    (s1.setClu c { s1.cluOf c with work := { w with outLen := none } :: (s1.cluOf c).work }).showClu c

/-! Traps (R239). -/

/-- The peloton whose program runs on a program thread (R303, R317). -/
def State.pelOn (s : State) (c i : Nat) : Option Nat :=
  (s.pels.find? fun e => e.2.cluster == c && bit e.2.cores (coreOf i) && (match e.2.op with
    | some o => o.started
    | none => false)).map (·.1)

/-- The transform work item that the service thread of a core has bound (R255). -/
def State.xformOn (s : State) (c i : Nat) : Option Work :=
  match (s.thrOf c (2 * coreOf i)).work with
  | some w => if w.xform ≠ 0 then some w else none
  | none => none

/-- The REASON of a LEAVE for a trap (R317). -/
def leaveReason (cause : Nat) : Nat :=
  if cause = Cause.arith then Code.arithCheckError else if cause = Cause.tenant then Code.accessViolation else Code.badEntry

/-- Ends a transform with BAD_ENTRY (R255): the item is done, the program thread HALTED with its registers zeroed. -/
def State.xformFail (s : State) (c i : Nat) (w : Work) (detail : Nat) : State :=
  let sv := 2 * coreOf i
  let s1 := s.setThr c sv { s.thrOf c sv with work := none }
  let s2 := (s1.setThr c i (s1.thrOf c i).wipe).setThState c i Ts.halted
  s2.finishOp w.qp w.serial Code.badEntry detail

/-- A thread traps (R239): it stops, the trap is recorded and counted, and its owner hears of it: the peloton
leaves, a transform fails, or the service thread's item goes back for another (R254, R255, R317). -/
def State.trap (s : State) (c i cause addr : Nat) : State :=
  let s1 := (((s.setThState c i Ts.trapped).wr Reg.CLU_THR_STATUS_TRAP_CAUSE (ix c i) cause).wr Reg.CLU_THR_TRAP_TRAP_PC (ix c i)
    (s.pc c i)).wr Reg.CLU_THR_TRAP_TRAP_ADDR (ix c i) addr
  let s2 := ((s1.count Reg.CLU_TRAP_COUNT_COUNT c).pmc c 0x1A (some (s.thTenant c i))).setThr c i { s1.thrOf c i with wait := .none }
  if isService i then s2.returnWork c i
  else
    match s2.xformOn c i with
    | some w => s2.xformFail c i w (0xC0 + cause)
    | none =>
      match s2.pelOn c i with
      | some p => s2.pelLeave p (leaveReason cause)
      | none => s2

/-! Scratchpad and local memory (R232, R246 to R250). -/

/-- Bytes of a bank. -/
def bankBytes : Nat := 2 ^ 18

/-- The logical bank and the offset within it of a scratchpad address (R246). -/
def viewOf (a : Nat) : Option (Nat × Nat) :=
  let k := bits a 22 2
  if k = 3 then none
  else
    let w := 2 ^ k
    let group := bits a (18 + k) (4 - k)
    let j := bits a 6 (12 + k)
    some (w * group + j % w, j / w * 64 + bits a 0 6)

/-- Is an address of a thread's space scratchpad, local memory, or neither (R232)? -/
def isScratch (a : Nat) : Bool := decide (a < 0x1000000)
def isLocal (a : Nat) : Bool := decide (0x1000000 ≤ a) && decide (a < 0x1004000)

/-- What the checks of R250 give for one byte: its place, a cause of R239, or a wait for zeroing. -/
inductive BankRes where
  | ok (place : Nat)
  | bad (cause bank : Nat)
  | wait
  deriving DecidableEq, Repr

/-- Checks one byte of the scratchpad for a requester code and tenant (R247, R250). -/
def State.bankCheck (s : State) (c code ten : Nat) (write : Bool) (a : Nat) : BankRes :=
  match viewOf a with
  | none => .bad Cause.range 0
  | some (b, off) =>
    if s.on Reg.CLU_BANK_OWN_ZEROING (ix c b) then .wait
    else if s.rd Reg.CLU_BANK_OWN_TENANT (ix c b) ≠ ten then .bad Cause.tenant b
    else if s.rd Reg.CLU_BANK_OWN_OWNER (ix c b) = code ∨ (!write ∧ bit (s.rd Reg.CLU_BANK_OWN_SHARE_RD (ix c b)) (code - 1)) then
      .ok (s.rd Reg.CLU_BANK_MAP_PHYS (ix c b) * bankBytes + off)
    else .bad Cause.bankNotOwned b

/-- Where the 64-byte lines of a range of scratchpad lie: checks each line it touches. -/
inductive SpRes where
  | ok
  | bad (cause addr : Nat)
  | wait
  deriving DecidableEq, Repr

/-- The first byte of each line a range touches. -/
def lineStarts (a n : Nat) : List Nat :=
  if n = 0 then [] else a :: ((List.range (n / 64 + 2)).map (fun k => (a / 64 + k) * 64)).filter (fun b => decide (a < b) && decide (b < a + n))

/-- Checks a range of scratchpad (R250). The trap address is the byte concerned, or for BANK_NOT_OWNED the bank
(R260). -/
def State.spCheck (s : State) (c code ten : Nat) (write : Bool) (a n : Nat) : SpRes :=
  if 0x1000000 < a + n then .bad Cause.range a
  else (lineStarts a n).foldl (fun r b => match r with
    | .ok => (match s.bankCheck c code ten write b with
      | .ok _ => SpRes.ok
      | .bad cause bk => .bad cause (if cause = Cause.bankNotOwned then bk else b)
      | .wait => .wait)
    | x => x) SpRes.ok

/-- The place of a scratchpad byte in the cluster's bank memory. -/
def State.spPlace (s : State) (c a : Nat) : Nat :=
  match viewOf a with
  | none => 0
  | some (b, off) => s.rd Reg.CLU_BANK_MAP_PHYS (ix c b) * bankBytes + off

/-- Reads `n` scratchpad bytes. -/
def State.spRead (s : State) (c a n : Nat) : List Byte := (List.range n).map fun k => Mem.rd (s.cluOf c).bank (s.spPlace c (a + k))

/-- Writes scratchpad bytes to the banks. -/
def State.spStore (s : State) (c : Nat) : Nat → List Byte → State
  | _, [] => s
  | a, b :: bs => State.spStore (s.setClu c { s.cluOf c with bank := Mem.wr (s.cluOf c).bank (s.spPlace c a) b }) c (a + 1) bs

/-- The number of the bank line that holds scratchpad byte `a`. -/
def State.bankLine (s : State) (c a : Nat) : Nat := c * 2 ^ 17 + s.spPlace c a / 64

/-- Does a range of scratchpad touch a poisoned line (R402)? -/
def State.spPoisoned (s : State) (c a n : Nat) : Bool :=
  (lineStarts a n).any (fun b => s.board.res.bankPoison.contains (s.bankLine c b))

/-- Writes scratchpad bytes; a write of a whole line clears its poison (R402). -/
def State.spWrite (s : State) (c a : Nat) (b : List Byte) : State :=
  let whole := ((lineStarts a b.length).filter (fun x => x % 64 == 0 && decide (x + 64 ≤ a + b.length))).map (s.bankLine c)
  let s1 := s.spStore c a b
  { s1 with board := { s1.board with res := { s1.board.res with
    bankPoison := s1.board.res.bankPoison.filter (fun l => !whole.contains l) } } }

/-- The number of a line of a thread's local memory. -/
def localLine (c i off : Nat) : Nat := 256 * (8 * c + i) + off / 64

/-- Does a range of local memory touch a poisoned line (R402)? -/
def State.localPoisoned (s : State) (c i off n : Nat) : Bool :=
  (lineStarts off n).any (fun b => s.board.res.localPoison.contains (localLine c i b))

/-- Writes local memory; a write of a whole line clears its poison (R402). -/
def State.localStore (s : State) (c i off : Nat) (b : List Byte) : State :=
  let whole := ((lineStarts off b.length).filter (fun x => x % 64 == 0 && decide (x + 64 ≤ off + b.length))).map (localLine c i)
  let s1 := s.setThr c i { s.thrOf c i with mem := Mem.store (s.thrOf c i).mem off b }
  { s1 with board := { s1.board with res := { s1.board.res with
    localPoison := s1.board.res.localPoison.filter (fun l => !whole.contains l) } } }

/-- Does an instruction word lie in a poisoned line of its program store (R402)? -/
def State.storePoisoned (s : State) (c word : Nat) : Bool := s.board.res.storePoison.contains (8192 * c + word / 16)

/-- A tenant failure at a bank (R250 step 1): counted, and logged with KIND SCRATCH (R96, R97). -/
def State.scratchViol (s : State) (c ten ctx addr : Nat) : State :=
  (s.count Reg.CLU_SCRATCH_VIOL_COUNT c).violation Kind.scratch ten ctx c addr

/-- A trap for a bank failure of a thread. -/
def State.bankTrap (s : State) (c i cause addr : Nat) : State :=
  if cause = Cause.tenant then (s.scratchViol c (s.thTenant c i) (s.thCtx c i) addr).trap c i cause addr else s.trap c i cause addr

/-- What an access of a thread to its address space gives. -/
inductive ThRes where
  | ok
  | trap (cause addr : Nat)
  | wait
  deriving DecidableEq, Repr

/-- Checks `n` naturally aligned bytes of a thread's address space (R232, R239, R250); a load of a poisoned line traps with
cause 9 (R402). -/
def State.thCheck (s : State) (c i : Nat) (write : Bool) (a n align : Nat) : ThRes :=
  if !(isScratch a || isLocal a) ∨ (isLocal a ∧ !isLocal (a + n - 1)) then .trap Cause.range (a % 2 ^ 25)
  else if a % align ≠ 0 then .trap Cause.misaligned a
  else if isLocal a then (if !write && s.localPoisoned c i (a - 0x1000000) n then .trap Cause.pstoreEcc a else .ok)
  else match s.spCheck c (1 + coreOf i) (s.thTenant c i) write a n with
    | .ok => if !write && s.spPoisoned c a n then .trap Cause.pstoreEcc a else .ok
    | .bad cause x => .trap cause x
    | .wait => .wait

/-- Reads bytes of a thread's address space. -/
def State.thRead (s : State) (c i a n : Nat) : List Byte :=
  if isLocal a then Mem.bytes (s.thrOf c i).mem (a - 0x1000000) n else s.spRead c a n

/-- Writes bytes of a thread's address space. -/
def State.thWrite (s : State) (c i a : Nat) (b : List Byte) : State :=
  if isLocal a then s.localStore c i (a - 0x1000000) b else s.spWrite c a b

/-! Running an instruction. -/

/-- Runs an instruction command of a thread that is READY; one for a thread that is not ready issues nothing, and one in a
poisoned line of the program store traps (R239, R402). -/
def runThread (c i : Nat) (s : State) (f : State → State) : Result :=
  if !isThread c i then .fault .noSuchThread
  else if s.thState c i ≠ Ts.ready then .next s
  else if s.storePoisoned c (s.pc c i) then .next (s.trap c i Cause.pstoreEcc 0)
  else .next (f s)

/-- A privileged instruction traps in a program thread (R235). -/
def State.priv (s : State) (c i : Nat) (f : State) : State := if isService i then f else s.trap c i Cause.privileged 0

/-! Stream slots (R240 to R245). -/

def slotKey (u k : Nat) : Nat := 8 * u + k
def State.slotOf (s : State) (c u k : Nat) : Slot := Tbl.get {} (slotKey u k) (s.cluOf c).slots
/-- Keeps a slot, and shows its bits in CLU_STREAM_STATUS. -/
def State.setSlot (s : State) (c u k : Nat) (v : Slot) : State :=
  let s1 := s.setClu c { s.cluOf c with slots := Tbl.set {} (slotKey u k) v (s.cluOf c).slots }
  let all := List.range 8
  let busy := all.foldl (fun m j => if (s1.slotOf c u j).busy then m + 2 ^ j else m) 0
  let park := all.foldl (fun m j => if (s1.slotOf c u j).parked then m + 2 ^ j else m) 0
  let out := all.foldl (fun m j => m + (s1.slotOf c u j).out.length) 0
  ((s1.wr Reg.CLU_STREAM_STATUS_BUSY (ix c u) busy).wr Reg.CLU_STREAM_STATUS_PARKED (ix c u) park).wr
    Reg.CLU_STREAM_STATUS_OUTSTANDING (ix c u) (min 256 out)

/-- Marks the first failure of a slot: nothing more of it is requested (R245). -/
def State.slotFail (s : State) (c u k code : Nat) : State :=
  let v := s.slotOf c u k
  s.setSlot c u k { v with todo := [], parked := false, status := if v.status = 0 then code else v.status }

/-- Reads local bytes of a slot: the scratchpad, or the hub by offset. -/
def State.localRead (s : State) (c : Nat) (hub : Bool) (a n : Nat) : List Byte :=
  if hub then Mem.bytes (s.cluOf c).hub a n else s.spRead c a n
def State.localWrite (s : State) (c : Nat) (hub : Bool) (a : Nat) (b : List Byte) : State :=
  if hub then s.setClu c { s.cluOf c with hub := Mem.store (s.cluOf c).hub a b } else s.spWrite c a b

/-- The scratchpad failure of a slot, found where its local bytes are reached: the trap of R250 on its thread. -/
def State.slotTrap (s : State) (c u k cause addr : Nat) : State :=
  let v := s.slotOf c u k
  (s.setSlot c u k { v with busy := false, todo := [], out := [], parked := false }).bankTrap c v.thread cause addr

/-- Checks the local bytes of a part of a slot. -/
def State.slotCheck (s : State) (c u : Nat) (v : Slot) (a n : Nat) : SpRes :=
  if v.hub then .ok else s.spCheck c (5 + u) (s.thTenant c v.thread) (!v.store) a n

/-- One part of a slot to a place that its translation gave: done in GDDR7, requested of the accelerator. -/
def State.slotPart (s : State) (c u k la ra n : Nat) (x : XlRes) : State :=
  let v := s.slotOf c u k
  let ten := s.thTenant c v.thread
  let ctx := s.thCtx c v.thread
  match x with
  | .gddr a =>
    if v.store then ((s.gddrStore a (s.localRead c v.hub la n)).pmc 13 0x51 (some ten) (linesOf a n)).pmc c 0x12 (some ten) n
    else if s.gddrPoisoned a n then s.slotFail c u k Code.memoryError
    else ((s.localWrite c v.hub la (s.gddrBytes a n)).pmc 13 0x50 (some ten) (linesOf a n)).pmc c 0x11 (some ten) n
  | .host slot pa =>
    if v.store then
      let r := (s.pmc c 0x12 (some ten) n).hostWrite slot ten ctx pa (s.localRead c v.hub la n) (some (.slot c u k))
      match r.2 with
      | some p => r.1.setThr c v.thread { r.1.thrOf c v.thread with wrote := setBit (r.1.thrOf c v.thread).wrote p }
      | none => r.1
    else
      match s.pathFor slot pa with
      | some p =>
        let tag := (s.nearOf p).nextTag
        let s1 := (s.pmc c 0x11 (some ten) n).sendNp p .read (.slot c u k) { op := 2, len := n, tenant := ten, ctx, addr := pa }
        s1.setSlot c u k { s1.slotOf c u k with out := (s1.slotOf c u k).out ++ [(p, tag, la, n)] }
      | none => s.setSlot c u k { v with todo := (la, ra, n) :: v.todo }
  | _ => s

/-- Does what can be done of a slot: part by part, until one misses, fails, or waits (R241, R242, R245). -/
def State.slotPump (c u k : Nat) : Nat → State → State
  | 0, s => s
  | fuel + 1, s =>
    let v := s.slotOf c u k
    match v.todo with
    | [] => s
    | (la, ra, n) :: rest =>
      if v.parked ∨ !v.busy then s
      else
        match s.slotCheck c u v la n with
        | .wait => s
        | .bad cause addr => s.slotTrap c u k cause addr
        | .ok =>
          let ten := s.thTenant c v.thread
          let ctx := s.thCtx c v.thread
          let acc := if v.store then AccK.write else .read
          let r := if v.win then (s, if s.gddrPassAll ten ctx acc ra n then XlRes.gddr ra else .bad Kind.extent)
            else s.translate c ten ctx ra acc
          match r.2 with
          | .bad kind => (r.1.violation kind ten ctx c ra).slotFail c u k Code.accessViolation
          | .miss => r.1.startWalk c ten ctx ra acc [{ user := .slot c u k, acc, va := ra, cluster := c }] none
          | x => State.slotPump c u k fuel ((r.1.setSlot c u k { v with todo := rest }).slotPart c u k la ra n x)

/-- Starts a transfer on a free slot: its parts within 4 KiB pages (R242). -/
def State.slotStart (s : State) (c i u k : Nat) (store hub win : Bool) (parts : List (Nat × Nat × Nat)) : State :=
  State.slotPump c u k (parts.length + 1) (s.setSlot c u k { busy := true, thread := i, store, hub, win, todo := parts })

/-- The parts of one run of remote bytes. -/
def runParts (la ra n : Nat) : List (Nat × Nat × Nat) := (pieces ra n).map fun x => (la + (x.1 - ra), x.1, x.2)

/-- Has a slot finished? -/
def Slot.idle (v : Slot) : Bool := v.todo == [] && v.out == [] && !v.parked

/-- A slot returns its code to a thread (R245); a collective program whose slot returns a failure leaves (R317). -/
def State.slotReturn (s : State) (c u i d : Nat) (code : Nat) : State :=
  let s1 := ((s.setG c i d code).wr Reg.CLU_STREAM_STATUS_LAST_STATUS (ix c u) code).step1 c i
  if !isService i ∧ (code = Code.accessViolation ∨ code = Code.pageTimeout ∨ code = Code.hostDataError ∨ code = Code.memoryError) then
    (match s1.pelOn c i with
    | some p => s1.pelLeave p code
    | none => s1)
  else s1

/-- Wakes the threads that wait for a slot in SWAIT or because it was busy (R240, R245). -/
def State.slotWake (s : State) (c u k : Nat) : State :=
  [2 * u, 2 * u + 1].foldl (fun s i =>
    match (s.thrOf c i).wait with
    | .slotDone j d =>
      if j = k then
        ((s.setThr c i { s.thrOf c i with wait := .none }).setThState c i Ts.ready).slotReturn c u i d (s.slotOf c u k).status
      else s
    | .slotFree j => if j = k then (s.setThr c i { s.thrOf c i with wait := .none }).setThState c i Ts.ready else s
    | _ => s) s

end Sys2Proof.Machine
end

