-- ==== Sys2Proof/Machine/Stream.lean ====
section
/-! DEFINITION. The stream instructions (R240 to R245). `f` is the modifier: F[0] WIN, F[3:1] the slot. -/

namespace Sys2Proof.Machine

open Sys2Proof

/-- The slot a modifier names. -/
def slotOfF (f : Nat) : Nat := bits f 1 3

/-- Does the slot belong to the thread (R240)? -/
def ownSlot (i f : Nat) : Bool := isService i == decide (slotOfF f < 4)

/-- Runs a stream instruction on a free slot of its own thread: another thread's slot traps with ILLEGAL, a busy one
makes the thread wait. -/
def withSlot (c i f : Nat) (s : State) (g : State → State) : State :=
  if !ownSlot i f then s.trap c i Cause.illegal 0
  else if (s.slotOf c (coreOf i) (slotOfF f)).busy then
    (s.setThr c i { s.thrOf c i with wait := .slotFree (slotOfF f) }).setThState c i Ts.waitStream
  else g s

/-- Is a run of bytes scratchpad (R232)? -/
def inScratch (a n : Nat) : Bool := isScratch a && decide (a + n ≤ 0x1000000)

/-- SLD and SST: one run between the scratchpad at g[D] and the remote address g[A], g[B] bytes long. -/
def linear (c i d a b f : Nat) (store : Bool) (s : State) : Result :=
  runThread c i s fun s => withSlot c i f s fun s =>
    if !inScratch (s.g c i d) (s.g c i b) then s.trap c i Cause.range (s.g c i d % 2 ^ 25)
    else (s.slotStart c i (coreOf i) (slotOfF f) store false (bit f 0) (runParts (s.g c i d) (s.g c i a) (s.g c i b))).step1 c i

/-- SLD (R240 to R243). -/
def execSld (c i d a b f : Nat) (s : State) : Result := linear c i d a b f false s
/-- SST (R240 to R243). -/
def execSst (c i d a b f : Nat) (s : State) : Result := linear c i d a b f true s

/-- A gather descriptor (R244). -/
structure GatherD where
  list : Nat
  rows : Nat
  row : Nat
  stride : Nat
  width : Nat
  deriving DecidableEq, Repr

/-- Reads a descriptor from its 16 bytes. -/
def gatherOf (e : List Byte) : GatherD :=
  { list := leAt e 0 4, rows := leAt e 4 4, row := leAt e 8 4, stride := leAt e 12 2, width := leAt e 14 1 }

/-- The ranges of R244. -/
def GatherD.ok (x : GatherD) : Bool :=
  decide (1 ≤ x.rows) && decide (x.rows ≤ 2 ^ 20) && decide (8 ≤ x.row) && decide (x.row ≤ 4096) && x.row % 8 == 0 && x.stride != 0 &&
    (x.width == 4 || x.width == 8) && inScratch x.list (x.rows * x.width)

/-- Passes where a scratchpad read of the stream unit passes R250. -/
def State.unitRead (s : State) (c i a n : Nat) (g : State → State) : State :=
  match s.spCheck c (5 + coreOf i) (s.thTenant c i) false a n with
  | .ok => g s
  | .bad cause addr => s.bankTrap c i cause addr
  | .wait => s

/-- The parts of the rows a descriptor names (R244). -/
def State.rowParts (s : State) (c la base : Nat) (x : GatherD) : List (Nat × Nat × Nat) :=
  (List.range x.rows).flatMap fun k =>
    runParts (la + k * x.row) ((base + leNat (s.spRead c (x.list + k * x.width) x.width) * x.stride * x.row) % 2 ^ 64) x.row

/-- SGATHER and SSCATTER: g[D] the packed buffer, g[A] the remote base, g[B] the descriptor. -/
def rows (c i d a b f : Nat) (store : Bool) (s : State) : Result :=
  runThread c i s fun s => withSlot c i f s fun s =>
    let at_ := s.g c i b
    if !inScratch at_ 16 then s.trap c i Cause.range (at_ % 2 ^ 25)
    else if at_ % 16 ≠ 0 then s.trap c i Cause.misaligned at_
    else s.unitRead c i at_ 16 fun s =>
      let x := gatherOf (s.spRead c at_ 16)
      if !x.ok then s.trap c i Cause.range at_
      else if !inScratch (s.g c i d) (x.rows * x.row) then s.trap c i Cause.range (s.g c i d % 2 ^ 25)
      else s.unitRead c i x.list (x.rows * x.width) fun s =>
        (s.slotStart c i (coreOf i) (slotOfF f) store false (bit f 0) (s.rowParts c (s.g c i d) (s.g c i a) x)).step1 c i

/-- SGATHER (R244). -/
def execSgather (c i d a b f : Nat) (s : State) : Result := rows c i d a b f false s
/-- SSCATTER (R244). -/
def execSscatter (c i d a b f : Nat) (s : State) : Result := rows c i d a b f true s

/-- SWAIT (R245): g[D] takes the slot's code once it has completed. -/
def execSwait (c i d f : Nat) (s : State) : Result :=
  runThread c i s fun s =>
    let v := s.slotOf c (coreOf i) (slotOfF f)
    if !ownSlot i f then s.trap c i Cause.illegal 0
    else if v.busy then (s.setThr c i { s.thrOf c i with wait := .slotDone (slotOfF f) d }).setThState c i Ts.waitStream
    else s.slotReturn c (coreOf i) i d v.status

/-- SPOLL (R245): 0xFF while the slot runs. -/
def execSpoll (c i d f : Nat) (s : State) : Result :=
  runThread c i s fun s =>
    let v := s.slotOf c (coreOf i) (slotOfF f)
    if !ownSlot i f then s.trap c i Cause.illegal 0
    else if v.busy then (s.setG c i d 0xFF).step1 c i
    else s.slotReturn c (coreOf i) i d v.status

/-- Bytes of the hub buffer (R229). -/
def hubBytes : Nat := 2 ^ 20

/-- HLD and HST: one run between the hub at handle g[D] and the remote address g[A]. A handle is a hub offset (log
entry 8). -/
def hubRunOp (c i d a b f : Nat) (store : Bool) (s : State) : Result :=
  runThread c i s fun s => s.priv c i (withSlot c i f s fun s =>
    if hubBytes < s.g c i d + s.g c i b then s.trap c i Cause.range (s.g c i d % 2 ^ 25)
    else (s.slotStart c i (coreOf i) (slotOfF f) store true (bit f 0) (runParts (s.g c i d) (s.g c i a) (s.g c i b))).step1 c i)

/-- HLD (R240). -/
def execHld (c i d a b f : Nat) (s : State) : Result := hubRunOp c i d a b f false s
/-- HST (R240). -/
def execHst (c i d a b f : Nat) (s : State) : Result := hubRunOp c i d a b f true s

/-- SHX (R240): between the scratchpad at g[D] and the hub at g[A]; bit 63 of g[B] sets scratchpad to hub. -/
def execShx (c i d a b f : Nat) (s : State) : Result :=
  runThread c i s fun s => s.priv c i (withSlot c i f s fun s =>
    let toHub := bit (s.g c i b) 63
    let n := s.g c i b % 2 ^ 63
    let sp := s.g c i d
    let hb := s.g c i a
    if !inScratch sp n then s.trap c i Cause.range (sp % 2 ^ 25)
    else if hubBytes < hb + n then s.trap c i Cause.range (hb % 2 ^ 25)
    else
      match s.spCheck c (5 + coreOf i) (s.thTenant c i) (!toHub) sp n with
      | .bad cause addr => s.bankTrap c i cause addr
      | .wait => s
      | .ok =>
        let s1 := if toHub then s.localWrite c true hb (s.spRead c sp n) else s.spWrite c sp (s.localRead c true hb n)
        (s1.setSlot c (coreOf i) (slotOfF f) { busy := true, thread := i, store := toHub, hub := true }).step1 c i)

/-- STREAM_SLOT_DONE (R243, R245): slot `k` of unit `u` has moved every byte or failed; it is free again, and who
waits for it goes on. -/
def execStreamSlotDone (c u k : Nat) (s : State) : Result :=
  let v := s.slotOf c u k
  .next (if v.busy && v.idle then (s.setSlot c u k { v with busy := false }).slotWake c u k else s)

end Sys2Proof.Machine
end

