-- ==== Sys2Proof/Machine/Scalar.lean ====
section
/-! DEFINITION. The scalar instructions of a spoke core (R235 groups 0x0 and 0x1). `c` and `i` name the cluster and
its thread, `d`, `a`, `b` the register fields, `imm` the raw immediate field (R234). -/

namespace Sys2Proof.Machine

open Sys2Proof

/-- Writes `f` of two words into g[D], and goes on to the next instruction. -/
def scalar (c i d : Nat) (x y : State → Nat) (f : Nat → Nat → Nat) (s : State) : Result :=
  runThread c i s fun s => (s.setG c i d (f (x s) (y s))).step1 c i

/-- The same for a shift: an amount of 64 or more gives a free value, as R235 states none (log entry 1). -/
def shift (c i d : Nat) (x n : State → Nat) (f : Nat → Nat → Nat) (s : State) : Result :=
  runThread c i s fun s =>
    if n s < 64 then (s.setG c i d (f (x s) (n s))).step1 c i else ((s.setG c i d (s.free 64)).step1 c i).bump

/-- A 12-bit immediate as a 64-bit word (R234). -/
def imm12 (imm : Nat) : Nat := wrap 64 (sext 12 imm)

/-- Signed words. -/
def i64 (x : Nat) : Int := sext 64 x

/-- Shifts right with the sign. -/
def sra64 (x n : Nat) : Nat := wrap 64 (i64 x / 2 ^ n)
def slt64 (x y : Nat) : Nat := b2n (decide (i64 x < i64 y))
/-- The number of bits of a word that are 1, and of leading zeros. -/
def popc (x : Nat) : Nat := ((List.range 64).filter (fun k => bit x k)).length
def clz (x : Nat) : Nat := if x = 0 then 64 else 63 - Nat.log2 x

/-- A quotient that R235 states: no division by 0, and not the one quotient out of range (log entry 2). -/
def divStated (x y : Nat) : Bool := y != 0 && !(x == 2 ^ 63 && y == 2 ^ 64 - 1)
def div64 (x y : Nat) : Nat :=
  if divStated x y then wrap 64 ((i64 x).tdiv (i64 y)) else (Config.divOpen (BitVec.ofNat 64 x) (BitVec.ofNat 64 y)).toNat
def rem64 (x y : Nat) : Nat :=
  if divStated x y then wrap 64 ((i64 x).tmod (i64 y)) else (Config.remOpen (BitVec.ofNat 64 x) (BitVec.ofNat 64 y)).toNat

/-- ADD (R235). -/
def execAdd (c i d a b : Nat) (s : State) : Result :=
  scalar c i d (fun s => s.g c i a) (fun s => s.g c i b) (fun x y => x + y) s

/-- SUB (R235). -/
def execSub (c i d a b : Nat) (s : State) : Result :=
  scalar c i d (fun s => s.g c i a) (fun s => s.g c i b) (fun x y => x + 2 ^ 64 - y) s

/-- AND (R235). -/
def execAnd (c i d a b : Nat) (s : State) : Result :=
  scalar c i d (fun s => s.g c i a) (fun s => s.g c i b) (fun x y => x &&& y) s

/-- OR (R235). -/
def execOr (c i d a b : Nat) (s : State) : Result :=
  scalar c i d (fun s => s.g c i a) (fun s => s.g c i b) (fun x y => x ||| y) s

/-- XOR (R235). -/
def execXor (c i d a b : Nat) (s : State) : Result :=
  scalar c i d (fun s => s.g c i a) (fun s => s.g c i b) (fun x y => x ^^^ y) s

/-- SHL (R235). -/
def execShl (c i d a b : Nat) (s : State) : Result :=
  shift c i d (fun s => s.g c i a) (fun s => s.g c i b) (fun x n => x * 2 ^ n) s

/-- SHR (R235). -/
def execShr (c i d a b : Nat) (s : State) : Result :=
  shift c i d (fun s => s.g c i a) (fun s => s.g c i b) (fun x n => x / 2 ^ n) s

/-- SRA (R235). -/
def execSra (c i d a b : Nat) (s : State) : Result :=
  shift c i d (fun s => s.g c i a) (fun s => s.g c i b) (sra64) s

/-- SLT (R235). -/
def execSlt (c i d a b : Nat) (s : State) : Result :=
  scalar c i d (fun s => s.g c i a) (fun s => s.g c i b) (slt64) s

/-- SLTU (R235). -/
def execSltu (c i d a b : Nat) (s : State) : Result :=
  scalar c i d (fun s => s.g c i a) (fun s => s.g c i b) (fun x y => b2n (decide (x < y))) s

/-- MIN (R235). -/
def execMin (c i d a b : Nat) (s : State) : Result :=
  scalar c i d (fun s => s.g c i a) (fun s => s.g c i b) (fun x y => if i64 y < i64 x then y else x) s

/-- MAX (R235). -/
def execMax (c i d a b : Nat) (s : State) : Result :=
  scalar c i d (fun s => s.g c i a) (fun s => s.g c i b) (fun x y => if i64 x < i64 y then y else x) s

/-- POPC (R235). -/
def execPopc (c i d a : Nat) (s : State) : Result := scalar c i d (fun s => s.g c i a) (fun _ => 0) (fun x _ => popc x) s

/-- CLZ (R235). -/
def execClz (c i d a : Nat) (s : State) : Result := scalar c i d (fun s => s.g c i a) (fun _ => 0) (fun x _ => clz x) s

/-- MUL (R235). -/
def execMul (c i d a b : Nat) (s : State) : Result :=
  scalar c i d (fun s => s.g c i a) (fun s => s.g c i b) (fun x y => x * y) s

/-- MULH (R235). -/
def execMulh (c i d a b : Nat) (s : State) : Result :=
  scalar c i d (fun s => s.g c i a) (fun s => s.g c i b) (fun x y => wrap 64 (i64 x * i64 y / 2 ^ 64)) s

/-- DIV (R235). -/
def execDiv (c i d a b : Nat) (s : State) : Result :=
  scalar c i d (fun s => s.g c i a) (fun s => s.g c i b) (div64) s

/-- REM (R235). -/
def execRem (c i d a b : Nat) (s : State) : Result :=
  scalar c i d (fun s => s.g c i a) (fun s => s.g c i b) (rem64) s

/-- ADDI (R235). -/
def execAddi (c i d a imm : Nat) (s : State) : Result :=
  scalar c i d (fun s => s.g c i a) (fun _ => imm12 imm) (fun x y => x + y) s

/-- ANDI (R235). -/
def execAndi (c i d a imm : Nat) (s : State) : Result :=
  scalar c i d (fun s => s.g c i a) (fun _ => imm12 imm) (fun x y => x &&& y) s

/-- ORI (R235). -/
def execOri (c i d a imm : Nat) (s : State) : Result :=
  scalar c i d (fun s => s.g c i a) (fun _ => imm12 imm) (fun x y => x ||| y) s

/-- XORI (R235). -/
def execXori (c i d a imm : Nat) (s : State) : Result :=
  scalar c i d (fun s => s.g c i a) (fun _ => imm12 imm) (fun x y => x ^^^ y) s

/-- SHLI (R235). -/
def execShli (c i d a imm : Nat) (s : State) : Result :=
  shift c i d (fun s => s.g c i a) (fun _ => imm12 imm) (fun x n => x * 2 ^ n) s

/-- SHRI (R235). -/
def execShri (c i d a imm : Nat) (s : State) : Result :=
  shift c i d (fun s => s.g c i a) (fun _ => imm12 imm) (fun x n => x / 2 ^ n) s

/-- SRAI (R235). -/
def execSrai (c i d a imm : Nat) (s : State) : Result :=
  shift c i d (fun s => s.g c i a) (fun _ => imm12 imm) (sra64) s

/-- SLTI (R235). -/
def execSlti (c i d a imm : Nat) (s : State) : Result :=
  scalar c i d (fun s => s.g c i a) (fun _ => imm12 imm) (slt64) s

/-- LUI: D takes IMM17 shifted left by 15 (R235). -/
def execLui (c i d imm : Nat) (s : State) : Result := scalar c i d (fun _ => 0) (fun _ => 0) (fun _ _ => wrap 64 (sext 17 imm * 2 ^ 15)) s

/-- A reserved operation or group (R235): the trap ILLEGAL (R239). -/
def execIllegalInstruction (c i : Nat) (s : State) : Result := runThread c i s fun s => s.trap c i Cause.illegal 0

end Sys2Proof.Machine
end

