-- ==== Sys2Proof/Machine/LoadStore.lean ====
section
/-! DEFINITION. The scalar loads, stores and branches of a spoke core (R232, R235 groups 0x2 and 0x3, R250). -/

namespace Sys2Proof.Machine

open Sys2Proof

/-- The address g[A] + IMM12. -/
def State.ea (s : State) (c i a imm : Nat) : Nat := (s.g c i a + imm12 imm) % 2 ^ 64

/-- Runs `f` where the checks of R232 and R250 pass for `n` aligned bytes; a request to a bank that is zeroing
waits (R247). -/
def withAccess (c i : Nat) (write : Bool) (x n align : Nat) (s : State) (f : State → State) : State :=
  match s.thCheck c i write x n align with
  | .ok => f s
  | .trap cause addr => s.bankTrap c i cause addr
  | .wait => s

/-- A load of `n` bytes; R235 does not state the upper bits of g[D] for `n` below 8: a free value (log entry 5). -/
def load (c i d a imm n : Nat) (s : State) : Result :=
  runThread c i s fun s =>
    let x := s.ea c i a imm
    withAccess c i false x n n s fun s =>
      let v := leNat (s.thRead c i x n)
      if n = 8 then (s.setG c i d v).step1 c i else ((s.setG c i d (v + s.free (64 - 8 * n) * 2 ^ (8 * n))).step1 c i).bump

/-- A store of the `n` low bytes of g[D]. -/
def store (c i d a imm n : Nat) (s : State) : Result :=
  runThread c i s fun s =>
    let x := s.ea c i a imm
    withAccess c i true x n n s fun s => (s.thWrite c i x (leBytes n (s.g c i d))).step1 c i

/-- LD.B (R235). -/
def execLdB (c i d a imm : Nat) (s : State) : Result := load c i d a imm 1 s
/-- LD.H (R235). -/
def execLdH (c i d a imm : Nat) (s : State) : Result := load c i d a imm 2 s
/-- LD.W (R235). -/
def execLdW (c i d a imm : Nat) (s : State) : Result := load c i d a imm 4 s
/-- LD.D (R235). -/
def execLdD (c i d a imm : Nat) (s : State) : Result := load c i d a imm 8 s
/-- ST.B (R235). -/
def execStB (c i d a imm : Nat) (s : State) : Result := store c i d a imm 1 s
/-- ST.H (R235). -/
def execStH (c i d a imm : Nat) (s : State) : Result := store c i d a imm 2 s
/-- ST.W (R235). -/
def execStW (c i d a imm : Nat) (s : State) : Result := store c i d a imm 4 s
/-- ST.D (R235). -/
def execStD (c i d a imm : Nat) (s : State) : Result := store c i d a imm 8 s

/-! Branches: g[D] is compared with g[A]; offsets count instructions (R234), from a base that is open (log entry 3). -/

/-- The program counter `off` instructions on. -/
def State.target17 (s : State) (c i : Nat) (off : Int) : Nat := wrap 17 ((s.pc c i : Int) + Config.branchBase + off)

/-- Branches where the comparison of g[D] with g[A] holds. -/
def branch (c i d a imm : Nat) (p : Nat → Nat → Bool) (s : State) : Result :=
  runThread c i s fun s =>
    if p (s.g c i d) (s.g c i a) then s.setPc c i (s.target17 c i (sext 12 imm)) else s.step1 c i

/-- BEQ (R235). -/
def execBeq (c i d a imm : Nat) (s : State) : Result := branch c i d a imm (fun x y => x == y) s
/-- BNE (R235). -/
def execBne (c i d a imm : Nat) (s : State) : Result := branch c i d a imm (fun x y => x != y) s
/-- BLT (R235). -/
def execBlt (c i d a imm : Nat) (s : State) : Result := branch c i d a imm (fun x y => decide (i64 x < i64 y)) s
/-- BGE (R235). -/
def execBge (c i d a imm : Nat) (s : State) : Result := branch c i d a imm (fun x y => decide (i64 y ≤ i64 x)) s
/-- BLTU (R235). -/
def execBltu (c i d a imm : Nat) (s : State) : Result := branch c i d a imm (fun x y => decide (x < y)) s
/-- BGEU (R235). -/
def execBgeu (c i d a imm : Nat) (s : State) : Result := branch c i d a imm (fun x y => decide (y ≤ x)) s

/-- JAL (R235): g[D] takes the link value. -/
def execJal (c i d imm : Nat) (s : State) : Result :=
  runThread c i s fun s => (s.setG c i d (Config.linkValue (s.pc c i))).setPc c i (s.target17 c i (sext 17 imm))

/-- JALR (R235): to the byte offset g[A], plus IMM12 instructions. -/
def execJalr (c i d a imm : Nat) (s : State) : Result :=
  runThread c i s fun s =>
    (s.setG c i d (Config.linkValue (s.pc c i))).setPc c i (wrap 17 ((s.g c i a / 4 : Nat) + sext 12 imm))

end Sys2Proof.Machine
end

