-- ==== Sys2Proof/Machine/Vector.lean ====
section
/-! DEFINITION. The vector instructions (R235 groups 0x4 and 0x5, R264 to R270, R289, R290). `f` is the modifier:
F[3:0] the element format, F[6:4] the predicate register. `chk` says what the residue checks of R289 found: 0 a pass, 1
a failure whose rerun passed, any other value two failures. -/

namespace Sys2Proof.Machine

open Sys2Proof

/-- Runs a vector instruction of a thread that is READY, and counts it (R449). -/
def runVec (c i : Nat) (s : State) (f : State → State) : Result :=
  runThread c i s fun s => f (s.pmc c 0x10 (some (s.thTenant c i)))

/-! Lanes. -/

/-- Replaces `w` bits at `lo` of a value. -/
def putBits (v lo w x : Nat) : Nat := v - bits v lo w * 2 ^ lo + x % 2 ^ w * 2 ^ lo

/-- Is the lane at bit `pos` active under a predicate (R232)? The predicate bit of its lowest byte decides. -/
def active (p pos : Nat) : Bool := bit p (pos / 8)

/-- Writes `n` lanes of `w` bits where the predicate is active; the other bits keep their values. -/
def writeLanes (p w : Nat) (f : Nat → Nat × Flags) : Nat → Nat → Nat × Flags
  | 0, old => (old, {})
  | n + 1, old =>
    let r := writeLanes p w f n old
    if active p (w * n) then (putBits r.1 (w * n) w (f n).1, r.2.or (f n).2) else r

/-- Sets the sticky flags of a thread (R267). -/
def State.orFlags (s : State) (c i : Nat) (f : Flags) : State :=
  let up (s : State) (r : Fld) (b : Bool) : State := if b then s.wr r (ix c i) 1 else s
  up (up (up (up (up s Reg.ARR_THR_FP_INVALID f.invalid) Reg.ARR_THR_FP_OVERFLOW f.overflow) Reg.ARR_THR_FP_UNDERFLOW f.underflow)
    Reg.ARR_THR_FP_INEXACT f.inexact) Reg.ARR_THR_FP_SATURATED f.saturated

def State.sat (s : State) (c i : Nat) : Bool := s.on Reg.ARR_THR_FP_SAT (ix c i)

/-- The rounding of lane `l` (R268). -/
def State.modeOf (s : State) (c i l : Nat) : Mode :=
  if s.on Reg.ARR_THR_FP_ROUND (ix c i) then
    .sr (srBits (s.rd Reg.ARR_SR_SEED_SEED (ix c i)) (s.rd Reg.ARR_SR_IDX_CHUNK (ix c i)) ((s.rd Reg.ARR_SR_IDX_ELEM (ix c i) + l) % 2 ^ 32))
  else .rne

/-- Advances the element index by `n` elements converted, under stochastic rounding (R268). -/
def State.srAdvance (s : State) (c i n : Nat) : State :=
  if s.on Reg.ARR_THR_FP_ROUND (ix c i) then s.inc Reg.ARR_SR_IDX_ELEM (ix c i) n else s

/-- The formats of the vector arithmetic (R270). -/
def vecFormat (f : Nat) : Bool := f == 0 || f == 1 || f == 2 || f == 0xB || f == 0xC || f == 0xE

/-- The predicate a modifier names. -/
def State.pred (s : State) (c i f : Nat) : Nat := s.p c i (bits f 4 3)

/-- Runs a vector instruction under its residue checks (R289, R290). -/
def vecChecked (c i chk : Nat) (s : State) (f : State → State) : State :=
  if chk = 0 then f s
  else if chk = 1 then f ((s.inc Reg.ARR_VRES_MISMATCH c).inc Reg.ARR_VRES_RETRY_OK c)
  else ((s.inc Reg.ARR_VRES_MISMATCH c 2).eventOpen provider Code.arithCheckError).trap c i Cause.arith 0

/-- Adds two elements: floats rounded once, integers wrapping (R270). -/
def Elem.arith (E : Elem) (sat : Bool) (op : Num → Num → Num) (iop : Nat → Nat → Nat) (a b : Nat) : Nat × Flags :=
  match E with
  | .int w => (iop a b % 2 ^ w, {})
  | .none => (0, {})
  | _ =>
    let x := E.decode a
    let y := E.decode b
    let r := op x y
    let t := E.round .rne sat r
    (t.1, { t.2 with invalid := r.isNan && !x.isNan && !y.isNan })

/-- One lane-wise instruction of two sources. -/
def vecBin (c i d a b f : Nat) (chk : Nat) (op : Elem → Bool → Nat → Nat → Nat × Flags) (s : State) : Result :=
  runVec c i s fun s =>
    if !vecFormat (f % 16) then s.trap c i Cause.illegal 0
    else vecChecked c i chk s fun s =>
      let w := elemBits (f % 16)
      let r := writeLanes (s.pred c i f) w (fun l => op (elemOf (f % 16)) (s.sat c i) (bits (s.v c i a) (w * l) w) (bits (s.v c i b) (w * l) w))
        (1024 / w) (s.v c i d)
      ((s.setV c i d r.1).orFlags c i r.2).step1 c i

/-- VADD (R270). -/
def execVadd (c i d a b f chk : Nat) (s : State) : Result := vecBin c i d a b f chk (fun E sat => E.arith sat Num.add (· + ·)) s
/-- VSUB (R270). -/
def execVsub (c i d a b f chk : Nat) (s : State) : Result :=
  vecBin c i d a b f chk (fun E sat => E.arith sat (fun x y => x.add y.neg) (fun x y => x + 2 ^ 64 - y)) s
/-- VMUL (R270). -/
def execVmul (c i d a b f chk : Nat) (s : State) : Result := vecBin c i d a b f chk (fun E sat => E.arith sat Num.mul (· * ·)) s

/-- VFMA (R270): v[A] x v[B] + v[D] with one rounding. -/
def execVfma (c i d a b f chk : Nat) (s : State) : Result :=
  runVec c i s fun s =>
    if !vecFormat (f % 16) then s.trap c i Cause.illegal 0
    else vecChecked c i chk s fun s =>
      let w := elemBits (f % 16)
      let E := elemOf (f % 16)
      let lane (n l : Nat) : Nat := bits (s.v c i n) (w * l) w
      let r := writeLanes (s.pred c i f) w (fun l => match E with
          | .int k => ((lane a l * lane b l + lane d l) % 2 ^ k, {})
          | _ =>
            let v := ((E.decode (lane a l)).mul (E.decode (lane b l))).add (E.decode (lane d l))
            let t := E.round .rne (s.sat c i) v
            (t.1, { t.2 with invalid := v.isNan && !(E.decode (lane a l)).isNan && !(E.decode (lane b l)).isNan && !(E.decode (lane d l)).isNan }))
        (1024 / w) (s.v c i d)
      ((s.setV c i d r.1).orFlags c i r.2).step1 c i

/-- Is the smaller or larger of two elements stated: neither a NaN, and not zeros of opposite signs (log entry 6)? -/
def orderStated (E : Elem) (a b : Nat) : Bool :=
  !(E.decode a).isNan && !(E.decode b).isNan && ((E.decode a).cmp (E.decode b) != .eq || a == b)

/-- VMIN and VMAX: where the order of two elements is not stated, the lane is a free value. -/
def vecPick (c i d a b f : Nat) (better : Ordering) (s : State) : Result :=
  runVec c i s fun s =>
    if !vecFormat (f % 16) then s.trap c i Cause.illegal 0
    else
      let w := elemBits (f % 16)
      let E := elemOf (f % 16)
      let lane (n l : Nat) : Nat := bits (s.v c i n) (w * l) w
      let r := writeLanes (s.pred c i f) w (fun l =>
          (if !orderStated E (lane a l) (lane b l) then s.freeAt l w
           else if (E.decode (lane b l)).cmp (E.decode (lane a l)) = better then lane b l else lane a l, {}))
        (1024 / w) (s.v c i d)
      ((s.setV c i d r.1).step1 c i).bumpN (1024 / w)

/-- VMIN (R270). -/
def execVmin (c i d a b f : Nat) (s : State) : Result := vecPick c i d a b f .lt s
/-- VMAX (R270). -/
def execVmax (c i d a b f : Nat) (s : State) : Result := vecPick c i d a b f .gt s

/-- VCMP (R270): writes a predicate. R235 does not state the relation: p[D] takes a free value (log entry 7). -/
def execVcmp (c i d f : Nat) (s : State) : Result :=
  runVec c i s fun s =>
    if !vecFormat (f % 16) then s.trap c i Cause.illegal 0 else ((s.setP c i d (s.free 128)).step1 c i).bump

/-- VSEL (R270): lanes of v[A] where the predicate is active, else of v[B]. -/
def execVsel (c i d a b f : Nat) (s : State) : Result :=
  runVec c i s fun s =>
    if !vecFormat (f % 16) then s.trap c i Cause.illegal 0
    else
      let w := elemBits (f % 16)
      (s.setV c i d (writeLanes (s.pred c i f) w (fun l => (bits (s.v c i a) (w * l) w, {})) (1024 / w) (s.v c i b)).1).step1 c i

/-! Conversions. -/

/-- The value of source lane `l`: an MX element under the scale byte `l / 32` of v[B] (R264). -/
def srcNum (src va vb l : Nat) : Num :=
  let x := bits va (elemBits src * l) (elemBits src)
  if isMx src then mxValue src (bits vb (8 * (l / 32)) 8) x else (elemOf src).decode x

/-- A source of VCVT, and a destination (R261). -/
def cvtSrc (k : Nat) : Bool := decide (k < 0xD) || k == 0xE
def cvtDst (k : Nat) : Bool := decide (k < 5) || k == 0xB || k == 0xC || k == 0xE

/-- VCVT (R265 to R268, R270): from format `src` to F[3:0], as many lanes as the wider one has. -/
def execVcvt (c i d a b f src chk : Nat) (s : State) : Result :=
  runVec c i s fun s =>
    if !cvtSrc src ∨ !cvtDst (f % 16) then s.trap c i Cause.illegal 0
    else vecChecked c i chk s fun s =>
      let w := elemBits (f % 16)
      let n := 1024 / max w (elemBits src)
      let r := writeLanes (s.pred c i f) w (fun l => (elemOf (f % 16)).round (s.modeOf c i l) (s.sat c i) (srcNum src (s.v c i a) (s.v c i b) l))
        n (s.v c i d)
      let done := ((List.range n).filter (fun l => active (s.pred c i f) (w * l))).length
      (((s.setV c i d r.1).orFlags c i r.2).srAdvance c i done).step1 c i

/-- The 32 source values of block `k` (R269). -/
def blockOf (src v k : Nat) : List Num := (List.range 32).map fun j => (elemOf src).decode (bits v (elemBits src * (32 * k + j)) (elemBits src))

/-- May VBMAX and VSCALE take this source and this MX format (R269)? -/
def mxOk (src f : Nat) : Bool := (src == 0 || src == 1) && isMx (f % 16)

/-- VBMAX (R269 steps 1 to 3): the scale byte of each block of 32 lanes. -/
def execVbmax (c i d a f src : Nat) (s : State) : Result :=
  runVec c i s fun s =>
    if !mxOk src f then s.trap c i Cause.illegal 0
    else
      let r := writeLanes (s.pred c i f) 8 (fun k =>
          let t := mxScale (f % 16) (s.sat c i) (blockOf src (s.v c i a) k)
          (t.1, { invalid := t.2 }))
        (1024 / elemBits src / 32) (s.v c i d)
      ((s.setV c i d r.1).orFlags c i r.2).step1 c i

/-- VSCALE (R269 step 4): the packed elements under the scale bytes of v[B]; a block that step 1 ends is 0. -/
def execVscale (c i d a b f src chk : Nat) (s : State) : Result :=
  runVec c i s fun s =>
    if !mxOk src f then s.trap c i Cause.illegal 0
    else vecChecked c i chk s fun s =>
      let w := elemBits (f % 16)
      let n := 1024 / elemBits src
      let r := writeLanes (s.pred c i f) w (fun l =>
          let t := mxScale (f % 16) (s.sat c i) (blockOf src (s.v c i a) (l / 32))
          if t.2 then (0, { invalid := true })
          else mxQuant (f % 16) (bits (s.v c i b) (8 * (l / 32)) 8) (s.modeOf c i l)
            ((elemOf src).decode (bits (s.v c i a) (elemBits src * l) (elemBits src))))
        n (s.v c i d)
      let done := ((List.range n).filter (fun l => active (s.pred c i f) (w * l))).length
      (((s.setV c i d r.1).orFlags c i r.2).srAdvance c i done).step1 c i

/-- VWADD (R270): FP32 lanes 16h to 16h + 15 of v[A], h being F[0], added to the FP64 lanes of v[D]. -/
def execVwadd (c i d a f chk : Nat) (s : State) : Result :=
  runVec c i s fun s =>
    vecChecked c i chk s fun s =>
      let r := writeLanes (s.pred c i f) 64 (fun l =>
          let x := Fmt.fp32.decode (bits (s.v c i a) (32 * (16 * (f % 2) + l)) 32)
          let y := Fmt.fp64.decode (bits (s.v c i d) (64 * l) 64)
          let t := Fmt.fp64.round .rne (s.sat c i) (x.add y)
          (t.1, { t.2 with invalid := (x.add y).isNan && !x.isNan && !y.isNan }))
        16 (s.v c i d)
      ((s.setV c i d r.1).orFlags c i r.2).step1 c i

/-- One level of the pairwise tree (R270). -/
def pairUp (E : Elem) (sat : Bool) : List Nat → List Nat × Flags
  | x :: y :: l =>
    let t := E.arith sat Num.add (· + ·) x y
    let r := pairUp E sat l
    (t.1 :: r.1, t.2.or r.2)
  | l => (l, {})

/-- The levels of the tree. -/
def treeSum (E : Elem) (sat : Bool) : Nat → List Nat → Nat × Flags
  | 0, l => (l.headD 0, {})
  | n + 1, l =>
    let t := pairUp E sat l
    let r := treeSum E sat n t.1
    (r.1, t.2.or r.2)

/-- VREDUCE (R270): the sum of the lanes of v[A] in lane 0 of v[D]. -/
def execVreduce (c i d a f chk : Nat) (s : State) : Result :=
  runVec c i s fun s =>
    if !vecFormat (f % 16) then s.trap c i Cause.illegal 0
    else vecChecked c i chk s fun s =>
      let w := elemBits (f % 16)
      let t := treeSum (elemOf (f % 16)) (s.sat c i) 7 ((List.range (1024 / w)).map fun l => bits (s.v c i a) (w * l) w)
      let r := writeLanes (s.pred c i f) w (fun _ => t) 1 (s.v c i d)
      ((s.setV c i d r.1).orFlags c i r.2).step1 c i

/-! Memory and permute (group 0x5). -/

/-- The address g[A] + 64 x IMM12. -/
def State.vea (s : State) (c i a imm : Nat) : Nat := (s.g c i a + wrap 64 (64 * sext 12 imm)) % 2 ^ 64

/-- VLD (R235): 128 bytes, 64-byte aligned. -/
def execVld (c i d a imm : Nat) (s : State) : Result :=
  runVec c i s fun s =>
    withAccess c i false (s.vea c i a imm) 128 64 s fun s => (s.setV c i d (leNat (s.thRead c i (s.vea c i a imm) 128))).step1 c i

/-- VST (R235). -/
def execVst (c i d a imm : Nat) (s : State) : Result :=
  runVec c i s fun s =>
    withAccess c i true (s.vea c i a imm) 128 64 s fun s => (s.thWrite c i (s.vea c i a imm) (leBytes 128 (s.v c i d))).step1 c i

/-- VPERM (R235): each byte of v[D] is a byte of v[A], which one v[B] says by an open rule (log entry 4). -/
def execVperm (c i d a b : Nat) (s : State) : Result :=
  runVec c i s fun s =>
    let r := writeLanes (2 ^ 128 - 1) 8 (fun j => (bits (s.v c i a) (8 * (Config.permByte (s.v c i b) j % 128)) 8, {})) 128 0
    (s.setV c i d r.1).step1 c i

/-- The lane widths of the permute group. -/
def laneWidth (w : Nat) : Bool := w == 8 || w == 16 || w == 32 || w == 64

/-- VBCAST (R235): every lane of v[D], of `w` bits, takes lane `l` of v[A]. -/
def execVbcast (c i d a w l : Nat) (s : State) : Result :=
  runVec c i s fun s =>
    if !laneWidth w ∨ 1024 / w ≤ l then s.trap c i Cause.illegal 0
    else (s.setV c i d (writeLanes (2 ^ 128 - 1) w (fun _ => (bits (s.v c i a) (w * l) w, {})) (1024 / w) 0).1).step1 c i

/-- VMOVG (R235): lane `l` of v[A] to g[D]; the bits above the lane are a free value (log entry 5). -/
def execVmovg (c i d a w l : Nat) (s : State) : Result :=
  runVec c i s fun s =>
    if !laneWidth w ∨ 1024 / w ≤ l then s.trap c i Cause.illegal 0
    else ((s.setG c i d (bits (s.v c i a) (w * l) w + s.free (64 - w) * 2 ^ w)).step1 c i).bump

/-- VMOVV (R235): the low bits of g[A] to lane `l` of v[D]. -/
def execVmovv (c i d a w l : Nat) (s : State) : Result :=
  runVec c i s fun s =>
    if !laneWidth w ∨ 1024 / w ≤ l then s.trap c i Cause.illegal 0
    else (s.setV c i d (putBits (s.v c i d) (w * l) w (s.g c i a))).step1 c i

end Sys2Proof.Machine
end

