-- ==== Sys2Proof/Machine/UnitOps.lean ====
section
/-! DEFINITION. What the chainring and the sprocket share, and the arithmetic of both: the holder (R249), their bank
accesses (R250), tile layouts and passes (R272, R273), element strings and images in memory (R264, R278, R282,
R284). -/

namespace Sys2Proof.Machine

open Sys2Proof

/-! Holders and banks. -/

/-- Runs a chainring command of the thread that holds the array (R249). -/
def byArr (c i : Nat) (s : State) (f : State → State) : Result :=
  runThread c i s fun s => if s.rd Reg.CLU_ARR_OWN_HOLDER c = i + 1 then f s else s.trap c i Cause.unitNotOwned 0

/-- Runs a sprocket command of the thread that holds the unit (R249). -/
def bySpk (c i : Nat) (s : State) (f : State → State) : Result :=
  runThread c i s fun s => if s.rd Reg.CLU_SPK_OWN_HOLDER c = i + 1 then f s else s.trap c i Cause.unitNotOwned 0

/-- Passes where a unit's access to its banks passes R250; a failure of ownership reaches the holder as
UNIT_NOT_OWNED, and the command is dropped. -/
def State.unitBanks (s : State) (c code holder ten : Nat) (write : Bool) (a n : Nat) (drop ok : State → State) : State :=
  match s.spCheck c code ten write a n with
  | .ok => ok s
  | .wait => s
  | .bad cause addr =>
    let i := holder - 1
    if cause = Cause.tenant then ((drop s).scratchViol c ten (s.thCtx c i) addr).trap c i cause addr
    else if cause = Cause.bankNotOwned then (drop s).trap c i Cause.unitNotOwned 0
    else (drop s).trap c i cause addr

/-- Counts addends of the sprocket (R294, R449). -/
def State.addends (s : State) (c n : Nat) : State :=
  (s.count Reg.SPK_ADDENDS_COUNT c n).pmc c 0x18 (some (s.rd Reg.CLU_SPK_OWN_TENANT c)) n

/-! The chainring (R272, R273). -/

/-- The rate factor of an input format (R272). -/
def rateOf (f : Nat) : Nat := if f = 0 ∨ f = 1 ∨ f = 2 then 1 else if f = 9 then 4 else 2

/-- An input format of the chainring (R261). -/
def crInput (f : Nat) : Bool := decide (f ≤ 0xB)

/-- The configurations that CR.CFG takes (R273). -/
def CrCfg.ok (x : CrCfg) : Bool :=
  crInput x.aFmt && crInput x.bFmt && rateOf x.aFmt == rateOf x.bFmt && ((x.aFmt == 0) == (x.bFmt == 0)) &&
    (x.outFmt == 0 || x.outFmt == 1 || x.outFmt == 2 || x.outFmt == 3 || x.outFmt == 4 || x.outFmt == 0xC) &&
    (x.outFmt != 0xC || (x.aFmt == 0xB && x.bFmt == 0xB))

/-- The bytes of a tile of K steps (R273). -/
def tileBytes (f k : Nat) : Nat := k * 16 * elemBits f + (if isMx f then k / 32 * 128 else 0)

/-- Element `j` of step `k` of a tile of `n` steps (R273). -/
def tileElem (f n v k j : Nat) : Num :=
  let w := elemBits f
  let x := bits v (w * (128 * k + j)) w
  if isMx f then mxValue f (bits v (8 * (n * 16 * w + k / 32 * 128 + j)) 8) x else (elemOf f).decode x

/-- The exact sum of the products of steps `k0` on, `m` of them, for cell (i, j). -/
def stepSum (x : CrCfg) (n av bv i j k0 m : Nat) : Num :=
  (List.range m).foldl (fun s t =>
    if k0 + t < n then s.add ((tileElem x.aFmt n av (k0 + t) i).mul (tileElem x.bFmt n bv (k0 + t) j)) else s) (.fin false 0 0)

/-- A cell after a pass (R272): each step's exact sum added with one rounding to FP32, INT8 exactly into INT32. -/
def cellPass (x : CrCfg) (n av bv i j start : Nat) : Nat :=
  if x.aFmt = 0xB ∧ x.bFmt = 0xB then
    (List.range n).foldl (fun s k => (s + wrap 32 (sext 8 (bits av (8 * (128 * k + i)) 8) * sext 8 (bits bv (8 * (128 * k + j)) 8))) % 2 ^ 32) start
  else
    let f := rateOf x.aFmt
    (List.range (ceilDiv n f)).foldl (fun s t =>
      (Fmt.fp32.round .rne false ((Fmt.fp32.decode s).add (stepSum x n av bv i j (f * t) f))).1) start

/-- The plane after a pass. -/
def planePass (x : CrCfg) (n av bv : Nat) (start : Tbl Nat) : Tbl Nat :=
  ((List.range 16384).map (fun e => (e, cellPass x n av bv (e / 128) (e % 128) (Tbl.get 0 e start)))).filter (fun e => e.2 ≠ 0)

/-- The plane of a pass that failed twice: nothing is known of it (R276). -/
def State.planeOpen (s : State) : Tbl Nat := ((List.range 16384).map (fun e => (e, s.freeAt e 32))).filter (fun e => e.2 ≠ 0)

/-- An output element as a value: INT32 for INT8 inputs, else FP32. -/
def outNum (x : CrCfg) (v : Nat) : Num := if x.aFmt = 0xB ∧ x.bFmt = 0xB then (Elem.int 32).decode v else Fmt.fp32.decode v

/-- The rounding of element `n` under a unit's ROUND and its holder's generator (R268). -/
def State.unitMode (s : State) (c i : Nat) (round : Bool) (n : Nat) : Mode :=
  if round then .sr (srBits (s.rd Reg.ARR_SR_SEED_SEED (ix c i)) (s.rd Reg.ARR_SR_IDX_CHUNK (ix c i)) ((s.rd Reg.ARR_SR_IDX_ELEM (ix c i) + n) % 2 ^ 32))
  else .rne

/-- The bytes that CR.STORE writes, row-major, and the flags (R265 to R268, R273). -/
def State.storeBytes (s : State) (c i : Nat) (x : CrCfg) (plane : Tbl Nat) : List Byte × Flags :=
  let es := (List.range 16384).map fun e => (elemOf x.outFmt).round (s.unitMode c i x.round e) x.sat (outNum x (Tbl.get 0 e plane))
  (es.flatMap (fun e => leBytes (elemBits x.outFmt / 8) e.1), es.foldl (fun f e => f.or e.2) {})

/-! The sprocket (R279 to R285). -/

/-- The bytes of `n` elements in memory: the group layout of R264 for an MX format. -/
def elemBytes (f n : Nat) : Nat :=
  if isMx f then ceilDiv (ceilDiv n 32) 16 * 16 + ceilDiv n 32 * (4 * elemBits f) else n * elemBits f / 8

/-- Element `j` of a tensor of `n` elements (R264). -/
def memElem (f n : Nat) (b : List Byte) (j : Nat) : Num :=
  let w := elemBits f
  if isMx f then
    let blocks := ceilDiv n 32
    let g := j / 512
    let base := g * (16 + 16 * 4 * w)
    let blk := j / 32 % 16
    let str := leNat ((b.drop (base + 16 + blk * (4 * w))).take (4 * w))
    if blocks = 0 then .nan else mxValue f (leAt b (base + blk) 1) (mxElem str w (j % 32))
  else (elemOf f).decode (leNat ((b.drop (j * w / 8)).take (w / 8)))

/-- The input formats of the sprocket, and those of its products (R261, R284). -/
def spInput (f : Nat) : Bool := decide (1 ≤ f) && decide (f ≤ 0xB)
def spProduct (f : Nat) : Bool := spInput f && f != 2

/-- The configurations that SP.CFG takes (R284, R285). -/
def SpCfg.ok (x : SpCfg) : Bool := spInput x.inFmt && spProduct x.in2 && decide (x.outFmt < 5)

/-- What adding a value to an accumulator gives, with OVERFLOW, PRODUCT_INEXACT and INVALID (R279, R294). -/
structure AddRes where
  acc : Accum
  ovf : Bool
  inexact : Bool
  invalid : Bool
  deriving DecidableEq, Repr

def addTo (a : Accum) (v : Num) (nanIn : Bool) : AddRes :=
  let t := addendOf v
  let r := a.add t.1
  { acc := r, ovf := t.2.2, inexact := t.2.1, invalid := (v.isNan && !nanIn) || (r.pinf && r.ninf && !(a.pinf && a.ninf)) }

/-- The lowest set bit of a magnitude, within 320 bits. -/
def lowBit (n : Nat) : Nat := ((List.range 320).find? (fun k => bit n k)).getD 320

/-- Does a two's-complement value fit `w` bytes? -/
def fitsBytes (w : Nat) (z : Int) : Bool := decide (-(2 ^ (8 * w - 1)) ≤ z) && decide (z < 2 ^ (8 * w - 1))

/-- A trimmed image block (R282). -/
def trimmed (imgs : List Nat) : List Byte :=
  let special := imgs.any imgSpecial
  let xs := imgs.map (sext 320)
  let bottom := if special ∨ xs.all (· == 0) then 0 else (xs.filter (· ≠ 0)).foldl (fun b z => min b (lowBit z.natAbs)) 319
  let ys := xs.map (fun z => z / 2 ^ bottom)
  let width := if special then 40 else ((List.range 41).find? (fun w => decide (1 ≤ w) && ys.all (fitsBytes w))).getD 40
  let body := if special then imgs.flatMap (leBytes 40) else ys.flatMap (fun z => leBytes width (wrap (8 * width) z))
  let all := leBytes 2 imgs.length ++ leBytes 2 bottom ++ leBytes 1 width ++ leBytes 3 0 ++ body
  all ++ List.replicate ((8 - all.length % 8) % 8) 0

/-- The header of a trimmed block: COUNT, BOTTOM, WIDTH. -/
def trimHead (b : List Byte) : Nat × Nat × Nat := (leAt b 0 2, leAt b 2 2, leAt b 4 1)

/-- Is the header within the ranges of R282, for a range of `n` accumulators (R285)? -/
def trimOk (n : Nat) (h : Nat × Nat × Nat) : Bool :=
  h.1 == n && decide (h.2.1 ≤ 319) && decide (1 ≤ h.2.2) && decide (h.2.2 ≤ 40)

/-- Element `j` of a trimmed block as an addend: a full image where every element is one (R282). -/
def trimElem (h : Nat × Nat × Nat) (b : List Byte) (j : Nat) : Accum :=
  let v := leNat ((b.drop (8 + j * h.2.2)).take h.2.2)
  if h.2.1 = 0 ∧ h.2.2 = 40 then imgRead v else { x := sext (8 * h.2.2) v * 2 ^ h.2.1 }

end Sys2Proof.Machine
end

