-- ==== Sys2Proof/Machine/Chainring.lean ====
section
/-! DEFINITION. The chainring commands and the end of a pass (R271 to R277). -/

namespace Sys2Proof.Machine

open Sys2Proof

def State.arr (s : State) (c : Nat) : Arr := (s.cluOf c).arr
def State.setArr (s : State) (c : Nat) (a : Arr) : State := s.setClu c { s.cluOf c with arr := a }

/-- Gives the array up once its commands are complete (R249). -/
def State.settleArr (s : State) (c : Nat) : State :=
  if (s.arr c).release ∧ (s.arr c).queue = [] then (s.setArr c { s.arr c with release := false }).wr Reg.CLU_ARR_OWN_HOLDER c 0 else s

/-- Takes the command at the front away. -/
def State.popArr (s : State) (c : Nat) : State := (s.setArr c { s.arr c with queue := (s.arr c).queue.tail }).settleArr c

/-- Puts a command at the end, and goes on. -/
def State.pushArr (s : State) (c i : Nat) (x : CrCmd) : State :=
  (s.setArr c { s.arr c with queue := (s.arr c).queue ++ [x] }).step1 c i

/-- CR.CFG (R273): a configuration that is not permitted traps with ILLEGAL. -/
def execCrCfg (c i a : Nat) (s : State) : Result :=
  byArr c i s fun s =>
    let w := s.g c i a
    let x : CrCfg := { aFmt := bits w 0 4, bFmt := bits w 4 4, outFmt := bits w 8 4, round := bit w 12, sat := bit w 13 }
    if x.ok ∧ w < 2 ^ 14 then (s.setArr c { s.arr c with cfg := x }).step1 c i else s.trap c i Cause.illegal 0

/-- Is K in range for a format: 1 to 128, and a multiple of 32 for MX formats (R273)? -/
def kOk (f k : Nat) : Bool := decide (1 ≤ k) && decide (k ≤ 128) && (!isMx f || k % 32 == 0)

/-- CR.LOAD (R273): g[D] the buffer, g[A] the address, g[B] K. -/
def execCrLoad (c i d a b : Nat) (s : State) : Result :=
  byArr c i s fun s =>
    let x := (s.arr c).cfg
    let k := s.g c i b
    if 1 < s.g c i d ∨ !kOk x.bFmt k then s.trap c i Cause.range 0
    else if !inScratch (s.g c i a) (tileBytes x.bFmt k) then s.trap c i Cause.range (s.g c i a % 2 ^ 25)
    else
      let s1 := s.setArr c { s.arr c with kOf := Tbl.set 0 (s.g c i d) k (s.arr c).kOf }
      s1.pushArr c i (.load x (s.g c i d) (s.g c i a) k)

/-- CR.MUL (R273): g[A] the address of A; g[B] holds K, the buffer and ACC. -/
def execCrMul (c i a b : Nat) (s : State) : Result :=
  byArr c i s fun s =>
    let x := (s.arr c).cfg
    let k := bits (s.g c i b) 0 8
    let buf := bits (s.g c i b) 8 1
    if !kOk x.aFmt k then s.trap c i Cause.range 0
    else if Tbl.get 0 buf (s.arr c).kOf ≠ k then s.trap c i Cause.illegal 0
    else if !inScratch (s.g c i a) (tileBytes x.aFmt k) then s.trap c i Cause.range (s.g c i a % 2 ^ 25)
    else s.pushArr c i (.mul x (s.g c i a) k buf (bit (s.g c i b) 9))

/-- CR.STORE (R273): g[A] the address; g[B] holds CLEAR. -/
def execCrStore (c i a b : Nat) (s : State) : Result :=
  byArr c i s fun s =>
    let x := (s.arr c).cfg
    if !inScratch (s.g c i a) (16384 * (elemBits x.outFmt / 8)) then s.trap c i Cause.range (s.g c i a % 2 ^ 25)
    else s.pushArr c i (.store x (s.g c i a) (bit (s.g c i b) 0))

/-- CR.STAT (R273): the status of the last completed pass. -/
def execCrStat (c i d : Nat) (s : State) : Result := byArr c i s fun s => (s.setG c i d (s.arr c).status).step1 c i

/-- Logs a failed pass while the log is clear (R276). -/
def State.logPass (s : State) (c fmt : Nat) (rows cols : List Nat) (second : Bool) : State :=
  if s.on Reg.ARR_CHK_LOG_VALID c then s
  else
    ((((((s.wr Reg.ARR_CHK_LOG_ROW c (rows.headD 0)).put Reg.ARR_CHK_LOG_ROW_VALID c (rows.length == 1)).wr Reg.ARR_CHK_LOG_COL c
      (cols.headD 0)).put Reg.ARR_CHK_LOG_COL_VALID c (cols.length == 1)).put Reg.ARR_CHK_LOG_SECOND_FAIL c second).wr
      Reg.ARR_CHK_LOG_FMT c fmt).wr Reg.ARR_CHK_LOG_VALID c 1

/-- The failing rows and columns that the checks in force can see (R275, R277). -/
def State.seenFails (s : State) (c : Nat) (rows cols : List Nat) : List Nat × List Nat :=
  if !s.on Reg.ARR_CTRL_CHK_EN then ([], [])
  else (if s.on Reg.ARR_STATUS_COL_SPARED c then [] else rows, if s.on Reg.ARR_STATUS_ROW_SPARED c then [] else cols)

/-- Delivers a plane (R271, R276). -/
def State.endPass (s : State) (c k : Nat) (plane : Tbl Nat) (status : Nat) : State :=
  let a := s.arr c
  (((s.setArr c { a with planes := Tbl.set [] k plane a.planes, last := k, status, failed := status != 0 }).count Reg.ARR_PASSES_COUNT c).pmc c 0x16 (some (s.rd Reg.CLU_ARR_OWN_TENANT c))).popArr c

/-- CHAINRING_PASS_DONE (R275, R276): the pass at the front ends. The lists are the rows and columns whose checks
failed, on the first run and on the second; operands in a poisoned line fail both (R402). The pass waits while the array is
under test (R406). -/
def execChainringPassDone (c : Nat) (rows cols rows2 cols2 : List Nat) (s : State) : Result :=
  let a := s.arr c
  let h := s.rd Reg.CLU_ARR_OWN_HOLDER c
  .next (match a.queue with
    | .mul x addr k buf acc :: _ =>
      if s.rd Reg.ARR_STATUS_STATE c ≠ 0 then s
      else s.unitBanks c 9 h (s.rd Reg.CLU_ARR_OWN_TENANT c) false addr (tileBytes x.aFmt k) (·.popArr c) fun s =>
        let pl := if acc then a.last else 1 - a.last
        let start := if acc then Tbl.get [] pl a.planes else []
        let out := planePass x k (leNat (s.spRead c addr (tileBytes x.aFmt k))) (leNat (Tbl.get [] buf a.bufs)) start
        let f1 := s.seenFails c rows cols
        let f2 := s.seenFails c rows2 cols2
        let bad := s.spPoisoned c addr (tileBytes x.aFmt k)
        if f1 = ([], []) ∧ !bad then s.endPass c pl out 0
        else
          let s1 := (s.count Reg.ARR_CHK_FAIL_COUNT c).logPass c x.aFmt f1.1 f1.2 (f2 != ([], []) || bad)
          if f2 = ([], []) ∧ !bad then (s1.count Reg.ARR_RECOMPUTE_OK_COUNT c).endPass c pl out 0
          else ((s1.endPass c pl s1.planeOpen Code.arithCheckError).bumpN 16384).eventOpen provider Code.arithCheckError
    | _ => s)

/-- A load of a poisoned line fails as a check does (R276, R402). -/
def State.loadFails (s : State) (c fmt : Nat) : State :=
  let s1 := (s.count Reg.ARR_CHK_FAIL_COUNT c).logPass c fmt [] [] true
  (s1.setArr c { s1.arr c with status := Code.arithCheckError, failed := true }).eventOpen provider Code.arithCheckError

/-- CHAINRING_COMMAND_DONE (R273, R276): the load or store at the front ends; it waits while the array is under test (R406). -/
def execChainringCommandDone (c : Nat) (s : State) : Result :=
  let a := s.arr c
  let h := s.rd Reg.CLU_ARR_OWN_HOLDER c
  let ten := s.rd Reg.CLU_ARR_OWN_TENANT c
  .next (if s.rd Reg.ARR_STATUS_STATE c ≠ 0 then s else match a.queue with
    | .load x buf addr k :: _ =>
      s.unitBanks c 9 h ten false addr (tileBytes x.bFmt k) (·.popArr c) fun s0 =>
        let s := if s0.spPoisoned c addr (tileBytes x.bFmt k) then s0.loadFails c x.bFmt else s0
        (s.setArr c { s.arr c with bufs := Tbl.set [] buf (s.spRead c addr (tileBytes x.bFmt k)) (s.arr c).bufs }).popArr c
    | .store x addr clear :: _ =>
      if a.failed then (s.popArr c).trap c (h - 1) Cause.arith 0
      else s.unitBanks c 9 h ten true addr (16384 * (elemBits x.outFmt / 8)) (·.popArr c) fun s =>
        let r := s.storeBytes c (h - 1) x (Tbl.get [] a.last a.planes)
        let s1 := ((s.spWrite c addr r.1).orFlags c (h - 1) r.2)
        let s2 := if x.round then s1.inc Reg.ARR_SR_IDX_ELEM (ix c (h - 1)) 16384 else s1
        let s3 := if clear then s2.setArr c { s2.arr c with planes := Tbl.set [] a.last [] (s2.arr c).planes } else s2
        s3.popArr c
    | _ => s)

end Sys2Proof.Machine
end

