-- ==== Sys2Proof/Machine/Sprocket.lean ====
section
/-! DEFINITION. The sprocket commands and their completion (R279 to R290). -/

namespace Sys2Proof.Machine

open Sys2Proof

def State.spk (s : State) (c : Nat) : Spk := (s.cluOf c).spk
def State.setSpk (s : State) (c : Nat) (a : Spk) : State :=
  (s.setClu c { s.cluOf c with spk := a }).put Reg.SPK_STATUS_BUSY c (a.queue != [])

/-- Gives the sprocket up once its commands are complete (R249). -/
def State.settleSpk (s : State) (c : Nat) : State :=
  if (s.spk c).release ∧ (s.spk c).queue = [] then (s.setSpk c { s.spk c with release := false }).wr Reg.CLU_SPK_OWN_HOLDER c 0 else s

def State.popSpk (s : State) (c : Nat) : State := (s.setSpk c { s.spk c with queue := (s.spk c).queue.tail }).settleSpk c

def State.pushSpk (s : State) (c i : Nat) (x : SpCmd) : State :=
  (s.setSpk c { s.spk c with queue := (s.spk c).queue ++ [x] }).step1 c i

/-- The configuration as the registers hold it (R285). -/
def State.spCfg (s : State) (c : Nat) : SpCfg :=
  { inFmt := s.rd Reg.SPK_CFG_IN_FMT c, in2 := s.rd Reg.SPK_CFG_IN2_FMT c, outFmt := s.rd Reg.SPK_CFG_OUT_FMT c,
    round := s.on Reg.SPK_CFG_ROUND c, sat := s.on Reg.SPK_CFG_SAT c }

/-- SP.CFG (R284, R285). -/
def execSpCfg (c i a : Nat) (s : State) : Result :=
  bySpk c i s fun s =>
    let w := s.g c i a
    let x : SpCfg := { inFmt := bits w 0 4, in2 := bits w 4 4, outFmt := bits w 8 4, round := bit w 12, sat := bit w 13 }
    if x.ok then
      (((((s.wr Reg.SPK_CFG_IN_FMT c x.inFmt).wr Reg.SPK_CFG_IN2_FMT c x.in2).wr Reg.SPK_CFG_OUT_FMT c x.outFmt).put Reg.SPK_CFG_ROUND c
        x.round).put Reg.SPK_CFG_SAT c x.sat).step1 c i
    else s.trap c i Cause.illegal 0

/-- BASE and COUNT of a range word; a range that breaks R284 traps with RANGE. -/
def withRange (c i w : Nat) (s : State) (f : Nat → Nat → State) : State :=
  let base := bits w 0 14
  let n := bits w 16 14
  if n = 0 ∨ 12288 < base + n then s.trap c i Cause.range 0 else f base n

/-- SP.CLR (R285). -/
def execSpClr (c i d : Nat) (s : State) : Result :=
  bySpk c i s fun s => withRange c i (s.g c i d) s fun base n => s.pushSpk c i (.clr base n)

/-- SP.ADD (R284, R285): F[1:0] MODE. -/
def execSpAdd (c i d a b f : Nat) (s : State) : Result :=
  bySpk c i s fun s => withRange c i (s.g c i d) s fun base n =>
    let x := s.spCfg c
    let mode := f % 4
    if mode = 3 ∨ (mode ≠ 0 ∧ !spProduct x.inFmt) ∨ (isMx x.inFmt ∧ n % 32 ≠ 0) ∨ (mode = 1 ∧ isMx x.in2 ∧ n % 32 ≠ 0) then
      s.trap c i Cause.illegal 0
    else if !inScratch (s.g c i a) (elemBytes x.inFmt n) then s.trap c i Cause.range (s.g c i a % 2 ^ 25)
    else if mode = 1 ∧ !inScratch (s.g c i b) (elemBytes x.in2 n) then s.trap c i Cause.range (s.g c i b % 2 ^ 25)
    else s.pushSpk c i (.add x base n (s.g c i a) (s.g c i b) mode)

/-- SP.IMPORT (R282, R285): F[0] TRIMMED. -/
def execSpImport (c i d a f : Nat) (s : State) : Result :=
  bySpk c i s fun s => withRange c i (s.g c i d) s fun base n =>
    if !inScratch (s.g c i a) (if bit f 0 then 8 else 40 * n) then s.trap c i Cause.range (s.g c i a % 2 ^ 25)
    else s.pushSpk c i (.imp base n (s.g c i a) (bit f 0))

/-- SP.EXPORT (R281, R282, R285): F[0] TRIMMED, F[1] CLEAR. -/
def execSpExport (c i d a f : Nat) (s : State) : Result :=
  bySpk c i s fun s => withRange c i (s.g c i d) s fun base n =>
    if !inScratch (s.g c i a) (if bit f 0 then 8 else 40 * n) then s.trap c i Cause.range (s.g c i a % 2 ^ 25)
    else s.pushSpk c i (.exp base n (s.g c i a) (bit f 0) (bit f 1))

/-- SP.ROUND (R281, R285): F[1] CLEAR. -/
def execSpRound (c i d a f : Nat) (s : State) : Result :=
  bySpk c i s fun s => withRange c i (s.g c i d) s fun base n =>
    let x := s.spCfg c
    if !inScratch (s.g c i a) (n * elemBits x.outFmt / 8) then s.trap c i Cause.range (s.g c i a % 2 ^ 25)
    else s.pushSpk c i (.rnd x base n (s.g c i a) (bit f 1))

/-! Completion. -/

/-- Accumulator `k`. -/
def State.accOf (s : State) (c k : Nat) : Accum := Tbl.get {} k (s.spk c).accs
def State.setAcc (s : State) (c k : Nat) (a : Accum) : State := s.setSpk c { s.spk c with accs := Tbl.set {} k a (s.spk c).accs }

/-- Zeroes a range, its flags, residues and poison (R285, R290). -/
def State.clearAccs (s : State) (c base n : Nat) : State :=
  s.setSpk c { s.spk c with accs := (s.spk c).accs.filter (fun e => e.1 < base || base + n ≤ e.1) }

/-- A residue failure of accumulator `k` (R290). -/
def State.poison (c : Nat) (s : State) (k : Nat) : State :=
  let s1 := ((((s.setAcc c k { s.accOf c k with poison := true }).count Reg.SPK_RES_ERR_COUNT c).wr Reg.SPK_POISON_LOG_ACC c k).wr
    Reg.SPK_POISON_LOG_VALID c 1).wr Reg.SPK_STATUS_POISONED c 1
  (s1.setSpk c { s1.spk c with trapDue := true }).eventOpen provider Code.arithCheckError

/-- Sets a sticky bit of SPK_STATUS. -/
def State.spkFlag (s : State) (r : Fld) (c : Nat) (b : Bool) : State := if b then s.wr r c 1 else s

/-- Adds one result into the unit. -/
def State.addAcc (s : State) (c k : Nat) (r : AddRes) (product : Bool) : State :=
  (((s.setAcc c k r.acc).spkFlag Reg.SPK_STATUS_OVERFLOW c r.ovf).spkFlag Reg.SPK_STATUS_PRODUCT_INEXACT c (r.inexact && product)).spkFlag
    Reg.SPK_STATUS_INVALID c r.invalid

/-- Element `j` of SP.ADD: the value, and whether an operand is a NaN. An MX scalar of mode 2 has no scale byte: it is a
free value (log entry 9). -/
def State.addend (s : State) (x : SpCfg) (n : Nat) (b1 b2 : List Byte) (other mode j : Nat) : Num × Bool :=
  let v := memElem x.inFmt n b1 j
  if mode = 0 then (v, v.isNan)
  else
    let u := if mode = 1 then memElem x.in2 n b2 j
      else if isMx x.in2 then mxValue x.in2 (s.free 8) (bits other 0 (elemBits x.in2))
      else (elemOf x.in2).decode (bits other 0 (elemBits x.in2))
    (v.mul u, v.isNan || u.isNan)

/-- Is any accumulator of a range poisoned? -/
def State.anyPoison (s : State) (c base n : Nat) : Bool :=
  (s.spk c).accs.any (fun e => decide (base ≤ e.1) && decide (e.1 < base + n) && e.2.poison)

/-- A read of poisoned accumulators writes nothing; the holder traps at its next FENCE [3] (R290). -/
def State.poisonRead (s : State) (c : Nat) : State := (s.setSpk c { s.spk c with trapDue := true }).popSpk c

/-- Reads a range out as images (R280, R281). -/
def State.images (s : State) (c base n : Nat) : List (Nat × Bool) := (List.range n).map fun j => (s.accOf c (base + j)).image

/-- Do the accumulators of a range hold conflicting infinities? -/
def State.anyConflict (s : State) (c base n : Nat) : Bool := (List.range n).any fun j => (s.accOf c (base + j)).pinf && (s.accOf c (base + j)).ninf

/-- SPROCKET_COMMAND_DONE (R279 to R285, R289, R290): the command at the front ends; `bad` lists the accumulators whose
residue check failed when it read them. A command that reads a poisoned line poisons the accumulators of its range (R402). -/
def execSprocketCommandDone (c : Nat) (bad : List Nat) (s0 : State) : Result :=
  let h := s0.rd Reg.CLU_SPK_OWN_HOLDER c
  let ten := s0.rd Reg.CLU_SPK_OWN_TENANT c
  let i := h - 1
  let drop : State → State := (·.popSpk c)
  let fails (s : State) (base n : Nat) : State := (bad.filter (fun k => decide (base ≤ k) && decide (k < base + n))).foldl (State.poison c) s
  let reads (s : State) (addr len base n : Nat) : State :=
    if s.spPoisoned c addr len then (List.range n).foldl (fun t k => State.poison c t (base + k)) s else s
  .next (match (s0.spk c).queue with
    | [] => s0
    | .clr base n :: _ => (s0.clearAccs c base n).popSpk c
    | .add x base n addr other mode :: _ =>
      s0.unitBanks c 10 h ten false addr (elemBytes x.inFmt n) drop fun s =>
        let go (s1 : State) : State :=
          let s2 := reads s1 addr (elemBytes x.inFmt n) base n
          let s := if mode = 1 then reads s2 other (elemBytes x.in2 n) base n else s2
          let b1 := s.spRead c addr (elemBytes x.inFmt n)
          let b2 := if mode = 1 then s.spRead c other (elemBytes x.in2 n) else []
          let s1 := (List.range n).foldl (fun t j =>
            let v := s.addend x n b1 b2 other mode j
            t.addAcc c (base + j) (addTo (t.accOf c (base + j)) v.1 v.2) (mode != 0)) (fails s base n)
          ((if mode = 2 ∧ isMx x.in2 then s1.bump else s1).addends c n).popSpk c
        if mode = 1 then s.unitBanks c 10 h ten false other (elemBytes x.in2 n) drop go else go s
    | .imp base n addr trim :: _ =>
      if trim then
        s0.unitBanks c 10 h ten false addr 8 drop fun s =>
          let hd := trimHead (s.spRead c addr 8)
          let len := 8 + n * hd.2.2
          if !trimOk n hd ∨ !inScratch addr len then (drop s).trap c i Cause.range (addr % 2 ^ 25)
          else s.unitBanks c 10 h ten false addr len drop fun s0 =>
            let s := reads s0 addr len base n
            let b := s.spRead c addr len
            let s1 := (List.range n).foldl (fun (t : State) j =>
              let a := t.accOf c (base + j)
              let r := a.add (trimElem hd b j)
              t.addAcc c (base + j) { acc := r, ovf := false, inexact := false, invalid := r.pinf && r.ninf && !(a.pinf && a.ninf) } false) (fails s base n)
            (s1.addends c n).popSpk c
      else
        s0.unitBanks c 10 h ten false addr (40 * n) drop fun s1 =>
          let s := reads s1 addr (40 * n) base n
          let b := s.spRead c addr (40 * n)
          let s1 := (List.range n).foldl (fun (t : State) j =>
            let a := t.accOf c (base + j)
            let r := a.add (imgRead (leNat ((b.drop (40 * j)).take 40)))
            t.addAcc c (base + j) { acc := r, ovf := false, inexact := false, invalid := r.pinf && r.ninf && !(a.pinf && a.ninf) } false) (fails s base n)
          (s1.addends c n).popSpk c
    | .exp base n addr trim clear :: _ =>
      let s1 := fails s0 base n
      if s1.anyPoison c base n then s1.poisonRead c
      else
        let im := s1.images c base n
        let out := if trim then trimmed (im.map (·.1)) else im.flatMap (fun x => leBytes 40 x.1)
        if !inScratch addr out.length then (drop s1).trap c i Cause.range (addr % 2 ^ 25)
        else s1.unitBanks c 10 h ten true addr out.length drop fun s =>
          let s2 := ((s.spWrite c addr out).spkFlag Reg.SPK_STATUS_OVERFLOW c (im.any (·.2))).spkFlag Reg.SPK_STATUS_INVALID c (s.anyConflict c base n)
          (if clear then s2.clearAccs c base n else s2).popSpk c
    | .rnd x base n addr clear :: _ =>
      let s1 := fails s0 base n
      if s1.anyPoison c base n then s1.poisonRead c
      else
        s1.unitBanks c 10 h ten true addr (n * elemBits x.outFmt / 8) drop fun s =>
          let vs := (List.range n).map fun j => (s.accOf c (base + j)).value
          let es := (List.range n).map fun j =>
            (elemOf x.outFmt).round (s.unitMode c i x.round j) x.sat ((s.accOf c (base + j)).value).1
          let s2 := s.spWrite c addr (es.flatMap (fun e => leBytes (elemBits x.outFmt / 8) e.1))
          let s3 := ((s2.spkFlag Reg.SPK_STATUS_OVERFLOW c (vs.any (·.2))).spkFlag Reg.SPK_STATUS_INEXACT c (es.any (·.2.inexact))).spkFlag
            Reg.SPK_STATUS_INVALID c (s.anyConflict c base n)
          let s4 := if x.round then s3.inc Reg.ARR_SR_IDX_ELEM (ix c i) n else s3
          (if clear then s4.clearAccs c base n else s4).popSpk c)

end Sys2Proof.Machine
end

