-- ==== Sys2Proof/Machine/ClusterRegs.lean ====
section
/-! DEFINITION. Writes to the cluster registers (R230, R233, R247, R248, R260) and the ends of the zeroings they
start. -/

namespace Sys2Proof.Machine

open Sys2Proof

/-- The offset of cluster `c`'s registers in blocks 8 to 10, from the base of block 0 (R260, R293, R294). -/
def cluOff (blk c off : Nat) : Nat := blk * 0x100000 + c * 0x10000 + off

/-- May the threads of a core run: the core is enabled, and the cluster serves (R229, R256)? -/
def State.coreServes (s : State) (c k : Nat) : Bool :=
  bit (s.rd Reg.CLU_CTRL_CORE_EN c) k && (s.rd Reg.CLU_STATUS_STATE c == 1 || s.rd Reg.CLU_STATUS_STATE c == 2)

/-- Stops a thread. -/
def State.haltThread (s : State) (c i : Nat) : State :=
  ((s.disarm (.cwait c i)).setThr c i { s.thrOf c i with wait := .none }).setThState c i Ts.halted

/-- Starts a thread from its PC, unless it is zeroing (R230). -/
def State.startThread (s : State) (c i : Nat) : State :=
  if (s.thrOf c i).zeroing ∨ !s.coreServes c (coreOf i) then s else s.setThState c i Ts.ready

/-- Writes CLU_THR_CTRL (R230): RUN starts or halts the thread; a program thread's identity changes only while RUN is 0,
and the change zeroes its registers and local memory. `self` tells a service thread that changes its own. -/
def State.writeThrCtrl (s : State) (c i v : Nat) (self : Bool) : State :=
  let ran := s.on Reg.CLU_THR_CTRL_RUN (ix c i)
  let ten := bits v 16 10
  let ctx := bits v 32 16
  let mayId := !ran || (self && isService i)
  let change := mayId && (ten != s.thTenant c i || ctx != s.thCtx c i)
  let s1 := if mayId then (s.wr Reg.CLU_THR_CTRL_TENANT (ix c i) ten).wr Reg.CLU_THR_CTRL_CONTEXT (ix c i) ctx else s
  let s2 := if change && !isService i then s1.setThr c i { (s1.thrOf c i).wipe with zeroing := true } else s1
  let s3 := s2.put Reg.CLU_THR_CTRL_RUN (ix c i) (bit v 0)
  if bit v 0 && !ran then s3.startThread c i
  else if !bit v 0 && ran then s3.haltThread c i
  else s3

/-- Writes CLU_CTRL (R260): SERVICE_EN starts or halts the service threads, CORE_EN those of its cores. -/
def State.writeCluCtrl (s : State) (c v : Nat) : State :=
  let was := s.on Reg.CLU_CTRL_SERVICE_EN c
  let s1 := (s.put Reg.CLU_CTRL_SERVICE_EN c (bit v 0)).wr Reg.CLU_CTRL_CORE_EN c (bits v 4 4)
  let s2 := (List.range 8).foldl (fun s i => if !bit (bits v 4 4) (coreOf i) ∧ s.thState c i ≠ Ts.halted then s.haltThread c i else s) s1
  if bit v 0 = was then s2
  else [0, 2, 4, 6].foldl (fun s i =>
    let t := s.put Reg.CLU_THR_CTRL_RUN (ix c i) (bit v 0)
    if bit v 0 then t.startThread c i else t.haltThread c i) s2

/-- Tries again every slot of a cluster that still has parts to request: one whose bank was handed away traps (R247). -/
def State.pumpSlots (s : State) (c : Nat) : State :=
  (List.range 32).foldl (fun s k =>
    let v := s.slotOf c (k / 8) (k % 8)
    if v.busy ∧ v.todo ≠ [] then State.slotPump c (k / 8) (k % 8) (v.todo.length + 1) s else s) s

/-- Gives a bank to its new owner, readers and tag (R247 step 4). -/
def State.giveBank (s : State) (c b owner share ten : Nat) : State :=
  (((s.wr Reg.CLU_BANK_OWN_OWNER (ix c b) owner).wr Reg.CLU_BANK_OWN_SHARE_RD (ix c b) share).wr Reg.CLU_BANK_OWN_TENANT (ix c b) ten).pumpSlots c

/-- Zeroes a physical bank, and clears the poison of its lines (R402). -/
def State.wipeBank (s : State) (c phys : Nat) : State :=
  let res := s.board.res
  let s1 := { s with board := { s.board with res := { res with
    bankPoison := res.bankPoison.filter (fun l => l / 4096 != 32 * c + phys) } } }
  s1.setClu c { s1.cluOf c with bank := Mem.wipe (s1.cluOf c).bank (phys * bankBytes) ((phys + 1) * bankBytes) }

/-- Writes CLU_BANK_OWN (R247): a change of tenant zeroes the bank first. -/
def State.writeBankOwn (s : State) (c b v : Nat) : State :=
  let owner := bits v 0 4
  let share := bits v 4 10
  let ten := bits v 16 10
  let s1 := s.count Reg.CLU_HANDOVERS_COUNT c
  if ten ≠ s.rd Reg.CLU_BANK_OWN_TENANT (ix c b) ∨ s.on Reg.CLU_BANK_OWN_ZEROING (ix c b) then
    let s2 := (s1.wipeBank c (s.rd Reg.CLU_BANK_MAP_PHYS (ix c b))).wr Reg.CLU_BANK_OWN_ZEROING (ix c b) 1
    s2.setClu c { s2.cluOf c with handing := Tbl.put b (owner, share, ten) (s2.cluOf c).handing }
  else s1.giveBank c b owner share ten

/-- CLU_BANK_OWN_WRITE (R247): Kilurn or the fabric manager writes CLU_BANK_OWN[b]. -/
def execCluBankOwnWrite (c b v : Nat) (s : State) : Result :=
  .next (if c < 10 ∧ b < 16 then s.writeBankOwn c b v else s)

/-- BANK_ZEROING_DONE (R247 steps 3 and 4). -/
def execBankZeroingDone (c b : Nat) (s : State) : Result :=
  .next (if s.on Reg.CLU_BANK_OWN_ZEROING (ix c b) then
    let s1 := s.wr Reg.CLU_BANK_OWN_ZEROING (ix c b) 0
    let h := Tbl.get (0, 0, 0x3FF) b (s1.cluOf c).handing
    (s1.setClu c { s1.cluOf c with handing := Tbl.del b (s1.cluOf c).handing }).giveBank c b h.1 h.2.1 h.2.2
  else s)

/-- CLU_THR_CTRL_WRITE (R230): Kilurn or the fabric manager writes CLU_THR_CTRL of a thread. -/
def execCluThrCtrlWrite (c i v : Nat) (s : State) : Result := .next (if isThread c i then s.writeThrCtrl c i v false else s)

/-- PROGRAM_THREAD_ZEROING_DONE (R230): the thread can run again. -/
def execProgramThreadZeroingDone (c i : Nat) (s : State) : Result :=
  .next (if (s.thrOf c i).zeroing then
    let s1 := s.setThr c i { s.thrOf c i with zeroing := false }
    if s1.on Reg.CLU_THR_CTRL_RUN (ix c i) then s1.startThread c i else s1
  else s)

/-- Writes one word of the program store at CLU_PSTORE_ADDR, which advances (R233, R260). -/
def State.writePstore (s : State) (c v : Nat) : State :=
  let a := s.rd Reg.CLU_PSTORE_ADDR_ADDR c
  (s.setClu c { s.cluOf c with pstore := Tbl.set 0 a (v % 2 ^ 32) (s.cluOf c).pstore }).inc Reg.CLU_PSTORE_ADDR_ADDR c

/-- CLU_PSTORE_DATA_WRITE (R233). -/
def execCluPstoreDataWrite (c v : Nat) (s : State) : Result := .next (if c < 10 then s.writePstore c v else s)

/-- A write by Kilurn or the fabric manager of a cluster register with an effect of its own (R260); `none` for the
others. -/
def State.writeClu (s : State) (c off v : Nat) : Option State :=
  if off = 0 then some (s.writeCluCtrl c v)
  else if off = 0x18 then some (s.writePstore c v)
  else if 0x100 ≤ off ∧ off < 0x300 ∧ off % 0x40 = 0 then some (s.writeThrCtrl c ((off - 0x100) / 0x40) v false)
  else if 0x400 ≤ off ∧ off < 0x480 ∧ off % 8 = 0 then some (s.writeBankOwn c ((off - 0x400) / 8) v)
  else if off = 0x500 then
    let h := bits v 0 4
    some ((s.wr Reg.CLU_ARR_OWN_HOLDER c h).wr Reg.CLU_ARR_OWN_TENANT c (if h = 0 then s.rd Reg.CLU_ARR_OWN_TENANT c else s.thTenant c (h - 1)))
  else if off = 0x508 then
    let h := bits v 0 4
    some ((s.wr Reg.CLU_SPK_OWN_HOLDER c h).wr Reg.CLU_SPK_OWN_TENANT c (if h = 0 then s.rd Reg.CLU_SPK_OWN_TENANT c else s.thTenant c (h - 1)))
  else none

end Sys2Proof.Machine
end

