-- ==== Sys2Proof/Machine/AdmTenants.lean ====
section
/-! DEFINITION. The admin commands of extents, pools, slices and endpoints (R326 to R334, R343, R345). -/

namespace Sys2Proof.Machine

open Sys2Proof

/-! Extents (R330 to R332). -/

/-! The states of TEN_EXT0. -/
namespace Xs
def free : Nat := 0
def bound : Nat := 1
def preserved : Nat := 2
def kept : Nat := 3
def wiping : Nat := 4
end Xs

def State.xst (s : State) (n : Nat) : Nat := s.rd Reg.TEN_EXT0_STATE n

/-- The extents that are not FREE. -/
def State.extList (s : State) : List Nat := (s.listed Reg.TEN_EXT0_STATE).filter (fun n => s.xst n ≠ 0)

/-- Is a 2 MiB unit in no extent? Unit 0 holds the table. -/
def State.unitFree (s : State) (u : Nat) : Bool :=
  decide (1 ≤ u) && decide (u ≤ 23039) && !s.extList.any (fun n => decide (s.rd Reg.TEN_EXT1_BASE_UNIT n ≤ u) && decide (u < s.rd Reg.TEN_EXT1_BASE_UNIT n + s.rd Reg.TEN_EXT1_UNITS n))

/-- `n` contiguous free units: the lowest, or for the provider the highest (R331, R483). -/
def State.pickUnits (s : State) (t n : Nat) : Option Nat :=
  if t = provider then lastBelow (fun u => allFrom s.unitFree n u) 23040
  else firstFrom (fun u => allFrom s.unitFree n u) 23039 1

/-- Shows the wipes that run (R349). -/
def State.showWipe (s : State) : State :=
  let l := s.extList.filter (fun n => s.xst n == Xs.wiping)
  let n := l.foldl (fun a n => a + s.rd Reg.TEN_EXT1_UNITS n) 0
  (s.put Reg.TEN_WIPE_STATUS_BUSY 0 (n != 0)).wr Reg.TEN_WIPE_STATUS_UNITS_LEFT 0 n

/-- The ring of the counter dumps: its records and the window offset of the first (R454, R457). -/
def State.dumpRecords (s : State) : Nat := 2 ^ min 16 (max 1 (s.rd Reg.PMC_DUMP_BASE_LOG2_RECORDS))
def State.dumpBase (s : State) : Nat := 4096 * s.rd Reg.PMC_DUMP_BASE_OFFSET

/-- Does the ring lie in one extent of the provider (R454)? -/
def State.dumpDest (s : State) : Bool :=
  s.extList.any (fun n => (s.xst n == Xs.bound || s.xst n == Xs.preserved) && s.rd Reg.TEN_EXT0_TENANT n == provider &&
    decide (s.rd Reg.TEN_EXT1_BASE_UNIT n * unitBytes ≤ s.dumpBase) &&
    decide (s.dumpBase + 4096 * s.dumpRecords ≤ (s.rd Reg.TEN_EXT1_BASE_UNIT n + s.rd Reg.TEN_EXT1_UNITS n) * unitBytes))

/-- Dumps stop: their extent is gone (R454). -/
def State.stopDump (s : State) : State := (s.wr Reg.PMC_DUMP_STATUS_BAD_DEST 0 1).wr Reg.PMC_DUMP_CFG_DUMP_EN 0 0

/-- An extent is refused to every request and wiped (R332, R344): nothing of it can be read from now on. -/
def State.beginWipe (s : State) (n : Nat) : State :=
  let lo := s.rd Reg.TEN_EXT1_BASE_UNIT n * unitBytes
  let hi := lo + s.rd Reg.TEN_EXT1_UNITS n * unitBytes
  let res := s.board.res
  let s1 := { s with
    gddr := Mem.wipe s.gddr lo hi
    board := { s.board with res := { res with poison := res.poison.filter (fun l => decide (64 * l < lo) || decide (hi ≤ 64 * l)) } } }
  let s2 := ((s1.wr Reg.TEN_EXT0_STATE n Xs.wiping).setExt n {}).showWipe
  if s2.on Reg.PMC_DUMP_CFG_DUMP_EN ∧ !s2.dumpDest then s2.stopDump else s2

/-- The attachment slot and endpoint that a new extent is bound to: those through which the admin queue is bound (R331). -/
def State.admAttach (s : State) (o : Origin) : Nat × Nat :=
  let slot := match o.mbx with
    | some ch => s.rd Reg.MAC_NEAR_STATUS_ATTACH (s.mbxOf ch).port
    | none => s.rd Reg.ADM_DESC0_ATTACH o.slot
  (slot, (s.epOf slot).epid)

/-- Binds an extent (R332). -/
def State.bindExt (s : State) (n ctx keep : Nat) (a : Nat × Nat) : State :=
  ((((((s.wr Reg.TEN_EXT0_STATE n Xs.bound).wr Reg.TEN_EXT0_KEEP n keep).put Reg.TEN_EXT0_ANY_CONTEXT n (ctx == 0xFFFF)).wr
    Reg.TEN_EXT0_CONTEXT n ctx).wr Reg.TEN_EXT0_ATTACH n a.1).setExt n { epid := a.2 })

/-- A free extent number; the provider's from the highest down (R483). -/
def State.pickExt (s : State) (t : Nat) : Option Nat :=
  if t = provider then lastBelow (fun n => s.xst n == 0) 4096 else firstFrom (fun n => s.xst n == 0) 4096 0

/-- Has the slice `n` more units in its quota? -/
def State.unitsLeft (s : State) (t n : Nat) : Bool := t == provider || decide (s.rd Reg.TEN_SLICE2_UNITS_USED t + n ≤ s.rd Reg.TEN_SLICE2_GDDR7_UNITS t)

/-- Makes an extent of `n` units at unit `u`. -/
def State.makeExt (s : State) (k t u n ctx keep : Nat) (a : Nat × Nat) : State :=
  let s1 := ((s.wr Reg.TEN_EXT0_TENANT k t).wr Reg.TEN_EXT1_BASE_UNIT k u).wr Reg.TEN_EXT1_UNITS k n
  let s2 := s1.bindExt k ctx keep a
  if t = provider then s2 else s2.inc Reg.TEN_SLICE2_UNITS_USED t n

/-- ALLOC_EXTENT without CLAIM (R331). -/
def cmdAllocExtent (o : Origin) (e : List Byte) (s : State) : AdmRes :=
  let len := leAt e 8 8
  let n := len / unitBytes
  if len % unitBytes ≠ 0 ∨ n = 0 then bad Code.invalidParam
  else if !s.unitsLeft o.slot n then bad Code.resourceExhausted
  else match s.pickExt o.slot, (if n ≤ 23039 then s.pickUnits o.slot n else none) with
    | some k, some u => .ok (s.makeExt k o.slot u n (leAt e 16 2) (byteAt e 18 % 2) (s.admAttach o)) k (u * unitBytes)
    | _, _ => bad Code.resourceExhausted

/-- ALLOC_EXTENT with CLAIM (R331, R332, R345). -/
def cmdClaimExtent (o : Origin) (e : List Byte) (s : State) : AdmRes :=
  let k := leAt e 20 2
  if 4096 ≤ k ∨ s.xst k ≠ Xs.kept ∨ s.rd Reg.TEN_EXT0_TENANT k ≠ o.slot ∨ !(s.sliceOf o.slot).adopted.contains k then bad Code.notFound
  else .ok (s.bindExt k (leAt e 16 2) (byteAt e 18 % 2) (s.admAttach o)) k (s.rd Reg.TEN_EXT1_BASE_UNIT k * unitBytes)

/-- Does a LOCAL_WIN region lie in an extent (R331)? -/
def State.winRegion (s : State) (n : Nat) : Bool :=
  let lo := s.rd Reg.TEN_EXT1_BASE_UNIT n * unitBytes
  let hi := lo + s.rd Reg.TEN_EXT1_UNITS n * unitBytes
  (s.listed Reg.TRN_REG_D0_VALID).any (fun i => s.on Reg.TRN_REG_D0_VALID i && bit (s.rd Reg.TRN_REG_D0_RIGHTS i) 4 &&
    decide (s.rd Reg.TRN_REG_D1_BASE i < hi) && decide (lo < s.rd Reg.TRN_REG_D1_BASE i + s.rd Reg.TRN_REG_D2_LENGTH i))

/-- FREE_EXTENT (R331, R332). -/
def cmdFreeExtent (o : Origin) (e : List Byte) (s : State) : AdmRes :=
  let n := leAt e 8 2
  if 4096 ≤ n ∨ (s.xst n ≠ Xs.bound ∧ s.xst n ≠ Xs.preserved) ∨ s.rd Reg.TEN_EXT0_TENANT n ≠ o.slot then bad Code.notFound
  else if s.winRegion n then bad Code.busy
  else .ok (s.beginWipe n) 0 0

def extRegs : List Fld := fieldsOf Reg.TEN_EXT_SEL_INDEX

/-- A wipe of an extent ends: its units return (R332). -/
def State.endWipe (s : State) (n : Nat) : State :=
  let t := s.rd Reg.TEN_EXT0_TENANT n
  let s1 := if s.slice t ≠ 0 ∧ t ≠ provider then s.dec Reg.TEN_SLICE2_UNITS_USED t (s.rd Reg.TEN_EXT1_UNITS n) else s
  (((s1.clearObj extRegs n).setExt n {}).count Reg.TEN_WIPES_COUNT).showWipe

/-! Pools and slices (R326, R327). -/

/-- The counts of a pool or a slice in the order of R327: queue pairs, rings, pelotons, contexts, units, regions, banks,
tenant shapers, meters, queue-pair shapers, cache quota, legacy queues, cipher contexts. -/
def moduleCounts : List Nat := [16384, 4096, 4096, 16384, 23039, 131071, 16, 1024, 1024, 8192, 128, 128, 1024]

/-- Reads them from bytes 12 to 39 of an entry. -/
def quotaAt (e : List Byte) : List Nat :=
  [leAt e 12 2, leAt e 14 2, leAt e 16 2, leAt e 18 2, leAt e 20 4, leAt e 24 4, byteAt e 28, byteAt e 29, byteAt e 30, leAt e 32 2,
   leAt e 34 2, byteAt e 36, leAt e 38 2]

/-- The fields that show a slice's quotas, in that order. -/
def quotaFields : List Fld :=
  [Reg.TEN_SLICE0_QP_COUNT, Reg.TEN_SLICE1_CQ_COUNT, Reg.TEN_SLICE1_PEL_COUNT, Reg.TEN_SLICE3_CONTEXTS, Reg.TEN_SLICE2_GDDR7_UNITS,
   Reg.TEN_SLICE2_REGIONS, Reg.TEN_SLICE3_BANKS, Reg.TEN_SLICE3_TSHAPERS, Reg.TEN_SLICE3_METERS, Reg.TEN_SLICE3_QSHAPERS,
   Reg.TEN_SLICE3_XLT_QUOTA, Reg.TEN_SLICE5_LEGACY, Reg.TEN_SLICE3_CIPHER_CTX]

def State.quotas (s : State) (t : Nat) : List Nat := quotaFields.map (fun f => s.rd f t)

def addAll (a b : List Nat) : List Nat := List.zipWith (· + ·) a b
def leAll (a b : List Nat) : Bool := (List.zipWith (fun x y => decide (x ≤ y)) a b).all id

/-- The totals of a pool: after a reset pool 0 holds everything and the others nothing (R326). -/
def State.poolOf (s : State) (p : Nat) : List Nat := Tbl.get (if p = 0 then moduleCounts else moduleCounts.map (fun _ => 0)) p s.ten.pools
def State.setPool (s : State) (p : Nat) (l : List Nat) : State :=
  { s with ten := { s.ten with pools := Tbl.set (if p = 0 then moduleCounts else moduleCounts.map (fun _ => 0)) p l s.ten.pools } }

/-- What the slices of a pool hold. -/
def State.poolUsed (s : State) (p : Nat) : List Nat :=
  (s.sliceList.filter (fun t => s.rd Reg.TEN_SLICE0_POOL t == p)).foldl (fun a t => addAll a (s.quotas t)) (moduleCounts.map (fun _ => 0))

/-- Are the quotas of a slice in their ranges (R327)? -/
def quotaOk (t : Nat) (q : List Nat) : Bool :=
  leAll [1, 1, 0, 1, 0, 0, 0, 0, 0, 0, 1, 0, 0] q && leAll q [16384, 4096, 4096, 16384, 23039, 131071, 16, 2, 4, 8192, 128, if t < 64 then 128 else 0, 1024]

/-- A contiguous range of `n` numbers that no slice holds and no object uses (R326). -/
def State.pickRange (s : State) (n total : Nat) (base cnt : Fld) (used : Nat → Bool) : Option Nat :=
  firstFrom (fun k => decide (k + n ≤ total) && allFrom (fun j => !used j && !s.sliceList.any (fun x => s.inRange base cnt x j)) n k) total 0

/-- The `n` lowest free module cipher contexts. -/
def State.pickCips (s : State) (n : Nat) : List Nat := ((List.range 1024).filter (fun c => !s.on Reg.CIP_CTX0_VALID c)).take n

def sliceRegs : List Fld := fieldsOf Reg.TEN_SEL_TENANT
def cipRegs : List Fld := fieldsOf Reg.CIP_CTX_SEL_INDEX

/-- Gives a slice its cipher contexts (R352). -/
def State.giveCips (s : State) (t : Nat) (l : List Nat) : State :=
  (List.zip l (List.range l.length)).foldl (fun s x =>
    let s1 := ((s.clearObj cipRegs x.1).wr Reg.CIP_CTX0_VALID x.1 1).wr Reg.CIP_CTX0_TENANT x.1 t
    { s1 with cip := { s1.cip with sliceNo := Tbl.set 0 x.1 x.2 s1.cip.sliceNo } }) s

/-- Takes the quotas of a new slice from a pool (R326, R327); `none` where a pool, a range or a cipher context is
missing. -/
def State.makeSlice (s : State) (t pool st : Nat) (q : List Nat) : Option State :=
  let g (k : Nat) : Nat := q.getD k 0
  let cips := s.pickCips (g 12)
  if !leAll (addAll (s.poolUsed pool) q) (s.poolOf pool) || cips.length != g 12 then none
  else
    match s.pickRange (g 0) 16384 Reg.TEN_SLICE0_QP_BASE Reg.TEN_SLICE0_QP_COUNT s.qpValid,
        s.pickRange (g 1) 4096 Reg.TEN_SLICE1_CQ_BASE Reg.TEN_SLICE1_CQ_COUNT (fun n => s.on Reg.CQ_DESC0_VALID n),
        (if g 2 = 0 then some 0 else s.pickRange (g 2) 4096 Reg.TEN_SLICE1_PEL_BASE Reg.TEN_SLICE1_PEL_COUNT (fun n => (s.pelOf n).st != .free)) with
    | some qb, some cb, some pb =>
      let s1 := (List.zip quotaFields q).foldl (fun s x => s.wr x.1 t x.2) ((s.clearObj sliceRegs t).setSlice t {})
      let s2 := ((((s1.wr Reg.TEN_SLICE0_STATE t st).wr Reg.TEN_SLICE0_POOL t pool).wr Reg.TEN_SLICE0_QP_BASE t qb).wr
        Reg.TEN_SLICE1_CQ_BASE t cb).wr Reg.TEN_SLICE1_PEL_BASE t pb
      some (s2.giveCips t cips)
    | _, _, _ => none

/-- ARG0 of CREATE_TENANT (R327). -/
def State.bases (s : State) (t : Nat) : Nat :=
  s.rd Reg.TEN_SLICE0_QP_BASE t + 2 ^ 16 * s.rd Reg.TEN_SLICE1_CQ_BASE t + 2 ^ 32 * s.rd Reg.TEN_SLICE1_PEL_BASE t

/-- The KEPT extents of a tenant. -/
def State.keptOf (s : State) (t : Nat) : List Nat := s.extList.filter (fun n => s.xst n == Xs.kept && s.rd Reg.TEN_EXT0_TENANT n == t)

/-- Is the tenant still being wiped? -/
def State.stillWiping (s : State) (t : Nat) : Bool := s.extList.any (fun n => s.xst n == Xs.wiping && s.rd Reg.TEN_EXT0_TENANT n == t)

/-- CREATE_TENANT (R327, R334, R345). -/
def cmdCreateTenant (e : List Byte) (s : State) : AdmRes :=
  let t := leAt e 8 2
  let pool := byteAt e 10
  let q := quotaAt e
  if 511 < t ∨ 7 < pool ∨ !quotaOk t q then bad Code.invalidParam
  else if s.slice t ≠ 0 ∨ s.stillWiping t then bad Code.busy
  else
    let kept := if bit (byteAt e 11) 0 then s.keptOf t else []
    let units := kept.foldl (fun a n => a + s.rd Reg.TEN_EXT1_UNITS n) 0
    match (if units ≤ q.getD 4 0 then s.makeSlice t pool 1 q else none) with
    | none => bad Code.resourceExhausted
    | some s1 => .ok ((s1.setSlice t { adopted := kept }).wr Reg.TEN_SLICE2_UNITS_USED t units) (s1.bases t) 0

/-- SET_POOL (R326, R327). -/
def cmdSetPool (e : List Byte) (s : State) : AdmRes :=
  let p := byteAt e 8
  let q := quotaAt e
  if 7 < p then bad Code.invalidParam
  else if !leAll (s.poolUsed p) q then bad Code.busy
  else if !leAll ((List.range 8).foldl (fun a k => addAll a (if k = p then q else s.poolOf k)) (moduleCounts.map (fun _ => 0))) moduleCounts then
    bad Code.resourceExhausted
  else .ok (s.setPool p q) 0 0

/-! Endpoint records (R328). -/

/-- Has a tenant an attachment through an endpoint, ATTACHED or ABSENT? -/
def State.attThrough (s : State) (epid t : Nat) : Bool :=
  s.atts.any (fun a => a.1 / 8 == t && (a.2.st == .attached || a.2.st == .absent) && a.2.epid == epid)

/-- The entry of a record that names a tenant. -/
def State.epEntry (s : State) (r t : Nat) : Option Nat :=
  (List.range 64).find? (fun k => s.on Reg.TEN_EP_TEN_VALID (ix r k) && s.rd Reg.TEN_EP_TEN_TENANT (ix r k) == t)

/-- May TENANT stand in a record? -/
def epTenOk (t : Nat) : Bool := decide (t ≤ 511) || t == provider

/-- SET_ENDPOINT_TENANTS, add (R328). -/
def cmdEpAdd (e : List Byte) (s : State) : AdmRes :=
  let epid := leAt e 8 8
  let t := leAt e 18 2
  if !epTenOk t ∨ epid = 0 then bad Code.invalidParam
  else
    match (match s.epRecord epid with
      | some r => some r
      | none => (List.range 16).find? (fun r => s.rd Reg.TEN_EP_ID_ID r == 0)) with
    | none => bad Code.resourceExhausted
    | some r =>
      if (s.epRecord epid).isSome ∧ (s.epEntry r t).isSome then .ok s 0 0
      else match (List.range 64).find? (fun k => !s.on Reg.TEN_EP_TEN_VALID (ix r k)) with
        | none => bad Code.resourceExhausted
        | some k => .ok (((s.wr Reg.TEN_EP_ID_ID r epid).wr Reg.TEN_EP_TEN_TENANT (ix r k) t).wr Reg.TEN_EP_TEN_VALID (ix r k) 1) 0 0

/-- SET_ENDPOINT_TENANTS, remove (R328). -/
def cmdEpRemove (e : List Byte) (s : State) : AdmRes :=
  let epid := leAt e 8 8
  let t := leAt e 18 2
  if !epTenOk t then bad Code.invalidParam
  else match (s.epRecord epid).bind (fun r => (s.epEntry r t).map (fun k => (r, k))) with
    | none => .ok s 0 0
    | some (r, k) =>
      if s.attThrough epid t then bad Code.busy
      else .ok ((s.wr Reg.TEN_EP_TEN_VALID (ix r k) 0).wr Reg.TEN_EP_TEN_TENANT (ix r k) 0) 0 0

/-- SET_ENDPOINT_TENANTS, clear (R328). -/
def cmdEpClear (e : List Byte) (s : State) : AdmRes :=
  let epid := leAt e 8 8
  match s.epRecord epid with
  | none => .ok s 0 0
  | some r =>
    if (List.range 64).any (fun k => s.on Reg.TEN_EP_TEN_VALID (ix r k) && s.attThrough epid (s.rd Reg.TEN_EP_TEN_TENANT (ix r k))) then bad Code.busy
    else .ok ((List.range 64).foldl (fun s k => (s.wr Reg.TEN_EP_TEN_VALID (ix r k) 0).wr Reg.TEN_EP_TEN_TENANT (ix r k) 0) (s.wr Reg.TEN_EP_ID_ID r 0)) 0 0

/-! Destroying a slice (R343). -/

/-- Drops the walks, fault records and cached translations of a tenant (R102). -/
def State.dropXlt (s : State) (t : Nat) : State :=
  { s with xlt := { s.xlt with
    tlb := (s.xlt.tlb.map (fun p => (p.1, p.2.filter (·.tenant != t)))).filter (fun p => !p.2.isEmpty)
    walkc := s.xlt.walkc.filter (·.tenant != t)
    walks := s.xlt.walks.filter (·.tenant != t)
    faults := s.xlt.faults.filter (fun e => e.1 / 256 != t)
    queued := s.xlt.queued.filter (·.1 != t) } }

/-- Zeroes what the clusters hold of a tenant: banks tagged with it, threads that carry its identity, their stream slots and
its work items (R343 step 4). -/
def State.wipeCluster (s : State) (t c : Nat) : State :=
  let cl := s.cluOf c
  let banks := ((List.range 16).filter (fun b => s.rd Reg.CLU_BANK_OWN_TENANT (ix c b) == t)).map (fun b => s.rd Reg.CLU_BANK_MAP_PHYS (ix c b))
  let threads := (List.range 8).filter (fun i => if isService i then ((s.thrOf c i).work.map (·.tenant)) == some t else s.thTenant c i == t)
  let mine (w : Work) : Bool := w.tenant == t
  let gone := (cl.work ++ cl.done).filter mine
  let s1 := gone.foldl (fun s w => s.freeHub c w) s
  let cl := s1.cluOf c
  let s2 := s1.setClu c { cl with
    work := cl.work.filter (fun w => !mine w), done := cl.done.filter (fun w => !mine w),
    slots := cl.slots.filter (fun e => !threads.contains e.2.thread),
    bank := cl.bank.filter (fun e => !banks.contains (e.1 / 2 ^ 18)) }
  threads.foldl (fun s i =>
    let s3 := s.setThr c i { (s.thrOf c i).wipe with work := none, wait := .none }
    if isService i then s3 else (s3.wr Reg.CLU_THR_CTRL_RUN (ix c i) 0).setThState c i 0) s2 |>.showClu c

def admRegs : List Fld := fieldsOf Reg.ADM_SEL_TENANT
def attList (t : Nat) : List Nat := (List.range 8).map (attNo t)

/-- Steps 1 to 4 and 6 of R343: everything of the slice goes, without completions. -/
def State.tearDown (s : State) (t : Nat) : State :=
  let s1 := (s.pels.filter (fun e => e.2.st != .free && e.2.tenant == t)).foldl (fun s e => s.freePel e.1) s
  let s2 := (s1.qpList.filter (fun q => s1.qpTenant q == t)).foldl State.freeQp s1
  let s3 := ((s2.listed Reg.CQ_DESC0_VALID).filter (s2.ownsCq t)).foldl (fun s n => (s.clearObj cqRegs n).setCq n {}) s2
  let s4 := ((s3.listed Reg.TRN_REG_D0_VALID).filter (fun i => s3.on Reg.TRN_REG_D0_VALID i && s3.rd Reg.TRN_REG_D0_TENANT i == t)).foldl
    (fun s i => s.wr Reg.TRN_REG_D0_VALID i 0) s3
  let s5 := ((s4.listed Reg.XLT_CTX_DESC0_VALID).filter (fun d => s4.on Reg.XLT_CTX_DESC0_VALID d && s4.rd Reg.XLT_CTX_DESC1_TENANT d == t)).foldl
    (fun s d => s.wr Reg.XLT_CTX_DESC0_VALID d 0) s4
  let s6 := ((List.range 1024).filter (fun c => s5.on Reg.CIP_CTX0_VALID c && s5.rd Reg.CIP_CTX0_TENANT c == t)).foldl
    (fun s c => (((s.clearKey c 0).clearKey c 1).clearObj cipRegs c)) s5
  let s7 := (List.range 10).foldl (fun s c => s.wipeCluster t c) (s6.dropXlt t)
  let s8 := (s7.attsOf t).foldl (fun s a => s.setAtt a {}) ((s7.clearObj admRegs t).setAdm t {})
  { s8 with
    armed := s8.armed.filter (fun e => e.kind ≠ .freeze t)
    ten := { s8.ten with jobs := s8.ten.jobs.filter (fun j => match j with
      | .dereg o _ => o.slot ≠ t
      | .unreg o _ => o.slot ≠ t
      | .unxform _ => true) } }

/-- DESTROY_TENANT (R334, R343): the extents of the tenant, KEPT ones included, are wiped. -/
def cmdDestroyTenant (o : Origin) (e : List Byte) (s : State) : AdmRes :=
  let t := leAt e 8 2
  if 511 < t ∨ s.slice t = 0 then bad Code.notFound
  else if s.slice t = 6 then bad Code.busy
  else
    let s1 := (s.wr Reg.TEN_SLICE0_STATE t 6).tearDown t
    let l := s1.extList.filter (fun n => s1.rd Reg.TEN_EXT0_TENANT n == t && s1.xst n != Xs.wiping)
    .wait ((l.foldl State.beginWipe s1).setSlice t { destroying := some o })

/-- UNLOCK_REATTACH (R343). -/
def cmdUnlock (e : List Byte) (s : State) : AdmRes :=
  let t := leAt e 8 2
  let l := (s.attsOf t).filter (fun a => (s.attOf a).st == .locked && (s.attOf a).epid == leAt e 16 8)
  if l = [] then bad Code.notFound
  else .ok ((l.foldl (fun s a => s.setAtt a { s.attOf a with st := .gone }) s).setSlice t { s.sliceOf t with wrong := 0 }) 0 0

end Sys2Proof.Machine
end

