-- ==== Sys2Proof/Machine/AdmFreeze.lean ====
section
/-! DEFINITION. Freezing, thawing, saving and restoring a slice (R335 to R342). -/

namespace Sys2Proof.Machine

open Sys2Proof

/-! Freezing (R335). -/

/-- Drops the requests of a tenant that are parked on fault records (R335 step 3); the records run on. -/
def State.dropParked (s : State) (t : Nat) : State :=
  { s with xlt := { s.xlt with
    faults := s.xlt.faults.map (fun e => if e.1 / 256 = t then (e.1, { e.2 with waiters := e.2.waiters.filter (fun w => !w.parked) }) else e)
    queued := s.xlt.queued.filter (fun x => !(x.1 == t && x.2.2.parked)) } }

/-- Abandons the parked stream slots of a tenant in a cluster: the service thread gives its item back, to gather again. The
code that its SWAIT returns is a value the spec does not state (log entry 1). -/
def State.abandonSlots (s : State) (t c : Nat) : State :=
  (List.range 32).foldl (fun s k =>
    let v := s.slotOf c (k / 8) (k % 8)
    if v.busy ∧ v.parked ∧ s.thTenant c v.thread = t then
      let s1 := s.setSlot c (k / 8) (k % 8) { v with todo := [], parked := false, status := s.free 8 }
      let s2 := if isService v.thread then s1.bump.returnWork c v.thread else s1.bump
      let s3 := s2.slotWake c (k / 8) (k % 8)
      s3.setSlot c (k / 8) (k % 8) {}
    else s) s

/-- Is a queue pair a link of a peloton that runs its operation to completion (R335 step 4)? -/
def State.linkBusy (s : State) (q : Nat) : Bool :=
  match s.linkPel q with
  | some (p, _) => (s.pelOf p).op.isSome
  | none => false

/-- Steps 1 to 5 of R335, at the freeze count. -/
def State.freezeNow (s : State) (t : Nat) : State :=
  let s1 := s.setSlice t { s.sliceOf t with stepped := true }
  let s2 := (s1.qpList.filter (fun q => s1.qpTenant q == t && s1.cst q == Cst.connected && !s1.linkBusy q)).foldl
    (fun s q => s.wr Reg.TRN_QP_T0_STATE q Cst.suspended) s1
  (List.range 10).foldl (fun s c => s.abandonSlots t c) (s2.dropParked t)

/-- Is anything of a tenant in progress: a stream slot, a work item, a chunk (R335 step 6)? -/
def State.inProgress (s : State) (t : Nat) : Bool :=
  (List.range 10).any (fun c =>
    (s.cluOf c).slots.any (fun e => e.2.busy && s.thTenant c e.2.thread == t) || (s.cluOf c).work.any (·.tenant == t) ||
      (s.cluOf c).thr.any (fun e => (e.2.work.map (·.tenant)) == some t)) ||
    (s.cluOf noCluster).work.any (·.tenant == t) ||
    s.pels.any (fun e => e.2.st != .free && e.2.tenant == t && (e.2.op.isSome || !e.2.chunks.isEmpty))

/-- FREEZE_SLICE FREEZE (R334, R335). -/
def cmdFreeze (o : Origin) (e : List Byte) (s : State) : AdmRes :=
  let t := leAt e 8 2
  let t0 := leAt e 16 8
  if 511 < t then bad Code.notFound
  else match s.slice t with
    | 0 => bad Code.notFound
    | 1 =>
      if t0 ≠ 0 ∧ !s.mayArm t0 then bad Code.schedulePast
      else
        let s1 := (s.wr Reg.TEN_SLICE0_STATE t 2).setSlice t { s.sliceOf t with freeze := some o, stepped := false }
        if t0 = 0 then .wait ((s1.wr Reg.TEN_SLICE4_FREEZE_AT t s.now).freezeNow t)
        else .wait ((s1.wr Reg.TEN_SLICE4_FREEZE_AT t t0).arm (.freeze t) t0)
    | 2 => bad Code.busy
    | 3 => .ok s (s.sliceOf t).reported 0
    | 6 => bad Code.busy
    | _ => bad Code.invalidParam

/-! Thawing (R336). -/

/-- Each READY peloton of a slice adds 1 to its epoch and connects its links again, from its member table as it reads
now (R336). -/
def State.relink (s : State) (t : Nat) (x : AdmX) : State :=
  (s.pels.filter (fun e => e.2.st == .ready && e.2.tenant == t)).foldl (fun s e =>
    let p := e.1
    let pl := s.pelOf p
    let ms := match x.tables.find? (fun y => y.1 == p) with
      | some y => memberTable y.2 pl.members.length
      | none => pl.members
    (s.setPel p { pl with epoch := (pl.epoch + 1) % 2 ^ 32, members := ms }).connectLinks p) s

/-- Every SUSPENDED queue pair of a slice is CONNECTED again and resends, each recorded doorbell reads its index block, and
held events are written (R126, R336). -/
def State.thawNow (s : State) (t : Nat) : State :=
  let s1 := (s.wr Reg.TEN_SLICE0_STATE t 1).setSlice t { s.sliceOf t with freeze := none, stepped := false }
  let l := s1.qpList.filter (fun q => s1.qpTenant q == t)
  let s2 := (l.filter (fun q => s1.cst q == Cst.suspended)).foldl (fun s q => (s.wr Reg.TRN_QP_T0_STATE q Cst.connected).resendAll q false) s1
  let s3 := l.foldl (fun s q => if (s.sqOf q).recorded ∧ s.mayFetch then (s.modSq q (fun (x : Sq) => { x with recorded := false })).ring q else s) s2
  s3.settleAdm t

/-- FREEZE_SLICE THAW (R334, R336). -/
def cmdThaw (e : List Byte) (x : AdmX) (s : State) : AdmRes :=
  let t := leAt e 8 2
  if 511 < t then bad Code.notFound
  else match s.slice t with
    | 0 => bad Code.notFound
    | 1 => .ok s 0 0
    | 2 => bad Code.busy
    | 4 => bad Code.invalidParam
    | 6 => bad Code.busy
    | _ =>
      let s1 := s.thawNow t
      .ok (if bit (byteAt e 11) 0 then s1.relink t x else s1) 0 0

/-! Saving (R337 to R339). -/

def shpRegs : List Fld := fieldsOf Reg.TRN_QSHP_SEL_INDEX
def tshRegs : List Fld := fieldsOf Reg.TRN_TSHP_SEL_INDEX
def mtrRegs : List Fld := fieldsOf Reg.TRN_MTR_SEL_INDEX
def regRegs : List Fld := fieldsOf Reg.TRN_REG_SEL_INDEX

/-- The shapers and meters whose bindings name a slice. -/
def State.sliceShapers (s : State) (t : Nat) : List Nat :=
  (s.listed Reg.TRN_QSHP_BIND_BOUND).filter (fun i => s.on Reg.TRN_QSHP_BIND_BOUND i && s.qpValid (s.rd Reg.TRN_QSHP_BIND_QP i) && s.qpTenant (s.rd Reg.TRN_QSHP_BIND_QP i) == t)
def State.sliceTshapers (s : State) (t : Nat) : List Nat :=
  (s.listed Reg.TRN_TSHP_BIND_BOUND).filter (fun i => s.on Reg.TRN_TSHP_BIND_BOUND i && s.rd Reg.TRN_TSHP_BIND_TENANT i == t)
def State.sliceMeters (s : State) (t : Nat) : List Nat :=
  (s.listed Reg.TRN_MTR_BIND_BOUND).filter (fun i => s.on Reg.TRN_MTR_BIND_BOUND i && s.rd Reg.TRN_MTR_BIND_TENANT i == t)

/-- The contexts of a slice: descriptor, context and attachment slot. -/
def State.sliceCtxs (s : State) (t : Nat) : List (Nat × Nat) :=
  ((s.listed Reg.XLT_CTX_DESC0_VALID).filter (fun d => s.on Reg.XLT_CTX_DESC0_VALID d && s.rd Reg.XLT_CTX_DESC1_TENANT d == t)).map
    (fun d => (s.rd Reg.XLT_CTX_DESC1_CONTEXT d, s.rd Reg.XLT_CTX_DESC0_ENDPOINT d))

/-- The image of a slice (R338, R339); `id` its random IMAGE_ID. -/
def State.sliceImg (s : State) (t id : Nat) (key : List Byte) : SliceImg :=
  let qs := s.qpList.filter (fun q => s.qpTenant q == t)
  { tenant := t, freeze := (s.sliceOf t).reported, id, srcIdent := sha256 s.mgmt.identPub, tgtIdent := sha256 key, quota := s.quotas t,
    qpBase := s.rd Reg.TEN_SLICE0_QP_BASE t, cqBase := s.rd Reg.TEN_SLICE1_CQ_BASE t, pelBase := s.rd Reg.TEN_SLICE1_PEL_BASE t,
    atts := ((attList t).filter (fun a => (s.attOf a).st == .attached)).map (fun a => (a % 8, (s.attOf a).epid)),
    ctxs := s.sliceCtxs t,
    exts := (s.extList.filter (fun n => (s.xst n == Xs.bound || s.xst n == Xs.preserved) && s.rd Reg.TEN_EXT0_TENANT n == t)).map (fun n =>
      { base := s.rd Reg.TEN_EXT1_BASE_UNIT n, units := s.rd Reg.TEN_EXT1_UNITS n, ctx := s.rd Reg.TEN_EXT0_CONTEXT n,
        any := s.on Reg.TEN_EXT0_ANY_CONTEXT n, keep := s.on Reg.TEN_EXT0_KEEP n, slot := s.rd Reg.TEN_EXT0_ATTACH n }),
    qps := qs.map (fun q => (q, s.saveObj qpRegs q ++ s.saveObj trnRegs q ++ s.saveObj ccqRegs q, s.sqOf q, s.connOf q)),
    cqs := ((s.listed Reg.CQ_DESC0_VALID).filter (s.ownsCq t)).map (fun n => (n, s.saveObj cqRegs n, s.cqOf n)),
    adm := s.saveObj admRegs t, events := (s.admOf t).held,
    regions := ((s.listed Reg.TRN_REG_D0_VALID).filter (fun i => s.on Reg.TRN_REG_D0_VALID i && s.rd Reg.TRN_REG_D0_TENANT i == t)).map
      (fun i => (i, s.saveObj regRegs i)),
    pels := (s.pels.filter (fun e => e.2.st != .free && e.2.tenant == t)).map (fun e => (e.1, s.rd Reg.CAD_TDC_VAL_COUNT e.1,
      (List.range e.2.codeLen).map (fun k => Tbl.get 0 (e.2.codeAt + k) (s.cluOf e.2.cluster).pstore), e.2)),
    shapers := (s.sliceShapers t).map (fun i => (i, s.saveObj shpRegs i)), tshapers := (s.sliceTshapers t).map (fun i => (i, s.saveObj tshRegs i)),
    meters := (s.sliceMeters t).map (fun i => (i, s.saveObj mtrRegs i)),
    cips := ((List.range 1024).filter (fun c => s.on Reg.CIP_CTX0_VALID c && s.rd Reg.CIP_CTX0_TENANT c == t)).map (fun c =>
      (Tbl.get 0 c s.cip.sliceNo, s.saveObj cipRegs c, Tbl.get 0 (2 * c) s.cip.keys, Tbl.get 0 (2 * c + 1) s.cip.keys)),
    cipQps := (qs.filter (fun q => s.on Reg.CIP_QP_CTX_VALID q)).map (fun q => (q, Tbl.get 0 (s.rd Reg.CIP_QP_CTX_CONTEXT q) s.cip.sliceNo)),
    mSlice := (s.sliceOf t).measure }

/-- SAVE_SLICE (R337, R338, R365). How long the image is, is Kilurn's own affair (R339): a free value. -/
def cmdSave (o : Origin) (e : List Byte) (x : AdmX) (s : State) : AdmRes :=
  let t := leAt e 8 2
  let len := 272 + s.free 40
  if 511 < t ∨ s.slice t = 0 then bad Code.notFound
  else if s.slice t ≠ 3 ∨ (attList t).any (fun a => (s.attOf a).st == .absent) then bad Code.busy
  else if (s.descOf o.slot (leAt e 10 2)).isNone then bad Code.notFound
  else if leAt e 24 8 < len then .err Code.invalidParam 0 len
  else
    let img := s.sliceImg t (s.freeAt 1 128) x.key
    let s1 := (s.bumpN 2).emit (.image (leAt e 16 8) img)
    let l := (List.range 1024).filter (fun c => s.on Reg.CIP_CTX0_VALID c && s.rd Reg.CIP_CTX0_TENANT c == t)
    .ok ((l.foldl (fun s c => (s.clearKey c 0).clearKey c 1) s1).wr Reg.TEN_SLICE0_STATE t 4) len 0

/-! Restoring (R340 to R342). -/

/-- What is renumbered in a restore: the old and new bases. -/
structure Shift where
  qp0 : Nat
  qp1 : Nat
  cq0 : Nat
  cq1 : Nat
  pel0 : Nat
  pel1 : Nat
  deriving DecidableEq, Repr

def Shift.qp (h : Shift) (n : Nat) : Nat := n - h.qp0 + h.qp1
def Shift.cq (h : Shift) (n : Nat) : Nat := n - h.cq0 + h.cq1
def Shift.pel (h : Shift) (n : Nat) : Nat := n - h.pel0 + h.pel1

/-- Restores a queue pair at its new number, SUSPENDED where it was connected (R342). -/
def State.restoreQp (s : State) (t : Nat) (h : Shift) (x : Nat × Obj × Sq × Conn) (cluster : Nat) : State :=
  let q := h.qp x.1
  let s1 := ((s.loadObj qpRegs q x.2.1).loadObj trnRegs q x.2.1).loadObj ccqRegs q x.2.1
  let s2 := ((s1.wr Reg.QP_DESC0_TENANT q t).wr Reg.QP_DESC0_CQ q (h.cq (s1.rd Reg.QP_DESC0_CQ q))).wr Reg.QP_DESC3_CLUSTER q cluster
  let s3 := (((s2.setSq q x.2.2.1).setConn q x.2.2.2).setSteer q (some cluster)).inc Reg.QP_MODULE_OUT_COUNT 0 (s2.rd Reg.QP_OUT_COUNT q)
  let s4 := s3.inc Reg.TRN_RESP_REC_IN_USE 0 x.2.2.2.recs.length
  if s4.cst q = Cst.connected then s4.wr Reg.TRN_QP_T0_STATE q Cst.suspended else s4

/-- Restores a cipher context: keys, KEY_IDs, counter and phase (R365). -/
def State.restoreCip (s : State) (t : Nat) (x : Nat × Obj × Nat × Nat) : State :=
  match s.cipMap t x.1 with
  | none => s
  | some c =>
    let s1 := (s.loadObj cipRegs c x.2.1).wr Reg.CIP_CTX0_TENANT c t
    { s1 with cip := { s1.cip with keys := Tbl.set 0 (2 * c + 1) x.2.2.2 (Tbl.set 0 (2 * c) x.2.2.1 s1.cip.keys) } }

/-- Allocates a zeroed extent for a saved one; answers its old and new window offsets and its length (R342). -/
def State.restoreExt (s : State) (t : Nat) (x : ImgExt) : Option (State × Nat × Nat × Nat) :=
  match s.pickExt t, s.pickUnits t x.units with
  | some k, some u =>
    some (s.makeExt k t u x.units (if x.any then 0xFFFF else x.ctx) (b2n x.keep) (x.slot, 0), x.base * unitBytes, u * unitBytes, x.units * unitBytes)
  | _, _ => none

/-- Every saved extent, with the records of the map. -/
def State.restoreExts (t : Nat) : List ImgExt → State → Option (State × List (Nat × Nat × Nat))
  | [], s => some (s, [])
  | x :: rest, s =>
    match s.restoreExt t x with
    | none => none
    | some (s1, m) => (State.restoreExts t rest s1).map (fun r => (r.1, m :: r.2))

/-- A window offset in its extent's new place (R342). -/
def rebase (m : List (Nat × Nat × Nat)) (a : Nat) : Nat :=
  match m.find? (fun x => decide (x.1 ≤ a) && decide (a < x.1 + x.2.2)) with
  | some x => a - x.1 + x.2.1
  | none => a

/-- Restores a region under its key; a LOCAL_WIN region moves with its extent. -/
def State.restoreReg (s : State) (t : Nat) (h : Shift) (m : List (Nat × Nat × Nat)) (x : Nat × Obj) : State :=
  let s1 := (s.loadObj regRegs x.1 x.2).wr Reg.TRN_REG_D0_TENANT x.1 t
  let s2 := if s1.on Reg.TRN_REG_D2_QP_BIND_EN x.1 then s1.wr Reg.TRN_REG_D2_QP_BIND x.1 (h.qp (s1.rd Reg.TRN_REG_D2_QP_BIND x.1)) else s1
  if bit (s2.rd Reg.TRN_REG_D0_RIGHTS x.1) 4 then s2.wr Reg.TRN_REG_D1_BASE x.1 (rebase m (s2.rd Reg.TRN_REG_D1_BASE x.1)) else s2

/-- Restores a peloton, with its code in its new cluster's program store (R233). -/
def State.restorePel (s : State) (t : Nat) (h : Shift) (cluster : Nat) (x : Nat × Nat × List Nat × Pel) : State :=
  let p := h.pel x.1
  let a := (s.codePlace cluster x.2.2.2.codeLen).getD codeLo
  let s1 := s.loadCode cluster a (x.2.2.1.flatMap (leBytes 4))
  (s1.setPel p { x.2.2.2 with tenant := t, cluster, baseQp := h.qp x.2.2.2.baseQp, codeAt := a }).wr Reg.CAD_TDC_VAL_COUNT p x.2.1

/-- Restores bindings of a kind on the free instances from 0 up. -/
def State.restoreBind (s : State) (l : List Fld) (bound : Fld) (f : State → Nat → State) (xs : List (Nat × Obj)) : State :=
  xs.foldl (fun s x =>
    match (List.range 8192).find? (fun i => !s.on bound i) with
    | none => s
    | some i => f (s.loadObj l i x.2) i) s

/-- Everything of an image but its extents (R342). -/
def State.restoreAll (s : State) (t : Nat) (img : SliceImg) (m : List (Nat × Nat × Nat)) : State :=
  let h : Shift := { qp0 := img.qpBase, qp1 := s.rd Reg.TEN_SLICE0_QP_BASE t, cq0 := img.cqBase, cq1 := s.rd Reg.TEN_SLICE1_CQ_BASE t,
                     pel0 := img.pelBase, pel1 := s.rd Reg.TEN_SLICE1_PEL_BASE t }
  let c := s.chooseCluster.getD 0
  let s1 := img.cqs.foldl (fun s x => ((s.loadObj cqRegs (h.cq x.1) x.2.1).wr Reg.CQ_DESC0_TENANT (h.cq x.1) t).setCq (h.cq x.1) x.2.2) s.bump
  let s2 := img.qps.foldl (fun s x => s.restoreQp t h x c) s1
  let s3 := img.cips.foldl (fun s x => s.restoreCip t x) s2
  let s4 := img.cipQps.foldl (fun s x => match s.cipMap t x.2 with
    | some k => (s.wr Reg.CIP_QP_CTX_CONTEXT (h.qp x.1) k).wr Reg.CIP_QP_CTX_VALID (h.qp x.1) 1
    | none => s) s3
  let s5 := img.regions.foldl (fun s x => s.restoreReg t h m x) s4
  let s6 := img.pels.foldl (fun s x => s.restorePel t h c x) s5
  let s7 := s6.restoreBind shpRegs Reg.TRN_QSHP_BIND_BOUND (fun s i => s.wr Reg.TRN_QSHP_BIND_QP i (h.qp (s.rd Reg.TRN_QSHP_BIND_QP i))) img.shapers
  let s8 := s7.restoreBind tshRegs Reg.TRN_TSHP_BIND_BOUND (fun s i => s.wr Reg.TRN_TSHP_BIND_TENANT i t) img.tshapers
  let s9 := s8.restoreBind mtrRegs Reg.TRN_MTR_BIND_BOUND (fun s i => s.wr Reg.TRN_MTR_BIND_TENANT i t) img.meters
  s9.setAdm t { s9.admOf t with held := img.events }

/-- The bytes of the map at MAP_ADDR (R342). -/
def mapBytes (m : List (Nat × Nat × Nat)) (toks : List (Nat × Nat)) : List Byte :=
  m.flatMap (fun x => leBytes 8 x.1 ++ leBytes 8 x.2.1 ++ leBytes 8 x.2.2 ++ leBytes 8 0) ++ toks.flatMap (fun x => leBytes 8 x.1 ++ leBytes 8 x.2)

/-- Why an image is refused: the DETAIL of R341. -/
def State.imgBad (s : State) (x : AdmX) : Option Nat :=
  if !x.sigOk ∨ x.img.srcIdent ≠ sha256 x.key then some 1
  else if !x.tagOk then some 2
  else if x.img.tgtIdent ≠ sha256 s.mgmt.kaPub then some 3
  else if x.img.version ≠ 1 then some 4
  else if s.ten.images.contains x.img.id then some 5
  else none

/-- RESTORE_SLICE (R340 to R342). The image gives each saved attachment a migration token, drawn at random: a free value.
A region whose index another tenant uses cannot keep its key, so the restore is refused (log entry 33). -/
def cmdRestore (o : Origin) (e : List Byte) (x : AdmX) (s : State) : AdmRes :=
  let t := leAt e 8 2
  let pool := byteAt e 10
  if 511 < t ∨ 7 < pool ∨ s.slice t ≠ 0 ∨ s.stillWiping t then bad Code.invalidParam
  else if (s.descOf o.slot (leAt e 12 2)).isNone then bad Code.notFound
  else match s.imgBad x with
    | some d => .err Code.invalidParam d 0
    | none =>
      if x.img.regions.any (fun r => s.on Reg.TRN_REG_D0_VALID r.1) then bad Code.resourceExhausted
      else match s.makeSlice t pool 5 x.img.quota with
        | none => bad Code.resourceExhausted
        | some s1 =>
          match State.restoreExts t x.img.exts s1 with
          | none => bad Code.resourceExhausted
          | some (s2, m) =>
            let n := x.img.atts.length
            let toks := (List.range n).map (fun k => s2.freeAt (k + 1) 64)
            let s3 := (s2.restoreAll t x.img m).bumpN n
            let s4 := s3.setSlice t { image := some x.img.id, mSlice := x.img.mSlice, migs := List.zip (x.img.atts.map Prod.fst) toks, ctxs := x.img.ctxs }
            .ok ((({ s4 with ten := { s4.ten with images := s4.ten.images ++ [x.img.id] } }).emit
              (.wrote (leAt e 40 8) (mapBytes m (List.zip (x.img.atts.map Prod.snd) toks))))) (s4.bases t) 0

end Sys2Proof.Machine
end

