-- ==== Sys2Proof/Machine/Admin.lean ====
section
/-! DEFINITION. The admin commands as they run (R124, R125, R127), and the events that complete those that wait (chapters 5,
7, 12 and 13). -/

namespace Sys2Proof.Machine

open Sys2Proof

/-- A command by its CMD (R127); a frozen slice refuses every one (R129). -/
def State.runCmd (o : Origin) (e : List Byte) (x : AdmX) (s : State) : AdmRes :=
  let t := o.slot
  if 0x40 ≤ o.cmd ∧ t ≠ provider then bad Code.notPermitted
  else if s.frozen t ∧ ((1 ≤ o.cmd ∧ o.cmd ≤ 0x0F) ∨ (0x40 ≤ o.cmd ∧ o.cmd ≤ 0x47)) then bad Code.tenantFrozen
  else match o.cmd with
    | 0x01 => cmdCreateCq t e s
    | 0x02 => cmdDestroyCq t e s
    | 0x03 => cmdCreateQp t e s
    | 0x04 => cmdDestroyQp o e s
    | 0x05 =>
      (match byteAt e 10 with
      | 0 => cmdQpReset t e s
      | 2 => cmdQpConnect t e s
      | 3 => cmdQpRepath t e s
      | 4 => cmdQpSetError t e s
      | _ => bad Code.invalidParam)
    | 0x06 => cmdQueryQp t e s
    | 0x07 => cmdCreateLegacyQp t e s
    | 0x08 => cmdRegisterContext t e s
    | 0x09 => cmdUnregisterContext o e s
    | 0x0A => cmdRegisterRegion t e s
    | 0x0B => cmdDeregisterRegion o e s
    | 0x0C =>
      (match byteAt e 8 with
      | 0 => cmdPelReserve t e x s
      | 1 => cmdPelBind t e x s
      | _ => bad Code.invalidParam)
    | 0x0D => cmdDestroyPeloton t e s
    | 0x0E => if bit (byteAt e 18) 1 then cmdClaimExtent o e s else cmdAllocExtent o e s
    | 0x0F => cmdFreeExtent o e s
    | 0x40 => cmdCreateTenant e s
    | 0x41 => cmdDestroyTenant o e s
    | 0x42 => cmdSetPool e s
    | 0x43 =>
      (match byteAt e 16 with
      | 0 => cmdEpAdd e s
      | 1 => cmdEpRemove e s
      | 2 => cmdEpClear e s
      | _ => bad Code.invalidParam)
    | 0x44 =>
      (match byteAt e 10 with
      | 0 => cmdFreeze o e s
      | 1 => cmdThaw e x s
      | _ => bad Code.invalidParam)
    | 0x45 => cmdSave o e x s
    | 0x46 => cmdRestore o e x s
    | 0x47 => cmdUnlock e s
    | _ => bad Code.invalidCommand

/-- Runs a command and writes its completion, or keeps its queue busy (R125). -/
def State.runAdmin (o : Origin) (e : List Byte) (x : AdmX) (s : State) : State :=
  match s.runCmd o e x with
  | .ok s1 a0 a1 => s1.admOk o a0 a1
  | .err c d a1 => s.answer o c d 0 a1
  | .wait s1 => s1.setAdm o.slot { s1.admOf o.slot with busy := true }

/-- Runs the commands that wait, in order, until one keeps the queue busy (R125). -/
def State.admPump (t : Nat) : Nat → State → State
  | 0, s => s
  | n + 1, s =>
    match (s.admOf t).busy, (s.admOf t).queue with
    | false, (o, e, x) :: rest => State.admPump t n ((s.setAdm t { s.admOf t with queue := rest }).runAdmin o e x)
    | _, _ => s

/-- A command that waited has ended: the next ones run. -/
def State.admFree (s : State) (t : Nat) : State :=
  State.admPump t ((s.admOf t).queue.length) (s.setAdm t { s.admOf t with busy := false })

/-- Where a command came from, as its entry says (R124, R395). -/
def originOf (t : Nat) (mbx : Option Nat) (e : List Byte) : Origin :=
  let c := byteAt e 0
  { slot := t, tag := leAt e 4 4, cmd := c, mbx,
    names := if c = 0x40 ∨ c = 0x44 ∨ c = 0x46 then some (leAt e 8 2) else if c = 0x43 ∧ byteAt e 16 ≤ 1 then some (leAt e 18 2) else none }

/-- A command for an owner: one at a time, in the order they come (R125, R376). -/
def State.submit (s : State) (o : Origin) (e : List Byte) (x : AdmX) : State :=
  let a := s.admOf o.slot
  if a.busy then s.setAdm o.slot { a with queue := a.queue ++ [(o, e, x)] } else s.runAdmin o e x

/-- An entry of the admin submission ring of a slot (R125): SQ_HEAD passes it, and the command runs. -/
def State.admEntry (s : State) (t : Nat) (e : List Byte) (x : AdmX) : State :=
  if !s.on Reg.ADM_DESC0_BOUND t ∨ (t ≠ provider ∧ s.slice t = 6) then s
  else
    let h := ((s.admOf t).sqHead + 1) % 2 ^ 32
    ((s.setAdm t { s.admOf t with sqHead := h }).emit (.admHead t h)).submit (originOf t none e) e x

/-- An entry of 64 bytes with one byte set. -/
def withByte (i v : Nat) (e : List Byte) : List Byte := (e ++ List.replicate (64 - e.length) 0).set i (BitVec.ofNat 8 v)

/-- ADMIN_UNKNOWN_CMD (R127). -/
def execAdminUnknownCmd (t : Nat) (e : List Byte) (s : State) : Result :=
  .next (if byteAt e 0 = 0 ∨ (0x0F < byteAt e 0 ∧ byteAt e 0 < 0x40) ∨ 0x47 < byteAt e 0 then s.admEntry t e {} else s)

/-- CREATE_CQ (R128, R129). -/
def execCreateCq (t : Nat) (e : List Byte) (s : State) : Result := .next (s.admEntry t (withByte 0 0x01 e) {})
/-- DESTROY_CQ (R129). -/
def execDestroyCq (t : Nat) (e : List Byte) (s : State) : Result := .next (s.admEntry t (withByte 0 0x02 e) {})
/-- CREATE_QP (R128, R129). -/
def execCreateQp (t : Nat) (e : List Byte) (s : State) : Result := .next (s.admEntry t (withByte 0 0x03 e) {})
/-- DESTROY_QP (R129). -/
def execDestroyQp (t : Nat) (e : List Byte) (s : State) : Result := .next (s.admEntry t (withByte 0 0x04 e) {})

/-- DESTROY_QP_DONE (R129): every completion is written; the command completes with the count flushed. -/
def execDestroyQpDone (q : Nat) (s : State) : Result :=
  .next (match (s.sqOf q).destroying with
    | some (o, n) => if s.cqesLeft q then s else ((s.freeQp q).admOk o n 0).admFree o.slot
    | none => s)

/-- MODIFY_QP RESET (R119, R159). -/
def execModifyQpReset (t : Nat) (e : List Byte) (s : State) : Result := .next (s.admEntry t (withByte 10 0 (withByte 0 0x05 e)) {})
/-- MODIFY_QP CONNECT (R158, R159). -/
def execModifyQpConnect (t : Nat) (e : List Byte) (s : State) : Result := .next (s.admEntry t (withByte 10 2 (withByte 0 0x05 e)) {})
/-- MODIFY_QP REPATH (R159). -/
def execModifyQpRepath (t : Nat) (e : List Byte) (s : State) : Result := .next (s.admEntry t (withByte 10 3 (withByte 0 0x05 e)) {})
/-- MODIFY_QP SET_ERROR (R159, R160). -/
def execModifyQpSetError (t : Nat) (e : List Byte) (s : State) : Result := .next (s.admEntry t (withByte 10 4 (withByte 0 0x05 e)) {})
/-- QUERY_QP (R128). -/
def execQueryQp (t : Nat) (e : List Byte) (s : State) : Result := .next (s.admEntry t (withByte 0 0x06 e) {})
/-- CREATE_LEGACY_QP (R135, R136). -/
def execCreateLegacyQp (t : Nat) (e : List Byte) (s : State) : Result := .next (s.admEntry t (withByte 0 0x07 e) {})
/-- REGISTER_CONTEXT (R128, R129). -/
def execRegisterContext (t : Nat) (e : List Byte) (s : State) : Result := .next (s.admEntry t (withByte 0 0x08 e) {})
/-- UNREGISTER_CONTEXT (R129). -/
def execUnregisterContext (t : Nat) (e : List Byte) (s : State) : Result := .next (s.admEntry t (withByte 0 0x09 e) {})
/-- REGISTER_REGION (R179). -/
def execRegisterRegion (t : Nat) (e : List Byte) (s : State) : Result := .next (s.admEntry t (withByte 0 0x0A e) {})
/-- DEREGISTER_REGION (R181). -/
def execDeregisterRegion (t : Nat) (e : List Byte) (s : State) : Result := .next (s.admEntry t (withByte 0 0x0B e) {})

/-- The job of an owner's command that waits, and the state without it. -/
def State.takeJob (s : State) (p : Job → Bool) : Option (Job × State) :=
  (s.ten.jobs.find? p).map (fun j => (j, { s with ten := { s.ten with jobs := dropFirst p s.ten.jobs } }))

/-- DEREGISTER_REGION_DONE (R181): every access that passed the check has drained. -/
def execDeregisterRegionDone (t : Nat) (s : State) : Result :=
  .next (match s.takeJob (fun j => match j with
      | .dereg o _ => o.slot == t
      | _ => false) with
    | some (.dereg o _, s1) => (s1.admOk o 0 0).admFree o.slot
    | _ => s)

/-- UNREGISTER_CONTEXT_DONE (R93, R129): the uses of its translations have drained, and they are removed. -/
def execUnregisterContextDone (t : Nat) (s : State) : Result :=
  .next (match s.takeJob (fun j => match j with
      | .unreg o _ => o.slot == t
      | _ => false) with
    | some (.unreg o d, s1) =>
      ((((s1.dropContext o.slot (s1.rd Reg.XLT_CTX_DESC1_CONTEXT d)).clearObj (fieldsOf Reg.XLT_CTX_SEL_INDEX) d).admOk o 0 0)).admFree o.slot
    | _ => s)

/-- CREATE_PELOTON RESERVE (R298, R299, R302): `x.mem` is the image at IMAGE_ADDR. -/
def execCreatePelotonReserve (t : Nat) (e : List Byte) (x : AdmX) (s : State) : Result :=
  .next (s.admEntry t (withByte 8 0 (withByte 0 0x0C e)) x)
/-- CREATE_PELOTON BIND (R298, R300): `x.mem` is the member table at TABLE_ADDR. -/
def execCreatePelotonBind (t : Nat) (e : List Byte) (x : AdmX) (s : State) : Result :=
  .next (s.admEntry t (withByte 8 1 (withByte 0 0x0C e)) x)
/-- DESTROY_PELOTON (R323). -/
def execDestroyPeloton (t : Nat) (e : List Byte) (s : State) : Result := .next (s.admEntry t (withByte 0 0x0D e) {})
/-- ALLOC_EXTENT (R331). -/
def execAllocExtent (t : Nat) (e : List Byte) (s : State) : Result :=
  .next (s.admEntry t (withByte 18 (clrBit (byteAt e 18) 1) (withByte 0 0x0E e)) {})
/-- ALLOC_EXTENT with CLAIM (R331, R332). -/
def execAllocExtentClaim (t : Nat) (e : List Byte) (s : State) : Result :=
  .next (s.admEntry t (withByte 18 (setBit (byteAt e 18) 1) (withByte 0 0x0E e)) {})
/-- FREE_EXTENT (R331, R332). -/
def execFreeExtent (t : Nat) (e : List Byte) (s : State) : Result := .next (s.admEntry t (withByte 0 0x0F e) {})

/-- EXTENT_WIPE_DONE (R332). -/
def execExtentWipeDone (n : Nat) (s : State) : Result := .next (if s.xst n = Xs.wiping then s.endWipe n else s)

/-- CREATE_TENANT (R327). -/
def execCreateTenant (t : Nat) (e : List Byte) (s : State) : Result := .next (s.admEntry t (withByte 0 0x40 e) {})
/-- DESTROY_TENANT (R343). -/
def execDestroyTenant (t : Nat) (e : List Byte) (s : State) : Result := .next (s.admEntry t (withByte 0 0x41 e) {})

/-- DESTROY_TENANT_DONE (R343): every wipe of the slice `n` is done. -/
def execDestroyTenantDone (n : Nat) (s : State) : Result :=
  .next (match (s.sliceOf n).destroying with
    | some o =>
      if s.slice n ≠ 6 ∨ s.stillWiping n then s
      else ((((s.clearObj sliceRegs n).setSlice n {}).admOk o 0 0)).admFree o.slot
    | none => s)

/-- SET_POOL (R327). -/
def execSetPool (t : Nat) (e : List Byte) (s : State) : Result := .next (s.admEntry t (withByte 0 0x42 e) {})
/-- SET_ENDPOINT_TENANTS, add (R328). -/
def execSetEndpointTenantsAdd (t : Nat) (e : List Byte) (s : State) : Result := .next (s.admEntry t (withByte 16 0 (withByte 0 0x43 e)) {})
/-- SET_ENDPOINT_TENANTS, remove (R328). -/
def execSetEndpointTenantsRemove (t : Nat) (e : List Byte) (s : State) : Result := .next (s.admEntry t (withByte 16 1 (withByte 0 0x43 e)) {})
/-- SET_ENDPOINT_TENANTS, clear (R328). -/
def execSetEndpointTenantsClear (t : Nat) (e : List Byte) (s : State) : Result := .next (s.admEntry t (withByte 16 2 (withByte 0 0x43 e)) {})
/-- FREEZE_SLICE FREEZE (R334, R335). -/
def execFreezeSliceFreeze (t : Nat) (e : List Byte) (s : State) : Result := .next (s.admEntry t (withByte 10 0 (withByte 0 0x44 e)) {})
/-- FREEZE_SLICE THAW (R334, R336): `x.tables` are the member tables that RELINK reads. -/
def execFreezeSliceThaw (t : Nat) (e : List Byte) (x : AdmX) (s : State) : Result := .next (s.admEntry t (withByte 10 1 (withByte 0 0x44 e)) x)
/-- SAVE_SLICE (R337): `x.key` is the target's public key. -/
def execSaveSlice (t : Nat) (e : List Byte) (x : AdmX) (s : State) : Result := .next (s.admEntry t (withByte 0 0x45 e) x)
/-- RESTORE_SLICE (R341, R342): `x` is the image, the source's key, and what verifying them gives. -/
def execRestoreSlice (t : Nat) (e : List Byte) (x : AdmX) (s : State) : Result := .next (s.admEntry t (withByte 0 0x46 e) x)
/-- UNLOCK_REATTACH (R343). -/
def execUnlockReattach (t : Nat) (e : List Byte) (s : State) : Result := .next (s.admEntry t (withByte 0 0x47 e) {})

/-- SLICE_FREEZE_FIRE (R46, R334, R335): the freeze count of slice `n`. -/
def execSliceFreezeFire (n : Nat) (s : State) : Result :=
  let r := s.fire (.freeze n)
  .next (if r.2.1 ∧ s.slice n = 2 ∧ !(s.sliceOf n).stepped then r.1.freezeNow n else r.1)

/-- FREEZE_SCAN_DONE (R335 step 6): a scan that finds nothing of slice `n` in progress. -/
def execFreezeScanDone (n : Nat) (s : State) : Result :=
  .next (if s.slice n ≠ 2 ∨ !(s.sliceOf n).stepped ∨ s.inProgress n then s
  else
    let s1 := (s.qpList.filter (fun q => s.qpTenant q == n && s.cst q == Cst.connected)).foldl (fun s q => s.wr Reg.TRN_QP_T0_STATE q Cst.suspended) s
    let s2 := (s1.wr Reg.TEN_SLICE0_STATE n 3).setSlice n { s1.sliceOf n with freeze := none, reported := s.now }
    match (s.sliceOf n).freeze with
    | some o => (s2.admOk o s.now 0).admFree o.slot
    | none => s2)

/-- A freeze that has not fired is cancelled (R43, R334): the command completes with CADENCE_STEP. -/
def State.freezeCancel (s : State) (n : Nat) : State :=
  if s.slice n ≠ 2 ∨ (s.sliceOf n).stepped then s
  else
    let s1 := ((s.disarm (.freeze n)).wr Reg.TEN_SLICE0_STATE n 1).setSlice n { s.sliceOf n with freeze := none }
    match (s.sliceOf n).freeze with
    | some o => (s1.answer o Code.cadenceStep 0 0 0).admFree o.slot
    | none => s1

/-- KEEP_HOLD_EXPIRE (R345): what is still KEPT is wiped and counted. -/
def execKeepHoldExpire (s : State) : Result :=
  .next (match s.ten.keepFrom with
    | none => s
    | some _ =>
      let l := s.extList.filter (fun n => s.xst n == Xs.kept)
      let s1 := l.foldl (fun s n => (s.beginWipe n).count Reg.TEN_KEEP_EXPIRED_COUNT) s
      { s1 with ten := { s1.ten with keepFrom := none } })

end Sys2Proof.Machine
end

