-- ==== Sys2Proof/Machine/ChunkOps.lean ====
section
/-! DEFINITION. Chunks of a collective operation between the hub and the rings of its program (R303, R310, R311), and the
judgement of a round (R308, R309). -/

namespace Sys2Proof.Machine

open Sys2Proof

/-- The scratchpad address of the start of a logical bank in view 0 (R246). -/
def bankAt (b : Nat) : Nat := b * bankBytes

/-- The scratchpad address of receive descriptor `k` of a peloton's program (R303). -/
def Pel.recvAt (pl : Pel) (k : Nat) : Nat := bankAt (pl.bankIds.headD 0) + 1024 + 16 * k

/-- A receive descriptor is in use where it gives room, and pending until it is DONE (R303). -/
def recvPending (e : List Byte) : Bool := leAt e 4 3 != 0 && !bit (leAt e 15 1) 7

/-- Is this the pending receive descriptor of a chunk: the same SLOT, ROUND, CHUNK and PIECE, with room for it? -/
def recvFits (e : List Byte) (c : Chunk) : Bool :=
  recvPending e && leAt e 3 1 == c.slot && leAt e 12 3 == c.round && leAt e 8 4 == c.chunk && leAt e 7 1 == c.piece &&
    decide (c.len ≤ leAt e 4 3)

/-- The bytes of a chunk, its parts in order of their offsets. -/
def Chunk.data (c : Chunk) : List Byte := c.parts.flatMap (fun x => x.2)

/-- The receive descriptor that a chunk fills. -/
def State.recvFor (s : State) (p : Nat) (c : Chunk) : Option Nat :=
  let pl := s.pelOf p
  if pl.bankIds = [] then none
  else (List.range 64).find? fun k => recvFits (s.spRead pl.cluster (pl.recvAt k) 16) c

/-- Places a whole chunk: its bytes at ADDR, then LEN and DONE (R303). -/
def State.deliver (s : State) (p k : Nat) (c : Chunk) : State :=
  let pl := s.pelOf p
  let a := pl.recvAt k
  let e := s.spRead pl.cluster a 16
  let s1 := s.spWrite pl.cluster (leAt e 0 3) c.data
  let s2 := s1.spWrite pl.cluster (a + 4) (leBytes 3 c.len)
  (s2.spWrite pl.cluster (a + 15) (leBytes 1 (leAt e 15 1 + 128))).setPel p
    { pl with chunks := dropFirst (fun (x : Chunk) => x.slot == c.slot && x.msn == c.msn) pl.chunks }

/-- Places every whole chunk that has its descriptor; the others wait in the hub (R303). -/
def State.deliverAll (p : Nat) : Nat → State → State
  | 0, s => s
  | n + 1, s =>
    match findFirst (fun (c : Chunk) => if c.whole then (s.recvFor p c).map (fun k => (k, c)) else none) (s.pelOf p).chunks with
    | none => s
    | some (k, c) => State.deliverAll p n (s.deliver p k c)

/-- The slots whose receives of a round are pending (R308). -/
def State.pendingSlots (s : State) (p round : Nat) : List Nat :=
  let pl := s.pelOf p
  if pl.bankIds = [] then []
  else ((List.range 64).map (fun k => s.spRead pl.cluster (pl.recvAt k) 16)).filterMap fun e =>
    if recvPending e ∧ leAt e 12 3 = round then some (leAt e 3 1) else none

/-- The member that a link slot names in the current live list (R301). -/
def Pel.slotMember (pl : Pel) (sl : Nat) : Option Nat := (slotRank pl.sched pl.live.length pl.rank sl).bind pl.atRank

/-- The chunks of a chunk group, and its rounds, by schedule and operation (R301). -/
def groupChunks (sched n : Nat) : Nat :=
  match sched with
  | 0 => n
  | 2 => 2 ^ Nat.log2 n
  | _ => 1

def groupRounds (sched cop n : Nat) : Nat :=
  match sched with
  | 0 => if cop = 0 then 2 * (n - 1) else n - 1
  | 1 => if cop = 0 then 2 * Nat.log2 n else Nat.log2 n
  | 2 => 2 * Nat.log2 n + 2
  | _ => 2

/-- The first chunk not settled once round `r` of an epoch has met its deadline (R309). -/
def settledBy (pl : Pel) (o : PelOp) (r : Nat) : Nat :=
  let n := pl.live.length
  max o.settled (o.firstFinal + (r + 1) / max 1 (groupRounds pl.sched o.cop n) * groupChunks pl.sched n)

end Sys2Proof.Machine
end

