-- ==== Sys2Proof/Machine/Sync.lean ====
section
/-! DEFINITION. The cadence, fence and synchronisation instructions (R236 to R238), and SIGNAL (R303). -/

namespace Sys2Proof.Machine

open Sys2Proof

/-- CREAD (R236). -/
def execCread (c i d : Nat) (s : State) : Result := runThread c i s fun s => (s.setG c i d s.now).step1 c i

/-- A CWAIT ends with a result in g[D] (R236): 0 on time, 1 late, 2 cancelled. -/
def State.cwaitEnd (s : State) (c i d code : Nat) : State :=
  let s1 := if code = 1 then s.wr Reg.CLU_THR_STATUS_LATE (ix c i) 1 else if code = 2 then s.wr Reg.CLU_THR_STATUS_CANCELLED (ix c i) 1 else s
  (((s1.setThr c i { s1.thrOf c i with wait := .none }).setThState c i Ts.ready).setG c i d code).step1 c i

/-- CWAIT (R45, R236): exempt from the lead of R45; in FREE or ACQUIRE it is cancelled at once. -/
def execCwait (c i d a : Nat) (s : State) : Result :=
  runThread c i s fun s =>
    let t := s.g c i a
    if s.rd Reg.CAD_STATUS_STATE < 2 then s.cwaitEnd c i d 2
    else if t ≤ s.now then s.cwaitEnd c i d 1
    else ((s.arm (.cwait c i) t).setThr c i { s.thrOf c i with wait := .cadence t d }).setThState c i Ts.waitCadence

/-- CWAIT_FIRE (R44, R46, R236). -/
def execCwaitFire (c i : Nat) (s : State) : Result :=
  let r := s.fire (.cwait c i)
  .next (if r.2.1 then
    (match (r.1.thrOf c i).wait with
    | .cadence _ d => r.1.cwaitEnd c i d (b2n r.2.2)
    | _ => r.1)
  else r.1)

/-- CDEADLINE (R236, R308): arms the deadline of the round whose count g[A] gives, shifted by the extensions; an
operation without LAUNCH_AT arms none, and g[D] is then a free value, as for a thread that no peloton owns. -/
def execCdeadline (c i d a : Nat) (s : State) : Result :=
  runThread c i s fun s =>
    let open_ := ((s.setG c i d (s.free 64)).step1 c i).bump
    match s.pelOn c i with
    | none => open_
    | some p =>
      match (s.pelOf p).op with
      | none => open_
      | some o =>
        if o.launchAt = 0 ∨ o.stepCt = 0 then open_
        else
          let r := (s.g c i a - o.base) / o.stepCt - 1
          let t := s.g c i a + o.shiftOf r
          if s.mayArm t then (((s.disarm (.deadline p r)).arm (.deadline p r) t).setG c i d 0).step1 c i
          else (s.setG c i d Code.schedulePast).step1 c i

/-! Fences. -/

/-- Have the stream slots of a thread completed? -/
def State.slotsDone (s : State) (c i : Nat) : Bool :=
  (List.range 8).all fun k => !(s.slotOf c (coreOf i) k).busy || (s.slotOf c (coreOf i) k).thread != i

/-- Flushes every near path that a thread's slots wrote on since its last VIS fence (R238). -/
def State.visFlush (s : State) (c i : Nat) : State :=
  let ports := (List.range 8).filter (fun p => bit (s.thrOf c i).wrote p && s.on Reg.MAC_NEAR_STATUS_PATH_UP p)
  let r := ports.foldl (fun (x : State × List (Nat × Nat)) p =>
    (x.1.sendNp p .flush (.vis c i) { op := 2, tenant := s.thTenant c i, ctx := s.thCtx c i }, x.2 ++ [(p, (x.1.nearOf p).nextTag)])) (s, [])
  r.1.setThr c i { r.1.thrOf c i with wrote := 0, flush := r.2 }

/-- Does every condition a fence selects hold (R238)? Stores reach their banks within the instruction. -/
def State.fenceHolds (s : State) (c i mask : Nat) : Bool :=
  (!(bit mask 1 || bit mask 4) || s.slotsDone c i) &&
    (!bit mask 2 || s.rd Reg.CLU_ARR_OWN_HOLDER c != i + 1 || (s.arr c).queue == []) &&
    (!bit mask 3 || s.rd Reg.CLU_SPK_OWN_HOLDER c != i + 1 || (s.spk c).queue == []) &&
    (!bit mask 4 || ((s.thrOf c i).flush == [] && (s.thrOf c i).wrote == 0))

/-- Lets a fence go as far as it can: the flushes of VIS once the slots are done, then the thread, which traps with
ARITH at a FENCE [3] after a poisoned read (R290). -/
def State.fenceTry (s : State) (c i mask : Nat) : State :=
  let s1 := if bit mask 4 ∧ s.slotsDone c i ∧ (s.thrOf c i).wrote ≠ 0 then s.visFlush c i else s
  if !s1.fenceHolds c i mask then s1
  else
    let s2 := (s1.setThr c i { s1.thrOf c i with wait := .none }).setThState c i Ts.ready
    if bit mask 3 ∧ s2.rd Reg.CLU_SPK_OWN_HOLDER c = i + 1 ∧ (s2.spk c).trapDue then
      (s2.setSpk c { s2.spk c with trapDue := false }).trap c i Cause.arith 0
    else s2.step1 c i

/-- FENCE (R238): `mask` is IMM12. -/
def execFence (c i mask : Nat) (s : State) : Result :=
  runThread c i s fun s => ((s.setThr c i { s.thrOf c i with wait := .fence mask }).setThState c i Ts.waitSync).fenceTry c i mask

/-- FENCE_RELEASE (R238). -/
def execFenceRelease (c i : Nat) (s : State) : Result :=
  .next (match (s.thrOf c i).wait with
    | .fence mask => s.fenceTry c i mask
    | _ => s)

/-- The program threads a barrier mask names. -/
def barrierThreads (mask : Nat) : List Nat := [1, 3, 5, 7].filter (fun i => bit mask (coreOf i))

/-- BARRIER (R238): a named thread waits. -/
def execBarrier (c i mask : Nat) (s : State) : Result :=
  runThread c i s fun s =>
    if (barrierThreads mask).contains i then (s.setThr c i { s.thrOf c i with wait := .barrier (mask % 16) }).setThState c i Ts.waitSync
    else s.step1 c i

/-- BARRIER_RELEASE (R238): all named threads have reached a barrier with the same mask. -/
def execBarrierRelease (c mask : Nat) (s : State) : Result :=
  let ts := barrierThreads mask
  .next (if ts.all (fun i => (s.thrOf c i).wait == .barrier (mask % 16)) then
    ts.foldl (fun s i => ((s.setThr c i { s.thrOf c i with wait := .none }).setThState c i Ts.ready).step1 c i) s
  else s)

/-! SIGNAL. -/

/-- The 40-byte extension of a chunk (R310). -/
def chunkExt (group epoch round cfmt chunk len crc src piece rows : Nat) : List Byte :=
  leBytes 4 group ++ leBytes 4 epoch ++ leBytes 3 round ++ leBytes 1 cfmt ++ leBytes 4 chunk ++ leBytes 4 0 ++ leBytes 4 len ++
    leBytes 4 crc ++ leBytes 2 src ++ leBytes 2 piece ++ leBytes 4 rows ++ leBytes 4 0

/-- Sends the descriptors of the send ring that are not DONE, in ring order, one chunk message each, and sets DONE
(R303, R310, R311). ROWS of ALLTOALL_CAP stands in no descriptor: a free value (log entry 1). -/
def State.sendDescs (p : Nat) : Nat → State → State
  | 0, s => s
  | n + 1, s =>
    let pl := s.pelOf p
    match pl.bankIds, pl.op with
    | b :: _, some o =>
      let at_ := bankAt b + 16 * (pl.sendPos % 64)
      let e := s.spRead pl.cluster at_ 16
      let len := leAt e 4 3
      let fl := leAt e 15 1
      if len = 0 ∨ bit fl 7 ∨ pl.slots ≤ leAt e 3 1 then s
      else
        let data := s.spRead pl.cluster (leAt e 0 3) len
        let q := pl.baseQp + leAt e 3 1
        let rows := if o.cop = 4 then s.free 32 else 0
        let s1 := s.postLink q (if (s.connOf q).mcast.isSome then 0x19 else 0x18)
          (chunkExt pl.group pl.epoch (leAt e 12 3) (fl % 16) (leAt e 8 4) len (crc32c data) pl.me (leAt e 7 1) rows) data
        let s2 := s1.spWrite pl.cluster (at_ + 15) (leBytes 1 (fl + 128))
        State.sendDescs p n ((s2.setPel p { s2.pelOf p with sendPos := (pl.sendPos + 1) % 64 }).bump)
    | _, _ => s

/-- SIGNAL (R303): value 1 sends the descriptors; any other value goes to the SIGNAL field of the report. -/
def execSignal (c i v : Nat) (s : State) : Result :=
  runThread c i s fun s =>
    (match s.pelOn c i with
    | none => s
    | some p =>
      if v = 1 then State.deliverAll p 64 (State.sendDescs p 64 s)
      else
        let pl := s.pelOf p
        s.setPel p { pl with op := pl.op.map (fun (o : PelOp) => { o with signal := v % 2 ^ 32 }) }).step1 c i

end Sys2Proof.Machine
end

