-- ==== Sys2Proof/Machine/Collectives.lean ====
section
/-! DEFINITION. Collective operations: launch, deadlines, chunks, control messages, re-forming and completion (R303 to
R311, R315 to R323). -/

namespace Sys2Proof.Machine

open Sys2Proof

/-! Launch (R303, R304, R307). -/

/-- The free logical banks of a cluster. -/
def State.freeBanks (s : State) (c : Nat) : List Nat :=
  (List.range 16).filter fun b => s.rd Reg.CLU_BANK_OWN_OWNER (ix c b) == 0 && !s.on Reg.CLU_BANK_OWN_ZEROING (ix c b)

/-- The banks that a tenant holds in a cluster. -/
def State.tenBanks (s : State) (c t : Nat) : Nat :=
  ((List.range 16).filter fun b => s.rd Reg.CLU_BANK_OWN_OWNER (ix c b) != 0 && s.rd Reg.CLU_BANK_OWN_TENANT (ix c b) == t).length

/-- Are the banks of a peloton's program to be had: free, and within the quota of its tenant (R303, R327)? -/
def State.banksLeft (s : State) (p : Nat) : Bool :=
  let pl := s.pelOf p
  decide (pl.banks ≤ (s.freeBanks pl.cluster).length) &&
    (pl.tenant == provider || decide (s.tenBanks pl.cluster pl.tenant + pl.banks ≤ s.rd Reg.TEN_SLICE3_BANKS pl.tenant))

/-- The cores of a program. -/
def Pel.coreList (pl : Pel) : List Nat := [0, 1, 2, 3].filter (bit pl.cores)

/-- Takes the lowest free banks, tagged with the tenant; a bank of another tag is zeroed. The lowest core owns them and
the others may read them (log entry 35). -/
def State.takeBanks (s : State) (p : Nat) : State :=
  let pl := s.pelOf p
  let c := pl.cluster
  let ids := (s.freeBanks c).take pl.banks
  let owner := 1 + pl.coreList.headD 0
  let share := (pl.coreList.drop 1).foldl (fun v k => v + 2 ^ k) 0
  let s1 := ids.foldl (fun s b =>
    let t := s.count Reg.CLU_HANDOVERS_COUNT c
    let t1 := if t.rd Reg.CLU_BANK_OWN_TENANT (ix c b) = pl.tenant then t else t.wipeBank c (t.rd Reg.CLU_BANK_MAP_PHYS (ix c b))
    t1.giveBank c b owner share pl.tenant) s
  s1.setPel p { s1.pelOf p with bankIds := ids }

/-- Sets a program thread to the peloton's tenant and context (R230, R303); a change zeroes its registers. -/
def State.claimThread (s : State) (c i ten ctx : Nat) : State :=
  let s1 := if s.thTenant c i = ten ∧ s.thCtx c i = ctx then s else s.setThr c i (s.thrOf c i).wipe
  (s1.wr Reg.CLU_THR_CTRL_TENANT (ix c i) ten).wr Reg.CLU_THR_CTRL_CONTEXT (ix c i) ctx

/-- Starts the program at ENTRY (R304). The 128-byte operation record stands in the first bank behind the rings; its place
and its layout are not stated, and are free values. The rings begin empty (log entry 36). -/
def State.runProgram (s : State) (p base : Nat) : State :=
  let pl := s.pelOf p
  let c := pl.cluster
  let b := bankAt (pl.bankIds.headD 0)
  let at_ := b + 2048 + 64 * (s.free 64 % ((bankBytes - 2048 - 128) / 64 + 1))
  let s1 := (s.spWrite c b (List.replicate 2048 0)).spWrite c at_ ((List.range 128).map (fun k => BitVec.ofNat 8 (s.freeAt (k + 1) 8)))
  (pl.coreList.foldl (fun s k =>
    let i := 2 * k + 1
    let t := ((s.claimThread c i pl.tenant pl.ctx).setPc c i (pl.codeAt + pl.entry)).setG c i 1 at_
    ((t.setG c i 2 base).wr Reg.CLU_THR_CTRL_RUN (ix c i) 1).startThread c i) s1).bumpN 129

/-- The operation at the head of a peloton starts (R304, R307). `base` is its base count. -/
def State.startColl (s : State) (p : Nat) (o : PelOp) : State :=
  let s1 := s.takeBanks p
  let pl := s1.pelOf p
  (s1.setPel p { pl with op := some { o with started := true, missed := false, base := o.launchAt, epochStart := pl.epoch }, st := if pl.st = .armed ∨ pl.st = .ready then .running else pl.st }).runProgram
    p o.launchAt

/-- Notes that a launch count has come while its operation cannot start (R307). -/
def State.missLaunch (s : State) (p serial : Nat) : State :=
  let pl := s.pelOf p
  let f (o : PelOp) : PelOp := if o.serial = serial then { o with missed := true } else o
  s.setPel p { pl with op := pl.op.map f, waitOps := pl.waitOps.map f }

/-- Counts a launch that fires late (R46). -/
def State.lateLaunch (s : State) : State := (s.count Reg.CAD_LATE_COUNT_COUNT).wr Reg.CAD_EVT_STATUS_LATE_FIRE 0 1

/-- LAUNCH_FIRE (R307): the launch count of an operation. It starts at once where it is its peloton's next and its banks
are to be had; else when it is, flagged late. An operation with LAUNCH_AT 0 starts when it can. -/
def execLaunchFire (p serial : Nat) (s : State) : Result :=
  let pl := s.pelOf p
  let next : Option PelOp := match pl.op with
    | some o => if o.serial = serial ∧ !o.started then some o else none
    | none => none
  .next (match next with
    | some o =>
      if o.launchAt = 0 then (if s.banksLeft p then s.startColl p o else s)
      else if o.missed then (if s.banksLeft p then s.lateLaunch.startColl p o else s)
      else
        let r := s.fire (.launch p serial)
        if !r.2.1 then r.1 else if r.1.banksLeft p then r.1.startColl p o else r.1.missLaunch p serial
    | none =>
      match s.armedAt (.launch p serial) with
      | none => s
      | some t =>
        if s.rd Reg.CAD_STATUS_STATE = 4 ∨ s.isNext (.launch p serial) t = false then s
        else ((s.disarm (.launch p serial)).wr Reg.CAD_COUNT_COUNT 0 (max t s.now)).missLaunch p serial)

/-! Deadlines (R308, R309). -/

/-- Judges a round at its deadline `due` (R308): met where no receive of it is pending, else WAITING for the members whose
receives are. -/
def State.judge (s : State) (p round due : Nat) : State :=
  let s1 := State.deliverAll p 64 s
  let pl := s1.pelOf p
  match s1.pendingSlots p round with
  | [] => s1.setPel p { pl with op := pl.op.map (fun (o : PelOp) => { o with settled := settledBy pl o round }) }
  | l => s1.stall p 0 round due (l.filterMap pl.slotMember).eraseDups

/-- STEP_DEADLINE_FIRE (R308, R316). -/
def execStepDeadlineFire (p round : Nat) (s : State) : Result :=
  let r := s.fire (.deadline p round)
  .next (if r.2.1 then r.1.judge p round ((s.armedAt (.deadline p round)).getD 0) else r.1)

/-! Chunks (R310, R311). -/

/-- A packet of a chunk with the fields of its extension (R310). -/
def chunkPkt (p : Pkt) : Pkt := { p with pktOffset := leAt p.ext 16 4, msgLen := leAt p.ext 20 4, target := 0, rkey := 0, format := 0, immValid := false }

/-- Is the sender of a chunk the member its link names, or on a multicast link one of that module (R310, R321)? -/
def chunkSrcOk (pl : Pel) (sl : Nat) (p : Pkt) : Bool :=
  let src := leAt p.ext 28 2
  if p.opc = 0x18 then pl.slotMember sl == some src
  else match pl.members[src]? with
    | none => false
    | some m => m.module == p.srcMod

/-- The chunk that a packet is part of. -/
def chunkOf (sl : Nat) (p : Pkt) : Chunk :=
  let e := p.ext
  { slot := sl, msn := p.msn, epoch := leAt e 4 4, round := leAt e 8 3, cfmt := leAt e 11 1, chunk := leAt e 12 4, len := leAt e 20 4,
    crc := leAt e 24 4, src := leAt e 28 2, piece := leAt e 30 2, rows := leAt e 32 4 }

/-- Adds a part to the chunk of a message, which it may begin. -/
def addPart (l : List Chunk) (c : Chunk) (key : Nat) (b : List Byte) : List Chunk :=
  let same (x : Chunk) : Bool := x.slot == c.slot && x.msn == c.msn
  let l' := if l.any same then l else l ++ [c]
  replaceFirst same (fun (x : Chunk) => { x with parts := Tbl.put key b x.parts }) l'

/-- The chunk of a message. -/
def Pel.chunkAt (pl : Pel) (sl msn : Nat) : Option Chunk := pl.chunks.find? (fun (x : Chunk) => x.slot == sl && x.msn == msn)

/-- The end of a link message whose every byte is in the hub: the CRC of a chunk is checked before anything is delivered
(R311), and the packet that completes it is acknowledged. -/
def State.linkWhole (s : State) (p sl q : Nat) (m : MsgRec) (k : Pkt) (f : Chunk → State → State) (check : Bool) : State :=
  let pl := s.pelOf p
  match pl.chunkAt sl k.msn with
  | none => s
  | some c =>
    if check ∧ crc32c c.data ≠ c.crc then
      let op' := pl.op.map (fun (o : PelOp) => { o with crcFails := o.crcFails + 1 })
      let left := dropFirst (fun (x : Chunk) => x.slot == sl && x.msn == k.msn) pl.chunks
      (s.setPel p { pl with op := op', chunks := left }).qpError
        q Code.chunkCrcError 0 none false k.psn k.msn
    else
      let m' := { m with psns := k.psn :: m.psns, lastPsn := k.psn, got := m.len }
      let s1 := (s.markPsn q k.psn true).putRec q m'
      f c ((s1.setConn q { s1.connOf q with ackEcho := k.txTime, ackRcvd := s.now }).msgAck q m')

/-- Takes a packet of a link message into the hub (R164 steps 9 to 12, R310). -/
def State.linkPart (s : State) (p sl q : Nat) (k : Pkt) (c : Chunk) (byPsn check : Bool) (f : Chunk → State → State) : State :=
  match s.msgRecord q k with
  | .busy => s.nakBusy q k
  | .mismatch => s.nakLength q k
  | .opened s1 m =>
    let key := if byPsn then d32 (k.psn + 2 ^ 31) ((m.psns.getLast?).getD k.psn) else k.pktOffset
    let pl := s1.pelOf p
    let s2 := s1.setPel p { pl with chunks := addPart pl.chunks c key k.payload }
    if m.len ≤ m.got + k.payload.length then s2.linkWhole p sl q m k f check
    else s2.msgGot q m k 0

/-- A chunk is whole: it goes to its descriptor, or waits (R303). -/
def State.chunkIn (p : Nat) (c : Chunk) (s : State) : State :=
  let pl := s.pelOf p
  let all := replaceFirst (fun (x : Chunk) => x.slot == c.slot && x.msn == c.msn) (fun (x : Chunk) => { x with whole := true })
    pl.chunks
  State.deliverAll p 64 (s.setPel p { pl with chunks := all })

/-- A new packet of a chunk (R310, R311): another group, epoch or sender is discarded. -/
def State.newChunk (s : State) (p0 : Pkt) : State :=
  let q := p0.dstQp
  match s.linkPel q with
  | none => s.count Reg.TRN_PEER_MISMATCH_COUNT
  | some (p, sl) =>
    let pl := s.pelOf p
    let k := chunkPkt p0
    let c := chunkOf sl k
    if leAt k.ext 0 4 ≠ pl.group ∨ c.epoch ≠ pl.epoch ∨ !chunkSrcOk pl sl k then s.count Reg.TRN_PEER_MISMATCH_COUNT
    else if c.len = 0 ∨ 4194304 < c.len then s.nakLength q k
    else s.linkPart p sl q k c false true (State.chunkIn p)

/-- Receives a packet on a link (R164): steps 1 to 8, then its own. -/
def State.rxLink (s : State) (opc : Nat) (p : Pkt) (r : Rx) (f : Pkt → State → State) : State :=
  let k := { p with opc }
  let h := s.rxHead k r
  if !h.2 then h.1
  else
    let q := h.1.rxSeq k r
    if !q.2 then q.1 else f k q.1

/-- RX_CHUNK (R310, R311). -/
def execRxChunk (p : Pkt) (r : Rx) (s : State) : Result := .next (s.rxLink 0x18 p r (fun k t => t.newChunk k))

/-- RX_BCAST_CHUNK (R321). -/
def execRxBcastChunk (p : Pkt) (r : Rx) (s : State) : Result := .next (s.rxLink 0x19 p r (fun k t => t.newChunk k))

/-! Control messages (R315, R318). -/

/-- Handles a control message that came on link slot `sl` (R315, R318). One of an earlier epoch that carries a T_R is sent
again in the current one with a new T_R (log entry 37). -/
def State.control (s : State) (p sl : Nat) (c : Ctl) : State :=
  let pl := s.pelOf p
  if pl.st = .free ∨ pl.st = .reserved ∨ pl.st = .excluded ∨ pl.st = .error then s
  else if c.epoch < pl.epoch then
    if c.action = 1 ∨ (c.kind < 2 ∧ c.action ≠ 2) then s
    else s.originate p { c with epoch := pl.epoch, count := s.now + pl.lead }
  else if pl.epoch < c.epoch then s.count Reg.TRN_PEER_MISMATCH_COUNT
  else if pl.seen.any (fun (x : Ctl) => x.same c) then s
  else
    let s1 := (s.setPel p { pl with seen := pl.seen ++ [c] }).flood p c (some sl)
    (if c.kind = 3 then s1 else s1.groupStall p c.epoch c.round).applyCtl p c

/-- A new packet of a STALL or LEAVE; its message is handled once its every member index is in. -/
def State.newCtl (s : State) (k0 : Pkt) : State :=
  let q := k0.dstQp
  match s.linkPel q with
  | none => s.count Reg.TRN_PEER_MISMATCH_COUNT
  | some (p, sl) =>
    if leAt k0.ext 0 4 ≠ (s.pelOf p).group then s.count Reg.TRN_PEER_MISMATCH_COUNT
    else
      let k := { k0 with msgLen := 2 * leAt k0.ext 18 2, target := 0, rkey := 0, format := 0, immValid := false }
      s.linkPart p sl q k (chunkOf sl k) true false (fun c t =>
        let t1 := t.setPel p { t.pelOf p with chunks := dropFirst (fun (x : Chunk) => x.slot == sl && x.msn == k.msn) (t.pelOf p).chunks }
        t1.control p sl (ctlOf k.ext c.data))

/-- RX_STALL (R315, R318). -/
def execRxStall (p : Pkt) (r : Rx) (s : State) : Result := .next (s.rxLink 0x1A p r (fun k t => t.newCtl k))

/-- RX_LEAVE (R315, R318). -/
def execRxLeave (p : Pkt) (r : Rx) (s : State) : Result := .next (s.rxLink 0x1B p r (fun k t => t.newCtl k))

/-- A member is fenced (R225, R80): an event, and a LEAVE originated on its behalf (R321). -/
def State.memberFenced (s : State) (p m : Nat) : State :=
  let pl := s.pelOf p
  if pl.st = .free ∨ pl.st = .reserved ∨ pl.st = .excluded ∨ pl.st = .error then s
  else
    (s.event pl.tenant Code.memberFenced 0 (evObj 2 p) m).originate p
      { epoch := pl.epoch, round := 0, kind := 3, origin := m, reason := Code.memberFenced, count := s.now + pl.lead }

/-! Re-forming (R318, R319). -/

/-- The excluded set of an epoch's messages (R318 step 3). -/
def excludedSet (live : List Nat) (l : List Ctl) : List Nat :=
  let waiting := l.filter (fun (c : Ctl) => c.kind == 0)
  let gone := waiting.flatMap (fun (c : Ctl) => c.w) ++ (l.filter (fun (c : Ctl) => c.kind == 1 || c.kind == 3)).map (fun (c : Ctl) => c.origin)
  live.filter fun m => gone.contains m && !waiting.any (fun (c : Ctl) => c.origin == m)

/-- Posts the event of an operation that ends by R319 (R325). -/
def State.fenceEvent (s : State) (p code detail : Nat) : State :=
  ((s.event (s.pelOf p).tenant code detail (evObj 2 p) (s.free 64)).bump)

/-- Resets every link of a peloton (R319). -/
def State.resetLinks (s : State) (p : Nat) : State :=
  (List.range (s.pelOf p).slots).foldl (fun s sl => s.resetLink ((s.pelOf p).baseQp + sl)) s

/-- The operation under way after a re-form (R319 steps 4 and 5): run again from the first chunk not settled, with base
count T_R, or ended where the root is lost. -/
def State.rerunOp (s : State) (p t : Nat) (out : List Nat) : State :=
  let pl := s.pelOf p
  match pl.op with
  | none => s.setPel p { pl with st := .ready }
  | some o =>
    let o1 := { o with excl := o.excl ++ out }
    if !o.started then s.setPel p { pl with st := .armed }
    else if o.cop = 3 ∧ out.contains o.root then
      (((s.endProgram p).setPel p { (s.endProgram p).pelOf p with st := .running, op := some o1 }).pelOpDone p o1 Code.memberFenced 3 0).fenceEvent p
        Code.memberFenced 3 |>.pelNext p
    else
      let o2 := { o1 with base := t, ext := 0, shift := [], extNums := [], firstFinal := o.settled, reforms := o.reforms + 1 }
      (State.setPel { s with armed := s.armed.filter (fun e => match e.kind with
        | .deadline x _ => x != p
        | _ => true) } p { pl with st := .running, op := some o2, sendPos := 0, chunks := [] }).runProgram p t

/-- Re-forms into the next epoch (R319). -/
def State.reform (s : State) (p t : Nat) : State :=
  let pl := s.pelOf p
  let out := excludedSet pl.live pl.ctls
  if out.contains pl.me then
    ((s.pelEnd p .excluded Code.memberFenced 2).resetLinks p).fenceEvent p Code.memberFenced 2
  else
    let live := pl.live.filter (fun m => !out.contains m)
    let s1 := s.setPel p { pl with epoch := (pl.epoch + 1) % 2 ^ 32, live, excluded := pl.excluded ++ out, tR := none, ctls := [],
                                   seen := [], stallSeen := [], reformAts := pl.reformAts ++ [t] }
    if live.length < pl.minMembers then (s1.pelEnd p .error Code.stepTimeout 0).fenceEvent p Code.stepTimeout 0
    else
      (((s1.connectLinks p).rerunOp p t out).addChoice p).event pl.tenant Code.groupReformed 0 (evObj 2 p)
        ((pl.epoch + 1) % 2 ^ 32 + out.length * 2 ^ 32)

/-- REFORM_AT_TR (R318, R319): T_R has come. It is postponed while 255 re-forms have taken effect within the packet
lifetime. -/
def execReformAtTr (p : Nat) (s : State) : Result :=
  let pl := s.pelOf p
  .next (match pl.tR with
    | none => s
    | some t =>
      if !s.armed.all (fun e => decide (t ≤ e.at_) || decide (t ≤ s.now)) then s
      else
        let s1 := s.wr Reg.CAD_COUNT_COUNT 0 (max t s.now)
        let young := pl.reformAts.filter (fun a => decide (max t s.now < a + s.maxLife))
        if 255 ≤ young.length then s1.setPel p { pl with reformAts := young, tR := some (young.headD 0 + s.maxLife) }
        else (s1.setPel p { pl with reformAts := young }).reform p t)

/-! Completion (R322). -/

/-- COLLECTIVE_COMPLETE (R322): every result of a running operation is visible. `bytes` were written to DST_ADDR at this
member; `drops` rows were dropped, and `listed` of them written to DROP_ADDR. -/
def execCollectiveComplete (p bytes drops listed : Nat) (s : State) : Result :=
  let pl := s.pelOf p
  .next (match pl.op with
    | none => s
    | some o =>
      if pl.st ≠ .running ∨ !o.started then s
      else
        let o1 := { o with capDrops := drops, dropsListed := listed }
        let code := if o.excl ≠ [] then Code.memberFenced else if drops ≠ 0 then Code.capacityDrop else Code.success
        let detail := if o.excl ≠ [] then 1 else 0
        let s1 := s.endProgram p
        let s2 := s1.pelOpDone p o1 code detail bytes
        (if o.excl ≠ [] then s2.fenceEvent p code 1 else s2).pelNext p)

end Sys2Proof.Machine
end

