-- ==== Sys2Proof/Machine/TimeOps.lean ====
section
/-! DEFINITION. Time: events that come at every multiple of a period (R198, R408, R413, R438, R453), changes of the count
(R29, R42), and when the module serves. -/

namespace Sys2Proof.Machine

open Sys2Proof

def State.modBoard (s : State) (f : Board → Board) : State := { s with board := f s.board }
def State.modCad (s : State) (f : Cad → Cad) : State := s.modBoard (fun (b : Board) => { b with cad := f b.cad })
def State.modLanes (s : State) (f : Lanes → Lanes) : State := s.modBoard (fun (b : Board) => { b with lanes := f b.lanes })
def State.modRes (s : State) (f : Res → Res) : State := s.modBoard (fun (b : Board) => { b with res := f b.res })
def State.modPwr (s : State) (f : Pwr → Pwr) : State := s.modBoard (fun (b : Board) => { b with pwr := f b.pwr })
def State.modPmc (s : State) (f : Pmc → Pmc) : State := s.modBoard (fun (b : Board) => { b with pmc := f b.pmc })

/-- Is the cadence LOCKED or in HOLDOVER? -/
def State.synced (s : State) : Bool := s.rd Reg.CAD_STATUS_STATE == 2 || s.rd Reg.CAD_STATUS_STATE == 3

/-- Does the main domain run: Kilurn READY, or in a management restart, which leaves that domain alone (R371, R387)? -/
def State.mainUp (s : State) : Bool := !s.board.pwr.off && (s.rd Reg.MBX_KILURN_STATE == 1 || s.rd Reg.MBX_KILURN_STATE == 2)

/-- The count moves on to `t`, where it stands below. -/
def State.reach (s : State) (t : Nat) : State := if s.now < t then s.wr Reg.CAD_COUNT_COUNT 0 t else s

/-- The count is loaded or stepped (R29, R42). What counts cycles is not moved by it (R198, R453). -/
def State.jump (s : State) (t : Nat) : State :=
  let moved (x : Nat) : Nat := (x + t % 2 ^ 64 + (2 ^ 64 - s.now)) % 2 ^ 64
  let s1 := { s with traffic := { s.traffic with lastRefill := moved s.traffic.lastRefill } }
  (s1.modBoard (fun (b : Board) => { b with marks := b.marks.map (fun m => (m.1, moved m.2)) })).wr Reg.CAD_COUNT_COUNT 0 t

/-- The next multiple of `p` after `t`. -/
def nextMultiple (p t : Nat) : Nat := (t / p + 1) * p

/-- What a periodic event finds (R44, R46, R47): the state at its count, whether it falls, and whether it is late. While the
cadence is LOCKED or in HOLDOVER it falls on the multiples of its period, in the order of R47; else `period` cycles after the
last one. -/
def State.periodic (s : State) (k : EvKind) (period last : Nat) : State × Bool × Bool :=
  if s.synced then
    let t := nextMultiple period last
    if !s.isNext k t then (s, false, false)
    else if t < s.now then ((s.count Reg.CAD_LATE_COUNT_COUNT).wr Reg.CAD_EVT_STATUS_LATE_FIRE 0 1, true, true)
    else (s.reach t, true, false)
  else (s.reach (last + period), true, false)

def State.markOf (s : State) (k : Nat) : Nat := Tbl.get 0 k s.board.marks
def State.setMark (s : State) (k t : Nat) : State := s.modBoard (fun (b : Board) => { b with marks := Tbl.set 0 k t b.marks })

end Sys2Proof.Machine
end

