-- ==== Sys2Proof/Machine/GateOps.lean ====
section
/-! DEFINITION. Time gates (R200 to R202), ingress buffers (R191 to R193), forwarding of a frame (R221, R224), and the
exchange of shadow and active copies of shapers and meters (R199). -/

namespace Sys2Proof.Machine

open Sys2Proof

/-! Time gates. -/

/-- The active gate list: OPEN and DURATION_CT of each entry. -/
def State.gateList (s : State) : List (Nat × Nat) :=
  (List.range s.traffic.gateLen).map fun i => (bits (s.rd Reg.TRN_GCL_ACT i) 0 16, bits (s.rd Reg.TRN_GCL_ACT i) 32 32)

/-- Does the active list keep R200? -/
def State.gateValid (s : State) : Bool :=
  decide (1 ≤ s.traffic.gateLen) && decide (s.traffic.gateLen ≤ 64) && s.gateList.all (fun e => decide (64 ≤ e.2)) &&
    s.gateList.foldl (fun a e => a + e.2) 0 == s.traffic.gateCycle

/-- Would the list be applied from BASE on (R202)? -/
def State.gateReady (s : State) : Bool := s.on Reg.TRN_EGR_CTRL_GATE_EN && s.gateValid && !s.traffic.gateStopped && s.synced

/-- Is the list applied now? -/
def State.gateOn (s : State) : Bool := s.gateReady && decide (s.traffic.gateBase ≤ s.now)

/-- The entry of a list at an offset of its cycle: its index, its mask and what is left of it. -/
def gateEntry : List (Nat × Nat) → Nat → Nat → Nat × Nat × Nat
  | [], i, _ => (i, 0xFFFF, 0)
  | (m, d) :: l, i, o => if o < d then (i, m, d - o) else gateEntry l (i + 1) (o - d)

/-- The current entry. -/
def State.gateNow (s : State) : Nat × Nat × Nat :=
  gateEntry s.gateList 0 ((s.now - s.traffic.gateBase) % max 1 s.traffic.gateCycle)

/-- The classes that may start (R202). -/
def State.gateMask (s : State) : Nat :=
  if s.gateOn then s.gateNow.2.1 else if s.on Reg.TRN_EGR_CTRL_FALLBACK then s.traffic.gateOpen else 0xFFFF

/-- Keeps the open mask of the entry in force, before anything that may stop the list. -/
def State.keepGate (s : State) : State := if s.gateOn then { s with traffic := { s.traffic with gateOpen := s.gateNow.2.1 } } else s

/-- Shows the state of the gates (R208). -/
def State.showGate (s : State) : State :=
  let on := s.gateOn
  let s1 := (s.put Reg.TRN_GATE_STATUS_RUNNING 0 on).put Reg.TRN_GATE_STATUS_FALLBACK_ACTIVE 0 !on
  let s2 := if on then s1.wr Reg.TRN_GATE_STATUS_ENTRY 0 s.gateNow.1 else s1
  (s2.put Reg.TRN_GATE_STATUS_INVALID 0 (decide (s.traffic.gateLen ≠ 0 ∨ s.traffic.gateCycle ≠ 0) && !s.gateValid)).keepGate

/-- How long class `c` stays open, entry after entry and across the end of the cycle; none if always. -/
def openFor (c : Nat) : List (Nat × Nat) → Nat
  | [] => 0
  | (m, d) :: l => if bit m c then d + openFor c l else 0

/-- The window class `c` has left, in ct (R201). -/
def State.gateWindow (s : State) (c : Nat) : Option Nat :=
  let l := s.gateList
  if l.all (fun e => bit e.1 c) then none
  else
    let e := s.gateNow
    some (if bit e.2.1 c then e.2.2 + openFor c (l.drop (e.1 + 1) ++ l) else 0)

/-- The rate of a far port, in bits each ns. -/
def State.portRate (s : State) (n : Nat) : Nat := 200 * lanesOf (s.rd Reg.MAC_PORT_CFG_WIDTH n)

/-- Do the gates admit a frame of class `c` on port `n` (R201, R202)? -/
def State.gateAdmits (s : State) (n c bytes : Nat) : Bool :=
  if s.gateOn then
    match s.gateWindow c with
    | none => true
    | some w => decide (8 * wireBytes bytes ≤ w * s.portRate n)
  else bit s.gateMask c

/-! Ingress buffers. -/

/-- The ingress occupancy of a class, in bytes. -/
def Far.occ (f : Far) (c : Nat) : Nat := queueBytes (f.ingress.filter (fun (x : Frame) => x.tc == c))

/-- Does the transport's receive buffer take a frame of `b` bytes more (R191, R192)? -/
def State.rxRoom (s : State) (b : Nat) : Bool :=
  decide (s.conns.foldl (fun a e => a + e.2.held.foldl (fun x y => x + frameBytes e.2.vlan.isSome false y.1) 0) 0 + b ≤ 16777216)

/-- The egress port of a forwarded frame (R221): PORT[sport mod COUNT], passing over ports that are down and the ingress
port, in ascending order. -/
def State.forwardPort (s : State) (ingress mod sport : Nat) : Option Nat :=
  let k := min 4 (s.rd Reg.FWP_FWD_ENT_COUNT_ACT mod)
  if !s.on Reg.FWP_FWD_ENT_VALID_ACT mod ∨ k = 0 then none
  else
    ((List.range k).map (fun j => bits (s.rd Reg.FWP_FWD_ENT_PORTS_ACT mod) (8 * ((sport + j) % k)) 8)).find?
      (fun p => s.portUp p && p != ingress)

/-- Forwards a frame of an ingress buffer, or passes it to the transport: the state without it, or none while it must wait for
room (R191). -/
def State.passOn (s : State) (n : Nat) (f : Frame) : Option State :=
  if f.toUs then (if s.rxRoom f.bytes then some s else none)
  else
    match s.forwardPort n f.dstModule f.sport with
    | none => some (s.count Reg.FWP_NO_ROUTE_COUNT)
    | some p =>
      if f.ttl ≤ 1 then some (s.count Reg.FWP_TTL_DROP_COUNT)
      else if s.classOn p then some (((s.enqueue p { f with ttl := f.ttl - 1, tc := (f.pkt.map (fun (k : Pkt) => k.tc)).getD f.tc }).count Reg.FWP_FWD_FRAMES_COUNT).pmc 14 0x62 none)
      else none

/-- Passes on what can go of a list of waiting frames; a frame waits behind one of its class that waits. -/
def State.pumpList (n : Nat) : List Frame → List Nat → List Frame → State → State × List Frame
  | [], _, kept, s => (s, kept)
  | f :: l, blocked, kept, s =>
    if blocked.contains f.tc then State.pumpList n l blocked (kept ++ [f]) s
    else
      match s.passOn n f with
      | some t => State.pumpList n l blocked kept t
      | none => State.pumpList n l (f.tc :: blocked) (kept ++ [f]) s

/-- Empties the ingress buffer of port `n` as far as its successors signal on (R191). -/
def State.pump (s : State) (n : Nat) : State :=
  if (s.farOf n).ingress = [] then s
  else
    let r := State.pumpList n (s.farOf n).ingress [] [] s
    r.1.setFar n { r.1.farOf n with ingress := r.2 }

/-- Empties the ingress buffers of all ports. -/
def State.pumpAll (s : State) : State := (s.far.map Prod.fst).foldl State.pump s

/-! Shapers and meters (R199). -/

/-- The shadow configuration of a queue-pair shaper, in the layout of TRN_QSHP_CFG, and its binding. -/
def State.qshpShadow (s : State) (i : Nat) : Nat × Nat :=
  (s.rd Reg.TRN_QSHP_CFG_RATE i + 2 ^ 24 * s.rd Reg.TRN_QSHP_CFG_BURST i + 2 ^ 48 * s.rd Reg.TRN_QSHP_CFG_EN i,
   s.rd Reg.TRN_QSHP_BIND_QP i + 2 ^ 14 * s.rd Reg.TRN_QSHP_BIND_BOUND i)

/-- A queue-pair shaper takes a configuration: its tokens are 0 if RATE, BURST or the binding has changed. -/
def State.qshpTake (s : State) (i cfg bind : Nat) : State :=
  let old := (s.rd Reg.TRN_QSHP_ACT_CFG i, Tbl.get 0 i s.traffic.qbind)
  let s1 := { s.wr Reg.TRN_QSHP_ACT_CFG i cfg with traffic := { s.traffic with qbind := Tbl.set 0 i bind s.traffic.qbind } }
  if bits old.1 0 48 = bits cfg 0 48 ∧ old.2 = bind then s1 else s1.wr Reg.TRN_QSHP_TOKENS_TOKENS i 0

/-- Writes the shadow configuration of a queue-pair shaper. -/
def State.qshpShadowSet (s : State) (i cfg bind : Nat) : State :=
  ((((s.wr Reg.TRN_QSHP_CFG_RATE i cfg).wr Reg.TRN_QSHP_CFG_BURST i (cfg / 2 ^ 24)).wr Reg.TRN_QSHP_CFG_EN i (cfg / 2 ^ 48)).wr
    Reg.TRN_QSHP_BIND_QP i bind).wr Reg.TRN_QSHP_BIND_BOUND i (bind / 2 ^ 14)

/-- Exchanges shadow and active copy of a queue-pair shaper. -/
def State.qshpSwap (s : State) (i : Nat) : State :=
  let n := s.qshpShadow i
  let o := (s.rd Reg.TRN_QSHP_ACT_CFG i, Tbl.get 0 i s.traffic.qbind)
  (s.qshpTake i n.1 n.2).qshpShadowSet i o.1 o.2

/-- The shadow configuration of a tenant shaper and its binding, in the layouts of TRN_TSHP_CFG and TRN_TSHP_BIND. -/
def State.tshpShadow (s : State) (i : Nat) : Nat × Nat :=
  (s.rd Reg.TRN_TSHP_CFG i,
   s.rd Reg.TRN_TSHP_BIND_TENANT i + 2 ^ 10 * s.rd Reg.TRN_TSHP_BIND_BOUND i + 2 ^ 16 * s.rd Reg.TRN_TSHP_BIND_TC_MASK i)

/-- A tenant shaper takes a configuration. -/
def State.tshpTake (s : State) (i cfg bind : Nat) : State :=
  let old := (s.rd Reg.TRN_TSHP_ACT_CFG i, Tbl.get 0 i s.traffic.tbind)
  let s1 := { s.wr Reg.TRN_TSHP_ACT_CFG i cfg with traffic := { s.traffic with tbind := Tbl.set 0 i bind s.traffic.tbind } }
  if bits old.1 0 48 = bits cfg 0 48 ∧ old.2 = bind then s1 else s1.wr Reg.TRN_TSHP_TOKENS_TOKENS i 0

/-- Exchanges shadow and active copy of a tenant shaper. -/
def State.tshpSwap (s : State) (i : Nat) : State :=
  let n := s.tshpShadow i
  let o := (s.rd Reg.TRN_TSHP_ACT_CFG i, Tbl.get 0 i s.traffic.tbind)
  ((((s.tshpTake i n.1 n.2).wr Reg.TRN_TSHP_CFG i o.1).wr Reg.TRN_TSHP_BIND_TENANT i o.2).wr
    Reg.TRN_TSHP_BIND_BOUND i (o.2 / 2 ^ 10)).wr Reg.TRN_TSHP_BIND_TC_MASK i (o.2 / 2 ^ 16)

def State.meterOf (s : State) (i : Nat) : Meter := Tbl.get {} i s.traffic.meters
def State.setMeter (s : State) (i : Nat) (m : Meter) : State :=
  { s with traffic := { s.traffic with meters := Tbl.set {} i m s.traffic.meters } }

/-- The shadow configuration of a meter: TRN_MTR_CFG0, TRN_MTR_CFG1 and TRN_MTR_BIND. -/
def State.mtrShadow (s : State) (i : Nat) : Meter :=
  { cfg0 := s.rd Reg.TRN_MTR_CFG0_CIR i + 2 ^ 24 * s.rd Reg.TRN_MTR_CFG0_PIR i + 2 ^ 48 * s.rd Reg.TRN_MTR_CFG0_EN i,
    cfg1 := s.rd Reg.TRN_MTR_CFG1_CBS i + 2 ^ 24 * s.rd Reg.TRN_MTR_CFG1_PBS i + 2 ^ 48 * s.rd Reg.TRN_MTR_CFG1_YEL_THRESH_KIB i,
    bind := s.rd Reg.TRN_MTR_BIND_TENANT i + 2 ^ 10 * s.rd Reg.TRN_MTR_BIND_BOUND i + 2 ^ 16 * s.rd Reg.TRN_MTR_BIND_TC_MASK i }

/-- A meter takes a configuration: its buckets are full if rates, sizes or the binding have changed. -/
def State.mtrTake (s : State) (i : Nat) (n : Meter) : State :=
  let o := s.meterOf i
  if bits o.cfg0 0 48 = bits n.cfg0 0 48 ∧ bits o.cfg1 0 48 = bits n.cfg1 0 48 ∧ o.bind = n.bind then
    s.setMeter i { o with cfg0 := n.cfg0, cfg1 := n.cfg1 }
  else s.setMeter i { n with tc := 1024 * bits n.cfg1 0 24, tp := 1024 * bits n.cfg1 24 24 }

/-- Exchanges shadow and active copy of a meter. -/
def State.mtrSwap (s : State) (i : Nat) : State :=
  let n := s.mtrShadow i
  let o := s.meterOf i
  let s1 := s.mtrTake i n
  let s2 := ((s1.wr Reg.TRN_MTR_CFG0_CIR i o.cfg0).wr Reg.TRN_MTR_CFG0_PIR i (o.cfg0 / 2 ^ 24)).wr Reg.TRN_MTR_CFG0_EN i (o.cfg0 / 2 ^ 48)
  let s3 := ((s2.wr Reg.TRN_MTR_CFG1_CBS i o.cfg1).wr Reg.TRN_MTR_CFG1_PBS i (o.cfg1 / 2 ^ 24)).wr
    Reg.TRN_MTR_CFG1_YEL_THRESH_KIB i (o.cfg1 / 2 ^ 48)
  ((s3.wr Reg.TRN_MTR_BIND_TENANT i o.bind).wr Reg.TRN_MTR_BIND_BOUND i (o.bind / 2 ^ 10)).wr Reg.TRN_MTR_BIND_TC_MASK i (o.bind / 2 ^ 16)

/-- The instances of numbered objects that any of some fields or tables lists. -/
def State.listedIn (s : State) (fs : List Fld) (l : List Nat) : List Nat := (fs.flatMap s.listed ++ l).dedup

end Sys2Proof.Machine
end

