-- ==== Sys2Proof/Machine/Traffic.lean ====
section
/-! DEFINITION. Shapers, meters, gates and the egress scheduler (R193, R197 to R203), and received PAUSE and PFC frames
(R214). -/

namespace Sys2Proof.Machine

open Sys2Proof

/-! Refill (R198). -/

/-- REFILL_CT as it acts. -/
def State.refillCt (s : State) : Nat := max 256 (s.rd Reg.TRN_SHP_GLOBAL_REFILL_CT)

/-- What `cyc` cycles at `rate` Mbit/s add, in 1/1,024 byte. -/
def refillOf (rate cyc : Nat) : Nat := rate * cyc * 16 / 125

/-- Refills a token field from an active configuration in the layout of TRN_QSHP_CFG. -/
def State.refillShaper (act tok : Fld) (cyc : Nat) (s : State) (i : Nat) : State :=
  let cfg := s.rd act i
  let t := tokens (s.rd tok i) + (refillOf (bits cfg 0 24) cyc : Nat)
  s.wr tok i (wrap 64 (min t ((1024 * bits cfg 24 24 : Nat) : Int)))

/-- A meter after `cyc` cycles (R196, R198): PIR below CIR acts as CIR. -/
def Meter.refill (m : Meter) (cyc : Nat) : Meter :=
  let cir := bits m.cfg0 0 24
  { m with tc := min (m.tc + refillOf cir cyc) (1024 * bits m.cfg1 0 24),
           tp := min (m.tp + refillOf (max cir (bits m.cfg0 24 24)) cyc) (1024 * bits m.cfg1 24 24) }

/-- Refills every shaper and meter for `cyc` cycles. -/
def State.refillAll (s : State) (cyc : Nat) : State :=
  let s1 := (s.listed Reg.TRN_QSHP_ACT_CFG).foldl (State.refillShaper Reg.TRN_QSHP_ACT_CFG Reg.TRN_QSHP_TOKENS_TOKENS cyc) s
  let s2 := (s1.listed Reg.TRN_TSHP_ACT_CFG).foldl (State.refillShaper Reg.TRN_TSHP_ACT_CFG Reg.TRN_TSHP_TOKENS_TOKENS cyc) s1
  (s2.traffic.meters.map Prod.fst).foldl (fun t i => t.setMeter i ((t.meterOf i).refill cyc)) s2

/-- SHAPER_REFILL (R198): a refill that falls in CROCUS or REST takes no effect, and the first one after it adds all the elapsed
cycles (R440). -/
def execShaperRefill (s : State) : Result :=
  let last := s.traffic.lastRefill
  let r := s.periodic .refill s.refillCt (max last (s.markOf 5))
  .next (if !r.2.1 then s
  else if s.resting then (r.1.setMark 5 r.1.now).count Reg.PWR_SKIPPED_COUNT
  else
    let s1 := r.1.refillAll ((r.1.now + (2 ^ 64 - last)) % 2 ^ 64)
    { s1 with traffic := { s1.traffic with lastRefill := s1.now } })

/-- TRN_QSHP_APPLY (R199). -/
def execTrnQshpApply (i : Nat) (s : State) : Result :=
  let n := s.qshpShadow (i % 8192)
  .next (s.qshpTake (i % 8192) n.1 n.2)

/-- TRN_TSHP_APPLY (R199). -/
def execTrnTshpApply (i : Nat) (s : State) : Result :=
  let n := s.tshpShadow (i % 1024)
  .next (s.tshpTake (i % 1024) n.1 n.2)

/-- TRN_MTR_APPLY (R199). -/
def execTrnMtrApply (i : Nat) (s : State) : Result := .next (s.mtrTake (i % 1024) (s.mtrShadow (i % 1024)))

/-- GATE_ENTRY_CHANGE (R200, R202): the count comes to the next boundary of the list, or to BASE. -/
def execGateEntryChange (s : State) : Result :=
  .next (if !s.gateReady then s
    else
      let t := if s.now < s.traffic.gateBase then s.traffic.gateBase else s.now + s.gateNow.2.2
      if !s.isNext .gate t then s
      else if s.resting then (s.reach t).count Reg.PWR_SKIPPED_COUNT
      else (s.reach t).showGate)

/-! The egress scheduler (R203). -/

/-- The band of a class: 3 acts as 2. -/
def State.band (s : State) (c : Nat) : Nat := min 2 (s.rd Reg.TRN_TC_SCHED_BAND c)

/-- QUANTUM: the least value is 64. -/
def State.quantum (s : State) (c : Nat) : Nat := max 64 (s.rd Reg.TRN_TC_SCHED_QUANTUM c)

/-- Is a class of a port paused by its peer (R214)? -/
def Far.paused (f : Far) (c : Nat) : Bool := f.pausedTo.any (fun e => e.1 == c || e.1 == 16)

/-- Did the module itself make this frame? -/
def State.ours (s : State) (f : Frame) : Bool :=
  match f.pkt with
  | some p => p.srcMod == s.rd Reg.TRN_MODULE_ID
  | none => false

/-- May a frame start on the port at all: its transmitter runs (R222, R436), and no supply dip holds it (R442 step 3)? -/
def State.mayStart (s : State) (n : Nat) (f : Frame) : Bool :=
  s.portUp n && s.rd Reg.FWP_STATUS_STATE != 3 && !s.board.pwr.off && s.power != 2 && s.power != 3 &&
    !(s.on Reg.PWR_STATUS_DIP_ACTIVE && (s.ours f || s.board.pwr.dips.any (fun (d : Dip) => d.source == 15)))

/-- Is a class of a port eligible (R203)? -/
def State.eligible (s : State) (n c : Nat) : Bool :=
  match (s.farOf n).queue c with
  | [] => false
  | f :: _ => !(s.farOf n).paused c && s.mayStart n f && s.gateAdmits n c f.bytes

/-- Sends the head of a class queue. -/
def State.sendHead (s : State) (n c : Nat) : State :=
  match (s.farOf n).queue c with
  | [] => s
  | f :: rest =>
    let p := (s.farOf n).setQueue c rest
    let d := Tbl.get 0 c p.deficit - wireBytes f.bytes
    let p1 := { p with waited := p.waited.filter (· ≠ c), deficit := Tbl.set 0 c (if rest = [] then 0 else d) p.deficit }
    ((((s.setFar n p1).emit (.frame n f)).count Reg.MAC_TX_FRAMES_COUNT n).pmc 14 0x60 none).pumpAll

/-- Serves band `b` of a port until a frame is sent: `k` bounds the turns, which end because every turn of an eligible class
adds a quantum of at least 64 bytes. -/
def State.serveBand (n b : Nat) : Nat → State → State
  | 0, s => s
  | k + 1, s =>
    let p := s.farOf n
    let t := Tbl.get (0, false) b p.turn
    let c := t.1
    let next (p : Far) : State := s.setFar n { p with turn := Tbl.set (0, false) b ((c + 1) % 16, false) p.turn }
    let skip (p : Far) : State :=
      next (if (p.queue c).isEmpty then { p with deficit := Tbl.set 0 c 0 p.deficit } else p)
    if s.band c ≠ b ∨ s.eligible n c = false then State.serveBand n b k (if s.band c = b then skip p else next p)
    else
      let d := Tbl.get 0 c p.deficit + (if t.2 then 0 else s.quantum c)
      let p1 := { p with deficit := Tbl.set 0 c d p.deficit, turn := Tbl.set (0, false) b (c, true) p.turn }
      match p.queue c with
      | [] => s
      | f :: _ => if wireBytes f.bytes ≤ d then (s.setFar n p1).sendHead n c else State.serveBand n b k (next p1)

/-- Counts the head frames that wait under R201, each once. -/
def State.noteWaits (s : State) (n : Nat) : State :=
  if !s.gateOn then s
  else
    (List.range 16).foldl (fun t c =>
      match (t.farOf n).queue c with
      | [] => t
      | f :: _ =>
        if !t.gateAdmits n c f.bytes && !(t.farOf n).waited.contains c then
          ((t.setFar n { t.farOf n with waited := (t.farOf n).waited ++ [c] }).count Reg.TRN_GATE_WAIT_COUNT).pmc 14 0x64 none
        else t) s

/-- EGRESS_SCHEDULE (R201, R203): a far port sends its next frame, from the highest band that has an eligible class. -/
def execEgressSchedule (n : Nat) (s : State) : Result :=
  let s1 := s.noteWaits n
  .next (match [0, 1, 2].find? (fun b => (List.range 16).any (fun c => s1.band c == b && s1.eligible n c)) with
    | none => s1
    | some b => State.serveBand n b 4000 s1)

/-! Hop flow control (R193). -/

/-- XON_KIB as it acts. -/
def State.xonKib (s : State) (n : Nat) : Nat := min (s.rd Reg.TRN_HFC_XON_KIB n) (s.rd Reg.TRN_HFC_XOFF_KIB n)

/-- PFC_XON_SEND: the occupancy of a class that is held off is below XON_KIB. -/
def execPfcXonSend (n c : Nat) (s : State) : Result :=
  .next (if bit (s.rd Reg.TRN_HFC_STAT_OFF_SENT n) c ∧ (s.farOf n).occ c < 1024 * s.xonKib n then
    ((s.emit (.pfc n c 0)).pmc 14 0x63 none).wr Reg.TRN_HFC_STAT_OFF_SENT n (clrBit (s.rd Reg.TRN_HFC_STAT_OFF_SENT n) c)
  else s)

/-- PFC_REFRESH_TIMER: the frame is repeated while the occupancy stays at XON_KIB or above. -/
def execPfcRefreshTimer (n c : Nat) (s : State) : Result :=
  .next (if bit (s.rd Reg.TRN_HFC_STAT_OFF_SENT n) c ∧ 1024 * s.xonKib n ≤ (s.farOf n).occ c then (s.emit (.pfc n c 0xFFFF)).pmc 14 0x63 none else s)

/-! Received PAUSE and PFC frames (R214). -/

/-- The count at which a pause of `quanta` ends. -/
def State.pauseEnd (s : State) (n quanta : Nat) : Nat := s.now + ceilDiv (512 * quanta) (max 1 (s.portRate n))

/-- Pauses class `c` of a port, 16 standing for all, or ends its pause. -/
def State.setPause (s : State) (n c quanta : Nat) : State :=
  let p := s.farOf n
  let s1 := s.setFar n { p with pausedTo := if quanta = 0 then Tbl.del c p.pausedTo else Tbl.put c (s.pauseEnd n quanta) p.pausedTo }
  if c = 16 then s1
  else
    let v := s.rd Reg.TRN_HFC_STAT_PAUSED n
    s1.wr Reg.TRN_HFC_STAT_PAUSED n (if quanta = 0 then clrBit v c else setBit v c)

/-- Sends the cadence-sync messages that waited through a PAUSE, stamped as they leave (R34, R214). -/
def State.sendSyncs (s : State) (n : Nat) : State :=
  let l := (s.farOf n).syncs
  l.foldl (fun t x =>
    let f := t.free 8
    let m := if x.1 = 1 then { x.2 with t1 := t.now, t1f := f } else if x.1 = 2 then { x.2 with t3 := t.now, t3f := f } else x.2
    (t.emit (.sync n x.1 m)).bump) (s.setFar n { s.farOf n with syncs := [] })

/-- PAUSE_FRAME: acted on when PAUSE_RX_EN is 1 and PFC_RX_EN 0. -/
def execPauseFrame (n quanta : Nat) (s : State) : Result :=
  let s1 := s.count Reg.MAC_RX_PAUSE_COUNT n
  .next (if s.on Reg.MAC_PORT_CFG_PAUSE_RX_EN n && !s.on Reg.MAC_PORT_CFG_PFC_RX_EN n then
    let s2 := s1.setPause n 16 quanta
    if quanta = 0 then s2.sendSyncs n else s2
  else s1)

/-- PFC_FRAME: acted on when PFC_RX_EN is 1; `mask` enables classes, `quanta` gives each its time. -/
def execPfcFrame (n mask : Nat) (quanta : List Nat) (s : State) : Result :=
  let s1 := s.count Reg.MAC_RX_PAUSE_COUNT n
  .next (if s.on Reg.MAC_PORT_CFG_PFC_RX_EN n then
    (List.range 16).foldl (fun t c => if bit mask c then t.setPause n c ((quanta.getD c 0) % 65536) else t) s1
  else s1)

/-- PAUSE_EXPIRE: the pause of a class runs out, 16 standing for a PAUSE. -/
def execPauseExpire (n c : Nat) (s : State) : Result :=
  .next (match ((s.farOf n).pausedTo.find? (fun e => e.1 == c)) with
    | none => s
    | some e =>
      let s1 := (s.reach e.2).setPause n c 0
      if c = 16 then s1.sendSyncs n else s1)

end Sys2Proof.Machine
end

