-- ==== Sys2Proof/Machine/Far.lean ====
section
/-! DEFINITION. Far ports (R209 to R215) and the freewheel plane (R220 to R224). -/

namespace Sys2Proof.Machine

open Sys2Proof

/-! Port placement and links. -/

/-- The offset of lane `n` in its octet; none for a spare lane (R209). -/
def octetOff (n : Nat) : Option Nat := if n < 16 then some (n % 8) else if 18 ≤ n ∧ n < 34 then some ((n - 18) % 8) else none

/-- The lanes of the port that starts at `n`. -/
def State.lanesAt (s : State) (n : Nat) : Nat := lanesOf (s.rd Reg.MAC_PORT_CFG_WIDTH n)

/-- Does the port at `n` stand where R209 permits? -/
def State.placed (s : State) (n : Nat) : Bool :=
  match octetOff n with
  | none => false
  | some o => decide (0 < s.lanesAt n) && o % max 1 (s.lanesAt n) == 0 && decide (o + s.lanesAt n ≤ 8)

/-- Does the configuration of the port at `n` break R209, on its own or with another? -/
def State.cfgErr (s : State) (n : Nat) : Bool :=
  s.rd Reg.MAC_PORT_CFG_WIDTH n != 0 && (!s.placed n || (List.range 36).any (fun m =>
    m != n && s.rd Reg.MAC_PORT_CFG_WIDTH m != 0 && decide (m < n + max 1 (s.lanesAt n)) && decide (n < m + max 1 (s.lanesAt m))))

/-- The far port that a lane's position belongs to. -/
def State.farPortOf (s : State) (l : Nat) : Option Nat := (List.range 36).find? fun n => decide (n ≤ l) && decide (l < n + s.lanesAt n)

/-- A far link goes down (R211); waiting frames take another way where they have one. -/
def State.farDown (s : State) (n : Nat) : State :=
  if !s.on Reg.MAC_PORT_STATUS_LINK_UP n then s
  else (((s.wr Reg.MAC_PORT_STATUS_LINK_UP n 0).wr Reg.MAC_PORT_STATUS_LINK_CHANGE n 1).count Reg.MAC_LINK_DOWN_COUNT_COUNT n).pumpAll

/-- May a far link train: the port is configured and enabled, and its transmitters run (R209, R222, R436)? -/
def State.mayTrain (s : State) (n : Nat) : Bool :=
  s.on Reg.MAC_PORT_CFG_ENABLE n && s.rd Reg.MAC_PORT_CFG_WIDTH n != 0 && !s.on Reg.MAC_PORT_STATUS_CFG_ERR n &&
    s.rd Reg.FWP_STATUS_STATE != 3 && !s.board.pwr.off && s.power != 2 && s.power != 3

/-- Restarts a far link under R210. -/
def State.retrain (s : State) (n : Nat) : State :=
  let s1 := s.farDown n
  s1.put Reg.MAC_PORT_STATUS_RETRAINING n (s1.mayTrain n)

/-- Restarts every far link. -/
def State.retrainAll (s : State) : State := (List.range 36).foldl State.retrain s

/-- Shows CFG_ERR of a port; one in error, without lanes or disabled stays down. -/
def State.settlePort (s : State) (n : Nat) : State :=
  let s1 := s.put Reg.MAC_PORT_STATUS_CFG_ERR n (s.cfgErr n)
  if s1.mayTrain n then s1 else (s1.farDown n).wr Reg.MAC_PORT_STATUS_RETRAINING n 0

/-- Writes MAC_PORT_CFG of the port at `n` (R209, R227): a change of its width, medium or enable starts its training. -/
def State.writePortCfg (s : State) (n v : Nat) : State :=
  let old := (s.rd Reg.MAC_PORT_CFG_WIDTH n, s.rd Reg.MAC_PORT_CFG_PMD n, s.rd Reg.MAC_PORT_CFG_AN_EN n, s.rd Reg.MAC_PORT_CFG_ENABLE n)
  let s1 := (((s.wr Reg.MAC_PORT_CFG_WIDTH n v).wr Reg.MAC_PORT_CFG_PMD n (v / 2 ^ 3)).wr Reg.MAC_PORT_CFG_AN_EN n (v / 2 ^ 5)).wr
    Reg.MAC_PORT_CFG_ENABLE n (v / 2 ^ 6)
  let s2 := (((s1.wr Reg.MAC_PORT_CFG_HEVOR_ONLY n (v / 2 ^ 7)).wr Reg.MAC_PORT_CFG_PAUSE_RX_EN n (v / 2 ^ 8)).wr
    Reg.MAC_PORT_CFG_PFC_RX_EN n (v / 2 ^ 9)).wr Reg.MAC_PORT_CFG_SLOW_PATH_EN n (v / 2 ^ 10)
  let s3 := (List.range 36).foldl State.settlePort (s2.wr Reg.MAC_PORT_CFG_LINK_HOLD_US n (v / 2 ^ 16))
  let new := (s3.rd Reg.MAC_PORT_CFG_WIDTH n, s3.rd Reg.MAC_PORT_CFG_PMD n, s3.rd Reg.MAC_PORT_CFG_AN_EN n, s3.rd Reg.MAC_PORT_CFG_ENABLE n)
  if old = new then s3 else s3.retrain n

/-- MAC_PORT_CFG_WRITE. -/
def execMacPortCfgWrite (n v : Nat) (s : State) : Result := .next (s.writePortCfg n v)

/-- FAR_LINK_DOWN (R211): the link of a lane under remap is not taken down by that lane, which the event does not say. -/
def execFarLinkDown (n : Nat) (s : State) : Result := .next (s.farDown n)

/-- A far link comes up (R211). -/
def State.farUp (s : State) (n : Nat) : State :=
  ((s.wr Reg.MAC_PORT_STATUS_LINK_UP n 1).wr Reg.MAC_PORT_STATUS_LINK_CHANGE n 1).wr Reg.MAC_PORT_STATUS_RETRAINING n 0

/-- FAR_LINK_UP (R211): a port whose pin substitution runs waits for its end (R219). -/
def execFarLinkUp (n : Nat) (s : State) : Result :=
  .next (if s.mayTrain n ∧ !s.on Reg.MAC_PORT_STATUS_LINK_UP n ∧ s.board.lanes.substs.all (fun (x : Subst) => x.port ≠ n) then (s.farUp n).pumpAll
  else s)

/-! Receiving (R212, R213). -/

/-- The IEEE 802.3 CRC-32 over bytes. -/
def crc32Step : Nat → Nat → Nat
  | 0, c => c
  | n + 1, c => crc32Step n (if c % 2 = 1 then (c / 2) ^^^ 0xEDB88320 else c / 2)

def crc32 (bs : List Byte) : Nat := (bs.foldl (fun c b => crc32Step 8 (c ^^^ b.toNat)) 0xFFFFFFFF) ^^^ 0xFFFFFFFF

/-- Is a destination address a group address: the first octet's lowest bit? -/
def groupAddr (a : Nat) : Bool := bit a 40

/-- Is a group address admitted (R213)? -/
def State.groupAdmits (s : State) (n a : Nat) : Bool :=
  let h := crc32 (leBytes 6 a).reverse % 4096
  a == 0x0180C2000001 || bit (s.rd Reg.MAC_GHASH_ACT_BITS (ix n (h / 64))) (h % 64)

/-- Gives a frame to Kilurn's slow-path queue (R212). How many frames Kilurn has taken from it since, the spec does not say: a
free value (log entry 1). -/
def State.slowPath (s : State) (n : Nat) (f : RxFrame) : State :=
  let q := s.board.lanes.slow
  let left := q.drop (s.free 16 % (q.length + 1))
  let s1 := (s.modLanes (fun (l : Lanes) => { l with slow := left })).bump
  if s.on Reg.MAC_PORT_CFG_SLOW_PATH_EN n ∧ left.length < 256 then s1.modLanes (fun (l : Lanes) => { l with slow := left ++ [f] })
  else s1.count Reg.MAC_RX_ETYPE_DROP_COUNT n

/-- A received frame in an ingress buffer. -/
def heldFrame (f : RxFrame) (toUs : Bool) : Frame :=
  { bytes := f.bytes, tc := f.tc, pkt := f.pkt, ect := f.ect, ce := f.ce, dstModule := (f.pkt.map (fun (k : Pkt) => k.dstMod)).getD 0,
    ttl := f.ttl, sport := f.sport, toUs }

/-- Holds a class off toward the peer once its occupancy reaches XOFF_KIB (R193). -/
def State.checkXoff (s : State) (n c : Nat) : State :=
  let sent := s.rd Reg.TRN_HFC_STAT_OFF_SENT n
  if bit (s.rd Reg.TRN_HFC_CLASS_EN n) c ∧ !bit sent c ∧ 1024 * s.rd Reg.TRN_HFC_XOFF_KIB n ≤ (s.farOf n).occ c then
    (((s.emit (.pfc n c 0xFFFF)).pmc 14 0x63 none).wr Reg.TRN_HFC_STAT_OFF_SENT n (setBit sent c)).inc Reg.TRN_HFC_STAT_XOFF_COUNT n
  else s

/-- A frame enters the ingress buffer, and leaves it as soon as its successor takes it (R191, R193). -/
def State.ingest (s : State) (n : Nat) (f : Frame) : State :=
  let p := s.farOf n
  ((s.setFar n { p with ingress := p.ingress ++ [f] }).pump n).checkXoff n f.tc

/-- A multicast frame (R224): its tree's branches but the ingress port, and the local copy, which the receipt of its packet
places. -/
def State.multicastIn (s : State) (n t : Nat) (f : RxFrame) : State :=
  if !s.on Reg.FWP_MC_CFG_VALID_ACT t ∨ !s.on Reg.FWP_CTRL_MC_EN then s.count Reg.FWP_NO_ROUTE_COUNT
  else
    let s1 := if f.ttl ≤ 1 then s.count Reg.FWP_TTL_DROP_COUNT
      else s.replicate t (some n) { heldFrame f false with ttl := f.ttl - 1, tc := (f.pkt.map (fun (k : Pkt) => k.tc)).getD f.tc }
    let here := s.on Reg.FWP_MC_CFG_LOCAL_ACT t && !bit (s.rd Reg.FWP_MC_FENCED_MASK_ACT t) (s.rd Reg.FWP_MC_CFG_LOCAL_MEMBER_ACT t)
    if !here then s1 else if !s.mainUp then s1.count Reg.FWP_LOCAL_DROP_COUNT else s1.ingest n (heldFrame f true)

/-- TRN_MODULE.ID and TRN_UDP.DPORT as the freewheel plane knows them: through a warm reset, which clears these registers of the
main domain, those from before it (R220, R223; log entry 38). -/
def State.fwId (s : State) : Nat × Nat := (s.board.lanes.kept).getD (s.rd Reg.TRN_MODULE_ID, s.rd Reg.TRN_UDP_DPORT)

/-- The freewheel plane takes an IP frame (R220). -/
def State.freewheel (s : State) (n : Nat) (f : RxFrame) : State :=
  match f.tree, f.pkt with
  | some t, _ => s.multicastIn n t f
  | none, some k =>
    if f.dport = s.fwId.2 ∧ k.dstMod = s.fwId.1 then
      (if s.mainUp then s.ingest n (heldFrame f true) else s.count Reg.FWP_LOCAL_DROP_COUNT)
    else if f.dport = s.fwId.2 ∧ s.on Reg.FWP_CTRL_ENABLE ∧ (s.rd Reg.FWP_STATUS_STATE = 1 ∨ s.rd Reg.FWP_STATUS_STATE = 2) then
      s.ingest n (heldFrame f false)
    else if s.localIp f.ip then s.slowPath n f
    else s.count Reg.FWP_NO_ROUTE_COUNT
  | none, none => if s.localIp f.ip then s.slowPath n f else s.count Reg.FWP_NO_ROUTE_COUNT

/-- The EtherTypes R212 names. -/
def State.knownEtype (s : State) (t : Nat) : Bool := [0x86DD, 0x0800, 0x8808, s.rd Reg.CAD_SYNC_INTERVAL_ETYPE, 0x88B6].contains t

/-- Is the ingress space of the frame's class exhausted (R192, R212)? -/
def State.ingressFull (s : State) (n : Nat) (f : RxFrame) : Bool :=
  !bit (s.rd Reg.TRN_HFC_CLASS_EN n) f.tc && decide (262144 * s.lanesAt n < queueBytes (s.farOf n).ingress + f.bytes)

/-- FAR_FRAME_RECEIVE (R212): the checks in order, then where the frame goes. PAUSE, PFC, cadence-sync and lane-remap frames
that pass are the commands of their own rows. -/
def execFarFrameReceive (n : Nat) (f : RxFrame) (s : State) : Result :=
  .next (if !s.portUp n ∨ s.board.pwr.off ∨ s.power = 2 ∨ s.power = 3 then s
    else
      let s1 := (s.count Reg.MAC_RX_FRAMES_COUNT n).pmc 14 0x61 none
      if !f.fcsOk then s1.count Reg.MAC_RX_FCS_DROP_COUNT n
      else if f.bytes < 64 then s1.count Reg.MAC_RX_RUNT_DROP_COUNT n
      else if 9216 < f.bytes then s1.count Reg.MAC_RX_OVERSIZE_DROP_COUNT n
      else if s.on Reg.MAC_PORT_CFG_HEVOR_ONLY n ∧ !s.knownEtype f.etype then s1.count Reg.MAC_RX_ETYPE_DROP_COUNT n
      else if !(if groupAddr f.dst then s.groupAdmits n f.dst else f.dst == s.rd Reg.MAC_ADDR_ADDR n) then
        s1.count Reg.MAC_RX_FILTER_DROP_COUNT n
      else if s.ingressFull n f then s1.count Reg.MAC_RX_BUF_DROP_COUNT n
      else if f.etype = 0x8808 ∨ f.etype = s.rd Reg.CAD_SYNC_INTERVAL_ETYPE ∨ f.etype = 0x88B6 then s1
      else if f.etype = 0x86DD ∨ f.etype = 0x0800 then s1.freewheel n f
      else s1.slowPath n f)

/-! The forwarding state (R222). -/

/-- Writes FWP_CTRL. -/
def State.writeFwpCtrl (s : State) (v : Nat) : State :=
  let s1 := (s.put Reg.FWP_CTRL_ENABLE 0 (bit v 0)).put Reg.FWP_CTRL_MC_EN 0 (bit v 1)
  if !bit v 0 then s1.wr Reg.FWP_STATUS_STATE 0 0
  else if s.rd Reg.FWP_STATUS_STATE = 0 then s1.wr Reg.FWP_STATUS_STATE 0 1
  else s1

/-- FWP_ENABLE_WRITE: `v` is the value written to FWP_CTRL. -/
def execFwpEnableWrite (v : Nat) (s : State) : Result := .next (s.writeFwpCtrl v)

/-- FWP_CONFIRM.GO (R222). -/
def State.confirmGo (s : State) : State :=
  if s.rd Reg.FWP_STATUS_STATE = 2 then s.wr Reg.FWP_STATUS_STATE 0 1
  else if s.rd Reg.FWP_STATUS_STATE = 3 then (s.wr Reg.FWP_STATUS_STATE 0 1).retrainAll
  else s

/-- FWP_CONFIRM_GO. -/
def execFwpConfirmGo (s : State) : Result := .next s.confirmGo

/-- WARM_HOLD_EXPIRE (R222): every far transmitter goes idle. -/
def execWarmHoldExpire (s : State) : Result := .next (if s.rd Reg.FWP_STATUS_STATE = 2 then s.wr Reg.FWP_STATUS_STATE 0 3 else s)

end Sys2Proof.Machine
end

