-- ==== Sys2Proof/Machine/Spares.lean ====
section
/-! DEFINITION. Units and their spares (R401, R405 to R407, R411, R418 to R420, R479), the cluster move (R410), and the
fencing of cores (R256), arrays (R277) and clusters (R257). -/

namespace Sys2Proof.Machine

open Sys2Proof

/-! The state of a unit: 0 in service, 1 spare, 2 testing, 3 fenced (R405, R426). -/

def State.unitSt (s : State) (u : Nat) : Nat := s.rd Reg.RES_UNIT_STAT_STATE u

/-- The kind and index of a unit number (R401). -/
def unitKind (u : Nat) : Nat := u / 1024
def unitIx (u : Nat) : Nat := u % 1024

/-- How many units of a kind there are (R401). -/
def unitCount : Nat → Nat
  | 0 => 10
  | 1 => 40
  | 2 => 170
  | 3 => 10
  | 4 => 10
  | 5 => 32
  | 6 => 16
  | 7 => 18
  | 8 => 36
  | 9 => 36
  | 10 => 4
  | 11 => 4
  | 12 => 1
  | 13 => 32
  | _ => 0

/-- Sets or clears bit `i` of a register field. -/
def State.putBit (s : State) (f : Fld) (i : Nat) (b : Bool) : State := s.wr f 0 (if b then setBit (s.rd f) i else clrBit (s.rd f) i)

/-! Spare classes (R418). -/

/-- The spares of each die-to-die link (R15). -/
def wireSpares : List Nat := [64, 64, 128, 32]

/-- The class of a kind of unit. -/
def classOf : Nat → Option Nat
  | 0 => some 0
  | 2 => some 1
  | 5 => some 2
  | 6 => some 3
  | 7 => some 4
  | _ => none

/-- Does cluster `c` serve? -/
def State.serves (s : State) (c : Nat) : Bool := s.rd Reg.CLU_STATUS_STATE c == 1 || s.rd Reg.CLU_STATUS_STATE c == 2

/-- Is a unit kept for work that is on its way to it? -/
def State.reserved (s : State) (u : Nat) : Bool :=
  s.board.res.moves.any (fun (m : Move) => unitKind u == 0 && !m.swapped && m.dst.contains (unitIx u)) ||
    s.board.res.copies.any (fun (x : BankCopy) => unitKind u == 2 && unitIx u == 17 * x.cluster + x.new) ||
    (unitKind u == 7 && s.on Reg.MEM_COPY_ACTIVE && s.rd Reg.MEM_COPY_DST == unitIx u)

/-- Is a unit a free spare? -/
def State.isFree (s : State) (u : Nat) : Bool := s.unitSt u == 1 && !s.reserved u

/-- The free spares of a kind. -/
def State.freeOf (s : State) (kind : Nat) : List Nat := (List.range (unitCount kind)).filter (fun i => s.isFree (unitNo kind i))

/-- The physical banks of a cluster that are free spares. -/
def State.freeBank (s : State) (c : Nat) : List Nat := (List.range 17).filter (fun b => s.isFree (unitNo 2 (17 * c + b)))

/-- The free wires of each link. -/
def State.wiresLeft (s : State) : List Nat := (List.range 4).map (fun k => wireSpares.getD k 0 - Tbl.get 0 k s.board.res.wires)

/-- The link with the fewest free wires. -/
def State.tightLink (s : State) : Nat := (List.range 4).foldl (fun b k => if s.wiresLeft.getD k 0 < s.wiresLeft.getD b 0 then k else b) 0

/-- The spares of a lane class. -/
def laneSpares (k : Nat) : List Nat := [2 * (k - 5), 2 * (k - 5) + 1]

/-- TOTAL, FREE and FENCED of a class; banks and arrays of clusters that serve count. -/
def State.spareCounts (s : State) (k : Nat) : Nat × Nat × Nat :=
  let fenced := s.rd Reg.RES_SPARES_FENCED k
  let clus := (List.range 10).filter s.serves
  if k = 0 then (2, (s.freeOf 0).length, fenced)
  else if k = 1 then (8, (clus.filter (fun c => s.freeBank c != [])).length, fenced)
  else if k = 2 then (4, (s.freeOf 5).length, fenced)
  else if k = 3 then (2, (s.freeOf 6).length, fenced)
  else if k = 4 then (2, (s.freeOf 7).length, fenced)
  else if k < 9 then
    (2, ((laneSpares k).filter (fun i => s.rd Reg.MAC_SPARE_CFG_STATE i == 0)).length, ((laneSpares k).filter (fun i => s.rd Reg.MAC_SPARE_CFG_STATE i == 4)).length)
  else if k = 9 then (wireSpares.getD s.tightLink 0, s.wiresLeft.getD s.tightLink 0, 0)
  else (2 * clus.length, 2 * clus.length - (clus.map (fun c => Tbl.get 0 c s.board.res.rowCols)).foldl (· + ·) 0, 0)

/-- Shows a class in RES_SPARES: what is neither free nor fenced carries work. -/
def State.showSpares (s : State) (k : Nat) : State :=
  let x := s.spareCounts k
  (((s.wr Reg.RES_SPARES_TOTAL k x.1).wr Reg.RES_SPARES_FREE k x.2.1).wr Reg.RES_SPARES_FENCED k x.2.2).wr Reg.RES_SPARES_IN_USE k
    (x.1 - x.2.1 - x.2.2)

/-- Is a class exhausted (R418)? A lane class is, once a spare of its die is taken and none that is free has a port. -/
def State.exhausted (s : State) (k : Nat) : Bool :=
  let clus := (List.range 10).filter s.serves
  if k = 1 then clus.any (fun c => s.freeBank c == [])
  else if 5 ≤ k ∧ k < 9 then
    (laneSpares k).any (fun i => s.rd Reg.MAC_SPARE_CFG_STATE i != 0) &&
      !(laneSpares k).any (fun i => s.rd Reg.MAC_SPARE_CFG_STATE i == 0 && s.rd Reg.MAC_SPARE_CFG_PORT i != 0xFF)
  else if k = 9 then s.wiresLeft.any (· == 0)
  else if k = 10 then clus.any (fun c => Tbl.get 0 c s.board.res.rowCols != 0)
  else (s.spareCounts k).2.1 == 0

/-- Raises the replace request (R419): the cause and the class it adds. ARG0 of the event the spec does not state: a free
value (log entry 1). -/
def State.raiseReplace (s : State) (cause : Fld) (classes : Nat) : State :=
  let s1 := ((s.wr cause 0 1).wr Reg.RES_REPLACE_CLASSES 0 (s.rd Reg.RES_REPLACE_CLASSES ||| classes)).wr Reg.RES_ALERT_REPLACE 0 1
  let causes := s1.rd Reg.RES_REPLACE_SPARE_EXHAUSTED + 2 * s1.rd Reg.RES_REPLACE_EOL + 4 * s1.rd Reg.RES_REPLACE_MGMT
  (s1.event provider Code.replaceRequest 0 (s1.free 20) (causes + 2 ^ 8 * s1.rd Reg.RES_REPLACE_CLASSES + 2 ^ 32 * s1.rd Reg.RES_EOL_DAYS)).bump

/-- Re-evaluates a class (R405, R418, R419). -/
def State.reviewClass (s : State) (k : Nat) : State :=
  let s1 := s.showSpares k
  if s1.exhausted k ∧ !bit (s1.rd Reg.RES_REPLACE_CLASSES) k then s1.raiseReplace Reg.RES_REPLACE_SPARE_EXHAUSTED (2 ^ k) else s1

/-- Sets the state of a unit and every register that shows it (R479). A spare that is fenced counts among the spares
fenced. -/
def State.setUnit (s : State) (u v : Nat) : State :=
  let i := unitIx u
  let s1 := s.wr Reg.RES_UNIT_STAT_STATE u v
  let s2 := match unitKind u with
    | 3 => s1.wr Reg.ARR_STATUS_STATE i (if v = 2 then 1 else if v = 3 then 2 else 0)
    | 5 => (s1.putBit Reg.XLT_WALKER_IN_SERVICE i (v == 0)).putBit Reg.XLT_WALKER_FENCED i (v == 3)
    | 6 => ((s1.putBit Reg.CIP_CORES_IN_SERVICE i (v == 0)).putBit Reg.CIP_CORES_FENCED i (v == 3)).wr Reg.CIP_CORE_STAT_STATE i v
    | _ => s1
  match classOf (unitKind u) with
  | none => s2
  | some k => ((if s.unitSt u = 1 ∧ v = 3 then s2.count Reg.RES_SPARES_FENCED k else s2)).showSpares k

/-- Sets the state of a cluster (R260): it serves while in service or draining. -/
def State.setCluster (s : State) (c v : Nat) : State :=
  ((((s.wr Reg.CLU_STATUS_STATE c v).putBit Reg.CLU_GLOBAL_IN_SERVICE c (v == 1 || v == 2)).putBit Reg.CLU_GLOBAL_FENCED c (v == 3)).showSpares 0).showSpares 1

/-- Posts UNIT_FENCED (R405, R420). -/
def State.fencedEvent (s : State) (u detail : Nat) : State :=
  let s1 := s.event provider Code.unitFenced detail (evObj 7 u) (s.rd Reg.RES_UNIT_STAT_ERRORS u)
  if detail = 2 ∧ s.on Reg.RES_CTRL_ALERT_ON_FENCE then s1.wr Reg.RES_ALERT_FENCE 0 1 else s1

/-- A unit starts a test (R405). -/
def State.beginTest (s : State) (t : Test) : State :=
  (s.modRes (fun (r : Res) => { r with tests := r.tests ++ [t] })).count Reg.RES_TESTS_COUNT

/-- Is a unit under test? -/
def State.underTest (s : State) (u : Nat) : Bool := s.board.res.tests.any (fun (t : Test) => t.unit == u)

/-- The lowest-numbered free spare of a kind that no spare-test slot is testing (R408). -/
def State.takeSpare (s : State) (kind : Nat) : Option Nat := (s.freeOf kind).find? (fun i => !s.underTest (unitNo kind i))

/-! Cores and clusters. -/

/-- Abandons the stream slots of a core (R256); an answer that still comes finds nothing to do. -/
def State.dropSlots (s : State) (c u : Nat) : State := (List.range 8).foldl (fun s k => s.setSlot c u k {}) s

/-- Frees the banks that a core or its stream unit owns (R256). -/
def State.dropBanks (s : State) (c k : Nat) : State :=
  (List.range 16).foldl (fun s b =>
    if s.rd Reg.CLU_BANK_OWN_OWNER (ix c b) = 1 + k ∨ s.rd Reg.CLU_BANK_OWN_OWNER (ix c b) = 5 + k then s.wr Reg.CLU_BANK_OWN_OWNER (ix c b) 0 else s) s

/-- Releases the chainring and the sprocket that a thread holds (R249). -/
def State.dropUnits (s : State) (c i : Nat) : State :=
  let s1 := if s.rd Reg.CLU_ARR_OWN_HOLDER c = i + 1 then (s.setArr c { s.arr c with release := true }).settleArr c else s
  if s1.rd Reg.CLU_SPK_OWN_HOLDER c = i + 1 then (s1.setSpk c { s1.spk c with release := true }).settleSpk c else s1

/-- Fences a spoke core (R256). -/
def State.fenceCore (s : State) (c k : Nat) : State :=
  let p := s.pelOn c (2 * k + 1)
  let s1 := (((s.returnWork c (2 * k)).haltThread c (2 * k)).haltThread c (2 * k + 1)).dropSlots c k
  let s2 := ((s1.dropUnits c (2 * k)).dropUnits c (2 * k + 1)).dropBanks c k
  let s3 := (s2.wr Reg.CLU_STATUS_CORES_FENCED c (setBit (s2.rd Reg.CLU_STATUS_CORES_FENCED c) k)).wr Reg.CLU_CTRL_CORE_EN c
    (clrBit (s2.rd Reg.CLU_CTRL_CORE_EN c) k)
  match p with
  | none => s3
  | some p => s3.restartPel p

/-- A core that has passed its test returns (R406). -/
def State.returnCore (s : State) (c k : Nat) : State :=
  let s1 := (s.wr Reg.CLU_STATUS_CORES_FENCED c (clrBit (s.rd Reg.CLU_STATUS_CORES_FENCED c) k)).wr Reg.CLU_CTRL_CORE_EN c
    (setBit (s.rd Reg.CLU_CTRL_CORE_EN c) k)
  if s1.on Reg.CLU_CTRL_SERVICE_EN c then (s1.wr Reg.CLU_THR_CTRL_RUN (ix c (2 * k)) 1).startThread c (2 * k) else s1

/-- Zeroes a fenced cluster before it serves again (R257). -/
def State.zeroCluster (s : State) (c : Nat) : State :=
  let u := s.cluOf c
  let s1 := s.setClu c { u with bank := [], hub := [], hubUsed := [], thr := u.thr.map (fun t => (t.1, { t.2 with mem := [] })) }
  (s1.modRes (fun (r : Res) => { r with
    bankPoison := r.bankPoison.filter (fun l => l / 2 ^ 17 != c)
    localPoison := r.localPoison.filter (fun l => l / 2048 != c) })).showClu c

/-! The cluster move (R410). -/

/-- The lowest free run for code of `n` words on cluster `y`, beside what a move has already placed there. -/
def State.placeFor (s : State) (l : List (Nat × Nat × Nat)) (y n : Nat) : Option Nat :=
  let mine := l.filter (fun x => x.2.1 == y)
  let ends := mine.map (fun x => x.2.2 + (s.pelOf x.1).codeLen)
  let live := (s.pels.filter (fun e => e.2.st != .free && e.2.cluster == y)).map (fun e => e.2.codeAt + e.2.codeLen)
  (sortUp (codeLo :: (ends ++ live))).find? (fun a =>
    s.codeFree y n a && mine.all (fun x => decide (a + n ≤ x.2.2) || decide (x.2.2 + (s.pelOf x.1).codeLen ≤ a)))

/-- The words of a peloton's code as bytes. -/
def State.pelCode (s : State) (p : Nat) : List Byte :=
  (List.range (s.pelOf p).codeLen).flatMap (fun k => leBytes 4 (Tbl.get 0 ((s.pelOf p).codeAt + k) (s.cluOf (s.pelOf p).cluster).pstore))

/-- Step 2 for the pelotons of `src`: each program goes to the next cluster in turn that has room (R233). -/
def State.copyPrograms (src : Nat) (dst : List Nat) : List Nat → List (Nat × Nat × Nat) → State → State × List (Nat × Nat × Nat)
  | [], l, s => (s, l)
  | p :: ps, l, s =>
    let n := (s.pelOf p).codeLen
    let turn := dst.drop (l.length % max 1 dst.length) ++ dst.take (l.length % max 1 dst.length)
    match findFirst (fun y => (s.placeFor l y n).map (fun a => (y, a))) turn with
    | none => State.copyPrograms src dst ps l s
    | some (y, a) => State.copyPrograms src dst ps (l ++ [(p, y, a)]) (s.loadCode y a (s.pelCode p))

/-- The queue pairs whose active steering entry names a cluster. -/
def State.steeredTo (s : State) (c : Nat) : List Nat :=
  (s.listed Reg.CLU_STEER_ENT_VALID_ACT).filter (fun q => s.on Reg.CLU_STEER_ENT_VALID_ACT q && s.rd Reg.CLU_STEER_ENT_CLUSTER_ACT q == c)

/-- Writes shadow steering entries, the clusters in turn (R252). -/
def State.steerShadow (dst : List Nat) : List Nat → Nat → State → State
  | [], _, s => s
  | q :: qs, k, s =>
    State.steerShadow dst qs (k + 1) ((s.wr Reg.CLU_STEER_ENT_CLUSTER q (dst.getD (k % max 1 dst.length) 0)).wr Reg.CLU_STEER_ENT_VALID q 1)

/-- Exchanges shadow and active copy of a steering entry (R48, R252). -/
def State.steerSwap (s : State) (q : Nat) : State :=
  let sh := (s.rd Reg.CLU_STEER_ENT_CLUSTER q, s.rd Reg.CLU_STEER_ENT_VALID q)
  let ac := (s.rd Reg.CLU_STEER_ENT_CLUSTER_ACT q, s.rd Reg.CLU_STEER_ENT_VALID_ACT q)
  (((s.wr Reg.CLU_STEER_ENT_CLUSTER q ac.1).wr Reg.CLU_STEER_ENT_VALID q ac.2).wr Reg.CLU_STEER_ENT_CLUSTER_ACT q sh.1).wr
    Reg.CLU_STEER_ENT_VALID_ACT q sh.2

/-- A cluster takes over work (R405): it serves, with its service threads started. -/
def State.bringIn (s : State) (y : Nat) : State :=
  if s.rd Reg.CLU_STATUS_STATE y = 0 then
    ((s.setCluster y 1).setUnit (unitNo 0 y) 0).writeCluCtrl y (1 + 16 * s.rd Reg.CLU_CTRL_CORE_EN y)
  else s

/-- Returns what a service thread has bound, other than a placement, and starts the thread afresh (R254, R410 step 4). -/
def State.giveBack (s : State) (c i : Nat) : State :=
  match (s.thrOf c i).work with
  | none => s
  | some w => if w.kind = 1 then s else (((s.returnWork c i).haltThread c i).setPc c i 0).startThread c i

/-- Step 4 of a move. -/
def State.applyMove (s : State) (m : Move) : State :=
  let s1 := (m.dst.foldl State.bringIn s).putBit Reg.CLU_GLOBAL_IN_SERVICE m.src false
  let s2 := [0, 2, 4, 6].foldl (fun s i => s.giveBack m.src i) s1
  let items := (s2.cluOf m.src).work
  let s3 := items.foldl (fun s w => s.freeHub m.src w) (s2.setClu m.src { s2.cluOf m.src with work := [] })
  let s4 := items.foldl (fun s w => s.postWork ((s.steer w.qp).getD noCluster) { w with hub := none, outLen := none }) (s3.showClu m.src)
  m.pels.foldl (fun s x =>
    let pl := s.pelOf x.1
    if pl.st = .free ∨ pl.cluster ≠ m.src then s
    else
      let s' := if pl.op.any (fun (o : PelOp) => o.started) then s.endProgram x.1 else s
      (s'.setPel x.1 { s'.pelOf x.1 with cluster := x.2.1, codeAt := x.2.2 }).restartPel x.1) s4

/-- Step 4 of every move whose swap has come. -/
def State.applyMoves (s : State) : State :=
  let l := s.board.res.moves.filter (fun (m : Move) => !m.swapped)
  let s1 := s.modRes (fun (r : Res) => { r with moves := r.moves.map (fun (m : Move) => { m with swapped := true }) })
  (l.foldl State.applyMove s1).postHeld

/-- Arms the table swap. -/
def State.armSwap (s : State) (t : Nat) : State := ((s.disarm .swap).arm .swap t).wr Reg.CAD_SWAP_STATUS_ARMED 0 1

/-- Step 3 of the moves not swapped (R55, R410): with the armed swap if it lies no more than 10 ms ahead, after it if it lies
further, with one of Kilurn's own where none is armed; directly where none can be. -/
def State.settleMoves (s : State) : State :=
  let l := s.board.res.moves.filter (fun (m : Move) => !m.swapped)
  if l = [] then s
  else
    match s.armedAt .swap with
    | some t =>
      if s.on Reg.CAD_SWAP_MASK_STEER ∨ s.now + 10000000 < t then s else s.wr Reg.CAD_SWAP_MASK_STEER 0 1
    | none =>
      if s.synced then
        let t := s.now + s.rd Reg.CAD_MIN_LEAD_CT
        ((s.wr Reg.CAD_SWAP_MASK_STEER 0 1).wr Reg.CAD_SWAP_AT_COUNT 0 t).armSwap t
      else ((l.flatMap (fun (m : Move) => m.qps)).foldl State.steerSwap s).applyMoves

/-- Starts a move of cluster `c` to `dst` (R410 steps 1 and 2). -/
def State.startMove (s : State) (c : Nat) (dst : List Nat) (core : Bool) : State :=
  let s1 := (s.setCluster c 2).setUnit (unitNo 0 c) 2
  let r := State.copyPrograms c dst ((s1.pels.filter (fun e => e.2.st != .free && e.2.cluster == c)).map (fun e => e.1)) [] s1
  let qps := s.steeredTo c
  let s2 := State.steerShadow dst qps 0 r.1
  ((s2.modRes (fun (x : Res) => { x with moves := x.moves ++ [{ src := c, dst, core, pels := r.2, qps }] })).showSpares 0).settleMoves

/-- Does a draining cluster hold nothing more (R410 step 5)? -/
def State.drained (s : State) (c : Nat) : Bool :=
  let u := s.cluOf c
  u.work == [] && u.done == [] && u.hubUsed == [] && u.thr.all (fun t => t.2.work == none) && u.slots.all (fun x => !x.2.busy) &&
    !s.pels.any (fun e => e.2.st != .free && e.2.cluster == c)

/-- A cluster whose core or array failed, once fenced: it is a spare when no part of it is under test or failed, and stays
fenced with a part that failed (R406, R410). -/
def State.settleCluster (s : State) (c : Nat) : State :=
  let parts := (List.range 4).map (fun k => s.unitSt (unitNo 1 (4 * c + k))) ++ [s.unitSt (unitNo 3 c)]
  if s.rd Reg.CLU_STATUS_STATE c ≠ 3 ∨ s.underTest (unitNo 0 c) ∨ s.unitSt (unitNo 0 c) ≠ 2 ∨ parts.contains 2 then s
  else if parts.contains 3 then s.setUnit (unitNo 0 c) 3
  else ((s.zeroCluster c).setCluster c 0).setUnit (unitNo 0 c) 1

/-- Step 5 of a move. -/
def State.endMove (s : State) (m : Move) : State :=
  let c := m.src
  let s1 := (List.range 8).foldl (fun s i => s.haltThread c i) ((s.wr Reg.CLU_CTRL_SERVICE_EN c 0).modRes
    (fun (r : Res) => { r with moves := r.moves.filter (fun (x : Move) => x.src != c) }))
  let s2 := s1.setCluster c 3
  if m.core then s2.settleCluster c else s2.beginTest { unit := unitNo 0 c }

/-! Starting a test (R406, R407). -/

/-- The other clusters that serve. -/
def State.others (s : State) (c : Nat) : List Nat := (List.range 10).filter (fun y => y != c && s.rd Reg.CLU_STATUS_STATE y == 1)

/-- Moves the work of a cluster to a spare, or where none is free and `all` holds to the others that serve (R407, R410); a
cluster without another stays. `core` tells that a part of it failed, and not the cluster. -/
def State.moveCluster (s : State) (c : Nat) (core all : Bool) : State :=
  let dst := match s.takeSpare 0 with
    | some y => [y]
    | none => if all then s.others c else []
  let s1 := if (s.takeSpare 0).isNone then s.reviewClass 0 else s
  if dst = [] ∨ s.rd Reg.CLU_STATUS_STATE c ≠ 1 then s1 else s1.startMove c dst core

/-- The logical bank that a physical bank serves. -/
def State.logicalOf (s : State) (c b : Nat) : Option Nat := (List.range 16).find? (fun l => s.rd Reg.CLU_BANK_MAP_PHYS (ix c l) == b)

/-- Tests a bank (R407, R411): copied to the spare first, or where none is free tested in place. -/
def State.testBank (s : State) (c b : Nat) : State :=
  let u := unitNo 2 (17 * c + b)
  match s.logicalOf c b, (s.freeBank c).find? (fun x => !s.underTest (unitNo 2 (17 * c + x))) with
  | some l, some n =>
    ((s.setUnit u 2).modRes (fun (r : Res) => { r with copies := r.copies ++ [{ cluster := c, logical := l, old := b, new := n }] })).showSpares 1
  | some _, none => ((s.setUnit u 2).beginTest { unit := u, returns := true }).reviewClass 1
  | none, _ => s

/-- Gives the walks of a walker to another, which restarts them (R91, R406). -/
def State.moveWalks (s : State) (n : Nat) : State :=
  match (List.range 32).find? (fun k => bit (s.rd Reg.XLT_WALKER_IN_SERVICE) k) with
  | none => s
  | some low =>
    let k := (s.freeWalker).getD low
    s.setWalks (s.xlt.walks.map (fun w => if w.walker = some n then { w with walker := some k, restart := true } else w))

/-- Fences a walker or a cipher core, whose work a spare takes, or where none is free the units that serve (R406, R407). -/
def State.testUnit1 (s : State) (kind i : Nat) : State :=
  let u := unitNo kind i
  match s.takeSpare kind with
  | some k => ((s.setUnit u 2).setUnit (unitNo kind k) 0).beginTest { unit := u }
  | none =>
    match classOf kind with
    | some x => ((s.setUnit u 2).beginTest { unit := u, returns := true }).reviewClass x
    | none => s

/-- Fences and tests a unit in service (R405, R406): `addr` is the row of a GDDR7 device, or the row or 256 + the column of a
chainring array. -/
def State.testUnit (s : State) (u : Nat) (uncorr : Bool) (addr : Nat) : State :=
  let i := unitIx u
  if s.unitSt u ≠ 0 ∨ unitCount (unitKind u) ≤ i ∨ !s.on Reg.RES_CTRL_TEST_EN then s
  else
    match unitKind u with
    | 0 => s.moveCluster i false true
    | 1 => (((s.setUnit u 2).fenceCore (i / 4) (i % 4)).beginTest { unit := u }).moveCluster (i / 4) true false
    | 2 => s.testBank (i / 17) (i % 17)
    | 3 => (s.setUnit u 2).beginTest { unit := u, returns := true, addr }
    | 4 => if s.unitSt (unitNo 0 i) = 0 then s.moveCluster i false true else s
    | 5 => (s.testUnit1 5 i).moveWalks i
    | 6 => s.testUnit1 6 i
    | 7 => if s.rd Reg.MEM_DEV_STATE i = 0 then ((s.setUnit u 2).wr Reg.MEM_DEV_STATE i 4).beginTest { unit := u, returns := true, uncorr, addr } else s
    | 8 => (s.setUnit u 2).beginTest { unit := u }
    | 9 => (s.setUnit u 2).beginTest { unit := u }
    | 10 =>
      if s.wiresLeft.getD i 0 = 0 then s.reviewClass 9
      else (((s.setUnit u 2).modRes (fun (r : Res) => { r with wires := Tbl.set 0 i (Tbl.get 0 i r.wires + 1) r.wires })).showSpares 9).beginTest { unit := u }
    | _ => s

/-! GDDR7 devices (R416). -/

/-- Starts sparing a device, where a spare is free and no copy runs; else the device stays in service. -/
def State.startCopy (s : State) (d : Nat) : State :=
  if s.on Reg.MEM_COPY_ACTIVE ∨ 18 ≤ d ∨ (s.rd Reg.MEM_DEV_STATE d ≠ 0 ∧ s.rd Reg.MEM_DEV_STATE d ≠ 4) then s
  else
    match s.takeSpare 7 with
    | none => s.reviewClass 4
    | some y =>
      ((((((s.wr Reg.MEM_COPY_SRC 0 d).wr Reg.MEM_COPY_DST 0 y).wr Reg.MEM_COPY_ACTIVE 0 1).wr Reg.MEM_COPY_DONE_MIB 0 0).wr
        Reg.MEM_DEV_STATE d 2).wr Reg.MEM_DEV_STATE y 2).showSpares 4

/-- Does a device meet a standing condition of R416? -/
def State.wantsCopy (s : State) (d : Nat) : Bool :=
  s.rd Reg.MEM_DEV_STATE d == 0 && (decide (16 ≤ s.rd Reg.MEM_DEV_LASTING_ROWS d) || decide (s.rd Reg.MEM_CORR_LIMIT_LIMIT ≤ s.rd Reg.MEM_DEV_CORR_24H d))

/-- A row of a device has failed its test (R415, R416). -/
def State.lastingRow (s : State) (d addr : Nat) (uncorr : Bool) : State :=
  let s1 := s.count Reg.MEM_DEV_LASTING_ROWS d
  let s2 :=
    if !s1.on Reg.MEM_ERR_LOG0_VALID then
      ((((s1.wr Reg.MEM_ERR_LOG0_DEVICE 0 d).put Reg.MEM_ERR_LOG0_UNCORR 0 uncorr).wr Reg.MEM_ERR_LOG0_LASTING_ROW 0 1).wr
        Reg.MEM_ERR_LOG1_ADDR 0 addr).wr Reg.MEM_ERR_LOG0_VALID 0 1
    else if s1.rd Reg.MEM_ERR_LOG0_DEVICE = d ∧ s1.rd Reg.MEM_ERR_LOG1_ADDR = addr then s1.wr Reg.MEM_ERR_LOG0_LASTING_ROW 0 1
    else s1
  if 16 ≤ s2.rd Reg.MEM_DEV_LASTING_ROWS d ∨ uncorr then s2.startCopy d else s2

/-! The outcome of a test (R405, R406). -/

/-- A row, or 256 + a column, of an array is lastingly faulty (R277): the checksum row or column serves for it, unless one of
them already does. -/
def State.spareRow (s : State) (c addr : Nat) : State :=
  if s.on Reg.ARR_STATUS_ROW_SPARED c ∨ s.on Reg.ARR_STATUS_COL_SPARED c then
    (s.setUnit (unitNo 3 c) 3).moveCluster c true true
  else
    let s1 := if addr < 256 then (s.wr Reg.ARR_STATUS_ROW_SPARED c 1).wr Reg.ARR_STATUS_ROW_REPLACED c addr
      else (s.wr Reg.ARR_STATUS_COL_SPARED c 1).wr Reg.ARR_STATUS_COL_REPLACED c addr
    ((s1.setUnit (unitNo 3 c) 0).modRes (fun (r : Res) => { r with rowCols := Tbl.set 0 c (Tbl.get 0 c r.rowCols + 1) r.rowCols })).reviewClass 10

/-- A unit has passed. -/
def State.passUnit (s : State) (t : Test) : State :=
  let u := t.unit
  let i := unitIx u
  match unitKind u with
  | 0 => ((s.zeroCluster i).setCluster i 0).setUnit u 1
  | 1 => ((s.setUnit u 0).returnCore (i / 4) (i % 4)).settleCluster (i / 4)
  | 2 => if t.returns then s.setUnit u 0 else (s.wipeBank (i / 17) (i % 17)).setUnit u 1
  | 7 => (s.setUnit u 0).wr Reg.MEM_DEV_STATE i 0
  | 8 => s.setUnit u 1
  | 9 => s.setUnit u 1
  | 10 => ((s.setUnit u 0).modRes (fun (r : Res) => { r with wires := Tbl.set 0 i (Tbl.get 0 i r.wires - 1) r.wires })).showSpares 9
  | _ => s.setUnit u (if t.returns then 0 else 1)

/-- A lane that has failed its test (R218, R227): `l` is its number among the 72. -/
def State.fenceLane (s : State) (l : Nat) : State :=
  match [16, 17, 34, 35, 52, 53, 70, 71].idxOf? l with
  | some k => s.wr Reg.MAC_SPARE_CFG_STATE k 4
  | none => s.wr Reg.MAC_LANE_MAP_FENCED l 1

/-- A unit has failed, or counts as failed. -/
def State.failUnit (s : State) (t : Test) : State :=
  let u := t.unit
  let i := unitIx u
  match unitKind u with
  | 0 => (s.setUnit u 3).reviewClass 0
  | 1 => (s.setUnit u 3).settleCluster (i / 4)
  | 2 => (s.setUnit u (if t.returns then 0 else 3)).reviewClass 1
  | 3 => s.spareRow i t.addr
  | 5 => (s.setUnit u 3).reviewClass 2
  | 6 => (s.setUnit u 3).reviewClass 3
  | 7 => ((s.setUnit u 0).wr Reg.MEM_DEV_STATE i 0).lastingRow i t.addr t.uncorr
  | 8 => (s.setUnit u 3).fenceLane i
  | 9 => (s.setUnit u 3).fenceLane (36 + i)
  | 10 => (s.setUnit u 0).reviewClass 9
  | _ => s.setUnit u 3

/-- The passes of a unit within the window of RES_CTRL. -/
def State.passesIn (s : State) (u : Nat) : List Nat :=
  (Tbl.get [] u s.board.res.passes).filter (fun t => decide (s.now < t + 3600000000000 * max 1 (s.rd Reg.RES_CTRL_TRANSIENT_WINDOW_H)))

/-- The test of a unit ends (R405). -/
def State.testDone (s : State) (u : Nat) (pass : Bool) : State :=
  match s.board.res.tests.find? (fun (t : Test) => t.unit == u) with
  | none => s
  | some t =>
    let s1 := s.modRes (fun (r : Res) => { r with tests := dropFirst (fun (x : Test) => x.unit == u) r.tests })
    let l := if pass ∧ !t.slot then s1.passesIn u ++ [s.now] else s1.passesIn u
    let s2 := (s1.modRes (fun (r : Res) => { r with passes := Tbl.set [] u l r.passes })).wr Reg.RES_UNIT_STAT_PASSES u (min 15 l.length)
    if t.slot then
      (if pass then s1
       else
         let s3 := ((s1.setUnit u 3).count Reg.RES_LASTING_COUNT).fencedEvent u 2
         match classOf (unitKind u) with
         | some k => s3.reviewClass k
         | none => s3)
    else if pass ∧ l.length < max 1 (s.rd Reg.RES_CTRL_TRANSIENT_LIMIT) then ((s2.passUnit t).count Reg.RES_TRANSIENT_COUNT).fencedEvent u 1
    else ((s2.count Reg.RES_LASTING_COUNT).fencedEvent u 2).failUnit t

/-! Uncorrectable errors (R402). -/

/-- The lines that an uncorrectable error of a unit poisons. -/
def State.poisonAt (s : State) (u a : Nat) : State :=
  let i := unitIx u
  s.modRes (fun (r : Res) => match unitKind u with
    | 0 => if a < 2 ^ 19 then { r with storePoison := (8192 * i + a / 64) :: r.storePoison } else r
    | 1 => { r with localPoison := (256 * (8 * (i / 4) + 2 * (i % 4) + a / 16384 % 2) + a % 16384 / 64) :: r.localPoison }
    | 2 => { r with bankPoison := (2 ^ 17 * (i / 17) + 4096 * (i % 17) + a % bankBytes / 64) :: r.bankPoison }
    | 7 => { r with poison := (a / 64) :: r.poison }
    | _ => r)

/-- Poisons the line and tells the provider (R402). -/
def State.memoryError (s : State) (u a : Nat) : State := (s.poisonAt u a).event provider Code.memoryError 0 (evObj 7 u) a

/-- A GDDR7 error (R415, R416): counted and logged, and where uncorrectable handled under R402. `scrub` tells that the patrol
scrub found it. -/
def State.gddrError (s : State) (d a : Nat) (uncorr scrub : Bool) : State :=
  let s1 := if uncorr then s.count Reg.MEM_UNCORR_COUNT d else (s.count Reg.MEM_CORR_COUNT d).pmc 13 0x52 none
  let s2 := if s1.on Reg.MEM_ERR_LOG0_VALID then s1
    else (((((s1.wr Reg.MEM_ERR_LOG0_DEVICE 0 d).put Reg.MEM_ERR_LOG0_UNCORR 0 uncorr).wr Reg.MEM_ERR_LOG0_LASTING_ROW 0 0).put
      Reg.MEM_ERR_LOG0_SCRUB 0 scrub).wr Reg.MEM_ERR_LOG1_ADDR 0 a).wr Reg.MEM_ERR_LOG0_VALID 0 1
  let day := (Tbl.get [] d s2.board.res.corr).filter (fun t => decide (s2.now < t + 86400000000000))
  let l := if uncorr then day else day ++ [s2.now]
  let s3 := (s2.modRes (fun (r : Res) => { r with corr := Tbl.set [] d l r.corr })).wr Reg.MEM_DEV_CORR_24H d l.length
  let s4 := if uncorr then s3.memoryError (unitNo 7 d) a else s3
  let s5 := if s4.wantsCopy d then s4.startCopy d else s4
  s5.testUnit (unitNo 7 d) uncorr a

end Sys2Proof.Machine
end

