-- ==== Sys2Proof/Machine/CadOps.lean ====
section
/-! DEFINITION. The cadence unit (chapter 2): election and upstream (R32, R37, R40), states (R39 to R43, R480 to R482),
corrections (R42), cancellation of events (R43), and the table swap (R48). Offsets are in 1/512,000 ns. -/

namespace Sys2Proof.Machine

open Sys2Proof

/-! EST_ERR (R40, R482). -/

/-- EST_ERR now: in HOLDOVER and FAULT grown by 50 ps each ms. -/
def State.estNow (s : State) : Nat :=
  if s.rd Reg.CAD_STATUS_STATE = 3 ∨ s.rd Reg.CAD_STATUS_STATE = 4 then
    (if s.board.cad.errBase = 0xFFFF then 0xFFFF else min 65534 (s.board.cad.errBase + 50 * (s.now - s.board.cad.errAt) / 1000000))
  else s.rd Reg.CAD_STATUS_EST_ERR

/-- EST_ERR of a LOCKED module. -/
def State.estLocked (s : State) : Nat :=
  if s.on Reg.CAD_STATUS_ROOT then 0
  else min 65534 (s.board.cad.upErr + 600 * s.board.cad.upHop + (if s.board.cad.upRoot then 2000 else 0))

/-- Shows EST_ERR for the state the unit is in. -/
def State.showEst (s : State) : State :=
  let st := s.rd Reg.CAD_STATUS_STATE
  s.wr Reg.CAD_STATUS_EST_ERR 0 (if st < 2 then 0xFFFF else if st = 2 then s.estLocked else s.estNow)

/-! Messages (R34). -/

/-- The reference this module has: of those REF_SRC selects, the valid ones (1 PPS, 2 PTP, 3 both; R32). -/
def State.ownRef (s : State) : Nat :=
  (if bit (s.rd Reg.CAD_CTRL_REF_SRC) 0 && s.on Reg.CAD_STATUS_PPS_VALID then 1 else 0) +
    (if bit (s.rd Reg.CAD_CTRL_REF_SRC) 1 && s.on Reg.CAD_STATUS_PTP_VALID then 2 else 0)

/-- FLAGS of what this module sends. -/
def State.syncFlags (s : State) : Nat :=
  b2n (s.rd Reg.CAD_STATUS_STATE == 2) + 2 * b2n (s.rd Reg.CAD_STATUS_STATE == 3) + 4 * s.rd Reg.CAD_CTRL_ROOT_CAPABLE +
    8 * (if s.on Reg.CAD_STATUS_ROOT then s.ownRef else s.board.cad.ref)

/-- What every message of this module carries. -/
def State.syncBase (s : State) : SyncMsg :=
  { flags := s.syncFlags, sender := s.fwId.1, rootId := s.rd Reg.CAD_STATUS_ROOT_ID,
    rootPrio := if s.on Reg.CAD_STATUS_ROOT then s.rd Reg.CAD_CTRL_PRIO else s.board.cad.prio,
    hopEq := s.rd Reg.CAD_STATUS_HOP_EQ, estErr := s.estNow }

/-- Sends a message on a far port, or keeps it through a PAUSE (R214). -/
def State.sendSync (s : State) (lane type_ : Nat) (m : SyncMsg) : State :=
  if !s.portUp lane then s
  else if (s.farOf lane).pausedTo.any (fun e => e.1 == 16) then
    s.setFar lane { s.farOf lane with syncs := (s.farOf lane).syncs ++ [(type_, m)] }
  else s.emit (.sync lane type_ m)

/-- Is cadence sync enabled on the port of a lane? -/
def State.syncOn (s : State) (lane : Nat) : Bool := s.on Reg.CAD_CTRL_ENABLE && bit (s.rd Reg.CAD_CTRL_SYNC_EN) lane

/-! The election (R32). -/

/-- The order of references: both, PPS, PTP, none. -/
def refRank (r : Nat) : Nat := if r = 3 then 0 else if r = 1 then 1 else if r = 2 then 2 else 3

/-- The order of roots: reference, priority, module number. -/
def rootKey (ref prio id : Nat) : Nat := refRank ref * 2 ^ 24 + prio * 2 ^ 16 + id

def Heard.key (h : Heard) : Nat := rootKey h.ref h.prio h.root

/-- The candidate lanes of CAD_UPSTREAM_CFG, in order. -/
def State.candidates (s : State) : List Nat := (List.range 4).map (fun k => bits (s.rd Reg.CAD_UPSTREAM_CFG_CAND) (8 * k) 8)

/-- What was last heard on a lane. -/
def State.heardOn (s : State) (lane : Nat) : Option Heard := (s.board.cad.heard.find? (fun e => e.1 == lane)).map (fun e => e.2)

/-- The candidate to take as upstream for a root, other than `lost`: one that names it with a lower distance than `own`, and
among these one that is LOCKED where there is one (R37, R40). -/
def State.pickUpstream (s : State) (root own : Nat) (lost : Option Nat) : Option (Nat × Heard) :=
  let l := (s.candidates.filter (fun c => decide (c < 36) && some c != lost)).filterMap (fun c => (s.heardOn c).map (fun h => (c, h)))
  let ok := l.filter (fun x => x.2.root == root && decide (x.2.hopEq < own))
  match ok.find? (fun x => x.2.locked) with
  | some x => some x
  | none => ok.head?

/-- Takes an upstream, or none. -/
def State.setUpstream (s : State) (u : Option (Nat × Heard)) : State :=
  let s1 := s.modCad (fun (c : Cad) => { c with req := none, missed := 0, batch := [] })
  match u with
  | none => (s1.wr Reg.CAD_STATUS_UPSTREAM 0 0xFF).wr Reg.CAD_STATUS_HOP_EQ 0 0xFF
  | some (l, h) =>
    ((s1.wr Reg.CAD_STATUS_UPSTREAM 0 l).wr Reg.CAD_STATUS_HOP_EQ 0 (min 255 (h.hopEq + h.hop))).modCad
      (fun (c : Cad) => { c with ref := h.ref, prio := h.prio })

/-- Elects the root (R32): this module where it is capable and none better is heard, else the best heard; a new root brings a
new upstream. -/
def State.elect (s : State) : State :=
  let me := s.fwId.1
  let heard := (s.board.cad.heard.map (fun e => e.2)).filter (fun (h : Heard) => h.root != me)
  let best := heard.foldl (fun (b : Option Heard) h => match b with
    | none => some h
    | some x => if h.key < x.key then some h else some x) none
  let own := if s.on Reg.CAD_CTRL_ROOT_CAPABLE then some (rootKey s.ownRef (s.rd Reg.CAD_CTRL_PRIO) me) else none
  let mine : Bool := match own, best with
    | some k, some h => decide (k ≤ h.key)
    | some _, none => true
    | none, _ => false
  if !s.on Reg.CAD_CTRL_ENABLE then s
  else if mine then
    (((s.wr Reg.CAD_STATUS_ROOT 0 1).wr Reg.CAD_STATUS_ROOT_ID 0 me).wr Reg.CAD_STATUS_HOP_EQ 0 0).wr Reg.CAD_STATUS_UPSTREAM 0
      (if bit (s.rd Reg.CAD_CTRL_REF_SRC) 0 then 0xFE else 0xFF)
  else
    match best with
    | none => if s.on Reg.CAD_STATUS_ROOT then (s.wr Reg.CAD_STATUS_ROOT 0 0).setUpstream none else s
    | some h =>
      let up := s.rd Reg.CAD_STATUS_UPSTREAM
      let kept : Bool := !s.on Reg.CAD_STATUS_ROOT && s.rd Reg.CAD_STATUS_ROOT_ID == h.root && decide (up < 36) &&
        (s.heardOn up).any (fun x => x.root == h.root)
      let s1 := (s.wr Reg.CAD_STATUS_ROOT 0 0).wr Reg.CAD_STATUS_ROOT_ID 0 h.root
      if kept then s1 else s1.setUpstream (s.pickUpstream h.root 0xFF none)

/-! Cancelled events (R43). -/

/-- Cancels one armed event, with what its owner receives. -/
def State.cancelEv (s : State) (e : Ev) : State :=
  match e.kind with
  | .swap => ((s.disarm .swap).wr Reg.CAD_SWAP_STATUS_ARMED 0 0).wr Reg.CAD_SWAP_STATUS_CANCELLED 0 1
  | .freeze t => s.freezeCancel t
  | .launch p serial =>
    let s1 := s.disarm e.kind
    let pl := s1.pelOf p
    match (pl.op.toList ++ pl.waitOps).find? (fun (o : PelOp) => o.serial == serial && !o.started) with
    | none => s1
    | some o =>
      let s2 := s1.setPel p { pl with op := pl.op.filter (fun (x : PelOp) => x.serial != serial), waitOps := pl.waitOps.filter (fun (x : PelOp) => x.serial != serial) }
      (s2.pelOpDone p o Code.cadenceStep 0 0).pelLeave p Code.cadenceStep
  | .deadline p r => (s.disarm e.kind).stall p 0 r e.at_ ((s.pendingSlots p r).filterMap (s.pelOf p).slotMember).eraseDups
  | .cwait c i =>
    let s1 := s.disarm e.kind
    match (s1.thrOf c i).wait with
    | .cadence _ d => s1.cwaitEnd c i d 2
    | _ => s1
  | _ => s.disarm e.kind

/-- Cancels every armed event; the gate list stops, and a dump schedule has a gap (R43, R202, R453). -/
def State.cancelEvents (s : State) : State :=
  let s1 := s.armed.foldl State.cancelEv s
  let s2 := if s1.gateReady then
      { (s1.keepGate.wr Reg.TRN_GATE_STATUS_CANCELLED 0 1) with traffic := { s1.keepGate.traffic with gateStopped := true } }
    else s1
  if s2.on Reg.PMC_DUMP_CFG_DUMP_EN then (s2.wr Reg.PMC_DUMP_STATUS_GAP 0 1).modPmc (fun (p : Pmc) => { p with gap := true }) else s2

/-! States (R39). -/

/-- Moves the unit to a state. What needs LOCKED or HOLDOVER follows: the gates, and the moves of clusters that wait for a
swap. -/
def State.setCad (s : State) (v : Nat) : State :=
  if s.rd Reg.CAD_STATUS_STATE = v then s.showEst
  else
    let base := s.estNow
    let s1 := (s.keepGate.wr Reg.CAD_STATUS_STATE 0 v).wr Reg.CAD_EVT_STATUS_STATE_CHANGE 0 1
    let s2 := s1.modCad (fun (c : Cad) => { c with good := 0, errBase := base, errAt := s1.now })
    (s2.showEst.showGate).settleMoves

/-- FREE or ACQUIRE: every armed event is cancelled first (R43). -/
def State.leaveSync (s : State) (v : Nat) : State := s.cancelEvents.setCad v

/-- FAULT (R39, R41). -/
def State.enterFault (s : State) : State :=
  let s1 := (s.setCad 4).wr Reg.CAD_EVT_STATUS_FAULT 0 1
  let s2 := s1.pels.foldl (fun s e => s.stall e.1 1 0 s.now [(s.pelOf e.1).me]) s1
  s2.logReport (unitNo 13 1) 7 true false

/-! Corrections (R42). -/

/-- 2 ns, and a number of ct, in 1/512,000 ns. -/
def twoNs : Int := 1024000
def ctUnits (n : Nat) : Int := 512000 * (n : Int)

/-- Slews a correction, which replaces what is left of an earlier one. -/
def State.slewBy (s : State) (off : Int) : State := s.modCad (fun (c : Cad) => { c with slew := -off })

/-- A comparison in ACQUIRE: a step of the whole ct of a larger offset, with the rest slewed; 8 small ones in a row, or one
for a root that tracks a reference, lock. -/
def State.acquire (s : State) (off : Int) (tracks : Bool) : State :=
  if off.natAbs ≤ twoNs.natAbs then
    let n := s.board.cad.good + 1
    let s1 := (s.slewBy off).modCad (fun (c : Cad) => { c with good := n })
    if 8 ≤ n ∨ tracks then s1.setCad 2 else s1
  else
    let whole := Int.tdiv off 512000
    let s1 := if 0 < whole then s.cancelEvents else s
    let s2 := (s1.jump (wrap 64 ((s1.now : Int) - whole))).wr Reg.CAD_EVT_STATUS_STEP_TAKEN 0 1
    (s2.slewBy (off - whole * 512000)).modCad (fun (c : Cad) => { c with good := 0 })

/-- A valid exchange, or a comparison with a reference (R39, R42, R480). -/
def State.compare (s : State) (off : Int) (tracks : Bool) : State :=
  let st := s.rd Reg.CAD_STATUS_STATE
  if st = 0 ∨ (st = 4 ∧ !s.board.cad.healthy) then s
  else if st = 1 then s.acquire off tracks
  else if off.natAbs ≤ (ctUnits (s.rd Reg.CAD_STEP_THRESH_CT)).natAbs then (s.slewBy off).setCad 2
  else (s.leaveSync 1).acquire off tracks

/-! The table swap (R48). -/

/-- Exchanges two fields in the instances that either lists. -/
def State.swapFld (s : State) (a b : Fld) : State :=
  (s.listed a ++ s.listed b).dedup.foldl (fun s i =>
    let x := s.rd a i
    (s.wr a i (s.rd b i)).wr b i x) s

/-- Exchanges the forwarding tables and multicast trees. -/
def State.swapFwd (s : State) : State :=
  [(Reg.FWP_FWD_ENT_PORTS, Reg.FWP_FWD_ENT_PORTS_ACT), (Reg.FWP_FWD_ENT_COUNT, Reg.FWP_FWD_ENT_COUNT_ACT),
   (Reg.FWP_FWD_ENT_VALID, Reg.FWP_FWD_ENT_VALID_ACT), (Reg.FWP_MC_CFG_VALID, Reg.FWP_MC_CFG_VALID_ACT),
   (Reg.FWP_MC_CFG_LOCAL, Reg.FWP_MC_CFG_LOCAL_ACT), (Reg.FWP_MC_CFG_LOCAL_MEMBER, Reg.FWP_MC_CFG_LOCAL_MEMBER_ACT),
   (Reg.FWP_MC_CFG_BRANCHES, Reg.FWP_MC_CFG_BRANCHES_ACT), (Reg.FWP_MC_BR_PORT, Reg.FWP_MC_BR_PORT_ACT),
   (Reg.FWP_MC_MEMB_MASK, Reg.FWP_MC_MEMB_MASK_ACT), (Reg.FWP_MC_FENCED_MASK, Reg.FWP_MC_FENCED_MASK_ACT)].foldl
    (fun s x => s.swapFld x.1 x.2) s

/-- What a swap of the trees brings (R225): pelotons hear of the members newly fenced, and multicast queue pairs judge what
they have outstanding. -/
def State.afterFwd (s : State) (old : State) : State :=
  let s1 := s.pels.foldl (fun s e =>
    match e.2.tree with
    | none => s
    | some t =>
      let new := (List.range 64).filter (fun m => bit (s.rd Reg.FWP_MC_FENCED_MASK_ACT t) m && !bit (old.rd Reg.FWP_MC_FENCED_MASK_ACT t) m)
      new.foldl (fun s m => s.memberFenced e.1 m) s) s
  (s1.conns.foldl (fun s e => if e.2.mcast.isSome then s.dropFenced e.1 else s) s1).pumpAll

/-- Exchanges the gate lists; the new one runs (R200, R202). -/
def State.swapGate (s : State) : State :=
  let t := s.traffic
  let sh := (s.rd Reg.TRN_GATE_BASE_COUNT, s.rd Reg.TRN_GATE_CYCLE_CYCLE_CT, s.rd Reg.TRN_GATE_CYCLE_LEN)
  let s1 := (((s.wr Reg.TRN_GATE_BASE_COUNT 0 t.gateBase).wr Reg.TRN_GATE_CYCLE_CYCLE_CT 0 t.gateCycle).wr Reg.TRN_GATE_CYCLE_LEN 0 t.gateLen)
  let s2 := (List.range 64).foldl (fun s i =>
    let new := s.rd Reg.TRN_GCL_OPEN i + 2 ^ 32 * s.rd Reg.TRN_GCL_DURATION_CT i
    let old := s.rd Reg.TRN_GCL_ACT i
    ((s.wr Reg.TRN_GCL_ACT i new).wr Reg.TRN_GCL_OPEN i old).wr Reg.TRN_GCL_DURATION_CT i (old / 2 ^ 32)) s1
  { s2 with traffic := { s2.traffic with gateBase := sh.1, gateCycle := sh.2.1, gateLen := sh.2.2, gateStopped := false } }

/-- Exchanges the shapers. -/
def State.swapShapers (s : State) : State :=
  let q := s.listedIn [Reg.TRN_QSHP_CFG_RATE, Reg.TRN_QSHP_CFG_BURST, Reg.TRN_QSHP_CFG_EN, Reg.TRN_QSHP_BIND_QP, Reg.TRN_QSHP_BIND_BOUND,
    Reg.TRN_QSHP_ACT_CFG] (s.traffic.qbind.map Prod.fst)
  let s1 := q.foldl State.qshpSwap s
  (s1.listedIn [Reg.TRN_TSHP_CFG, Reg.TRN_TSHP_BIND_TENANT, Reg.TRN_TSHP_BIND_BOUND, Reg.TRN_TSHP_BIND_TC_MASK, Reg.TRN_TSHP_ACT_CFG]
    (s1.traffic.tbind.map Prod.fst)).foldl State.tshpSwap s1

/-- Exchanges the meters. -/
def State.swapMeters (s : State) : State :=
  (s.listedIn [Reg.TRN_MTR_CFG0_CIR, Reg.TRN_MTR_CFG0_PIR, Reg.TRN_MTR_CFG0_EN, Reg.TRN_MTR_CFG1_CBS, Reg.TRN_MTR_CFG1_PBS,
    Reg.TRN_MTR_CFG1_YEL_THRESH_KIB, Reg.TRN_MTR_BIND_TENANT, Reg.TRN_MTR_BIND_BOUND, Reg.TRN_MTR_BIND_TC_MASK]
    (s.traffic.meters.map Prod.fst)).foldl State.mtrSwap s

/-- Exchanges the steering tables, with the moves that wait for it (R252, R410). -/
def State.swapSteer (s : State) : State :=
  (((s.listedIn [Reg.CLU_STEER_ENT_CLUSTER, Reg.CLU_STEER_ENT_VALID, Reg.CLU_STEER_ENT_CLUSTER_ACT, Reg.CLU_STEER_ENT_VALID_ACT] []).foldl
    State.steerSwap s).applyMoves).postHeld

/-- Runs an operation where a bit is set. -/
def State.when_ (s : State) (b : Bool) (f : State → State) : State := if b then f s else s

/-- The exchange of every table CAD_SWAP_MASK selects. -/
def State.swapTables (s : State) : State :=
  let s0 := s.keepGate
  let s1 := s0.when_ (s.on Reg.CAD_SWAP_MASK_FWD) State.swapFwd
  let s2 := s1.when_ (s.on Reg.CAD_SWAP_MASK_GATE) State.swapGate
  let s3 := s2.when_ (s.on Reg.CAD_SWAP_MASK_SHAPER) State.swapShapers
  let s4 := s3.when_ (s.on Reg.CAD_SWAP_MASK_METER) State.swapMeters
  let s5 := s4.when_ (s.on Reg.CAD_SWAP_MASK_GROUPHASH) (fun t => t.swapFld Reg.MAC_GHASH_BITS Reg.MAC_GHASH_ACT_BITS)
  let s6 := s5.when_ (s.on Reg.CAD_SWAP_MASK_STEER) State.swapSteer
  let s7 := s6.when_ (s.on Reg.CAD_SWAP_MASK_FWD) (fun t => t.afterFwd s)
  s7.showGate

end Sys2Proof.Machine
end

