-- ==== Sys2Proof/Machine/Cadence.lean ====
section
/-! DEFINITION. The commands of the cadence unit (chapter 2). -/

namespace Sys2Proof.Machine

open Sys2Proof

/-! Registers (R29, R39, R45, R55). -/

/-- Applies a register write that waited for the end of an interval (R55): field key, instance, value. -/
def State.applyDeferred (s : State) : State :=
  let l := s.board.cad.deferred
  let fs := [Reg.CAD_CTRL_ROOT_CAPABLE, Reg.CAD_CTRL_REF_SRC, Reg.CAD_CTRL_PPS_OUT_EN, Reg.CAD_CTRL_PRIO, Reg.CAD_CTRL_SYNC_EN,
    Reg.CAD_UPSTREAM_CFG_CAND, Reg.CAD_SYNC_INTERVAL_CT, Reg.CAD_SYNC_INTERVAL_ETYPE, Reg.CAD_PORT_ASYM_PS]
  l.foldl (fun s x => match fs.find? (fun f => f.key == x.1) with
    | some f => s.wr f x.2.1 x.2.2
    | none => s) (s.modCad (fun (c : Cad) => { c with deferred := [] }))

/-- Writes a field of CAD_CTRL, CAD_UPSTREAM_CFG, CAD_PORT_ASYM or CAD_SYNC_INTERVAL: at once while ENABLE is 0, else at the end
of the interval (R55). -/
def State.deferWrite (s : State) (f : Fld) (i v : Nat) : State :=
  if s.on Reg.CAD_CTRL_ENABLE then s.modCad (fun (c : Cad) => { c with deferred := c.deferred ++ [(f.key, i, v % 2 ^ f.w)] }) else s.wr f i v

/-- Writes CAD_CTRL (R39, R55): ENABLE takes effect at once. -/
def State.writeCadCtrl (s : State) (v : Nat) : State :=
  let was := s.on Reg.CAD_CTRL_ENABLE
  let s1 := if was ∧ !bit v 0 then s.applyDeferred.wr Reg.CAD_CTRL_ENABLE 0 0 else s
  let s2 := ((((s1.deferWrite Reg.CAD_CTRL_ROOT_CAPABLE 0 (v / 2)).deferWrite Reg.CAD_CTRL_REF_SRC 0 (v / 2 ^ 2)).deferWrite
    Reg.CAD_CTRL_PPS_OUT_EN 0 (v / 2 ^ 4)).deferWrite Reg.CAD_CTRL_PRIO 0 (v / 2 ^ 8)).deferWrite Reg.CAD_CTRL_SYNC_EN 0 (v / 2 ^ 16)
  if was ∧ !bit v 0 then
    (((((s2.cancelEvents.setCad 0).wr Reg.CAD_STATUS_ROOT 0 0).wr Reg.CAD_STATUS_ROOT_ID 0 0).setUpstream none).modCad
      (fun (c : Cad) => { c with heard := [], slew := 0, ref := 0, prio := 0 }))
  else if !was ∧ bit v 0 then
    let s3 := (((s2.wr Reg.CAD_CTRL_ENABLE 0 1).modCad (fun (c : Cad) => { c with interval := 0, missed := 0, answered := false, good := 0 })).setMark 4
      s2.now).elect
    if s3.on Reg.CAD_STATUS_ROOT then s3.setCad 1 else s3
  else s2

/-- CAD_ENABLE_WRITE (R39, R55). -/
def execCadEnableWrite (v : Nat) (s : State) : Result := .next (s.writeCadCtrl v)

/-- CAD_LOAD_GO (R29, R39): ignored in LOCKED, HOLDOVER and FAULT. -/
def State.cadLoad (s : State) : State :=
  if 1 < s.rd Reg.CAD_STATUS_STATE then s
  else
    let s1 := s.jump (s.rd Reg.CAD_LOAD_COUNT)
    if s.rd Reg.CAD_STATUS_STATE = 0 ∧ s.on Reg.CAD_CTRL_ENABLE then s1.setCad 1 else s1

def execCadLoadGo (s : State) : Result := .next s.cadLoad

/-- CAD_SWAP_AT (R45, R48): arms or replaces the swap; where R45 refuses, what was armed stays. -/
def State.writeSwapAt (s : State) (t : Nat) : State :=
  let s1 := s.wr Reg.CAD_SWAP_AT_COUNT 0 t
  if s.mayArm (t % 2 ^ 64) then s1.armSwap (t % 2 ^ 64) else s1

/-- CAD_SWAP_AT_WRITE. -/
def execCadSwapAtWrite (t : Nat) (s : State) : Result := .next (s.writeSwapAt t)

/-- TABLE_SWAP (R44, R46 to R48). -/
def execTableSwap (s : State) : Result :=
  let r := s.fire .swap
  .next (if r.2.1 then
    let s1 := ((r.1.wr Reg.CAD_SWAP_STATUS_ARMED 0 0).wr Reg.CAD_SWAP_STATUS_DONE 0 1).when_ r.2.2 (fun t => t.wr Reg.CAD_SWAP_STATUS_LATE 0 1)
    s1.swapTables.settleMoves
  else if s.resting ∧ s.armed ≠ r.1.armed then r.1.wr Reg.CAD_SWAP_STATUS_ARMED 0 0
  else r.1)

/-! Intervals (R35, R55, R481). -/

/-- The length of a sync interval. -/
def State.syncCt (s : State) : Nat := max 4096 (s.rd Reg.CAD_SYNC_INTERVAL_CT)

/-- May the count move on to `t`: no armed event comes first? -/
def State.mayReach (s : State) (t : Nat) : Bool := s.armed.all (fun e => decide (t ≤ e.at_))

/-- What is left of a correction after `ct` cycles of slewing at 500 ppm (R42). -/
def slewLeft (v : Int) (ct : Nat) : Int :=
  let d : Int := 256 * (ct : Int)
  if v.natAbs ≤ d.natAbs then 0 else if 0 < v then v - d else v + d

/-- A root without a reference locks at the end of an interval (R39, R481). -/
def State.freeRoot (s : State) : State :=
  if s.on Reg.CAD_STATUS_ROOT ∧ s.rd Reg.CAD_CTRL_REF_SRC = 0 ∧
      (s.rd Reg.CAD_STATUS_STATE = 1 ∨ (s.rd Reg.CAD_STATUS_STATE = 4 ∧ s.board.cad.healthy)) then s.setCad 2
  else s

/-- SYNC_REQ to the upstream: SEQ is the requester's choice, and the fraction of T1 is not this model's to say: free values (log
entry 1). -/
def State.askUpstream (s : State) : State :=
  let up := s.rd Reg.CAD_STATUS_UPSTREAM
  if 36 ≤ up then s
  else
    let seq := s.freeAt 0 32
    let f := s.freeAt 1 8
    let s1 := s.bumpN 2
    (s1.modCad (fun (c : Cad) => { c with req := some (seq, s.now, f) })).sendSync up 1 { s1.syncBase with seq, t1 := s.now, t1f := f }

/-- ANNOUNCE on every port with cadence sync enabled. -/
def State.announceAll (s : State) : State :=
  (List.range 36).foldl (fun s l => if s.syncOn l then s.sendSync l 3 s.syncBase else s) s

/-- SYNC_INTERVAL_END (R35): the interval's missing answer is noted, the correction goes on, and messages are sent; register
writes that waited take effect last (R55). -/
def execSyncIntervalEnd (s : State) : Result :=
  let t := s.markOf 4 + s.syncCt
  .next (if !s.on Reg.CAD_CTRL_ENABLE ∨ !s.mayReach t then s
  else
    let s1 := (s.reach t).setMark 4 t
    let c := s1.board.cad
    let missed := if s1.rd Reg.CAD_STATUS_UPSTREAM < 36 then (if c.answered then 0 else c.missed + 1) else 0
    let s2 := s1.modCad (fun (c : Cad) => { c with interval := c.interval + 1, missed, answered := false, slew := slewLeft c.slew s.syncCt })
    let s3 := s2.freeRoot.askUpstream
    let s4 := if s3.board.cad.interval % 8 = 0 then s3.announceAll else s3
    s4.applyDeferred.elect.showEst)

/-- UPSTREAM_LOST (R37): after three intervals without an answer the next candidate is taken, without a step. -/
def execUpstreamLost (s : State) : Result :=
  let up := s.rd Reg.CAD_STATUS_UPSTREAM
  .next (if !s.on Reg.CAD_CTRL_ENABLE ∨ 36 ≤ up ∨ s.board.cad.missed < 3 then s
  else
    let s1 := (s.wr Reg.CAD_EVT_STATUS_UPSTREAM_LOST 0 1).when_ (s.rd Reg.CAD_STATUS_STATE == 2) (fun t => t.setCad 3)
    let s2 := s1.modCad (fun (c : Cad) => { c with heard := c.heard.filter (fun e => e.1 != up) })
    s2.setUpstream (s2.pickUpstream (s2.rd Reg.CAD_STATUS_ROOT_ID) (s2.rd Reg.CAD_STATUS_HOP_EQ) (some up)))

/-! Messages (R34 to R36). -/

/-- Counts a message with a bad CRC. -/
def State.badSync (s : State) : State := (s.count Reg.CAD_SYNC_DISCARD_CRC).wr Reg.CAD_EVT_STATUS_SYNC_CRC_ERR 0 1

/-- A received SYNC_REQ. -/
def State.rxSyncReq (s : State) (lane : Nat) (m : SyncMsg) (f2 wait f3 : Nat) : State :=
  if !m.crcOk then s.badSync
  else if !s.syncOn lane then s
  else s.sendSync lane 2 { s.syncBase with seq := m.seq, t1 := m.t1, t1f := m.t1f, t2 := s.now, t2f := f2 % 256, t3 := s.now + wait, t3f := f3 % 256 }

/-- SYNC_REQ. -/
def execSyncReq (lane : Nat) (m : SyncMsg) (f2 wait f3 : Nat) (s : State) : Result := .next (s.rxSyncReq lane m f2 wait f3)

/-- A count with its fraction, in 1/256 ns. -/
def stamp (t f : Nat) : Int := 256 * (t : Int) + ((f % 256 : Nat) : Int)

/-- The difference of two stamps, the shorter way round the counter. -/
def stampDiff (a b : Int) : Int := sext 72 (wrap 72 (a - b))

/-- The offset of an exchange, and its delay doubled (R36). -/
def exchangeOf (m : SyncMsg) (t4 f4 asym : Nat) : Int × Int :=
  let t1 := stamp m.t1 m.t1f
  let t2 := stamp m.t2 m.t2f
  let t3 := stamp m.t3 m.t3f
  let t4' := stamp t4 f4
  ((stampDiff t1 t2 + stampDiff t4' t3) * 1000 + sext 32 asym * 256, stampDiff t4' t1 - stampDiff t3 t2)

/-- A received SYNC_RESP. -/
def State.rxSyncResp (s : State) (lane : Nat) (m : SyncMsg) (f4 hops : Nat) (switched : Bool) : State :=
  if !m.crcOk then s.badSync
  else if !s.syncOn lane then s
  else if s.board.cad.req.all (fun r => r.1 != m.seq) ∨ lane ≠ s.rd Reg.CAD_STATUS_UPSTREAM then s.count Reg.CAD_SYNC_DISCARD_SEQ
  else
    let x := exchangeOf m s.now f4 (s.rd Reg.CAD_PORT_ASYM_PS lane)
    let s1 := (s.modCad (fun (c : Cad) => { c with
      req := none, answered := true, missed := 0, upErr := m.estErr, upHop := hops, upRoot := m.hopEq == 0 })).wr Reg.CAD_STATUS_HOP_EQ 0
        (min 255 (m.hopEq + hops))
    let l := s1.board.cad.batch ++ [(x.2, x.1)]
    if !switched then (s1.compare x.1 false).showEst
    else if l.length < 16 then s1.modCad (fun (c : Cad) => { c with batch := l })
    else
      let best := l.foldl (fun (b : Int × Int) y => if y.1 < b.1 then y else b) (x.2, x.1)
      ((s1.modCad (fun (c : Cad) => { c with batch := [] })).compare best.2 false).showEst

/-- SYNC_RESP. -/
def execSyncResp (lane : Nat) (m : SyncMsg) (f4 hops : Nat) (switched : Bool) (s : State) : Result := .next (s.rxSyncResp lane m f4 hops switched)

/-- A received ANNOUNCE (R32, R39). -/
def State.rxAnnounce (s : State) (lane : Nat) (m : SyncMsg) (hops : Nat) : State :=
  if !m.crcOk then s.badSync
  else if !s.syncOn lane then s
  else
    let h : Heard := { root := m.rootId, ref := bits m.flags 3 2, prio := m.rootPrio, hopEq := m.hopEq, locked := bit m.flags 0, hop := hops }
    let s1 := (s.modCad (fun (c : Cad) => { c with heard := Tbl.put lane h c.heard })).elect
    let up := s1.rd Reg.CAD_STATUS_UPSTREAM
    let s2 := if s1.on Reg.CAD_STATUS_ROOT ∨ up < 36 then s1
      else s1.setUpstream (s1.pickUpstream (s1.rd Reg.CAD_STATUS_ROOT_ID) (s1.rd Reg.CAD_STATUS_HOP_EQ) none)
    let s3 := if s2.rd Reg.CAD_STATUS_UPSTREAM = lane then s2.modCad (fun (c : Cad) => { c with ref := h.ref, prio := h.prio }) else s2
    if s3.rd Reg.CAD_STATUS_STATE = 0 then s3.setCad 1 else s3

/-- ANNOUNCE. -/
def execAnnounce (lane : Nat) (m : SyncMsg) (hops : Nat) (s : State) : Result := .next (s.rxAnnounce lane m hops)

/-- RX_CADENCE_PACKET (R34, R164): a message through a switch, taken aside after step 1. -/
def execRxCadencePacket (p : Pkt) (r : Rx) (lane ty hops : Nat) (m : SyncMsg) (f2 wait f3 : Nat) (s : State) : Result :=
  let s1 := s.count Reg.TRN_RX_PKTS_COUNT
  .next (if !s.on Reg.TRN_CTRL_ENABLE || !s.localIp r.ip || r.dport != s.rd Reg.TRN_UDP_DPORT || !r.csumOk || p.ver != 1 || p.dstMod != s.rd Reg.TRN_MODULE_ID then s1.count Reg.TRN_BAD_HDR_COUNT
  else if ty = 1 then s1.rxSyncReq lane m f2 wait f3
  else if ty = 2 then s1.rxSyncResp lane m f2 hops true
  else if ty = 3 then s1.rxAnnounce lane m hops
  else s1)

/-! References (R38, R39, R481). -/

/-- A root compares its count with a reference. -/
def State.track (s : State) (off : Int) : State :=
  if s.on Reg.CAD_STATUS_ROOT ∧ s.on Reg.CAD_CTRL_ENABLE then (s.compare off true).showEst else s

/-- The offset from the nearest whole second, or from the second PTP gives. -/
def State.ppsOffset (s : State) (frac sec : Nat) : Int :=
  let now := stamp s.now frac
  let near := ((s.now + 500000000) / 1000000000) * 1000000000
  let ref := if s.ownRef = 3 then sec * 1000000000 else near
  stampDiff now (stamp (ref % 2 ^ 64) 0) * 2000

/-- PPS_EDGE (R38). -/
def execPpsEdge (frac sec : Nat) (s : State) : Result :=
  let s1 := ((s.wr Reg.CAD_PPS_IN_STAMP_COUNT 0 s.now).wr Reg.CAD_STATUS_PPS_VALID 0 1).modCad (fun (c : Cad) => { c with ptpSec := sec })
  .next (if !bit (s.rd Reg.CAD_CTRL_REF_SRC) 0 ∨ !s.on Reg.CAD_CTRL_ENABLE then s1
  else
    let s2 := s1.elect
    let s3 := if s2.rd Reg.CAD_STATUS_STATE = 0 then s2.setCad 1 else s2
    s3.track (s3.ppsOffset frac sec))

/-- PTP_MESSAGE (R38, R472): whether the boundary clock is locked, and its time, which a root that takes its reference from PTP
alone compares with its count. -/
def execPtpMessage (valid : Bool) (time frac : Nat) (s : State) : Result :=
  let s1 := (s.put Reg.CAD_STATUS_PTP_VALID 0 valid).modCad (fun (c : Cad) => { c with ptpSec := time / 1000000000 })
  .next (if !bit (s.rd Reg.CAD_CTRL_REF_SRC) 1 ∨ !s.on Reg.CAD_CTRL_ENABLE ∨ !valid then s1
  else
    let s2 := s1.elect
    if s2.ownRef = 2 then s2.track (stampDiff (stamp s2.now 0) (stamp (time % 2 ^ 64) frac) * 2000) else s2)

/-- PPS_OUT_PULSE (R38): at the next whole multiple of the period, no earlier than any armed event. -/
def execPpsOutPulse (s : State) : Result :=
  let p := max 1000 (s.rd Reg.CAD_PPS_OUT_PERIOD_CT)
  let t := max ((s.now + p - 1) / p * p) ((s.board.cad.pulse.map (nextMultiple p)).getD 0)
  .next (if !s.on Reg.CAD_CTRL_PPS_OUT_EN ∨ s.board.pwr.off ∨ !s.mayReach t then s
  else ((s.reach t).modCad (fun (c : Cad) => { c with pulse := some t })).emit (.pps t))

/-- REFERENCE_LOST (R39): a root that has no reference left holds over. -/
def execReferenceLost (which : Nat) (s : State) : Result :=
  let s1 := if which = 1 then s.wr Reg.CAD_STATUS_PPS_VALID 0 0 else if which = 2 then s.wr Reg.CAD_STATUS_PTP_VALID 0 0 else s
  .next (if s1.on Reg.CAD_STATUS_ROOT ∧ s1.rd Reg.CAD_CTRL_REF_SRC ≠ 0 ∧ s1.ownRef = 0 ∧ s1.rd Reg.CAD_STATUS_STATE = 2 then (s1.setCad 3).elect
  else s1.elect)

/-- HOLDOVER_ERROR_LIMIT (R39, R40): the count at which EST_ERR passes CAD_HOLD_ERR has come. -/
def execHoldoverErrorLimit (s : State) : Result :=
  let d := (s.rd Reg.CAD_HOLD_ERR_PS + 1 - s.board.cad.errBase) * 20000
  let t := s.board.cad.errAt + d
  .next (if s.rd Reg.CAD_STATUS_STATE ≠ 3 ∨ 65534 ≤ s.rd Reg.CAD_HOLD_ERR_PS ∨ !s.mayReach t then s else (s.reach t).enterFault)

/-- CADENCE_CLOCK_FAULT (R39, R480). -/
def execCadenceClockFault (s : State) : Result :=
  .next (if s.rd Reg.CAD_STATUS_STATE = 0 then s
  else
    let s1 := s.modCad (fun (c : Cad) => { c with healthy := false })
    if s.rd Reg.CAD_STATUS_STATE = 4 then s1 else s1.enterFault)

/-- CADENCE_CLOCK_HEALTHY (R480). -/
def execCadenceClockHealthy (s : State) : Result := .next (s.modCad (fun (c : Cad) => { c with healthy := true }))

end Sys2Proof.Machine
end

