-- ==== Sys2Proof/Machine/Counters.lean ====
section
/-! DEFINITION. The counter unit: clearing (R448), dumps and their records (R450, R453 to R455). -/

namespace Sys2Proof.Machine

open Sys2Proof

/-- Puts every instance of a field back to its reset value. -/
def State.clearField (s : State) (f : Fld) : State := { s with regs := Tbl.del f.key s.regs }

/-- Zeroes every counter and OVF (R448). -/
def State.clearCounters (s : State) : State :=
  [Reg.PMC_CNT_VAL_VALUE, Reg.PMC_CNT_VAL_OVF, Reg.PMC_CORE_SLOT_VALUE, Reg.PMC_CORE_SLOT_OVF, Reg.PMC_TRN_SLOT_VALUE,
    Reg.PMC_TRN_SLOT_OVF].foldl State.clearField s

/-- PMC_CLEAR_ALL (R448). -/
def execPmcClearAll (s : State) : Result := .next s.clearCounters

/-- A write of PMC_DUMP_CFG (R453, R454): DUMP_EN is set only where the ring lies inside one extent of the provider; SEQ then
starts at 0. -/
def State.dumpCfg (s : State) (v : Nat) : State :=
  let s1 := (s.wr Reg.PMC_DUMP_CFG_PERIOD_CT 0 v).wr Reg.PMC_DUMP_CFG_CLEAR_ON_DUMP 0 (v / 2 ^ 41)
  if !bit v 40 then s1.wr Reg.PMC_DUMP_CFG_DUMP_EN 0 0
  else if !s1.dumpDest then (s1.wr Reg.PMC_DUMP_STATUS_BAD_DEST 0 1).wr Reg.PMC_DUMP_CFG_DUMP_EN 0 0
  else if s1.on Reg.PMC_DUMP_CFG_DUMP_EN then s1
  else
    ((((s1.wr Reg.PMC_DUMP_CFG_DUMP_EN 0 1).wr Reg.PMC_DUMP_WPTR_SEQ 0 0).setMark 0 s1.now).setMark 6 s1.now).modPmc (fun _ => {})

/-- PMC_DUMP_ENABLE (R454): a write of PMC_DUMP_CFG with DUMP_EN = 1. -/
def execPmcDumpEnable (v : Nat) (s : State) : Result := .next (s.dumpCfg (if bit v 40 then v else v + 2 ^ 40))

/-- A counter entry of a record: value, EVENT and OVF. -/
def counterEntry (value event ovf : Nat) : List Byte := leBytes 8 (value + event * 2 ^ 48 + ovf * 2 ^ 63)

/-- The slot counters of core `i`, RETIRED, WASTED, FRONT_STARVED, BACK_STARVED and IDLE: R455 gives another order than
R451. -/
def State.coreSlots (s : State) (i : Nat) : List Byte :=
  [0, 1, 3, 2, 4].flatMap (fun j => counterEntry (s.rd Reg.PMC_CORE_SLOT_VALUE (ix i j)) 0 (s.rd Reg.PMC_CORE_SLOT_OVF (ix i j)))

/-- The slot counters of a direction of the transport pipeline, in the order of R455. -/
def State.trnSlots (s : State) (d : Nat) : List Byte :=
  [0, 1, 3, 2].flatMap (fun j => counterEntry (s.rd Reg.PMC_TRN_SLOT_VALUE (ix d j)) 0 (s.rd Reg.PMC_TRN_SLOT_OVF (ix d j)))

/-- The programmable counters of bank `b`. -/
def State.bankCounters (s : State) (b : Nat) : List Byte :=
  (List.range 8).flatMap (fun k =>
    counterEntry (s.rd Reg.PMC_CNT_VAL_VALUE (ix b k)) (s.rd Reg.PMC_CNT_CFG_EVENT (ix b k)) (s.rd Reg.PMC_CNT_VAL_OVF (ix b k)))

/-- UNITS of a record: the clusters in service and the cores fenced. -/
def State.unitsWord (s : State) : Nat :=
  s.rd Reg.CLU_GLOBAL_IN_SERVICE + ((List.range 10).map (fun c => s.rd Reg.CLU_STATUS_CORES_FENCED c % 16 * 2 ^ (10 + 4 * c))).foldl (· + ·) 0

/-- RES_REPLACE [18:0]. -/
def State.replaceWord (s : State) : Nat :=
  s.rd Reg.RES_REPLACE_SPARE_EXHAUSTED + 2 * s.rd Reg.RES_REPLACE_EOL + 4 * s.rd Reg.RES_REPLACE_MGMT + 2 ^ 8 * s.rd Reg.RES_REPLACE_CLASSES

/-- Are the counters cleared at a snapshot (R450)? -/
def State.clearsOnDump (s : State) : Bool := s.on Reg.PMC_DUMP_CFG_CLEAR_ON_DUMP && !s.on Reg.PMC_CTRL_FREEZE

/-- A record (R455) of SEQ `seq`, at count `t`. -/
def State.dumpRecord (s : State) (seq t : Nat) (late : Bool) : List Byte :=
  let p := s.board.pmc
  let flags := b2n late + 2 * b2n p.gap + 4 * b2n (!s.synced) + 8 * b2n s.clearsOnDump + 16 * s.rd Reg.PMC_CTRL_FREEZE + 32 * s.rd Reg.RES_ALERT_REPLACE +
    64 * b2n (p.lost != 0)
  let body := leBytes 4 0xDC7D0001 ++ leBytes 2 1 ++ leBytes 2 4096 ++ leBytes 8 seq ++ leBytes 8 t ++ leBytes 8 (t + 2 ^ 64 - s.markOf 6) ++
    leBytes 2 (s.rd Reg.TRN_MODULE_ID) ++ leBytes 1 flags ++ leBytes 1 (s.rd Reg.CAD_STATUS_STATE + 16 * s.power) ++
    leBytes 1 (s.rd Reg.PWR_STATUS_STEP) ++ leBytes 1 0 ++ leBytes 2 (s.rd Reg.RES_EOL_DAYS) ++ leBytes 4 p.lost ++
    leBytes 4 s.replaceWord ++ leBytes 8 s.unitsWord ++ leBytes 8 0 ++ (List.range 40).flatMap s.coreSlots ++ s.trnSlots 0 ++ s.trnSlots 1 ++
    (List.range 16).flatMap s.bankCounters ++ List.replicate 1336 0
  body ++ leBytes 4 (crc32c body) ++ leBytes 4 seq

/-- A dump is taken: the record is written, or lost while the ring is full (R454). -/
def State.takeDump (s : State) (late : Bool) : State :=
  let seq := s.rd Reg.PMC_DUMP_WPTR_SEQ
  let t := s.now
  let size := s.dumpRecords
  let s1 := s.wr Reg.PMC_DUMP_WPTR_SEQ 0 (seq + 1)
  let s2 :=
    if (seq + 2 ^ 64 - s.rd Reg.PMC_DUMP_RPTR_SEQ) % 2 ^ 64 = size then
      (s1.count Reg.PMC_DUMP_LOST_COUNT).modPmc (fun (p : Pmc) => { p with lost := p.lost + 1 })
    else
      ((s1.gddrStore (s.dumpBase + 4096 * (seq % size)) (s.dumpRecord seq t late)).count Reg.PMC_DUMPS_COUNT).modPmc (fun _ => {})
  let s3 := if late then s2.wr Reg.PMC_DUMP_STATUS_LATE 0 1 else s2
  (if s.clearsOnDump then s3.clearCounters else s3).setMark 6 t

/-- COUNTER_DUMP (R440, R453). -/
def execCounterDump (s : State) : Result :=
  if !s.on Reg.PMC_DUMP_CFG_DUMP_EN ∨ s.board.pwr.off then .next s
  else if !s.dumpDest then .next s.stopDump
  else
    let r := s.periodic .dump (min 200000000000 (max 1000000 (s.rd Reg.PMC_DUMP_CFG_PERIOD_CT))) (s.markOf 0)
    if !r.2.1 then .next s
    else
      let s1 := r.1.setMark 0 r.1.now
      .next (if s.resting then
          ((s1.count Reg.PWR_SKIPPED_COUNT).wr Reg.PMC_DUMP_STATUS_GAP 0 1).modPmc (fun (p : Pmc) => { p with gap := true })
        else s1.takeDump r.2.2)

end Sys2Proof.Machine
end

