-- ==== Sys2Proof/Machine/LaneSparing.lean ====
section
/-! DEFINITION. The derailleur: failing lanes, the lane-remap exchange and pin substitution (R216 to R219). -/

namespace Sys2Proof.Machine

open Sys2Proof

/-! Lanes and spares (R14, R227): positions 0 to 35 are far lanes, 36 to 71 near lanes. -/

/-- The port a position belongs to; none for the places of the spares and a far lane no port uses. -/
def State.portOf (s : State) (l : Nat) : Option Nat :=
  if l < 36 then (if (octetOff l).isNone then none else s.farPortOf l)
  else if l < 52 then some ((l - 36) / 4)
  else if 54 ≤ l ∧ l < 70 then some (4 + (l - 54) / 4)
  else none

/-- The position of lane `k` of a port. -/
def positionOf (near : Bool) (port k : Nat) : Nat := if near then (if port < 4 then 36 + 4 * port + k else 54 + 4 * (port - 4) + k) else port + k

/-- The place of a position in its port. -/
def State.logicalPos (s : State) (l : Nat) : Nat := match s.portOf l with
  | none => 0
  | some p => l - positionOf (decide (36 ≤ l)) p 0

/-- The lanes that the eight spares of MAC_SPARE_CFG are. -/
def spareLane (k : Nat) : Nat := [16, 17, 34, 35, 52, 53, 70, 71].getD k 0

/-- The port die of a lane. -/
def dieOf (l : Nat) : Nat := if 18 ≤ l % 36 then 1 else 0

/-- The class of R418 of a lane. -/
def laneClass (l : Nat) : Nat := 5 + (if 36 ≤ l then 2 else 0) + dieOf l

/-- The unit number of a lane (R401). -/
def laneUnit (l : Nat) : Nat := if l < 36 then unitNo 8 l else unitNo 9 (l - 36)

/-- A free spare of a port, cabled or not; near spares are cabled. -/
def State.freeSpare (s : State) (near : Bool) (port : Nat) (cabled : Bool) : Option Nat :=
  (List.range 8).find? fun k =>
    decide (4 ≤ k) == near && dieOf (spareLane k) == dieOf (positionOf near port 0) && s.rd Reg.MAC_SPARE_CFG_STATE k == 0 &&
      s.rd Reg.MAC_SPARE_CFG_PORT k == port && (near || s.on Reg.MAC_SPARE_CFG_CABLED k) == cabled

/-- Are exchanges enabled? -/
def State.remapOn (s : State) (near : Bool) : Bool := s.on (if near then Reg.MAC_SPARE_CTRL_NEAR_REMAP_EN else Reg.MAC_SPARE_CTRL_FAR_REMAP_EN)

/-- The exchange that runs on a port. -/
def State.exchOn (s : State) (near : Bool) (port : Nat) : Option Exch :=
  s.board.lanes.exchs.find? (fun (e : Exch) => e.near == near && e.port == port)

/-- Changes the exchange of a port, or ends it, and shows REMAP_BUSY. -/
def State.setExch (s : State) (near : Bool) (port : Nat) (e : Option Exch) : State :=
  let s1 := s.modLanes (fun (l : Lanes) => { l with exchs := l.exchs.filter (fun (x : Exch) => !(x.near == near && x.port == port)) ++ e.toList })
  s1.put (if near then Reg.MAC_NEAR_STATUS_REMAP_BUSY else Reg.MAC_PORT_STATUS_REMAP_BUSY) port e.isSome

/-- Sets the state of a spare. -/
def State.setSpare (s : State) (k v : Nat) : State := (s.wr Reg.MAC_SPARE_CFG_STATE k v).showSpares (laneClass (spareLane k))

/-- What a message of an exchange carries (R217). -/
def State.laneMsg (s : State) (near : Bool) (port logical spare seq op reason : Nat) : LaneMsg :=
  { op, reason, port, logical, oldLane := s.rd Reg.MAC_LANE_MAP_PHYS (positionOf near port logical) % 36, newLane := spareLane spare % 36, seq,
    sender := s.fwId.1 }

/-- Shows LANE_FAULT of a far port. -/
def State.laneFault (s : State) (near : Bool) (port : Nat) : State := if near then s else s.wr Reg.MAC_PORT_STATUS_LANE_FAULT port 1

/-- Starts a pin substitution (R219). -/
def State.startSubst (s : State) (port l k : Nat) : State :=
  let s1 := ((s.count Reg.MAC_SUBST_COUNT_COUNT).setSpare k 1).modLanes (fun (x : Lanes) => { x with substs := x.substs ++ [{ port, pos := l, spare := k }] })
  (s1.farDown port).wr Reg.MAC_PORT_STATUS_RETRAINING port 1

/-- A pin substitution where a spare without a partner lane is free, else LANE_FAULT. -/
def State.trySubst (s : State) (near : Bool) (port l : Nat) : State :=
  match (if near then none else s.freeSpare false port false) with
  | some k => s.startSubst port l k
  | none => s.laneFault near port

/-- A lane is failing (R216): a cabled spare first, then a pin substitution. SEQ is the proposer's choice: a free value (log
entry 1). -/
def State.laneFailing (s : State) (l reason : Nat) : State :=
  let near := decide (36 ≤ l)
  match s.portOf l with
  | none => s
  | some port =>
    if (s.exchOn near port).isSome ∨ s.board.lanes.substs.any (fun (x : Subst) => !near && x.port == port) then s
    else
      match (if s.remapOn near then s.freeSpare near port true else none) with
      | some k =>
        let seq := s.free 32
        let s1 := (s.bump.setSpare k 1).setExch near port (some { near, port, logical := s.logicalPos l, spare := k, seq, proposer := true })
        s1.emit (.remap near port (s1.laneMsg near port (s.logicalPos l) k seq 1 reason))
      | none => s.trySubst near port l

/-- LANE_FAILING (R216). -/
def execLaneFailing (l reason : Nat) (s : State) : Result := .next (s.laneFailing l reason)

/-- MAC_SPARE_REQ_LANE (R216): the fabric manager names the lane; 0x7F names none. -/
def execMacSpareReqLane (l : Nat) (s : State) : Result := .next (s.laneFailing l 4)

/-- Takes part in an exchange that the partner proposes. -/
def State.joinExch (s : State) (near : Bool) (port : Nat) (m : LaneMsg) : State :=
  match s.freeSpare near port true with
  | none => s.emit (.remap near port { s.laneMsg near port m.logical 0 m.seq 3 2 with newLane := 0 })
  | some k => (s.setSpare k 1).setExch near port (some { near, port, logical := m.logical, spare := k, seq := m.seq, proposer := false })

/-- LANE_REMAP_PROPOSE (R218): of proposals that cross, the one of the lower SENDER_ID stands, and the DN9's against an
accelerator's. -/
def execLaneRemapPropose (near : Bool) (port : Nat) (m : LaneMsg) (s : State) : Result :=
  let refuse (r : Nat) : State := s.emit (.remap near port { s.laneMsg near port m.logical 0 m.seq 3 r with newLane := 0 })
  .next (if !m.crcOk then s
  else if !s.remapOn near then refuse 3
  else
    match s.exchOn near port with
    | some e =>
      let theirs : Bool := e.proposer && !near && decide (m.sender < s.fwId.1)
      if m.logical = e.logical ∧ e.proposer then (if theirs then s.setExch near port (some { e with seq := m.seq, proposer := false }) else s)
      else if theirs then ((s.setSpare e.spare 0).setExch near port none).joinExch near port m
      else refuse 1
    | none => if s.board.lanes.substs.any (fun (x : Subst) => !near && x.port == port) then refuse 1 else s.joinExch near port m)

/-- The position is served by its spare from now on; the lane that served it goes to its test (R218 step 5, R219). -/
def State.lanePlaced (s : State) (l k : Nat) : State :=
  let old := s.rd Reg.MAC_LANE_MAP_PHYS l
  let s1 := (((s.wr Reg.MAC_LANE_MAP_PHYS l (spareLane k)).setSpare k 3).wr Reg.MAC_SPARE_CFG_REPLACES k l).setUnit (laneUnit (spareLane k)) 0
  (s1.testUnit (laneUnit old) false 0).reviewClass (laneClass l)

/-- Ends an exchange once DONE is both sent and received. -/
def State.settleExch (s : State) (e : Exch) : State :=
  if e.sent ∧ e.rcvd then
    (((s.setExch e.near e.port none).count Reg.MAC_REMAP_COUNT_DONE).lanePlaced (positionOf e.near e.port e.logical) e.spare)
  else s.setExch e.near e.port (some e)

/-- SPARE_TRAINED (R218 steps 3 and 4): mirroring starts, the receiver takes the position from the spare, and DONE goes out. -/
def execSpareTrained (near : Bool) (port : Nat) (s : State) : Result :=
  .next (match s.exchOn near port with
    | none => s
    | some e =>
      if e.sent then s
      else ((s.setSpare e.spare 2).emit (.remap near port (s.laneMsg near port e.logical e.spare e.seq 2 0))).settleExch { e with sent := true })

/-- LANE_REMAP_DONE (R218 step 5). -/
def execLaneRemapDone (near : Bool) (port : Nat) (m : LaneMsg) (s : State) : Result :=
  .next (match s.exchOn near port with
    | none => s
    | some e => if !m.crcOk ∨ m.seq ≠ e.seq then s else s.settleExch { e with rcvd := true })

/-- LANE_REMAP_REFUSE (R218). -/
def execLaneRemapRefuse (near : Bool) (port : Nat) (m : LaneMsg) (s : State) : Result :=
  .next (match s.exchOn near port with
    | none => s
    | some e => if !m.crcOk ∨ m.seq ≠ e.seq ∨ !e.proposer then s else (s.setSpare e.spare 0).setExch near port none)

/-- LANE_REMAP_ABORT (R218). -/
def execLaneRemapAbort (near : Bool) (port : Nat) (m : LaneMsg) (s : State) : Result :=
  .next (match s.exchOn near port with
    | none => s
    | some e =>
      if !m.crcOk ∨ m.seq ≠ e.seq then s else ((s.setSpare e.spare 0).setExch near port none).count Reg.MAC_REMAP_COUNT_ABORTED)

/-- REMAP_TIMEOUT (R218): 50 ms from PROPOSE without DONE. -/
def execRemapTimeout (near : Bool) (port : Nat) (s : State) : Result :=
  .next (match s.exchOn near port with
    | none => s
    | some e =>
      if !e.proposer ∨ e.rcvd then s
      else
        let s1 := s.emit (.remap near port (s.laneMsg near port e.logical e.spare e.seq 4 0))
        (((s1.setSpare e.spare 0).setExch near port none).count Reg.MAC_REMAP_COUNT_ABORTED).trySubst near port (positionOf near port e.logical))

/-- PIN_SUBSTITUTION_DONE (R219): the port has retrained, or the lane still fails. -/
def execPinSubstitutionDone (port : Nat) (ok : Bool) (s : State) : Result :=
  .next (match s.board.lanes.substs.find? (fun (x : Subst) => x.port == port) with
    | none => s
    | some x =>
      let s1 := s.modLanes (fun (l : Lanes) => { l with substs := l.substs.filter (fun (y : Subst) => y.port != port) })
      if ok then
        let s2 := s1.lanePlaced x.pos x.spare
        if s2.mayTrain port then (s2.farUp port).pumpAll else s2.wr Reg.MAC_PORT_STATUS_RETRAINING port 0
      else ((s1.setSpare x.spare 0).laneFault false port).wr Reg.MAC_PORT_STATUS_RETRAINING port 0)

end Sys2Proof.Machine
end

