-- ==== Sys2Proof/Machine/Queues.lean ====
section
/-! DEFINITION. The commands of submission and completion rings: doorbells, fetches, entries, completions (chapter
5). -/

namespace Sys2Proof.Machine

open Sys2Proof

/-- QP_DOORBELL (R115, R119, R335): a write of `v` to a queue-pair doorbell page; on a legacy queue pair `v` is the
tail of R142. -/
def State.bell (s : State) (q v : Nat) : State := if s.legacy q then s.legacyBell q v else s.doorbell q

/-- QP_DOORBELL (R115, R119). -/
def execQpDoorbell (q v : Nat) (s : State) : Result := .next (s.bell q v)

/-- SQ_INDEX_READ_DONE (R115 steps 1 and 2): the tail read. -/
def execSqIndexReadDone (q t : Nat) (s : State) : Result :=
  .next (if (s.sqOf q).phase = .index ∧ !s.legacy q then s.indexRead q (t % 2 ^ 32) else s)

/-- SQ_SLOTS_READ_DONE (R115 steps 3 to 6): `slots` are the slots read, from the head on. -/
def execSqSlotsReadDone (q : Nat) (slots : List (List Byte)) (s : State) : Result :=
  .next (if (s.sqOf q).phase = .slots ∧ !s.legacy q then
    let r := State.acceptAll q (slots.length + 1) slots s
    r.1.endRead q r.2
  else s)

/-- SQ_FETCH_FAILED (R115 step 7): the read failed with a code, its DETAIL, and the failing address. -/
def execSqFetchFailed (q code detail addr : Nat) (s : State) : Result :=
  .next (if ((s.sqOf q).phase = .index ∨ (s.sqOf q).phase = .slots) ∧
      (code = Code.accessViolation ∨ code = Code.pageTimeout ∨ code = Code.hostDataError) then s.sqFail q code detail addr
  else s)

/-- REFETCH_WAIT_EXPIRE (R115 step 5, R144): the 250 ns of a re-fetch are over. -/
def execRefetchWaitExpire (q : Nat) (s : State) : Result := .next (if (s.sqOf q).phase = .wait then s.readRing q else s)

/-- SQ_HEAD_WRITEBACK (R117): SQ_HEAD goes to the index block within 1 us of an advance. -/
def execSqHeadWriteback (q : Nat) (s : State) : Result := .next (if s.qpValid q then s.showHead q else s)

/-- SQ_ACCEPT_RESUME (R118, R122): capacity has returned, and what was fetched and not accepted is fetched again. -/
def execSqAcceptResume (q : Nat) (s : State) : Result :=
  .next (if (s.sqOf q).held ∧ (s.sqOf q).phase = .none ∧ !s.frozen (s.qpTenant q) ∧ s.capacity q {} then s.beginFetch q else s)

/-- Writes an opcode into the first byte of an entry. -/
def setOpcode (o : Nat) : List (List Byte) → List (List Byte)
  | [] => []
  | b :: rest => (BitVec.ofNat 8 o :: b.drop 1) :: rest

/-- One entry of the slots read, with opcode `o` (R109, R115 step 3). -/
def State.sqe (s : State) (q o : Nat) (slots : List (List Byte)) : State :=
  if (s.sqOf q).phase = .slots ∧ !s.legacy q then (s.acceptNext q (setOpcode o slots)).1 else s

/-- SQE_NOP (R111): completes with SUCCESS once started. -/
def execSqeNop (q : Nat) (slots : List (List Byte)) (s : State) : Result := .next (s.sqe q 0 slots)
/-- SQE_SEND (R110, R111, R174). -/
def execSqeSend (q : Nat) (slots : List (List Byte)) (s : State) : Result := .next (s.sqe q 1 slots)
/-- SQE_WRITE (R110, R111, R174, R255). -/
def execSqeWrite (q : Nat) (slots : List (List Byte)) (s : State) : Result := .next (s.sqe q 2 slots)
/-- SQE_WRITE_IMM (R110, R111, R174). -/
def execSqeWriteImm (q : Nat) (slots : List (List Byte)) (s : State) : Result := .next (s.sqe q 3 slots)
/-- SQE_READ (R110, R111, R176). -/
def execSqeRead (q : Nat) (slots : List (List Byte)) (s : State) : Result := .next (s.sqe q 4 slots)
/-- SQE_FETCH_ADD (R110, R111, R177). -/
def execSqeFetchAdd (q : Nat) (slots : List (List Byte)) (s : State) : Result := .next (s.sqe q 5 slots)
/-- SQE_COMPARE_SWAP (R110, R111, R177). -/
def execSqeCompareSwap (q : Nat) (slots : List (List Byte)) (s : State) : Result := .next (s.sqe q 6 slots)
/-- SQE_REDUCE_WRITE (R110, R111, R178). -/
def execSqeReduceWrite (q : Nat) (slots : List (List Byte)) (s : State) : Result := .next (s.sqe q 7 slots)
/-- SQE_COLLECTIVE (R305 to R307). -/
def execSqeCollective (q : Nat) (slots : List (List Byte)) (s : State) : Result := .next (s.sqe q 8 slots)
/-- SQE_POST_RECV (R111, R175). -/
def execSqePostRecv (q : Nat) (slots : List (List Byte)) (s : State) : Result := .next (s.sqe q 0x10 slots)
/-- SQE_CONT_OUTSIDE_CHAIN (R113): BAD_ENTRY, and the head passes all four slots. -/
def execSqeContOutsideChain (q : Nat) (slots : List (List Byte)) (s : State) : Result := .next (s.sqe q 0x1F slots)
/-- SQE_RESERVED_OPCODE (R111): BAD_ENTRY. -/
def execSqeReservedOpcode (q o : Nat) (slots : List (List Byte)) (s : State) : Result :=
  .next (if nativeOpcode (o % 256) then s else s.sqe q o slots)

/-! Completion rings. -/

/-- Does a ring exist? -/
def State.cqValid (s : State) (cq : Nat) : Bool := s.on Reg.CQ_DESC0_VALID cq

/-- Reads CQ_HEAD, unless the ring is broken or fenced (R80, R122, R488). -/
def State.cqRead (s : State) (cq : Nat) : State :=
  if !s.cqValid cq || s.on Reg.CQ_DESC0_BROKEN cq || (s.cqOf cq).fenced then s else s.emit (.cqHeadRead cq)

/-- CQ_DOORBELL (R122). -/
def execCqDoorbell (cq : Nat) (s : State) : Result := .next (s.cqRead cq)

/-- Arms a ring (R123): a write of `v` to CQ_ARM. -/
def State.cqArm (s : State) (cq v : Nat) : State :=
  if !bit v 0 || !s.cqValid cq || s.rd Reg.CQ_DESC3_NOTIFY_ADDR cq == 0 || s.on Reg.CQ_DESC0_BROKEN cq || (s.cqOf cq).fenced then s
  else ((s.wr Reg.CQ_DESC0_ARMED cq 1).setCq cq { s.cqOf cq with armRead := true }).cqRead cq

/-- CQ_ARM (R123). -/
def execCqArm (cq v : Nat) (s : State) : Result := .next (s.cqArm cq v)

/-- CQ_HEAD_READ_DONE (R122, R123): after arming, entries written since the last notification and not consumed are
notified at once. -/
def execCqHeadReadDone (cq h : Nat) (s : State) : Result :=
  .next (if !s.cqValid cq || s.on Reg.CQ_DESC0_BROKEN cq || (s.cqOf cq).fenced then s
  else
    let s1 := s.wr Reg.CQ_POS_HEAD_SEEN cq h
    if !(s.cqOf cq).armRead then s1
    else
      let s2 := s1.setCq cq { s1.cqOf cq with armRead := false }
      let w := s.rd Reg.CQ_POS_WRITTEN cq
      if s.on Reg.CQ_DESC0_ARMED cq ∧ d32 w h ≠ 0 ∧ d32 w (s.cqOf cq).notified ≠ 0 then s2.cqNotify cq else s2)

/-- CQ_HEAD_POLL (R122): while the ring is full the module reads CQ_HEAD on its own. -/
def execCqHeadPoll (cq : Nat) (s : State) : Result := .next (if s.on Reg.CQ_PEND_FULL cq then s.cqRead cq else s)

/-- CQE_WRITE (R76, R117, R120 to R123, R171): the oldest ready completion is written, its position translated to the
accelerator address `pa`. -/
def execCqeWrite (cq pa : Nat) (s : State) : Result :=
  let r := s.cqWriteFront cq pa
  .next (match r.2 with
    | some e => r.1.respWritten e
    | none => r.1)

/-- Discards what waits on a broken ring (R488): each counts as written, its operation is released, and nothing holds
back an acknowledgement. -/
def State.cqDiscard (s : State) (cq : Nat) : State :=
  let l := (s.cqOf cq).waiting
  let s1 := ((s.setCq cq { s.cqOf cq with waiting := [] }).wr Reg.CQ_PEND_PENDING cq 0).wr Reg.CQ_PEND_FULL cq 0
  l.foldl (fun s e => ((s.inc Reg.CQ_POS_WRITTEN cq).afterCqe e).respWritten e) s1

/-- CQ_BROKEN (R488): a write of an entry, or a read of the index block, failed with a code at an address. -/
def execCqBroken (cq code addr : Nat) (s : State) : Result :=
  .next (if !s.cqValid cq || s.on Reg.CQ_DESC0_BROKEN cq || (s.cqOf cq).fenced ||
      !(code == Code.accessViolation || code == Code.pageTimeout || code == Code.hostDataError) then s
  else
    let s1 := (s.wr Reg.CQ_DESC0_BROKEN cq 1).cqDiscard cq
    let s2 := (s1.qpList.filter (fun q => s1.rd Reg.QP_DESC0_CQ q == cq && !s1.legacy q && (s1.linkPel q).isNone)).foldl
      (fun s q => s.qpError q code 0 none) s1
    s2.event (s.rd Reg.CQ_DESC0_TENANT cq) code 0 (evObj 1 cq) addr)

/-! Admin doorbells. -/

/-- Rings the admin submission ring of a slot (R125). -/
def State.admBell (s : State) (t : Nat) : State := if s.on Reg.ADM_DESC0_BOUND t then s.emit (.admRead t) else s

/-- ADM_SQ_DOORBELL (R125). -/
def execAdmSqDoorbell (t : Nat) (s : State) : Result := .next (s.admBell t)

/-- ADM_CQ_DOORBELL (R126): CQ_HEAD of the admin ring reads `h`, and held entries are written. -/
def execAdmCqDoorbell (t h : Nat) (s : State) : Result :=
  .next (if s.on Reg.ADM_DESC0_BOUND t then (s.setAdm t { s.admOf t with headSeen := h % 2 ^ 32 }).settleAdm t else s)

end Sys2Proof.Machine
end

