-- ==== Sys2Proof/Machine/Legacy.lean ====
section
/-! DEFINITION. The commands of legacy queue pairs (chapter 6). -/

namespace Sys2Proof.Machine

open Sys2Proof

/-- LEGACY_DOORBELL (R142, R143): tail `t`; `merged` tells that a later doorbell less than 64 ns behind took its
place. -/
def execLegacyDoorbell (q t : Nat) (merged : Bool) (s : State) : Result :=
  .next (if merged ∨ !s.legacy q then s else s.legacyBell q t)

/-- LEGACY_SLOTS_READ_DONE (R137, R144): `slots` are the entries read, from the head on. -/
def execLegacySlotsReadDone (q : Nat) (slots : List (List Byte)) (s : State) : Result :=
  .next (if (s.sqOf q).phase = .slots ∧ s.legacy q then
    let r := State.acceptAll q (slots.length + 1) slots s
    r.1.endRead q r.2
  else s)

/-- One legacy entry with opcode `o` of the slots read. -/
def State.legacyEntry (s : State) (q o : Nat) (b : List Byte) : State :=
  if (s.sqOf q).phase = .slots ∧ s.legacy q then (s.acceptNext q (setOpcode o [b])).1 else s

/-- LEGACY_NOP (R138). -/
def execLegacyNop (q : Nat) (b : List Byte) (s : State) : Result := .next (s.legacyEntry q 0 b)
/-- LEGACY_SEND (R138). -/
def execLegacySend (q : Nat) (b : List Byte) (s : State) : Result := .next (s.legacyEntry q 1 b)
/-- LEGACY_WRITE (R138). -/
def execLegacyWrite (q : Nat) (b : List Byte) (s : State) : Result := .next (s.legacyEntry q 2 b)
/-- LEGACY_WRITE_IMM (R138, R139). -/
def execLegacyWriteImm (q : Nat) (b : List Byte) (s : State) : Result := .next (s.legacyEntry q 3 b)
/-- LEGACY_READ (R138). -/
def execLegacyRead (q : Nat) (b : List Byte) (s : State) : Result := .next (s.legacyEntry q 4 b)
/-- LEGACY_FETCH_ADD (R138). -/
def execLegacyFetchAdd (q : Nat) (b : List Byte) (s : State) : Result := .next (s.legacyEntry q 5 b)
/-- LEGACY_COLLECTIVE (R138, R306). -/
def execLegacyCollective (q : Nat) (b : List Byte) (s : State) : Result := .next (s.legacyEntry q 8 b)
/-- LEGACY_POST_RECV (R138, R175). -/
def execLegacyPostRecv (q : Nat) (b : List Byte) (s : State) : Result := .next (s.legacyEntry q 0x10 b)

/-- LEGACY_BAD_ENTRY (R138): an entry that breaks R138 completes with BAD_ENTRY. -/
def execLegacyBadEntry (q : Nat) (b : List Byte) (s : State) : Result :=
  .next (if (s.entryBad q (parseLegacy b)).isSome then s.legacyEntry q (byteAt b 0) b else s)

/-- The immediate data that a legacy responder completion received (R139). -/
def legacyImm (o : Op) : Option Nat := if o.sqe.opcode = 0x10 ∧ o.resps = 1 then some o.aux else none

/-- Writes the oldest operation back, in ring order (R140, R141). -/
def State.writeBackFront (s : State) (q : Nat) (o : Op) : State :=
  let s1 := ((s.modSq q (fun (x : Sq) => { x with wbFlush := none })).emit (.writeBack q o.sqe.pos (legacyBytes o (legacyImm o)))).releaseOp q o.serial
  match (s1.connOf q).recs.find? (fun m => m.entered && (m.recv.map (·.serial)) == some o.serial) with
  | some m => s1.msgAck q m
  | none => s1

/-- LEGACY_WRITEBACK (R140, R141): the oldest entry, once it is done: first the flushes of its paths, then, when they
are back, the write. -/
def execLegacyWriteback (q : Nat) (s : State) : Result :=
  .next (match s.legacy q, (s.sqOf q).ops with
    | true, o :: _ =>
      if o.st ≠ .done ∨ s.sched q = Sched.fenced then s
      else match (s.sqOf q).wbFlush with
        | some (n, l) => if n = o.serial ∧ l = [] then s.writeBackFront q o else s
        | none =>
          let fl := (portsOf o.paths).foldl (fun (r : State × List (Nat × Nat)) p =>
            if r.1.on Reg.MAC_NEAR_STATUS_PATH_UP p then
              (r.1.sendNp p .flush (.op q o.serial) { op := 2, tenant := s.qpTenant q, ctx := s.rd Reg.QP_DESC0_CONTEXT q },
                r.2 ++ [(p, (r.1.nearOf p).nextTag)])
            else r) (s, [])
          if fl.2 = [] then s.writeBackFront q o else fl.1.modSq q (fun (x : Sq) => { x with wbFlush := some (o.serial, fl.2) })
    | _, _ => s)

end Sys2Proof.Machine
end

