-- ==== Sys2Proof/Machine/Transport.lean ====
section
/-! DEFINITION. The transport commands: packets sent and received, and the timers of a queue pair (chapters 7 and
8). -/

namespace Sys2Proof.Machine

open Sys2Proof

/-- PACKET_TRANSMIT (R161, R162, R169, R187, R354): `data` is what accelerator memory holds where the packet
gathers, `err` 1 uncorrectable DN9 memory, 2 an accelerator DATA_ERROR. -/
def execPacketTransmit (q : Nat) (data : List Byte) (err : Nat) (s : State) : Result := .next (s.transmitDone q data err)

/-- ACK_COALESCE_TIMER (R166). -/
def execAckCoalesceTimer (q : Nat) (s : State) : Result :=
  let c := s.connOf q
  .next (if c.ackTimer then s.ackNow q c.ackPsn c.ackEcho c.ackRcvd else s)

/-- RTO_EXPIRE (R167 to R169, R188). -/
def execRtoExpire (q psn mem : Nat) (s : State) : Result := .next (s.rtoExpire q psn mem)

/-- RESEND_BACKOFF_EXPIRE (R182, R183): the resend counts toward no retry limit. -/
def execResendBackoffExpire (q psn mem : Nat) (s : State) : Result :=
  let c := s.connOf q
  .next (s.setConn q { c with sent := c.sent.map (fun x =>
    if x.psn == psn && x.mem == mem && x.hold then { x with hold := false, resend := true, uncounted := true } else x) })

/-- RESEND_LIMIT_EXPIRE (R183): PAGE gives PAGE_TIMEOUT, NO_RECV, BUSY and CQ_FULL RETRY_EXCEEDED; FROZEN has no limit. -/
def execResendLimitExpire (q psn mem : Nat) (s : State) : Result :=
  .next (match (s.connOf q).sentOf psn mem with
    | none => s
    | some x =>
      if x.nakAt = none ∨ x.nakReason = 3 then s
      else s.qpError q (if x.nakReason = 0 then Code.pageTimeout else Code.retryExceeded) 0 (some x.serial))

/-- READ_RESP_TIMEOUT (R176): a new READ_REQ for each range still missing; the reissues count toward RETRY_MAX. -/
def execReadRespTimeout (q serial : Nat) (s : State) : Result :=
  .next (match (s.sqOf q).ops.find? (fun o => o.serial == serial && o.sqe.opcode == 4 && o.st == .started) with
    | none => s
    | some o =>
      let c := s.connOf q
      if o.cut = 0 ∨ c.sent.any (·.serial == serial) ∨ c.reReqs.any (·.1 == serial) then s
      else if s.rd Reg.TRN_QP_T0_RETRY_MAX q ≤ o.reissues then s.qpError q Code.retryExceeded 0 (some serial)
      else
        (s.updOp q serial (fun x => { x with reissues := x.reissues + 1 })).setConn q
          { c with reReqs := c.reReqs ++ (missingFrom (2 * o.got.length + 2) 0 o.sqe.len o.got).map (fun x => (serial, x.1, x.2)) })

/-- ENTROPY_HOLD_EXPIRE (R169). -/
def execEntropyHoldExpire (q e : Nat) (s : State) : Result :=
  .next (s.setConn q { s.connOf q with holds := (s.connOf q).holds.filter (·.1 ≠ e) })

/-- RATE_UPDATE (R188). -/
def execRateUpdate (q : Nat) (s : State) : Result := .next (s.rateUpdate q)

/-- RX_SEND (R164, R175). -/
def execRxSend (p : Pkt) (r : Rx) (s : State) : Result := .next (s.rxPacket { p with opc := 1 } r)
/-- RX_WRITE (R164, R174). -/
def execRxWrite (p : Pkt) (r : Rx) (s : State) : Result := .next (s.rxPacket { p with opc := 2 } r)
/-- RX_WRITE_IMM (R164, R171, R174). -/
def execRxWriteImm (p : Pkt) (r : Rx) (s : State) : Result := .next (s.rxPacket { p with opc := 3, immValid := true } r)
/-- RX_READ_REQ (R164, R176). -/
def execRxReadReq (p : Pkt) (r : Rx) (s : State) : Result := .next (s.rxPacket { p with opc := 4 } r)
/-- RX_FETCH_ADD (R164, R177). -/
def execRxFetchAdd (p : Pkt) (r : Rx) (s : State) : Result := .next (s.rxPacket { p with opc := 6 } r)
/-- RX_COMPARE_SWAP (R164, R177). -/
def execRxCompareSwap (p : Pkt) (r : Rx) (s : State) : Result := .next (s.rxPacket { p with opc := 7 } r)
/-- RX_REDUCE_WRITE (R164, R178, R288): `r.data` is what accelerator memory holds at the target. -/
def execRxReduceWrite (p : Pkt) (r : Rx) (s : State) : Result := .next (s.rxPacket { p with opc := 8 } r)

/-- Receives an unsequenced packet: steps 1 to 6 of R164, then its own handling. -/
def State.rxUnseq (s : State) (p : Pkt) (r : Rx) (f : State → State) : State :=
  let h := s.rxHead p r
  if h.2 then f h.1 else h.1

/-- RX_READ_RESP (R164, R172, R176, R189). -/
def execRxReadResp (p : Pkt) (r : Rx) (s : State) : Result :=
  .next (s.rxUnseq { p with opc := 5 } r (fun s => s.rxReadResp { p with opc := 5 } r))
/-- RX_ACK (R155, R167, R172). -/
def execRxAck (p : Pkt) (r : Rx) (s : State) : Result := .next (s.rxUnseq { p with opc := 0x10 } r (fun s => s.rxAck p))
/-- RX_NAK_RESEND_AFTER (R182, R183). -/
def execRxNakResendAfter (p : Pkt) (r : Rx) (s : State) : Result :=
  .next (s.rxUnseq { p with opc := 0x11 } r (fun s => (s.inc Reg.TRN_NAK_RX_COUNT).rxNakResend p))
/-- RX_NAK_FAIL_OP (R182). -/
def execRxNakFailOp (p : Pkt) (r : Rx) (s : State) : Result :=
  .next (s.rxUnseq { p with opc := 0x11 } r (fun s => (s.inc Reg.TRN_NAK_RX_COUNT).rxNakFail p))
/-- RX_NAK_FATAL (R160, R182). -/
def execRxNakFatal (p : Pkt) (r : Rx) (s : State) : Result :=
  .next (s.rxUnseq { p with opc := 0x11 } r (fun s => (s.inc Reg.TRN_NAK_RX_COUNT).rxNakFatal p))
/-- RX_ATOMIC_ACK (R172). -/
def execRxAtomicAck (p : Pkt) (r : Rx) (s : State) : Result := .next (s.rxUnseq { p with opc := 0x12 } r (fun s => s.rxAtomicAck p))

/-- MESSAGE_PLACED_FLUSHED (R171): the flushes of a complete message are back. -/
def execMessagePlacedFlushed (q msn : Nat) (s : State) : Result :=
  .next (match s.recOf q msn with
    | none => s
    | some m => if m.complete ∧ !m.entered ∧ m.flush = [] then s.msgEntry q m else s)

end Sys2Proof.Machine
end

