-- ==== Sys2Proof/Machine/Release.lean ====
section
/-! DEFINITION. What the users of near-link requests and translations do when a page translates, when a request of theirs
ends, and when it fails (R66, R83, R97 to R104). -/

namespace Sys2Proof.Machine

open Sys2Proof

/-! Held packets. -/

/-- Takes the first held packet that meets `f`. -/
def State.takeHeld (s : State) (q : Nat) (f : Pkt → Bool) : Option (Pkt × Rx) × State :=
  match (s.connOf q).held.find? (fun x => f x.1) with
  | none => (none, s)
  | some x => (some x, s.setConn q { s.connOf q with held := dropFirst (fun y => f y.1) (s.connOf q).held })

/-- Is a packet a sequenced one of a PSN? -/
def isSeq (psn : Nat) (p : Pkt) : Bool := p.opc != 5 && p.psn == psn

/-- Is a packet a READ_RESP of an operation? -/
def Op.takes (o : Op) (p : Pkt) : Bool := p.opc == 5 && p.msn == o.msn

/-- An accepted operation that is not done. -/
def State.liveOp (s : State) (q serial : Nat) : Option Op :=
  (s.sqOf q).ops.find? (fun o => o.serial == serial && o.st != .done)

/-- Runs again the READ_RESP packets held for an operation. -/
def State.rerunResp (s : State) (q serial : Nat) : State :=
  match s.liveOp q serial with
  | none => s
  | some o =>
    let l := (s.connOf q).held.filter (fun x => o.takes x.1)
    l.foldl (fun s x => s.rxReadResp x.1 x.2)
      (s.setConn q { s.connOf q with held := (s.connOf q).held.filter (fun x => !o.takes x.1) })

/-- Runs again a sequenced packet that was held. -/
def State.rerunPkt (s : State) (q psn : Nat) : State :=
  match s.takeHeld q (isSeq psn) with
  | (some x, s1) => s1.newPacket x.1 x.2
  | (none, s1) => s1

/-! A page translates. -/

/-- A slot resumes. -/
def State.resumeSlot (s : State) (c u k : Nat) : State :=
  let v := s.slotOf c u k
  State.slotPump c u k (v.todo.length + 1) (s.setSlot c u k { v with parked := false })

/-- A waiter's page translates: its request runs. -/
def State.userOk (s : State) (w : Waiter) : State :=
  match w.user with
  | .pkt q psn => s.rerunPkt q psn
  | .op q n => s.rerunResp q n
  | .slot c u k => s.resumeSlot c u k
  | _ => s

/-! A request fails. -/

/-- A placement for a remote requester fails: a violation or a lost endpoint is FATAL (R97, R182); a page that the service did not
give is asked for again by a NAK; data that the accelerator could not give fails the operation (log entry 39). -/
def State.failPkt (s : State) (p : Pkt) (code detail arg : Nat) : State :=
  let q := p.dstQp
  if code = Code.accessViolation then s.remoteViolation q detail arg p
  else if code = Code.hostGone then s.qpError q Code.hostGone 0 none false p.psn p.msn
  else if code = Code.pageTimeout then
    ((s.inc Reg.XLT_PNR_COUNT_COUNT).pmc 11 0x33 (some (s.qpTenant q))).nakResend q p.psn p.msn Code.pageNotReady 0 s.backoff0
  else (s.markPsn q p.psn false).nakFail q p.psn p.msn code

/-- A local operation fails; READ_RESP packets held for it go. -/
def State.failOp (s : State) (q serial code detail : Nat) : State :=
  match s.liveOp q serial with
  | none => s
  | some o =>
    (s.setConn q { s.connOf q with held := (s.connOf q).held.filter (fun x => !o.takes x.1) }).opFail q o code detail

/-- A READ answered from here fails (R182; log entry 39). -/
def State.failResp (s : State) (q psn code detail arg : Nat) : State :=
  match (s.connOf q).respQ.find? (·.psn == psn) with
  | none => s
  | some w =>
    let s1 := s.setConn q { s.connOf q with respQ := dropFirst (·.psn == psn) (s.connOf q).respQ }
    if code = Code.accessViolation then s1.remoteViolation q detail arg w
    else if code = Code.hostGone then s1.qpError q Code.hostGone 0 none false w.psn w.msn
    else s1.nakFail q w.psn w.msn code

/-- A waiter's request fails (R104). -/
def State.userBad (s : State) (w : Waiter) (code detail : Nat) : State :=
  match w.user with
  | .pkt q psn => match s.takeHeld q (isSeq psn) with
    | (some x, s1) => s1.failPkt x.1 code detail w.va
    | (none, s1) => s1
  | .op q n => s.failOp q n code detail
  | .resp q psn => s.failResp q psn code detail w.va
  | .slot c u k => s.slotFail c u k code
  | _ => s

/-- A remote placement is answered PAGE_NOT_READY (R99, R103). -/
def State.userPnr (s : State) (w : Waiter) (us : Nat) : State :=
  match w.user with
  | .pkt q psn => match s.takeHeld q (isSeq psn) with
    | (some x, s1) => ((s1.inc Reg.XLT_PNR_COUNT_COUNT).pmc 11 0x33 (some (s.qpTenant q))).nakResend q psn x.1.msn Code.pageNotReady 0 us
    | (none, s1) => s1
  | _ => s

/-- Hands every effect of the translation logic to its users. -/
def State.applyFx (r : State × XlFx) : State :=
  let s1 := r.2.bad.foldl (fun s x => s.userBad x.1 x.2.1 x.2.2) r.1
  let s2 := r.2.pnr.foldl (fun s x => s.userPnr x.1 x.2) s1
  r.2.ok.foldl State.userOk s2

/-! Walks. -/

/-- What a completion with an error status means for a DN9 request (R83): a code and its DETAIL. -/
def statusCode (status : Nat) : Nat × Nat :=
  if status = 1 ∨ status = 3 then (Code.accessViolation, Kind.hostDenied) else (Code.hostDataError, status)

/-- A table entry of a walk returns (R91, R95): a walk that an invalidation covers begins again. -/
def State.walkRead (s : State) (id status pte : Nat) : State :=
  match s.walkOf id with
  | none => s
  | some w =>
    if status ≠ 0 then State.applyFx (s.walkFail w (statusCode status).1 (statusCode status).2)
    else if w.restart then s.restartWalk w
    else State.applyFx (s.walkEntry w pte)

/-- The CSWAP that sets A or D returns (R89): the walk ends where the entry was as read, else it begins again. -/
def State.walkAd (s : State) (id status : Nat) (same : Bool) : State :=
  match s.walkOf id with
  | none => s
  | some w =>
    if status ≠ 0 then State.applyFx (s.walkFail w (statusCode status).1 (statusCode status).2)
    else if w.restart ∨ !same then s.restartWalk w
    else match w.leaf with
      | none => s.restartWalk w
      | some (shift, pte) => State.applyFx (s.walkLeaf w w.wOk shift (bits pte 12 44) (bit pte 4))

/-! Flushes. -/

/-- Drops a flush from what waits for it, in every ring, message, thread and write-back. -/
def State.flushBack (s : State) (u : User) (pt : Nat × Nat) : State :=
  match u with
  | .cqe cq =>
    let c := s.cqOf cq
    s.setCq cq { c with waiting := c.waiting.map (fun (e : Cqe) => { e with wait := e.wait.filter (· ≠ pt) }) }
  | .pkt q _ =>
    let c := s.connOf q
    s.setConn q { c with recs := c.recs.map (fun (m : MsgRec) => { m with flush := m.flush.filter (· ≠ pt) }) }
  | .op q _ => s.modSq q (fun (x : Sq) => { x with wbFlush := x.wbFlush.map (fun w => (w.1, w.2.filter (· ≠ pt))) })
  | .vis c i =>
    let s1 := s.setThr c i { s.thrOf c i with flush := (s.thrOf c i).flush.filter (· ≠ pt) }
    match (s1.thrOf c i).wait with
    | .fence m => s1.fenceTry c i m
    | _ => s1
  | .admin ch => match (s.mbxOf ch).later with
    | some d => s.respond ch 0 0 d
    | none => s
  | _ => s

/-- A flush that the accelerator answers with an error status (R83): the completion that waits for it fails. -/
def State.flushBad (s : State) (u : User) (pt : Nat × Nat) (status : Nat) : State :=
  let x := statusCode status
  match u with
  | .cqe cq =>
    let c := s.cqOf cq
    let hit := c.waiting.filter (fun e => e.wait.contains pt)
    let s1 := s.setCq cq { c with waiting := c.waiting.map (fun (e : Cqe) =>
      if e.wait.contains pt ∧ e.status = 0 then { e with status := x.1, detail := x.2 } else e) }
    if x.1 = Code.accessViolation then hit.foldl (fun s e => s.qpError e.qp x.1 x.2 none) s1 else s1
  | .pkt q psn =>
    if x.1 = Code.accessViolation then
      (match (s.connOf q).recs.find? (fun m => m.lastPsn == psn) with
      | some m => s.remoteViolation q x.2 0 { dstQp := q, psn, msn := m.msn }
      | none => s)
    else s
  | .op q n => s.failOp q n x.1 x.2
  | _ => s

/-! Completions of the accelerator (R66, R83). -/

/-- The data of a read of a slot arrives: the part at byte offset `off` of the request; the last part ends it. -/
def State.slotData (s : State) (c u k : Nat) (pt : Nat × Nat) (off : Nat) (data : List Byte) (last : Bool) : State :=
  let v := s.slotOf c u k
  match v.out.find? (fun o => (o.1, o.2.1) == pt) with
  | none => s
  | some o =>
    let la := o.2.2.1 + off
    let n := min data.length (o.2.2.2 - off)
    let v' := if last then { v with out := v.out.filter (fun x => (x.1, x.2.1) ≠ pt) } else v
    let s1 := s.setSlot c u k v'
    if !v.busy ∨ n = 0 then s1
    else match s1.slotCheck c u v' la n with
      | .ok => s1.localWrite c v.hub la (data.take n)
      | .bad cause addr => s1.slotTrap c u k cause addr
      | .wait => s1

/-- A read of a slot fails. -/
def State.slotBad (s : State) (c u k : Nat) (pt : Nat × Nat) (code : Nat) : State :=
  let v := s.slotOf c u k
  (s.setSlot c u k { v with out := v.out.filter (fun x => (x.1, x.2.1) ≠ pt) }).slotFail c u k code

/-- The old value of an atomic of a remote requester returns (R177), or its failure. -/
def State.atomicBack (s : State) (q psn code detail old : Nat) : State :=
  match (s.connOf q).recs.find? (fun m => m.lastPsn == psn && (m.opc == 6 || m.opc == 7)) with
  | none => s
  | some m =>
    let s1 := s.dropRec q m.msn
    if code = 0 then s1.atomicDone q psn m.msn old
    else if code = Code.accessViolation then s1.remoteViolation q detail 0 { dstQp := q, psn, msn := m.msn }
    else if code = Code.hostGone then s1.qpError q Code.hostGone 0 none false psn m.msn
    else s1.nakFail q psn m.msn code

/-- Records a denied request of a user (R83, R97). -/
def State.denied (s : State) (r : NpReq) (status : Nat) : State :=
  if (statusCode status).1 = Code.accessViolation then
    s.violation Kind.hostDenied r.msg.tenant r.msg.ctx (match r.user with
      | .slot c _ _ => c
      | .pkt q _ => s.rd Reg.QP_DESC3_CLUSTER q
      | _ => 15) r.msg.addr
  else s

/-- The completion of a request goes to its user: STATUS, byte offset, data, and whether it is the last part. -/
def State.npBack (s : State) (p : Nat) (r : NpReq) (status off : Nat) (data : List Byte) (last : Bool) : State :=
  let pt := (p, r.tag)
  let x := statusCode status
  match r.kind with
  | .table => match r.user with
    | .walk id => s.walkRead id status (leNat (data.take 8))
    | _ => s
  | .adUpdate => match r.user with
    | .walk id => s.walkAd id status (data.take 8 == r.msg.data.take 8)
    | _ => s
  | .flush =>
    let s1 := if status = 0 then s else (s.denied r status).flushBad r.user pt status
    s1.flushBack r.user pt
  | .read => match r.user with
    | .slot c u k => if status = 0 then s.slotData c u k pt off data last else (s.denied r status).slotBad c u k pt x.1
    | _ => s
  | .atomic => match r.user with
    | .pkt q psn =>
      if status = 0 then s.atomicBack q psn 0 0 (leNat (data.take 8)) else (s.denied r status).atomicBack q psn x.1 x.2 0
    | _ => s

/-- The outstanding request of a port with a tag. -/
def State.npOf (s : State) (p tag : Nat) : Option NpReq := (s.nearOf p).np.find? (·.tag == tag)

/-- A completion arrives on port `p` (R66, R83): its request ends with the last part; an unknown TAG is counted, reported and
discarded. -/
def State.completion (s : State) (p : Nat) (m : NearMsg) : State :=
  match s.npOf p m.tag with
  | none => s.protocolError p 1 m.op m.tag
  | some r =>
    let last := m.op == 5 || m.last || m.status != 0
    let n := s.nearOf p
    let s1 := if last then s.setNear p { n with np := dropFirst (·.tag == m.tag) n.np } else s
    if last ∨ r.kind = .read then s1.npBack p r m.status (if m.op = 6 then m.opspec else 0) m.data last else s1

end Sys2Proof.Machine
end

