-- ==== Sys2Proof/Machine/NearPath.lean ====
section
/-! DEFINITION. Paths coming up and going down, endpoints and attachments (R56, R60, R69, R76 to R82, R94). -/

namespace Sys2Proof.Machine

open Sys2Proof

/-! Users whose path or endpoint is lost. -/

/-- A request of a user goes out again on path `q` (R78): what waits for its tag waits for the new one. -/
def State.retag (s : State) (u : User) (o n : Nat × Nat) : State :=
  let go (x : Nat × Nat) : Nat × Nat := if x = o then n else x
  match u with
  | .cqe cq =>
    let c := s.cqOf cq
    s.setCq cq { c with waiting := c.waiting.map (fun (e : Cqe) => { e with wait := e.wait.map go }) }
  | .pkt q _ =>
    let c := s.connOf q
    s.setConn q { c with recs := c.recs.map (fun (m : MsgRec) => { m with flush := m.flush.map go }) }
  | .op q _ => s.modSq q (fun (x : Sq) => { x with wbFlush := x.wbFlush.map (fun w => (w.1, w.2.map go)) })
  | .vis c i => s.setThr c i { s.thrOf c i with flush := (s.thrOf c i).flush.map go }
  | .slot c u k =>
    let v := s.slotOf c u k
    s.setSlot c u k { v with out := v.out.map (fun x => if (x.1, x.2.1) = o then (n.1, n.2, x.2.2) else x) }
  | _ => s

/-- A write of a user goes out again on path `p`, which joins DATA_PATHS of its message (R78). -/
def State.addPath (s : State) (u : Option User) (p : Nat) : State :=
  match u with
  | some (.pkt q psn) =>
    let c := s.connOf q
    s.setConn q { c with recs := c.recs.map (fun (m : MsgRec) => if m.psns.contains psn then { m with paths := setBit m.paths p } else m) }
  | some (.op q n) => s.updOp q n (fun o => { o with paths := setBit o.paths p })
  | some (.slot c u k) =>
    let i := (s.slotOf c u k).thread
    s.setThr c i { s.thrOf c i with wrote := setBit (s.thrOf c i).wrote p }
  | _ => s

/-- An atomic is lost with its path (R78): the operation ends with PATH_LOST, a walk begins again (log entry 40). -/
def State.lostAtomic (s : State) (r : NpReq) : State :=
  match r.user with
  | .pkt q psn => s.atomicBack q psn Code.pathLost 0 0
  | .walk id => match s.walkOf id with
    | some w => s.restartWalk w
    | none => s
  | _ => s

/-- A request to an endpoint that is gone ends (R80). -/
def State.goneReq (s : State) (p : Nat) (tag : Nat) (k : NpKind) (u : User) : State :=
  match k, u with
  | .flush, _ => s.flushBack u (p, tag)
  | .read, .slot c v j => s.slotBad c v j (p, tag) Code.hostGone
  | .atomic, .pkt q psn => s.atomicBack q psn Code.hostGone 0 0
  | _, .walk id => match s.walkOf id with
    | some w => State.applyFx (s.walkFail w Code.hostGone 0)
    | none => s
  | _, _ => s

/-! Path loss (R77 to R79). -/

/-- The attachments made through slot `e` that stand. -/
def State.attsAt (s : State) (e : Nat) : List Nat :=
  (s.atts.map Prod.fst).filter (fun a => a < 8192 && a % 8 == e && ((s.attOf a).st == .attached || (s.attOf a).st == .absent))

/-- A message that keeps its sequence number but carries nothing (R61). -/
def padMsg : NearMsg := { op := 0 }

/-- Sends again on path `q` what the lost path `p` still had: writes and page messages first, then reads; atomics are lost (R78).
In the replay buffer of `p` they leave a PAD, so that a path which resumes its sequence repeats nothing (log entry 41). -/
def State.reissue (s : State) (p q : Nat) : State :=
  let n := s.nearOf p
  let again (m : NearMsg) : Bool := m.op == 1 || m.op == 9 || m.op == 10
  let ps := ((n.replay.map (fun x => (x.2.1, x.2.2))) ++ n.waitP).filter (fun x => again x.1)
  let rs := n.np ++ n.waitNp
  let s1 := s.setNear p { n with replay := n.replay.map (fun x => (x.1, padMsg, none)), waitP := [], np := [], waitNp := [], unflushed := false }
  let s2 := ps.foldl (fun (s : State) x => (s.sendP q x.1 x.2).addPath x.2 q) s1
  rs.foldl (fun (s : State) r =>
    if r.kind = .atomic ∨ r.kind = .adUpdate then s.lostAtomic r
    else
      let t := (s.nearOf q).nextTag
      (s.sendNp q r.kind r.user r.msg).retag r.user (p, r.tag) (q, t)) s2

/-- A path goes down for cause 1 to 6 (R77): the first cause stands, the event goes to the provider, and its traffic moves to the
endpoint's other path or waits. -/
def State.pathDown (s : State) (p cause : Nat) : State :=
  let n := s.nearOf p
  let s1 := (s.setNear p { n with goodFlits := 0, ready := false, peerReady := false, capsSent := false, resting := false, wakes := 0, retryAsked := false }).wr
    Reg.MAC_NEAR_STATUS_FLIT_LOCK p 0
  if !s.on Reg.MAC_NEAR_STATUS_PATH_UP p then s1
  else
    let e := n.slot
    let s2 := ((s1.wr Reg.MAC_NEAR_STATUS_PATH_UP p 0).wr Reg.MAC_NEAR_STATUS_DOWN_REASON p (0x80 + cause)).inc Reg.MAC_NEAR_DOWN_COUNT p
    let s3 := s2.event provider Code.pathDown (0x80 + cause) (evObj 8 p) (n.epid.getD 0)
    match s3.upPaths e with
    | q :: _ => s3.reissue p q
    | [] => (s3.attsAt e).foldl (fun s a => s.setAtt a { s.attOf a with st := .absent }) s3

/-! An endpoint that is gone (R77, R80). -/

/-- Fences a queue pair (R80 steps 1 and 2): its operations are retired without completions. Answers how many. -/
def State.fenceQp (s : State) (q : Nat) : State × Nat :=
  let ops := (s.sqOf q).ops
  let n := (ops.filter (fun o => o.sqe.opcode ≠ 0x10)).length
  let s1 := ops.foldl (fun s o => s.releaseOp q o.serial) (s.dropPelOps q)
  let c := s1.connOf q
  let s2 := ((s1.dec Reg.TRN_RESP_REC_IN_USE 0 c.recs.length).setConn q c.dropWindows).modSq q
    (fun (x : Sq) => { x with phase := .none, bell := false, again := false, held := false, wbFlush := none })
  ((s2.wr Reg.TRN_QP_T0_STATE q Cst.fenced).setSched q Sched.fenced, n)

/-- Fences a completion ring (R80 step 1): what waits to be written is dropped. -/
def State.fenceCq (s : State) (n : Nat) : State :=
  (s.setCq n { s.cqOf n with fenced := true, waiting := [], armRead := false }).wr Reg.CQ_PEND_PENDING n 0

/-- Is a context's memory that of slot `e`? -/
def State.ctxAt (s : State) (e ten ctx : Nat) : Bool := match s.descOf ten ctx with
  | some d => s.rd Reg.XLT_CTX_DESC0_ENDPOINT d == e
  | none => false

/-- Ends the walks and fault records of slot `e` with HOST_GONE (R80 step 4, R102). -/
def State.goneXlt (s : State) (e : Nat) : State :=
  let s1 := (s.xlt.walks.filter (fun w => w.att == e)).foldl (fun s w => State.applyFx (s.walkFail w Code.hostGone 0)) s
  let s2 := (s1.xlt.faults.filter (fun f => f.2.att == e && f.2.st != .free)).foldl (fun s f =>
    let t := f.1 / 256
    let ws := (s.faultOf t (f.1 % 256)).waiters
    State.applyFx (s.freeFault t (f.1 % 256), { bad := ws.map (fun w => (w, Code.hostGone, 0)) })) s1
  let ds := (s2.listed Reg.XLT_CTX_DESC0_VALID).filter (fun d => s2.on Reg.XLT_CTX_DESC0_VALID d && s2.rd Reg.XLT_CTX_DESC0_ENDPOINT d == e)
  let s3 := ds.foldl (fun s d => s.dropContext (s.rd Reg.XLT_CTX_DESC1_TENANT d) (s.rd Reg.XLT_CTX_DESC1_CONTEXT d)) s2
  { s3 with xlt := { s3.xlt with invals := s3.xlt.invals.filter (fun v => v.slot != e) } }

/-- Ends everything that waits for an answer or a path of slot `e` (R80 steps 2 and 3). -/
def State.goneTraffic (s : State) (e : Nat) : State :=
  let ports := (List.range 8).filter (fun p => s.on Reg.MAC_NEAR_STATUS_ATTACH_VALID p && s.rd Reg.MAC_NEAR_STATUS_ATTACH p == e)
  let s1 := ports.foldl (fun (s : State) p =>
    let n := s.nearOf p
    let s2 := s.setNear p { n with replay := [], replays := 0, waitP := [], np := [], waitNp := [], unflushed := false }
    (n.np ++ n.waitNp).foldl (fun (s : State) r => s.goneReq p r.tag r.kind r.user) s2) s
  let held := (s1.epOf e).held
  held.foldl (fun (s : State) x => match x.1 with
    | some (k, u) => s.goneReq 8 0 k u
    | none => s) (s1.setEp e { s1.epOf e with held := [] })

/-- The regions, extents and pelotons in the memory of slot `e` (R80 steps 5 to 7). -/
def State.goneObjects (s : State) (e : Nat) : State :=
  let rs := (s.listed Reg.TRN_REG_D0_VALID).filter (fun i => s.on Reg.TRN_REG_D0_VALID i && !bit (s.rd Reg.TRN_REG_D0_RIGHTS i) 4 &&
    s.ctxAt e (s.rd Reg.TRN_REG_D0_TENANT i) (s.rd Reg.TRN_REG_D0_CONTEXT i))
  let s1 := rs.foldl (fun s i => s.wr Reg.TRN_REG_D0_REVOKED i 1) s
  let ps := s1.pels.filter (fun x => x.2.st != .free && s1.ctxAt e x.2.tenant x.2.ctx && (x.2.op.toList ++ x.2.waitOps).any (fun o => !o.localWin))
  ps.foldl (fun s x => s.pelLeave x.1 Code.hostGone) s1

/-- A number for an attachment that is GONE. -/
def State.deadAtt (s : State) (a : Nat) : Nat :=
  (((List.range (s.atts.length + 1)).map (fun k => a + 8192 * (k + 1))).find? (fun b => (s.attOf b).st == .none)).getD (a + 8192)

/-- An attachment becomes GONE (R79, R80 steps 6 and 8): its extents are preserved, with the retired operations noted. -/
def State.goneAtt (retired : List (Nat × Nat)) (s : State) (a : Nat) : State :=
  let t := a / 8
  let e := a % 8
  let at_ := s.attOf a
  let d := s.deadAtt a
  let s1 := (s.setAtt d { at_ with st := .gone, retired := retired.filter (fun x => s.qpTenant x.1 == t && x.2 != 0) }).setAtt a {}
  let xs := s1.extList.filter (fun n => s1.xst n == Xs.bound && s1.rd Reg.TEN_EXT0_TENANT n == t && s1.rd Reg.TEN_EXT0_ATTACH n == e)
  let s2 := xs.foldl (fun s n => (s.wr Reg.TEN_EXT0_STATE n Xs.preserved).setExt n { s.extOf n with att := some d }) s1
  let s3 := s2.event provider Code.hostGone 0 (evObj 4 a) at_.epid
  if s3.on Reg.ADM_DESC0_BOUND t ∧ s3.rd Reg.ADM_DESC0_ATTACH t ≠ e then s3.event t Code.hostGone 0 (evObj 4 a) at_.epid else s3

/-- The endpoint of slot `e` is gone (R77, R80): the actions of R80 for each of its attachments, and the provider's objects there
with them (log entry 27). -/
def State.goneEndpoint (s : State) (e : Nat) : State :=
  let qs := s.qpList.filter (fun q => s.rd Reg.QP_DESC0_ATTACH q == e && s.cst q != Cst.fenced)
  let f := qs.foldl (fun (r : State × List (Nat × Nat)) q => ((r.1.fenceQp q).1, r.2 ++ [(q, (r.1.fenceQp q).2)])) (s, [])
  let cs := (f.1.listed Reg.CQ_DESC0_VALID).filter (fun n => f.1.on Reg.CQ_DESC0_VALID n && f.1.rd Reg.CQ_DESC0_ATTACH n == e)
  let s1 := ((cs.foldl State.fenceCq f.1).goneTraffic e).goneXlt e
  let s2 := (s1.goneObjects e).releaseAll
  let bs := (s2.listed Reg.ADM_DESC0_BOUND).filter (fun t => s2.on Reg.ADM_DESC0_BOUND t && s2.rd Reg.ADM_DESC0_ATTACH t == e)
  let s3 := bs.foldl (fun s t => s.wr Reg.ADM_DESC0_BOUND t 0) s2
  let s4 := (s3.attsAt e).foldl (State.goneAtt f.2) s3
  let m := s4.mgmt.mbx.map (fun x => if x.2.epid = (s.epOf e).epid then (x.1, { x.2 with epid := 0 }) else x)
  { s4.setEp e {} with mgmt := { s4.mgmt with mbx := m.filter (fun x => x.2 ≠ {}) } }

/-! A path comes up (R69, R79, R94). -/

/-- The accelerator's READY: the path is up; what was held goes out. -/
def State.pathUp (s : State) (p : Nat) : State :=
  let n := s.nearOf p
  let e := n.slot
  let s1 := (s.setNear p { n with peerReady := true }).wr Reg.MAC_NEAR_STATUS_PATH_UP p 1
  let ep := s1.epOf e
  let s2 := if ep.up then s1
    else ((s1.wr Reg.XLT_INV_SEQ_LAST_RCVD e 0).wr Reg.XLT_INV_SEQ_LAST_ACKED e 0).setEp e { ep with up := true, invAny := false }
  let s3 := (s2.attsAt e).foldl (fun s a => s.setAtt a { s.attOf a with st := .attached }) s2
  let lost := (List.range 8).filter (fun q => q != p && s3.on Reg.MAC_NEAR_STATUS_ATTACH_VALID q && s3.rd Reg.MAC_NEAR_STATUS_ATTACH q == e &&
    !s3.on Reg.MAC_NEAR_STATUS_PATH_UP q)
  let s4 := lost.foldl (fun s q => s.reissue q p) s3
  let held := (s4.epOf e).held
  let s5 := State.releaseHeld e held (s4.setEp e { s4.epOf e with held := [] })
  State.ackInvals e s5.xlt.invals.length (s5.drainPath p)

/-! Bring-up (R68, R69). -/

/-- The CAPS that the DN9 sends (R62, R68). -/
def State.ownCaps (s : State) (p : Nat) : Caps :=
  { port := p, incarnation := s.mgmt.incarnation, ident := s.rd Reg.TRN_MODULE_ID, paBits := 0, pHdr := 512, pData := 4096, npHdr := 1024 }

/-- Sends CAPS once in a bring-up. -/
def State.sendCaps (s : State) (p : Nat) : State :=
  if (s.nearOf p).capsSent then s else (s.setNear p { s.nearOf p with capsSent := true }).emit (.caps p (s.ownCaps p))

/-- An LM message of the DN9 (R65). -/
def State.sendLm (s : State) (p sub reason : Nat) : State := s.emit (.near p { op := 0x10, opspec := sub + 256 * reason })

/-- The slot of an endpoint ID, and the lowest free slot. -/
def State.slotOfEp (s : State) (id : Nat) : Option Nat := (List.range 8).find? fun e => (s.epOf e).used && (s.epOf e).epid == id
def State.freeSlot (s : State) : Option Nat := (List.range 8).find? fun e => !(s.epOf e).used

/-- Why a CAPS is refused (R56, R69 step 4); 0 where it is accepted. -/
def State.capsReason (s : State) (p : Nat) (c : Caps) : Nat :=
  let act := (List.range 8).filter (fun q => q != p && (s.nearOf q).epid == some c.ident && ((s.nearOf q).ready || s.on Reg.MAC_NEAR_STATUS_PATH_UP q))
  if c.profile ≠ 1 ∨ c.ptf ≠ 1 then 1
  else if c.paBits < 40 ∨ 56 < c.paBits ∨ c.windowBase % 2 ^ 36 ≠ 0 ∨ 2 ^ c.paBits ≤ c.windowBase then 2
  else if act.any (fun q => (s.epOf (s.nearOf q).slot).windowBase != c.windowBase) then 3
  else if act.any (fun q => q != (p + 4) % 8) then 4
  else if c.features % 8 ≠ 7 then 5
  else if (s.slotOfEp c.ident).isNone ∧ s.freeSlot.isNone then 6
  else 0

/-- Takes the slot of an endpoint: a new INCARNATION makes the one before it gone (R77). Answers whether the link may resume its
flit sequence. -/
def State.takeSlot (s : State) (p : Nat) (c : Caps) : State × Nat × Bool :=
  let new (e : Nat) (s : State) : State :=
    s.setEp e { used := true, epid := c.ident, incarnation := c.incarnation, windowBase := c.windowBase, paBits := c.paBits }
  match s.slotOfEp c.ident with
  | some e =>
    if (s.epOf e).incarnation = c.incarnation then
      (s.setEp e { s.epOf e with windowBase := c.windowBase, paBits := c.paBits }, e, (s.nearOf p).epid == some c.ident && (s.nearOf p).slot == e)
    else (new e (s.goneEndpoint e), e, false)
  | none => match s.freeSlot with
    | some e => (new e (s.goneTraffic e), e, false)
    | none => (s, 0, false)

/-- CAPS of an accelerator (R68, R69 step 4; R77 cause 6). -/
def State.rxCaps (s : State) (p : Nat) (c : Caps) : State :=
  let s0 := match (s.nearOf p).epid with
    | some id => if id = c.ident then s
      else
        let t := s.pathDown p 6
        (t.setNear p { rxSeq := (t.nearOf p).rxSeq, txSeq := (t.nearOf p).txSeq }).wr Reg.MAC_NEAR_STATUS_ATTACH_VALID p 0 |>.wr Reg.MAC_NEAR_STATUS_FLIT_LOCK p 1
    | none => s
  let s1 := s0.sendCaps p
  let why := s1.capsReason p c
  if why ≠ 0 then (s1.wr Reg.MAC_NEAR_STATUS_DOWN_REASON p why).sendLm p 3 why
  else
    let r := s1.takeSlot p c
    let n := r.1.nearOf p
    let n' : Near := if r.2.2 then n
      else { txSeq := n.txSeq, rxSeq := n.rxSeq, malfAt := n.malfAt, crdP := c.pHdr, crdD := c.pData, crdNp := c.npHdr }
    (((r.1.setNear p { n' with epid := some c.ident, slot := r.2.1, ready := true, capsSent := true }).wr Reg.MAC_NEAR_STATUS_ATTACH p r.2.1).wr
      Reg.MAC_NEAR_STATUS_ATTACH_VALID p 1).sendLm p 2 0

/-! The link layer (R59, R60, R82, R436). -/

/-- A flit with a good FCRC, outside rest: flit lock after 8 in a row, and CAPS (R69 steps 2 and 3). -/
def State.goodFlit (s : State) (p : Nat) : State :=
  let n := s.nearOf p
  let s1 := (s.pmc 15 0x71 none).setNear p { n with goodFlits := n.goodFlits + 1, resting := false, wakes := 0 }
  let s2 := if n.resting then s1.drainPath p else s1
  if s2.on Reg.MAC_NEAR_STATUS_FLIT_LOCK p ∨ !s2.on Reg.MAC_NEAR_STATUS_FEC_LOCK p ∨ n.goodFlits + 1 < 8 then s2
  else (s2.wr Reg.MAC_NEAR_STATUS_FLIT_LOCK p 1).sendCaps p

/-- A flit that is discarded: counted, and answered once with RETRY_REQ. -/
def State.badFlit (s : State) (p : Nat) : State :=
  let n := s.nearOf p
  let s1 := (s.count Reg.MAC_NEAR_FCRC_ERR_COUNT p).setNear p { n with goodFlits := 0, retryAsked := s.on Reg.MAC_NEAR_STATUS_FLIT_LOCK p }
  if n.retryAsked ∨ !s.on Reg.MAC_NEAR_STATUS_FLIT_LOCK p then s1 else s1.emit (.retryReq p)

/-- ACK of the partner: everything sent up to it leaves the replay buffer; waiting messages may go. -/
def State.linkAck (s : State) (p ack : Nat) : State :=
  let n := s.nearOf p
  if !n.replay.any (fun x => x.1 == ack) then s
  else
    let l := (n.replay.dropWhile (fun x => x.1 != ack)).tail
    (s.setNear p { n with replay := l, replays := 0 }).drainPath p

/-- RETRY_REQ: a replay from ACK + 1; how often the same flit has been first in one is kept. The messages themselves are listed
as sent once (log entry 42). -/
def State.retryReq (s : State) (p ack : Nat) : State :=
  let s1 := s.linkAck p ack
  let n := s1.nearOf p
  match n.replay with
  | [] => s1
  | x :: _ =>
    ((s1.count Reg.MAC_NEAR_REPLAY_COUNT p).pmc 15 0x72 none n.replay.length).setNear p { n with replayHead := x.1, replays := if n.replays ≠ 0 ∧ n.replayHead = x.1 then n.replays + 1 else 1 }

/-- Puts the near ports to rest that may be (R436). -/
def State.restPort (s : State) (p : Nat) : State :=
  let n := s.nearOf p
  if s.on Reg.MAC_NEAR_STATUS_PATH_UP p ∧ n.replay = [] ∧ n.np = [] then s.setNear p { n with resting := true, wakes := 0 } else s

/-- A resting port wakes (R82). -/
def State.wakePort (s : State) (p : Nat) : State :=
  let n := s.nearOf p
  if n.resting then (s.setNear p { n with resting := false, wakes := 0 }).drainPath p else s

end Sys2Proof.Machine
end

