-- ==== Sys2Proof/Machine/ResetOps.lean ====
section
/-! DEFINITION. Resets (R8, R19, R30, R81, R205, R222, R345), start-up tests (R409, R479), boot (R386 to R388), Kilurn's
bring-up (R387), management restarts (R370, R371), and the loss of power (R427, R441). -/

namespace Sys2Proof.Machine

open Sys2Proof

/-! Registers. -/

/-- Every register field. -/
def allFields : List Fld := (List.range 19).flatMap Reg.blockFields ++ Reg.hidden

/-- Puts the registers of some domains back to their reset values (R19). -/
def State.clearRegs (s : State) (p : Dom → Bool) : State :=
  let gone := (allFields.filter (fun f => p f.dom)).map Fld.key
  { s with regs := s.regs.filter (fun e => !gone.contains e.1) }

/-! What each reset keeps. -/

/-- The management processor after a reset of its domain: flash, certificate, keys and life-cycle store stay. -/
def Mgmt.afterReset (m : Mgmt) : Mgmt :=
  { flash := m.flash, cert := m.cert, identPub := m.identPub, kaPub := m.kaPub, advance := m.advance, rom := m.rom,
    incarnation := m.incarnation }

/-- The power controller after a reset of its domain: the contacts and what is measured stay, with the shutdown cause, which
the SMBus responder holds until AUX_3V3 rises (R470). -/
def Pwr.afterReset (p : Pwr) : Pwr :=
  { off := p.off, seq := p.seq, aux := p.aux, en := p.en, rst := p.rst, cause := p.cause, rail := p.rail, refclk := p.refclk,
    vin := p.vin, auxMv := p.auxMv, temps := p.temps }

/-- A new INCARNATION, other than the last (R68, R81); which, the spec does not state: a free value (log entry 1). -/
def State.newIncarnation (s : State) : State :=
  { s with fresh := s.fresh + 1,
           mgmt := { s.mgmt with incarnation := (s.mgmt.incarnation + 1 + s.free 32 % (2 ^ 32 - 1)) % 2 ^ 32 } }

/-- A new key-agreement key pair (R357): its public half is a free value (log entry 1). -/
def State.newKeyPair (s : State) : State :=
  { s with fresh := s.fresh + 1, mgmt := { s.mgmt with kaPub := leBytes 64 (s.free 512) } }

/-- The extents as a warm reset leaves them (R332, R345): number, state, tenant, base and length. -/
def State.warmExts (s : State) : List (Nat × Nat × Nat × Nat × Nat) :=
  s.extList.map fun n =>
    let keep := (s.xst n == Xs.bound || s.xst n == Xs.preserved) && s.on Reg.TEN_EXT0_KEEP n
    (n, if keep || s.xst n == Xs.kept then Xs.kept else Xs.wiping, s.rd Reg.TEN_EXT0_TENANT n, s.rd Reg.TEN_EXT1_BASE_UNIT n, s.rd Reg.TEN_EXT1_UNITS n)

/-- Drops the frames for the transport that wait in ingress buffers (R19). -/
def State.dropLocal (s : State) : State :=
  (s.far.map Prod.fst).foldl (fun s n =>
    let l := (s.farOf n).ingress
    (s.count Reg.FWP_LOCAL_DROP_COUNT 0 (l.filter (·.toUs)).length).setFar n { s.farOf n with ingress := l.filter (fun (f : Frame) => !f.toUs) }) s

/-- The main domain is reset (R19, R81, R205, R345): `keep` tells that extents marked keep survive. Scheduled events owned by
its objects go with them. -/
def State.resetMain (s : State) (keep : Bool) : State :=
  let exts := if keep then s.warmExts else []
  let kept (a : Nat) : Bool := exts.any (fun x => x.2.1 == Xs.kept && decide (x.2.2.2.1 * unitBytes ≤ a) && decide (a < (x.2.2.2.1 + x.2.2.2.2) * unitBytes))
  let t := s.traffic
  let s1 := s.clearRegs (fun d => d == .main)
  let s2 := { s1 with
    gddr := s.gddr.filter (fun e => kept e.1)
    near := [], eps := [], atts := [], xlt := {}, sqs := [], cqs := [], adms := [], conns := [], cip := {}
    traffic := { gateBase := t.gateBase, gateCycle := t.gateCycle, gateLen := t.gateLen, gateOpen := t.gateOpen, gateStopped := t.gateStopped }
    pels := [], clus := [], ten := { images := s.ten.images }
    board := { s.board with res := {}, pmc := {}, marks := s.board.marks.filter (fun m => m.1 == 4) }
    armed := s.armed.filter (fun e => e.kind == EvKind.swap) }
  (exts.foldl (fun (s : State) (x : Nat × Nat × Nat × Nat × Nat) => ((((s.wr Reg.TEN_EXT0_STATE x.1 x.2.1).put Reg.TEN_EXT0_KEEP x.1 (x.2.1 == Xs.kept)).wr Reg.TEN_EXT0_TENANT x.1 x.2.2.1).wr
    Reg.TEN_EXT1_BASE_UNIT x.1 x.2.2.2.1).wr Reg.TEN_EXT1_UNITS x.1 x.2.2.2.2) s2).dropLocal.showWipe

/-- The management domain is reset (R19); its pages, journals and logs go, and a life-cycle change that is not yet recorded
(R391). -/
def State.resetMgmt (s : State) : State :=
  let s1 := s.clearRegs (fun d => d == .mgmt)
  let a := if s.on Reg.LCS_STATE_PENDING then s.mgmt.advance else none
  { s1 with mgmt := { s.mgmt.afterReset with advance := a }, board := { s1.board with pwr := s.board.pwr.afterReset } }

/-- A warm reset up to the boot (R19, R30, R222): the freewheel domain runs on and holds its forwarding, with the module's
number as it was (log entry 38). `keep` is 0 in the reset that ends a life-cycle change (R391 step 5). -/
def State.warmReset (s : State) (keep : Bool) : State :=
  let id := s.fwId
  let s1 := (s.resetMain keep).resetMgmt.newIncarnation
  let s2 := s1.modLanes (fun (l : Lanes) => { l with kept := some id })
  if s2.rd Reg.FWP_STATUS_STATE = 1 then ((s2.wr Reg.FWP_STATUS_STATE 0 2).count Reg.FWP_HOLD_COUNT_COUNT).setMark 7 s2.now else s2

/-- The contents of every domain but the management domain are lost (R19, R344, R428). -/
def State.loseMain (s : State) : State :=
  let s1 := (s.resetMain false).clearRegs (fun d => d == .freewheel)
  { s1 with far := [], traffic := {}, armed := [], ten := {},
            board := { s1.board with cad := {}, lanes := {}, marks := [] } }

/-- A cold reset up to the boot (R19, R30, R357, R426). -/
def State.coldReset (s : State) : State :=
  ((s.loseMain.resetMgmt.clearRegs (fun d => d == .alert)).newIncarnation.newKeyPair).inc Reg.LCS_BOOT_COLD_BOOTS

/-- The VIN domains lose their power (R427, R441): the module is OFF. -/
def State.powerOff (s : State) (seq : RailSeq) : State :=
  s.loseMain.modPwr (fun (p : Pwr) => { p.afterReset with off := true, seq })

/-! Start-up tests (R409, R479). -/

/-- The lowest-numbered units of a kind that pass serve, up to `k`; the rest are spares. -/
def State.assignKind (s : State) (kind k : Nat) (bad : Nat → Bool) : State :=
  let n := unitCount kind
  let s1 := ((List.range n).filter (fun i => decide (k ≤ i))).foldl (fun s i => s.setUnit (unitNo kind i) 1) s
  let ok := ((List.range n).filter (fun i => !bad i)).take k
  (List.range n).foldl (fun s i => s.setUnit (unitNo kind i) (if bad i then 3 else if ok.contains i then 0 else 1)) s1

/-- The clusters: one whose array or sprocket fails is fenced; one with a failed core serves where none without is left. -/
def State.assignClusters (s : State) (failed : List Nat) : State :=
  let bad (c : Nat) : Bool := [0, 3, 4].any (fun k => failed.contains (unitNo k c))
  let hurt (c : Nat) : Bool := (List.range 4).any (fun k => failed.contains (unitNo 1 (4 * c + k)))
  let good := (List.range 10).filter (fun c => !bad c)
  let serve := (good.filter (fun c => !hurt c) ++ good.filter hurt).take 8
  let s1 := [8, 9].foldl (fun s c => s.setUnit (unitNo 0 c) 1) s
  (List.range 10).foldl (fun s c =>
    let cores := (List.range 4).filter (fun k => failed.contains (unitNo 1 (4 * c + k)))
    let s2 := cores.foldl (fun s k => (((s.setUnit (unitNo 1 (4 * c + k)) 3).wr Reg.CLU_STATUS_CORES_FENCED c
      (setBit (s.rd Reg.CLU_STATUS_CORES_FENCED c) k)).wr Reg.CLU_CTRL_CORE_EN c (clrBit (s.rd Reg.CLU_CTRL_CORE_EN c) k))) s
    let s3 := [3, 4].foldl (fun s k => if failed.contains (unitNo k c) then s.setUnit (unitNo k c) 3 else s) s2
    if serve.contains c then (s3.setCluster c 1).setUnit (unitNo 0 c) 0
    else if bad c ∨ hurt c then (s3.setCluster c 3).setUnit (unitNo 0 c) 3
    else (s3.setCluster c 0).setUnit (unitNo 0 c) 1) s1

/-- The banks of a cluster: the spare serves for the first that fails; another stays in service (R407). -/
def State.assignBanks (s : State) (failed : List Nat) (c : Nat) : State :=
  let bad (b : Nat) : Bool := failed.contains (unitNo 2 (17 * c + b))
  let s1 := s.setUnit (unitNo 2 (17 * c + 16)) 1
  match (List.range 16).find? bad with
  | none => if bad 16 then s1.setUnit (unitNo 2 (17 * c + 16)) 3 else s1
  | some b =>
    if bad 16 then s1.setUnit (unitNo 2 (17 * c + 16)) 3
    else (((s1.setUnit (unitNo 2 (17 * c + b)) 3).setUnit (unitNo 2 (17 * c + 16)) 0).wr Reg.CLU_BANK_MAP_PHYS (ix c b) 16).wr Reg.CLU_BANK_MAP_SPARED (ix c b) 1

/-- The GDDR7 devices: the spares serve for those that fail, as far as they reach; another stays in service (R407). -/
def State.assignDevices (s : State) (failed : List Nat) : State :=
  let bad (d : Nat) : Bool := failed.contains (unitNo 7 d)
  let fence (s : State) (d : Nat) : State := ((s.setUnit (unitNo 7 d) 3).wr Reg.MEM_DEV_STATE d 3).wr Reg.MEM_DEV_LOGICAL d 0x1F
  let s1 := [16, 17].foldl (fun s d => s.setUnit (unitNo 7 d) 1) s
  let s2 := ([16, 17].filter bad).foldl fence s1
  (List.zip ((List.range 16).filter bad) ([16, 17].filter (fun d => !bad d))).foldl (fun s x =>
    (((fence s x.1).setUnit (unitNo 7 x.2) 0).wr Reg.MEM_DEV_STATE x.2 0).wr Reg.MEM_DEV_LOGICAL x.2 x.1) s2

/-- The lanes: those that fail are fenced; the state of each follows MAC_LANE_MAP and MAC_SPARE_CFG. Far lanes are tested at a
cold reset only. -/
def State.assignLanes (s : State) (failed : List Nat) (cold : Bool) : State :=
  let bad := (List.range 72).filter (fun l => (cold || decide (36 ≤ l)) && failed.contains (laneUnit l))
  (List.range 72).foldl (fun s l =>
    let v := match (List.range 8).find? (fun k => spareLane k == l) with
      | some k => if s.rd Reg.MAC_SPARE_CFG_STATE k = 0 then 1 else if s.rd Reg.MAC_SPARE_CFG_STATE k = 4 then 3 else 0
      | none => if s.on Reg.MAC_LANE_MAP_FENCED l then 3 else if s.rd Reg.MAC_LANE_MAP_PHYS l = l then 0 else 1
    s.setUnit (laneUnit l) v) (bad.foldl State.fenceLane s)

/-- The start-up tests and the assignment they make. -/
def State.startupTests (s : State) (failed : List Nat) (cold : Bool) : State :=
  let s1 := (s.assignClusters failed)
  let s2 := (List.range 10).foldl (fun s c => s.assignBanks failed c) s1
  let s3 := (s2.assignKind 5 28 (fun i => failed.contains (unitNo 5 i))).assignKind 6 14 (fun i => failed.contains (unitNo 6 i))
  let s4 := (s3.assignDevices failed).assignLanes failed cold
  let s5 := s4.modRes (fun (r : Res) => { r with wires := ((List.range 4).filter (fun k => failed.contains (unitNo 10 k))).map (fun k => (k, 1)) })
  (List.range 11).foldl State.reviewClass s5

/-! Boot (R386 to R388, R391). -/

/-- Makes a pending life-cycle transition good (R390, R391 step 4): the store takes the new state, the lock and the owner key. -/
def State.commitLife (s : State) : State :=
  match s.mgmt.advance with
  | none => s
  | some (target, owner) =>
    let s1 := ((s.wr Reg.LCS_STATE_STATE 0 target).put Reg.LCS_STATE_LOCK 0 (target == 2)).wr Reg.LCS_STATE_PENDING 0 0
    let s2 := if target = 1 then s1.setQuad Reg.LCS_OWNER_HASH owner else if target = 3 then s1.setQuad Reg.LCS_OWNER_HASH (List.replicate 32 0xFF) else s1
    s2.modMgmt (fun (m : Mgmt) => { m with advance := none })

/-- The full wipe of R344, key stores included. -/
def State.fullWipe (s : State) : State :=
  let t := s.resetMain false
  { t with cip := {} }

/-- Why an image fails (R387 step 4, R388); 0 where it is good. -/
def State.imageFault (s : State) (img : List Byte) (signer : Option Nat) (sigOk : Bool) : Nat :=
  let bodyLen := leAt img 16 4
  let pub := (img.drop 96).take 64
  let unknownKey : Bool := match signer with
    | some 0 => s.on Reg.LCS_STATE_KEY0_REVOKED
    | some 1 => false
    | _ => true
  if leAt img 0 4 ≠ 0x4B1C0009 then 1
  else if leAt img 4 2 ≠ 1 ∨ leAt img 6 2 ≠ 256 ∨ 4193984 < bodyLen ∨ img.length ≠ 320 + bodyLen ∨ bodyLen ≤ leAt img 20 4 ∨
      bodyLen < leAt img 24 4 + leAt img 28 4 then 2
  else if (img.drop 64).take 32 ≠ sha256 pub ∨ unknownKey then 3
  else if (img.drop 32).take 32 ≠ sha256 ((img.drop 256).take bodyLen) then 4
  else if !sigOk then 5
  else if leAt img 12 4 < s.rd Reg.LCS_SVN_MIN then 6
  else 0

/-- Step 5 of R387: Kilurn starts, M_CONFIG at zeros (R395) and the hold of KEPT extents running (R345). -/
def State.takeImage (s : State) (img : List Byte) (signer : Option Nat) : State :=
  let s1 := ((s.setQuad Reg.LCS_M_IMAGE (sha256 img)).wr Reg.MBX_FW_VERSION 0 (leAt img 8 4)).wr Reg.MBX_FW_SVN 0 (leAt img 12 4)
  let s2 := (s1.wr Reg.LCS_SVN_RUNNING 0 (leAt img 12 4)).modMgmt (fun (m : Mgmt) => { m with image := img, signer, recovery := none })
  { s2 with ten := { s2.ten with keepFrom := some s2.now } }

/-- A failed image (R388): recovery, with the main domain held in reset. -/
def State.enterRecovery (s : State) (reason : Nat) (cold : Bool) : State :=
  (((s.wr Reg.LCS_BOOT_IMAGE_FAIL_REASON 0 reason).wr Reg.MBX_KILURN_STATE 0 3).wr Reg.RES_ALERT_RECOVERY 0 1).modMgmt
    (fun (m : Mgmt) => { m with recovery := some { cold } })

/-- The boot ROM (R387): a pending transition first, then the image; the start-up tests end before READY (R409). -/
def State.boot (s : State) (b : Boot) (cold : Bool) : State :=
  let s1 := if s.on Reg.LCS_STATE_PENDING then s.fullWipe.commitLife.newKeyPair.clearRegs (fun d => d == .alert) else s
  let img := s1.mgmt.flash.getD b.image
  let s2 := s1.modMgmt (fun (m : Mgmt) => { m with flash := some img })
  let why := s2.imageFault img b.signer b.sigOk
  if why ≠ 0 then s2.enterRecovery why cold
  else if s2.board.pwr.off then s2.takeImage img b.signer
  else (s2.startupTests b.failed cold).takeImage img b.signer

/-! Kilurn's bring-up (R387). -/

/-- The program stores and the service program of every cluster in service (R229, R260). -/
def State.startClusters (s : State) : State :=
  let img := s.mgmt.image
  let code := (img.drop (256 + leAt img 24 4)).take (leAt img 28 4)
  let s1 := (List.range 10).foldl (fun s c => s.loadCode c 0 code) s
  s1.serving.foldl (fun s c => s.writeCluCtrl c (1 + 16 * s.rd Reg.CLU_CTRL_CORE_EN c)) s1

/-- The commands a management restart interrupted (R372): those begun and not answered. -/
def State.interrupted (s : State) : Nat := (s.mgmt.mbx.filter (fun e => e.2.waiting)).length + (s.adms.filter (fun e => e.2.busy)).length

/-- Kilurn is ready after a boot. -/
def State.readyBoot (s : State) : State :=
  let s1 := (s.wr Reg.MBX_KILURN_STATE 0 1).modLanes (fun (l : Lanes) => { l with kept := none })
  let s2 := s1.wr Reg.LCS_SVN_MIN 0 (max (s1.rd Reg.LCS_SVN_MIN) (leAt s1.mgmt.image 12 4))
  let s3 := if s2.mgmt.signer = some 1 ∧ leAt s2.mgmt.image 160 1 % 2 = 1 then s2.wr Reg.LCS_STATE_KEY0_REVOKED 0 1 else s2
  if s3.board.pwr.off then s3 else s3.startClusters

/-- KILURN_READY: at the end of a boot or of a management restart, while a core is left. -/
def State.kilurnReady (s : State) : State :=
  if s.rd Reg.MBX_KILURN_CORES_FENCED = 15 ∨ !s.board.pwr.aux then s
  else if s.rd Reg.MBX_KILURN_STATE = 0 ∧ s.mgmt.image ≠ [] ∧ s.board.pwr.rst < 2 then s.readyBoot
  else if s.rd Reg.MBX_KILURN_STATE = 2 then
    (s.count Reg.MBX_JOURNAL_RERUN_COUNT 0 s.interrupted).wr Reg.MBX_KILURN_STATE 0 1
  else s

/-! Management restarts (R370, R371). -/

/-- A management restart: working memory and staging buffer are zeroed; where the image copy does not match its measurement,
a warm reset instead. -/
def State.mgmtRestart (s : State) (copyOk : Bool) (b : Boot) : State :=
  let s1 := s.count Reg.MBX_RESTART_COUNT_COUNT
  if !copyOk then (s1.warmReset true).boot b false
  else (s1.wr Reg.MBX_KILURN_STATE 0 2).modMgmt (fun (m : Mgmt) => { m with stage := [], chals := [], lcChal := none })

/-- Did this core fault within the last hour (R371)? -/
def State.faultedLately (s : State) (k : Nat) : Bool :=
  s.mgmt.faults.any (fun e => e.1 == k && decide (s.now < e.2 + 3600000000000))

/-- Fences a core of the management processor; with the last, the module asks to be replaced. -/
def State.fenceMgmtCore (s : State) (k : Nat) : State :=
  let s1 := ((s.wr Reg.MBX_KILURN_CORES_FENCED 0 (setBit (s.rd Reg.MBX_KILURN_CORES_FENCED) k)).wr Reg.RES_UNIT_STAT_STATE
    (unitNo 11 k) 3).fencedEvent (unitNo 11 k) 2
  if s1.rd Reg.MBX_KILURN_CORES_FENCED = 15 then s1.raiseReplace Reg.RES_REPLACE_MGMT 0 else s1

/-- A fault of a core: reported, the core fenced at its second fault within an hour, then a management restart (R371). -/
def State.coreFault (s : State) (core : Nat) (copyOk : Bool) (b : Boot) (cls : Nat) : State :=
  let k := core % 4
  let s1 := (s.logReport (unitNo 11 k) cls true false).modMgmt (fun (m : Mgmt) => { m with faults := Tbl.put k s.now m.faults })
  (if s.faultedLately k then s1.fenceMgmtCore k else s1).mgmtRestart copyOk b

end Sys2Proof.Machine
end

