-- ==== Sys2Proof/Machine/Resets.lean ====
section
/-! DEFINITION. Resets, boot, recovery (R19, R387, R389), and the power-up sequence and contacts (R464, R467, R469, R470). -/

namespace Sys2Proof.Machine

open Sys2Proof

/-- COLD_RESET (R19). -/
def execColdReset (b : Boot) (s : State) : Result := .next (s.coldReset.boot b true)

/-- WARM_RESET (R19): from CROCUS or REST the module first wakes (R439), and the reset then clears what that shows. -/
def execWarmReset (b : Boot) (s : State) : Result := .next ((s.warmReset true).boot b false)

/-- KILURN_READY (R387, R371). -/
def execKilurnReady (s : State) : Result := .next s.kilurnReady

/-! Recovery (R389). -/

/-- A block of the recovery protocol. -/
def recoveryBlock : Nat := 4096

/-- Asks the responder for the next block. -/
def State.askBlock (s : State) (r : Recovery) : State :=
  s.emit (.recovery r.responder r.data.length (min recoveryBlock (r.len - r.data.length)))

def State.setRecovery (s : State) (r : Recovery) : State := s.modMgmt (fun (m : Mgmt) => { m with recovery := some r })

/-- RECOVERY_REQUEST_TIMER: REQUEST for offset 0, to all, while no responder is fixed. -/
def execRecoveryRequestTimer (s : State) : Result :=
  .next (match s.mgmt.recovery with
  | some r => if r.responder.isNone then s.emit (.recovery none 0 recoveryBlock) else s
  | none => s)

/-- All bytes are in hand (R389 steps 5 to 7): a good image is written to flash and booted. -/
def State.recovered (s : State) (r : Recovery) (b : Boot) : State :=
  if s.imageFault r.data b.signer b.sigOk ≠ 0 then (s.count Reg.LCS_BOOT_RECOVERY_ATTEMPTS).setRecovery { cold := r.cold }
  else
    let s1 := ((s.wr Reg.LCS_BOOT_RECOVERED 0 1).wr Reg.RES_ALERT_RECOVERY 0 0).wr Reg.MBX_KILURN_STATE 0 0
    (s1.modMgmt (fun (m : Mgmt) => { m with flash := some r.data, recovery := none })).boot b r.cold

/-- RECOVERY_DATA: the first answer fixes the responder and the length; a block that was not asked for changes nothing. `b`
tells what verifying the whole image finds. -/
def execRecoveryData (src offset len : Nat) (data : List Byte) (b : Boot) (s : State) : Result :=
  .next (match s.mgmt.recovery with
  | none => s
  | some r =>
    let r0 := if r.responder.isNone then { r with responder := some src, len, data := [], retries := 0 } else r
    let d := data.take (min recoveryBlock (r0.len - r0.data.length))
    if r0.responder ≠ some src ∨ offset ≠ r0.data.length ∨ d = [] then s
    else
      let r1 := { r0 with data := r0.data ++ d, retries := 0 }
      if r1.len ≤ r1.data.length then s.recovered r1 b else (s.setRecovery r1).askBlock r1)

/-- RECOVERY_BLOCK_TIMEOUT: the block is asked for again, 8 times at most; then the protocol starts afresh. -/
def execRecoveryBlockTimeout (s : State) : Result :=
  .next (match s.mgmt.recovery with
  | none => s
  | some r =>
    if r.responder.isNone then s
    else if r.retries < 8 then (s.setRecovery { r with retries := r.retries + 1 }).askBlock r
    else s.setRecovery { cold := r.cold })

/-! The supplies (R464, R469). -/

/-- The rails in the order they are raised: VDD_SDS, VDD_PORT, VDD_CSRAM, VDD_MIF, VDD_CMP, VDD_G7. -/
def railOrder : List Nat := [5, 4, 1, 2, 0, 3]

/-- AUX_3V3_RISE (R469 step 1): the management domain and the SMBus responder leave reset, the module OFF. -/
def execAux3v3Rise (mv : Nat) (b : Boot) (s : State) : Result :=
  .next (if s.board.pwr.aux then s
  else
    let s1 := (s.loseMain.resetMgmt.clearRegs (fun d => d == .alert)).newIncarnation
    let s2 := s1.modPwr (fun (p : Pwr) => { p with off := true, aux := true, auxMv := mv, cause := 0, rail := 0, seq := if p.en then .waitVin else .idle })
    (s2.modBoard (fun (x : Board) => { x with jtag := {} })).boot b true)

/-- AUX_3V3_LOSS (R464): the VIN rails go with it, and Kilurn stops. -/
def execAux3v3Loss (mv : Nat) (s : State) : Result :=
  .next (if !s.board.pwr.aux ∨ 2900 ≤ mv then s
  else
    let s1 := if s.board.pwr.off then s.modPwr (fun (p : Pwr) => { p with seq := .idle })
      else (s.powerOff .idle).modPwr (fun (p : Pwr) => { p with cause := 3 })
    (s1.modPwr (fun (p : Pwr) => { p with aux := false, auxMv := mv })).wr Reg.MBX_KILURN_STATE 0 0)

/-- The trip levels of the four sensors, in 1/16 C (R476). -/
def tripLevels : List Int := [1760, 1840, 1840, 1600]

/-- MOD_PWR_EN_RISE (R464, R469): the controller waits for VIN; after a thermal trip only if every sensor is 10 C below its trip
level (R476). -/
def execModPwrEnRise (temps : List Int) (s : State) : Result :=
  let cool : Bool := (List.zip temps tripLevels).all (fun x => decide (x.1 ≤ x.2 - 160))
  .next (if s.board.pwr.en then s
  else
    let go : Bool := s.board.pwr.off && s.board.pwr.aux && (s.board.pwr.cause != 1 || cool)
    s.modPwr (fun (p : Pwr) => { p with en := true, temps := temps, seq := if go then .waitVin else p.seq }))

/-- MOD_PWR_EN_FALL (R469): the module is OFF, with no shutdown cause of its own. -/
def execModPwrEnFall (s : State) : Result :=
  .next (if s.board.pwr.off then s.modPwr (fun (p : Pwr) => { p with en := false, seq := .idle })
  else (s.powerOff .idle).modPwr (fun (p : Pwr) => { p with en := false, cause := 0 }))

/-- VIN_START_LEVEL (R464): VIN, in 10 mV, is at 39.0 V or above. -/
def execVinStartLevel (vin : Nat) (s : State) : Result :=
  .next (if s.board.pwr.seq = .waitVin ∧ s.board.pwr.en ∧ 3900 ≤ vin then s.modPwr (fun (p : Pwr) => { p with vin, seq := .raising 0 }) else s)

/-- RAIL_POWER_GOOD (R469 steps 3 and 4): the next rail in turn, or after the last a cold reset, which a low MOD_RST_N holds
(R470). -/
def execRailPowerGood (b : Boot) (s : State) : Result :=
  .next (match s.board.pwr.seq with
  | .raising k =>
    if k < 5 then s.modPwr (fun (p : Pwr) => { p with seq := .raising (k + 1) })
    else
      let s1 := (s.modPwr (fun (p : Pwr) => { p with seq := .up, off := false })).coldReset
      if s1.board.pwr.rst = 0 then s1.boot b true else s1.modPwr (fun (p : Pwr) => { p with rst := 3 })
  | _ => s)

/-- RAIL_START_TIMEOUT (R464): the sequence stops; the SMBus shows the rail. -/
def execRailStartTimeout (s : State) : Result :=
  .next (match s.board.pwr.seq with
  | .raising k => s.modPwr (fun (p : Pwr) => { p with seq := .stopped, cause := 2, rail := railOrder.getD k 0 })
  | _ => s)

/-! MOD_RST_N (R470). -/

/-- MOD_RST_N_FALL. -/
def execModRstNFall (s : State) : Result := .next (if s.board.pwr.rst = 0 then s.modPwr (fun (p : Pwr) => { p with rst := 1 }) else s)

/-- MOD_RST_N_WARM_TIMER: 100 us low; the warm reset is held until the pin rises. -/
def execModRstNWarmTimer (s : State) : Result :=
  .next (if s.board.pwr.rst = 1 then (s.modPwr (fun (p : Pwr) => { p with rst := 2 })).warmReset true else s)

/-- MOD_RST_N_COLD_TIMER: 100 ms low; the freewheel domain is reset as well. -/
def execModRstNColdTimer (s : State) : Result :=
  .next (if s.board.pwr.rst = 2 then (s.modPwr (fun (p : Pwr) => { p with rst := 3 })).coldReset else s)

/-- MOD_RST_N_RISE: the reset that is held runs; a pulse shorter than 100 us is ignored. -/
def execModRstNRise (b : Boot) (s : State) : Result :=
  let r := s.board.pwr.rst
  let s1 := s.modPwr (fun (p : Pwr) => { p with rst := 0 })
  .next (if r < 2 then s1 else s1.boot b (r == 3))

/-! REFCLK (R467). -/

/-- REFCLK_LOSS: the jitter cleaner holds its frequency and reports. -/
def execRefclkLoss (s : State) : Result :=
  .next (if s.board.pwr.refclk then (s.modPwr (fun (p : Pwr) => { p with refclk := false })).logReport (unitNo 13 0) 7 true false else s)

/-- REFCLK_RETURN. -/
def execRefclkReturn (s : State) : Result := .next (s.modPwr (fun (p : Pwr) => { p with refclk := true }))

end Sys2Proof.Machine
end

