-- ==== Sys2Proof/Machine/PowerOps.lean ====
section
/-! DEFINITION. The power controller (R427 to R443): steps and states, rails, entry and exit of CROCUS and REST, dips. -/

namespace Sys2Proof.Machine

open Sys2Proof

/-! Steps and voltages (R430 to R432). -/

/-- VDD_CMP, in mV, that each step of the core clock needs (R430). -/
def stepMv : List Nat := [650, 670, 690, 710, 725, 745, 765, 785, 800]

/-- VDD_CMP for a step in RUN (0) or TRIM (1). -/
def mvFor (k st : Nat) : Nat := max (stepMv.getD k 800) (if st = 0 then 785 else 725)

/-- The step of a state: 8 in RUN, 4 in TRIM. -/
def stepOf (st : Nat) : Nat := if st = 0 then 8 else 4

/-- The clocks move: the step, and the state with its packet clock. -/
def State.setClock (s : State) (k st : Nat) : State := (s.wr Reg.PWR_STATUS_STEP 0 k).wr Reg.PWR_STATUS_STATE 0 st

/-- Is a change of rail `r` running? -/
def State.railBusy (s : State) (r : Nat) : Bool := bit (s.rd Reg.PWR_PMBUS_PENDING) r

/-- Writes VOUT_COMMAND to the regulator of a rail (R432). -/
def State.askRail (s : State) (r mv : Nat) : State :=
  (s.wr Reg.PWR_PMBUS_PENDING 0 (setBit (s.rd Reg.PWR_PMBUS_PENDING) r)).emit (.vout r mv)

/-- A rail takes a set point on the way into or out of CROCUS or REST (R429, R435, R439). -/
def State.setRail (s : State) (r mv : Nat) : State := (s.wr Reg.PWR_RAIL_SET_MV r mv).askRail r mv

/-- Asks VDD_CMP for a set point. -/
def State.askCmp (s : State) (mv : Nat) : State := (s.modPwr (fun (p : Pwr) => { p with asked := mv })).askRail 0 mv

/-- Starts a change to step `k` of state `st` (R431): lowering, the clocks move first; raising, the voltage. -/
def State.startChange (s : State) (k st : Nat) : State :=
  let cur := s.rd Reg.PWR_RAIL_SET_MV 0
  let new := mvFor k st
  if cur < new then (s.modPwr (fun (p : Pwr) => { p with raising := some (k, st) })).askCmp new
  else if new < cur then (s.setClock k st).askCmp new
  else s.setClock k st

/-- Adds a request to those that wait; two in one direction merge into the further one. -/
def mergeWant (base : Nat) (l : List (Nat × Nat)) (k st : Nat) : List (Nat × Nat) :=
  match l.getLast? with
  | none => [(k, st)]
  | some w =>
    if base ≤ w.1 ∧ base ≤ k then l.dropLast ++ [(max k w.1, st)]
    else if w.1 ≤ base ∧ k ≤ base then l.dropLast ++ [(min k w.1, st)]
    else l ++ [(k, st)]

/-- The step and state that the change under way goes to. -/
def State.goal (s : State) : Nat × Nat := s.board.pwr.raising.getD (s.rd Reg.PWR_STATUS_STEP, s.power)

/-- A change of step and state (R431): one that arrives while another runs waits for it. -/
def State.change (s : State) (k st : Nat) : State :=
  if s.railBusy 0 then s.modPwr (fun (p : Pwr) => { p with wants := mergeWant s.goal.1 p.wants k st })
  else s.startChange k st

/-- The step and state after everything asked for. -/
def State.lastGoal (s : State) : Nat × Nat := s.board.pwr.wants.getLast?.getD s.goal

/-- Takes the next request that waits. -/
def State.nextChange (s : State) : State :=
  match s.board.pwr.wants with
  | [] => s
  | w :: l => (s.modPwr (fun (p : Pwr) => { p with wants := l })).startChange w.1 w.2

/-- The change of VDD_CMP ends with an acknowledgement; a raise moves the clocks now. -/
def State.endChange (s : State) : State :=
  let p := s.board.pwr
  let s1 := (s.wr Reg.PWR_RAIL_SET_MV 0 p.asked).modPwr (fun (p : Pwr) => { p with raising := none })
  (match p.raising with
  | some w => s1.setClock w.1 w.2
  | none => s1).nextChange

/-- Clears the pending bit of a rail. -/
def State.clearPending (s : State) (r : Nat) : State := s.wr Reg.PWR_PMBUS_PENDING 0 (clrBit (s.rd Reg.PWR_PMBUS_PENDING) r)

/-- A change is abandoned (R432, R442): the clocks stay at the lower of the old and new steps. -/
def State.abandon (s : State) : State :=
  if s.railBusy 0 then (s.clearPending 0).modPwr (fun (p : Pwr) => { p with raising := none, wants := [] }) else s

/-! The cap and the throttle (R433, R476). -/

/-- Throttle levels of the four sensors, in 1/16 C (R476). -/
def throttleLevels : List Int := [1600, 1680, 1680, 1440]

/-- Is a sensor at or above its throttle level? Are all 1 C below it? -/
def throttled (temps : List Int) : Bool := (List.zip temps throttleLevels).any fun x => decide (x.2 ≤ x.1)
def cooled (temps : List Int) : Bool := (List.zip temps throttleLevels).all fun x => decide (x.1 ≤ x.2 - 16)

/-- The effective limit in mW (R433). -/
def State.capMw (s : State) : Nat :=
  let p := s.board.pwr
  let lim := 1000 * min (s.rd Reg.PWR_CAP_LIMIT_W) 450
  if p.vin < 4000 then min lim (111 * p.vin + p.auxMw) else lim

/-- Is the measured power 10 W below the limit? -/
def State.underCap (s : State) : Bool := decide (1000 * s.rd Reg.PWR_CAP_POWER_W + 10000 ≤ s.capMw)

/-- One step down, or up as far as the state's own step. -/
def State.stepDown (s : State) : State := let g := s.lastGoal; if g.1 = 0 then s else s.change (g.1 - 1) g.2
def State.stepUp (s : State) : State := let g := s.lastGoal; if g.1 < stepOf g.2 then s.change (g.1 + 1) g.2 else s

/-! Entry (R434, R435). -/

/-- The first condition of R434 that does not hold; 0 where all do. -/
def State.restCause (s : State) : Nat :=
  if s.rd Reg.QP_MODULE_OUT_COUNT ≠ 0 then 1
  else if s.pels.any (fun x => !(x.2.st == .free || x.2.st == .reserved || x.2.st == .ready || x.2.st == .excluded || x.2.st == .error)) then 2
  else if (s.armedAt .swap).isSome ∨ (s.listed Reg.TEN_SLICE0_STATE).any (fun t => s.slice t == 2 || s.slice t == 6) then 3
  else if s.on Reg.TEN_WIPE_STATUS_BUSY then 4
  else if s.rd Reg.FWP_STATUS_STATE ≠ 0 ∧ s.rd Reg.FWP_STATUS_STATE ≠ 3 then 5
  else if !s.board.res.moves.isEmpty ∨ !s.board.res.copies.isEmpty ∨ s.on Reg.MEM_COPY_ACTIVE then 6
  else if !s.board.pwr.dips.isEmpty then 7
  else 0

/-- An entry is undone (R435, R442). -/
def State.undoEntry (s : State) (cause : Nat) : State :=
  match s.board.pwr.entry with
  | none => s
  | some (_, src) =>
    ((((s.wr Reg.PWR_STATUS_STATE 0 src).wr Reg.PWR_REQ_TARGET 0 src).wr Reg.PWR_STATUS_REFUSE_CAUSE 0 cause).modPwr
      (fun (p : Pwr) => { p with entry := none })).resumeFetch

/-- Steps 3 to 6 of R435. -/
def State.enterRest (s : State) (t src : Nat) : State :=
  let s1 := (List.range 8).foldl State.restPort s
  let s2 := (List.range 36).foldl State.farDown s1
  let s3 := ((((s2.setRail 3 1100).setRail 0 0).setRail 1 600).setRail 2 600).modPwr
    (fun (p : Pwr) => { p with entry := none, raising := none, wants := [], asked := 0 })
  ((s3.wr Reg.PWR_STATUS_RESUME 0 src).wr Reg.PWR_STATUS_STATE 0 t).setMark 3 s3.now

/-! Exit (R439). -/

/-- A near port leaves its low-power state as the module wakes: the DN9 drives the wake pattern (R82, R439). -/
def State.rousePort (s : State) (p : Nat) : State :=
  let n := s.nearOf p
  if n.resting then (s.setNear p { n with wakes := 1 }).emit (.wake p) else s

/-- The exit: the entry steps reversed. -/
def State.exitRest (s : State) : State :=
  let st := s.rd Reg.PWR_STATUS_RESUME
  let s1 := ((((s.setRail 1 750).setRail 2 750).askCmp (mvFor (stepOf st) st)).setRail 3 1200).modPwr (fun (p : Pwr) => { p with exitHeld := false })
  let s2 := ((s1.setClock (stepOf st) st).inc Reg.PWR_WAKES_COUNT).wr Reg.PWR_RAIL_SET_MV 0 (mvFor (stepOf st) st)
  (((List.range 8).foldl State.rousePort s2).retrainAll).resumeFetch

/-- A cause of R439 while the module rests; a dip holds the exit (R442). -/
def State.wake (s : State) (cause : Nat) : State :=
  if !s.resting then s
  else
    let s1 := s.wr Reg.PWR_STATUS_WAKE_CAUSE 0 cause
    if s.board.pwr.dips.isEmpty then s1.exitRest else s1.modPwr (fun (p : Pwr) => { p with exitHeld := true })

/-! Requests (R434, R441). -/

/-- The step that a request for RUN or TRIM goes to: the state's own, unless the cap or a throttle holds it lower. -/
def State.askedStep (s : State) (t : Nat) : Nat :=
  let g := s.lastGoal
  if g.1 < stepOf g.2 then min g.1 (stepOf t) else stepOf t

/-- A request for RUN or TRIM while the module is in one of them. -/
def State.askAwake (s : State) (t : Nat) : State :=
  let s1 := ((s.wr Reg.PWR_REQ_TARGET 0 t).wr Reg.PWR_STATUS_REFUSE_CAUSE 0 0).modPwr (fun (p : Pwr) => { p with trimHeld := false })
  s1.change (s1.askedStep t) t

/-- A write of PWR_REQ.TARGET; 4 to 7 are ignored. During an entry RUN and TRIM undo it, and CROCUS and REST change where it goes
(log entry 44). -/
def State.pwrReq (s : State) (t : Nat) : State :=
  if s.board.pwr.off ∨ 3 < t then s
  else if s.resting then
    let s1 := (s.wr Reg.PWR_REQ_TARGET 0 t).wr Reg.PWR_STATUS_REFUSE_CAUSE 0 0
    if t ≤ 1 then (s1.wr Reg.PWR_STATUS_RESUME 0 t).wake 2 else s1.wr Reg.PWR_STATUS_STATE 0 t
  else match s.board.pwr.entry with
  | some (_, src) =>
    if t ≤ 1 then (s.undoEntry 0).askAwake t
    else (s.wr Reg.PWR_REQ_TARGET 0 t).modPwr (fun (p : Pwr) => { p with entry := some (t, src) })
  | none =>
    if t ≤ 1 then s.askAwake t
    else
      let c := s.restCause
      if c ≠ 0 then (s.wr Reg.PWR_STATUS_REFUSE_CAUSE 0 c).wr Reg.PWR_REQ_TARGET 0 s.power
      else (((s.wr Reg.PWR_REQ_TARGET 0 t).wr Reg.PWR_STATUS_REFUSE_CAUSE 0 0).modPwr (fun (p : Pwr) => { p with entry := some (t, s.power) })).wr
        Reg.PWR_STATUS_STATE 0 4

/-! Dips (R442, R443). -/

/-- Logs the start of a dip while the log is clear. -/
def State.logDip (s : State) (source mv : Nat) : State :=
  if s.on Reg.PWR_DIP_LOG0_VALID then s
  else ((((s.wr Reg.PWR_DIP_LOG0_SOURCE 0 source).wr Reg.PWR_DIP_LOG0_MIN_MV 0 mv).wr Reg.PWR_DIP_LOG0_DURATION_US 0 0).wr
    Reg.PWR_DIP_LOG0_VALID 0 1).wr Reg.PWR_DIP_LOG1_COUNT 0 s.now

/-- The SUPPLY_DIP event. -/
def State.dipEvent (s : State) (detail source mv : Nat) : State :=
  (s.event provider Code.supplyDip detail (s.free 20) (source % 16 + mv % 2 ^ 16 * 2 ^ 16)).bump

/-- The end of the effects of a dip: service resumes. -/
def State.dipOver (s : State) : State := (s.wr Reg.PWR_STATUS_DIP_ACTIVE 0 0).resumeFetch

end Sys2Proof.Machine
end

