-- ==== Sys2Proof/Machine/Resil.lean ====
section
/-! DEFINITION. Error reports (R400 to R404), targeted tests (R405 to R408), cluster moves and bank copies (R410, R411),
marches and the sweep (R412 to R414), GDDR7 (R415 to R417), and ageing (R421, R422). -/

namespace Sys2Proof.Machine

open Sys2Proof

/-! Reports. -/

/-- A fault of the transport engine or the queue scheduler (R403): of one queue pair, of one message record, or any other. -/
def State.transportFault (s : State) (x : ErrX) (b : Boot) : State :=
  if x.scope = 0 then s.qpError x.qp Code.memoryError 0 none
  else if x.scope = 1 then
    match (s.connOf x.qp).recs.find? (fun (m : MsgRec) => m.msn == x.msn) with
    | some m => s.nakFail x.qp m.lastPsn m.msn Code.memoryError
    | none => s
  else (s.warmReset true).boot b false

/-- A PLL leaves its window (R404), in the order of R18: 1 the cadence PLL, 7 that of the management domain, 2, 3, 4 and 6
those of the main domain. A loss of REFCLK, a SerDes PLL and the die-to-die clocks show in other commands. -/
def State.pllFault (s : State) (i cls : Nat) (uncorr copyOk : Bool) (b : Boot) : State :=
  if i = 1 then s.enterFault
  else
    let main := i == 2 || i == 3 || i == 4 || i == 6
    let s1 := s.logReport (unitNo 13 i) cls uncorr main
    if main then (s1.warmReset true).boot b false
    else if i = 7 then s1.mgmtRestart copyOk b
    else s1

/-- Where a chainring check located a failure: a row, or 256 + a column (R275, R277). -/
def located (x : ErrX) : Option Nat :=
  match x.row, x.col with
  | some r, _ => some r
  | none, some c => some (256 + c)
  | none, none => none

/-- The test that an error of a unit starts (R406). -/
def State.testFor (s : State) (u : Nat) (uncorr : Bool) (x : ErrX) : State :=
  let i := unitIx u
  match unitKind u with
  | 3 =>
    match located x with
    | some a => s.testUnit u uncorr a
    | none => s.testUnit (unitNo 0 i) uncorr 0
  | 8 => s
  | 9 => s
  | 11 => s
  | _ => s.testUnit u uncorr x.addr

/-- A report reaches the resilience unit: counted and logged, then handled by kind. -/
def State.report (s : State) (u cls : Nat) (uncorr : Bool) (x : ErrX) (copyOk : Bool) (b : Boot) : State :=
  let i := unitIx u
  let k := unitKind u
  if unitCount k ≤ i then s
  else if k = 13 then
    if s.resting then (s.logReport u cls uncorr false).wake 5
    else if i < 16 then s.pllFault i cls uncorr copyOk b
    else s.logReport u cls uncorr false
  else if k = 12 then (s.logReport u cls uncorr (decide (1 < x.scope))).transportFault x b
  else
    let s1 := s.logReport u cls uncorr false
    if k = 7 then s1.gddrError i x.addr uncorr false
    else
      let s2 := if uncorr ∧ cls = 3 ∧ k ≠ 11 then s1.memoryError u x.addr else s1
      let s3 := if k = 11 ∧ cls = 3 ∧ !uncorr then s2.count Reg.MBX_ECC_CORR else s2
      s3.testFor u uncorr x

/-- ERROR_REPORT (R401 to R404, R406). -/
def execErrorReport (u cls : Nat) (uncorr : Bool) (x : ErrX) (copyOk : Bool) (b : Boot) (s : State) : Result :=
  .next (if s.board.pwr.off then s else s.report u cls uncorr x copyOk b)

/-! Tests. -/

/-- TARGETED_TEST_DONE (R405, R406). -/
def execTargetedTestDone (u : Nat) (pass : Bool) (s : State) : Result := .next (s.testDone u pass)

/-- TARGETED_TEST_TIMEOUT (R405): 2 ms have passed. -/
def execTargetedTestTimeout (u : Nat) (s : State) : Result := .next (s.testDone u false)

/-- Starts a test that the fabric manager asks for (R405): of a unit in service as an error would, of a free spare as a slot
would. -/
def State.testRequest (s : State) (u : Nat) : State :=
  if unitCount (unitKind u) ≤ unitIx u ∨ !s.on Reg.RES_CTRL_TEST_EN then s
  else if s.isFree u ∧ !s.underTest u then s.beginTest { unit := u, slot := true }
  else if unitKind u = 3 then s.testUnit (unitNo 0 (unitIx u)) false 0
  else s.testUnit u false 0

/-- RES_TEST_REQ (R405, R426). -/
def execResTestReq (u : Nat) (s : State) : Result := .next (s.testRequest (u % 2 ^ 16))

/-- The units that are spares. -/
def State.spareUnits (s : State) : List Nat :=
  ((List.range 14).flatMap (fun k => (List.range (unitCount k)).map (unitNo k))).filter (fun u => s.unitSt u == 1)

/-- SPARE_TEST_SLOT (R408, R440): the slots of the spares are spread evenly over the period. -/
def execSpareTestSlot (u : Nat) (s : State) : Result :=
  let n := s.spareUnits.length
  if n = 0 ∨ s.board.pwr.off then .next s
  else
    let r := s.periodic .spareTest (1000000000 * max 1 (s.rd Reg.RES_CTRL_SPARE_TEST_S) / n) (s.markOf 1)
    if !r.2.1 then .next s
    else
      let s1 := r.1.setMark 1 r.1.now
      .next (if s.resting then s1.count Reg.PWR_SKIPPED_COUNT
        else if s1.isFree u ∧ !s1.underTest u then s1.beginTest { unit := u, slot := true }
        else s1)

/-- CLUSTER_DRAIN_DONE (R410 step 5). -/
def execClusterDrainDone (c : Nat) (s : State) : Result :=
  .next (match s.board.res.moves.find? (fun (m : Move) => m.src == c && m.swapped) with
    | some m => if s.drained c then s.endMove m else s
    | none => s)

/-! Banks. -/

/-- Copies a physical bank of a cluster to another, with what is poisoned (R411 step 1). -/
def State.copyBank (s : State) (c a b : Nat) : State :=
  let s1 := s.wipeBank c b
  let mine := (s1.cluOf c).bank.filter (fun e => decide (a * bankBytes ≤ e.1) && decide (e.1 < (a + 1) * bankBytes))
  let s2 := s1.setClu c { s1.cluOf c with bank := mine.foldl (fun m e => Mem.wr m (b * bankBytes + e.1 % bankBytes) e.2) (s1.cluOf c).bank }
  let lines := s2.board.res.bankPoison.filter (fun l => l / 4096 == 32 * c + a)
  s2.modRes (fun (r : Res) => { r with bankPoison := lines.map (fun l => 2 ^ 17 * c + 4096 * b + l % 4096) ++ r.bankPoison })

/-- BANK_COPY_DONE (R411 steps 2 and 3). -/
def execBankCopyDone (c b : Nat) (s : State) : Result :=
  .next (match s.board.res.copies.find? (fun (x : BankCopy) => x.cluster == c && x.old == b) with
    | none => s
    | some x =>
      let s1 := (s.copyBank c x.old x.new).modRes (fun (r : Res) => { r with copies := r.copies.filter (fun y => y ≠ x) })
      let s2 := (s1.wr Reg.CLU_BANK_MAP_PHYS (ix c x.logical) x.new).wr Reg.CLU_BANK_MAP_SPARED (ix c x.logical) 1
      ((s2.setUnit (unitNo 2 (17 * c + x.new)) 0).beginTest { unit := unitNo 2 (17 * c + x.old) }).reviewClass 1)

/-- A write of RES_MARCH (R412, R426): GO starts a march unless one runs. -/
def State.marchWrite (s : State) (v : Nat) : State :=
  let s1 := ((s.wr Reg.RES_MARCH_CLUSTER 0 v).wr Reg.RES_MARCH_BANK 0 (v / 16)).wr Reg.RES_MARCH_PRESERVE 0 (v / 2 ^ 9)
  let s2 := (s1.access Reg.RES_MARCH_FAIL 0 (v / 2 ^ 12)).access Reg.RES_MARCH_REFUSED 0 (v / 2 ^ 13)
  let c := bits v 0 4
  let b := bits v 4 5
  let preserve := bit v 9
  if !bit v 10 ∨ s2.on Reg.RES_MARCH_BUSY ∨ 10 ≤ c ∨ 16 ≤ b then s2
  else if !preserve ∧ s2.rd Reg.CLU_BANK_OWN_OWNER (ix c b) ≠ 0 then s2.wr Reg.RES_MARCH_REFUSED 0 1
  else (s2.wr Reg.RES_MARCH_BUSY 0 1).modRes (fun (r : Res) => { r with march := some { cluster := c, phys := s2.rd Reg.CLU_BANK_MAP_PHYS (ix c b), preserve } })

/-- RES_MARCH_GO (R412). -/
def execResMarchGo (v : Nat) (s : State) : Result := .next (s.marchWrite v)

/-- MARCH_DONE (R412): a destructive march leaves the bank zeroed; a failure starts the test of the bank. -/
def execMarchDone (fail : Bool) (s : State) : Result :=
  .next (match s.board.res.march with
    | none => s
    | some m =>
      let s1 := (s.wr Reg.RES_MARCH_BUSY 0 0).modRes (fun (r : Res) => { r with march := none })
      let s2 := if m.preserve then s1 else s1.wipeBank m.cluster m.phys
      if fail then (s2.wr Reg.RES_MARCH_FAIL 0 1).testUnit (unitNo 2 (17 * m.cluster + m.phys)) false 0 else s2)

/-! The sweep. -/

/-- One finding of a sweep step (R414). -/
def State.sweepFind (s : State) (f : Nat × Bool × ErrX) : State :=
  let s1 := (s.count Reg.RES_SWEEP_STATUS_FINDINGS).logReport f.1 3 f.2.1 false
  (if f.2.1 then s1.memoryError f.1 f.2.2.addr else s1).testFor f.1 f.2.1 f.2.2

/-- One segment of every engine (R413): a pass ends with the 2,400th segment. -/
def State.sweepSegment (s : State) (found : List (Nat × Bool × ErrX)) : State :=
  let n := s.board.res.sweep + 1
  let s1 := s.modRes (fun (r : Res) => { r with sweep := n % 2400 })
  (found.filter (fun f => decide (unitIx f.1 < unitCount (unitKind f.1)))).foldl State.sweepFind
    (if n = 2400 then s1.inc Reg.RES_SWEEP_STATUS_PASSES else s1)

/-- SWEEP_STEP (R413, R414, R440, R442): a step that an out-of-schedule pass still owes, or a scheduled one. -/
def execSweepStep (found : List (Nat × Bool × ErrX)) (s : State) : Result :=
  if s.board.pwr.off then .next s
  else if s.board.res.extra ≠ 0 ∧ !s.resting then
    .next ((s.modRes (fun (r : Res) => { r with extra := r.extra - 1 })).sweepSegment found)
  else if !s.on Reg.RES_CTRL_SWEEP_EN then .next s
  else
    let r := s.periodic .sweep (max 1000000 (s.rd Reg.RES_SWEEP_STEP_CT)) (s.markOf 2)
    if !r.2.1 then .next s
    else
      let s1 := r.1.setMark 2 r.1.now
      .next (if s.resting then s1.count Reg.PWR_SKIPPED_COUNT else s1.sweepSegment found)

/-! GDDR7. -/

/-- GDDR7_ROW_TEST_DONE (R415, R416). -/
def execGddr7RowTestDone (d : Nat) (pass : Bool) (s : State) : Result := .next (s.testDone (unitNo 7 d) pass)

/-- MEM_COPY_REQ (R416): a write of MEM_COPY.REQ. -/
def execMemCopyReq (d : Nat) (s : State) : Result := .next (if d % 32 = 0x1F then s else s.startCopy (d % 32))

/-- Starts a copy that a device still needs. -/
def State.nextCopy (s : State) : State :=
  match (List.range 18).find? s.wantsCopy with
  | some d => s.startCopy d
  | none => s

/-- DEVICE_COPY_DONE (R416): the spare serves the logical device, and the old device is fenced. -/
def execDeviceCopyDone (s : State) : Result :=
  if !s.on Reg.MEM_COPY_ACTIVE then .next s
  else
    let a := s.rd Reg.MEM_COPY_SRC
    let b := s.rd Reg.MEM_COPY_DST
    let s1 := ((s.wr Reg.MEM_DEV_LOGICAL b (s.rd Reg.MEM_DEV_LOGICAL a)).wr Reg.MEM_DEV_STATE b 0).setUnit (unitNo 7 b) 0
    let s2 := ((s1.wr Reg.MEM_DEV_LOGICAL a 0x1F).wr Reg.MEM_DEV_STATE a 3).setUnit (unitNo 7 a) 3
    let s3 := (((s2.wr Reg.MEM_COPY_SRC 0 0x1F).wr Reg.MEM_COPY_DST 0 0x1F).wr Reg.MEM_COPY_ACTIVE 0 0).wr Reg.MEM_COPY_DONE_MIB 0 3072
    .next ((s3.reviewClass 4).nextCopy)

/-- The lines of the 18 devices. -/
def scrubLines : Nat := 905969664

/-- PATROL_SCRUB_STEP (R417): the scrub of the devices of a copy waits. -/
def execPatrolScrubStep (n : Nat) (errs : List (Nat × Nat × Bool)) (s : State) : Result :=
  if !s.on Reg.MEM_CTRL_SCRUB_EN ∨ s.board.pwr.off ∨ s.resting then .next s
  else
    let t := s.board.res.scrub + n
    let s1 := (((s.inc Reg.MEM_SCRUB_STATUS_PASSES 0 (t / scrubLines)).wr Reg.MEM_SCRUB_STATUS_PERMILLE 0 (t % scrubLines * 1000 / scrubLines)).modRes
      (fun (r : Res) => { r with scrub := t % scrubLines })).pmc 13 0x53 none n
    let busy (d : Nat) : Bool := s.on Reg.MEM_COPY_ACTIVE && (d == s.rd Reg.MEM_COPY_SRC || d == s.rd Reg.MEM_COPY_DST)
    .next ((errs.filter (fun e => decide (e.1 < 18) && !busy e.1)).foldl
      (fun (s : State) (e : Nat × Nat × Bool) => (s.logReport (unitNo 7 e.1) 4 e.2.2 false).gddrError e.1 e.2.1 e.2.2 true) s1)

/-! Ageing (R421, R422). -/

/-- The unit of a monitor. -/
def monitorUnit (k : Nat) : Nat :=
  if k < 20 then unitNo 0 (k % 10) else if k < 56 then unitNo 8 (k - 20) else if k < 92 then unitNo 9 (k - 56) else unitNo 7 (k - 92)

/-- The margin of a monitor: as read, or for a device from its corrected errors. -/
def State.marginOf (s : State) (margins : List Nat) (k : Nat) : Nat :=
  if k < 92 then margins.getD k 0
  else 1000 - min 1000 (1000 * s.rd Reg.MEM_DEV_CORR_24H (k - 92) / max 1 (s.rd Reg.MEM_CORR_LIMIT_LIMIT))

/-- The samples of a monitor, oldest first. -/
def State.samples (s : State) (k : Nat) : List Nat :=
  (List.range (s.rd Reg.RES_AGE_STAT_SAMPLES k)).map (fun j => s.rd Reg.RES_AGE_HIST_MARGIN (ix k j))

/-- The prediction in days (R422): least squares of the samples against the day number. -/
def predict (l : List Nat) : Nat :=
  let n : Int := l.length
  let sx : Nat := (List.range l.length).foldl (fun a j => a + j) 0
  let sxx : Nat := (List.range l.length).foldl (fun a j => a + j * j) 0
  let sy : Nat := l.foldl (· + ·) 0
  let sxy : Nat := (List.range l.length).foldl (fun a j => a + j * l.getD j 0) 0
  let num : Int := n * sxy - sx * sy
  let den : Int := n * sxx - sx * sx
  if l.length < 7 then 0xFFFF
  else if 0 ≤ num then 65535
  else min 65534 ((l.getLastD 0 : Int) * den / (-num)).toNat

/-- The daily sample of a monitor goes to the next slot; the oldest makes room. -/
def State.addSample (s : State) (k v : Nat) : State :=
  let l := (s.samples k ++ [v]).drop ((s.samples k).length + 1 - 32)
  let s1 := (List.range l.length).foldl (fun s j => s.wr Reg.RES_AGE_HIST_MARGIN (ix k j) (l.getD j 0)) s
  (s1.wr Reg.RES_AGE_STAT_SAMPLES k l.length).wr Reg.RES_AGE_STAT_DAYS k (predict l)

/-- The module's predicted end of life, and the replace request it may raise (R419, R422). Among monitors that give the same
days the lowest-numbered is named. -/
def State.showEol (s : State) : State :=
  let l := (List.range 110).filter (fun k => decide (7 ≤ s.rd Reg.RES_AGE_STAT_SAMPLES k) && s.unitSt (monitorUnit k) != 1 && s.unitSt (monitorUnit k) != 3)
  let days (k : Nat) : Nat := s.rd Reg.RES_AGE_STAT_DAYS k
  match l with
  | [] => (s.wr Reg.RES_EOL_DAYS 0 0xFFFF).wr Reg.RES_EOL_MONITOR 0 0x7F
  | a :: m =>
    let k := m.foldl (fun b k => if days k < days b then k else b) a
    let s1 := (s.wr Reg.RES_EOL_DAYS 0 (days k)).wr Reg.RES_EOL_MONITOR 0 k
    if days k < s1.rd Reg.RES_CTRL_EOL_LIMIT_D ∧ !s1.on Reg.RES_REPLACE_EOL then s1.raiseReplace Reg.RES_REPLACE_EOL 0 else s1

/-- AGEING_HOURLY_READ (R421, R422): after 24 readings the least margins of the day become its samples. -/
def execAgeingHourlyRead (margins : List Nat) (s : State) : Result :=
  if s.board.pwr.off then .next s
  else
    let now := (List.range 110).map (s.marginOf margins)
    let s1 := (List.range 110).foldl (fun s k => s.wr Reg.RES_AGE_STAT_MARGIN k (now.getD k 0)) s
    let first := s.board.res.hours % 24 == 0
    let least := (List.range 110).map (fun k =>
      (k, if first then now.getD k 0 else min (Tbl.get 0 k s.board.res.least) (now.getD k 0)))
    let s2 := s1.modRes (fun (r : Res) => { r with hours := r.hours + 1, least := if r.hours % 24 = 23 then [] else least.filter (fun e => e.2 ≠ 0) })
    .next (if s.board.res.hours % 24 = 23 then (least.foldl (fun (s : State) (e : Nat × Nat) => s.addSample e.1 e.2) s2).showEol else s2)

end Sys2Proof.Machine
end

