-- ==== Sys2Proof/Machine/RegAccess.lean ====
section
/-! DEFINITION. Reads and writes of the provider register blocks (R2, R3, R8, R10 to R12, R55, R329, R487). Offsets count
from the base of block 0. -/

namespace Sys2Proof.Machine

open Sys2Proof

/-! Reads. -/

/-- The time left in HOLDING, in ms (R222). -/
def State.holdLeft (s : State) : Nat :=
  if s.rd Reg.FWP_STATUS_STATE = 2 then s.rd Reg.FWP_HOLD_WARM_HOLD_MS - (s.now + 2 ^ 64 - s.markOf 7) % 2 ^ 64 / 1000000 else 0

/-- The bytes that the transport's receive buffer holds. -/
def State.rxBytes (s : State) : Nat :=
  s.conns.foldl (fun a e => a + e.2.held.foldl (fun x y => x + frameBytes e.2.vlan.isSome false y.1) 0) 0

/-- Shows the fields that are computed when they are read: EST_ERR (R482), the occupancies of R191 and R196, and the time left of
R222. -/
def State.refresh (s : State) : State :=
  let s1 := (s.wr Reg.CAD_STATUS_EST_ERR 0 s.estNow).wr Reg.FWP_STATUS_HOLD_LEFT_MS 0 s.holdLeft
  let s2 := s1.wr Reg.TRN_RXBUF_OCC_KIB 0 (s1.rxBytes / 1024)
  s1.traffic.meters.foldl (fun (s : State) (e : Nat × Meter) => s.wr Reg.TRN_MTR_OCC_OCC_KIB e.1 (s.rxOcc (bits e.2.bind 0 10) / 1024)) s2

/-- Do the main and freewheel domains have power (R427)? -/
def State.powered (s : State) : Bool := !s.board.pwr.off

/-- The fields of a block that have power: all, or in OFF those of the management domain (R19, R426). -/
def State.liveFields (s : State) (n : Nat) : List Fld :=
  if s.powered then Reg.blockFields n else (Reg.blockFields n).filter (fun f => f.dom != .main && f.dom != .freewheel)

/-- The value of the register at an offset. -/
def State.readReg (s : State) (off : Nat) : Nat := s.refresh.wordAt (s.liveFields (off / 2 ^ 20)) off

/-! Words that are written in part (R8). -/

/-- The word that a write leaves unchanged: what the register holds, with nothing for the fields that act on what is written. -/
def State.idleWord (s : State) (l : List Fld) (off : Nat) : Nat :=
  l.foldl (fun acc f => match s.fieldAt f off with
    | some i => match f.acc with
      | .w1c => acc
      | .w1s => acc
      | .wo => acc + f.rst i * 2 ^ f.lo
      | _ => acc + s.rd f i * 2 ^ f.lo
    | none => acc) 0

/-- The word of a write of `v` under a mask of halves: 1 the lower, 2 the upper, 3 both. -/
def mergeHalves (old v halves : Nat) : Nat :=
  (if bit halves 0 then v % 2 ^ 32 else old % 2 ^ 32) + 2 ^ 32 * (if bit halves 1 then v / 2 ^ 32 % 2 ^ 32 else old / 2 ^ 32 % 2 ^ 32)

/-! Bindings (R195, R197, R329). -/

/-- Whether two class masks overlap. -/
def overlap (a b : Nat) : Bool := a &&& b != 0

/-- Would a binding of tenant shaper `i` be accepted? -/
def State.tshpBindOk (s : State) (i v : Nat) : Bool :=
  let t := bits v 0 10
  let mine := (s.listed Reg.TRN_TSHP_BIND_BOUND).filter (fun j => j != i && s.on Reg.TRN_TSHP_BIND_BOUND j && s.rd Reg.TRN_TSHP_BIND_TENANT j == t)
  !bit v 10 || (s.slice t != 0 && decide (mine.length < min 2 (s.rd Reg.TEN_SLICE3_TSHAPERS t)) &&
    mine.all (fun j => !overlap (s.rd Reg.TRN_TSHP_BIND_TC_MASK j) (bits v 16 16)))

/-- Would a binding of meter `i` be accepted? -/
def State.mtrBindOk (s : State) (i v : Nat) : Bool :=
  let t := bits v 0 10
  let mine := (s.listed Reg.TRN_MTR_BIND_BOUND).filter (fun j => j != i && s.on Reg.TRN_MTR_BIND_BOUND j && s.rd Reg.TRN_MTR_BIND_TENANT j == t)
  !bit v 10 || (s.slice t != 0 && decide (mine.length < min 4 (s.rd Reg.TEN_SLICE3_METERS t)) &&
    mine.all (fun j => !overlap (s.rd Reg.TRN_MTR_BIND_TC_MASK j) (bits v 16 16)))

/-- Would a binding of queue-pair shaper `i` be accepted: to a queue pair of a slice with a shaper left? -/
def State.qshpBindOk (s : State) (i v : Nat) : Bool :=
  let t := s.qpTenant (bits v 0 14)
  let mine := (s.listed Reg.TRN_QSHP_BIND_BOUND).filter (fun j => j != i && s.on Reg.TRN_QSHP_BIND_BOUND j && s.qpTenant (s.rd Reg.TRN_QSHP_BIND_QP j) == t)
  !bit v 14 || (s.qpValid (bits v 0 14) && s.slice t != 0 && decide (mine.length < s.rd Reg.TEN_SLICE3_QSHAPERS t))

/-- The BIND registers: whether one stands at an offset, and whether it takes a value. -/
def bindOffs : List Nat := [Reg.TRN_QSHP_BIND_QP.addr, Reg.TRN_TSHP_BIND_TENANT.addr, Reg.TRN_MTR_BIND_TENANT.addr]
def State.bindTakes (s : State) (off v : Nat) : Bool :=
  if off = Reg.TRN_QSHP_BIND_QP.addr then s.qshpBindOk (s.selInst Reg.TRN_QSHP_BIND_QP none) v
  else if off = Reg.TRN_TSHP_BIND_TENANT.addr then s.tshpBindOk (s.selInst Reg.TRN_TSHP_BIND_TENANT none) v
  else s.mtrBindOk (s.selInst Reg.TRN_MTR_BIND_TENANT none) v

/-! Fields that only Kilurn writes (R487). -/

/-- The registers of R487. -/
def ownedOffs : List Nat :=
  [Reg.QP_DESC0_VALID, Reg.QP_DESC1_SQ_ADDR, Reg.QP_DESC2_INDEX_ADDR, Reg.QP_DESC3_MAX_OUTSTANDING, Reg.CQ_DESC0_VALID, Reg.CQ_DESC1_RING_ADDR,
    Reg.CQ_DESC2_INDEX_ADDR, Reg.CQ_DESC3_NOTIFY_ADDR, Reg.ADM_DESC0_BOUND, Reg.ADM_SQ_ADDR_ADDR, Reg.ADM_CQ_ADDR_ADDR, Reg.ADM_INDEX_ADDR_ADDR,
    Reg.XLT_CTX_DESC0_VALID, Reg.XLT_CTX_DESC1_TENANT].map Fld.addr

/-! Writes with effects of their own. `h` names the halves written. -/

/-- The fields of a register that are held to the end of the sync interval (R55). -/
def State.deferAt (s : State) (l : List Fld) (off v : Nat) : State :=
  l.foldl (fun t f => match t.fieldAt f off with
    | some i => t.deferWrite f i (v / 2 ^ f.lo)
    | none => t) s

/-- The CAD_ block. -/
def State.writeCadReg (s : State) (l : List Fld) (off v : Nat) : State :=
  if off = Reg.CAD_CTRL_ENABLE.addr then s.writeCadCtrl v
  else if off = Reg.CAD_UPSTREAM_CFG_CAND.addr ∨ off = Reg.CAD_SYNC_INTERVAL_CT.addr ∨ (Reg.CAD_PORT_ASYM_PS.arrayIx off).isSome then
    s.deferAt l off v
  else if off = Reg.CAD_LOAD_GO_GO.addr then (if bit v 0 then s.cadLoad else s)
  else if off = Reg.CAD_SWAP_AT_COUNT.addr then s.writeSwapAt v
  else s.accessAt l off v

/-- The TRN_ block. -/
def State.writeTrnReg (s : State) (l : List Fld) (off v : Nat) : State :=
  if off = Reg.TRN_QSHP_APPLY_GO.addr then
    (if bit v 0 then
      let i := s.selInst Reg.TRN_QSHP_APPLY_GO none
      let n := s.qshpShadow i
      s.qshpTake i n.1 n.2
    else s)
  else if off = Reg.TRN_TSHP_APPLY_GO.addr then
    (if bit v 0 then
      let i := s.selInst Reg.TRN_TSHP_APPLY_GO none
      let n := s.tshpShadow i
      s.tshpTake i n.1 n.2
    else s)
  else if off = Reg.TRN_MTR_APPLY_GO.addr then
    (if bit v 0 then
      let i := s.selInst Reg.TRN_MTR_APPLY_GO none
      s.mtrTake i (s.mtrShadow i)
    else s)
  else if off = Reg.TRN_EGR_CTRL_GATE_EN.addr then (s.keepGate.accessAt l off v).showGate
  else s.accessAt l off v

/-- The MAC_ block. -/
def State.writeMacReg (s : State) (l : List Fld) (off v h : Nat) : State :=
  match Reg.MAC_PORT_CFG_WIDTH.arrayIx off with
  | some (some n) => s.writePortCfg n v
  | _ =>
    if off = Reg.MAC_SPARE_CTRL_REQ_LANE.addr then
      let s1 := s.accessAt l off v
      let q := bits v 32 7
      if bit h 1 ∧ q < 72 then s1.laneFailing q 4 else s1
    else s.accessAt l off v

/-- The FWP_ block. -/
def State.writeFwpReg (s : State) (l : List Fld) (off v : Nat) : State :=
  if off = Reg.FWP_CTRL_ENABLE.addr then s.writeFwpCtrl v
  else if off = Reg.FWP_CONFIRM_GO.addr then (if bit v 0 then s.confirmGo else s)
  else s.accessAt l off v

/-- The CLU_ block: cluster registers at 0x10000 x cluster. -/
def State.writeCluReg (s : State) (l : List Fld) (off v : Nat) : State :=
  let c := off % 2 ^ 20 / 0x10000
  match (if c < 10 then s.writeClu c (off % 0x10000) v else none) with
  | some s1 => s1
  | none => s.accessAt l off v

/-- RES_AGE_HIST (R421): writable before the first daily sample; SAMPLES follows what is written. -/
def State.writeAge (s : State) (l : List Fld) (off v : Nat) : State :=
  match s.fieldAt Reg.RES_AGE_HIST_MARGIN off with
  | some i =>
    if 24 ≤ s.board.res.hours then s
    else
      let s1 := s.accessAt l off v
      let k := i / 1024
      s1.wr Reg.RES_AGE_STAT_SAMPLES k (max (s1.rd Reg.RES_AGE_STAT_SAMPLES k) (i % 1024 + 1))
  | none => s.accessAt l off v

/-- The RES_ block. -/
def State.writeResReg (s : State) (l : List Fld) (off v h : Nat) : State :=
  if off = Reg.RES_TEST_REQ_UNIT.addr then (if bit h 0 then s.testRequest (v % 2 ^ 16) else s)
  else if off = Reg.RES_MARCH_GO.addr then s.marchWrite v
  else s.writeAge l off v

/-- The PMC_ block. -/
def State.writePmcReg (s : State) (l : List Fld) (off v : Nat) : State :=
  if off = Reg.PMC_CTRL_ENABLE.addr then
    let s1 := s.accessAt l off v
    if bit v 2 then s1.clearCounters else s1
  else if off = Reg.PMC_DUMP_CFG_DUMP_EN.addr then s.dumpCfg v
  else s.accessAt l off v

/-- A write of the halves `h` of the register at an offset (R2, R8). -/
def State.writeReg (s : State) (off v h : Nat) : State :=
  let n := off / 2 ^ 20
  let l := s.liveFields n
  let w := mergeHalves (s.idleWord l off) v h
  if !regExists l off || ownedOffs.contains off then s
  else if n = 0 then s.writeCadReg l off w
  else if n = 5 then s.writeTrnReg l off w
  else if n = 6 then s.writeMacReg l off w h
  else if n = 7 then s.writeFwpReg l off w
  else if n = 8 then s.writeCluReg l off w
  else if n = 11 ∧ off = Reg.MEM_COPY_REQ.addr then (if bit h 0 ∧ bits w 16 5 ≠ 0x1F then s.startCopy (bits w 16 5) else s)
  else if n = 16 then s.writeResReg l off w h
  else if n = 17 ∧ off = Reg.PWR_REQ_TARGET.addr then s.pwrReq (bits w 0 3)
  else if n = 18 then s.writePmcReg l off w
  else s.accessAt l off w

/-- A write that reaches a block through the window (R329): a binding is discarded and counted. -/
def State.writeBlock (s : State) (off v h : Nat) : State :=
  if bindOffs.contains off ∧ s.powered then s.count Reg.TEN_BIND_REFUSED_COUNT else s.writeReg off v h

/-- REGISTER_WRITE (R2): a write of the provider to the register at window offset 0xF_F000_0000 + `off`. -/
def execRegisterWrite (off v : Nat) (s : State) : Result :=
  .next (if off < 19 * 2 ^ 20 ∧ off % 8 = 0 then s.writeBlock off (v % 2 ^ 64) 3 else s)

/-! REG_WRITE (R382): Kilurn checks every write first. -/

/-- May the fabric manager write the register at an offset to `v` through a mailbox? Fields of R487, a binding refused under
R329, and the steering bit of a swap mask (R55) are not its own. -/
def State.mayWrite (s : State) (off v : Nat) : Bool :=
  !ownedOffs.contains off && (!bindOffs.contains off || s.bindTakes off v) &&
    !(off == Reg.CAD_SWAP_MASK_FWD.addr && bit v Reg.CAD_SWAP_MASK_STEER.lo)

/-- A write of REG_WRITE: the steering bit of an armed swap stays (R55). -/
def State.mbxWrite (s : State) (off v : Nat) : State :=
  if off = Reg.CAD_SWAP_MASK_FWD.addr ∧ s.on Reg.CAD_SWAP_MASK_STEER ∧ (s.armedAt .swap).isSome then
    (s.writeReg off v 3).wr Reg.CAD_SWAP_MASK_STEER 0 1
  else s.writeReg off v 3

end Sys2Proof.Machine
end

