-- ==== Sys2Proof/Machine/MbxRun.lean ====
section
/-! DEFINITION. How a mailbox command runs (R373 to R378, R384, R385): the doorbell, the packet channels, the checks before a
command, and its answer. -/

namespace Sys2Proof.Machine

open Sys2Proof

/-! Doorbells and packets. -/

/-- The slots that have a mailbox (R4, R5). -/
def isSlot (t : Nat) : Bool := decide (t < 512) || t == provider

/-- A doorbell written on the path of near port `p` (R374, R375). -/
def State.ringMbx (s : State) (p slot seq : Nat) : State :=
  if s.on Reg.MBX_SLOT_STATUS_BUSY slot then s.count Reg.MBX_DB_BUSY_COUNT
  else
    ((s.wr Reg.MBX_SLOT_STATUS_BUSY slot 1).wr Reg.MBX_SLOT_STATUS_DONE slot 0).setMbx slot
      { s.mbxOf slot with seq := seq % 2 ^ 32, port := p, epid := (s.nearOf p).epid.getD 0 }

/-- MBX_DOORBELL (R374). -/
def execMbxDoorbell (p slot seq : Nat) (s : State) : Result := .next (if isSlot slot then s.ringMbx p slot seq else s)

/-- MSG_ID, KIND and MODE of the MGMT extension (R384). -/
def mgmtId (p : Pkt) : Nat := leAt p.ext 0 4
def mgmtKind (p : Pkt) : Nat := byteAt p.ext 4
def mgmtMode (p : Pkt) : Nat := byteAt p.ext 5

/-- A request that passed the checks of its channel: answered from the store, discarded while it runs, or queued (R385). -/
def State.queueReq (s : State) (ch src : Nat) (sealed_ : Bool) (p : Pkt) : State :=
  let m := s.mbxOf ch
  match m.done.find? (fun x => x.1 == mgmtId p) with
  | some x =>
    if sealed_ then
      match s.sealCtx 1024 false with
      | (s1, .ok n) => s1.emit (.response ch x.1 src n true x.2)
      | (s1, _) => s1
    else s.emit (.response ch x.1 src 0 false x.2)
  | none =>
    if m.reqs.any (fun r => r.msgId == mgmtId p) then s
    else
      s.setMbx ch { m with reqs := m.reqs ++
        [{ msgId := mgmtId p, sealed_, src, header := p.payload.take 64, params := (p.payload.drop 64).take 1920 }] }

/-- RX_MGMT_PACKET (R384, R385): a sealed request is opened with context 1,024, and its NONCE_CTR must be the greatest yet. -/
def execRxMgmtPacket (far : Bool) (src : Nat) (p : Pkt) (r : Rx) (s : State) : Result :=
  let ch := if far then chFar else chPort
  let sealed_ := mgmtMode p == 0
  let here := if far then s.on Reg.MBX_MGMT_CFG_FAR_EN && sealed_ && p.srcMod == s.rd Reg.MBX_MGMT_CFG_FM_ID &&
      p.dstMod == s.rd Reg.TRN_MODULE_ID && s.powered && !s.resting
    else s.on Reg.MBX_MGMT_CFG_PORT_EN
  if !here ∨ p.opc ≠ 0x3E ∨ mgmtKind p ≠ 1 ∨ 1 < mgmtMode p ∨ s.rd Reg.MBX_KILURN_STATE = 3 ∨ !s.board.pwr.aux then .next s
  else if !sealed_ then .next (s.queueReq ch src false p)
  else
    .next (match s.openCtx 1024 p r with
    | (s1, .ok) =>
      let m := s1.mbxOf ch
      let old : Bool := match m.nonce with
        | some n => decide (p.nonce ≤ n)
        | none => false
      if old then s1.count Reg.MBX_AUTH_REJECT_COUNT else (s1.setMbx ch { m with nonce := some p.nonce }).queueReq ch src true p
    | (s1, _) => s1)

/-! Checks. -/

/-- The channels of the provider (R376). -/
def providerChannels : List Nat := [1023, 1024, 1025]
def isChannel (ch : Nat) : Bool := isSlot ch || providerChannels.contains ch

/-- Does Kilurn take up the command of a channel now? The provider's channels and its admin queue take turns (R376). -/
def State.mbxReady (s : State) (ch : Nat) : Bool :=
  isChannel ch && s.mbxBusy ch && !(s.mbxOf ch).waiting && s.rd Reg.MBX_KILURN_STATE == 1 && s.board.pwr.aux &&
    (ch < 512 || (!(s.admOf provider).busy && !providerChannels.any (fun k => (s.mbxOf k).waiting)))

/-- The commands of R378, and who may give them: a tenant mailbox; a provider channel; the provider page alone; an open
request. -/
def tenantCmds : List Nat := [1, 2, 3, 0x10, 0x11, 0x12, 0x13, 0x14, 0x20, 0x21, 0x22, 0x23, 0x24, 0x25]
def channelCmds : List Nat :=
  [1, 2, 3, 0x12, 0x20, 0x21, 0x22, 0x23, 0x24, 0x25, 0x100, 0x101, 0x102, 0x103, 0x104, 0x105, 0x106, 0x107, 0x108, 0x110, 0x111, 0x120]
def pageCmds : List Nat := [0x13, 0x14]
def openCmds : List Nat := [1, 2, 3, 0x20, 0x21, 0x108, 0x110, 0x111]
def knownMbx (c : Nat) : Bool := tenantCmds.contains c || channelCmds.contains c

/-- Is the request at the front of a channel an open one? -/
def State.isOpen (s : State) (ch : Nat) : Bool :=
  decide (1024 ≤ ch) && (match (s.mbxOf ch).reqs.head? with
    | some r => !r.sealed_
    | none => false)

/-- Is the module in PROVISIONED or FIELD? -/
def State.locked (s : State) : Bool := s.rd Reg.LCS_STATE_STATE == 1 || s.rd Reg.LCS_STATE_STATE == 2

/-- Why a command is refused before it runs: a status and a DETAIL (R375, R377, R378, R385). -/
def State.mbxCheck (s : State) (ch cmd : Nat) : Option (Nat × Nat) :=
  let h := s.header ch
  let st := s.slice ch
  let quiet := cmd == 1 || cmd == 2 || cmd == 0x24
  if (ch < 1024 ∧ hdrSeq h ≠ (s.mbxOf ch).seq) ∨ 1920 < hdrLen h then some (Code.invalidParam, 0xF0)
  else if !knownMbx cmd then some (Code.invalidCommand, 0)
  else if ch < 512 then
    if !tenantCmds.contains cmd then some (Code.notPermitted, 0)
    else if cmd ≠ 1 ∧ (st = 0 ∨ st = 6) then some (Code.notFound, 0)
    else if (st = 3 ∨ st = 4 ∨ st = 5) ∧ !quiet ∧ !(st = 5 ∧ cmd = 0x11 ∧ byteAt (s.params ch) 8 = 1) then some (Code.tenantFrozen, 0)
    else none
  else if !(channelCmds.contains cmd || (ch == 1023 && pageCmds.contains cmd)) then some (Code.notPermitted, 0)
  else if s.isOpen ch ∧ s.locked ∧ !openCmds.contains cmd then some (Code.notPermitted, 0)
  else none

/-- How a mailbox command ends: SUCCESS with its result, an error that changes nothing, not yet, or with its response already
written. -/
inductive MbxRes where
  | ok (s : State) (data : List Byte)
  | err (status detail : Nat)
  | wait (s : State)
  | done (s : State)

/-- An error with DETAIL 0. -/
def mbxBad (status : Nat) : MbxRes := .err status 0

/-- Runs the command of a channel, if it is `cmd` and its turn has come. A command that touches the main or the freewheel domain
wakes the module first (R439), and needs their power. -/
def State.mbxRun (s : State) (ch cmd : Nat) (touch : Bool) (k : State → MbxRes) : State :=
  if !s.mbxReady ch ∨ hdrCmd (s.header ch) ≠ cmd then s
  else
    match s.mbxCheck ch cmd with
    | some x =>
      let s1 := if s.isOpen ch ∧ x.1 = Code.notPermitted then s.count Reg.MBX_AUTH_REJECT_COUNT else s
      s1.respond ch x.1 x.2 []
    | none =>
      let s1 := if touch ∧ s.resting then s.pwrReq (s.rd Reg.PWR_STATUS_RESUME) else s
      if touch ∧ (s1.resting ∨ !s1.powered) then s1
      else
        match k s1 with
        | .ok s2 d => s2.respond ch 0 0 d
        | .err c d => s1.respond ch c d []
        | .wait s2 => s2.setMbx ch { s2.mbxOf ch with waiting := true }
        | .done s2 => s2

/-- MAILBOX_UNKNOWN_CMD (R375). -/
def execMailboxUnknownCmd (ch : Nat) (s : State) : Result :=
  .next (if knownMbx (hdrCmd (s.header ch)) then s else s.mbxRun ch (hdrCmd (s.header ch)) false (fun _ => mbxBad Code.invalidCommand))

/-! Information (R378, R394). -/

/-- GET_INFO. -/
def State.getInfo (s : State) (ch : Nat) : MbxRes :=
  let t := chSlot ch
  .ok s (leBytes 4 (s.rd Reg.MBX_FW_VERSION) ++ leBytes 4 (s.rd Reg.MBX_FW_SVN) ++ leBytes 1 (s.rd Reg.LCS_STATE_STATE) ++
    leBytes 1 (s.rd Reg.MBX_KILURN_STATE) ++ leBytes 2 (s.rd Reg.TRN_MODULE_ID) ++ leBytes 2 t ++
    leBytes 1 (if t = provider ∨ s.slice t = 0 then 0xFF else s.slice t))
def execGetInfo (ch : Nat) (s : State) : Result := .next (s.mbxRun ch 0x0001 true (fun s => s.getInfo ch))

/-- `n` bytes of a value that may be shorter, zeros after it. -/
def padTo (n : Nat) (b : List Byte) : List Byte := (b ++ List.replicate n 0).take n

/-- The record of a slice in a report (R394). -/
def State.sliceRecord (s : State) (t : Nat) : List Byte :=
  let v := s.sliceOf t
  leBytes 2 t ++ leBytes 1 (s.slice t) ++ leBytes 1 (b2n v.image.isSome) ++ leBytes 4 0 ++ padTo 32 v.measure ++
    leBytes 16 (v.image.getD 0) ++ leBytes 2 (s.rd Reg.TEN_SLICE3_CIPHER_CTX t) ++ leBytes 6 0

/-- The report of R394 before its signature. -/
def State.report394 (s : State) (nonce : List Byte) (tenant : Bool) (slices : List Nat) : List Byte :=
  let len := 320 + 64 * slices.length + 64
  leBytes 4 0xA77E5701 ++ leBytes 2 1 ++ leBytes 2 len ++ leBytes 1 (s.rd Reg.LCS_STATE_STATE) ++
    leBytes 1 (s.rd Reg.LCS_STATE_LOCK + 2 * s.rd Reg.LCS_BOOT_RECOVERED + 4 * b2n s.mgmt.wrapped + 8 * b2n tenant) ++
    leBytes 2 (s.rd Reg.TRN_MODULE_ID) ++ leBytes 4 (s.rd Reg.LCS_BOOT_COLD_BOOTS) ++ padTo 32 nonce ++ padTo 64 s.mgmt.identPub ++
    padTo 64 s.mgmt.kaPub ++ padTo 32 s.mgmt.rom ++ s.quad Reg.LCS_M_IMAGE ++ leBytes 4 (s.rd Reg.MBX_FW_VERSION) ++
    leBytes 4 (s.rd Reg.MBX_FW_SVN) ++ leBytes 4 (s.rd Reg.LCS_SVN_MIN) ++ leBytes 4 0 ++ s.quad Reg.LCS_M_CONFIG ++ leBytes 8 s.now ++
    leBytes 2 slices.length ++ leBytes 22 0 ++ slices.flatMap s.sliceRecord

/-- GET_ATTESTATION: the signature, made with a key that the spec does not give, is a free value (log entry 1). -/
def State.getAttestation (s : State) (ch : Nat) : MbxRes :=
  let b := s.params ch
  let nonce := b.take 32
  if ch < 512 then .ok s.bump (s.report394 nonce true (if s.slice ch = 0 then [] else [ch]) ++ leBytes 64 (s.free 512))
  else
    let n := byteAt b 32
    if 24 < n then mbxBad Code.invalidParam
    else
      let l := ((List.range n).map (fun k => leAt b (34 + 2 * k) 2)).filter (fun t => decide (t < 512) && s.slice t != 0)
      .ok s.bump (s.report394 nonce false l ++ leBytes 64 (s.free 512))
def execGetAttestation (ch : Nat) (s : State) : Result := .next (s.mbxRun ch 0x0002 true (fun s => s.getAttestation ch))

/-- GET_IDENTITY_CERT. -/
def State.getCert (s : State) (ch : Nat) : MbxRes :=
  let part := (s.mgmt.cert.drop (leAt (s.params ch) 0 4)).take 1976
  .ok s (leBytes 4 s.mgmt.cert.length ++ leBytes 4 part.length ++ part)
def execGetIdentityCert (ch : Nat) (s : State) : Result := .next (s.mbxRun ch 0x0003 false (fun s => s.getCert ch))

end Sys2Proof.Machine
end

