-- ==== Sys2Proof/Machine/MbxAttach.lean ====
section
/-! DEFINITION. ATTACH, REATTACH and RELEASE (R79, R80, R332, R342, R379, R380, R395), and the binding of admin queues
(R381). -/

namespace Sys2Proof.Machine

open Sys2Proof

/-- The attachment slot of the endpoint on whose path the doorbell of a mailbox came, while it holds one (R375, R380). -/
def State.callerSlot (s : State) (ch : Nat) : Option Nat :=
  if (s.mbxOf ch).epid = 0 then none else s.slotOfEp (s.mbxOf ch).epid

/-- Makes an attachment: ATTACHED, or ABSENT where no path of the endpoint is up (R380). The token is a free value (log
entry 1). -/
def State.makeAtt (s : State) (t e : Nat) : State :=
  let a := attNo t e
  let live := (s.attOf a).st == .attached || (s.attOf a).st == .absent
  let st : AttSt := if live then (s.attOf a).st else if (s.upPaths e).isEmpty then .absent else .attached
  (s.setAtt a { s.attOf a with st, epid := (s.epOf e).epid, token := some (s.free 64) }).bump

/-- Bytes 0 to 15 of the result: the slot and the token. -/
def State.attBytes (s : State) (t e : Nat) : List Byte := leBytes 8 e ++ leBytes 8 ((s.attOf (attNo t e)).token.getD 0)

/-- ATTACH (R380). -/
def State.cmdAttach (s : State) (ch : Nat) : MbxRes :=
  match s.callerSlot ch with
  | none => mbxBad Code.notFound
  | some e =>
    if (s.attOf (attNo ch e)).st = .attached ∨ (s.attOf (attNo ch e)).st = .absent then mbxBad Code.busy
    else
      let s1 := (s.makeAtt ch e).extendSlice ch (s.digest (some ch))
      .ok s1 (s1.attBytes ch e)
def execAttach (ch : Nat) (s : State) : Result := .next (s.mbxRun ch 0x0010 true (fun s => s.cmdAttach ch))

/-! REATTACH. -/

/-- A wrong token: the fourth in a row locks every GONE attachment of the tenant. -/
def State.wrongToken (s : State) (t : Nat) : State :=
  let v := s.sliceOf t
  if v.wrong < 3 then s.setSlice t { v with wrong := v.wrong + 1 }
  else
    ((s.attsOf t).filter (fun a => (s.attOf a).st == .gone)).foldl (fun s a =>
      (s.setAtt a { s.attOf a with st := .locked }).event provider Code.reattachLocked 0 (evObj 4 (a % 8192)) (s.attOf a).epid)
      (s.setSlice t { v with wrong := 0 })

/-- The answer to a wrong token keeps its count. -/
def State.refuseToken (s : State) (ch : Nat) : MbxRes := .done ((s.wrongToken ch).respond ch Code.invalidParam 0x01 [])

/-- Binds extents of the tenant to attachment slot `e` (R332). -/
def State.rebind (s : State) (l : List Nat) (e : Nat) : State :=
  l.foldl (fun s n => ((s.wr Reg.TEN_EXT0_STATE n Xs.bound).wr Reg.TEN_EXT0_ATTACH n e).setExt n { epid := (s.epOf e).epid }) s

/-- What both forms do at their end: the count of wrong tokens is 0 again, M_SLICE is extended. -/
def State.reattached (s : State) (t : Nat) : State :=
  (s.setSlice t { s.sliceOf t with wrong := 0 }).extendSlice t (s.digest (some t))

/-- The records of R379: a queue pair and its count of retired operations. -/
def retiredRec (x : Nat × Nat) : List Byte := leBytes 4 x.1 ++ leBytes 4 x.2

/-- Writes the records, and the flush after which the response is written, on the path of the command. -/
def State.writeRetired (s : State) (ch e : Nat) (pa : Nat) (l : List (Nat × Nat)) (data : List Byte) : MbxRes :=
  if l = [] then .ok s data
  else
    let p := (s.mbxOf ch).port
    let msg (k : Nat) (b : List Byte) : NearMsg := { op := 1, len := b.length, tenant := ch, ctx := 0, addr := pa + 8 * k, data := b }
    let fl : NearMsg := { op := 2, tenant := ch, ctx := 0 }
    let recs := (List.range l.length).map (fun k => msg k (retiredRec (l.getD k (0, 0))))
    let s1 := s.setMbx ch { s.mbxOf ch with later := some data }
    if s.on Reg.MAC_NEAR_STATUS_PATH_UP p then
      .wait ((recs.foldl (fun s m => s.sendP p m) s1).sendNp p .flush (.admin ch) fl)
    else
      let ep := s1.epOf e
      .wait (s1.setEp e { ep with held := ep.held ++ recs.map (fun m => (none, m, none)) ++ [(some (.flush, .admin ch), fl, some (.admin ch))] })

/-- REATTACH in its ordinary form (R379). -/
def State.cmdReattach (s : State) (ch : Nat) : MbxRes :=
  let b := s.params ch
  let token := leAt b 0 8
  let pa := leAt b 16 8
  if byteAt b 8 ≠ 0 ∨ pa % 8 ≠ 0 then mbxBad Code.invalidParam
  else
    match s.callerSlot ch with
    | none => mbxBad Code.notFound
    | some e =>
      let mine := s.attsOf ch
      match mine.find? (fun a => (s.attOf a).st == .gone && (s.attOf a).token == some token) with
      | some a =>
        let l := (s.attOf a).retired
        let s1 := (s.makeAtt ch e).rebind (s.extList.filter (fun n => s.xst n == Xs.preserved && (s.extOf n).att == some a)) e
        let s2 := (s1.setAtt a {}).reattached ch
        let n := if pa = 0 then 0 else min l.length (leAt b 24 4)
        s2.writeRetired ch e pa (l.take n) (s2.attBytes ch e ++ leBytes 4 l.length ++ leBytes 4 n)
      | none =>
        if mine.any (fun a => (s.attOf a).st == .locked && (s.attOf a).token == some token) then mbxBad Code.notPermitted
        else if (s.sliceOf ch).migs.any (fun x => x.2 == token) then mbxBad Code.invalidParam
        else s.refuseToken ch
def execReattachOrdinary (ch : Nat) (s : State) : Result :=
  .next (if byteAt (s.params ch) 8 = 1 then s else s.mbxRun ch 0x0011 true (fun s => s.cmdReattach ch))

/-- Installs the descriptor of a context at slot `e` with its level-5 table. -/
def State.installCtx (s : State) (t ctx pa e : Nat) : Option State :=
  (s.pickIndex t 0 16384 (s.rd Reg.TEN_SLICE3_CONTEXTS t) Reg.XLT_CTX_DESC0_VALID Reg.XLT_CTX_DESC1_TENANT
    (fun d => s.on Reg.XLT_CTX_DESC0_VALID d)).map (fun d =>
      ((((s.wr Reg.XLT_CTX_DESC0_ENDPOINT d e).wr Reg.XLT_CTX_DESC0_ROOT_PFN d (pa / 4096)).wr Reg.XLT_CTX_DESC1_TENANT d t).wr
        Reg.XLT_CTX_DESC1_CONTEXT d ctx).wr Reg.XLT_CTX_DESC0_VALID d 1)

/-- Binds every object of saved attachment `k` to slot `e` (R342). -/
def State.migrate (s : State) (t k e : Nat) (recs : List (Nat × Nat)) : Option State :=
  let mine := ((s.sliceOf t).ctxs.filter (fun x => x.2 == k)).map Prod.fst
  let ins := mine.foldl (fun (o : Option State) c => o.bind (fun s =>
    match recs.find? (fun r => r.1 == c) with
    | some r => s.installCtx t c r.2 e
    | none => none)) (some s)
  ins.map (fun s1 =>
    let qs := s1.qpList.filter (fun q => s1.qpTenant q == t && mine.contains (s1.rd Reg.QP_DESC0_CONTEXT q))
    let cs := (s1.listed Reg.CQ_DESC0_VALID).filter (fun n => s1.on Reg.CQ_DESC0_VALID n && s1.rd Reg.CQ_DESC0_TENANT n == t && mine.contains (s1.rd Reg.CQ_DESC0_CONTEXT n))
    let s2 := qs.foldl (fun s q => s.wr Reg.QP_DESC0_ATTACH q e) s1
    let s3 := cs.foldl (fun s n => s.wr Reg.CQ_DESC0_ATTACH n e) s2
    s3.rebind (s3.extList.filter (fun n => s3.xst n == Xs.bound && s3.rd Reg.TEN_EXT0_TENANT n == t && s3.rd Reg.TEN_EXT0_ATTACH n == k && (s3.extOf n).epid == 0)) e)

/-- REATTACH in its migration form (R379): `recs` are the records at LIST_PA. -/
def State.cmdMigrate (s : State) (ch : Nat) (recs : List (Nat × Nat)) : MbxRes :=
  let b := s.params ch
  let token := leAt b 0 8
  let l := recs.take (leAt b 24 4)
  match s.callerSlot ch with
  | none => mbxBad Code.notFound
  | some e =>
    match (s.sliceOf ch).migs.find? (fun x => x.2 == token) with
    | none =>
      if (s.attsOf ch).any (fun a => (s.attOf a).st == .locked && (s.attOf a).token == some token) then mbxBad Code.notPermitted
      else if (s.attsOf ch).any (fun a => (s.attOf a).st == .gone && (s.attOf a).token == some token) then mbxBad Code.invalidParam
      else s.refuseToken ch
    | some x =>
      if !(s.sliceOf ch).ctxs.all (fun c => l.any (fun r => r.1 == c.1)) then .err Code.invalidParam 0x03
      else
        match (s.makeAtt ch e).migrate ch x.1 e l with
        | none => mbxBad Code.resourceExhausted
        | some s1 =>
          let v := s1.sliceOf ch
          let s2 := (s1.setSlice ch { v with migs := v.migs.filter (fun y => y ≠ x) }).reattached ch
          .ok s2 (s2.attBytes ch e ++ leBytes 8 0)
def execReattachMigration (ch : Nat) (recs : List (Nat × Nat)) (s : State) : Result :=
  .next (if byteAt (s.params ch) 8 = 1 then s.mbxRun ch 0x0011 true (fun s => s.cmdMigrate ch recs) else s)

/-! RELEASE. -/

/-- RELEASE (R79): the extents that a GONE attachment of the endpoint preserved are wiped. -/
def State.cmdRelease (s : State) (ch : Nat) : MbxRes :=
  let b := s.params ch
  let t := if ch < 512 then ch else leAt b 8 2
  let l := (s.attsOf t).filter (fun a => ((s.attOf a).st == .gone || (s.attOf a).st == .locked) && (s.attOf a).epid == leAt b 0 8)
  if l = [] then mbxBad Code.notFound
  else
    let xs := s.extList.filter (fun n => s.xst n == Xs.preserved && l.any (fun a => (s.extOf n).att == some a))
    let s1 := l.foldl (fun s a => s.setAtt a {}) (xs.foldl State.beginWipe s)
    let d := s.digest (some ch)
    .ok (if s1.slice t ≠ 0 ∧ t < 512 then s1.extendSlice t d else s1) []
def execRelease (ch : Nat) (s : State) : Result := .next (s.mbxRun ch 0x0012 true (fun s => s.cmdRelease ch))

/-! Admin queues (R381). -/

/-- BIND_ADMIN: the rings begin at position 0, and held entries are written. The context may be registered later: its first
registration comes through this queue (log entry 48). -/
def State.cmdBindAdmin (s : State) (ch : Nat) : MbxRes :=
  let t := chSlot ch
  let b := s.params ch
  let ctx := leAt b 24 2
  let okA (f : Fld) (o : Nat) : Bool := addrOk (leAt b o 8) (2 ^ f.lo)
  let okL (o : Nat) : Bool := decide (6 ≤ byteAt b o) && decide (byteAt b o ≤ 10)
  if !okA Reg.ADM_SQ_ADDR_ADDR 0 ∨ !okA Reg.ADM_CQ_ADDR_ADDR 8 ∨ !okA Reg.ADM_INDEX_ADDR_ADDR 16 ∨ !okL 26 ∨ !okL 27 then mbxBad Code.invalidParam
  else
    match s.callerSlot ch with
    | none => mbxBad Code.notFound
    | some e =>
      if !s.attLive t e ∨ ((s.descOf t ctx).isSome ∧ s.ctxSlot t ctx ≠ some e) then mbxBad Code.notFound
      else if s.on Reg.ADM_DESC0_BOUND t then mbxBad Code.busy
      else
        let s1 := (((s.wr Reg.ADM_SQ_ADDR_ADDR t (leAt b 0 8 / 2 ^ Reg.ADM_SQ_ADDR_ADDR.lo)).wr Reg.ADM_CQ_ADDR_ADDR t (leAt b 8 8 / 2 ^ Reg.ADM_CQ_ADDR_ADDR.lo)).wr
          Reg.ADM_INDEX_ADDR_ADDR t (leAt b 16 8 / 2 ^ Reg.ADM_INDEX_ADDR_ADDR.lo))
        let s2 := ((((s1.wr Reg.ADM_DESC0_ATTACH t e).wr Reg.ADM_DESC0_CONTEXT t ctx).wr Reg.ADM_DESC0_SQ_LOG2 t (byteAt b 26)).wr
          Reg.ADM_DESC0_CQ_LOG2 t (byteAt b 27)).wr Reg.ADM_DESC0_BOUND t 1
        .ok ((s2.setAdm t { s2.admOf t with written := 0, headSeen := 0, sqHead := 0 }).settleAdm t) []
def execBindAdmin (ch : Nat) (s : State) : Result := .next (s.mbxRun ch 0x0013 true (fun s => s.cmdBindAdmin ch))

/-- UNBIND_ADMIN. -/
def State.cmdUnbindAdmin (s : State) (ch : Nat) : MbxRes :=
  let t := chSlot ch
  if s.on Reg.ADM_DESC0_BOUND t then .ok (s.wr Reg.ADM_DESC0_BOUND t 0) [] else mbxBad Code.notFound
def execUnbindAdmin (ch : Nat) (s : State) : Result := .next (s.mbxRun ch 0x0014 true (fun s => s.cmdUnbindAdmin ch))

end Sys2Proof.Machine
end

