-- ==== Sys2Proof/Machine/MbxKeys.lean ====
section
/-! DEFINITION. The key commands (R353, R356 to R359, R365). -/

namespace Sys2Proof.Machine

open Sys2Proof

/-! Challenges (R358): 10 s each, for one KEY_INSTALL. -/

/-- The challenges of a slot that are outstanding. -/
def State.openChals (s : State) (t : Nat) : List (Nat × Nat) :=
  (Tbl.get [] t s.mgmt.chals).filter (fun x => decide ((s.now + 2 ^ 64 - x.2) % 2 ^ 64 < 10000000000))
def State.setChals (s : State) (t : Nat) (l : List (Nat × Nat)) : State :=
  s.modMgmt (fun (m : Mgmt) => { m with chals := Tbl.set [] t l m.chals })

/-- KEY_AGREE (R358): the challenge is a free value (log entry 1). -/
def State.keyAgree (s : State) (ch : Nat) : MbxRes :=
  let t := chSlot ch
  let l := s.openChals t
  if 4 ≤ l.length then mbxBad Code.resourceExhausted
  else .ok (s.setChals t (l ++ [(s.free 128, s.now)])).bump (leBytes 16 (s.free 128))
def execKeyAgree (ch : Nat) (s : State) : Result := .next (s.mbxRun ch 0x0020 true (fun s => s.keyAgree ch))

/-- KEY_CHALLENGE_EXPIRE: the oldest challenge of a slot. -/
def execKeyChallengeExpire (slot : Nat) (s : State) : Result := .next (s.setChals slot ((Tbl.get [] slot s.mgmt.chals).drop 1))

/-! Installing keys. -/

/-- A big-endian value of `n` bytes at offset `o` (R359). -/
def beAt (b : List Byte) (o n : Nat) : Nat := ((b.drop o).take n).foldl (fun acc x => 256 * acc + x.toNat) 0

/-- Does another context of the tenant hold a KEY_ID in either slot (R359)? -/
def State.keyIdTaken (s : State) (t c id : Nat) : Bool :=
  (s.listed Reg.CIP_CTX0_VALID).any (fun d => d != c && d != 1024 && s.on Reg.CIP_CTX0_VALID d && s.rd Reg.CIP_CTX0_TENANT d == t &&
    [0, 1].any (fun p => s.on (slotValid p) d && s.rd (slotKeyId p) d == id))

/-- A block that fails a check of R359: counted. -/
def State.unwrapFail (s : State) (ch detail : Nat) : MbxRes :=
  .done ((s.count Reg.CIP_UNWRAP_FAIL_COUNT).respond ch Code.invalidParam detail [])

/-- KEY_INSTALL (R358, R359): the challenge is consumed, whatever comes of it. `owner` is the DETAIL of the owner signature that an
open request needs (R385). -/
def State.keyInstall (s : State) (ch owner : Nat) (pointOk tagOk : Bool) (key : Nat) : MbxRes :=
  let t := chSlot ch
  let b := s.params ch
  let p := byteAt b 2
  let id := beAt b 4 2
  let chal := leAt b 8 16
  let known := (s.openChals t).any (fun x => x.1 == chal)
  let s1 := s.setChals t ((Tbl.get [] t s.mgmt.chals).filter (fun x => x.1 != chal))
  let stop (code detail : Nat) : MbxRes := .done (s1.respond ch code detail [])
  if s.isOpen ch ∧ s.locked ∧ (owner = 0x12 ∨ owner = 0x13) then stop Code.invalidParam owner
  else if 1 < p then stop Code.invalidParam 0
  else
    match s.cipMap t (beAt b 0 2) with
    | none => stop Code.invalidParam 0xE5
    | some c =>
      if s.on (slotValid p) c then stop Code.busy 0
      else if !known then s1.unwrapFail ch 0xE1
      else if !pointOk then s1.unwrapFail ch 0xE2
      else if !tagOk then s1.unwrapFail ch 0xE3
      else if s.keyIdTaken t c id then s1.unwrapFail ch 0xE4
      else
        let s2 := ((s1.wr (slotKeyId p) c id).wr (slotValid p) c 1).wr (slotUsed p) c 0
        .ok { s2 with cip := { s2.cip with keys := Tbl.set 0 (2 * c + p) (key % 2 ^ 256) s2.cip.keys } } []
def execKeyInstall (ch owner : Nat) (pointOk tagOk : Bool) (key : Nat) (s : State) : Result :=
  .next (s.mbxRun ch 0x0021 true (fun s => s.keyInstall ch owner pointOk tagOk key))

/-! Using keys. -/

/-- KEY_ACTIVATE (R356, R358): the counter starts at p x 2^63, once for each key. -/
def State.keyActivate (s : State) (ch : Nat) : MbxRes :=
  let b := s.params ch
  let p := byteAt b 2
  if 1 < p then mbxBad Code.invalidParam
  else
    match s.cipMap (chSlot ch) (leAt b 0 2) with
    | none => .err Code.invalidParam 0xE5
    | some c =>
      if !s.on (slotValid p) c then .err Code.invalidParam 0xE6
      else if s.on (slotUsed p) c then .err Code.invalidParam 0xE7
      else
        let s1 := ((s.wr Reg.CIP_CTX0_TX_PHASE c p).wr Reg.CIP_CTX_CTR_COUNTER c (p * 2 ^ 63)).wr (slotUsed p) c 1
        .ok ((s1.wr Reg.CIP_CTX0_REKEY_REQ c 0).wr Reg.CIP_CTX0_EXHAUSTED c 0) (leBytes 8 (p * 2 ^ 63))
def execKeyActivate (ch : Nat) (s : State) : Result := .next (s.mbxRun ch 0x0022 true (fun s => s.keyActivate ch))

/-- KEY_RETIRE (R365). -/
def State.keyRetire (s : State) (ch : Nat) : MbxRes :=
  let b := s.params ch
  let p := byteAt b 2
  if 1 < p then mbxBad Code.invalidParam
  else
    match s.cipMap (chSlot ch) (leAt b 0 2) with
    | none => .err Code.invalidParam 0xE5
    | some c => if s.rd Reg.CIP_CTX0_TX_PHASE c = p then mbxBad Code.busy else .ok (s.clearKey c p) []
def execKeyRetire (ch : Nat) (s : State) : Result := .next (s.mbxRun ch 0x0023 true (fun s => s.keyRetire ch))

/-- KEY_QUERY (R358): byte 0 TX_PHASE, 1 the valid bits, 2 to 5 the KEY_IDs, 8 to 15 the count; the spec gives no offsets (log
entry 45). -/
def State.keyQuery (s : State) (ch : Nat) : MbxRes :=
  match s.cipMap (chSlot ch) (leAt (s.params ch) 0 2) with
  | none => .err Code.invalidParam 0xE5
  | some c =>
    .ok s (leBytes 1 (s.rd Reg.CIP_CTX0_TX_PHASE c) ++ leBytes 1 (s.rd (slotValid 0) c + 2 * s.rd (slotValid 1) c) ++
      leBytes 2 (s.rd (slotKeyId 0) c) ++ leBytes 2 (s.rd (slotKeyId 1) c) ++ leBytes 2 0 ++ leBytes 8 (s.keyCount c))
def execKeyQuery (ch : Nat) (s : State) : Result := .next (s.mbxRun ch 0x0024 true (fun s => s.keyQuery ch))

/-- CTX_BIND_QP (R353). -/
def State.ctxBindQp (s : State) (ch : Nat) : MbxRes :=
  let b := s.params ch
  let t := chSlot ch
  let q := leAt b 0 2
  match s.cipMap t (leAt b 2 2) with
  | none => .err Code.invalidParam 0xE5
  | some c =>
    if 16384 ≤ q ∨ !s.qpValid q ∨ s.qpTenant q ≠ t then mbxBad Code.notFound
    else if s.cst q ≠ Cst.reset then mbxBad Code.busy
    else .ok ((s.wr Reg.CIP_QP_CTX_CONTEXT q c).wr Reg.CIP_QP_CTX_VALID q 1) []
def execCtxBindQp (ch : Nat) (s : State) : Result := .next (s.mbxRun ch 0x0025 true (fun s => s.ctxBindQp ch))

end Sys2Proof.Machine
end

