-- ==== Sys2Proof/Machine/MbxLife.lean ====
section
/-! DEFINITION. The life cycle (R390 to R392), MODULE_RESET (R378), and faults of the management processor (R370, R371). -/

namespace Sys2Proof.Machine

open Sys2Proof

/-- LC_CHALLENGE (R392): the challenge is a free value (log entry 1). -/
def State.lcChallenge (s : State) : MbxRes :=
  .ok (s.modMgmt (fun (m : Mgmt) => { m with lcChal := some (s.free 128, s.now) })).bump (leBytes 16 (s.free 128))
def execLcChallenge (ch : Nat) (s : State) : Result := .next (s.mbxRun ch 0x0110 false State.lcChallenge)

/-- LC_CHALLENGE_EXPIRE. -/
def execLcChallengeExpire (s : State) : Result := .next (s.modMgmt (fun (m : Mgmt) => { m with lcChal := none }))

/-- The target that R390 allows in each state. -/
def lcNext (state : Nat) : Option Nat := if state < 3 then some (state + 1) else none

/-- Is this the outstanding challenge, less than 60 s old? -/
def State.lcChalOk (s : State) (c : Nat) : Bool :=
  match s.mgmt.lcChal with
  | some (x, t) => x == c && decide ((s.now + 2 ^ 64 - t) % 2 ^ 64 < 60000000000)
  | none => false

/-- LC_ADVANCE (R390, R392): the challenge is consumed, whatever comes of it. -/
def State.lcAdvance (s : State) (ch : Nat) (sigOk : Bool) : MbxRes :=
  let b := s.params ch
  let owner := sha256 ((b.drop 32).take 64)
  let s1 := s.modMgmt (fun (m : Mgmt) => { m with lcChal := none })
  let stop (detail : Nat) : MbxRes := .done (s1.respond ch Code.invalidParam detail [])
  if lcNext (s.rd Reg.LCS_STATE_STATE) ≠ some (byteAt b 0) then stop 0x10
  else if !s.lcChalOk (leAt b 16 16) then stop 0x11
  else if s.rd Reg.LCS_STATE_STATE ≠ 0 ∧ owner ≠ s.quad Reg.LCS_OWNER_HASH then stop 0x12
  else if !sigOk then stop 0x13
  else .ok ((s1.modMgmt (fun (m : Mgmt) => { m with advance := some (byteAt b 0, owner) })).extendConfig 0x0111 (s.digest (some ch))) []
def execLcAdvance (ch : Nat) (sigOk : Bool) (s : State) : Result := .next (s.mbxRun ch 0x0111 false (fun s => s.lcAdvance ch sigOk))

/-- LC_PENDING_RECORD (R391 steps 2 and 3): 10 ms after the response, the change can no longer be undone, and the wipe starts. -/
def execLcPendingRecord (s : State) : Result :=
  .next (if s.mgmt.advance.isSome ∧ !s.on Reg.LCS_STATE_PENDING then s.fullWipe.wr Reg.LCS_STATE_PENDING 0 1 else s)

/-- LC_STATE_COMMIT (R391 steps 4 and 5): the wipe has ended. -/
def execLcStateCommit (b : Boot) (s : State) : Result :=
  .next (if s.on Reg.LCS_STATE_PENDING then
    (((s.fullWipe.commitLife.newKeyPair).clearRegs (fun d => d == .alert)).warmReset false).boot b false
  else s)

/-- KIND of MODULE_RESET. -/
def State.resetKind (s : State) (ch : Nat) : Nat := byteAt (s.params ch) 0

/-- MODULE_RESET_WARM (R378): the response is written first. Every KIND but 0 and 1 is refused. -/
def execModuleResetWarm (ch : Nat) (b : Boot) (s : State) : Result :=
  .next (if s.resetKind ch = 1 then s
  else s.mbxRun ch 0x0120 false (fun s =>
    if s.resetKind ch = 0 then .done (((s.respond ch 0 0 []).warmReset true).boot b false) else mbxBad Code.invalidParam))

/-- MODULE_RESET_RESTART (R371, R378). -/
def execModuleResetRestart (ch : Nat) (copyOk : Bool) (b : Boot) (s : State) : Result :=
  .next (if s.resetKind ch = 1 then s.mbxRun ch 0x0120 false (fun s => .done ((s.respond ch 0 0 []).mgmtRestart copyOk b)) else s)

/-! Faults of the management processor (R370). -/

/-- Does a core of the management processor run Kilurn? -/
def State.coreRuns (s : State) (k : Nat) : Bool :=
  (s.rd Reg.MBX_KILURN_STATE == 1 || s.rd Reg.MBX_KILURN_STATE == 2) && s.board.pwr.aux && decide (k < 4) && !bit (s.rd Reg.MBX_KILURN_CORES_FENCED) k

/-- CONTROL_FLOW_MISMATCH: a fault of control logic, class 5. -/
def execControlFlowMismatch (core : Nat) (copyOk : Bool) (b : Boot) (s : State) : Result :=
  .next (if s.coreRuns core then (s.count Reg.MBX_CFS_ERR_COUNT).coreFault core copyOk b 5 else s)

/-- MGMT_ECC_UNCORRECTABLE: class 3. -/
def execMgmtEccUncorrectable (core : Nat) (copyOk : Bool) (b : Boot) (s : State) : Result :=
  .next (if s.coreRuns core then (s.count Reg.MBX_ECC_UNCORR).coreFault core copyOk b 3 else s)

/-- WATCHDOG_EXPIRE: class 5. -/
def execWatchdogExpire (core : Nat) (copyOk : Bool) (b : Boot) (s : State) : Result :=
  .next (if s.coreRuns core then (s.count Reg.MBX_WDOG_COUNT_COUNT).coreFault core copyOk b 5 else s)

end Sys2Proof.Machine
end

