-- ==== Sys2Proof/Machine/MbxProvider.lean ====
section
/-! DEFINITION. The provider commands of R382, R383 and R395. -/

namespace Sys2Proof.Machine

open Sys2Proof

/-- The ADMIN command: its entry runs as in the provider admin queue, and answers through the channel. -/
def State.cmdAdmin (s : State) (ch : Nat) (x : AdmX) : MbxRes :=
  let e := (s.params ch).take 64
  .done ((s.setMbx ch { s.mbxOf ch with waiting := true }).submit (originOf provider (some ch) e) e x)
def execAdmin (ch : Nat) (x : AdmX) (s : State) : Result := .next (s.mbxRun ch 0x0100 true (fun s => s.cmdAdmin ch x))

/-- EVENT_READ: the oldest provider events, PHASE 0 in each (log entry 46). -/
def State.eventRead (s : State) (ch : Nat) : MbxRes :=
  let n := byteAt (s.params ch) 0
  if n = 0 ∨ 61 < n then mbxBad Code.invalidParam
  else
    let a := s.admOf provider
    let l := (a.held.filter (·.event)).take n
    let s1 := s.setAdm provider { a with held := l.foldl (fun h _ => dropFirst (·.event) h) a.held }
    .ok (s1.settleAdm provider) (leBytes 4 l.length ++ List.replicate 12 0 ++ l.flatMap (fun e => (admBytes e 0 0).take 31 ++ [0]))
def execEventRead (ch : Nat) (s : State) : Result := .next (s.mbxRun ch 0x0101 true (fun s => s.eventRead ch))

/-! Registers. -/

/-- The offset in the provider blocks that a window offset names, for `n` registers. -/
def blockOff (w n : Nat) : Option Nat :=
  if w % 8 = 0 ∧ 0xFF0000000 ≤ w ∧ w + 8 * n ≤ 0xFF0000000 + 19 * 2 ^ 20 then some (w - 0xFF0000000) else none

/-- Does a register access reach beyond the management domain? -/
def State.touches (s : State) (ch : Nat) : Bool :=
  match blockOff (leAt (s.params ch) 0 8) (leAt (s.params ch) 8 2) with
  | some o => (List.range (leAt (s.params ch) 8 2)).any (fun k => !([14, 15, 17].contains ((o + 8 * k) / 2 ^ 20)))
  | none => false

/-- REG_READ. -/
def State.regRead (s : State) (ch : Nat) : MbxRes :=
  let n := leAt (s.params ch) 8 2
  match blockOff (leAt (s.params ch) 0 8) n with
  | none => mbxBad Code.invalidParam
  | some o => if n = 0 ∨ 240 < n then mbxBad Code.invalidParam else .ok s ((List.range n).flatMap (fun k => leBytes 8 (s.readReg (o + 8 * k))))
def execRegRead (ch : Nat) (s : State) : Result := .next (s.mbxRun ch 0x0102 (s.touches ch) (fun s => s.regRead ch))

/-- REG_WRITE: every write is checked before any is applied. -/
def State.regWrite (s : State) (ch : Nat) : MbxRes :=
  let b := s.params ch
  let n := leAt b 8 2
  let val (k : Nat) : Nat := leAt b (16 + 8 * k) 8
  match blockOff (leAt b 0 8) n with
  | none => mbxBad Code.invalidParam
  | some o =>
    if n = 0 ∨ 238 < n then mbxBad Code.invalidParam
    else
      match (List.range n).find? (fun k => !s.mayWrite (o + 8 * k) (val k)) with
      | some k =>
        let s1 := if bindOffs.contains (o + 8 * k) then s.count Reg.TEN_BIND_REFUSED_COUNT else s
        .done (s1.respond ch Code.notPermitted k [])
      | none =>
        let d := s.digest (some ch)
        .ok (((List.range n).foldl (fun s k => s.mbxWrite (o + 8 * k) (val k)) s).extendConfig 0x0103 d) []
def execRegWrite (ch : Nat) (s : State) : Result := .next (s.mbxRun ch 0x0103 (s.touches ch) (fun s => s.regWrite ch))

/-! The staging buffer (R382, R383). -/

/-- Bytes of the staging buffer. -/
def stageBytes : Nat := 2 ^ 22

/-- STAGE. -/
def State.stageCmd (s : State) (ch : Nat) : MbxRes :=
  let b := s.params ch
  let o := leAt b 0 4
  let n := leAt b 4 4
  if o % 8 ≠ 0 ∨ n % 8 ≠ 0 ∨ n < 8 ∨ 1888 < n ∨ stageBytes < o + n then mbxBad Code.invalidParam
  else .ok (s.modMgmt (fun (m : Mgmt) => { m with stage := Mem.store m.stage o ((b.drop 32).take n) })) []
def execStage (ch : Nat) (s : State) : Result := .next (s.mbxRun ch 0x0104 false (fun s => s.stageCmd ch))

/-- FW_COMMIT (R383): a verified image goes to flash; the DETAIL of a bad one is its reason of R388. -/
def State.fwCommit (s : State) (ch : Nat) (signer : Option Nat) (sigOk : Bool) : MbxRes :=
  let n := leAt (s.params ch) 0 4
  if stageBytes < n then .err Code.invalidParam 2
  else
    let img := Mem.bytes s.mgmt.stage 0 n
    let why := s.imageFault img signer sigOk
    if why ≠ 0 then .err Code.invalidParam why
    else .ok ((s.modMgmt (fun (m : Mgmt) => { m with flash := some img })).extendConfig 0x0105 (s.digest (some ch))) []
def execFwCommit (ch : Nat) (signer : Option Nat) (sigOk : Bool) (s : State) : Result :=
  .next (s.mbxRun ch 0x0105 false (fun s => s.fwCommit ch signer sigOk))

/-! Transform programs (R255, R382). -/

/-- The words of a program store for transforms: which, the spec does not say (log entry 31). -/
def xformLo : Nat := 32768
def xformHi : Nat := 65536

/-- Is a run of words of the transform region free? -/
def Mgmt.xformFree (m : Mgmt) (n a : Nat) : Bool :=
  decide (a + n ≤ xformHi) && !m.xforms.any (fun e => decide (a < e.2.1 + e.2.2) && decide (e.2.1 < a + n))

/-- The lowest free run: the start, or the end of another program. -/
def Mgmt.xformPlace (m : Mgmt) (n : Nat) : Option Nat := (sortUp (xformLo :: m.xforms.map (fun e => e.2.1 + e.2.2))).find? (m.xformFree n)

/-- XFORM_INSTALL. -/
def State.xformInstall (s : State) (ch : Nat) : MbxRes :=
  let b := s.params ch
  let i := byteAt b 0
  let n := leAt b 4 4
  let entry := leAt b 8 4
  if i = 0 ∨ n = 0 ∨ n % 4 ≠ 0 ∨ stageBytes < n ∨ entry % 4 ≠ 0 ∨ n ≤ entry then mbxBad Code.invalidParam
  else
    let code := Mem.bytes s.mgmt.stage 0 n
    if crc32c code ≠ leAt b 12 4 then .err Code.invalidParam 0x20
    else
      match s.mgmt.xformPlace (n / 4) with
      | none => mbxBad Code.resourceExhausted
      | some a =>
        let d := s.digest (some ch)
        let s1 := (List.range 10).foldl (fun s c => s.loadCode c a code) s
        let s2 := (s1.wr Reg.CLU_XFORM_ENT_ENTRY_PC i (a + entry / 4)).wr Reg.CLU_XFORM_ENT_VALID i 1
        .ok ((s2.modMgmt (fun (m : Mgmt) => { m with xforms := Tbl.put i (a, n / 4) m.xforms })).extendConfig 0x0106 d) []
def execXformInstall (ch : Nat) (s : State) : Result := .next (s.mbxRun ch 0x0106 true (fun s => s.xformInstall ch))

/-- XFORM_REMOVE: VALID is 0 at once; the provider's next command waits for its end. -/
def State.xformRemove (s : State) (ch : Nat) : MbxRes :=
  let i := byteAt (s.params ch) 0
  if i = 0 then mbxBad Code.invalidParam
  else if !s.on Reg.CLU_XFORM_ENT_VALID i then mbxBad Code.notFound
  else
    let s1 := (s.wr Reg.CLU_XFORM_ENT_VALID i 0).setAdm provider { s.admOf provider with busy := true }
    .wait { s1 with ten := { s1.ten with jobs := s1.ten.jobs ++ [.unxform i] } }
def execXformRemove (ch : Nat) (s : State) : Result := .next (s.mbxRun ch 0x0107 true (fun s => s.xformRemove ch))

/-- Does a transform of index `i` run, or wait to: in a work queue, on a thread, or in an operation not yet started? -/
def State.xformRuns (s : State) (i : Nat) : Bool :=
  s.clus.any (fun c => c.2.work.any (fun w => w.xform == i) || c.2.thr.any (fun t => match t.2.work with
    | some w => w.xform == i
    | none => false)) ||
  s.sqs.any (fun q => q.2.ops.any (fun o => o.sqe.xform == i && o.st == .queued))

/-- XFORM_REMOVE_DONE: every run has ended; its room is free and the command completes. -/
def execXformRemoveDone (i : Nat) (s : State) : Result :=
  .next (if s.xformRuns i then s
  else match s.takeJob (fun j => j == .unxform i) with
    | none => s
    | some (_, s1) =>
      let s2 := s1.modMgmt (fun (m : Mgmt) => { m with xforms := Tbl.del i m.xforms })
      match providerChannels.find? (fun ch => (s2.mbxOf ch).waiting && hdrCmd (s2.header ch) == 0x0107) with
      | none => s2.admFree provider
      | some ch => (((s2.extendConfig 0x0107 (s2.digest (some ch))).respond ch 0 0 [])).admFree provider)

/-- CONFIG_LOG (R395): up to 41 entries from FIRST on. -/
def State.configLog (s : State) (ch : Nat) : MbxRes :=
  let l := (s.mgmt.log.drop (leAt (s.params ch) 0 4)).take 41
  .ok s (leBytes 4 l.length ++ List.replicate 12 0 ++
    l.flatMap (fun x => padTo 32 x.1 ++ leBytes 2 x.2.1 ++ List.replicate 6 0 ++ leBytes 8 x.2.2))
def execConfigLog (ch : Nat) (s : State) : Result := .next (s.mbxRun ch 0x0108 false (fun s => s.configLog ch))

end Sys2Proof.Machine
end

