-- ==== Sys2Proof/Machine/NearLink.lean ====
section
/-! DEFINITION. The commands of the near links, and of translation and on-demand paging (chapters 3 and 4). -/

namespace Sys2Proof.Machine

open Sys2Proof

/-! Operations. -/

/-- Does an invalidation still wait for one of its flushes (R93 step 2)? -/
def State.invalBusy (s : State) (e seq : Nat) : Bool :=
  (List.range 8).any (fun p => ((s.nearOf p).np ++ (s.nearOf p).waitNp).any (fun r => r.user == .inval e seq)) ||
    (s.epOf e).held.any (fun x => match x.1 with
      | some (_, u) => u == .inval e seq
      | none => false)

/-- The invalidations of a slot that have started. -/
def State.activeInvals (s : State) (e : Nat) : Nat := (s.xlt.invals.filter (fun v => v.slot == e && v.marked)).length

/-- Is the slot's path up? -/
def State.pathIsUp (s : State) (p : Nat) : Bool := decide (p < 8) && s.on Reg.MAC_NEAR_STATUS_PATH_UP p

/-- INVAL arrives on a path (R93, R94). -/
def State.rxInval (s : State) (p : Nat) (m : NearMsg) : State :=
  let e := (s.nearOf p).slot
  let body := leAt m.data 0 8
  let n := bits body 0 6
  let whole := bit body 6 || bit body 7
  let odd := !whole && (decide (n < 12) || decide (57 < n))
  let seq := m.opspec % 2 ^ 32
  let s1 := if odd then s.protocolError p 0 m.op m.tag else s
  let s2 := if (s1.epOf e).invAny ∧ seq ≠ (s1.rd Reg.XLT_INV_SEQ_LAST_RCVD e + 1) % 2 ^ 32 then s1.inc Reg.XLT_INV_SEQ_GAP_COUNT else s1
  let s3 := (s2.setEp e { s2.epOf e with invAny := true }).wr Reg.XLT_INV_SEQ_LAST_RCVD e seq
  let v : Inval := { seq, slot := e, path := p, tenant := m.tenant, ctx := m.ctx, base := m.addr, size := max 12 n,
                     wholeCtx := bit body 6 || (odd && decide (57 < n)), wholeTen := bit body 7, marked := decide (s3.activeInvals e < 256) }
  let s4 := { s3 with xlt := { s3.xlt with invals := s3.xlt.invals ++ [v] } }
  if v.marked then s4.startInval v else s4

/-- Fails the waiters of a record (R102). -/
def State.failFault (s : State) (ten i code detail : Nat) : State :=
  let ws := (s.faultOf ten i).waiters
  State.applyFx (s.freeFault ten i, { bad := ws.map (fun w => (w, code, detail)) })

/-- PAGE_RESP arrives on a path (R101, R102). Its endpoint must be that of the record (log entry 39). -/
def State.rxPageResp (s : State) (p : Nat) (m : NearMsg) : State :=
  let t := m.tenant
  let i := m.opspec % 256
  let f := s.faultOf t i
  if 3 ≤ m.status then s.protocolError p 0 m.op m.tag
  else if !(f.st == .open || f.st == .retryWait) ∨ f.att ≠ (s.nearOf p).slot then s.inc Reg.XLT_STRAY_RESP_COUNT
  else if m.status = 1 then
    let s1 := f.waiters.foldl (fun s w => s.violation Kind.pageInvalid t f.ctx w.cluster w.va) s
    s1.failFault t i Code.accessViolation Kind.pageInvalid
  else if m.status = 2 then
    (if f.attempts < s.retryMax then s.setFault t i { f with st := .retryWait } else s.failFault t i Code.pageTimeout 0)
  else
    let s1 := s.setFault t i { f with st := .rewalk, waiters := [] }
    s1.startWalk f.cluster t f.ctx (match f.waiters with
      | w :: _ => w.va
      | [] => f.page * 4096) (strongestOf f.waiters) f.waiters (some i)

/-! The link layer. -/

/-- NEAR_RETRY_REQ (R60): RETRY_REQ with its ACK. -/
def execNearRetryReq (p ack : Nat) (s : State) : Result := .next (if p < 8 then s.retryReq p ack else s)

/-- NEAR_REPLAY_EXHAUSTED (R60, R77): eight replays of one flit in a row. -/
def execNearReplayExhausted (p : Nat) (s : State) : Result :=
  .next (if 8 ≤ (s.nearOf p).replays then (s.setNear p { s.nearOf p with replays := 0 }).pathDown p 3 else s)

/-- NEAR_FEC_LOCK (R69 steps 1 and 2). -/
def execNearFecLock (p : Nat) (s : State) : Result :=
  .next (if 8 ≤ p ∨ s.on Reg.MAC_NEAR_STATUS_FEC_LOCK p then s
  else ((s.setNear p { s.nearOf p with goodFlits := 0 }).wr Reg.MAC_NEAR_STATUS_FEC_LOCK p 1).emit (.idleFlits p))

/-- NEAR_FEC_LOSS_TIMEOUT (R77 cause 1); a resting port is not declared down (R436). -/
def execNearFecLossTimeout (p : Nat) (s : State) : Result :=
  .next (if 8 ≤ p ∨ (s.nearOf p).resting ∨ !s.on Reg.MAC_NEAR_STATUS_FEC_LOCK p then s else (s.wr Reg.MAC_NEAR_STATUS_FEC_LOCK p 0).pathDown p 1)

/-- NEAR_FLIT_ABSENCE_TIMEOUT (R77 cause 2); a resting port is not declared down (R436). -/
def execNearFlitAbsenceTimeout (p : Nat) (s : State) : Result :=
  .next (if 8 ≤ p ∨ (s.nearOf p).resting then s else s.pathDown p 2)

/-- NP_COMPLETION_TIMEOUT (R67, R77 cause 4): the request with this tag has had no final completion for 1 ms. -/
def execNpCompletionTimeout (p tag : Nat) (s : State) : Result :=
  .next (if (s.npOf p tag).isNone ∨ (s.nearOf p).resting then s else s.pathDown p 4)

/-- NEAR_CAPS (R69). -/
def execNearCaps (p : Nat) (c : Caps) (s : State) : Result :=
  .next (if p < 8 ∧ s.on Reg.MAC_NEAR_STATUS_FLIT_LOCK p then s.rxCaps p c else s)

/-- NEAR_READY (R69). -/
def State.rxReady (s : State) (p : Nat) : State :=
  if p < 8 ∧ (s.nearOf p).ready ∧ s.on Reg.MAC_NEAR_STATUS_FLIT_LOCK p ∧ !s.on Reg.MAC_NEAR_STATUS_PATH_UP p then s.pathUp p else s
def execNearReady (p : Nat) (s : State) : Result := .next (s.rxReady p)

/-- NEAR_DOWN (R77 cause 5). -/
def execNearDown (p : Nat) (s : State) : Result := .next (if p < 8 then s.pathDown p 5 else s)

/-- CREDIT (R62): headers and data units of class P, headers of class NP. -/
def State.rxCredit (s : State) (p h d n : Nat) : State :=
  let x := s.nearOf p
  (s.setNear p { x with crdP := x.crdP + h, crdD := x.crdD + d, crdNp := x.crdNp + n }).drainPath p

/-- NEAR_CREDIT (R62). -/
def execNearCredit (p h d n : Nat) (s : State) : Result :=
  .next (if p < 8 ∧ s.on Reg.MAC_NEAR_STATUS_FLIT_LOCK p then s.rxCredit p h d n else s)

/-- NEAR_CPL_RECEIVE (R66): the CPL or CPLD message. -/
def execNearCplReceive (p : Nat) (m : NearMsg) (s : State) : Result :=
  .next (if s.pathIsUp p ∧ (m.op = 5 ∨ m.op = 6) then s.completion p m else s)

/-- NEAR_WAKE_PATTERN (R82, R439): in CROCUS only a watch sees it (R438). -/
def execNearWakePattern (p : Nat) (s : State) : Result :=
  .next (if 8 ≤ p ∨ !(s.nearOf p).resting ∨ s.power = 2 then s
  else if s.power = 3 then (s.wake 1).wakePort p
  else s.wakePort p)

/-- NEAR_WAKE_RETRY (R82): no flit within 100 us of the pattern that the DN9 drove. -/
def execNearWakeRetry (p : Nat) (s : State) : Result :=
  let n := s.nearOf p
  .next (if n.wakes = 0 then s
  else if n.wakes ≤ 3 then (s.setNear p { n with wakes := n.wakes + 1 }).emit (.wake p)
  else ((s.setNear p { n with resting := false, wakes := 0 }).wr Reg.MAC_NEAR_STATUS_FEC_LOCK p 0).pathDown p 2)

/-- NEAR_PORT_REST (R436): the accelerator rests the port. -/
def execNearPortRest (p : Nat) (s : State) : Result := .next (if p < 8 then s.restPort p else s)

/-- ENDPOINT_GRACE_EXPIRE (R77, R79): 20 ms with no path of slot `e` up. -/
def execEndpointGraceExpire (e : Nat) (s : State) : Result :=
  .next (if e < 8 ∧ (s.epOf e).used ∧ s.upPaths e = [] then s.goneEndpoint e else s)

/-! Translation. -/

/-- INVAL (R93). -/
def execInval (p : Nat) (m : NearMsg) (s : State) : Result := .next (if s.pathIsUp p then s.rxInval p m else s)

/-- INVAL_DRAINED (R93): the uses of the translations that invalidation `seq` of slot `e` marked have drained. It takes effect only
once the flushes it waits for are back. -/
def execInvalDrained (e seq : Nat) (s : State) : Result :=
  .next (match s.xlt.invals.find? (fun v => v.slot == e && v.seq == seq && v.marked && !v.drained) with
  | none => s
  | some v =>
    if s.invalBusy e seq then s
    else
      let s1 := s.sweepInval v
      let s2 := { s1 with xlt := { s1.xlt with invals := replaceFirst (· == v) (fun _ => { v with drained := true }) s1.xlt.invals } }
      State.ackInvals e s2.xlt.invals.length s2)

/-- PAGE_RESP (R102). -/
def execPageResp (p : Nat) (m : NearMsg) (s : State) : Result := .next (if s.pathIsUp p then s.rxPageResp p m else s)

/-- WALK_READ_DONE (R91): the completion of the table read with this tag, its STATUS and the entry. -/
def execWalkReadDone (p tag status value : Nat) (s : State) : Result :=
  .next (match s.npOf p tag with
  | none => s
  | some r => if r.kind = .table ∧ s.pathIsUp p then s.completion p { op := if status = 0 then 6 else 5, status, tag, data := leBytes 8 value } else s)

/-- AD_UPDATE_DONE (R89): the completion of the CSWAP with this tag, its STATUS and the old value. -/
def execAdUpdateDone (p tag status value : Nat) (s : State) : Result :=
  .next (match s.npOf p tag with
  | none => s
  | some r => if r.kind = .adUpdate ∧ s.pathIsUp p then s.completion p { op := if status = 0 then 6 else 5, status, tag, data := leBytes 8 value } else s)

/-! On-demand paging. -/

/-- A local waiter parks (R99): its stream unit is released to other work. -/
def State.parkUser (s : State) (w : Waiter) : State :=
  match w.user with
  | .slot c u k => (s.setSlot c u k { s.slotOf c u k with parked := true }).pmc c 0x1B (some (s.thTenant c (s.slotOf c u k).thread))
  | _ => s

/-- The stall of waiter `k` of record `i` ends (R99, R100). -/
def State.stallEnd (s : State) (ten i k : Nat) : State :=
  let f := s.faultOf ten i
  match f.waiters[k]? with
  | some w =>
    if w.remote then
      let us := min 1024 (s.backoff0 * 2 ^ f.pnr)
      State.applyFx (s.setFault ten i { f with waiters := f.waiters.eraseIdx k, pnr := f.pnr + 1 }, { pnr := [(w, us)] })
    else (s.setFault ten i { f with waiters := f.waiters.set k { w with parked := true } }).parkUser w
  | none =>
    match s.xlt.walks.find? (fun w => w.tenant == ten && w.fault == some i) with
    | none => s
    | some wk =>
      match wk.waiters[k - f.waiters.length]? with
      | none => s
      | some w =>
        let j := k - f.waiters.length
        if w.remote then
          let us := min 1024 (s.backoff0 * 2 ^ f.pnr)
          State.applyFx ((s.putWalk { wk with waiters := wk.waiters.eraseIdx j }).setFault ten i { f with pnr := f.pnr + 1 }, { pnr := [(w, us)] })
        else (s.putWalk { wk with waiters := wk.waiters.set j { w with parked := true } }).parkUser w

/-- FAULT_STALL_EXPIRE (R99, R103): the stall of the k-th waiter of record `i` of a tenant ends, those of its walk counting on from
those of the record; `i` = 256 names the k-th fault that waits for a record. -/
def execFaultStallExpire (ten i k : Nat) (s : State) : Result :=
  .next (if i < 256 then (if (s.faultOf ten i).st = .free then s else s.stallEnd ten i k)
  else match s.xlt.queued[k]? with
  | none => s
  | some (t, c, w) =>
    if t = ten then
      ({ s with xlt := { s.xlt with queued := s.xlt.queued.set k (t, c, { w with parked := true }) } } : State).parkUser w
    else s)

/-- PAGE_RETRY_WAIT_EXPIRE (R102): 1 us after a retry. -/
def execPageRetryWaitExpire (ten i : Nat) (s : State) : Result :=
  .next (if i < 256 ∧ (s.faultOf ten i).st = .retryWait then State.applyFx (s.faultAgain ten i (s.faultOf ten i).waiters) else s)

/-- PAGE_TIMER_EXPIRE (R102). -/
def execPageTimerExpire (ten i : Nat) (s : State) : Result :=
  .next (if 256 ≤ i then s
  else match (s.faultOf ten i).st with
  | .free => s
  | .rewalk => s.setFault ten i { s.faultOf ten i with expired := true }
  | _ => s.failFault ten i Code.pageTimeout 0)

end Sys2Proof.Machine
end

