-- ==== Sys2Proof/Machine/NearRx.lean ====
section
/-! DEFINITION. The requests of an accelerator to the DN9 window (R4 to R9, R63 to R66, R70, R72, R83, R373, R484 to R486), and
the flits that carry messages (R59 to R61). -/

namespace Sys2Proof.Machine

open Sys2Proof

/-! The window map (R4, R5). -/

/-- A range of the window: GDDR7, a page of a queue pair, of a completion ring, a mailbox or a tenant control page of a slot, the
provider register blocks, or a reserved range. -/
inductive Page where
  | gddr
  | qp (q : Nat)
  | cq (n : Nat)
  | mbx (t : Nat)
  | ctl (t : Nat)
  | reg
  | rsv
  deriving DecidableEq, Repr

/-- The base of the provider register blocks. -/
def blockBase : Nat := 0xFF0000000

/-- The range that a window offset lies in. -/
def pageOf (off : Nat) : Page :=
  if off < gddrEnd then .gddr
  else if off < 0xF80000000 then .rsv
  else if off < 0xF84000000 then .qp ((off - 0xF80000000) / 4096)
  else if off < 0xF85000000 then .cq ((off - 0xF84000000) / 4096)
  else if off < 0xF85400000 then (if isSlot ((off - 0xF85000000) / 4096) then .mbx ((off - 0xF85000000) / 4096) else .rsv)
  else if off < 0xF85800000 then (if isSlot ((off - 0xF85400000) / 4096) then .ctl ((off - 0xF85400000) / 4096) else .rsv)
  else if blockBase ≤ off ∧ off < blockBase + 19 * 2 ^ 20 then .reg
  else .rsv

/-- The four areas of a mailbox page (R373). -/
def mbxAreas : List (Nat × Nat) := [(0x040, 0x080), (0x080, 0x800), (0x800, 0x840), (0x840, 0x1000)]

/-- Is an access of `n` bytes at an offset within one area, in whole 8 bytes? -/
def inArea (o n : Nat) : Bool := o % 8 == 0 && n % 8 == 0 && n != 0 && mbxAreas.any (fun a => decide (a.1 ≤ o) && decide (o + n ≤ a.2))

/-- Does a page take an access of `n` bytes at offset `o` of it (R8, R74, R373)? -/
def sizeOk (pg : Page) (o n : Nat) : Bool :=
  (n == 0 && o % 8 == 0) || ((n == 4 || n == 8) && o % n == 0) || (match pg with
    | .mbx _ => inArea o n
    | _ => false)

/-- May a tenant access a page (R4)? -/
def State.ownsPage (s : State) (pg : Page) (t : Nat) : Bool :=
  match pg with
  | .qp q => s.qpValid q && s.qpTenant q == t
  | .cq n => s.on Reg.CQ_DESC0_VALID n && s.rd Reg.CQ_DESC0_TENANT n == t
  | .mbx k => t == k || t == provider
  | .ctl k => t == k || t == provider
  | _ => t == provider

/-- ARG0 of the event for a page (R485). -/
def pageObj (pg : Page) : Nat :=
  match pg with
  | .qp q => evObj 0 q
  | .cq n => evObj 1 n
  | .mbx k => evObj 5 k
  | .ctl k => evObj 5 k
  | _ => evObj 5 provider

/-! Answers. -/

/-- A request: the near port, the message, and its window offset. -/
structure WinReq where
  p : Nat
  m : NearMsg
  off : Nat
  deriving DecidableEq, Repr

/-- Is it a write? Only a RD is not, of the requests that R485 tells apart. -/
def WinReq.write (r : WinReq) : Bool := r.m.op != 2

/-- Completes a RD or an atomic (R66): a CPLD with data, else a CPL. A write has no completion. -/
def State.cpl (s : State) (r : WinReq) (status : Nat) (data : List Byte) : State :=
  if r.m.op = 1 then s
  else s.sendP r.p { op := if data = [] then 5 else 6, status, last := data ≠ [], len := data.length, tag := r.m.tag, tenant := r.m.tenant,
                     ctx := r.m.ctx, data }

/-- The completion of a refused access: a RD returns zeros (R6, R8). -/
def State.cplZero (s : State) (r : WinReq) (status : Nat) : State := s.cpl r status (if r.m.op = 2 then List.replicate r.m.len 0 else [])

/-- ARG1 of the ACCESS_VIOLATION events of R485. -/
def WinReq.arg1 (r : WinReq) : Nat := r.off % 2 ^ 36 + r.m.tenant % 1024 * 2 ^ 36 + b2n r.write * 2 ^ 48 + r.p * 2 ^ 49

/-- An access that fails the ownership check (R6). -/
def State.deny (s : State) (r : WinReq) (obj detail : Nat) : State :=
  ((s.count Reg.ADM_WIN_DENIED_COUNT).event provider Code.accessViolation detail obj r.arg1).cplZero r 1

/-- A malformed access to a register page (R8). -/
def State.oddSize (s : State) (r : WinReq) : State := (s.count Reg.ADM_WIN_MALFORMED_COUNT).cplZero r 2

/-- An access that fails at the GDDR7 controller (R97): recorded, and an event for the owner of the extent too. The spec names no
object for an address in no extent: a free value (log entry 1). -/
def State.denyExtent (s : State) (r : WinReq) : State :=
  let s1 := s.violation Kind.extent r.m.tenant r.m.ctx 0xF r.off
  match s.extentAt r.off with
  | none => (s1.deny r (evObj 6 (s.free 16)) Kind.extent).bump
  | some n =>
    let o := s.rd Reg.TEN_EXT0_TENANT n
    let s2 := s1.deny r (evObj 6 n) Kind.extent
    if o = provider then s2 else s2.event o Code.accessViolation Kind.extent (evObj 6 n) r.arg1

/-! GDDR7. -/

/-- A write to GDDR7; that of a frozen slice is only counted (R335). -/
def State.gddrWrite (s : State) (r : WinReq) (b : List Byte) : State :=
  if !s.gddrPassAll r.m.tenant r.m.ctx .write r.off b.length then s.denyExtent r
  else if s.gddrFrozen r.m.tenant then s.count Reg.TEN_FROZEN_WR_COUNT
  else ((s.gddrStore r.off b).pmc 13 0x51 (some r.m.tenant) (linesOf r.off b.length)).pmc 15 0x75 (some r.m.tenant) b.length

/-- A read of GDDR7; a poisoned line answers DATA_ERROR (R402). -/
def State.gddrRead (s : State) (r : WinReq) : State :=
  if r.m.len = 0 then s.cpl r 0 []
  else if !s.gddrPassAll r.m.tenant r.m.ctx .read r.off r.m.len then s.denyExtent r
  else
    let s1 := s.pmc 13 0x50 (some r.m.tenant) (linesOf r.off r.m.len)
    if s.gddrPoisoned r.off r.m.len then s1.cpl r 4 []
    else (s1.pmc 15 0x74 (some r.m.tenant) r.m.len).cpl r 0 (s.gddrBytes r.off r.m.len)

/-- An atomic on GDDR7 (R65, R66, R335): `f` gives the new value. -/
def State.gddrAtomic (s : State) (r : WinReq) (f : Nat → Nat) : State :=
  if !s.gddrPassAll r.m.tenant r.m.ctx .atomic r.off 8 then s.denyExtent r
  else if s.gddrFrozen r.m.tenant then (s.count Reg.TEN_FROZEN_WR_COUNT).cpl r 1 []
  else if s.gddrPoisoned r.off 8 then s.cpl r 4 []
  else
    let old := Mem.nat s.gddr r.off 8
    let s1 := (s.pmc 13 0x50 (some r.m.tenant)).pmc 13 0x51 (some r.m.tenant)
    (s1.gddrStore r.off (leBytes 8 (f old))).cpl r 0 (leBytes 8 old)

/-! Pages. -/

/-- MBX_STATUS (R373). -/
def State.mbxStatus (s : State) (t : Nat) : Nat :=
  s.rd Reg.MBX_SLOT_STATUS_BUSY t + 2 * s.rd Reg.MBX_SLOT_STATUS_DONE t + 4 * b2n (s.rd Reg.MBX_KILURN_STATE == 1) +
    2 ^ 8 * s.rd Reg.MBX_SLOT_STATUS_LAST_STATUS t + 2 ^ 32 * s.rd Reg.MBX_SLOT_STATUS_SEQ_DONE t

/-- ADM_SLICE_STATUS (R131); a RESTORED slice counts as frozen (R342). -/
def State.sliceStatus (s : State) (t : Nat) : Nat :=
  b2n (s.slice t != 0) + 2 * b2n (s.slice t == 3 || s.slice t == 4 || s.slice t == 5) + 4 * s.rd Reg.ADM_DESC0_BOUND t +
    8 * s.rd Reg.ADM_SLICE_STATUS_EVENT_LOST t + 2 ^ 16 * s.rd Reg.ADM_STATUS_EVENTS_HELD t

/-- What the 64-bit register at an offset of a page reads (R7, R131, R373). -/
def State.pageWord (s : State) (pg : Page) (o : Nat) : Nat :=
  match pg with
  | .mbx t => if o = 8 then s.mbxStatus t else if o < 0x40 then 0 else leNat (Mem.bytes (s.mbxOf t).page o 8)
  | .ctl t => if o = 0x10 then s.sliceStatus t else 0
  | _ => 0

/-- Reads `n` bytes of a page or a register block at window offset `off`. -/
def State.pageRead (s : State) (pg : Page) (off n : Nat) : List Byte :=
  let o := off % 4096
  match pg with
  | .reg => leBytes n (s.readReg (off - off % 8 - blockBase) / 2 ^ (8 * (off % 8)))
  | .mbx t => if inArea o n then Mem.bytes (s.mbxOf t).page o n else leBytes n (s.pageWord pg (o - o % 8) / 2 ^ (8 * (o % 8)))
  | _ => leBytes n (s.pageWord pg (o - o % 8) / 2 ^ (8 * (o % 8)))

/-- Writes bytes into a mailbox page (R373, R374) on the path of near port `p`. -/
def State.mbxPageWrite (s : State) (p t o : Nat) (b : List Byte) : State :=
  if o = 0 then s.ringMbx p t (leNat (b.take 4))
  else if o < 0x40 ∨ 0x800 ≤ o then s
  else if s.on Reg.MBX_SLOT_STATUS_BUSY t then s.count Reg.MBX_WR_BUSY_COUNT
  else s.setMbx t { s.mbxOf t with page := Mem.store (s.mbxOf t).page o b }

/-- Writes bytes into a page or a register block (R2, R8, R9, R131). -/
def State.pageWrite (s : State) (p : Nat) (pg : Page) (off : Nat) (b : List Byte) : State :=
  let o := off % 4096
  let v := leNat b * 2 ^ (8 * (off % 8))
  let h := if b.length = 8 then 3 else if off % 8 = 0 then 1 else 2
  match pg with
  | .qp q => if o < 8 then s.bell q v else s
  | .cq n => if o < 8 then s.cqRead n else if o < 16 ∧ bit h 0 then s.cqArm n (v % 2) else s
  | .ctl t =>
    if o < 8 then s.admBell t
    else if o < 16 then (if s.on Reg.ADM_DESC0_BOUND t then s.emit (.admCqRead t) else s)
    else if o = 16 ∧ bit v 3 then s.wr Reg.ADM_SLICE_STATUS_EVENT_LOST t 0
    else s
  | .mbx t => s.mbxPageWrite p t o b
  | .reg => s.writeBlock (off - off % 8 - blockBase) v h
  | _ => s

/-! Requests (R65, R66, R70, R83). -/

/-- Is a request malformed (R65, R83)? -/
def nearBad (m : NearMsg) : Bool :=
  if m.op = 1 then m.len == 0 || decide (4096 < m.addr % 4096 + m.len)
  else if m.op = 2 then decide (4096 < m.len) || (m.len != 0 && decide (4096 < m.addr % 4096 + m.len))
  else if m.op = 3 then m.len != 8 || m.addr % 8 != 0
  else m.len != 16 || m.addr % 8 != 0

/-- The bytes of a message: LEN of them. -/
def nearBytes (m : NearMsg) : List Byte := padTo m.len m.data

/-- A WR or RD whose page is known. -/
def State.pageAccess (s : State) (r : WinReq) (ok : Bool) (pg : Page) : State :=
  if !sizeOk pg (r.off % 4096) r.m.len then s.oddSize r
  else if !ok || !s.ownsPage pg r.m.tenant then s.deny r (pageObj pg) 0
  else if r.m.op = 1 then s.pageWrite r.p pg r.off (nearBytes r.m)
  else s.cpl r 0 (s.pageRead pg r.off r.m.len)

/-- An access to a reserved range (R7). -/
def State.rsvAccess (s : State) (r : WinReq) (ok : Bool) : State :=
  if ok then s.cplZero r 0 else (s.deny r (s.free 20) 0).bump

/-- A request to the window: `ok` tells that its endpoint may present its tenant (R70). -/
def State.winAccess (s : State) (r : WinReq) (ok : Bool) : State :=
  match pageOf r.off with
  | .gddr => if !ok then s.denyExtent r else if r.m.op = 1 then s.gddrWrite r (nearBytes r.m) else s.gddrRead r
  | .rsv => s.rsvAccess r ok
  | pg => s.pageAccess r ok pg

/-- An atomic, performed on GDDR7 alone (R486). -/
def State.winAtomic (s : State) (r : WinReq) (ok : Bool) (f : Nat → Nat) : State :=
  match pageOf r.off with
  | .gddr => if ok then s.gddrAtomic r f else s.denyExtent r
  | .rsv => s.cpl r 2 []
  | _ => (s.count Reg.ADM_WIN_MALFORMED_COUNT).cpl r 2 []

/-- The length of the range that a request names. -/
def reqSpan (m : NearMsg) : Nat := if m.op = 3 ∨ m.op = 4 then 8 else max 1 m.len

/-- A request of an accelerator on a path: the count of R70, the form of the message, the window, then `k`. -/
def State.nearReq (s : State) (p : Nat) (m : NearMsg) (k : State → WinReq → Bool → State) : State :=
  let ep := s.epOf (s.nearOf p).slot
  let ok := s.permitted ep.epid m.tenant
  let r : WinReq := { p, m, off := (m.addr + 2 ^ 64 - ep.windowBase) % 2 ^ 64 }
  let s1 := if ok then s else s.count Reg.MAC_NEAR_DENIED_COUNT p
  if nearBad m then (s1.protocolError p 0 m.op m.tag).cpl r 2 []
  else if m.addr < ep.windowBase ∨ ep.windowBase + 2 ^ 36 < m.addr + reqSpan m then
    (if ok then (s1.count Reg.MAC_NEAR_ADDR_ERR_COUNT p).cpl r 3 [] else (s1.deny r (s1.free 20) 0).bump)
  else k s1 r ok

def State.rxWr (s : State) (p : Nat) (m : NearMsg) : State := s.nearReq p m State.winAccess
def State.rxRd (s : State) (p : Nat) (m : NearMsg) : State := s.nearReq p m State.winAccess
def State.rxFadd (s : State) (p : Nat) (m : NearMsg) : State :=
  s.nearReq p m (fun s r ok => s.winAtomic r ok (fun old => (old + leAt m.data 0 8) % 2 ^ 64))
def State.rxCswap (s : State) (p : Nat) (m : NearMsg) : State :=
  s.nearReq p m (fun s r ok => s.winAtomic r ok (fun old => if old = leAt m.data 0 8 then leAt m.data 8 8 else old))

/-- NEAR_WR (R72): posted writes take effect in the order of their path. -/
def execNearWr (p : Nat) (m : NearMsg) (s : State) : Result := .next (if s.pathIsUp p ∧ m.op = 1 then s.rxWr p m else s)

/-- NEAR_RD (R66). -/
def execNearRd (p : Nat) (m : NearMsg) (s : State) : Result := .next (if s.pathIsUp p ∧ m.op = 2 ∧ m.len ≠ 0 then s.rxRd p m else s)

/-- NEAR_FLUSH_RD (R66, R74): a RD of LEN 0; every earlier write of the path is visible already. -/
def execNearFlushRd (p : Nat) (m : NearMsg) (s : State) : Result := .next (if s.pathIsUp p ∧ m.op = 2 ∧ m.len = 0 then s.rxRd p m else s)

/-- NEAR_FADD (R486). -/
def execNearFadd (p : Nat) (m : NearMsg) (s : State) : Result := .next (if s.pathIsUp p ∧ m.op = 3 then s.rxFadd p m else s)

/-- NEAR_CSWAP (R486). -/
def execNearCswap (p : Nat) (m : NearMsg) (s : State) : Result := .next (if s.pathIsUp p ∧ m.op = 4 then s.rxCswap p m else s)

/-! Flits (R59 to R61, R69). -/

/-- The CAPS body (R68). -/
def capsOf (b : List Byte) : Caps :=
  { profile := leAt b 0 2, port := byteAt b 3, incarnation := leAt b 4 4, ident := leAt b 8 8, windowBase := leAt b 16 8, paBits := byteAt b 24,
    ptf := byteAt b 25, pHdr := leAt b 26 2, pData := leAt b 28 2, npHdr := leAt b 30 2, features := byteAt b 32 }

/-- The LANE_REMAP body (R217). -/
def laneMsgOf (b : List Byte) : LaneMsg :=
  { op := byteAt b 0, reason := byteAt b 1, port := byteAt b 2, logical := byteAt b 3, oldLane := byteAt b 4, newLane := byteAt b 5,
    seq := leAt b 8 4, sender := leAt b 12 2, crcOk := crc32c (b.take 60) == leAt b 60 4 }

/-- The state that a meaning answers. -/
def resultState (r : Result) (s : State) : State :=
  match r with
  | .next t => t
  | _ => s

/-- A LANE_REMAP message on a near port (R217, R218). -/
def State.rxRemap (s : State) (p : Nat) (m : LaneMsg) : State :=
  match m.op with
  | 1 => resultState (execLaneRemapPropose true p m s) s
  | 2 => resultState (execLaneRemapDone true p m s) s
  | 3 => resultState (execLaneRemapRefuse true p m s) s
  | 4 => resultState (execLaneRemapAbort true p m s) s
  | _ => s

/-- An LM message (R65, R68). -/
def State.rxLm (s : State) (p : Nat) (m : NearMsg) : State :=
  match m.opspec % 256 with
  | 1 => if m.len = 64 then s.rxCaps p (capsOf m.data) else s.protocolError p 0 m.op m.tag
  | 2 => s.rxReady p
  | 3 => s.pathDown p 5
  | 4 => if m.len = 64 then s.rxRemap p (laneMsgOf m.data) else s.protocolError p 0 m.op m.tag
  | _ => s.protocolError p 0 m.op m.tag

/-- Delivers a message of a flit: until the path is up, LM and CREDIT alone (R69 step 5). -/
def State.nearMsg (s : State) (p : Nat) (m : NearMsg) : State :=
  if m.op = 0x10 then s.rxLm p m
  else if m.op = 0x0C then
    (if m.len = 8 then s.rxCredit p (leAt m.data 0 2) (leAt m.data 2 2) (leAt m.data 4 2) else s.protocolError p 0 m.op m.tag)
  else if !s.pathIsUp p then s
  else if m.op = 1 then s.rxWr p m
  else if m.op = 2 then s.rxRd p m
  else if m.op = 3 then s.rxFadd p m
  else if m.op = 4 then s.rxCswap p m
  else if m.op = 5 ∨ m.op = 6 then s.completion p m
  else if m.op = 8 then s.rxInval p m
  else if m.op = 0x0B then s.rxPageResp p m
  else s.protocolError p 0 m.op m.tag

/-- The messages of a flit, up to a PAD (R61). -/
def State.nearMsgs (s : State) (p : Nat) (l : List NearMsg) : State := (l.takeWhile (fun m => m.op != 0)).foldl (fun s m => s.nearMsg p m) s

/-- Does a flit begin the sequence of an accelerator that has started again: a CAPS of another endpoint or INCARNATION while the
path is down (log entry 43)? -/
def State.startsAfresh (s : State) (p : Nat) (f : Flit) : Bool :=
  !s.on Reg.MAC_NEAR_STATUS_PATH_UP p && f.msgs.any (fun m => m.op == 0x10 && m.opspec % 256 == 1 &&
    !(some (capsOf m.data).ident == (s.nearOf p).epid && (capsOf m.data).incarnation == (s.epOf (s.nearOf p).slot).incarnation))

/-- A PROTOCOL flit: in sequence it is delivered, else it is discarded and asked for again (R60). -/
def State.rxProtocol (s : State) (p : Nat) (f : Flit) : State :=
  let n := s.nearOf p
  if f.fseq % 4096 = (n.rxSeq + 1) % 4096 ∨ s.startsAfresh p f then
    (s.setNear p { n with rxSeq := f.fseq % 4096, retryAsked := false }).nearMsgs p f.msgs
  else s.badFlit p

/-- NEAR_FLIT_RECEIVE (R59, R60). -/
def execNearFlitReceive (p : Nat) (f : Flit) (s : State) : Result :=
  .next (if 8 ≤ p then s
  else if !f.fcrcOk ∨ 3 ≤ f.kind then s.badFlit p
  else
    let s1 := (s.goodFlit p).linkAck p (f.ack % 4096)
    match f.kind with
    | 1 => s1.rxProtocol p f
    | 2 => s1.retryReq p (f.ack % 4096)
    | _ => if s1.pathIsUp p ∧ f.fseq % 4096 ≠ ((s1.nearOf p).rxSeq + 1) % 4096 then s1.badFlit p else s1)

end Sys2Proof.Machine
end

