-- ==== Sys2Proof/Machine/Power.lean ====
section
/-! DEFINITION. The commands of the power controller, the SMBus responder and the test port (chapters 17 and 19). -/

namespace Sys2Proof.Machine

open Sys2Proof

/-- THERMAL_THROTTLE_STEP (R476): the four sensors, in 1/16 C. -/
def execThermalThrottleStep (temps : List Int) (s : State) : Result :=
  let s1 := s.modPwr (fun (p : Pwr) => { p with temps := temps })
  .next (if !s.awake then s1
  else if throttled temps then s1.stepDown
  else if cooled temps ∧ s1.underCap then s1.stepUp
  else s1)

/-- THERMAL_TRIP (R476). -/
def execThermalTrip (temps : List Int) (s : State) : Result :=
  let s1 := s.modPwr (fun (p : Pwr) => { p with temps := temps })
  .next (if s.board.pwr.off ∨ (List.zip temps tripLevels).all (fun x => decide (x.1 < x.2)) then s1
  else (s1.powerOff .stopped).modPwr (fun (p : Pwr) => { p with cause := 1 }))

/-- POWER_CAP_STEP (R433): the mean power of the last 100 us in W, VIN in 10 mV, the power from AUX_3V3 in mW. -/
def execPowerCapStep (watts vin auxMw : Nat) (s : State) : Result :=
  let s1 := (s.wr Reg.PWR_CAP_POWER_W 0 watts).modPwr (fun (p : Pwr) => { p with vin := vin, auxMw := auxMw })
  .next (if s.board.pwr.off then s
  else if !s.awake then s1
  else if s1.capMw < 1000 * watts then
    (if s1.lastGoal.1 = 0 then s1.wr Reg.PWR_STATUS_CAP_FLOOR 0 1 else s1.stepDown.count Reg.PWR_CAP_STEPS_COUNT)
  else
    let s2 := s1.wr Reg.PWR_STATUS_CAP_FLOOR 0 0
    if s2.underCap ∧ cooled s2.board.pwr.temps then s2.stepUp else s2)

/-- SUPPLY_DIP_START (R442): `source` is a rail or 15, `mv` the value seen. -/
def execSupplyDipStart (source mv : Nat) (s : State) : Result :=
  .next (if s.board.pwr.off ∨ s.board.pwr.dips.any (fun (d : Dip) => d.source == source) then s
  else
    let d : Dip := { source, minMv := mv, logged := !s.on Reg.PWR_DIP_LOG0_VALID, resting := s.resting }
    let s1 := ((s.count Reg.PWR_DIPS_COUNT).logDip source mv).modPwr (fun (p : Pwr) => { p with dips := p.dips ++ [d] })
    let s2 := s1.modRes (fun (r : Res) => { r with extra := r.extra + 2400 })
    if s.resting then s2
    else ((((s2.wr Reg.PWR_STATUS_DIP_ACTIVE 0 1).dipEvent 0 source mv).abandon).undoEntry 7))

/-- SUPPLY_DIP_RECOVERY (R442 step 6): the dip of a source is over, with its least value and its time below the warning level. -/
def execSupplyDipRecovery (source minMv us : Nat) (s : State) : Result :=
  .next (match s.board.pwr.dips.find? (fun (d : Dip) => d.source == source) with
  | none => s
  | some d =>
    let s1 := if d.logged then (s.wr Reg.PWR_DIP_LOG0_MIN_MV 0 (min minMv d.minMv)).wr Reg.PWR_DIP_LOG0_DURATION_US 0 us else s
    let s2 := s1.modPwr (fun (p : Pwr) => { p with dips := p.dips.filter (fun (x : Dip) => x.source != source) })
    if !s2.board.pwr.dips.isEmpty then s2
    else if s2.board.pwr.exitHeld then s2.exitRest
    else if s2.on Reg.PWR_STATUS_DIP_ACTIVE then s2.dipOver
    else s2)

/-- DIP_HOLD_EXPIRE (R443): TRIM, where service resumes, and SUPPLY_DIP again. -/
def execDipHoldExpire (s : State) : Result :=
  .next (match s.board.pwr.dips.find? (fun (d : Dip) => !d.resting) with
  | none => s
  | some d =>
    if !s.awake ∨ s.board.pwr.trimHeld then s
    else
      let g := s.lastGoal
      let s1 := (s.change (min g.1 4) 1).modPwr (fun (p : Pwr) => { p with trimHeld := true })
      s1.dipOver.dipEvent 2 d.source d.minMv)

/-- SUPPLY_BELOW_RESET (R443): VIN is a power loss; a rail of the main domain is reported, and a warm reset. -/
def execSupplyBelowReset (source mv : Nat) (b : Boot) (s : State) : Result :=
  .next (if s.board.pwr.off then s
  else if source = 15 then
    let t := s.powerOff (if s.board.pwr.en then .waitVin else .idle)
    t.modPwr (fun (p : Pwr) => { p with vin := mv / 10 })
  else if source < 4 then
    let s1 := (s.wr Reg.PWR_RAIL_MEAS_MV source mv).logReport (unitNo 13 (16 + source)) 7 true true
    ((s1.wake 4).warmReset true).boot b false
  else s.logReport (unitNo 13 (16 + source)) 7 true false)

/-- PWR_REQ_RUN (R441). -/
def execPwrReqRun (s : State) : Result := .next (s.pwrReq 0)
/-- PWR_REQ_TRIM (R441). -/
def execPwrReqTrim (s : State) : Result := .next (s.pwrReq 1)
/-- PWR_REQ_CROCUS (R434, R441). -/
def execPwrReqCrocus (s : State) : Result := .next (s.pwrReq 2)
/-- PWR_REQ_REST (R434, R441). -/
def execPwrReqRest (s : State) : Result := .next (s.pwrReq 3)

/-- POWER_ENTRY_DRAIN_DONE (R435 steps 3 to 6). -/
def execPowerEntryDrainDone (s : State) : Result :=
  .next (match s.board.pwr.entry with
  | some (t, src) => s.enterRest t src
  | none => s)

/-- POWER_ENTRY_DRAIN_TIMEOUT (R435 step 2). -/
def execPowerEntryDrainTimeout (s : State) : Result := .next (s.undoEntry 8)

/-- PMBUS_ACK (R431, R432): rail `r` reports power good, the rail monitor reads `mv`; a raise needs it within 1 %. -/
def execPmbusAck (r mv : Nat) (s : State) : Result :=
  let s1 := s.wr Reg.PWR_RAIL_MEAS_MV r mv
  .next (if !s.railBusy r then s
  else if r ≠ 0 then s1.clearPending r
  else
    let a := s.board.pwr.asked
    if s.board.pwr.raising.isSome ∧ (100 * mv < 99 * a ∨ 101 * a < 100 * mv) then s1
    else if s.awake then (s1.clearPending 0).endChange
    else s1.clearPending 0)

/-- PMBUS_TIMEOUT (R432): 1 ms without an acknowledgement. -/
def execPmbusTimeout (r : Nat) (s : State) : Result :=
  .next (if !s.railBusy r then s
  else
    let s1 := ((s.clearPending r).count Reg.PWR_PMBUS_TIMEOUTS).logReport (unitNo 13 (16 + r)) 7 true false
    if r = 0 then (s1.modPwr (fun (p : Pwr) => { p with raising := none })).nextChange else s1)

/-- Does a sample cross its threshold (R438 step 3)? -/
def State.crossed (s : State) (temps : List Int) (vin : Nat) : Bool :=
  temps.any (fun t => decide ((16 * s.rd Reg.PWR_CROCUS_TH_TEMP_HI_C : Nat) < t)) || decide (vin < 10 * s.rd Reg.PWR_CROCUS_TH_VIN_LO_DV) ||
    decide (10 * s.rd Reg.PWR_CROCUS_TH_VIN_HI_DV < vin)

/-- CROCUS_WATCH (R438): lane activity, the sensors, and VIN in 10 mV. -/
def execCrocusWatch (activity : Bool) (temps : List Int) (vin : Nat) (s : State) : Result :=
  .next (if s.power ≠ 2 then s
  else
    let r := s.periodic .crocus (max 10000 (s.rd Reg.PWR_CROCUS_INTERVAL_CT)) (s.markOf 3)
    if !r.2.1 then r.1
    else
      let s1 := ((r.1.setMark 3 r.1.now).count Reg.PWR_WATCHES_COUNT).modPwr (fun (p : Pwr) => { p with temps := temps, vin := vin })
      if activity then s1.wake 1 else if s1.crossed temps vin then s1.wake 3 else s1)

/-- REST_LANE_ACTIVITY (R439). -/
def execRestLaneActivity (s : State) : Result := .next (if s.power = 3 then s.wake 1 else s)

/-! The SMBus responder (R473, R474): a field whose source has no power reads as all ones. -/

/-- A register field in `n` bytes as the SMBus shows it. -/
def State.smb (s : State) (n v : Nat) : List Byte := if s.board.pwr.off then List.replicate n 0xFF else leBytes n v

/-- An answer of the responder, which runs from AUX_3V3. -/
def State.smbAnswer (s : State) (b : List Byte) : State := if s.board.pwr.aux then s.emit (.smbus b) else s

/-- SMBUS_STATUS. -/
def execSmbusStatus (s : State) : Result :=
  let p := s.board.pwr
  .next (s.smbAnswer (leBytes 1 (if p.off then 5 else s.power) ++ leBytes 1 (s.rd Reg.MBX_KILURN_STATE) ++ leBytes 1 (s.rd Reg.LCS_STATE_STATE) ++
    leBytes 1 (s.rd Reg.RES_ALERT_REPLACE + 2 * s.rd Reg.RES_ALERT_RECOVERY + 4 * s.rd Reg.RES_ALERT_FENCE) ++ leBytes 1 p.cause ++ leBytes 1 p.rail ++ leBytes 2 0))

/-- SMBUS_REPLACE. -/
def execSmbusReplace (s : State) : Result :=
  .next (s.smbAnswer (leBytes 4 (s.wordAt [Reg.RES_REPLACE_SPARE_EXHAUSTED, Reg.RES_REPLACE_EOL, Reg.RES_REPLACE_MGMT, Reg.RES_REPLACE_CLASSES]
      Reg.RES_REPLACE_SPARE_EXHAUSTED.addr) ++ s.smb 2 (s.rd Reg.RES_EOL_DAYS) ++ s.smb 1 (s.rd Reg.RES_EOL_MONITOR) ++ leBytes 1 0))

/-- SMBUS_TEMP: the sensors as they read now. -/
def execSmbusTemp (temps : List Int) (s : State) : Result :=
  .next ((s.modPwr (fun (p : Pwr) => { p with temps := temps })).smbAnswer ((temps.take 4).flatMap (fun t => leBytes 2 (wrap 16 t))))

/-- SMBUS_POWER: VIN in 10 mV and AUX_3V3 in mV as they read now. -/
def execSmbusPower (vin auxMv : Nat) (s : State) : Result :=
  .next ((s.modPwr (fun (p : Pwr) => { p with vin := vin, auxMv := auxMv })).smbAnswer
    (leBytes 2 vin ++ leBytes 2 auxMv ++ leBytes 2 (s.rd Reg.PWR_CAP_POWER_W) ++ leBytes 2 0))

/-- SMBUS_IDENT: `mac` is the management MAC address, first octet first. -/
def execSmbusIdent (mac : List Byte) (s : State) : Result :=
  .next (s.smbAnswer (s.smb 2 (s.rd Reg.TRN_MODULE_ID) ++ (mac ++ List.replicate 6 0).take 6 ++
    leBytes 8 (s.rd Reg.LCS_IDENT_HASH 0) ++ leBytes 8 (s.rd Reg.LCS_IDENT_HASH 1)))

/-! The test port (R475). -/

def State.modJtag (s : State) (f : Jtag → Jtag) : State := s.modBoard (fun (b : Board) => { b with jtag := f b.jtag })

/-- JTAG_BYPASS. -/
def execJtagBypass (s : State) : Result := .next (s.modJtag (fun (j : Jtag) => { j with ir := 0 }))
/-- JTAG_SAMPLE_PRELOAD: the boundary-scan cells capture the pins, which read `cells`. -/
def execJtagSamplePreload (cells : List Bool) (s : State) : Result :=
  .next (s.modJtag (fun (j : Jtag) => { j with ir := 1, cells := cells }))
/-- JTAG_EXTEST: the cells drive the pins. -/
def execJtagExtest (s : State) : Result := .next ((s.modJtag (fun (j : Jtag) => { j with ir := 2 })).emit (.boundary s.board.jtag.cells))
/-- JTAG_TEST_LOGIC_RESET: BYPASS. -/
def execJtagTestLogicReset (s : State) : Result := .next (s.modJtag (fun (j : Jtag) => { j with ir := 0 }))

end Sys2Proof.Machine
end

