-- ==== Sys2Proof/Machine/SpokeSystem.lean ====
section
/-! DEFINITION. The system instructions of a spoke core (R235 group 0xB): register access (R260, R292), the unit
claims (R249), work items (R253 to R255), HALT, TRAP and YIELD. -/

namespace Sys2Proof.Machine

open Sys2Proof

/-! CSRR and CSRW. IMM12[11:10] selects: 0b10 the thread's ARR_ registers, 0b11 SPK_, else CLU_ (R260, R292). -/

/-- The block and offset that a CSR address names for a thread. -/
inductive Csr where
  | clu (off : Nat)
  | arr (off : Nat)
  | spk (off : Nat)
  deriving DecidableEq, Repr

def csrOf (imm : Nat) : Csr :=
  let a := imm % 4096
  if bits a 10 2 = 2 then .arr (a % 1024) else if bits a 10 2 = 3 then .spk (a % 1024) else .clu a

/-- The registers of CLU_ that a program thread may read (R260). -/
def progReads (i off : Nat) : Bool :=
  (decide (0x100 + 0x40 * i ≤ off) && decide (off < 0x140 + 0x40 * i)) || (decide (0x400 ≤ off) && decide (off < 0x500)) || off == 0x500 ||
    off == 0x508 || off == 0x600 + 8 * coreOf i

/-- The value a thread reads at a CSR address. -/
def State.csrRead (s : State) (c i imm : Nat) : Nat :=
  match csrOf imm with
  | .arr off => if off < 0x20 then s.wordAt Reg.blockARR (cluOff 9 c (0x100 + 0x20 * i + off)) else 0
  | .spk off => s.wordAt Reg.blockSPK (cluOff 10 c off)
  | .clu off =>
    if !isService i ∧ !progReads i off then 0
    else if off = 0x18 then Tbl.get 0 (s.rd Reg.CLU_PSTORE_ADDR_ADDR c) (s.cluOf c).pstore
    else s.wordAt Reg.blockCLU (cluOff 8 c off)

/-- CSRR (R235, R260, R292). -/
def execCsrr (c i d imm : Nat) (s : State) : Result := runThread c i s fun s => (s.setG c i d (s.csrRead c i imm)).step1 c i

/-- The write of a program thread to CLU_BANK_OWN (R248): OWNER and SHARE_RD of a bank of its own tenant. -/
def State.progBankOwn (s : State) (c i b v : Nat) : State :=
  let ten := s.rd Reg.CLU_BANK_OWN_TENANT (ix c b)
  if ten ≠ s.thTenant c i ∨ bits v 16 10 ≠ ten then s.trap c i Cause.privileged 0 else (s.writeBankOwn c b v).step1 c i

/-- The write of a service thread to a CLU_ register (R230, R248, R260): the program store belongs to Kilurn alone, and
threads of other cores are out of its reach. -/
def State.servWrite (s : State) (c i off v : Nat) : State :=
  if off = 0x18 ∨ off = 0x10 then s
  else if 0x100 ≤ off ∧ off < 0x300 then
    (let j := (off - 0x100) / 0x40
    if coreOf j ≠ coreOf i then s
    else if off % 0x40 = 0 then s.writeThrCtrl c j v (j == i)
    else s.accessAt Reg.blockCLU (cluOff 8 c off) v)
  else match s.writeClu c off v with
    | some t => t
    | none => if off < 0x800 then s.accessAt Reg.blockCLU (cluOff 8 c off) v else s

/-- CSRW (R235, R248, R260, R292): g[A] to the register; what a program thread may not write traps with PRIVILEGED. -/
def execCsrw (c i a imm : Nat) (s : State) : Result :=
  runThread c i s fun s =>
    let v := s.g c i a
    match csrOf imm with
    | .arr off =>
      if off < 0x18 then (s.accessAt Reg.blockARR (cluOff 9 c (0x100 + 0x20 * i + off)) v).step1 c i
      else if isService i then s.step1 c i else s.trap c i Cause.privileged 0
    | .spk off => if isService i then (s.accessAt Reg.blockSPK (cluOff 10 c off) v).step1 c i else s.trap c i Cause.privileged 0
    | .clu off =>
      if isService i then (s.servWrite c i off v).step1 c i
      else if 0x400 ≤ off ∧ off < 0x480 ∧ off % 8 = 0 then s.progBankOwn c i ((off - 0x400) / 8) v
      else if off = 0x110 + 0x40 * i then (s.accessAt Reg.blockCLU (cluOff 8 c off) v).step1 c i
      else s.trap c i Cause.privileged 0

/-! Units. -/

/-- UCLAIM (R249): 0 the chainring, 1 the sprocket; g[D] takes 1, or 0 where another thread holds the unit. -/
def execUclaim (c i d imm : Nat) (s : State) : Result :=
  runThread c i s fun s =>
    let go (own ten : Fld) (s : State) : State :=
      if s.rd own c = 0 ∨ s.rd own c = i + 1 then (((s.wr own c (i + 1)).wr ten c (s.thTenant c i)).setG c i d 1).step1 c i
      else (s.setG c i d 0).step1 c i
    if imm = 0 then go Reg.CLU_ARR_OWN_HOLDER Reg.CLU_ARR_OWN_TENANT s
    else if imm = 1 then go Reg.CLU_SPK_OWN_HOLDER Reg.CLU_SPK_OWN_TENANT s
    else s.trap c i Cause.illegal 0

/-- URELEASE (R249): the unit is given up after its commands complete. -/
def execUrelease (c i imm : Nat) (s : State) : Result :=
  runThread c i s fun s =>
    if imm = 0 then
      (if s.rd Reg.CLU_ARR_OWN_HOLDER c = i + 1 then ((s.setArr c { s.arr c with release := true }).settleArr c).step1 c i else s.step1 c i)
    else if imm = 1 then
      (if s.rd Reg.CLU_SPK_OWN_HOLDER c = i + 1 then ((s.setSpk c { s.spk c with release := true }).settleSpk c).step1 c i else s.step1 c i)
    else s.trap c i Cause.illegal 0

/-! Ends. -/

/-- HALT (R255): a transform's output length is g1; one above 4 times the input fails with DETAIL 0xCF. -/
def execHalt (c i : Nat) (s : State) : Result :=
  runThread c i s fun s =>
    let s1 := ((s.step1 c i).wr Reg.CLU_THR_CTRL_RUN (ix c i) 0).setThState c i Ts.halted
    if isService i then s1
    else match s1.xformOn c i with
      | none => s1
      | some w =>
        if 4 * w.len < s1.g c i 1 then s1.xformFail c i w 0xCF
        else
          let sv := 2 * coreOf i
          s1.setThr c sv { s1.thrOf c sv with work := some { w with outLen := some (s1.g c i 1) } }

/-- TRAP (R235): R239 gives it no CAUSE: a free one, not 0 (log entry 1). -/
def execTrap (c i : Nat) (s : State) : Result := runThread c i s fun s => (s.trap c i (1 + s.free 4 % 15) 0).bump

/-- YIELD (R235): the other thread may issue. -/
def execYield (c i : Nat) (s : State) : Result := runThread c i s fun s => s.step1 c i

/-! Work items. -/

/-- WORKGET (R253): binds the item at the front of the work queue that has its hub slots; R253 does not say what g[D]
takes: a free value (log entry 1). -/
def execWorkget (c i d : Nat) (s : State) : Result :=
  runThread c i s fun s => s.priv c i (
    let s1 := ((s.setG c i d (s.free 64)).step1 c i).bump
    match (s1.thrOf c i).work, (s1.cluOf c).work with
    | none, w :: rest =>
      let t := s1.giveHub c w
      if t.2.hub = none then s1
      else ((t.1.setClu c { t.1.cluOf c with work := rest }).setThr c i { (t.1.setClu c { t.1.cluOf c with work := rest }).thrOf c i with work := some t.2 }).showClu c
    | _, _ => s1)

/-- The hub offset of an item's first slot. -/
def Work.at_ (w : Work) : Nat := 4096 * w.hub.getD 0

/-- WORKDONE (R253, R255): a placement's hub slots are free; a transform's output becomes the payload. -/
def execWorkdone (c i : Nat) (s : State) : Result :=
  runThread c i s fun s => s.priv c i (
    let s1 := s.step1 c i
    match (s1.thrOf c i).work with
    | none => s1
    | some w =>
      let s2 := (s1.setThr c i { s1.thrOf c i with work := none }).pmc c 0x19 (some (s.thTenant c i))
      if w.kind = 1 then s2.freeHub c w
      else
        let s3 := match w.outLen with
          | some n => s2.updOp w.qp w.serial (fun o => { o with sqe := { o.sqe with inl := some (Mem.bytes (s2.cluOf c).hub w.at_ n), len := n } })
          | none => s2
        (s3.setClu c { s3.cluOf c with done := (s3.cluOf c).done ++ [w] }).releaseSent c)

end Sys2Proof.Machine
end

