-- ==== Sys2Proof/Machine/Dispatch.lean ====
section
/-! DEFINITION. The dispatch of commands to their meanings, one arm a constructor. -/

namespace Sys2Proof.Machine

/-- The effect of a command on everything but the queue. -/
def exec (i : Instr) (s : State) : Host.Outcome State Fault Refusal :=
  match i with
  | .coldReset b => Sys2Proof.Machine.execColdReset b s
  | .warmReset b => Sys2Proof.Machine.execWarmReset b s
  | .kilurnReady => Sys2Proof.Machine.execKilurnReady s
  | .recoveryRequestTimer => Sys2Proof.Machine.execRecoveryRequestTimer s
  | .recoveryData src offset len data b => Sys2Proof.Machine.execRecoveryData src offset len data b s
  | .recoveryBlockTimeout => Sys2Proof.Machine.execRecoveryBlockTimeout s
  | .aux3v3Rise mv b => Sys2Proof.Machine.execAux3v3Rise mv b s
  | .aux3v3Loss mv => Sys2Proof.Machine.execAux3v3Loss mv s
  | .modPwrEnRise temps => Sys2Proof.Machine.execModPwrEnRise temps s
  | .modPwrEnFall => Sys2Proof.Machine.execModPwrEnFall s
  | .vinStartLevel vin => Sys2Proof.Machine.execVinStartLevel vin s
  | .railPowerGood b => Sys2Proof.Machine.execRailPowerGood b s
  | .railStartTimeout => Sys2Proof.Machine.execRailStartTimeout s
  | .modRstNFall => Sys2Proof.Machine.execModRstNFall s
  | .modRstNWarmTimer => Sys2Proof.Machine.execModRstNWarmTimer s
  | .modRstNColdTimer => Sys2Proof.Machine.execModRstNColdTimer s
  | .modRstNRise b => Sys2Proof.Machine.execModRstNRise b s
  | .refclkLoss => Sys2Proof.Machine.execRefclkLoss s
  | .refclkReturn => Sys2Proof.Machine.execRefclkReturn s
  | .thermalThrottleStep temps => Sys2Proof.Machine.execThermalThrottleStep temps s
  | .thermalTrip temps => Sys2Proof.Machine.execThermalTrip temps s
  | .powerCapStep watts vin auxMw => Sys2Proof.Machine.execPowerCapStep watts vin auxMw s
  | .supplyDipStart source mv => Sys2Proof.Machine.execSupplyDipStart source mv s
  | .supplyDipRecovery source minMv us => Sys2Proof.Machine.execSupplyDipRecovery source minMv us s
  | .dipHoldExpire => Sys2Proof.Machine.execDipHoldExpire s
  | .supplyBelowReset source mv b => Sys2Proof.Machine.execSupplyBelowReset source mv b s
  | .pwrReqRun => Sys2Proof.Machine.execPwrReqRun s
  | .pwrReqTrim => Sys2Proof.Machine.execPwrReqTrim s
  | .pwrReqCrocus => Sys2Proof.Machine.execPwrReqCrocus s
  | .pwrReqRest => Sys2Proof.Machine.execPwrReqRest s
  | .powerEntryDrainDone => Sys2Proof.Machine.execPowerEntryDrainDone s
  | .powerEntryDrainTimeout => Sys2Proof.Machine.execPowerEntryDrainTimeout s
  | .pmbusAck r mv => Sys2Proof.Machine.execPmbusAck r mv s
  | .pmbusTimeout r => Sys2Proof.Machine.execPmbusTimeout r s
  | .crocusWatch activity temps vin => Sys2Proof.Machine.execCrocusWatch activity temps vin s
  | .restLaneActivity => Sys2Proof.Machine.execRestLaneActivity s
  | .smbusStatus => Sys2Proof.Machine.execSmbusStatus s
  | .smbusReplace => Sys2Proof.Machine.execSmbusReplace s
  | .smbusTemp temps => Sys2Proof.Machine.execSmbusTemp temps s
  | .smbusPower vin auxMv => Sys2Proof.Machine.execSmbusPower vin auxMv s
  | .smbusIdent mac => Sys2Proof.Machine.execSmbusIdent mac s
  | .jtagBypass => Sys2Proof.Machine.execJtagBypass s
  | .jtagSamplePreload cells => Sys2Proof.Machine.execJtagSamplePreload cells s
  | .jtagExtest => Sys2Proof.Machine.execJtagExtest s
  | .jtagTestLogicReset => Sys2Proof.Machine.execJtagTestLogicReset s
  | .nearWr p m => Sys2Proof.Machine.execNearWr p m s
  | .nearRd p m => Sys2Proof.Machine.execNearRd p m s
  | .nearFlushRd p m => Sys2Proof.Machine.execNearFlushRd p m s
  | .nearFadd p m => Sys2Proof.Machine.execNearFadd p m s
  | .nearCswap p m => Sys2Proof.Machine.execNearCswap p m s
  | .nearCplReceive p m => Sys2Proof.Machine.execNearCplReceive p m s
  | .nearFlitReceive p f => Sys2Proof.Machine.execNearFlitReceive p f s
  | .nearRetryReq p ack => Sys2Proof.Machine.execNearRetryReq p ack s
  | .nearReplayExhausted p => Sys2Proof.Machine.execNearReplayExhausted p s
  | .nearFecLock p => Sys2Proof.Machine.execNearFecLock p s
  | .nearFecLossTimeout p => Sys2Proof.Machine.execNearFecLossTimeout p s
  | .nearFlitAbsenceTimeout p => Sys2Proof.Machine.execNearFlitAbsenceTimeout p s
  | .npCompletionTimeout p tag => Sys2Proof.Machine.execNpCompletionTimeout p tag s
  | .nearCaps p c => Sys2Proof.Machine.execNearCaps p c s
  | .nearReady p => Sys2Proof.Machine.execNearReady p s
  | .nearDown p => Sys2Proof.Machine.execNearDown p s
  | .nearCredit p h d n => Sys2Proof.Machine.execNearCredit p h d n s
  | .nearWakePattern p => Sys2Proof.Machine.execNearWakePattern p s
  | .nearWakeRetry p => Sys2Proof.Machine.execNearWakeRetry p s
  | .nearPortRest p => Sys2Proof.Machine.execNearPortRest p s
  | .endpointGraceExpire e => Sys2Proof.Machine.execEndpointGraceExpire e s
  | .inval p m => Sys2Proof.Machine.execInval p m s
  | .invalDrained e seq => Sys2Proof.Machine.execInvalDrained e seq s
  | .pageResp p m => Sys2Proof.Machine.execPageResp p m s
  | .walkReadDone p tag status value => Sys2Proof.Machine.execWalkReadDone p tag status value s
  | .adUpdateDone p tag status value => Sys2Proof.Machine.execAdUpdateDone p tag status value s
  | .faultStallExpire ten idx k => Sys2Proof.Machine.execFaultStallExpire ten idx k s
  | .pageRetryWaitExpire ten idx => Sys2Proof.Machine.execPageRetryWaitExpire ten idx s
  | .pageTimerExpire ten idx => Sys2Proof.Machine.execPageTimerExpire ten idx s
  | .qpDoorbell q v => Sys2Proof.Machine.execQpDoorbell q v s
  | .sqIndexReadDone q t => Sys2Proof.Machine.execSqIndexReadDone q t s
  | .sqSlotsReadDone q slots => Sys2Proof.Machine.execSqSlotsReadDone q slots s
  | .sqFetchFailed q code detail addr => Sys2Proof.Machine.execSqFetchFailed q code detail addr s
  | .refetchWaitExpire q => Sys2Proof.Machine.execRefetchWaitExpire q s
  | .sqHeadWriteback q => Sys2Proof.Machine.execSqHeadWriteback q s
  | .sqAcceptResume q => Sys2Proof.Machine.execSqAcceptResume q s
  | .sqeNop q slots => Sys2Proof.Machine.execSqeNop q slots s
  | .sqeSend q slots => Sys2Proof.Machine.execSqeSend q slots s
  | .sqeWrite q slots => Sys2Proof.Machine.execSqeWrite q slots s
  | .sqeWriteImm q slots => Sys2Proof.Machine.execSqeWriteImm q slots s
  | .sqeRead q slots => Sys2Proof.Machine.execSqeRead q slots s
  | .sqeFetchAdd q slots => Sys2Proof.Machine.execSqeFetchAdd q slots s
  | .sqeCompareSwap q slots => Sys2Proof.Machine.execSqeCompareSwap q slots s
  | .sqeReduceWrite q slots => Sys2Proof.Machine.execSqeReduceWrite q slots s
  | .sqeCollective q slots => Sys2Proof.Machine.execSqeCollective q slots s
  | .sqePostRecv q slots => Sys2Proof.Machine.execSqePostRecv q slots s
  | .sqeContOutsideChain q slots => Sys2Proof.Machine.execSqeContOutsideChain q slots s
  | .sqeReservedOpcode q o slots => Sys2Proof.Machine.execSqeReservedOpcode q o slots s
  | .cqDoorbell cq => Sys2Proof.Machine.execCqDoorbell cq s
  | .cqArm cq v => Sys2Proof.Machine.execCqArm cq v s
  | .cqHeadReadDone cq h => Sys2Proof.Machine.execCqHeadReadDone cq h s
  | .cqHeadPoll cq => Sys2Proof.Machine.execCqHeadPoll cq s
  | .cqeWrite cq pa => Sys2Proof.Machine.execCqeWrite cq pa s
  | .cqBroken cq code addr => Sys2Proof.Machine.execCqBroken cq code addr s
  | .admSqDoorbell t => Sys2Proof.Machine.execAdmSqDoorbell t s
  | .admCqDoorbell t h => Sys2Proof.Machine.execAdmCqDoorbell t h s
  | .adminUnknownCmd t e => Sys2Proof.Machine.execAdminUnknownCmd t e s
  | .createCq t e => Sys2Proof.Machine.execCreateCq t e s
  | .destroyCq t e => Sys2Proof.Machine.execDestroyCq t e s
  | .createQp t e => Sys2Proof.Machine.execCreateQp t e s
  | .destroyQp t e => Sys2Proof.Machine.execDestroyQp t e s
  | .destroyQpDone q => Sys2Proof.Machine.execDestroyQpDone q s
  | .modifyQpReset t e => Sys2Proof.Machine.execModifyQpReset t e s
  | .modifyQpConnect t e => Sys2Proof.Machine.execModifyQpConnect t e s
  | .modifyQpRepath t e => Sys2Proof.Machine.execModifyQpRepath t e s
  | .modifyQpSetError t e => Sys2Proof.Machine.execModifyQpSetError t e s
  | .queryQp t e => Sys2Proof.Machine.execQueryQp t e s
  | .createLegacyQp t e => Sys2Proof.Machine.execCreateLegacyQp t e s
  | .registerContext t e => Sys2Proof.Machine.execRegisterContext t e s
  | .unregisterContext t e => Sys2Proof.Machine.execUnregisterContext t e s
  | .registerRegion t e => Sys2Proof.Machine.execRegisterRegion t e s
  | .deregisterRegion t e => Sys2Proof.Machine.execDeregisterRegion t e s
  | .deregisterRegionDone t => Sys2Proof.Machine.execDeregisterRegionDone t s
  | .createPelotonReserve t e x => Sys2Proof.Machine.execCreatePelotonReserve t e x s
  | .createPelotonBind t e x => Sys2Proof.Machine.execCreatePelotonBind t e x s
  | .destroyPeloton t e => Sys2Proof.Machine.execDestroyPeloton t e s
  | .allocExtent t e => Sys2Proof.Machine.execAllocExtent t e s
  | .allocExtentClaim t e => Sys2Proof.Machine.execAllocExtentClaim t e s
  | .freeExtent t e => Sys2Proof.Machine.execFreeExtent t e s
  | .extentWipeDone n => Sys2Proof.Machine.execExtentWipeDone n s
  | .createTenant t e => Sys2Proof.Machine.execCreateTenant t e s
  | .destroyTenant t e => Sys2Proof.Machine.execDestroyTenant t e s
  | .destroyTenantDone n => Sys2Proof.Machine.execDestroyTenantDone n s
  | .setPool t e => Sys2Proof.Machine.execSetPool t e s
  | .setEndpointTenantsAdd t e => Sys2Proof.Machine.execSetEndpointTenantsAdd t e s
  | .setEndpointTenantsRemove t e => Sys2Proof.Machine.execSetEndpointTenantsRemove t e s
  | .setEndpointTenantsClear t e => Sys2Proof.Machine.execSetEndpointTenantsClear t e s
  | .freezeSliceFreeze t e => Sys2Proof.Machine.execFreezeSliceFreeze t e s
  | .freezeSliceThaw t e x => Sys2Proof.Machine.execFreezeSliceThaw t e x s
  | .saveSlice t e x => Sys2Proof.Machine.execSaveSlice t e x s
  | .restoreSlice t e x => Sys2Proof.Machine.execRestoreSlice t e x s
  | .unlockReattach t e => Sys2Proof.Machine.execUnlockReattach t e s
  | .sliceFreezeFire n => Sys2Proof.Machine.execSliceFreezeFire n s
  | .freezeScanDone n => Sys2Proof.Machine.execFreezeScanDone n s
  | .keepHoldExpire => Sys2Proof.Machine.execKeepHoldExpire s
  | .legacyDoorbell q t merged => Sys2Proof.Machine.execLegacyDoorbell q t merged s
  | .legacySlotsReadDone q slots => Sys2Proof.Machine.execLegacySlotsReadDone q slots s
  | .legacyNop q b => Sys2Proof.Machine.execLegacyNop q b s
  | .legacySend q b => Sys2Proof.Machine.execLegacySend q b s
  | .legacyWrite q b => Sys2Proof.Machine.execLegacyWrite q b s
  | .legacyWriteImm q b => Sys2Proof.Machine.execLegacyWriteImm q b s
  | .legacyRead q b => Sys2Proof.Machine.execLegacyRead q b s
  | .legacyFetchAdd q b => Sys2Proof.Machine.execLegacyFetchAdd q b s
  | .legacyCollective q b => Sys2Proof.Machine.execLegacyCollective q b s
  | .legacyPostRecv q b => Sys2Proof.Machine.execLegacyPostRecv q b s
  | .legacyBadEntry q b => Sys2Proof.Machine.execLegacyBadEntry q b s
  | .legacyWriteback q => Sys2Proof.Machine.execLegacyWriteback q s
  | .packetTransmit q data err => Sys2Proof.Machine.execPacketTransmit q data err s
  | .ackCoalesceTimer q => Sys2Proof.Machine.execAckCoalesceTimer q s
  | .rtoExpire q psn mem => Sys2Proof.Machine.execRtoExpire q psn mem s
  | .resendBackoffExpire q psn mem => Sys2Proof.Machine.execResendBackoffExpire q psn mem s
  | .resendLimitExpire q psn mem => Sys2Proof.Machine.execResendLimitExpire q psn mem s
  | .readRespTimeout q serial => Sys2Proof.Machine.execReadRespTimeout q serial s
  | .entropyHoldExpire q e => Sys2Proof.Machine.execEntropyHoldExpire q e s
  | .rateUpdate q => Sys2Proof.Machine.execRateUpdate q s
  | .rxSend p r => Sys2Proof.Machine.execRxSend p r s
  | .rxWrite p r => Sys2Proof.Machine.execRxWrite p r s
  | .rxWriteImm p r => Sys2Proof.Machine.execRxWriteImm p r s
  | .rxReadReq p r => Sys2Proof.Machine.execRxReadReq p r s
  | .rxReadResp p r => Sys2Proof.Machine.execRxReadResp p r s
  | .rxFetchAdd p r => Sys2Proof.Machine.execRxFetchAdd p r s
  | .rxCompareSwap p r => Sys2Proof.Machine.execRxCompareSwap p r s
  | .rxReduceWrite p r => Sys2Proof.Machine.execRxReduceWrite p r s
  | .rxAck p r => Sys2Proof.Machine.execRxAck p r s
  | .rxNakResendAfter p r => Sys2Proof.Machine.execRxNakResendAfter p r s
  | .rxNakFailOp p r => Sys2Proof.Machine.execRxNakFailOp p r s
  | .rxNakFatal p r => Sys2Proof.Machine.execRxNakFatal p r s
  | .rxAtomicAck p r => Sys2Proof.Machine.execRxAtomicAck p r s
  | .rxCadencePacket p r lane ty hops m f2 wait f3 => Sys2Proof.Machine.execRxCadencePacket p r lane ty hops m f2 wait f3 s
  | .rxMgmtPacket far src p r => Sys2Proof.Machine.execRxMgmtPacket far src p r s
  | .ptpMessage valid time frac => Sys2Proof.Machine.execPtpMessage valid time frac s
  | .messagePlacedFlushed q msn => Sys2Proof.Machine.execMessagePlacedFlushed q msn s
  | .shaperRefill => Sys2Proof.Machine.execShaperRefill s
  | .trnQshpApply idx => Sys2Proof.Machine.execTrnQshpApply idx s
  | .trnTshpApply idx => Sys2Proof.Machine.execTrnTshpApply idx s
  | .trnMtrApply idx => Sys2Proof.Machine.execTrnMtrApply idx s
  | .gateEntryChange => Sys2Proof.Machine.execGateEntryChange s
  | .egressSchedule n => Sys2Proof.Machine.execEgressSchedule n s
  | .pfcXonSend n c => Sys2Proof.Machine.execPfcXonSend n c s
  | .pfcRefreshTimer n c => Sys2Proof.Machine.execPfcRefreshTimer n c s
  | .pauseFrame n quanta => Sys2Proof.Machine.execPauseFrame n quanta s
  | .pfcFrame n mask quanta => Sys2Proof.Machine.execPfcFrame n mask quanta s
  | .pauseExpire n c => Sys2Proof.Machine.execPauseExpire n c s
  | .farFrameReceive n f => Sys2Proof.Machine.execFarFrameReceive n f s
  | .farLinkDown n => Sys2Proof.Machine.execFarLinkDown n s
  | .farLinkUp n => Sys2Proof.Machine.execFarLinkUp n s
  | .laneFailing l reason => Sys2Proof.Machine.execLaneFailing l reason s
  | .macSpareReqLane l => Sys2Proof.Machine.execMacSpareReqLane l s
  | .laneRemapPropose near port m => Sys2Proof.Machine.execLaneRemapPropose near port m s
  | .laneRemapDone near port m => Sys2Proof.Machine.execLaneRemapDone near port m s
  | .laneRemapRefuse near port m => Sys2Proof.Machine.execLaneRemapRefuse near port m s
  | .laneRemapAbort near port m => Sys2Proof.Machine.execLaneRemapAbort near port m s
  | .spareTrained near port => Sys2Proof.Machine.execSpareTrained near port s
  | .remapTimeout near port => Sys2Proof.Machine.execRemapTimeout near port s
  | .pinSubstitutionDone port ok => Sys2Proof.Machine.execPinSubstitutionDone port ok s
  | .fwpEnableWrite v => Sys2Proof.Machine.execFwpEnableWrite v s
  | .fwpConfirmGo => Sys2Proof.Machine.execFwpConfirmGo s
  | .warmHoldExpire => Sys2Proof.Machine.execWarmHoldExpire s
  | .cadEnableWrite v => Sys2Proof.Machine.execCadEnableWrite v s
  | .cadLoadGo => Sys2Proof.Machine.execCadLoadGo s
  | .cadSwapAtWrite t => Sys2Proof.Machine.execCadSwapAtWrite t s
  | .tableSwap => Sys2Proof.Machine.execTableSwap s
  | .syncIntervalEnd => Sys2Proof.Machine.execSyncIntervalEnd s
  | .upstreamLost => Sys2Proof.Machine.execUpstreamLost s
  | .syncReq lane m f2 wait f3 => Sys2Proof.Machine.execSyncReq lane m f2 wait f3 s
  | .syncResp lane m f4 hops switched => Sys2Proof.Machine.execSyncResp lane m f4 hops switched s
  | .announce lane m hops => Sys2Proof.Machine.execAnnounce lane m hops s
  | .ppsEdge frac sec => Sys2Proof.Machine.execPpsEdge frac sec s
  | .ppsOutPulse => Sys2Proof.Machine.execPpsOutPulse s
  | .referenceLost which => Sys2Proof.Machine.execReferenceLost which s
  | .holdoverErrorLimit => Sys2Proof.Machine.execHoldoverErrorLimit s
  | .cadenceClockFault => Sys2Proof.Machine.execCadenceClockFault s
  | .cadenceClockHealthy => Sys2Proof.Machine.execCadenceClockHealthy s
  | .cwaitFire c idx => Sys2Proof.Machine.execCwaitFire c idx s
  | .launchFire p serial => Sys2Proof.Machine.execLaunchFire p serial s
  | .stepDeadlineFire p round => Sys2Proof.Machine.execStepDeadlineFire p round s
  | .rxChunk p r => Sys2Proof.Machine.execRxChunk p r s
  | .rxBcastChunk p r => Sys2Proof.Machine.execRxBcastChunk p r s
  | .rxStall p r => Sys2Proof.Machine.execRxStall p r s
  | .rxLeave p r => Sys2Proof.Machine.execRxLeave p r s
  | .reformAtTr p => Sys2Proof.Machine.execReformAtTr p s
  | .collectiveComplete p bytes drops listed => Sys2Proof.Machine.execCollectiveComplete p bytes drops listed s
  | .illegalInstruction c idx => Sys2Proof.Machine.execIllegalInstruction c idx s
  | .add c idx d a b => Sys2Proof.Machine.execAdd c idx d a b s
  | .sub c idx d a b => Sys2Proof.Machine.execSub c idx d a b s
  | .and c idx d a b => Sys2Proof.Machine.execAnd c idx d a b s
  | .or c idx d a b => Sys2Proof.Machine.execOr c idx d a b s
  | .xor c idx d a b => Sys2Proof.Machine.execXor c idx d a b s
  | .shl c idx d a b => Sys2Proof.Machine.execShl c idx d a b s
  | .shr c idx d a b => Sys2Proof.Machine.execShr c idx d a b s
  | .sra c idx d a b => Sys2Proof.Machine.execSra c idx d a b s
  | .slt c idx d a b => Sys2Proof.Machine.execSlt c idx d a b s
  | .sltu c idx d a b => Sys2Proof.Machine.execSltu c idx d a b s
  | .min c idx d a b => Sys2Proof.Machine.execMin c idx d a b s
  | .max c idx d a b => Sys2Proof.Machine.execMax c idx d a b s
  | .popc c idx d a => Sys2Proof.Machine.execPopc c idx d a s
  | .clz c idx d a => Sys2Proof.Machine.execClz c idx d a s
  | .mul c idx d a b => Sys2Proof.Machine.execMul c idx d a b s
  | .mulh c idx d a b => Sys2Proof.Machine.execMulh c idx d a b s
  | .div c idx d a b => Sys2Proof.Machine.execDiv c idx d a b s
  | .rem c idx d a b => Sys2Proof.Machine.execRem c idx d a b s
  | .addi c idx d a imm => Sys2Proof.Machine.execAddi c idx d a imm s
  | .andi c idx d a imm => Sys2Proof.Machine.execAndi c idx d a imm s
  | .ori c idx d a imm => Sys2Proof.Machine.execOri c idx d a imm s
  | .xori c idx d a imm => Sys2Proof.Machine.execXori c idx d a imm s
  | .shli c idx d a imm => Sys2Proof.Machine.execShli c idx d a imm s
  | .shri c idx d a imm => Sys2Proof.Machine.execShri c idx d a imm s
  | .srai c idx d a imm => Sys2Proof.Machine.execSrai c idx d a imm s
  | .slti c idx d a imm => Sys2Proof.Machine.execSlti c idx d a imm s
  | .lui c idx d imm => Sys2Proof.Machine.execLui c idx d imm s
  | .ldB c idx d a imm => Sys2Proof.Machine.execLdB c idx d a imm s
  | .ldH c idx d a imm => Sys2Proof.Machine.execLdH c idx d a imm s
  | .ldW c idx d a imm => Sys2Proof.Machine.execLdW c idx d a imm s
  | .ldD c idx d a imm => Sys2Proof.Machine.execLdD c idx d a imm s
  | .stB c idx d a imm => Sys2Proof.Machine.execStB c idx d a imm s
  | .stH c idx d a imm => Sys2Proof.Machine.execStH c idx d a imm s
  | .stW c idx d a imm => Sys2Proof.Machine.execStW c idx d a imm s
  | .stD c idx d a imm => Sys2Proof.Machine.execStD c idx d a imm s
  | .beq c idx d a imm => Sys2Proof.Machine.execBeq c idx d a imm s
  | .bne c idx d a imm => Sys2Proof.Machine.execBne c idx d a imm s
  | .blt c idx d a imm => Sys2Proof.Machine.execBlt c idx d a imm s
  | .bge c idx d a imm => Sys2Proof.Machine.execBge c idx d a imm s
  | .bltu c idx d a imm => Sys2Proof.Machine.execBltu c idx d a imm s
  | .bgeu c idx d a imm => Sys2Proof.Machine.execBgeu c idx d a imm s
  | .jal c idx d imm => Sys2Proof.Machine.execJal c idx d imm s
  | .jalr c idx d a imm => Sys2Proof.Machine.execJalr c idx d a imm s
  | .vadd c idx d a b f chk => Sys2Proof.Machine.execVadd c idx d a b f chk s
  | .vsub c idx d a b f chk => Sys2Proof.Machine.execVsub c idx d a b f chk s
  | .vmul c idx d a b f chk => Sys2Proof.Machine.execVmul c idx d a b f chk s
  | .vfma c idx d a b f chk => Sys2Proof.Machine.execVfma c idx d a b f chk s
  | .vmin c idx d a b f => Sys2Proof.Machine.execVmin c idx d a b f s
  | .vmax c idx d a b f => Sys2Proof.Machine.execVmax c idx d a b f s
  | .vcmp c idx d f => Sys2Proof.Machine.execVcmp c idx d f s
  | .vsel c idx d a b f => Sys2Proof.Machine.execVsel c idx d a b f s
  | .vcvt c idx d a b f src chk => Sys2Proof.Machine.execVcvt c idx d a b f src chk s
  | .vbmax c idx d a f src => Sys2Proof.Machine.execVbmax c idx d a f src s
  | .vscale c idx d a b f src chk => Sys2Proof.Machine.execVscale c idx d a b f src chk s
  | .vwadd c idx d a f chk => Sys2Proof.Machine.execVwadd c idx d a f chk s
  | .vreduce c idx d a f chk => Sys2Proof.Machine.execVreduce c idx d a f chk s
  | .vld c idx d a imm => Sys2Proof.Machine.execVld c idx d a imm s
  | .vst c idx d a imm => Sys2Proof.Machine.execVst c idx d a imm s
  | .vperm c idx d a b => Sys2Proof.Machine.execVperm c idx d a b s
  | .vbcast c idx d a w l => Sys2Proof.Machine.execVbcast c idx d a w l s
  | .vmovg c idx d a w l => Sys2Proof.Machine.execVmovg c idx d a w l s
  | .vmovv c idx d a w l => Sys2Proof.Machine.execVmovv c idx d a w l s
  | .sld c idx d a b f => Sys2Proof.Machine.execSld c idx d a b f s
  | .sst c idx d a b f => Sys2Proof.Machine.execSst c idx d a b f s
  | .sgather c idx d a b f => Sys2Proof.Machine.execSgather c idx d a b f s
  | .sscatter c idx d a b f => Sys2Proof.Machine.execSscatter c idx d a b f s
  | .swait c idx d f => Sys2Proof.Machine.execSwait c idx d f s
  | .spoll c idx d f => Sys2Proof.Machine.execSpoll c idx d f s
  | .hld c idx d a b f => Sys2Proof.Machine.execHld c idx d a b f s
  | .hst c idx d a b f => Sys2Proof.Machine.execHst c idx d a b f s
  | .shx c idx d a b f => Sys2Proof.Machine.execShx c idx d a b f s
  | .streamSlotDone c u k => Sys2Proof.Machine.execStreamSlotDone c u k s
  | .crCfg c idx a => Sys2Proof.Machine.execCrCfg c idx a s
  | .crLoad c idx d a b => Sys2Proof.Machine.execCrLoad c idx d a b s
  | .crMul c idx a b => Sys2Proof.Machine.execCrMul c idx a b s
  | .crStore c idx a b => Sys2Proof.Machine.execCrStore c idx a b s
  | .crStat c idx d => Sys2Proof.Machine.execCrStat c idx d s
  | .chainringPassDone c rows cols rows2 cols2 => Sys2Proof.Machine.execChainringPassDone c rows cols rows2 cols2 s
  | .spCfg c idx a => Sys2Proof.Machine.execSpCfg c idx a s
  | .spClr c idx d => Sys2Proof.Machine.execSpClr c idx d s
  | .spAdd c idx d a b f => Sys2Proof.Machine.execSpAdd c idx d a b f s
  | .spExport c idx d a f => Sys2Proof.Machine.execSpExport c idx d a f s
  | .spImport c idx d a f => Sys2Proof.Machine.execSpImport c idx d a f s
  | .spRound c idx d a f => Sys2Proof.Machine.execSpRound c idx d a f s
  | .sprocketCommandDone c bad => Sys2Proof.Machine.execSprocketCommandDone c bad s
  | .cread c idx d => Sys2Proof.Machine.execCread c idx d s
  | .cwait c idx d a => Sys2Proof.Machine.execCwait c idx d a s
  | .cdeadline c idx d a => Sys2Proof.Machine.execCdeadline c idx d a s
  | .fence c idx mask => Sys2Proof.Machine.execFence c idx mask s
  | .fenceRelease c idx => Sys2Proof.Machine.execFenceRelease c idx s
  | .barrier c idx mask => Sys2Proof.Machine.execBarrier c idx mask s
  | .barrierRelease c mask => Sys2Proof.Machine.execBarrierRelease c mask s
  | .signal c idx v => Sys2Proof.Machine.execSignal c idx v s
  | .csrr c idx d imm => Sys2Proof.Machine.execCsrr c idx d imm s
  | .csrw c idx a imm => Sys2Proof.Machine.execCsrw c idx a imm s
  | .uclaim c idx d imm => Sys2Proof.Machine.execUclaim c idx d imm s
  | .urelease c idx imm => Sys2Proof.Machine.execUrelease c idx imm s
  | .halt c idx => Sys2Proof.Machine.execHalt c idx s
  | .trap c idx => Sys2Proof.Machine.execTrap c idx s
  | .yield c idx => Sys2Proof.Machine.execYield c idx s
  | .workget c idx d => Sys2Proof.Machine.execWorkget c idx d s
  | .workdone c idx => Sys2Proof.Machine.execWorkdone c idx s
  | .cluThrCtrlWrite c idx v => Sys2Proof.Machine.execCluThrCtrlWrite c idx v s
  | .cluBankOwnWrite c b v => Sys2Proof.Machine.execCluBankOwnWrite c b v s
  | .bankZeroingDone c b => Sys2Proof.Machine.execBankZeroingDone c b s
  | .cluPstoreDataWrite c v => Sys2Proof.Machine.execCluPstoreDataWrite c v s
  | .mbxDoorbell p slot seq => Sys2Proof.Machine.execMbxDoorbell p slot seq s
  | .mailboxUnknownCmd ch => Sys2Proof.Machine.execMailboxUnknownCmd ch s
  | .getInfo ch => Sys2Proof.Machine.execGetInfo ch s
  | .getAttestation ch => Sys2Proof.Machine.execGetAttestation ch s
  | .getIdentityCert ch => Sys2Proof.Machine.execGetIdentityCert ch s
  | .attach ch => Sys2Proof.Machine.execAttach ch s
  | .reattachOrdinary ch => Sys2Proof.Machine.execReattachOrdinary ch s
  | .reattachMigration ch recs => Sys2Proof.Machine.execReattachMigration ch recs s
  | .release ch => Sys2Proof.Machine.execRelease ch s
  | .bindAdmin ch => Sys2Proof.Machine.execBindAdmin ch s
  | .unbindAdmin ch => Sys2Proof.Machine.execUnbindAdmin ch s
  | .keyAgree ch => Sys2Proof.Machine.execKeyAgree ch s
  | .keyInstall ch owner pointOk tagOk key => Sys2Proof.Machine.execKeyInstall ch owner pointOk tagOk key s
  | .keyActivate ch => Sys2Proof.Machine.execKeyActivate ch s
  | .keyRetire ch => Sys2Proof.Machine.execKeyRetire ch s
  | .keyQuery ch => Sys2Proof.Machine.execKeyQuery ch s
  | .ctxBindQp ch => Sys2Proof.Machine.execCtxBindQp ch s
  | .keyChallengeExpire slot => Sys2Proof.Machine.execKeyChallengeExpire slot s
  | .admin ch x => Sys2Proof.Machine.execAdmin ch x s
  | .eventRead ch => Sys2Proof.Machine.execEventRead ch s
  | .regRead ch => Sys2Proof.Machine.execRegRead ch s
  | .regWrite ch => Sys2Proof.Machine.execRegWrite ch s
  | .stage ch => Sys2Proof.Machine.execStage ch s
  | .fwCommit ch signer sigOk => Sys2Proof.Machine.execFwCommit ch signer sigOk s
  | .xformInstall ch => Sys2Proof.Machine.execXformInstall ch s
  | .xformRemove ch => Sys2Proof.Machine.execXformRemove ch s
  | .xformRemoveDone idx => Sys2Proof.Machine.execXformRemoveDone idx s
  | .configLog ch => Sys2Proof.Machine.execConfigLog ch s
  | .lcChallenge ch => Sys2Proof.Machine.execLcChallenge ch s
  | .lcChallengeExpire => Sys2Proof.Machine.execLcChallengeExpire s
  | .lcAdvance ch sigOk => Sys2Proof.Machine.execLcAdvance ch sigOk s
  | .lcPendingRecord => Sys2Proof.Machine.execLcPendingRecord s
  | .lcStateCommit b => Sys2Proof.Machine.execLcStateCommit b s
  | .moduleResetWarm ch b => Sys2Proof.Machine.execModuleResetWarm ch b s
  | .moduleResetRestart ch copyOk b => Sys2Proof.Machine.execModuleResetRestart ch copyOk b s
  | .controlFlowMismatch core copyOk b => Sys2Proof.Machine.execControlFlowMismatch core copyOk b s
  | .mgmtEccUncorrectable core copyOk b => Sys2Proof.Machine.execMgmtEccUncorrectable core copyOk b s
  | .watchdogExpire core copyOk b => Sys2Proof.Machine.execWatchdogExpire core copyOk b s
  | .errorReport unit cls uncorr x copyOk b => Sys2Proof.Machine.execErrorReport unit cls uncorr x copyOk b s
  | .targetedTestDone unit pass => Sys2Proof.Machine.execTargetedTestDone unit pass s
  | .targetedTestTimeout unit => Sys2Proof.Machine.execTargetedTestTimeout unit s
  | .resTestReq unit => Sys2Proof.Machine.execResTestReq unit s
  | .spareTestSlot unit => Sys2Proof.Machine.execSpareTestSlot unit s
  | .clusterDrainDone c => Sys2Proof.Machine.execClusterDrainDone c s
  | .bankCopyDone c b => Sys2Proof.Machine.execBankCopyDone c b s
  | .resMarchGo v => Sys2Proof.Machine.execResMarchGo v s
  | .marchDone fail => Sys2Proof.Machine.execMarchDone fail s
  | .sweepStep found => Sys2Proof.Machine.execSweepStep found s
  | .gddr7RowTestDone d pass => Sys2Proof.Machine.execGddr7RowTestDone d pass s
  | .memCopyReq d => Sys2Proof.Machine.execMemCopyReq d s
  | .deviceCopyDone => Sys2Proof.Machine.execDeviceCopyDone s
  | .patrolScrubStep n errs => Sys2Proof.Machine.execPatrolScrubStep n errs s
  | .ageingHourlyRead margins => Sys2Proof.Machine.execAgeingHourlyRead margins s
  | .counterDump => Sys2Proof.Machine.execCounterDump s
  | .pmcClearAll => Sys2Proof.Machine.execPmcClearAll s
  | .pmcDumpEnable v => Sys2Proof.Machine.execPmcDumpEnable v s
  | .registerWrite off v => Sys2Proof.Machine.execRegisterWrite off v s
  | .unregisterContextDone t => Sys2Proof.Machine.execUnregisterContextDone t s
  | .macPortCfgWrite n v => Sys2Proof.Machine.execMacPortCfgWrite n v s
  | .chainringCommandDone c => Sys2Proof.Machine.execChainringCommandDone c s
  | .programThreadZeroingDone c idx => Sys2Proof.Machine.execProgramThreadZeroingDone c idx s

end Sys2Proof.Machine
end

