-- ==== Sys2Proof/Machine/Tick.lean ====
section
/-! DEFINITION. What the block does when no command waits (R29). -/

namespace Sys2Proof.Machine

/-- Does the cadence counter run: the freewheel domain has power and is not held in reset (R19, R470)? -/
def State.counts (s : State) : Bool := !s.board.pwr.off && s.board.pwr.rst != 3

/-- Is a scheduled event due at this very count? -/
def State.eventDue (s : State) : Bool := s.armed.any (fun e => e.at_ == s.now)

/-- One cadence cycle (R29): the count goes up by 1. It does not pass an event that is due and has not come yet (log entry 47). -/
def State.tick (s : State) : State :=
  if s.counts && !s.eventDue then s.wr Reg.CAD_COUNT_COUNT 0 ((s.now + 1) % 2 ^ 64) else s

end Sys2Proof.Machine
end

