-- ==== Sys2Proof/WellFormed.lean ====
section
/-! DEFINITION. Which commands are well formed: every operand names a thing that the spec gives the module. -/

namespace Sys2Proof

/-! What each operand may be. -/

/-- A compute cluster (R16). -/
def okCluster (c : Nat) : Bool := decide (c < 10)
/-- A thread of a cluster (R16, R260). -/
def okThread (i : Nat) : Bool := decide (i < 8)
/-- A field D, A or B (R234). -/
def okNumber (n : Nat) : Bool := decide (n < 32)
/-- A field F (R234). -/
def okF (f : Nat) : Bool := decide (f < 128)
/-- A field IMM12 (R234). -/
def okImm (v : Nat) : Bool := decide (v < 4096)
/-- A field IMM17 (R234). -/
def okLong (v : Nat) : Bool := decide (v < 131072)
/-- A logical or physical bank number (R246). -/
def okBank (b : Nat) : Bool := decide (b < 17)
/-- A stream unit (R240). -/
def okUnit (u : Nat) : Bool := decide (u < 4)
/-- A queue pair (R4). -/
def okQp (q : Nat) : Bool := decide (q < 16384)
/-- A completion ring (R4). -/
def okCq (n : Nat) : Bool := decide (n < 4096)
/-- A slot: a tenant, or the provider (R5). -/
def okSlot (t : Nat) : Bool := decide (t < 512) || t == 1023
/-- A tenant (R5). -/
def okTenant (t : Nat) : Bool := decide (t < 512)
/-- A TENANT field of 10 bits (R63). -/
def okTenant10 (t : Nat) : Bool := decide (t < 1024)
/-- An extent number (R330). -/
def okExtent (n : Nat) : Bool := decide (n < 4096)
/-- An admin entry: 64 bytes (R124). -/
def okEntry (e : List Byte) : Bool := e.length == 64
/-- Slots of a native ring: 64 bytes each (R109). -/
def okSlots (l : List (List Byte)) : Bool := l.all (fun b => b.length == 64)
/-- Slots of a legacy ring: 32 bytes each (R137). -/
def okLegacySlots (l : List (List Byte)) : Bool := l.all (fun b => b.length == 32)
/-- A legacy entry: 32 bytes (R137). -/
def okLegacy (b : List Byte) : Bool := b.length == 32
/-- A near port (R56). -/
def okNear (p : Nat) : Bool := decide (p < 8)
/-- A request tag (R63). -/
def okTag (t : Nat) : Bool := decide (t < 4096)
/-- An attachment slot (R380). -/
def okAttach (e : Nat) : Bool := decide (e < 8)
/-- A peloton (R298). -/
def okPeloton (p : Nat) : Bool := decide (p < 4096)
/-- A far port, by its first lane, or a far lane (R206). -/
def okLane (n : Nat) : Bool := decide (n < 32)
/-- A traffic class (R191). -/
def okClass (c : Nat) : Bool := decide (c < 16)
/-- A lane position: 36 far, then 36 near (R401). -/
def okPosition (l : Nat) : Bool := decide (l < 72)
/-- A unit number of 16 bits (R401). -/
def okUnitNo (u : Nat) : Bool := decide (u < 65536)
/-- A GDDR7 device (R401). -/
def okDevice (d : Nat) : Bool := decide (d < 18)
/-- The offset of a register in the provider blocks (R8, R10). -/
def okOffset (o : Nat) : Bool := decide (o < 19 * 1048576) && o % 8 == 0
/-- A mailbox channel: a slot, the management port or the far-port channel (R376). -/
def okChannel (ch : Nat) : Bool := okSlot ch || ch == 1024 || ch == 1025
/-- A management core (R401). -/
def okCore (k : Nat) : Bool := decide (k < 4)
/-- A rail (R464). -/
def okRail (r : Nat) : Bool := decide (r < 16)

/-- Is a command well formed? -/
def Instr.wf : Instr → Bool
  | .coldReset _ => true
  | .warmReset _ => true
  | .kilurnReady => true
  | .recoveryRequestTimer => true
  | .recoveryData _ _ _ _ _ => true
  | .recoveryBlockTimeout => true
  | .aux3v3Rise _ _ => true
  | .aux3v3Loss _ => true
  | .modPwrEnRise _ => true
  | .modPwrEnFall => true
  | .vinStartLevel _ => true
  | .railPowerGood _ => true
  | .railStartTimeout => true
  | .modRstNFall => true
  | .modRstNWarmTimer => true
  | .modRstNColdTimer => true
  | .modRstNRise _ => true
  | .refclkLoss => true
  | .refclkReturn => true
  | .thermalThrottleStep _ => true
  | .thermalTrip _ => true
  | .powerCapStep _ _ _ => true
  | .supplyDipStart _ _ => true
  | .supplyDipRecovery _ _ _ => true
  | .dipHoldExpire => true
  | .supplyBelowReset _ _ _ => true
  | .pwrReqRun => true
  | .pwrReqTrim => true
  | .pwrReqCrocus => true
  | .pwrReqRest => true
  | .powerEntryDrainDone => true
  | .powerEntryDrainTimeout => true
  | .pmbusAck r _ => okRail r
  | .pmbusTimeout r => okRail r
  | .crocusWatch _ _ _ => true
  | .restLaneActivity => true
  | .smbusStatus => true
  | .smbusReplace => true
  | .smbusTemp _ => true
  | .smbusPower _ _ => true
  | .smbusIdent _ => true
  | .jtagBypass => true
  | .jtagSamplePreload _ => true
  | .jtagExtest => true
  | .jtagTestLogicReset => true
  | .nearWr p _ => okNear p
  | .nearRd p _ => okNear p
  | .nearFlushRd p _ => okNear p
  | .nearFadd p _ => okNear p
  | .nearCswap p _ => okNear p
  | .nearCplReceive p _ => okNear p
  | .nearFlitReceive p _ => okNear p
  | .nearRetryReq p _ => okNear p
  | .nearReplayExhausted p => okNear p
  | .nearFecLock p => okNear p
  | .nearFecLossTimeout p => okNear p
  | .nearFlitAbsenceTimeout p => okNear p
  | .npCompletionTimeout p tag => okNear p && okTag tag
  | .nearCaps p _ => okNear p
  | .nearReady p => okNear p
  | .nearDown p => okNear p
  | .nearCredit p _ _ _ => okNear p
  | .nearWakePattern p => okNear p
  | .nearWakeRetry p => okNear p
  | .nearPortRest p => okNear p
  | .endpointGraceExpire e => okAttach e
  | .inval p _ => okNear p
  | .invalDrained e _ => okAttach e
  | .pageResp p _ => okNear p
  | .walkReadDone p tag _ _ => okNear p && okTag tag
  | .adUpdateDone p tag _ _ => okNear p && okTag tag
  | .faultStallExpire ten _ _ => okTenant10 ten
  | .pageRetryWaitExpire ten _ => okTenant10 ten
  | .pageTimerExpire ten _ => okTenant10 ten
  | .qpDoorbell q _ => okQp q
  | .sqIndexReadDone q _ => okQp q
  | .sqSlotsReadDone q slots => okQp q && okSlots slots
  | .sqFetchFailed q _ _ _ => okQp q
  | .refetchWaitExpire q => okQp q
  | .sqHeadWriteback q => okQp q
  | .sqAcceptResume q => okQp q
  | .sqeNop q slots => okQp q && okSlots slots
  | .sqeSend q slots => okQp q && okSlots slots
  | .sqeWrite q slots => okQp q && okSlots slots
  | .sqeWriteImm q slots => okQp q && okSlots slots
  | .sqeRead q slots => okQp q && okSlots slots
  | .sqeFetchAdd q slots => okQp q && okSlots slots
  | .sqeCompareSwap q slots => okQp q && okSlots slots
  | .sqeReduceWrite q slots => okQp q && okSlots slots
  | .sqeCollective q slots => okQp q && okSlots slots
  | .sqePostRecv q slots => okQp q && okSlots slots
  | .sqeContOutsideChain q slots => okQp q && okSlots slots
  | .sqeReservedOpcode q _ slots => okQp q && okSlots slots
  | .cqDoorbell cq => okCq cq
  | .cqArm cq _ => okCq cq
  | .cqHeadReadDone cq _ => okCq cq
  | .cqHeadPoll cq => okCq cq
  | .cqeWrite cq _ => okCq cq
  | .cqBroken cq _ _ => okCq cq
  | .admSqDoorbell t => okSlot t
  | .admCqDoorbell t _ => okSlot t
  | .adminUnknownCmd t e => okSlot t && okEntry e
  | .createCq t e => okSlot t && okEntry e
  | .destroyCq t e => okSlot t && okEntry e
  | .createQp t e => okSlot t && okEntry e
  | .destroyQp t e => okSlot t && okEntry e
  | .destroyQpDone q => okQp q
  | .modifyQpReset t e => okSlot t && okEntry e
  | .modifyQpConnect t e => okSlot t && okEntry e
  | .modifyQpRepath t e => okSlot t && okEntry e
  | .modifyQpSetError t e => okSlot t && okEntry e
  | .queryQp t e => okSlot t && okEntry e
  | .createLegacyQp t e => okSlot t && okEntry e
  | .registerContext t e => okSlot t && okEntry e
  | .unregisterContext t e => okSlot t && okEntry e
  | .registerRegion t e => okSlot t && okEntry e
  | .deregisterRegion t e => okSlot t && okEntry e
  | .deregisterRegionDone t => okSlot t
  | .createPelotonReserve t e _ => okSlot t && okEntry e
  | .createPelotonBind t e _ => okSlot t && okEntry e
  | .destroyPeloton t e => okSlot t && okEntry e
  | .allocExtent t e => okSlot t && okEntry e
  | .allocExtentClaim t e => okSlot t && okEntry e
  | .freeExtent t e => okSlot t && okEntry e
  | .extentWipeDone n => okExtent n
  | .createTenant t e => okSlot t && okEntry e
  | .destroyTenant t e => okSlot t && okEntry e
  | .destroyTenantDone n => okTenant n
  | .setPool t e => okSlot t && okEntry e
  | .setEndpointTenantsAdd t e => okSlot t && okEntry e
  | .setEndpointTenantsRemove t e => okSlot t && okEntry e
  | .setEndpointTenantsClear t e => okSlot t && okEntry e
  | .freezeSliceFreeze t e => okSlot t && okEntry e
  | .freezeSliceThaw t e _ => okSlot t && okEntry e
  | .saveSlice t e _ => okSlot t && okEntry e
  | .restoreSlice t e _ => okSlot t && okEntry e
  | .unlockReattach t e => okSlot t && okEntry e
  | .sliceFreezeFire n => okTenant n
  | .freezeScanDone n => okTenant n
  | .keepHoldExpire => true
  | .legacyDoorbell q _ _ => okQp q
  | .legacySlotsReadDone q slots => okQp q && okLegacySlots slots
  | .legacyNop q b => okQp q && okLegacy b
  | .legacySend q b => okQp q && okLegacy b
  | .legacyWrite q b => okQp q && okLegacy b
  | .legacyWriteImm q b => okQp q && okLegacy b
  | .legacyRead q b => okQp q && okLegacy b
  | .legacyFetchAdd q b => okQp q && okLegacy b
  | .legacyCollective q b => okQp q && okLegacy b
  | .legacyPostRecv q b => okQp q && okLegacy b
  | .legacyBadEntry q b => okQp q && okLegacy b
  | .legacyWriteback q => okQp q
  | .packetTransmit q _ _ => okQp q
  | .ackCoalesceTimer q => okQp q
  | .rtoExpire q _ _ => okQp q
  | .resendBackoffExpire q _ _ => okQp q
  | .resendLimitExpire q _ _ => okQp q
  | .readRespTimeout q _ => okQp q
  | .entropyHoldExpire q _ => okQp q
  | .rateUpdate q => okQp q
  | .rxSend _ _ => true
  | .rxWrite _ _ => true
  | .rxWriteImm _ _ => true
  | .rxReadReq _ _ => true
  | .rxReadResp _ _ => true
  | .rxFetchAdd _ _ => true
  | .rxCompareSwap _ _ => true
  | .rxReduceWrite _ _ => true
  | .rxAck _ _ => true
  | .rxNakResendAfter _ _ => true
  | .rxNakFailOp _ _ => true
  | .rxNakFatal _ _ => true
  | .rxAtomicAck _ _ => true
  | .rxCadencePacket _ _ lane _ _ _ _ _ _ => okLane lane
  | .rxMgmtPacket _ _ _ _ => true
  | .ptpMessage _ _ _ => true
  | .messagePlacedFlushed q _ => okQp q
  | .shaperRefill => true
  | .trnQshpApply _ => true
  | .trnTshpApply _ => true
  | .trnMtrApply _ => true
  | .gateEntryChange => true
  | .egressSchedule n => okLane n
  | .pfcXonSend n c => okLane n && okClass c
  | .pfcRefreshTimer n c => okLane n && okClass c
  | .pauseFrame n _ => okLane n
  | .pfcFrame n _ _ => okLane n
  | .pauseExpire n c => okLane n && okClass c
  | .farFrameReceive n _ => okLane n
  | .farLinkDown n => okLane n
  | .farLinkUp n => okLane n
  | .laneFailing l _ => okPosition l
  | .macSpareReqLane l => okPosition l
  | .laneRemapPropose _ _ _ => true
  | .laneRemapDone _ _ _ => true
  | .laneRemapRefuse _ _ _ => true
  | .laneRemapAbort _ _ _ => true
  | .spareTrained _ _ => true
  | .remapTimeout _ _ => true
  | .pinSubstitutionDone _ _ => true
  | .fwpEnableWrite _ => true
  | .fwpConfirmGo => true
  | .warmHoldExpire => true
  | .cadEnableWrite _ => true
  | .cadLoadGo => true
  | .cadSwapAtWrite _ => true
  | .tableSwap => true
  | .syncIntervalEnd => true
  | .upstreamLost => true
  | .syncReq lane _ _ _ _ => okLane lane
  | .syncResp lane _ _ _ _ => okLane lane
  | .announce lane _ _ => okLane lane
  | .ppsEdge _ _ => true
  | .ppsOutPulse => true
  | .referenceLost _ => true
  | .holdoverErrorLimit => true
  | .cadenceClockFault => true
  | .cadenceClockHealthy => true
  | .cwaitFire c i => okCluster c && okThread i
  | .launchFire p _ => okPeloton p
  | .stepDeadlineFire p _ => okPeloton p
  | .rxChunk _ _ => true
  | .rxBcastChunk _ _ => true
  | .rxStall _ _ => true
  | .rxLeave _ _ => true
  | .reformAtTr p => okPeloton p
  | .collectiveComplete p _ _ _ => okPeloton p
  | .illegalInstruction c i => okCluster c && okThread i
  | .add c i d a b => okCluster c && okThread i && okNumber d && okNumber a && okNumber b
  | .sub c i d a b => okCluster c && okThread i && okNumber d && okNumber a && okNumber b
  | .and c i d a b => okCluster c && okThread i && okNumber d && okNumber a && okNumber b
  | .or c i d a b => okCluster c && okThread i && okNumber d && okNumber a && okNumber b
  | .xor c i d a b => okCluster c && okThread i && okNumber d && okNumber a && okNumber b
  | .shl c i d a b => okCluster c && okThread i && okNumber d && okNumber a && okNumber b
  | .shr c i d a b => okCluster c && okThread i && okNumber d && okNumber a && okNumber b
  | .sra c i d a b => okCluster c && okThread i && okNumber d && okNumber a && okNumber b
  | .slt c i d a b => okCluster c && okThread i && okNumber d && okNumber a && okNumber b
  | .sltu c i d a b => okCluster c && okThread i && okNumber d && okNumber a && okNumber b
  | .min c i d a b => okCluster c && okThread i && okNumber d && okNumber a && okNumber b
  | .max c i d a b => okCluster c && okThread i && okNumber d && okNumber a && okNumber b
  | .popc c i d a => okCluster c && okThread i && okNumber d && okNumber a
  | .clz c i d a => okCluster c && okThread i && okNumber d && okNumber a
  | .mul c i d a b => okCluster c && okThread i && okNumber d && okNumber a && okNumber b
  | .mulh c i d a b => okCluster c && okThread i && okNumber d && okNumber a && okNumber b
  | .div c i d a b => okCluster c && okThread i && okNumber d && okNumber a && okNumber b
  | .rem c i d a b => okCluster c && okThread i && okNumber d && okNumber a && okNumber b
  | .addi c i d a imm => okCluster c && okThread i && okNumber d && okNumber a && okImm imm
  | .andi c i d a imm => okCluster c && okThread i && okNumber d && okNumber a && okImm imm
  | .ori c i d a imm => okCluster c && okThread i && okNumber d && okNumber a && okImm imm
  | .xori c i d a imm => okCluster c && okThread i && okNumber d && okNumber a && okImm imm
  | .shli c i d a imm => okCluster c && okThread i && okNumber d && okNumber a && okImm imm
  | .shri c i d a imm => okCluster c && okThread i && okNumber d && okNumber a && okImm imm
  | .srai c i d a imm => okCluster c && okThread i && okNumber d && okNumber a && okImm imm
  | .slti c i d a imm => okCluster c && okThread i && okNumber d && okNumber a && okImm imm
  | .lui c i d imm => okCluster c && okThread i && okNumber d && okLong imm
  | .ldB c i d a imm => okCluster c && okThread i && okNumber d && okNumber a && okImm imm
  | .ldH c i d a imm => okCluster c && okThread i && okNumber d && okNumber a && okImm imm
  | .ldW c i d a imm => okCluster c && okThread i && okNumber d && okNumber a && okImm imm
  | .ldD c i d a imm => okCluster c && okThread i && okNumber d && okNumber a && okImm imm
  | .stB c i d a imm => okCluster c && okThread i && okNumber d && okNumber a && okImm imm
  | .stH c i d a imm => okCluster c && okThread i && okNumber d && okNumber a && okImm imm
  | .stW c i d a imm => okCluster c && okThread i && okNumber d && okNumber a && okImm imm
  | .stD c i d a imm => okCluster c && okThread i && okNumber d && okNumber a && okImm imm
  | .beq c i d a imm => okCluster c && okThread i && okNumber d && okNumber a && okImm imm
  | .bne c i d a imm => okCluster c && okThread i && okNumber d && okNumber a && okImm imm
  | .blt c i d a imm => okCluster c && okThread i && okNumber d && okNumber a && okImm imm
  | .bge c i d a imm => okCluster c && okThread i && okNumber d && okNumber a && okImm imm
  | .bltu c i d a imm => okCluster c && okThread i && okNumber d && okNumber a && okImm imm
  | .bgeu c i d a imm => okCluster c && okThread i && okNumber d && okNumber a && okImm imm
  | .jal c i d imm => okCluster c && okThread i && okNumber d && okLong imm
  | .jalr c i d a imm => okCluster c && okThread i && okNumber d && okNumber a && okImm imm
  | .vadd c i d a b f _ => okCluster c && okThread i && okNumber d && okNumber a && okNumber b && okF f
  | .vsub c i d a b f _ => okCluster c && okThread i && okNumber d && okNumber a && okNumber b && okF f
  | .vmul c i d a b f _ => okCluster c && okThread i && okNumber d && okNumber a && okNumber b && okF f
  | .vfma c i d a b f _ => okCluster c && okThread i && okNumber d && okNumber a && okNumber b && okF f
  | .vmin c i d a b f => okCluster c && okThread i && okNumber d && okNumber a && okNumber b && okF f
  | .vmax c i d a b f => okCluster c && okThread i && okNumber d && okNumber a && okNumber b && okF f
  | .vcmp c i d f => okCluster c && okThread i && okNumber d && okF f
  | .vsel c i d a b f => okCluster c && okThread i && okNumber d && okNumber a && okNumber b && okF f
  | .vcvt c i d a b f _ _ => okCluster c && okThread i && okNumber d && okNumber a && okNumber b && okF f
  | .vbmax c i d a f _ => okCluster c && okThread i && okNumber d && okNumber a && okF f
  | .vscale c i d a b f _ _ => okCluster c && okThread i && okNumber d && okNumber a && okNumber b && okF f
  | .vwadd c i d a f _ => okCluster c && okThread i && okNumber d && okNumber a && okF f
  | .vreduce c i d a f _ => okCluster c && okThread i && okNumber d && okNumber a && okF f
  | .vld c i d a imm => okCluster c && okThread i && okNumber d && okNumber a && okImm imm
  | .vst c i d a imm => okCluster c && okThread i && okNumber d && okNumber a && okImm imm
  | .vperm c i d a b => okCluster c && okThread i && okNumber d && okNumber a && okNumber b
  | .vbcast c i d a _ _ => okCluster c && okThread i && okNumber d && okNumber a
  | .vmovg c i d a _ _ => okCluster c && okThread i && okNumber d && okNumber a
  | .vmovv c i d a _ _ => okCluster c && okThread i && okNumber d && okNumber a
  | .sld c i d a b f => okCluster c && okThread i && okNumber d && okNumber a && okNumber b && okF f
  | .sst c i d a b f => okCluster c && okThread i && okNumber d && okNumber a && okNumber b && okF f
  | .sgather c i d a b f => okCluster c && okThread i && okNumber d && okNumber a && okNumber b && okF f
  | .sscatter c i d a b f => okCluster c && okThread i && okNumber d && okNumber a && okNumber b && okF f
  | .swait c i d f => okCluster c && okThread i && okNumber d && okF f
  | .spoll c i d f => okCluster c && okThread i && okNumber d && okF f
  | .hld c i d a b f => okCluster c && okThread i && okNumber d && okNumber a && okNumber b && okF f
  | .hst c i d a b f => okCluster c && okThread i && okNumber d && okNumber a && okNumber b && okF f
  | .shx c i d a b f => okCluster c && okThread i && okNumber d && okNumber a && okNumber b && okF f
  | .streamSlotDone c u _ => okCluster c && okUnit u
  | .crCfg c i a => okCluster c && okThread i && okNumber a
  | .crLoad c i d a b => okCluster c && okThread i && okNumber d && okNumber a && okNumber b
  | .crMul c i a b => okCluster c && okThread i && okNumber a && okNumber b
  | .crStore c i a b => okCluster c && okThread i && okNumber a && okNumber b
  | .crStat c i d => okCluster c && okThread i && okNumber d
  | .chainringPassDone c _ _ _ _ => okCluster c
  | .spCfg c i a => okCluster c && okThread i && okNumber a
  | .spClr c i d => okCluster c && okThread i && okNumber d
  | .spAdd c i d a b f => okCluster c && okThread i && okNumber d && okNumber a && okNumber b && okF f
  | .spExport c i d a f => okCluster c && okThread i && okNumber d && okNumber a && okF f
  | .spImport c i d a f => okCluster c && okThread i && okNumber d && okNumber a && okF f
  | .spRound c i d a f => okCluster c && okThread i && okNumber d && okNumber a && okF f
  | .sprocketCommandDone c _ => okCluster c
  | .cread c i d => okCluster c && okThread i && okNumber d
  | .cwait c i d a => okCluster c && okThread i && okNumber d && okNumber a
  | .cdeadline c i d a => okCluster c && okThread i && okNumber d && okNumber a
  | .fence c i _ => okCluster c && okThread i
  | .fenceRelease c i => okCluster c && okThread i
  | .barrier c i _ => okCluster c && okThread i
  | .barrierRelease c _ => okCluster c
  | .signal c i _ => okCluster c && okThread i
  | .csrr c i d imm => okCluster c && okThread i && okNumber d && okImm imm
  | .csrw c i a imm => okCluster c && okThread i && okNumber a && okImm imm
  | .uclaim c i d imm => okCluster c && okThread i && okNumber d && okImm imm
  | .urelease c i imm => okCluster c && okThread i && okImm imm
  | .halt c i => okCluster c && okThread i
  | .trap c i => okCluster c && okThread i
  | .yield c i => okCluster c && okThread i
  | .workget c i d => okCluster c && okThread i && okNumber d
  | .workdone c i => okCluster c && okThread i
  | .cluThrCtrlWrite c i _ => okCluster c && okThread i
  | .cluBankOwnWrite c b _ => okCluster c && okBank b
  | .bankZeroingDone c b => okCluster c && okBank b
  | .cluPstoreDataWrite c _ => okCluster c
  | .mbxDoorbell p slot _ => okNear p && okSlot slot
  | .mailboxUnknownCmd ch => okChannel ch
  | .getInfo ch => okChannel ch
  | .getAttestation ch => okChannel ch
  | .getIdentityCert ch => okChannel ch
  | .attach ch => okChannel ch
  | .reattachOrdinary ch => okChannel ch
  | .reattachMigration ch _ => okChannel ch
  | .release ch => okChannel ch
  | .bindAdmin ch => okChannel ch
  | .unbindAdmin ch => okChannel ch
  | .keyAgree ch => okChannel ch
  | .keyInstall ch _ _ _ _ => okChannel ch
  | .keyActivate ch => okChannel ch
  | .keyRetire ch => okChannel ch
  | .keyQuery ch => okChannel ch
  | .ctxBindQp ch => okChannel ch
  | .keyChallengeExpire slot => okSlot slot
  | .admin ch _ => okChannel ch
  | .eventRead ch => okChannel ch
  | .regRead ch => okChannel ch
  | .regWrite ch => okChannel ch
  | .stage ch => okChannel ch
  | .fwCommit ch _ _ => okChannel ch
  | .xformInstall ch => okChannel ch
  | .xformRemove ch => okChannel ch
  | .xformRemoveDone _ => true
  | .configLog ch => okChannel ch
  | .lcChallenge ch => okChannel ch
  | .lcChallengeExpire => true
  | .lcAdvance ch _ => okChannel ch
  | .lcPendingRecord => true
  | .lcStateCommit _ => true
  | .moduleResetWarm ch _ => okChannel ch
  | .moduleResetRestart ch _ _ => okChannel ch
  | .controlFlowMismatch core _ _ => okCore core
  | .mgmtEccUncorrectable core _ _ => okCore core
  | .watchdogExpire core _ _ => okCore core
  | .errorReport unit _ _ _ _ _ => okUnitNo unit
  | .targetedTestDone unit _ => okUnitNo unit
  | .targetedTestTimeout unit => okUnitNo unit
  | .resTestReq unit => okUnitNo unit
  | .spareTestSlot unit => okUnitNo unit
  | .clusterDrainDone c => okCluster c
  | .bankCopyDone _ _ => true
  | .resMarchGo _ => true
  | .marchDone _ => true
  | .sweepStep _ => true
  | .gddr7RowTestDone d _ => okDevice d
  | .memCopyReq d => okDevice d
  | .deviceCopyDone => true
  | .patrolScrubStep _ _ => true
  | .ageingHourlyRead _ => true
  | .counterDump => true
  | .pmcClearAll => true
  | .pmcDumpEnable _ => true
  | .registerWrite off _ => okOffset off
  | .unregisterContextDone t => okSlot t
  | .macPortCfgWrite n _ => okLane n
  | .chainringCommandDone c => okCluster c
  | .programThreadZeroingDone c i => okCluster c && okThread i

end Sys2Proof
end

