-- ==== Sys2Proof/Safety.lean ====
section
/-! DEFINITION. The terms the claims use: what a step may change and what it leaves, when a thread can issue, when a
state is canonical, and what counts as a safe run. -/

namespace Sys2Proof.Safety

open Sys2Proof Sys2Proof.Machine

/-! Runs. -/

/-- A run of `n` steps that meets no stop. -/
def runsFrom (s : State) : Nat → Prop
  | 0 => True
  | n + 1 => ∃ t, step s = .next t ∧ runsFrom t n

/-- No run from `s` stops. -/
def Safe (s : State) : Prop := ∀ n, runsFrom s n

/-- Every command that waits is well formed. -/
def queueWf (s : State) : Prop := ∀ c ∈ s.pending, c.wf = true

/-- The canonical form: GDDR7 lists its bytes with rising addresses and no zero, and every command that waits is well formed. -/
structure Canonical (s : State) : Prop where
  memory : Memory.wf s.gddr = true
  queue : queueWf s

/-- The command runs in `s`, and the state it leaves has `P`. -/
def Does (c : Instr) (s : State) (P : State → Prop) : Prop := ∃ t, exec c s = .next t ∧ P t

/-! Frames. -/

/-- Every register reads as before but those listed, by field and instance. -/
def SameRegsBut (l : List (Fld × Nat)) (s t : State) : Prop :=
  ∀ f i, (∀ e ∈ l, ¬(f.key = e.1.key ∧ i = e.2)) → t.rd f i = s.rd f i

/-- Every register reads as before but the fields listed. -/
def SameFieldsBut (l : List Fld) (s t : State) : Prop := ∀ f i, (∀ g ∈ l, f.key ≠ g.key) → t.rd f i = s.rd f i

/-- The registers take the listed values (field, instance, value), every other register reads as before, and nothing but
registers changes. -/
def Writes (l : List (Fld × Nat × Nat)) (s t : State) : Prop :=
  (∀ e ∈ l, t.rd e.1 e.2.1 = e.2.2) ∧ SameRegsBut (l.map fun e => (e.1, e.2.1)) s t ∧ t = { s with regs := t.regs }

/-- GDDR7 reads as before at every address. -/
def SameGddr (s t : State) : Prop := ∀ a, Mem.rd t.gddr a = Mem.rd s.gddr a

/-- GDDR7 reads as before at every address outside `n` bytes from `a`. -/
def SameGddrBut (a n : Nat) (s t : State) : Prop := ∀ x, (x < a ∨ a + n ≤ x) → Mem.rd t.gddr x = Mem.rd s.gddr x

/-! Threads of spoke cores. -/

/-- The thread exists and is READY, and its instruction is not in a poisoned line of the program store (R239, R402). -/
def CanIssue (s : State) (c i : Nat) : Prop :=
  c < 10 ∧ i < 8 ∧ s.thState c i = Ts.ready ∧ s.storePoisoned c (s.pc c i) = false

/-- Nothing changes but thread `i` of cluster `c`, the count of free values, its program counter and the listed fields. -/
structure OnlyThread (l : List Fld) (c i : Nat) (s t : State) : Prop where
  rest : t = { s with regs := t.regs, clus := t.clus, fresh := t.fresh }
  regs : ∀ f j, (∀ g ∈ l, f.key ≠ g.key) → ¬(f.key = Reg.CLU_THR_PC_PC.key ∧ j = ix c i) → t.rd f j = s.rd f j
  threads : ∀ d j, ¬(d = c ∧ j = i) → t.thrOf d j = s.thrOf d j
  clusters : ∀ d, { t.cluOf d with thr := [] } = { s.cluOf d with thr := [] }

/-- g[d] takes `v`, g0 and the other general registers stay, and so does all else of the thread. -/
structure GTakes (c i d v : Nat) (s t : State) : Prop where
  value : t.g c i d = if d % 32 = 0 then 0 else v % 2 ^ 64
  others : ∀ n, n % 32 ≠ d % 32 → t.g c i n = s.g c i n
  thread : { t.thrOf c i with g := [] } = { s.thrOf c i with g := [] }

/-- v[d] takes `v`, and all else of the thread stays. -/
structure VTakes (c i d v : Nat) (s t : State) : Prop where
  value : t.v c i d = v % 2 ^ 1024
  others : ∀ n, n % 32 ≠ d % 32 → t.v c i n = s.v c i n
  thread : { t.thrOf c i with v := [] } = { s.thrOf c i with v := [] }

/-- The program counter goes on to the next instruction. -/
def PcNext (c i : Nat) (s t : State) : Prop := t.pc c i = (s.pc c i + 1) % 2 ^ 17

/-- No transform, no peloton's program and no work item stands on the thread (R254, R255, R317). -/
def Alone (s : State) (c i : Nat) : Prop :=
  if isService i then (s.thrOf c i).work = none else s.xformOn c i = none ∧ s.pelOn c i = none

/-- The thread stops TRAPPED with its cause, at its program counter, and the trap is counted; its registers and its local
memory stay (R239). -/
structure Traps (c i cause : Nat) (s t : State) : Prop where
  state : t.thState c i = Ts.trapped
  cause : t.rd Reg.CLU_THR_STATUS_TRAP_CAUSE (ix c i) = cause
  pc : t.rd Reg.CLU_THR_TRAP_TRAP_PC (ix c i) = s.pc c i % 2 ^ 17 ∧ t.pc c i = s.pc c i
  count : t.rd Reg.CLU_TRAP_COUNT_COUNT c = satAdd 64 (s.rd Reg.CLU_TRAP_COUNT_COUNT c) 1
  thread : t.thrOf c i = { s.thrOf c i with wait := .none }

/-! Admin commands. -/

/-- The admin queue of a slot stands empty, with room in its completion ring, and its slice is not frozen (R125, R126, R129). -/
structure AdmOpen (s : State) (t : Nat) : Prop where
  bound : s.rd Reg.ADM_DESC0_BOUND t = 1
  room : s.admRoom t = true
  held : (s.admOf t).held = [] ∧ (s.admOf t).lost = 0
  queue : (s.admOf t).queue = []
  thawed : s.frozen t = false ∧ (t = provider ∨ s.slice t ≠ 6)

/-- The entry `x` of slot `t` passes SQ_HEAD, and its command completes in the slot's ring with a code and two results, in a
state that has `P` (R124, R125). -/
def Completes (k : Instr) (s : State) (t : Nat) (x : List Byte) (code : Nat) (a0 a1 : State → Nat) (P : State → Prop) : Prop :=
  AdmOpen s t → (s.admOf t).busy = false → Does k s fun u => P u ∧ u.out = s.out ++
    [.admHead t (((s.admOf t).sqHead + 1) % 2 ^ 32),
     .adm t (s.admOf t).written { tag := leAt x 4 4, code := code, cmd := byteAt x 0, arg0 := a0 u, arg1 := a1 u }]

/-- The entry `x` of slot `t` passes SQ_HEAD, and its command keeps the queue busy (R125). -/
def Waits (k : Instr) (s : State) (t : Nat) (P : State → Prop) : Prop :=
  AdmOpen s t → (s.admOf t).busy = false → Does k s fun u => P u ∧ (u.admOf t).busy = true ∧ u.out = s.out ++ [.admHead t (((s.admOf t).sqHead + 1) % 2 ^ 32)]

/-- A command that waited, of origin `o`, completes, and its queue is free again (R125). -/
def Ends (k : Instr) (s : State) (o : Origin) (a0 : Nat) (P : State → Prop) : Prop :=
  AdmOpen s o.slot → o.mbx = none → Does k s fun u => P u ∧ (u.admOf o.slot).busy = false ∧ u.out = s.out ++
    [.adm o.slot (s.admOf o.slot).written { tag := o.tag, cmd := o.cmd, arg0 := a0 }]

/-! Packets. -/

/-- A packet passes steps 1 to 6 of R164: its headers are right, its queue pair is CONNECTED and unicast, its cipher context opens it, and its peer,
epoch and age are those of the connection. -/
structure Admitted (s : State) (p : Pkt) (r : Rx) : Prop where
  head : s.rd Reg.TRN_CTRL_ENABLE 0 = 1 ∧ s.localIp r.ip = true ∧ r.dport = s.rd Reg.TRN_UDP_DPORT 0 ∧ r.csumOk = true ∧ p.ver = 1 ∧
    p.dstMod = s.rd Reg.TRN_MODULE_ID 0
  open_ : s.rd Reg.QP_DESC0_VALID p.dstQp = 1 ∧ s.rd Reg.TRN_QP_T0_STATE p.dstQp = 1 ∧ s.slice (s.qpTenant p.dstQp) ≠ 4 ∧
    s.meterFor (s.qpTenant p.dstQp) p.tc = none
  auth : r.ce = false ∧ r.authOk = true ∧ r.tandemOk = true ∧ s.rd Reg.CIP_CTRL_ENABLE 0 = 1 ∧
    ∃ c, s.qpCtx p.dstQp = some c ∧ s.rd (slotValid (rxPhase p.nonce)) c = 1
  peer : (s.connOf p.dstQp).mcast = none ∧ p.srcMod = s.rd Reg.TRN_QP_T0_PEER_MODULE p.dstQp ∧ p.srcQp = s.rd Reg.TRN_QP_T0_PEER_QP p.dstQp ∧
    p.epoch = s.rd Reg.TRN_QP_T0_EPOCH p.dstQp ∧ s.now ≤ p.txTime + s.maxLife

/-- A sequenced packet is the next in order of a queue pair that a cluster serves, and no acknowledgement is due with it (R165, R166). -/
structure InOrder (s : State) (p : Pkt) : Prop where
  psn : p.psn = s.rcvBase p.dstQp ∧ p.psn < 2 ^ 32 ∧ (s.connOf p.dstQp).seen = [] ∧ (s.connOf p.dstQp).held = [] ∧ (s.connOf p.dstQp).unackable = []
  quiet : p.ackReq = false ∧ (s.connOf p.dstQp).sinceAck + 1 < s.rd Reg.TRN_TIMERS1_ACK_COALESCE 0
  room : s.rd Reg.TRN_RESP_REC_IN_USE 0 < 65535 ∧ s.recOf p.dstQp p.msn = none
  served : ∃ c, s.steer p.dstQp = some c

/-- A queue pair can seal and send a control packet at a port (R169, R204, R354): one path, an active key, and its counter below the limits of R356. -/
structure CanSend (s : State) (q port : Nat) : Prop where
  path : s.numPaths q = 1 ∧ s.egressPort 0 q = some port
  key : s.rd Reg.CIP_CTRL_ENABLE 0 = 1 ∧ ∃ c, s.qpCtx q = some c ∧ s.rd (slotValid (s.rd Reg.CIP_CTX0_TX_PHASE c)) c = 1 ∧ s.keyCount c + 1 < 2 ^ 47 ∧
    s.rd Reg.CIP_CTX_CTR_COUNTER c + 1 < 2 ^ 64

/-! Mailboxes. -/

/-- The command of a mailbox page can run: its turn has come, its header and its slice pass the checks, and the module is up (R374 to R378, R439). -/
structure MbxOpen (s : State) (ch cmd : Nat) : Prop where
  page : ch < 1024
  turn : s.mbxReady ch = true ∧ hdrCmd (s.header ch) = cmd
  check : s.mbxCheck ch cmd = none
  awake : s.resting = false ∧ s.powered = true

/-- The response of a mailbox page: its header with the doorbell's SEQ, a status and a DETAIL, the result behind it, and DONE in the status register
(R373, R374). -/
structure MbxSays (s t : State) (ch status detail : Nat) (data : List Byte) : Prop where
  header : Mem.bytes (t.mbxOf ch).page 0x800 64 = respHeader (s.mbxOf ch).seq status detail (hdrCmd (s.header ch)) data.length
  result : data.length ≤ 1984 → Mem.bytes (t.mbxOf ch).page 0x840 data.length = data
  done : t.rd Reg.MBX_SLOT_STATUS_DONE ch = 1 ∧ t.rd Reg.MBX_SLOT_STATUS_BUSY ch = 0 ∧ t.rd Reg.MBX_SLOT_STATUS_LAST_STATUS ch = status % 2 ^ 8 ∧
    t.rd Reg.MBX_SLOT_STATUS_SEQ_DONE ch = (s.mbxOf ch).seq % 2 ^ 32

/-- The command answers SUCCESS with a result, in a state that has `P`. -/
def Answers (k : Instr) (s : State) (ch cmd : Nat) (data : List Byte) (P : State → Prop) : Prop :=
  MbxOpen s ch cmd → Does k s fun t => MbxSays s t ch 0 0 data ∧ P t

/-- The counters of the counter unit, which most commands may advance (R448). -/
def pmcFields : List Fld := [Reg.PMC_CNT_VAL_VALUE, Reg.PMC_CNT_VAL_OVF]

end Sys2Proof.Safety
end

