-- ==== Sys2Proof/Certificates/Slice0/Obligations.lean ====
section
/-! DEFINITION. The statements for the provers, from the numbered rules of spec/. -/

open Sys2Proof Sys2Proof.Machine Sys2Proof.Safety

/-! Spoke cores: the scalar instructions. -/

/-- R235: the arithmetic of three registers.
R235: CLZ answers the number of zeros above the highest bit that is 1. -/
def Obligations.ScalarArithmetic : Prop :=
  (∀ (s : State) (c i d a b : Nat), CanIssue s c i →
      let x := s.g c i a
      let y := s.g c i b
      let X := BitVec.ofNat 64 x
      let Y := BitVec.ofNat 64 y
      let gives (k : Instr) (v : Nat) : Prop := Does k s fun t => GTakes c i d v s t ∧ PcNext c i s t ∧ OnlyThread [] c i s t ∧ t.fresh = s.fresh
      gives (.add c i d a b) (X + Y).toNat ∧ gives (.sub c i d a b) (X - Y).toNat ∧ gives (.and c i d a b) (X &&& Y).toNat ∧
      gives (.or c i d a b) (X ||| Y).toNat ∧ gives (.xor c i d a b) (X ^^^ Y).toNat ∧
      gives (.slt c i d a b) (if X.toInt < Y.toInt then 1 else 0) ∧ gives (.sltu c i d a b) (if x < y then 1 else 0) ∧
      gives (.min c i d a b) (if Y.toInt < X.toInt then y else x) ∧ gives (.max c i d a b) (if X.toInt < Y.toInt then y else x) ∧
      gives (.popc c i d a) ((List.range 64).filter (fun k => X.getLsbD k)).length ∧
      gives (.mul c i d a b) (X * Y).toNat ∧
      gives (.mulh c i d a b) (BitVec.ofInt 64 (X.toInt * Y.toInt / 2 ^ 64)).toNat) ∧
  (∀ (s : State) (c i d a : Nat), CanIssue s c i → s.g c i a < 2 ^ 64 → d % 32 ≠ 0 →
      Does (.clz c i d a) s fun t =>
        t.g c i d ≤ 64 ∧ s.g c i a < 2 ^ (64 - t.g c i d) ∧ (t.g c i d < 64 → 2 ^ (63 - t.g c i d) ≤ s.g c i a) ∧
          (∀ n, n % 32 ≠ d % 32 → t.g c i n = s.g c i n) ∧ PcNext c i s t ∧ OnlyThread [] c i s t)

/-- R235: shifts by less than 64, and the divisions whose results the rule states; an amount of 64 or more writes one free value
and nothing else (log entry 1). -/
def Obligations.ShiftsAndDivision : Prop :=
  ∀ (s : State) (c i d a b : Nat), CanIssue s c i →
    let x := s.g c i a
    let y := s.g c i b
    let X := BitVec.ofNat 64 x
    let Y := BitVec.ofNat 64 y
    let gives (k : Instr) (v : Nat) : Prop := Does k s fun t => GTakes c i d v s t ∧ PcNext c i s t ∧ OnlyThread [] c i s t
    (y < 64 → gives (.shl c i d a b) (x * 2 ^ y) ∧ gives (.shr c i d a b) (x / 2 ^ y) ∧
      gives (.sra c i d a b) (BitVec.ofInt 64 (X.toInt / 2 ^ y)).toNat) ∧
    (64 ≤ y → (∃ v, gives (.shl c i d a b) v) ∧ (∃ v, gives (.shr c i d a b) v) ∧ ∃ v, gives (.sra c i d a b) v) ∧
    (Y ≠ 0 → ¬(X.toInt = -2 ^ 63 ∧ Y.toInt = -1) →
      gives (.div c i d a b) (BitVec.ofInt 64 (X.toInt.tdiv Y.toInt)).toNat ∧ gives (.rem c i d a b) (BitVec.ofInt 64 (X.toInt.tmod Y.toInt)).toNat) ∧
    (∃ v, gives (.div c i d a b) v) ∧ ∃ v, gives (.rem c i d a b) v

/-- R234, R235: the immediate forms take IMM12 with its sign, LUI takes IMM17 shifted left by 15. -/
def Obligations.ScalarImmediate : Prop :=
  ∀ (s : State) (c i d a imm : Nat), CanIssue s c i →
    let x := s.g c i a
    let X := BitVec.ofNat 64 x
    let K := (BitVec.ofNat 12 imm).signExtend 64
    let gives (k : Instr) (v : Nat) : Prop := Does k s fun t => GTakes c i d v s t ∧ PcNext c i s t ∧ OnlyThread [] c i s t
    gives (.addi c i d a imm) (X + K).toNat ∧ gives (.andi c i d a imm) (X &&& K).toNat ∧ gives (.ori c i d a imm) (X ||| K).toNat ∧
    gives (.xori c i d a imm) (X ^^^ K).toNat ∧ gives (.slti c i d a imm) (if X.toInt < K.toInt then 1 else 0) ∧
    gives (.lui c i d imm) (((BitVec.ofNat 17 imm).signExtend 64) <<< 15).toNat ∧
    (imm % 4096 < 64 → gives (.shli c i d a imm) (x * 2 ^ (imm % 4096)) ∧ gives (.shri c i d a imm) (x / 2 ^ (imm % 4096)) ∧
      gives (.srai c i d a imm) (BitVec.ofInt 64 (X.toInt / 2 ^ (imm % 4096))).toNat)

/-! Spoke cores: loads, stores, branches and traps. -/

/-- R232, R235: a load whose checks pass puts the bytes at g[A] + IMM12 into the low bytes of g[D].
R235: a vector load whose checks pass puts 128 bytes at g[A] + 64 x IMM12 into v[D]. -/
def Obligations.Loads : Prop :=
  (∀ (s : State) (c i d a imm : Nat), CanIssue s c i →
      let x := (BitVec.ofNat 64 (s.g c i a) + (BitVec.ofNat 12 imm).signExtend 64).toNat
      let loads (k : Instr) (n : Nat) : Prop := s.thCheck c i false x n n = .ok → Does k s fun t =>
        ∃ v, v % 2 ^ (8 * n) = leNat (s.thRead c i x n) ∧ GTakes c i d v s t ∧ PcNext c i s t ∧ OnlyThread [] c i s t
      loads (.ldB c i d a imm) 1 ∧ loads (.ldH c i d a imm) 2 ∧ loads (.ldW c i d a imm) 4 ∧ loads (.ldD c i d a imm) 8) ∧
  (∀ (s : State) (c i d a imm : Nat), CanIssue s c i →
      let x := (BitVec.ofNat 64 (s.g c i a) + (BitVec.ofNat 12 imm).signExtend 64 * 64#64).toNat
      s.thCheck c i false x 128 64 = .ok → Does (.vld c i d a imm) s fun t =>
        VTakes c i d (leNat (s.thRead c i x 128)) s t ∧ PcNext c i s t ∧ OnlyThread pmcFields c i s t)

/-- R232, R235: a store to local memory writes the low bytes of g[D] at g[A] + IMM12, and every other byte of the memory stays.
R246, R250: a store to the scratchpad whose checks pass writes its bytes at the places the bank map gives, where these are distinct,
and every other byte of the cluster's banks stays. -/
def Obligations.Stores : Prop :=
  (∀ (s : State) (c i d a imm : Nat), CanIssue s c i →
      let x := (BitVec.ofNat 64 (s.g c i a) + (BitVec.ofNat 12 imm).signExtend 64).toNat
      let stores (k : Instr) (n : Nat) : Prop := 0x1000000 ≤ x → x + n ≤ 0x1004000 → x % n = 0 → Does k s fun t =>
        t.thRead c i x n = leBytes n (s.g c i d) ∧
        (∀ y, (y < x - 0x1000000 ∨ x - 0x1000000 + n ≤ y) → Mem.rd (t.thrOf c i).mem y = Mem.rd (s.thrOf c i).mem y) ∧
        { t.thrOf c i with mem := [] } = { s.thrOf c i with mem := [] } ∧ PcNext c i s t ∧
        (∀ d j, ¬(d = c ∧ j = i) → t.thrOf d j = s.thrOf d j) ∧ SameRegsBut [(Reg.CLU_THR_PC_PC, ix c i)] s t ∧ t.gddr = s.gddr
      stores (.stB c i d a imm) 1 ∧ stores (.stH c i d a imm) 2 ∧ stores (.stW c i d a imm) 4 ∧ stores (.stD c i d a imm) 8) ∧
  (∀ (s : State) (c i d a imm : Nat), CanIssue s c i →
      let stores (k : Instr) (x n align w : Nat) : Prop := x < 0x1000000 → s.thCheck c i true x n align = .ok →
        (∀ k < n, ∀ j < k, s.spPlace c (x + j) ≠ s.spPlace c (x + k)) → Does k s fun t =>
          (∀ j < n, Mem.rd (t.cluOf c).bank (s.spPlace c (x + j)) = BitVec.ofNat 8 (w / 2 ^ (8 * j))) ∧
          (∀ p, (∀ j < n, p ≠ s.spPlace c (x + j)) → Mem.rd (t.cluOf c).bank p = Mem.rd (s.cluOf c).bank p) ∧
          (∀ e j, t.thrOf e j = s.thrOf e j) ∧ PcNext c i s t ∧ t.gddr = s.gddr ∧
          SameFieldsBut (Reg.CLU_THR_PC_PC :: pmcFields) s t
      let x := (BitVec.ofNat 64 (s.g c i a) + (BitVec.ofNat 12 imm).signExtend 64).toNat
      let xv := (BitVec.ofNat 64 (s.g c i a) + (BitVec.ofNat 12 imm).signExtend 64 * 64#64).toNat
      stores (.stB c i d a imm) x 1 1 (s.g c i d) ∧ stores (.stH c i d a imm) x 2 2 (s.g c i d) ∧
      stores (.stW c i d a imm) x 4 4 (s.g c i d) ∧ stores (.stD c i d a imm) x 8 8 (s.g c i d) ∧
      stores (.vst c i d a imm) xv 128 64 (s.v c i d))

/-- R234, R235: a branch taken goes to one target for every comparison (its origin is left open, log entry 3), one not taken to the
next instruction; JAL and JALR jump, and JALR goes to g[A] / 4 + IMM12 (log entry 3). No branch writes a general register; a jump
writes g[D] alone. -/
def Obligations.Branches : Prop :=
  ∀ (s : State) (c i d a imm : Nat), CanIssue s c i →
    let x := s.g c i d
    let y := s.g c i a
    let X := BitVec.ofNat 64 x
    let Y := BitVec.ofNat 64 y
    let br (k : Instr) (p : Prop) : Prop := Does k s fun t =>
      (p → t.pc c i = s.target17 c i ((BitVec.ofNat 12 imm).toInt)) ∧ (¬p → PcNext c i s t) ∧ SameRegsBut [(Reg.CLU_THR_PC_PC, ix c i)] s t ∧
        t = { s with regs := t.regs }
    br (.beq c i d a imm) (x = y) ∧ br (.bne c i d a imm) (x ≠ y) ∧ br (.blt c i d a imm) (X.toInt < Y.toInt) ∧
    br (.bge c i d a imm) (Y.toInt ≤ X.toInt) ∧ br (.bltu c i d a imm) (x < y) ∧ br (.bgeu c i d a imm) (y ≤ x) ∧
    (Does (.jal c i d imm) s fun t => t.pc c i = s.target17 c i ((BitVec.ofNat 17 imm).toInt) ∧
      GTakes c i d (Config.linkValue (s.pc c i)) s t ∧ OnlyThread [] c i s t) ∧
    (Does (.jalr c i d a imm) s fun t => t.pc c i = (BitVec.ofInt 17 ((y / 4 : Nat) + (BitVec.ofNat 12 imm).toInt)).toNat ∧
      GTakes c i d (Config.linkValue (s.pc c i)) s t ∧ OnlyThread [] c i s t)

/-- R239: what traps stops its thread, with the cause, and has no effect: reserved operations (1), what a program thread may not do
(2), an address outside the thread's space (3), a misaligned one (4), TRAP with some cause. -/
def Obligations.Trapping : Prop :=
  ∀ (s : State) (c i d a b imm f : Nat), CanIssue s c i → Alone s c i →
    let x := (BitVec.ofNat 64 (s.g c i a) + (BitVec.ofNat 12 imm).signExtend 64).toNat
    let traps (k : Instr) (cause : Nat) : Prop := Does k s (Traps c i cause s)
    traps (.illegalInstruction c i) Cause.illegal ∧
    (∃ cause, 1 ≤ cause ∧ cause ≤ 15 ∧ traps (.trap c i) cause) ∧
    (i % 2 = 1 → traps (.workget c i d) Cause.privileged ∧ traps (.workdone c i) Cause.privileged ∧ traps (.hld c i d a b f) Cause.privileged ∧
      traps (.hst c i d a b f) Cause.privileged ∧ traps (.shx c i d a b f) Cause.privileged) ∧
    (0x1004000 ≤ x → traps (.ldB c i d a imm) Cause.range ∧ traps (.ldD c i d a imm) Cause.range ∧ traps (.stB c i d a imm) Cause.range ∧
      traps (.stD c i d a imm) Cause.range) ∧
    (x + 8 ≤ 0x1000000 → x % 2 = 1 → traps (.ldH c i d a imm) Cause.misaligned ∧ traps (.ldW c i d a imm) Cause.misaligned ∧
      traps (.stH c i d a imm) Cause.misaligned ∧ traps (.stD c i d a imm) Cause.misaligned) ∧
    (s.rd Reg.CLU_ARR_OWN_HOLDER c ≠ i + 1 → traps (.crCfg c i a) Cause.unitNotOwned ∧ traps (.crStat c i d) Cause.unitNotOwned) ∧
    (s.rd Reg.CLU_SPK_OWN_HOLDER c ≠ i + 1 → traps (.spCfg c i a) Cause.unitNotOwned ∧ traps (.spClr c i d) Cause.unitNotOwned)

/-! Spoke cores: the vector instructions. -/

/-- R232, R270: VADD, VSUB, VMUL and VFMA compute lane by lane in the element format, rounding each lane once; a lane whose predicate
bit is 0 keeps its value. Stated where the residue checks of R289 pass. -/
def Obligations.VectorArithmetic : Prop :=
  ∀ (s : State) (c i d a b f : Nat), CanIssue s c i → vecFormat (f % 16) = true →
    let w := elemBits (f % 16)
    let E := elemOf (f % 16)
    let lane (u : State) (n l : Nat) : Nat := u.v c i n / 2 ^ (w * l) % 2 ^ w
    let on (l : Nat) : Prop := (s.p c i (f / 16 % 8)).testBit (w * l / 8) = true
    let vec (k : Instr) (r : Nat → Nat) : Prop := Does k s fun t =>
      (∀ l < 1024 / w, (on l → lane t d l = r l % 2 ^ w) ∧ (¬on l → lane t d l = lane s d l)) ∧
      (∃ v, VTakes c i d v s t) ∧ PcNext c i s t ∧
      OnlyThread (pmcFields ++ [Reg.ARR_THR_FP_INVALID, Reg.ARR_THR_FP_OVERFLOW, Reg.ARR_THR_FP_UNDERFLOW, Reg.ARR_THR_FP_INEXACT,
        Reg.ARR_THR_FP_SATURATED]) c i s t
    vec (.vadd c i d a b f 0) (fun l => (E.arith (s.sat c i) Machine.Num.add (· + ·) (lane s a l) (lane s b l)).1) ∧
    vec (.vsub c i d a b f 0) (fun l => (E.arith (s.sat c i) (fun x y => x.add y.neg) (fun x y => x + 2 ^ 64 - y) (lane s a l) (lane s b l)).1) ∧
    vec (.vmul c i d a b f 0) (fun l => (E.arith (s.sat c i) Machine.Num.mul (· * ·) (lane s a l) (lane s b l)).1) ∧
    (∀ k, E = .int k → vec (.vfma c i d a b f 0) (fun l => (lane s a l * lane s b l + lane s d l) % 2 ^ k)) ∧
    ((∀ k, E ≠ .int k) → vec (.vfma c i d a b f 0)
      (fun l => (E.round .rne (s.sat c i) (((E.decode (lane s a l)).mul (E.decode (lane s b l))).add (E.decode (lane s d l)))).1))

/-- R270: VSEL takes each lane of v[A] where the predicate is active and of v[B] elsewhere; VMIN and VMAX take the smaller and the larger
element of an active lane where the order of the two is stated (log entry 6); VCMP writes one predicate register (its relation is
left open, log entry 7).
R235: VBCAST spreads one lane of v[A], VMOVG takes one lane to g[D], VMOVV puts g[A] into one lane; VPERM builds every byte of
v[D] from a byte of v[A] (by a rule left open, log entry 4). -/
def Obligations.VectorSelection : Prop :=
  (∀ (s : State) (c i d a b f : Nat), CanIssue s c i → vecFormat (f % 16) = true →
      let w := elemBits (f % 16)
      let E := elemOf (f % 16)
      let lane (u : State) (n l : Nat) : Nat := u.v c i n / 2 ^ (w * l) % 2 ^ w
      let on (l : Nat) : Prop := (s.p c i (f / 16 % 8)).testBit (w * l / 8) = true
      (Does (.vsel c i d a b f) s fun t =>
        (∀ l < 1024 / w, (on l → lane t d l = lane s a l) ∧ (¬on l → lane t d l = lane s b l)) ∧
        (∃ v, VTakes c i d v s t) ∧ PcNext c i s t ∧ OnlyThread pmcFields c i s t) ∧
      (Does (.vmin c i d a b f) s fun t =>
        (∀ l < 1024 / w, (¬on l → lane t d l = lane s d l) ∧ (on l → orderStated E (lane s a l) (lane s b l) = true →
          lane t d l = if (E.decode (lane s b l)).cmp (E.decode (lane s a l)) = .lt then lane s b l else lane s a l)) ∧
        (∃ v, VTakes c i d v s t) ∧ PcNext c i s t ∧ OnlyThread pmcFields c i s t) ∧
      (Does (.vmax c i d a b f) s fun t =>
        (∀ l < 1024 / w, (¬on l → lane t d l = lane s d l) ∧ (on l → orderStated E (lane s a l) (lane s b l) = true →
          lane t d l = if (E.decode (lane s b l)).cmp (E.decode (lane s a l)) = .gt then lane s b l else lane s a l)) ∧
        (∃ v, VTakes c i d v s t) ∧ PcNext c i s t ∧ OnlyThread pmcFields c i s t) ∧
      (Does (.vcmp c i d f) s fun t =>
        (∀ n, n % 8 ≠ d % 8 → t.p c i n = s.p c i n) ∧ t.p c i 0 = 2 ^ 128 - 1 ∧ { t.thrOf c i with p := [] } = { s.thrOf c i with p := [] } ∧
        PcNext c i s t ∧ OnlyThread pmcFields c i s t)) ∧
  (∀ (s : State) (c i d a b w l : Nat), CanIssue s c i →
      (laneWidth w = true → l < 1024 / w →
        (Does (.vbcast c i d a w l) s fun t => (∀ k < 1024 / w, bits (t.v c i d) (w * k) w = bits (s.v c i a) (w * l) w) ∧
          (∃ v, VTakes c i d v s t) ∧ PcNext c i s t ∧ OnlyThread pmcFields c i s t) ∧
        (Does (.vmovg c i d a w l) s fun t => (∃ v, v % 2 ^ w = bits (s.v c i a) (w * l) w ∧ GTakes c i d v s t) ∧ PcNext c i s t ∧
          OnlyThread pmcFields c i s t) ∧
        (Does (.vmovv c i d a w l) s fun t => bits (t.v c i d) (w * l) w = s.g c i a % 2 ^ w ∧
          (∀ k, k ≠ l → k < 1024 / w → bits (t.v c i d) (w * k) w = bits (s.v c i d) (w * k) w) ∧
          (∃ v, VTakes c i d v s t) ∧ PcNext c i s t ∧ OnlyThread pmcFields c i s t)) ∧
      (Does (.vperm c i d a b) s fun t => (∀ j < 128, ∃ k < 128, bits (t.v c i d) (8 * j) 8 = bits (s.v c i a) (8 * k) 8) ∧
        (∃ v, VTakes c i d v s t) ∧ PcNext c i s t ∧ OnlyThread pmcFields c i s t))

/-- R265 to R270: VCVT converts lane by lane, rounding once; VBMAX writes the scale byte of each active block; VSCALE quantises under the
scale bytes of v[B]; VWADD adds FP32 lanes into FP64 lanes; VREDUCE puts the tree sum of v[A] into lane 0. Stated where the
residue checks of R289 pass. -/
def Obligations.VectorConversion : Prop :=
  ∀ (s : State) (c i d a b f src : Nat), CanIssue s c i →
    let w := elemBits (f % 16)
    let on (x : Nat) : Prop := (s.p c i (f / 16 % 8)).testBit (x / 8) = true
    let flags := [Reg.ARR_THR_FP_INVALID, Reg.ARR_THR_FP_OVERFLOW, Reg.ARR_THR_FP_UNDERFLOW, Reg.ARR_THR_FP_INEXACT, Reg.ARR_THR_FP_SATURATED,
      Reg.ARR_SR_IDX_ELEM]
    let lanes (k : Instr) (w n : Nat) (r : Nat → Nat) : Prop := Does k s fun t =>
      (∀ l < n, (on (w * l) → bits (t.v c i d) (w * l) w = r l % 2 ^ w) ∧ (¬on (w * l) → bits (t.v c i d) (w * l) w = bits (s.v c i d) (w * l) w)) ∧
      t.v c i d / 2 ^ (w * n) = s.v c i d % 2 ^ 1024 / 2 ^ (w * n) ∧
      (∃ v, VTakes c i d v s t) ∧ PcNext c i s t ∧ OnlyThread (pmcFields ++ flags) c i s t
    (cvtSrc src = true → cvtDst (f % 16) = true → lanes (.vcvt c i d a b f src 0) w (1024 / max w (elemBits src)) fun l =>
      ((elemOf (f % 16)).round (s.modeOf c i l) (s.sat c i) (srcNum src (s.v c i a) (s.v c i b) l)).1) ∧
    (mxOk src f = true → lanes (.vbmax c i d a f src) 8 (1024 / elemBits src / 32) fun k =>
      (mxScale (f % 16) (s.sat c i) (blockOf src (s.v c i a) k)).1) ∧
    (mxOk src f = true → lanes (.vscale c i d a b f src 0) w (1024 / elemBits src) fun l =>
      if (mxScale (f % 16) (s.sat c i) (blockOf src (s.v c i a) (l / 32))).2 then 0
      else (mxQuant (f % 16) (bits (s.v c i b) (8 * (l / 32)) 8) (s.modeOf c i l)
        ((elemOf src).decode (bits (s.v c i a) (elemBits src * l) (elemBits src)))).1) ∧
    (lanes (.vwadd c i d a f 0) 64 16 fun l =>
      (Fmt.fp64.round .rne (s.sat c i) ((Fmt.fp32.decode (bits (s.v c i a) (32 * (16 * (f % 2) + l)) 32)).add
        (Fmt.fp64.decode (bits (s.v c i d) (64 * l) 64)))).1) ∧
    (vecFormat (f % 16) = true → lanes (.vreduce c i d a f 0) w 1 fun _ =>
      (treeSum (elemOf (f % 16)) (s.sat c i) 7 ((List.range (1024 / w)).map fun l => bits (s.v c i a) (w * l) w)).1)

/-! Spoke cores: the stream units. -/

/-- R240 to R243, R250: a run of at most one 4 KiB page to or from GDDR7 by window offset, on a free slot of the thread's own, with every check
passed, moves its bytes: SST and HST store them, SLD and HLD load them. The slot is then busy for the thread.
R240, R244: SHX copies between the scratchpad and the hub buffer in one direction by bit 63 of g[B]; SGATHER and SSCATTER start their
slot with one run for each row of the descriptor.
R240, R245: SPOLL answers 0xFF while its slot runs; SWAIT waits for it; on a slot that has completed both return its code in g[D] and in
LAST_STATUS. A slot that has moved every byte is freed by its end, and a thread that waits for it in SWAIT goes on with the code. -/
def Obligations.StreamUnits : Prop :=
  (∀ (s : State) (c i d a b f : Nat), CanIssue s c i → ownSlot i f = true → (s.slotOf c (i / 2) (f / 2 % 8)).busy = false → f % 2 = 1 →
      let la := s.g c i d
      let ra := s.g c i a
      let n := s.g c i b
      let ten := s.thTenant c i
      let ctx := s.thCtx c i
      1 ≤ n → ra % 4096 + n ≤ 4096 → 0x200000 ≤ ra →
      let taken (t : State) : Prop := (t.slotOf c (i / 2) (f / 2 % 8)).busy = true ∧ (t.slotOf c (i / 2) (f / 2 % 8)).thread = i ∧
        (t.slotOf c (i / 2) (f / 2 % 8)).status = 0 ∧ PcNext c i s t ∧ (∀ e j, t.thrOf e j = s.thrOf e j)
      (s.gddrPassAll ten ctx .write ra n = true →
        (la + n ≤ 0x1000000 → s.spCheck c (5 + i / 2) ten false la n = .ok → Does (.sst c i d a b f) s fun t =>
          (∀ j < n, Mem.rd t.gddr (ra + j) = Mem.rd (s.cluOf c).bank (s.spPlace c (la + j))) ∧ SameGddrBut ra n s t ∧ taken t) ∧
        (i % 2 = 0 → la + n ≤ 2 ^ 20 → Does (.hst c i d a b f) s fun t =>
          (∀ j < n, Mem.rd t.gddr (ra + j) = Mem.rd (s.cluOf c).hub (la + j)) ∧ SameGddrBut ra n s t ∧ taken t)) ∧
      (s.gddrPassAll ten ctx .read ra n = true → s.gddrPoisoned ra n = false →
        (la + n ≤ 0x1000000 → s.spCheck c (5 + i / 2) ten true la n = .ok → (∀ k < n, ∀ j < k, s.spPlace c (la + j) ≠ s.spPlace c (la + k)) →
          Does (.sld c i d a b f) s fun t => (∀ j < n, Mem.rd (t.cluOf c).bank (s.spPlace c (la + j)) = Mem.rd s.gddr (ra + j)) ∧
            (∀ p, (∀ j < n, p ≠ s.spPlace c (la + j)) → Mem.rd (t.cluOf c).bank p = Mem.rd (s.cluOf c).bank p) ∧ t.gddr = s.gddr ∧ taken t) ∧
        (i % 2 = 0 → la + n ≤ 2 ^ 20 → Does (.hld c i d a b f) s fun t =>
          (∀ j < n, Mem.rd (t.cluOf c).hub (la + j) = Mem.rd s.gddr (ra + j)) ∧
          (∀ y, (y < la ∨ la + n ≤ y) → Mem.rd (t.cluOf c).hub y = Mem.rd (s.cluOf c).hub y) ∧ t.gddr = s.gddr ∧ taken t))) ∧
  (∀ (s : State) (c i d a b f : Nat), CanIssue s c i → ownSlot i f = true → (s.slotOf c (i / 2) (f / 2 % 8)).busy = false →
      (let sp := s.g c i d
       let hb := s.g c i a
       let n := s.g c i b % 2 ^ 63
       i % 2 = 0 → sp + n ≤ 0x1000000 → sp < 0x1000000 → hb + n ≤ 2 ^ 20 →
       (s.g c i b / 2 ^ 63 % 2 = 1 → s.spCheck c (5 + i / 2) (s.thTenant c i) false sp n = .ok → Does (.shx c i d a b f) s fun t =>
         (∀ j < n, Mem.rd (t.cluOf c).hub (hb + j) = Mem.rd (s.cluOf c).bank (s.spPlace c (sp + j))) ∧ (t.cluOf c).bank = (s.cluOf c).bank ∧
         t.gddr = s.gddr ∧ PcNext c i s t) ∧
       (s.g c i b / 2 ^ 63 % 2 = 0 → s.spCheck c (5 + i / 2) (s.thTenant c i) true sp n = .ok →
         (∀ k < n, ∀ j < k, s.spPlace c (sp + j) ≠ s.spPlace c (sp + k)) → Does (.shx c i d a b f) s fun t =>
           (∀ j < n, Mem.rd (t.cluOf c).bank (s.spPlace c (sp + j)) = Mem.rd (s.cluOf c).hub (hb + j)) ∧ (t.cluOf c).hub = (s.cluOf c).hub ∧
           t.gddr = s.gddr ∧ PcNext c i s t)) ∧
      (let at_ := s.g c i b
       let x := gatherOf (s.spRead c at_ 16)
       at_ + 16 ≤ 0x1000000 → at_ % 16 = 0 → s.spCheck c (5 + i / 2) (s.thTenant c i) false at_ 16 = .ok → x.ok = true →
       s.g c i d < 0x1000000 → s.g c i d + x.rows * x.row ≤ 0x1000000 →
       s.spCheck c (5 + i / 2) (s.thTenant c i) false x.list (x.rows * x.width) = .ok →
       let parts := (List.range x.rows).flatMap fun k =>
         runParts (s.g c i d + k * x.row) ((s.g c i a + leNat (s.spRead c (x.list + k * x.width) x.width) * x.stride * x.row) % 2 ^ 64) x.row
       (Does (.sgather c i d a b f) s fun t => t = (s.slotStart c i (i / 2) (f / 2 % 8) false false (f % 2 == 1) parts).step1 c i) ∧
       (Does (.sscatter c i d a b f) s fun t => t = (s.slotStart c i (i / 2) (f / 2 % 8) true false (f % 2 == 1) parts).step1 c i))) ∧
  (∀ (s : State) (c i d f : Nat),
      let v := s.slotOf c (i / 2) (f / 2 % 8)
      (CanIssue s c i → ownSlot i f = true →
        (v.busy = true → (Does (.spoll c i d f) s fun t => GTakes c i d 0xFF s t ∧ PcNext c i s t ∧ OnlyThread [] c i s t) ∧
          (Does (.swait c i d f) s fun t => t.thState c i = Ts.waitStream ∧ (t.thrOf c i).wait = .slotDone (f / 2 % 8) d ∧ t.pc c i = s.pc c i)) ∧
        (v.busy = false → i % 2 = 0 →
          (Does (.spoll c i d f) s fun t => GTakes c i d v.status s t ∧ PcNext c i s t ∧
            t.rd Reg.CLU_STREAM_STATUS_LAST_STATUS (ix c (i / 2)) = v.status % 256) ∧
          (Does (.swait c i d f) s fun t => GTakes c i d v.status s t ∧ PcNext c i s t ∧
            t.rd Reg.CLU_STREAM_STATUS_LAST_STATUS (ix c (i / 2)) = v.status % 256))) ∧
      (∀ u k, v.busy = true → v.todo = [] → v.out = [] → v.parked = false → u = i / 2 → k = f / 2 % 8 → i % 2 = 0 → i < 8 → c < 10 →
        (s.thrOf c i).wait = .slotDone k d → (s.thrOf c (i + 1)).wait = .none →
        Does (.streamSlotDone c u k) s fun t => (t.slotOf c u k).busy = false ∧ t.thState c i = Ts.ready ∧ PcNext c i s t ∧
          t.g c i d = (if d % 32 = 0 then 0 else v.status % 2 ^ 64) ∧ (t.thrOf c i).wait = .none))

/-! Spoke cores: cadence, fences, barriers, SIGNAL. -/

/-- R236: CREAD answers the cadence count; CWAIT waits for the count in g[A], answers 1 at once for a count that has passed, and 2 in FREE
and ACQUIRE; when the count comes it answers 0, and 1 when it comes late; cancelled, 2.
R236, R308: CDEADLINE arms the deadline of its round where the lead of R45 permits it, and answers SCHEDULE_PAST where not; a
thread without deadlines gets one value that is left open (log entry 68). -/
def Obligations.CadenceGroup : Prop :=
  (∀ (s : State) (c i d a : Nat),
      (CanIssue s c i →
        (Does (.cread c i d) s fun t => GTakes c i d (s.rd Reg.CAD_COUNT_COUNT) s t ∧ PcNext c i s t ∧ OnlyThread [] c i s t) ∧
        (s.rd Reg.CAD_STATUS_STATE < 2 → Does (.cwait c i d a) s fun t =>
          t.g c i d = (if d % 32 = 0 then 0 else 2) ∧ t.rd Reg.CLU_THR_STATUS_CANCELLED (ix c i) = 1 ∧ t.thState c i = Ts.ready ∧ PcNext c i s t) ∧
        (2 ≤ s.rd Reg.CAD_STATUS_STATE → s.g c i a ≤ s.now → Does (.cwait c i d a) s fun t =>
          t.g c i d = (if d % 32 = 0 then 0 else 1) ∧ t.rd Reg.CLU_THR_STATUS_LATE (ix c i) = 1 ∧ t.thState c i = Ts.ready ∧ PcNext c i s t) ∧
        (2 ≤ s.rd Reg.CAD_STATUS_STATE → s.now < s.g c i a → Does (.cwait c i d a) s fun t =>
          t.thState c i = Ts.waitCadence ∧ (t.thrOf c i).wait = .cadence (s.g c i a) d ∧
          t.armed = s.armed ++ [{ kind := .cwait c i, at_ := s.g c i a }] ∧ t.pc c i = s.pc c i ∧ ∀ n, t.g c i n = s.g c i n)) ∧
      (∀ T T', s.armedAt (.cwait c i) = some T → s.isNext (.cwait c i) T = true → s.rd Reg.CAD_STATUS_STATE ≠ 4 → s.resting = false →
        (s.thrOf c i).wait = .cadence T' d → Does (.cwaitFire c i) s fun t =>
          t.g c i d = (if d % 32 = 0 ∨ s.now ≤ T then 0 else 1) ∧ (s.now ≤ T → t.now = T % 2 ^ 64) ∧ (T < s.now → t.now = s.now) ∧
          t.thState c i = Ts.ready ∧ (t.thrOf c i).wait = .none ∧ PcNext c i s t ∧ t.armed = s.armed.filter (fun e => e.kind ≠ .cwait c i)) ∧
      (∀ T, (s.thrOf c i).wait = .cadence T d →
        let t := s.cancelEv { kind := .cwait c i, at_ := T }
        t.g c i d = (if d % 32 = 0 then 0 else 2) ∧ t.rd Reg.CLU_THR_STATUS_CANCELLED (ix c i) = 1 ∧ t.thState c i = Ts.ready ∧
          (t.thrOf c i).wait = .none ∧ PcNext c i s t)) ∧
  (∀ (s : State) (c i d a : Nat), CanIssue s c i →
      (s.pelOn c i = none → Does (.cdeadline c i d a) s fun t => ∃ v, GTakes c i d v s t ∧ PcNext c i s t ∧ OnlyThread [] c i s t) ∧
      (∀ p o, s.pelOn c i = some p → (s.pelOf p).op = some o → o.launchAt ≠ 0 → o.stepCt ≠ 0 →
        let r := (s.g c i a - o.base) / o.stepCt - 1
        let T := s.g c i a + o.shiftOf r
        (s.mayArm T = true → Does (.cdeadline c i d a) s fun t =>
          GTakes c i d 0 s t ∧ PcNext c i s t ∧ t.armed = s.armed.filter (fun e => e.kind ≠ .deadline p r) ++ [{ kind := .deadline p r, at_ := T }]) ∧
        (s.mayArm T = false → Does (.cdeadline c i d a) s fun t => GTakes c i d 0x28 s t ∧ PcNext c i s t ∧ t.armed = s.armed)))

/-- R238: a FENCE whose selected conditions hold lets its thread go on, one of whose conditions does not hold makes it wait until its
release; a BARRIER makes a named thread wait until all named threads of the same mask have come.
R303: SIGNAL with 1 sends the descriptors of the send ring; any other value goes to the operation's report. -/
def Obligations.FencesBarriersSignals : Prop :=
  (∀ (s : State) (c i mask : Nat),
      (CanIssue s c i → mask.testBit 4 = false → (mask.testBit 3 = true → (s.spk c).trapDue = false) →
        (s.fenceHolds c i mask = true → Does (.fence c i mask) s fun t => t.thState c i = Ts.ready ∧ PcNext c i s t ∧ (t.thrOf c i).wait = .none ∧
          SameRegsBut [(Reg.CLU_THR_PC_PC, ix c i), (Reg.CLU_THR_STATUS_STATE, ix c i)] s t) ∧
        (s.fenceHolds c i mask = false → Does (.fence c i mask) s fun t => t.thState c i = Ts.waitSync ∧ t.pc c i = s.pc c i ∧
          (t.thrOf c i).wait = .fence mask)) ∧
      ((s.thrOf c i).wait = .fence mask → mask.testBit 4 = false → (mask.testBit 3 = true → (s.spk c).trapDue = false) →
        s.fenceHolds c i mask = true →
        Does (.fenceRelease c i) s fun t => t.thState c i = Ts.ready ∧ PcNext c i s t ∧ (t.thrOf c i).wait = .none) ∧
      (CanIssue s c i →
        (i ∈ barrierThreads mask → Does (.barrier c i mask) s fun t => t.thState c i = Ts.waitSync ∧ (t.thrOf c i).wait = .barrier (mask % 16) ∧
          t.pc c i = s.pc c i) ∧
        (i ∉ barrierThreads mask → Does (.barrier c i mask) s fun t => PcNext c i s t ∧ OnlyThread [] c i s t ∧ t.thrOf c i = s.thrOf c i)) ∧
      ((∀ j ∈ barrierThreads mask, (s.thrOf c j).wait = .barrier (mask % 16)) → Does (.barrierRelease c mask) s fun t =>
        (∀ j ∈ barrierThreads mask, t.thState c j = Ts.ready ∧ PcNext c j s t ∧ (t.thrOf c j).wait = .none) ∧
        ∀ j, j ∉ barrierThreads mask → t.thrOf c j = s.thrOf c j)) ∧
  (∀ (s : State) (c i v p : Nat) (o : PelOp), CanIssue s c i → s.pelOn c i = some p → (s.pelOf p).op = some o →
      (v ≠ 1 → Does (.signal c i v) s fun t => t.pelOf p = { s.pelOf p with op := some { o with signal := v % 2 ^ 32 } } ∧ PcNext c i s t ∧
        (∀ q, q ≠ p → t.pelOf q = s.pelOf q) ∧ t.gddr = s.gddr ∧ t.out = s.out) ∧
      (v = 1 → Does (.signal c i v) s fun t => t = (State.deliverAll p 64 (State.sendDescs p 64 s)).step1 c i))

/-! Spoke cores: registers, units, work items, ends. -/

/-- R249, R255, R260: CSRR reads a register into g[D], CSRW writes g[A] to a register of ARR_, UCLAIM takes a free unit for the thread and its
tenant and answers 1, or 0 where another thread holds it; URELEASE gives up a unit without commands; HALT ends with RUN 0; YIELD
only goes on.
R253: WORKGET binds the item at the front of the work queue that has its hub slots to a service thread that has none; WORKDONE of a
placement gives its hub slots back. -/
def Obligations.SystemInstructions : Prop :=
  (∀ (s : State) (c i d a imm : Nat), CanIssue s c i →
      (Does (.csrr c i d imm) s fun t => GTakes c i d (s.csrRead c i imm) s t ∧ PcNext c i s t ∧ OnlyThread [] c i s t) ∧
      (imm % 4096 / 1024 = 2 → imm % 1024 < 0x18 → Does (.csrw c i a imm) s fun t =>
        t = (s.accessAt Reg.blockARR (0x900000 + c * 0x10000 + (0x100 + 0x20 * i + imm % 1024)) (s.g c i a)).step1 c i) ∧
      (∀ (u : Nat) (own ten : Fld), (u = 0 ∧ own = Reg.CLU_ARR_OWN_HOLDER ∧ ten = Reg.CLU_ARR_OWN_TENANT) ∨
          (u = 1 ∧ own = Reg.CLU_SPK_OWN_HOLDER ∧ ten = Reg.CLU_SPK_OWN_TENANT) →
        (s.rd own c = 0 ∨ s.rd own c = i + 1 → Does (.uclaim c i d u) s fun t =>
          t.rd own c = i + 1 ∧ t.rd ten c = s.thTenant c i % 1024 ∧ GTakes c i d 1 s t ∧ PcNext c i s t) ∧
        (s.rd own c ≠ 0 → s.rd own c ≠ i + 1 → Does (.uclaim c i d u) s fun t =>
          t.rd own c = s.rd own c ∧ GTakes c i d 0 s t ∧ PcNext c i s t ∧ OnlyThread [] c i s t) ∧
        (s.rd own c = i + 1 → (s.arr c).queue = [] → (s.spk c).queue = [] → Does (.urelease c i u) s fun t => t.rd own c = 0 ∧ PcNext c i s t)) ∧
      (i % 2 = 0 ∨ s.xformOn c i = none → Does (.halt c i) s fun t => t.thState c i = Ts.halted ∧ t.rd Reg.CLU_THR_CTRL_RUN (ix c i) = 0 ∧
        PcNext c i s t ∧ ∀ e j, t.thrOf e j = s.thrOf e j) ∧
      (Does (.yield c i) s fun t => PcNext c i s t ∧ OnlyThread [] c i s t ∧ t.thrOf c i = s.thrOf c i)) ∧
  (∀ (s : State) (c i d h : Nat) (w : Work), CanIssue s c i → i % 2 = 0 →
      ((s.thrOf c i).work = none → (s.cluOf c).work.head? = some w → w.hub = some h → Does (.workget c i d) s fun t =>
        (t.thrOf c i).work = some w ∧ (t.cluOf c).work = (s.cluOf c).work.tail ∧ PcNext c i s t ∧
        (∀ n, n % 32 ≠ d % 32 → t.g c i n = s.g c i n) ∧ t.rd Reg.CLU_STATUS_WORK_OCC c = min 4096 (s.cluOf c).work.tail.length) ∧
      ((s.thrOf c i).work = some w → w.kind = 1 → w.hub = some h → Does (.workdone c i) s fun t =>
        (t.thrOf c i).work = none ∧ (t.cluOf c).hubUsed = (s.cluOf c).hubUsed.filter (fun k => k < h ∨ h + w.slots ≤ k) ∧ PcNext c i s t ∧
        ∀ n, t.g c i n = s.g c i n))

/-! Chainring, sprocket and cluster registers. -/

/-- R249, R273: the holder's chainring commands: CR.CFG takes a permitted configuration; CR.LOAD, CR.MUL and CR.STORE stand in issue order
behind those before them; CR.STAT answers the status of the last pass.
R272, R273, R275: a pass whose checks hold delivers the plane of R272 and status 0 and is counted; a load puts its bytes into its
buffer; a store of a plane that failed its checks traps its holder with ARITH. Each leaves the queue. -/
def Obligations.Chainring : Prop :=
  (∀ (s : State) (c i d a b : Nat), CanIssue s c i → s.rd Reg.CLU_ARR_OWN_HOLDER c = i + 1 →
      let x := (s.arr c).cfg
      let queued (k : Instr) (q : CrCmd) : Prop := Does k s fun t => (t.arr c).queue = (s.arr c).queue ++ [q] ∧ (t.arr c).planes = (s.arr c).planes ∧
        (t.arr c).bufs = (s.arr c).bufs ∧ PcNext c i s t ∧ ∀ e j, t.thrOf e j = s.thrOf e j
      (∀ y : CrCfg, y = ⟨bits (s.g c i a) 0 4, bits (s.g c i a) 4 4, bits (s.g c i a) 8 4, bit (s.g c i a) 12, bit (s.g c i a) 13⟩ →
        y.ok = true → s.g c i a < 2 ^ 14 → Does (.crCfg c i a) s fun t => (t.arr c).cfg = y ∧ (t.arr c).queue = (s.arr c).queue ∧ PcNext c i s t) ∧
      (s.g c i d ≤ 1 → kOk x.bFmt (s.g c i b) = true → s.g c i a < 0x1000000 → s.g c i a + tileBytes x.bFmt (s.g c i b) ≤ 0x1000000 →
        queued (.crLoad c i d a b) (.load x (s.g c i d) (s.g c i a) (s.g c i b))) ∧
      (kOk x.aFmt (s.g c i b % 256) = true → Tbl.get 0 (s.g c i b / 256 % 2) (s.arr c).kOf = s.g c i b % 256 → s.g c i a < 0x1000000 →
        s.g c i a + tileBytes x.aFmt (s.g c i b % 256) ≤ 0x1000000 →
        queued (.crMul c i a b) (.mul x (s.g c i a) (s.g c i b % 256) (s.g c i b / 256 % 2) (bit (s.g c i b) 9))) ∧
      (s.g c i a < 0x1000000 → s.g c i a + 16384 * (elemBits x.outFmt / 8) ≤ 0x1000000 →
        queued (.crStore c i a b) (.store x (s.g c i a) (bit (s.g c i b) 0))) ∧
      (Does (.crStat c i d) s fun t => GTakes c i d (s.arr c).status s t ∧ PcNext c i s t ∧ OnlyThread [] c i s t)) ∧
  (∀ (s : State) (c : Nat) (x : CrCfg) (addr k buf : Nat) (acc : Bool) (rest : List CrCmd), s.rd Reg.ARR_STATUS_STATE c = 0 →
      let a := s.arr c
      let h := s.rd Reg.CLU_ARR_OWN_HOLDER c
      let ten := s.rd Reg.CLU_ARR_OWN_TENANT c
      let pl := if acc then a.last else 1 - a.last
      (a.queue = .mul x addr k buf acc :: rest → a.release = false → s.spCheck c 9 ten false addr (tileBytes x.aFmt k) = .ok →
        s.spPoisoned c addr (tileBytes x.aFmt k) = false → Does (.chainringPassDone c [] [] [] []) s fun t =>
          Tbl.get [] pl (t.arr c).planes = planePass x k (leNat (s.spRead c addr (tileBytes x.aFmt k))) (leNat (Tbl.get [] buf a.bufs))
            (if acc then Tbl.get [] pl a.planes else []) ∧
          (t.arr c).last = pl ∧ (t.arr c).status = 0 ∧ (t.arr c).failed = false ∧ (t.arr c).queue = rest ∧
          t.rd Reg.ARR_PASSES_COUNT c = satAdd 64 (s.rd Reg.ARR_PASSES_COUNT c) 1) ∧
      (a.queue = .load x buf addr k :: rest → a.release = false → s.spCheck c 9 ten false addr (tileBytes x.bFmt k) = .ok →
        s.spPoisoned c addr (tileBytes x.bFmt k) = false → Does (.chainringCommandDone c) s fun t =>
          Tbl.get [] buf (t.arr c).bufs = s.spRead c addr (tileBytes x.bFmt k) ∧ (t.arr c).planes = a.planes ∧ (t.arr c).queue = rest) ∧
      (a.queue = .store x addr acc :: rest → a.failed = true → a.release = false → 1 ≤ h → Alone s c (h - 1) → Does (.chainringCommandDone c) s fun t =>
          t.thState c (h - 1) = Ts.trapped ∧ t.rd Reg.CLU_THR_STATUS_TRAP_CAUSE (ix c (h - 1)) = Cause.arith ∧ (t.arr c).queue = rest))

/-- R284, R285: the holder's sprocket commands: SP.CFG writes SPK_CFG; the others, whose range and configuration are permitted, stand in
issue order behind those before them, and touch no accumulator before their end.
R279 to R285: the end of SP.CLR zeroes its range alone; the end of SP.EXPORT writes the 40-byte image of each accumulator, where none is
poisoned, and clears the range only with CLEAR. -/
def Obligations.Sprocket : Prop :=
  (∀ (s : State) (c i d a b f : Nat), CanIssue s c i → s.rd Reg.CLU_SPK_OWN_HOLDER c = i + 1 →
      let x := s.spCfg c
      let base := s.g c i d % 2 ^ 14
      let n := s.g c i d / 2 ^ 16 % 2 ^ 14
      let la := s.g c i a
      let queued (k : Instr) (q : SpCmd) : Prop := Does k s fun t => (t.spk c).queue = (s.spk c).queue ++ [q] ∧ (t.spk c).accs = (s.spk c).accs ∧
        t.rd Reg.SPK_STATUS_BUSY c = 1 ∧ PcNext c i s t ∧ ∀ e j, t.thrOf e j = s.thrOf e j
      (∀ y : SpCfg, y = { inFmt := bits la 0 4, in2 := bits la 4 4, outFmt := bits la 8 4, round := bit la 12, sat := bit la 13 } → y.ok = true →
        Does (.spCfg c i a) s fun t => t.spCfg c = y ∧ (t.spk c).queue = (s.spk c).queue ∧ PcNext c i s t) ∧
      (1 ≤ n → base + n ≤ 12288 →
        queued (.spClr c i d) (.clr base n) ∧
        (f % 4 = 0 → (isMx x.inFmt = true → n % 32 = 0) → la < 0x1000000 → la + elemBytes x.inFmt n ≤ 0x1000000 →
          queued (.spAdd c i d a b f) (.add x base n la (s.g c i b) 0)) ∧
        (la + 40 * n ≤ 0x1000000 → f % 2 = 0 → queued (.spExport c i d a f) (.exp base n la false (bit f 1)) ∧
          queued (.spImport c i d a f) (.imp base n la false)) ∧
        (la + 8 ≤ 0x1000000 → f % 2 = 1 → queued (.spExport c i d a f) (.exp base n la true (bit f 1)) ∧
          queued (.spImport c i d a f) (.imp base n la true)) ∧
        (la < 0x1000000 → la + n * elemBits x.outFmt / 8 ≤ 0x1000000 → queued (.spRound c i d a f) (.rnd x base n la (bit f 1))))) ∧
  (∀ (s : State) (c base n addr : Nat) (clear : Bool) (rest : List SpCmd), (s.spk c).release = false →
      ((s.spk c).queue = .clr base n :: rest → Does (.sprocketCommandDone c []) s fun t =>
        (∀ k, base ≤ k → k < base + n → t.accOf c k = {}) ∧ (∀ k, (k < base ∨ base + n ≤ k) → t.accOf c k = s.accOf c k) ∧ (t.spk c).queue = rest) ∧
      ((s.spk c).queue = .exp base n addr false clear :: rest → s.anyPoison c base n = false → addr < 0x1000000 → addr + 40 * n ≤ 0x1000000 →
        s.spCheck c 10 (s.rd Reg.CLU_SPK_OWN_TENANT c) true addr (40 * n) = .ok →
        (∀ k < 40 * n, ∀ j < k, s.spPlace c (addr + j) ≠ s.spPlace c (addr + k)) → Does (.sprocketCommandDone c []) s fun t =>
          (∀ j < n, ∀ b < 40, Mem.rd (t.cluOf c).bank (s.spPlace c (addr + 40 * j + b)) = BitVec.ofNat 8 ((s.accOf c (base + j)).image.1 / 256 ^ b)) ∧
          (clear = false → ∀ k, t.accOf c k = s.accOf c k) ∧ (clear = true → ∀ k, base ≤ k → k < base + n → t.accOf c k = {}) ∧
          (t.spk c).queue = rest))

/-- R230, R233: a write of CLU_THR_CTRL starts a halted thread of a serving core from its program counter, and halts a running one; a
change of a program thread's identity zeroes its registers and local memory, and the thread runs only after the zeroing is done; the
program store takes a word at CLU_PSTORE_ADDR, which goes on by one.
R247: a handover within a tenant takes effect at once; one to another tenant zeroes the bank and gives it only after the zeroing. Stated
where no stream slot of the cluster waits. -/
def Obligations.ClusterControl : Prop :=
  (∀ (s : State) (c i v : Nat), c < 10 → i < 8 →
      let ten := v / 2 ^ 16 % 2 ^ 10
      let ctx := v / 2 ^ 32 % 2 ^ 16
      let run := s.rd Reg.CLU_THR_CTRL_RUN (ix c i)
      (run = 0 → v % 2 = 1 → ten = s.thTenant c i → ctx = s.thCtx c i → (s.thrOf c i).zeroing = false → s.coreServes c (i / 2) = true →
        Does (.cluThrCtrlWrite c i v) s fun t => t.thState c i = Ts.ready ∧ t.rd Reg.CLU_THR_CTRL_RUN (ix c i) = 1 ∧ t.pc c i = s.pc c i ∧
          ∀ e j, t.thrOf e j = s.thrOf e j) ∧
      (run = 1 → v % 2 = 0 → i % 2 = 1 → Does (.cluThrCtrlWrite c i v) s fun t => t.thState c i = Ts.halted ∧ t.rd Reg.CLU_THR_CTRL_RUN (ix c i) = 0 ∧
        t.thTenant c i = s.thTenant c i ∧ ∀ n, t.g c i n = s.g c i n) ∧
      (run = 0 → i % 2 = 1 → v % 2 = 0 → (ten ≠ s.thTenant c i ∨ ctx ≠ s.thCtx c i) → Does (.cluThrCtrlWrite c i v) s fun t =>
        t.thTenant c i = ten ∧ t.thCtx c i = ctx ∧ (t.thrOf c i).zeroing = true ∧ (∀ n, t.g c i n = 0 ∧ t.v c i n = 0) ∧ (t.thrOf c i).mem = []) ∧
      ((s.thrOf c i).zeroing = true → run = 1 → s.coreServes c (i / 2) = true → Does (.programThreadZeroingDone c i) s fun t =>
        (t.thrOf c i).zeroing = false ∧ t.thState c i = Ts.ready) ∧
      (Does (.cluPstoreDataWrite c v) s fun t => Tbl.get 0 (s.rd Reg.CLU_PSTORE_ADDR_ADDR c) (t.cluOf c).pstore = v % 2 ^ 32 ∧
        (∀ w, w ≠ s.rd Reg.CLU_PSTORE_ADDR_ADDR c → Tbl.get 0 w (t.cluOf c).pstore = Tbl.get 0 w (s.cluOf c).pstore) ∧
        t.rd Reg.CLU_PSTORE_ADDR_ADDR c = (s.rd Reg.CLU_PSTORE_ADDR_ADDR c + 1) % 2 ^ 17)) ∧
  (∀ (s : State) (c b v owner share ten : Nat), c < 10 → b < 16 → (∀ u k, (s.slotOf c u k).todo = []) →
      let own (t : State) (o h n : Nat) : Prop := t.rd Reg.CLU_BANK_OWN_OWNER (ix c b) = o ∧ t.rd Reg.CLU_BANK_OWN_SHARE_RD (ix c b) = h ∧
        t.rd Reg.CLU_BANK_OWN_TENANT (ix c b) = n ∧ t.rd Reg.CLU_BANK_OWN_ZEROING (ix c b) = 0
      let phys := s.rd Reg.CLU_BANK_MAP_PHYS (ix c b)
      (v / 2 ^ 16 % 2 ^ 10 = s.rd Reg.CLU_BANK_OWN_TENANT (ix c b) → s.rd Reg.CLU_BANK_OWN_ZEROING (ix c b) = 0 → Does (.cluBankOwnWrite c b v) s fun t =>
        own t (v % 2 ^ 4) (v / 2 ^ 4 % 2 ^ 10) (v / 2 ^ 16 % 2 ^ 10) ∧ (t.cluOf c).bank = (s.cluOf c).bank ∧
        t.rd Reg.CLU_HANDOVERS_COUNT c = satAdd 64 (s.rd Reg.CLU_HANDOVERS_COUNT c) 1) ∧
      (v / 2 ^ 16 % 2 ^ 10 ≠ s.rd Reg.CLU_BANK_OWN_TENANT (ix c b) → Does (.cluBankOwnWrite c b v) s fun t =>
        t.rd Reg.CLU_BANK_OWN_ZEROING (ix c b) = 1 ∧ t.rd Reg.CLU_BANK_OWN_TENANT (ix c b) = s.rd Reg.CLU_BANK_OWN_TENANT (ix c b) ∧
        (∀ x < 2 ^ 18, Mem.rd (t.cluOf c).bank (phys * 2 ^ 18 + x) = 0) ∧
        Tbl.get (0, 0, 0x3FF) b (t.cluOf c).handing = (v % 2 ^ 4, v / 2 ^ 4 % 2 ^ 10, v / 2 ^ 16 % 2 ^ 10)) ∧
      (s.rd Reg.CLU_BANK_OWN_ZEROING (ix c b) = 1 → Tbl.get (0, 0, 0x3FF) b (s.cluOf c).handing = (owner, share, ten) → owner < 16 → share < 1024 →
        ten < 1024 → Does (.bankZeroingDone c b) s fun t => own t owner share ten ∧ (t.cluOf c).bank = (s.cluOf c).bank))

/-! Resets, boot, contacts. -/

/-- R19, R81, R222, R345, R470: a cold reset empties every memory, queue and connection, sets the cadence count to 0 and counts a cold boot; a
warm reset empties those of the main domain, keeps the count and holds the forwarding, and keeps the bytes of extents marked KEEP
alone. MOD_RST_N held low for 100 us resets as a warm reset, for 100 ms as a cold one, and its rise ends the reset. -/
def Obligations.Resets : Prop :=
  ∀ (s : State) (b : Boot),
    let empty (t : State) : Prop := t.sqs = [] ∧ t.conns = [] ∧ t.cqs = [] ∧ t.pels = [] ∧ t.near = [] ∧ t.eps = [] ∧ t.atts = [] ∧ t.xlt = {} ∧ t.cip = {}
    let holds (n a : Nat) : Prop := s.rd Reg.TEN_EXT1_BASE_UNIT n * 2 ^ 21 ≤ a ∧ a < (s.rd Reg.TEN_EXT1_BASE_UNIT n + s.rd Reg.TEN_EXT1_UNITS n) * 2 ^ 21
    let kept (n : Nat) : Prop := s.rd Reg.TEN_EXT0_STATE n = 3 ∨
      ((s.rd Reg.TEN_EXT0_STATE n = 1 ∨ s.rd Reg.TEN_EXT0_STATE n = 2) ∧ s.rd Reg.TEN_EXT0_KEEP n = 1)
    (Does (.coldReset b) s fun t => empty t ∧ t.gddr = [] ∧ t.now = 0 ∧ t.armed = [] ∧ t.far = [] ∧
      t.rd Reg.LCS_BOOT_COLD_BOOTS 0 = (s.rd Reg.LCS_BOOT_COLD_BOOTS 0 + 1) % 2 ^ 32) ∧
    (Does (.warmReset b) s fun t => empty t ∧ t.now = s.now ∧ (∀ a, (∀ n, kept n → ¬holds n a) → Mem.rd t.gddr a = 0) ∧
      (s.rd Reg.LCS_STATE_PENDING 0 = 0 → ∀ n a, kept n → holds n a → Mem.rd t.gddr a = Mem.rd s.gddr a) ∧
      (s.rd Reg.FWP_STATUS_STATE 0 = 1 → t.rd Reg.FWP_STATUS_STATE 0 = 2)) ∧
    (s.board.pwr.rst = 0 → Does .modRstNFall s fun t => t.board.pwr.rst = 1 ∧ t.sqs = s.sqs ∧ t.regs = s.regs) ∧
    (s.board.pwr.rst = 1 → Does .modRstNWarmTimer s fun t => t.board.pwr.rst = 2 ∧ empty t ∧ t.now = s.now) ∧
    (s.board.pwr.rst = 2 → Does .modRstNColdTimer s fun t => t.board.pwr.rst = 3 ∧ empty t ∧ t.gddr = [] ∧ t.now = 0) ∧
    (s.board.pwr.rst < 2 → Does (.modRstNRise b) s fun t => t.board.pwr.rst = 0 ∧ t.regs = s.regs ∧ t.sqs = s.sqs) ∧
    (∀ img, 2 ≤ s.board.pwr.rst → s.rd Reg.LCS_STATE_PENDING 0 = 0 → s.mgmt.flash = some img → Does (.modRstNRise b) s fun t => t.board.pwr.rst = 0 ∧
      (s.imageFault img b.signer b.sigOk = 0 → t.mgmt.image = img ∧ t.mgmt.recovery = none) ∧
      (s.imageFault img b.signer b.sigOk ≠ 0 → t.rd Reg.MBX_KILURN_STATE 0 = 3 ∧ t.mgmt.recovery ≠ none ∧
        t.rd Reg.LCS_BOOT_IMAGE_FAIL_REASON 0 = s.imageFault img b.signer b.sigOk))

/-- R464, R467, R469: the contacts and the power-up sequence: the rails are raised one after another once VIN is at 39.0 V, a rail that does not
come stops the sequence, MOD_PWR_EN or AUX_3V3 going low turns the module OFF; a loss of REFCLK is reported once.
R371, R387, R389: Kilurn comes up after a good image, and after a management restart; in recovery it asks for the image from offset 0,
takes the blocks in order from the first that answers, and asks for a block again at most 8 times. -/
def Obligations.PowerUpAndRecovery : Prop :=
  (∀ (s : State) (mv vin k : Nat) (temps : List Int) (b : Boot),
      let p := s.board.pwr
      (p.aux = false → Does (.aux3v3Rise mv b) s fun t => t.board.pwr.aux = true ∧ t.board.pwr.off = true ∧ t.board.pwr.auxMv = mv ∧
        t.board.pwr.seq = (if p.en then .waitVin else .idle) ∧ t.sqs = [] ∧ t.gddr = []) ∧
      (p.aux = true → mv < 2900 → Does (.aux3v3Loss mv) s fun t => t.board.pwr.aux = false ∧ t.board.pwr.off = true ∧
        t.rd Reg.MBX_KILURN_STATE 0 = 0) ∧
      (p.en = false → p.off = true → p.aux = true → p.cause ≠ 1 → Does (.modPwrEnRise temps) s fun t =>
        t.board.pwr.en = true ∧ t.board.pwr.seq = .waitVin ∧ t.regs = s.regs) ∧
      (p.off = false → Does .modPwrEnFall s fun t => t.board.pwr.off = true ∧ t.board.pwr.en = false ∧ t.sqs = [] ∧ t.gddr = [] ∧ t.board.pwr.cause = 0) ∧
      (p.seq = .waitVin → p.en = true → 3900 ≤ vin → Does (.vinStartLevel vin) s fun t => t.board.pwr.seq = .raising 0 ∧ t.board.pwr.vin = vin ∧
        t.regs = s.regs) ∧
      (p.seq = .raising k → k < 5 → Does (.railPowerGood b) s fun t => t.board.pwr.seq = .raising (k + 1) ∧ t.regs = s.regs) ∧
      (p.seq = .raising 5 → Does (.railPowerGood b) s fun t => t.board.pwr.seq = .up ∧ t.board.pwr.off = false ∧ t.sqs = [] ∧ t.gddr = []) ∧
      (p.seq = .raising k → k < 6 → Does .railStartTimeout s fun t => t.board.pwr.seq = .stopped ∧ t.board.pwr.cause = 2 ∧
        t.board.pwr.rail = [5, 4, 1, 2, 0, 3].getD k 0 ∧ t.regs = s.regs) ∧
      (p.refclk = true → Does .refclkLoss s fun t => t.board.pwr.refclk = false ∧
        t.rd Reg.RES_ERRORS_COUNT 0 = satAdd 64 (s.rd Reg.RES_ERRORS_COUNT 0) 1) ∧
      (Does .refclkReturn s fun t => t.board.pwr.refclk = true ∧ t.regs = s.regs ∧ t.out = s.out)) ∧
  (∀ (s : State) (src offset len : Nat) (data : List Byte) (b : Boot) (r : Recovery),
      (s.rd Reg.MBX_KILURN_CORES_FENCED 0 ≠ 15 → s.board.pwr.aux = true →
        (s.rd Reg.MBX_KILURN_STATE 0 = 0 → s.mgmt.image ≠ [] → s.board.pwr.rst < 2 → Does .kilurnReady s fun t => t.rd Reg.MBX_KILURN_STATE 0 = 1) ∧
        (s.rd Reg.MBX_KILURN_STATE 0 = 2 → Does .kilurnReady s
          (Writes [(Reg.MBX_KILURN_STATE, 0, 1), (Reg.MBX_JOURNAL_RERUN_COUNT, 0, satAdd 64 (s.rd Reg.MBX_JOURNAL_RERUN_COUNT 0) s.interrupted)] s))) ∧
      (s.mgmt.recovery = some r →
        (r.responder = none → Does .recoveryRequestTimer s fun t => t = { s with out := s.out ++ [.recovery none 0 4096] }) ∧
        (r.responder = none → 1 ≤ data.length → data.length ≤ 4096 → data.length < len →
          Does (.recoveryData src 0 len data b) s fun t =>
            t.mgmt.recovery = some { r with responder := some src, len := len, data := data, retries := 0 } ∧
            t.out = s.out ++ [.recovery (some src) data.length (min 4096 (len - data.length))] ∧ t.regs = s.regs) ∧
        (r.responder = some src → offset ≠ r.data.length → Does (.recoveryData src offset len data b) s fun t => t = s) ∧
        (r.responder = some src → r.retries < 8 → Does .recoveryBlockTimeout s fun t =>
          t.mgmt.recovery = some { r with retries := r.retries + 1 } ∧
          t.out = s.out ++ [.recovery (some src) r.data.length (min 4096 (r.len - r.data.length))] ∧ t.regs = s.regs) ∧
        (r.responder = some src → 8 ≤ r.retries → Does .recoveryBlockTimeout s fun t => t.mgmt.recovery = some { cold := r.cold } ∧ t.out = s.out)))

/-! Power. -/

/-- R434, R435, R439, R441: a request for CROCUS or REST is taken up where every condition of R434 holds, and refused with the first that does not
otherwise; the entry
ends in the state asked for, or is undone with cause 8; from RUN to TRIM the clocks move at once and VDD_CMP follows, from TRIM to
RUN the voltage is asked for first. -/
def Obligations.PowerRequests : Prop :=
  ∀ (s : State) (r src : Nat), s.board.pwr.off = false →
    let holds (n : Nat) : Prop := match n with
      | 1 => s.rd Reg.QP_MODULE_OUT_COUNT 0 = 0
      | 2 => ∀ x ∈ s.pels, x.2.st = .free ∨ x.2.st = .reserved ∨ x.2.st = .ready ∨ x.2.st = .excluded ∨ x.2.st = .error
      | 3 => s.armedAt .swap = none ∧ ∀ t, s.rd Reg.TEN_SLICE0_STATE t ≠ 2 ∧ s.rd Reg.TEN_SLICE0_STATE t ≠ 6
      | 4 => s.rd Reg.TEN_WIPE_STATUS_BUSY 0 ≠ 1
      | 5 => s.rd Reg.FWP_STATUS_STATE 0 = 0 ∨ s.rd Reg.FWP_STATUS_STATE 0 = 3
      | 6 => s.board.res.moves = [] ∧ s.board.res.copies = [] ∧ s.rd Reg.MEM_COPY_ACTIVE 0 ≠ 1
      | 7 => s.board.pwr.dips = []
      | _ => True
    (s.rd Reg.PWR_STATUS_STATE 0 < 2 → s.board.pwr.entry = none →
      (∀ (k : Instr) (x : Nat), (k = .pwrReqCrocus ∧ x = 2) ∨ (k = .pwrReqRest ∧ x = 3) →
        ((∀ n, holds n) → Does k s fun t => t.rd Reg.PWR_REQ_TARGET 0 = x ∧ t.rd Reg.PWR_STATUS_REFUSE_CAUSE 0 = 0 ∧
          t.rd Reg.PWR_STATUS_STATE 0 = 4 ∧ t.board.pwr.entry = some (x, s.rd Reg.PWR_STATUS_STATE 0)) ∧
        (∀ n, ¬holds n → (∀ j < n, holds j) → Does k s
          (Writes [(Reg.PWR_STATUS_REFUSE_CAUSE, 0, n), (Reg.PWR_REQ_TARGET, 0, s.rd Reg.PWR_STATUS_STATE 0)] s))) ∧
      (s.rd Reg.PWR_PMBUS_PENDING 0 % 2 = 0 → s.board.pwr.raising = none → s.board.pwr.wants = [] →
        (s.rd Reg.PWR_STATUS_STATE 0 = 0 → s.rd Reg.PWR_STATUS_STEP 0 = 8 → s.rd Reg.PWR_RAIL_SET_MV 0 = 800 → Does .pwrReqTrim s fun t =>
          t.rd Reg.PWR_STATUS_STATE 0 = 1 ∧ t.rd Reg.PWR_STATUS_STEP 0 = 4 ∧ t.rd Reg.PWR_REQ_TARGET 0 = 1 ∧ t.out = s.out ++ [.vout 0 725] ∧
          t.rd Reg.PWR_PMBUS_PENDING 0 % 2 = 1) ∧
        (s.rd Reg.PWR_STATUS_STATE 0 = 1 → s.rd Reg.PWR_STATUS_STEP 0 = 4 → s.rd Reg.PWR_RAIL_SET_MV 0 = 725 → Does .pwrReqRun s fun t =>
          t.rd Reg.PWR_STATUS_STATE 0 = 1 ∧ t.rd Reg.PWR_STATUS_STEP 0 = 4 ∧ t.rd Reg.PWR_REQ_TARGET 0 = 0 ∧ t.out = s.out ++ [.vout 0 800] ∧
          t.board.pwr.raising = some (8, 0)))) ∧
    (s.board.pwr.entry = some (r, src) → r < 8 → src < 8 →
      (Does .powerEntryDrainDone s fun t => t.rd Reg.PWR_STATUS_STATE 0 = r ∧ t.rd Reg.PWR_STATUS_RESUME 0 = src ∧ t.board.pwr.entry = none ∧
        t.rd Reg.PWR_RAIL_SET_MV 0 = 0 ∧ t.rd Reg.PWR_RAIL_SET_MV 3 = 1100) ∧
      (Does .powerEntryDrainTimeout s fun t => t.rd Reg.PWR_STATUS_STATE 0 = src ∧ t.rd Reg.PWR_REQ_TARGET 0 = src ∧
        t.rd Reg.PWR_STATUS_REFUSE_CAUSE 0 = 8 ∧ t.board.pwr.entry = none))

/-- R438, R439: in REST lane activity wakes the module into the state it resumes, unless a supply dip holds it; a watch in CROCUS is counted, and
wakes the module on lane activity. -/
def Obligations.Wakes : Prop :=
  ∀ (s : State) (temps : List Int) (vin : Nat),
    (s.rd Reg.PWR_STATUS_STATE 0 = 3 →
      (s.board.pwr.dips = [] → s.rd Reg.PWR_STATUS_RESUME 0 < 2 → Does .restLaneActivity s fun t =>
        t.rd Reg.PWR_STATUS_STATE 0 = s.rd Reg.PWR_STATUS_RESUME 0 ∧ t.rd Reg.PWR_STATUS_WAKE_CAUSE 0 = 1 ∧
        t.rd Reg.PWR_WAKES_COUNT 0 = (s.rd Reg.PWR_WAKES_COUNT 0 + 1) % 2 ^ 64) ∧
      (s.board.pwr.dips ≠ [] → Does .restLaneActivity s fun t => t.board.pwr.exitHeld = true ∧ t.rd Reg.PWR_STATUS_STATE 0 = 3 ∧
        t.rd Reg.PWR_STATUS_WAKE_CAUSE 0 = 1)) ∧
    (s.rd Reg.PWR_STATUS_STATE 0 = 2 → s.synced = false →
      (s.board.pwr.dips = [] → s.rd Reg.PWR_STATUS_RESUME 0 < 2 → Does (.crocusWatch true temps vin) s fun t =>
        t.rd Reg.PWR_STATUS_STATE 0 = s.rd Reg.PWR_STATUS_RESUME 0 ∧ t.rd Reg.PWR_STATUS_WAKE_CAUSE 0 = 1 ∧
        t.rd Reg.PWR_WATCHES_COUNT 0 = satAdd 64 (s.rd Reg.PWR_WATCHES_COUNT 0) 1) ∧
      (s.crossed temps vin = false → Does (.crocusWatch false temps vin) s fun t => t.rd Reg.PWR_STATUS_STATE 0 = 2 ∧
        t.rd Reg.PWR_WATCHES_COUNT 0 = satAdd 64 (s.rd Reg.PWR_WATCHES_COUNT 0) 1 ∧ t.board.pwr.temps = temps ∧ t.board.pwr.vin = vin))

/-- R431, R432, R433, R442, R443, R476: the ends of PMBus changes, the cap, the thermal limits and supply dips. -/
def Obligations.SupplyAndLimits : Prop :=
  ∀ (s : State) (r mv vin watts auxMw us : Nat) (temps : List Int) (b : Boot), s.board.pwr.off = false →
    let awake : Prop := s.rd Reg.PWR_STATUS_STATE 0 < 2
    let still : Prop := s.rd Reg.PWR_PMBUS_PENDING 0 = 0 ∧ s.board.pwr.raising = none ∧ s.board.pwr.wants = []
    (1 ≤ r → r < 8 → (s.rd Reg.PWR_PMBUS_PENDING 0).testBit r = true → s.rd Reg.PWR_PMBUS_PENDING 0 < 256 →
      (Does (.pmbusAck r mv) s (Writes [(Reg.PWR_RAIL_MEAS_MV, r, mv % 2 ^ 16), (Reg.PWR_PMBUS_PENDING, 0, s.rd Reg.PWR_PMBUS_PENDING 0 - 2 ^ r)] s)) ∧
      (Does (.pmbusTimeout r) s fun t => t.rd Reg.PWR_PMBUS_PENDING 0 = s.rd Reg.PWR_PMBUS_PENDING 0 - 2 ^ r ∧
        t.rd Reg.PWR_PMBUS_TIMEOUTS 0 = satAdd 32 (s.rd Reg.PWR_PMBUS_TIMEOUTS 0) 1 ∧
        t.rd Reg.RES_ERRORS_COUNT 0 = satAdd 64 (s.rd Reg.RES_ERRORS_COUNT 0) 1)) ∧
    (awake → still → 1 ≤ s.rd Reg.PWR_STATUS_STEP 0 → s.rd Reg.PWR_STATUS_STEP 0 ≤ 4 → s.rd Reg.PWR_RAIL_SET_MV 0 = 725 → s.rd Reg.PWR_STATUS_STATE 0 = 1 →
      (temps = [1600, 0, 0, 0] → Does (.thermalThrottleStep temps) s fun t => t.rd Reg.PWR_STATUS_STEP 0 = s.rd Reg.PWR_STATUS_STEP 0 - 1 ∧
        t.rd Reg.PWR_STATUS_STATE 0 = 1) ∧
      (4000 ≤ vin → 450 < watts → watts < 1024 → Does (.powerCapStep watts vin auxMw) s fun t =>
        t.rd Reg.PWR_STATUS_STEP 0 = s.rd Reg.PWR_STATUS_STEP 0 - 1 ∧ t.rd Reg.PWR_CAP_STEPS_COUNT 0 = satAdd 64 (s.rd Reg.PWR_CAP_STEPS_COUNT 0) 1 ∧
        t.rd Reg.PWR_CAP_POWER_W 0 = watts)) ∧
    (temps = [1760, 0, 0, 0] → Does (.thermalTrip temps) s fun t => t.board.pwr.off = true ∧ t.board.pwr.cause = 1 ∧ t.sqs = [] ∧ t.gddr = []) ∧
    ((∀ d ∈ s.board.pwr.dips, d.source ≠ r) → awake → s.board.pwr.entry = none → Does (.supplyDipStart r mv) s fun t =>
      t.rd Reg.PWR_DIPS_COUNT 0 = satAdd 64 (s.rd Reg.PWR_DIPS_COUNT 0) 1 ∧ t.rd Reg.PWR_STATUS_DIP_ACTIVE 0 = 1 ∧
      ∃ d, t.board.pwr.dips = s.board.pwr.dips ++ [d] ∧ d.source = r ∧ d.minMv = mv) ∧
    (∀ d : Dip, s.board.pwr.dips = [d] → d.source = r → s.board.pwr.exitHeld = false → s.rd Reg.PWR_STATUS_DIP_ACTIVE 0 = 1 →
      (d.logged = true → Does (.supplyDipRecovery r mv us) s fun t => t.board.pwr.dips = [] ∧ t.rd Reg.PWR_STATUS_DIP_ACTIVE 0 = 0 ∧
        t.rd Reg.PWR_DIP_LOG0_MIN_MV 0 = min mv d.minMv % 2 ^ 16 ∧ t.rd Reg.PWR_DIP_LOG0_DURATION_US 0 = us % 2 ^ 31) ∧
      (d.resting = false → awake → still → s.board.pwr.trimHeld = false → s.rd Reg.PWR_STATUS_STEP 0 = 8 → s.rd Reg.PWR_RAIL_SET_MV 0 = 800 →
        Does .dipHoldExpire s fun t => t.rd Reg.PWR_STATUS_STATE 0 = 1 ∧ t.rd Reg.PWR_STATUS_STEP 0 = 4 ∧ t.board.pwr.trimHeld = true ∧
        t.rd Reg.PWR_STATUS_DIP_ACTIVE 0 = 0)) ∧
    (Does (.supplyBelowReset 15 mv b) s fun t => t.board.pwr.off = true ∧ t.sqs = [] ∧ t.gddr = [])

/-- R473 to R475: the SMBus responder answers each block with the bytes of R474, while AUX_3V3 is there; the test port takes its instruction and
its cells. -/
def Obligations.SmbusAndTestPort : Prop :=
  ∀ (s : State) (temps : List Int) (vin auxMv : Nat) (mac : List Byte) (cells : List Bool), s.board.pwr.aux = true →
    let answers (k : Instr) (b : List Byte) : Prop := Does k s fun t => t.out = s.out ++ [.smbus b] ∧ t.regs = s.regs ∧ t.gddr = s.gddr ∧ t.mgmt = s.mgmt
    answers .smbusStatus (leBytes 1 (if s.board.pwr.off then 5 else s.rd Reg.PWR_STATUS_STATE 0) ++ leBytes 1 (s.rd Reg.MBX_KILURN_STATE 0) ++ leBytes 1 (s.rd Reg.LCS_STATE_STATE 0) ++
      leBytes 1 (s.rd Reg.RES_ALERT_REPLACE 0 + 2 * s.rd Reg.RES_ALERT_RECOVERY 0 + 4 * s.rd Reg.RES_ALERT_FENCE 0) ++
      leBytes 1 s.board.pwr.cause ++ leBytes 1 s.board.pwr.rail ++ [0, 0]) ∧
    (let w := s.rd Reg.RES_REPLACE_SPARE_EXHAUSTED 0 + 2 * s.rd Reg.RES_REPLACE_EOL 0 + 4 * s.rd Reg.RES_REPLACE_MGMT 0 + 2 ^ 8 * s.rd Reg.RES_REPLACE_CLASSES 0;
      s.board.pwr.off = false → answers .smbusReplace (leBytes 4 w ++ leBytes 2 (s.rd Reg.RES_EOL_DAYS 0) ++ leBytes 1 (s.rd Reg.RES_EOL_MONITOR 0) ++ [0])) ∧
    (∀ a b c d : Int, temps = [a, b, c, d] → answers (.smbusTemp temps)
      (leBytes 2 (BitVec.ofInt 16 a).toNat ++ leBytes 2 (BitVec.ofInt 16 b).toNat ++ leBytes 2 (BitVec.ofInt 16 c).toNat ++ leBytes 2 (BitVec.ofInt 16 d).toNat)) ∧
    answers (.smbusPower vin auxMv) (leBytes 2 vin ++ leBytes 2 auxMv ++ leBytes 2 (s.rd Reg.PWR_CAP_POWER_W 0) ++ [0, 0]) ∧
    (mac.length = 6 → s.board.pwr.off = false → answers (.smbusIdent mac) (leBytes 2 (s.rd Reg.TRN_MODULE_ID 0) ++ mac ++ leBytes 8 (s.rd Reg.LCS_IDENT_HASH 0) ++
      leBytes 8 (s.rd Reg.LCS_IDENT_HASH 1))) ∧
    (Does .jtagBypass s fun t => t.board.jtag = { s.board.jtag with ir := 0 } ∧ t.out = s.out ∧ t.regs = s.regs) ∧
    (Does (.jtagSamplePreload cells) s fun t => t.board.jtag = { ir := 1, cells := cells } ∧ t.out = s.out ∧ t.regs = s.regs) ∧
    (Does .jtagExtest s fun t => t.board.jtag.ir = 2 ∧ t.out = s.out ++ [.boundary s.board.jtag.cells] ∧ t.regs = s.regs) ∧
    (Does .jtagTestLogicReset s fun t => t.board.jtag = { s.board.jtag with ir := 0 } ∧ t.out = s.out ∧ t.regs = s.regs)

/-! Near links and translation. -/

/-- R65, R66, R70, R72, R97, R486: on a path that is up, a request of a tenant that its endpoint may present, to bytes of GDDR7 that the
controller passes, has its effect there and nowhere else: a write stores its bytes and answers nothing; a read answers the bytes and changes
none; a read of length 0 answers without data; FADD and CSWAP replace 8 bytes and answer the old ones. A write of a tenant that the endpoint
may not present is counted and stores nothing. -/
def Obligations.WindowMemory : Prop :=
  ∀ (s : State) (p : Nat) (m : NearMsg),
    let ep := s.epOf (s.nearOf p).slot
    let off := m.addr - ep.windowBase
    let cpl (data : List Byte) : NearMsg := { op := if data = [] then 5 else 6, last := decide (data ≠ []), len := data.length, tag := m.tag,
                                              tenant := m.tenant, ctx := m.ctx, data := data }
    let old := Mem.nat s.gddr off 8
    let swaps (k : Instr) (new : Nat) : Prop := s.gddrPassAll m.tenant m.ctx .atomic off 8 = true → s.gddrPoisoned off 8 = false →
      Does k s fun t => Mem.nat t.gddr off 8 = new ∧ SameGddrBut off 8 s t ∧ SameFieldsBut pmcFields s t ∧ t.out = s.out ++ [.near p (cpl (leBytes 8 old))]
    s.pathIsUp p = true → ep.windowBase ≤ m.addr → off + reqSpan m ≤ gddrEnd → nearBad m = false → s.frozen m.tenant = false →
    (s.nearOf p).waitP = [] → (s.nearOf p).replay.length < 512 → (s.nearOf p).resting = false →
    (s.permitted ep.epid m.tenant = true →
      (m.op = 1 → s.gddrPassAll m.tenant m.ctx .write off m.len = true → Does (.nearWr p m) s fun t =>
        (∀ k < m.len, Mem.rd t.gddr (off + k) = m.data.getD k 0) ∧ SameGddrBut off m.len s t ∧ SameFieldsBut pmcFields s t ∧ t.out = s.out) ∧
      (m.op = 2 → m.len ≠ 0 → s.gddrPassAll m.tenant m.ctx .read off m.len = true → s.gddrPoisoned off m.len = false → unitBytes ≤ off →
        Does (.nearRd p m) s fun t => t.gddr = s.gddr ∧ SameFieldsBut pmcFields s t ∧ t.out = s.out ++ [.near p (cpl (Mem.bytes s.gddr off m.len))]) ∧
      (m.op = 2 → m.len = 0 → Does (.nearFlushRd p m) s fun t => t.gddr = s.gddr ∧ SameFieldsBut pmcFields s t ∧ t.out = s.out ++ [.near p (cpl [])]) ∧
      (m.op = 3 → swaps (.nearFadd p m) ((old + leAt m.data 0 8) % 2 ^ 64)) ∧
      (m.op = 4 → swaps (.nearCswap p m) (if old = leAt m.data 0 8 then leAt m.data 8 8 else old))) ∧
    (s.permitted ep.epid m.tenant = false → m.op = 1 → Does (.nearWr p m) s fun t => t.gddr = s.gddr ∧
      t.rd Reg.MAC_NEAR_DENIED_COUNT p = satAdd 64 (s.rd Reg.MAC_NEAR_DENIED_COUNT p) 1 ∧
      t.rd Reg.ADM_WIN_DENIED_COUNT 0 = satAdd 64 (s.rd Reg.ADM_WIN_DENIED_COUNT 0) 1)

/-- R60, R62, R66, R69, R82: the link layer: a PROTOCOL flit in sequence is taken, one whose FCRC is bad is counted and asked for again once; a
RETRY_REQ acknowledges and replays what follows; credits are added and send what waited for them; a flush that is answered ends its wait;
the lock sends idle flits; a port rests, is woken by a pattern, and drives its own pattern again. -/
def Obligations.NearLinkLayer : Prop :=
  ∀ (s : State) (p h d n ack c i : Nat) (f : Flit) (m x : NearMsg) (u v : Option User) (l1 l2 : List (Nat × NearMsg × Option User)) (k : Nat), p < 8 →
    let y := s.nearOf p
    (y.resting = false → y.waitP = [] → y.waitNp = [] →
      (f.fcrcOk = true → f.kind = 1 → f.msgs = [] → f.fseq % 4096 = (y.rxSeq + 1) % 4096 → s.on Reg.MAC_NEAR_STATUS_FLIT_LOCK p = true →
        y.replay = l1 ++ (f.ack % 4096, m, u) :: l2 → (∀ e ∈ l1, e.1 ≠ f.ack % 4096) → Does (.nearFlitReceive p f) s fun t =>
          t.nearOf p = { y with goodFlits := y.goodFlits + 1, wakes := 0, replay := l2, replays := 0, rxSeq := f.fseq % 4096, retryAsked := false } ∧
          t.out = s.out) ∧
      (f.fcrcOk = false → s.on Reg.MAC_NEAR_STATUS_FLIT_LOCK p = true → y.retryAsked = false → Does (.nearFlitReceive p f) s fun t =>
        t.rd Reg.MAC_NEAR_FCRC_ERR_COUNT p = satAdd 64 (s.rd Reg.MAC_NEAR_FCRC_ERR_COUNT p) 1 ∧ t.out = s.out ++ [.retryReq p] ∧
        t.nearOf p = { y with goodFlits := 0, retryAsked := true }) ∧
      (y.replay = l1 ++ (ack, m, u) :: (k, x, v) :: l2 → (∀ e ∈ l1, e.1 ≠ ack) → Does (.nearRetryReq p ack) s fun t =>
        (t.nearOf p).replay = (k, x, v) :: l2 ∧ (t.nearOf p).replays = 1 ∧ (t.nearOf p).replayHead = k ∧
        t.rd Reg.MAC_NEAR_REPLAY_COUNT p = satAdd 64 (s.rd Reg.MAC_NEAR_REPLAY_COUNT p) 1) ∧
      (s.on Reg.MAC_NEAR_STATUS_FLIT_LOCK p = true → Does (.nearCredit p h d n) s fun t =>
        t = s.setNear p { y with crdP := y.crdP + h, crdD := y.crdD + d, crdNp := y.crdNp + n })) ∧
    (s.on Reg.MAC_NEAR_STATUS_FLIT_LOCK p = true → y.waitP = [(m, u)] → y.waitNp = [] → m.op = 1 → 1 ≤ y.crdP + h → unitsOf m ≤ y.crdD + d →
      y.replay.length < 512 → y.resting = false → Does (.nearCredit p h d n) s fun t => t.out = s.out ++ [.near p m] ∧ (t.nearOf p).waitP = [] ∧
        (t.nearOf p).crdP = y.crdP + h - 1 ∧ (t.nearOf p).crdD = y.crdD + d - unitsOf m ∧ (t.nearOf p).replay = y.replay ++ [(y.txSeq, m, u)]) ∧
    (∀ r : NpReq, s.pathIsUp p = true → m.op = 5 → m.status = 0 → s.npOf p m.tag = some r → r.kind = .flush → r.user = .vis c i →
      (s.thrOf c i).wait = .none → Does (.nearCplReceive p m) s fun t => (t.nearOf p).np = dropFirst (·.tag == m.tag) y.np ∧
        (t.thrOf c i).flush = (s.thrOf c i).flush.filter (· ≠ (p, r.tag)) ∧ t.regs = s.regs ∧ t.gddr = s.gddr) ∧
    (s.on Reg.MAC_NEAR_STATUS_FEC_LOCK p = false → Does (.nearFecLock p) s fun t => t.rd Reg.MAC_NEAR_STATUS_FEC_LOCK p = 1 ∧
      t.out = s.out ++ [.idleFlits p] ∧ t.nearOf p = { y with goodFlits := 0 }) ∧
    (s.rd Reg.MAC_NEAR_STATUS_PATH_UP p = 1 → y.replay = [] → y.np = [] → Does (.nearPortRest p) s fun t =>
      t = s.setNear p { y with resting := true, wakes := 0 }) ∧
    (y.resting = true → s.rd Reg.PWR_STATUS_STATE 0 < 2 → y.waitP = [] → y.waitNp = [] → Does (.nearWakePattern p) s fun t =>
      t = s.setNear p { y with resting := false, wakes := 0 }) ∧
    (1 ≤ y.wakes → y.wakes ≤ 3 → Does (.nearWakeRetry p) s fun t => t.nearOf p = { y with wakes := y.wakes + 1 } ∧ t.out = s.out ++ [.wake p] ∧
      t.regs = s.regs)

/-- R56, R62, R69, R77, R79, R80: a CAPS of a new endpoint takes the lowest free slot and the credits it names, and is answered READY; one of
another profile is answered DOWN; the accelerator's READY brings the path up; each of the causes 1 to 5 takes it down, and with the
endpoint's last path its attachments become ABSENT; when the grace time ends the slot is free. -/
def Obligations.NearBringUp : Prop :=
  ∀ (s : State) (p tag e : Nat) (c : Caps), p < 8 →
    let y := s.nearOf p
    let alone (e : Nat) : Prop := ∀ q < 8, q ≠ p → s.rd Reg.MAC_NEAR_STATUS_ATTACH_VALID q = 1 → s.rd Reg.MAC_NEAR_STATUS_ATTACH q ≠ e
    let down (k : Instr) (cause : Nat) : Prop := Does k s fun t => t.rd Reg.MAC_NEAR_STATUS_PATH_UP p = 0 ∧ t.rd Reg.MAC_NEAR_STATUS_FLIT_LOCK p = 0 ∧
      t.rd Reg.MAC_NEAR_STATUS_DOWN_REASON p = 0x80 + cause ∧ t.rd Reg.MAC_NEAR_DOWN_COUNT p = (s.rd Reg.MAC_NEAR_DOWN_COUNT p + 1) % 2 ^ 64 ∧
      ∀ a ∈ s.attsAt y.slot, (t.attOf a).st = .absent
    (s.on Reg.MAC_NEAR_STATUS_FLIT_LOCK p = true → y.epid = none → y.capsSent = true →
      (c.profile = 1 → c.ptf = 1 → 40 ≤ c.paBits → c.paBits ≤ 56 → c.windowBase % 2 ^ 36 = 0 → c.windowBase < 2 ^ c.paBits → c.features % 8 = 7 →
        (∀ q < 8, (s.nearOf q).epid ≠ some c.ident) → (∀ k < 8, (s.epOf k).used = true → (s.epOf k).epid ≠ c.ident) → s.freeSlot = some e →
        alone e → s.rd Reg.MAC_NEAR_STATUS_ATTACH_VALID p = 0 → (s.epOf e).held = [] → Does (.nearCaps p c) s fun t =>
          t.epOf e = { used := true, epid := c.ident, incarnation := c.incarnation, windowBase := c.windowBase, paBits := c.paBits } ∧
          t.nearOf p = { txSeq := y.txSeq, rxSeq := y.rxSeq, malfAt := y.malfAt, crdP := c.pHdr, crdD := c.pData, crdNp := c.npHdr,
                         epid := some c.ident, slot := e, ready := true, capsSent := true } ∧
          t.rd Reg.MAC_NEAR_STATUS_ATTACH p = e ∧ t.rd Reg.MAC_NEAR_STATUS_ATTACH_VALID p = 1 ∧ t.out = s.out ++ [.near p { op := 0x10, opspec := 2 }]) ∧
      (c.profile ≠ 1 → Does (.nearCaps p c) s fun t => t.rd Reg.MAC_NEAR_STATUS_DOWN_REASON p = 1 ∧
        t.out = s.out ++ [.near p { op := 0x10, opspec := 3 + 256 }] ∧ t.eps = s.eps)) ∧
    (y.ready = true → s.on Reg.MAC_NEAR_STATUS_FLIT_LOCK p = true → s.on Reg.MAC_NEAR_STATUS_PATH_UP p = false → alone y.slot → y.waitP = [] →
      y.waitNp = [] → (s.epOf y.slot).held = [] → s.xlt.invals = [] → Does (.nearReady p) s fun t => t.rd Reg.MAC_NEAR_STATUS_PATH_UP p = 1 ∧
        (t.epOf y.slot).up = true ∧ (∀ a ∈ s.attsAt y.slot, (t.attOf a).st = .attached) ∧ t.out = s.out) ∧
    (s.on Reg.MAC_NEAR_STATUS_PATH_UP p = true → alone y.slot →
      down (.nearDown p) 5 ∧
      (8 ≤ y.replays → down (.nearReplayExhausted p) 3) ∧
      (y.resting = false → down (.nearFlitAbsenceTimeout p) 2 ∧ ((s.npOf p tag).isSome = true → down (.npCompletionTimeout p tag) 4) ∧
        (s.on Reg.MAC_NEAR_STATUS_FEC_LOCK p = true → down (.nearFecLossTimeout p) 1))) ∧
    (e < 8 → (s.epOf e).used = true → (s.epOf e).epid ≠ 0 → s.upPaths e = [] → Does (.endpointGraceExpire e) s fun t =>
      t.epOf e = {} ∧ ∀ b ∈ t.mgmt.mbx, b.2.epid ≠ (s.epOf e).epid)

/-- R89, R91, R93, R94: an INVAL marks every cached translation that it covers; when its uses have drained those are gone and INVAL_ACK goes out
with its sequence number; a table entry that names a table takes the walk one level down; the entry that another agent changed before A and
D were set begins the walk again, else the translation is installed. -/
def Obligations.TranslationWalks : Prop :=
  ∀ (s : State) (p n tag value pfn id : Nat) (m : NearMsg) (v : Inval) (w : Walk) (r : NpReq), s.pathIsUp p = true →
    let e := (s.nearOf p).slot
    (leAt m.data 0 8 = n → 12 ≤ n → n ≤ 57 → s.activeInvals e < 256 →
      (∀ q < 8, (s.nearOf q).unflushed = false ∧ ∀ x ∈ (s.nearOf q).np, x.kind ≠ .flush) → Does (.inval p m) s fun t =>
        let v' : Inval := { seq := m.opspec % 2 ^ 32, slot := e, path := p, tenant := m.tenant, ctx := m.ctx, base := m.addr, size := n,
                            wholeCtx := false, wholeTen := false }
        t.xlt.invals = s.xlt.invals ++ [v'] ∧ t.rd Reg.XLT_INV_SEQ_LAST_RCVD e = m.opspec % 2 ^ 32 ∧
        ∀ c, ∀ x ∈ t.tlbOf c, v'.covers x.tenant x.ctx (x.vpn * 2 ^ x.shift) x.shift = true → x.marked = true) ∧
    (s.xlt.invals = [v] → v.path = p → v.slot = e → v.seq < 2 ^ 32 → v.marked = true → v.drained = false → s.invalBusy e v.seq = false →
      p ∈ s.upPaths e → (s.nearOf p).waitP = [] → 1 ≤ (s.nearOf p).crdP → (s.nearOf p).replay.length < 512 → (s.nearOf p).resting = false →
      Does (.invalDrained e v.seq) s fun t => t.xlt.invals = [] ∧ t.rd Reg.XLT_INV_SEQ_LAST_ACKED e = v.seq ∧
        t.out = s.out ++ [.near p { op := 0x09, tenant := v.tenant, ctx := v.ctx, opspec := v.seq }] ∧
        ∀ c, ∀ x ∈ t.tlbOf c, v.covers x.tenant x.ctx (x.vpn * 2 ^ x.shift) x.shift = true → x.marked = false) ∧
    (s.npOf p tag = some r → r.user = .walk id → s.walkOf id = some w → w.restart = false → value < 2 ^ 64 →
      (r.kind = .table → pteCheck w.tenant w.level (s.epOf w.att).paBits value = .table pfn → Does (.walkReadDone p tag 0 value) s fun t =>
        t.walkOf id = some { w with level := w.level - 1, table := pfn, wOk := w.wOk && bit value 1 }) ∧
      (r.kind = .adUpdate →
        (∀ d, s.descOf w.tenant w.ctx = some d → r.msg.data.take 8 ≠ leBytes 8 value → Does (.adUpdateDone p tag 0 value) s fun t =>
          t.walkOf id = some { w with level := 5, table := s.rd Reg.XLT_CTX_DESC0_ROOT_PFN d, wOk := true, leaf := none, restart := false }) ∧
        (∀ shift pte, r.msg.data.take 8 = leBytes 8 value → w.leaf = some (shift, pte) → s.xlt.walks = [w] → w.waiters = [] → w.fault = none →
          s.tlbOf w.cluster = [] → Does (.adUpdateDone p tag 0 value) s fun t => t.xlt.walks = [] ∧
            t.tlbOf w.cluster = [{ tenant := w.tenant, ctx := w.ctx, shift := shift, vpn := w.va / 2 ^ shift, pfn := bits pte 12 44, w := w.wOk,
                                   d := bit pte 4, att := w.att }])))

/-- R99, R101, R102: PAGE_RESP with RETRY puts its record in RETRY_WAIT and SERVED starts its re-walk; one for a free record is counted as
stray; after the wait PAGE_REQ goes out again on the lowest path; the stall of a local waiter parks it; the page timer expires during a
re-walk, and else ends the record. -/
def Obligations.OnDemandPaging : Prop :=
  ∀ (s : State) (p q ten i k : Nat) (m : NearMsg) (w : Waiter) (rest : List Nat), i < 256 →
    let f := s.faultOf ten i
    (s.pathIsUp p = true → m.tenant = ten → m.opspec % 256 = i → m.status < 3 →
      (f.st = .free → Does (.pageResp p m) s (Writes [(Reg.XLT_STRAY_RESP_COUNT, 0, (s.rd Reg.XLT_STRAY_RESP_COUNT 0 + 1) % 2 ^ 32)] s)) ∧
      (f.st = .open → f.att = (s.nearOf p).slot →
        (m.status = 2 → f.attempts < s.retryMax → Does (.pageResp p m) s fun t => t = s.setFault ten i { f with st := .retryWait }) ∧
        (m.status = 0 → Does (.pageResp p m) s fun t => t.faultOf ten i = { f with st := .rewalk, waiters := [] }))) ∧
    (f.st = .retryWait → f.attempts < s.retryMax → s.upPaths f.att = q :: rest → (s.nearOf q).waitP = [] → 1 ≤ (s.nearOf q).crdP →
      (s.nearOf q).replay.length < 512 → (s.nearOf q).resting = false → Does (.pageRetryWaitExpire ten i) s fun t =>
        t.faultOf ten i = { f with st := .open, attempts := f.attempts + 1, acc := strongestOf f.waiters } ∧
        t.out = s.out ++ [.near q { op := 0x0A, tenant := ten, ctx := f.ctx, addr := f.page * 4096, opspec := i + 256 * accCode (strongestOf f.waiters) }]) ∧
    (f.st ≠ .free → f.waiters[k]? = some w → w.remote = false → Does (.faultStallExpire ten i k) s fun t =>
      t.faultOf ten i = { f with waiters := f.waiters.set k { w with parked := true } }) ∧
    (f.st = .rewalk → Does (.pageTimerExpire ten i) s fun t => t = s.setFault ten i { f with expired := true }) ∧
    (f.st = .open → f.waiters = [] → s.xlt.queued = [] → Does (.pageTimerExpire ten i) s fun t => t.faultOf ten i = {} ∧
      t.rd Reg.XLT_FQ_STATUS_OPEN ten = (s.rd Reg.XLT_FQ_STATUS_OPEN ten - 1) % 2 ^ 9)

/-! Submission and completion rings, and legacy queue pairs. -/

/-- R109, R115, R116, R117, R119: the submission side: a doorbell reads the index block, the tail that comes with it asks for the slots from the head
on, an entry taken whole moves the head, which is written back when the tail is reached; a wait or a return of capacity reads again; a
failed read ends the queue pair in ERROR with a completion. A doorbell that is off is counted. -/
def Obligations.SubmissionFetch : Prop :=
  ∀ (s : State) (q v t code detail addr : Nat) (b : List Byte), s.qpValid q = true → s.legacy q = false →
    let x := s.sqOf q
    let h := s.rd Reg.QP_HEAD_HEAD q
    let cq := s.rd Reg.QP_DESC0_CQ q
    let reads (k : Instr) : Prop := Does k s fun t => (t.sqOf q).phase = .index ∧ t.out = s.out ++ [.indexRead q] ∧ (t.sqOf q).ops = x.ops ∧
      t.rd Reg.QP_HEAD_HEAD q = h
    (s.bellOff q = true → Does (.qpDoorbell q v) s fun t => t = s.wr Reg.QP_DB_DISCARD_COUNT 0 (s.rd Reg.QP_DB_DISCARD_COUNT 0 + 1)) ∧
    (s.mayFetch = true → s.frozen (s.qpTenant q) = false →
      (x.phase = .none → s.bellOff q = false → reads (.qpDoorbell q v)) ∧
      (x.phase = .none → x.held = true → s.capacity q {} = true → reads (.sqAcceptResume q)) ∧
      (x.phase = .wait → reads (.refetchWaitExpire q)) ∧
      (x.phase = .index → d32 (t % 2 ^ 32) h ≤ s.ringSize q → Does (.sqIndexReadDone q t) s fun u => u.rd Reg.QP_HEAD_TAIL_SEEN q = t % 2 ^ 32 ∧
        (u.sqOf q).phase = .slots ∧ u.out = s.out ++ [.slotsRead q h (min (d32 (t % 2 ^ 32) h + 16) (s.ringSize q))]) ∧
      (x.phase = .slots → slotsOf b = 1 → s.rd Reg.QP_HEAD_TAIL_SEEN q = (h + 1) % 2 ^ 32 → h < 2 ^ 32 →
        phasesOk (s.rd Reg.QP_DESC0_LOG2_SIZE q) h [b] = true → s.capacity q (parseEntry [b]) = true → s.entryBad q (parseEntry [b]) = none →
        1 ≤ (parseEntry [b]).opcode → (parseEntry [b]).opcode ≤ 7 → x.headWritten = h → x.bell = false → x.again = false →
        Does (.sqSlotsReadDone q [b]) s fun u => u.rd Reg.QP_HEAD_HEAD q = (h + 1) % 2 ^ 32 ∧ (u.sqOf q).headWritten = (h + 1) % 2 ^ 32 ∧
          (u.sqOf q).ops = x.ops ++ [{ serial := x.serial, sqe := { parseEntry [b] with pos := h } }] ∧ u.sched q = Sched.idle ∧
          (u.sqOf q).phase = .none ∧ u.out = s.out ++ [.sqHead q ((h + 1) % 2 ^ 32)])) ∧
    (x.headWritten ≠ h → Does (.sqHeadWriteback q) s fun t => t = { s.setSq q { x with headWritten := h } with out := s.out ++ [.sqHead q h] }) ∧
    ((x.phase = .index ∨ x.phase = .slots) → code ∈ [Code.accessViolation, Code.pageTimeout, Code.hostDataError] → s.cst q = Cst.reset → x.ops = [] →
      s.pels = [] → s.rd Reg.CQ_DESC0_BROKEN cq = 0 → (s.cqOf cq).fenced = false → Does (.sqFetchFailed q code detail addr) s fun t =>
        t.cst q = Cst.error ∧ t.sched q = Sched.error ∧ t.rd Reg.TRN_QP_T5_ERR_SYNDROME q = code ∧
        ∃ e, (t.cqOf cq).waiting = (s.cqOf cq).waiting ++ [e] ∧ e.qp = q ∧ e.status = code ∧ e.tag = 0)

/-- R109 to R113, R118, R175, R305: an entry at the head whose slots are current, where there is capacity: the head passes its slots, and it
becomes an operation with what the entry says, counted as outstanding; a NOP on a connected queue pair completes; a receive is posted; a
COLLECTIVE is handed to its peloton; one that breaks its form completes with BAD_ENTRY and puts the queue pair in ERROR. -/
def Obligations.SubmissionEntries : Prop :=
  ∀ (s : State) (q o : Nat) (slots : List (List Byte)),
    let x := s.sqOf q
    let h := s.rd Reg.QP_HEAD_HEAD q
    let cq := s.rd Reg.QP_DESC0_CQ q
    let n (o : Nat) := slotsOf ((setOpcode o slots).headD [])
    let e (o : Nat) := parseEntry ((setOpcode o slots).take (n o))
    let new (o : Nat) : Op := { serial := x.serial, sqe := { e o with pos := h } }
    let ready (o : Nat) : Prop := slots ≠ [] ∧ n o ≤ slots.length ∧ n o ≤ (s.rd Reg.QP_HEAD_TAIL_SEEN q + 16 + 2 ^ 32 - h) % 2 ^ 32 ∧
      phasesOk (s.rd Reg.QP_DESC0_LOG2_SIZE q) h ((setOpcode o slots).take (n o)) = true ∧ s.capacity q (e o) = true
    let taken (k : Instr) (o : Nat) (P : State → Prop) : Prop := ready o → Does k s fun t => t.rd Reg.QP_HEAD_HEAD q = (h + n o) % 2 ^ 32 ∧ P t
    let queued (k : Instr) (o : Nat) : Prop := s.entryBad q (e o) = none → taken k o fun t => (t.sqOf q).ops = x.ops ++ [new o] ∧
      t.rd Reg.QP_OUT_COUNT q = (s.rd Reg.QP_OUT_COUNT q + 1) % 2 ^ Reg.QP_OUT_COUNT.w
    let broken (k : Instr) (o : Nat) : Prop := s.cst q = Cst.reset → x.ops = [] → s.pels = [] → s.rd Reg.CQ_DESC0_BROKEN cq = 0 →
      (s.cqOf cq).fenced = false → taken k o fun t => t.cst q = Cst.error ∧ t.rd Reg.TRN_QP_T5_ERR_SYNDROME q = Code.badEntry ∧
        ∃ y, (t.cqOf cq).waiting = (s.cqOf cq).waiting ++ [y] ∧ y.qp = q ∧ y.status = Code.badEntry ∧ y.tag = (e o).tag
    x.phase = .slots → s.legacy q = false → s.frozen (s.qpTenant q) = false → h < 2 ^ 32 →
    (queued (.sqeSend q slots) 1 ∧ queued (.sqeWrite q slots) 2 ∧ queued (.sqeWriteImm q slots) 3 ∧ queued (.sqeRead q slots) 4 ∧
      queued (.sqeFetchAdd q slots) 5 ∧ queued (.sqeCompareSwap q slots) 6 ∧ queued (.sqeReduceWrite q slots) 7) ∧
    (s.entryBad q (e 0) = none → s.cst q = Cst.connected → x.ops = [] → s.rd Reg.CQ_DESC0_BROKEN cq = 0 → (s.cqOf cq).fenced = false →
      taken (.sqeNop q slots) 0 fun t => ∃ y, (t.cqOf cq).waiting = (s.cqOf cq).waiting ++ [y] ∧ y.qp = q ∧ y.status = Code.success ∧ y.tag = (e 0).tag ∧
        y.serial = some x.serial) ∧
    (s.entryBad q (e 0x10) = none → taken (.sqePostRecv q slots) 0x10 fun t => (t.sqOf q).ops = x.ops ++ [new 0x10] ∧
      (t.connOf q).recvs = (s.connOf q).recvs ++ [{ ssn := s.rd Reg.TRN_QP_T4_RECV_POSTED q, serial := x.serial, tag := (e 0x10).tag,
                                                     laddr := (e 0x10).laddr, len := (e 0x10).len, localWin := (e 0x10).localWin }] ∧
      t.rd Reg.QP_OUT_COUNT q = s.rd Reg.QP_OUT_COUNT q) ∧
    (∀ p c, p = colPel false (e 8) → c = colFields false q x.serial { e 8 with pos := h } → s.entryBad q (e 8) = none → (s.pelOf p).st = .ready →
      (s.pelOf p).op = none → c.launchAt = 0 → taken (.sqeCollective q slots) 8 fun t =>
        t.pelOf p = { s.pelOf p with op := some c, st := .armed } ∧ (t.sqOf q).ops = x.ops ++ [new 8]) ∧
    broken (.sqeContOutsideChain q slots) 0x1F ∧ (nativeOpcode (o % 256) = false → broken (.sqeReservedOpcode q o slots) o)

/-- R76, R117, R120 to R126, R488: completion rings: a doorbell or a poll reads the head; arming arms and reads it; a head that leaves entries not
yet notified notifies at once; the oldest completion goes out as one 32-byte write at the next position, or begins a full episode; a
failure breaks the ring. An admin doorbell reads the submission ring; the head of the completion ring lets what waits be written.
R137 to R144: legacy queue pairs: a doorbell with a tail ahead of the head asks for the entries between; an entry with OWN moves the head by one
modulo twice the ring and becomes an operation; a NOP is done at once; a bad entry is done with BAD_ENTRY and puts the queue pair in ERROR;
the oldest operation, done, is written back at its place and released. -/
def Obligations.CompletionAndLegacyRings : Prop :=
  (∀ (s : State) (cq h pa p code addr ten : Nat) (e : Cqe) (rest : List Cqe) (a : AdmEnt),
      let c := s.cqOf cq
      let pos := s.rd Reg.CQ_POS_WRITTEN cq
      let b := cqeBytes e p (s.rd Reg.QP_HEAD_HEAD e.qp) (s.rd Reg.CQ_DESC0_LOG2_SIZE cq) pos
      let m : NearMsg := { op := 1, len := 32, tenant := s.rd Reg.CQ_DESC0_TENANT cq, ctx := s.rd Reg.CQ_DESC0_CONTEXT cq, addr := pa, data := b }
      (s.rd Reg.CQ_DESC0_VALID cq = 1 → s.rd Reg.CQ_DESC0_BROKEN cq = 0 → c.fenced = false →
        (Does (.cqDoorbell cq) s fun t => t = { s with out := s.out ++ [.cqHeadRead cq] }) ∧
        (s.rd Reg.CQ_PEND_FULL cq = 1 → Does (.cqHeadPoll cq) s fun t => t = { s with out := s.out ++ [.cqHeadRead cq] }) ∧
        (s.rd Reg.CQ_DESC3_NOTIFY_ADDR cq ≠ 0 → Does (.cqArm cq 1) s fun t => t.rd Reg.CQ_DESC0_ARMED cq = 1 ∧ (t.cqOf cq).armRead = true ∧
          t.out = s.out ++ [.cqHeadRead cq]) ∧
        (c.armRead = false → Does (.cqHeadReadDone cq h) s (Writes [(Reg.CQ_POS_HEAD_SEEN, cq, h % 2 ^ 32)] s)) ∧
        (c.armRead = true → s.rd Reg.CQ_DESC0_ARMED cq = 1 → d32 pos h ≠ 0 → d32 pos c.notified ≠ 0 → Does (.cqHeadReadDone cq h) s fun t =>
          t.rd Reg.CQ_POS_HEAD_SEEN cq = h % 2 ^ 32 ∧ t.rd Reg.CQ_DESC0_ARMED cq = 0 ∧ t.out = s.out ++ [.notify cq pos]) ∧
        (code ∈ [Code.accessViolation, Code.pageTimeout, Code.hostDataError] → c.waiting = [] → (∀ q ∈ s.qpList, s.rd Reg.QP_DESC0_CQ q ≠ cq) →
          Does (.cqBroken cq code addr) s fun t => t.rd Reg.CQ_DESC0_BROKEN cq = 1 ∧ t.rd Reg.CQ_PEND_FULL cq = 0) ∧
        (c.waiting = e :: rest → e.wait = [] →
          (s.cqRoom cq = true → (s.sqOf e.qp).headWritten = s.rd Reg.QP_HEAD_HEAD e.qp → e.msn = none → s.rd Reg.CQ_DESC0_ARMED cq = 0 →
            s.pathFor (s.rd Reg.CQ_DESC0_ATTACH cq) pa = some p → (s.nearOf p).waitP = [] → 1 ≤ (s.nearOf p).crdP → 1 ≤ (s.nearOf p).crdD →
            (s.nearOf p).replay.length < 512 → (s.nearOf p).resting = false → Does (.cqeWrite cq pa) s fun t => t.out = s.out ++ [.near p m] ∧
              t.rd Reg.CQ_POS_WRITTEN cq = (pos + 1) % 2 ^ 32 ∧ (t.cqOf cq).waiting = rest ∧
              (∀ k, e.serial = some k → (t.sqOf e.qp).ops = dropFirst (·.serial == k) (s.sqOf e.qp).ops)) ∧
          (s.cqRoom cq = false → s.rd Reg.CQ_PEND_FULL cq = 0 → Does (.cqeWrite cq pa) s fun t => t.rd Reg.CQ_PEND_FULL cq = 1 ∧
            t.rd Reg.CQ_PEND_FULL_EVENTS cq = (s.rd Reg.CQ_PEND_FULL_EVENTS cq + 1) % 2 ^ Reg.CQ_PEND_FULL_EVENTS.w ∧ t.cqs = s.cqs))) ∧
      (s.rd Reg.ADM_DESC0_BOUND ten = 1 →
        (Does (.admSqDoorbell ten) s fun t => t = { s with out := s.out ++ [.admRead ten] }) ∧
        ((s.admOf ten).held = [a] → a.event = false → (s.admOf ten).lost = 0 →
          ((s.admOf ten).written + 2 ^ 32 - h % 2 ^ 32) % 2 ^ 32 < 2 ^ s.rd Reg.ADM_DESC0_CQ_LOG2 ten → Does (.admCqDoorbell ten h) s fun t =>
            t.out = s.out ++ [.adm ten (s.admOf ten).written a] ∧ (t.admOf ten).held = [] ∧ (t.admOf ten).headSeen = h % 2 ^ 32 ∧
            (t.admOf ten).written = ((s.admOf ten).written + 1) % 2 ^ 32))) ∧
  (∀ (s : State) (q v : Nat) (b : List Byte) (a : Op) (rest : List Op), s.legacy q = true → b ≠ [] →
      let x := s.sqOf q
      let h := s.rd Reg.QP_HEAD_HEAD q
      let m := 2 * s.ringSize q
      let e (o : Nat) := parseLegacy ((setOpcode o [b]).headD [])
      let new (o : Nat) : Op := { serial := x.serial, sqe := { e o with pos := h } }
      let ready (o : Nat) : Prop := x.phase = .slots ∧ s.frozen (s.qpTenant q) = false ∧ s.legacyLeft q ≠ 0 ∧ legacyOwn ((setOpcode o [b]).headD []) = true ∧
        s.capacity q (e o) = true
      let taken (k : Instr) (o : Nat) (P : State → Prop) : Prop := ready o → Does k s fun t => t.rd Reg.QP_HEAD_HEAD q = (h + 1) % m % 2 ^ 32 ∧ P t
      let queued (k : Instr) (o : Nat) : Prop := s.entryBad q (e o) = none → taken k o fun t => (t.sqOf q).ops = x.ops ++ [new o]
      (queued (.legacySend q b) 1 ∧ queued (.legacyWrite q b) 2 ∧ queued (.legacyWriteImm q b) 3 ∧ queued (.legacyRead q b) 4 ∧
        queued (.legacyFetchAdd q b) 5) ∧
      (s.entryBad q (e 0) = none → s.cst q = Cst.connected → x.ops = [] → taken (.legacyNop q b) 0 fun t =>
        (t.sqOf q).ops = [{ new 0 with st := .done, status := Code.success }]) ∧
      (s.entryBad q (e 0x10) = none → taken (.legacyPostRecv q b) 0x10 fun t => (t.sqOf q).ops = x.ops ++ [new 0x10] ∧
        (t.connOf q).recvs = (s.connOf q).recvs ++ [{ ssn := s.rd Reg.TRN_QP_T4_RECV_POSTED q, serial := x.serial, tag := 0,
                                                       laddr := (e 0x10).laddr, len := (e 0x10).len }]) ∧
      (∀ p c, p = colPel true (e 8) → c = colFields true q x.serial { e 8 with pos := h } → s.entryBad q (e 8) = none → (s.pelOf p).st = .ready →
        (s.pelOf p).op = none → taken (.legacyCollective q b) 8 fun t => t.pelOf p = { s.pelOf p with op := some c, st := .armed }) ∧
      ((s.entryBad q (parseLegacy b)).isSome = true → s.cst q = Cst.reset → x.ops = [] → s.pels = [] → taken (.legacyBadEntry q b) (byteAt b 0) fun t =>
        t.cst q = Cst.error ∧ ∃ y, (t.sqOf q).ops = [y] ∧ y.st = .done ∧ y.status = Code.badEntry) ∧
      (s.qpValid q = true → s.bellOff q = false → s.frozen (s.qpTenant q) = false → s.mayFetch = true → x.phase = .none → v < m → v < 2 ^ 32 →
        (v + m - h) % m ≤ s.ringSize q → s.legacyLeft q ≤ (v + m - h) % m → (v + m - h) % m ≠ 0 → Does (.legacyDoorbell q v false) s fun t =>
          t.rd Reg.QP_HEAD_TAIL_SEEN q = v ∧ (t.sqOf q).phase = .slots ∧ t.sched q = Sched.fetch ∧ t.out = s.out ++ [.slotsRead q h ((v + m - h) % m)]) ∧
      (1 ≤ (parseLegacy b).opcode → (parseLegacy b).opcode ≤ 5 → x.phase = .slots → s.frozen (s.qpTenant q) = false → s.legacyLeft q = 1 →
        legacyOwn b = true → s.capacity q (parseLegacy b) = true → s.entryBad q (parseLegacy b) = none → h < m → m ≤ 2 ^ 32 → x.bell = false →
        x.again = false → Does (.legacySlotsReadDone q [b]) s fun t => t.rd Reg.QP_HEAD_HEAD q = (h + 1) % m ∧
          (t.sqOf q).ops = x.ops ++ [{ serial := x.serial, sqe := { parseLegacy b with pos := h } }] ∧ t.sched q = Sched.idle ∧ (t.sqOf q).phase = .none) ∧
      (x.ops = a :: rest → a.st = .done → s.sched q ≠ Sched.fenced → x.wbFlush = none → a.paths = 0 → (s.connOf q).recs = [] →
        Does (.legacyWriteback q) s fun t => t.out = s.out ++ [.writeBack q a.sqe.pos (legacyBytes a (legacyImm a))] ∧ (t.sqOf q).ops = rest))

/-! Admin commands. -/

/-- R125, R127, R128, R129, R136, R159: the admin commands of rings, queue pairs and connections: what each makes, changes or ends, and how it
completes; a CMD of no command completes with INVALID_COMMAND. -/
def Obligations.QueuePairCommands : Prop :=
  ∀ (s : State) (t q n c slot ctx cq : Nat) (e : List Byte) (o : Origin), t < 1024 →
    let z : State → Nat := fun _ => 0
    let x (cmd : Nat) := withByte 0 cmd e
    let y (act : Nat) := withByte 10 act (withByte 0 5 e)
    let mine (q : Nat) : Prop := s.ownsQp t q = true ∧ s.isLink q = false
    (byteAt e 0 = 0 ∨ (0x0F < byteAt e 0 ∧ byteAt e 0 < 0x40) → Completes (.adminUnknownCmd t e) s t e Code.invalidCommand z z fun u =>
      u.gddr = s.gddr ∧ u.sqs = s.sqs ∧ u.cqs = s.cqs) ∧
    (leAt (x 1) 32 2 = ctx → addrOk (leAt (x 1) 8 8) 4096 = true → addrOk (leAt (x 1) 16 8) 64 = true → addrOk (leAt (x 1) 24 8) 8 = true →
      6 ≤ byteAt (x 1) 34 → byteAt (x 1) 34 ≤ 16 → s.ctxSlot t ctx = some slot → s.pickCq t = some n →
      Completes (.createCq t e) s t (x 1) 0 (fun _ => n) z fun u => u.rd Reg.CQ_DESC0_VALID n = 1 ∧ u.rd Reg.CQ_DESC0_TENANT n = t ∧
        u.rd Reg.CQ_DESC0_CONTEXT n = ctx ∧ u.rd Reg.CQ_DESC0_LOG2_SIZE n = byteAt (x 1) 34 ∧ u.rd Reg.CQ_POS_WRITTEN n = 0 ∧ u.cqOf n = {} ∧
        u.rd Reg.CQ_DESC1_RING_ADDR n = leAt (x 1) 8 8 / 4096 % 2 ^ 45) ∧
    (leAt (x 2) 8 2 = cq → s.ownsCq t cq = true → (∀ q ∈ s.qpList, s.rd Reg.QP_DESC0_CQ q ≠ cq) → (s.cqOf cq).waiting = [] →
      Completes (.destroyCq t e) s t (x 2) 0 z z fun u => u.rd Reg.CQ_DESC0_VALID cq = 0 ∧ u.cqOf cq = {}) ∧
    (s.pickQps t 1 = some q → s.chooseCluster = some c → s.ctxSlot t ctx = some slot →
      (leAt (x 3) 24 2 = ctx → leAt (x 3) 26 2 = cq → addrOk (leAt (x 3) 8 8) 4096 = true → addrOk (leAt (x 3) 16 8) 64 = true → 6 ≤ byteAt (x 3) 28 →
        byteAt (x 3) 28 ≤ 16 → byteAt (x 3) 29 ≤ 15 → 1 ≤ leAt (x 3) 30 2 → leAt (x 3) 30 2 ≤ 1024 → s.ownsCq t cq = true → cq < 4096 →
        Completes (.createQp t e) s t (x 3) 0 (fun _ => q) z fun u => u.rd Reg.QP_DESC0_VALID q = 1 ∧ u.rd Reg.QP_DESC0_TENANT q = t ∧
          u.rd Reg.QP_DESC0_CONTEXT q = ctx ∧ u.rd Reg.QP_DESC0_CQ q = cq ∧ u.rd Reg.QP_DESC0_LEGACY q = 0 ∧ u.rd Reg.QP_HEAD_HEAD q = 0 ∧
          u.cst q = Cst.reset ∧ u.rd Reg.QP_DESC3_MAX_OUTSTANDING q = leAt (x 3) 30 2 ∧ u.sqOf q = {}) ∧
      (t < 64 → leAt (x 7) 24 2 = ctx → addrOk (leAt (x 7) 8 8) 4096 = true → 6 ≤ byteAt (x 7) 28 → byteAt (x 7) 28 ≤ 12 → byteAt (x 7) 29 ≤ 15 →
        1 ≤ leAt (x 7) 30 2 → leAt (x 7) 30 2 ≤ min 1024 (2 ^ byteAt (x 7) 28) → s.legacyCount (fun _ => true) < 128 →
        s.legacyCount (fun q => s.qpTenant q == t) < s.rd Reg.TEN_SLICE5_LEGACY t →
        Completes (.createLegacyQp t e) s t (x 7) 0 (fun _ => q) z fun u => u.rd Reg.QP_DESC0_VALID q = 1 ∧ u.rd Reg.QP_DESC0_TENANT q = t ∧
          u.rd Reg.QP_DESC0_LEGACY q = 1 ∧ u.rd Reg.QP_HEAD_HEAD q = 0 ∧ u.cst q = Cst.reset)) ∧
    (leAt (x 4) 8 2 = q → mine q → (s.sqOf q).ops = [] → s.pels = [] → Waits (.destroyQp t e) s t fun u =>
      (u.sqOf q).destroying = some (originOf t none (x 4), 0) ∧ (u.sqOf q).phase = .none) ∧
    ((s.sqOf q).destroying = some (o, n) → s.cqesLeft q = false → o.cmd < 0x40 → Ends (.destroyQpDone q) s o n fun u =>
      u.rd Reg.QP_DESC0_VALID q = 0 ∧ u.sqOf q = {} ∧ u.connOf q = {}) ∧
    (leAt (y 0) 8 2 = q → mine q → s.cst q = Cst.error → s.cqesLeft q = false → s.legacy q = false → Completes (.modifyQpReset t e) s t (y 0) 0 z z fun u =>
      u.cst q = Cst.reset ∧ u.sched q = Sched.idle ∧ u.rd Reg.QP_HEAD_HEAD q = leAt (y 0) 32 4 ∧ (u.connOf q).seen = [] ∧
      (u.connOf q).lastEpoch = (s.connOf q).lastEpoch) ∧
    (leAt (y 2) 8 2 = q → mine q → s.cst q = Cst.reset → s.peerOk q (peerAt (y 2)) = true → (s.connOf q).lastEpoch ≠ some (byteAt (y 2) 11) →
      byteAt (y 2) 40 ≤ 3 → byteAt (y 2) 42 % 16 ≠ 0 → s.cipReady q = true → (s.sqOf q).ops = [] → Completes (.modifyQpConnect t e) s t (y 2) 0 z z fun u =>
        u.cst q = Cst.connected ∧ u.rd Reg.TRN_QP_T0_EPOCH q = byteAt (y 2) 11 ∧ u.rd Reg.TRN_QP_T1_SND_NXT q = leAt (y 2) 32 4 ∧
        u.rd Reg.TRN_QP_T2_RCV_BASE q = leAt (y 2) 36 4 ∧ u.rd Reg.TRN_QP_T4_MSN_NEXT q = 0 ∧
        u.rd Reg.TRN_QP_T0_PEER_MODULE q = (peerAt (y 2)).module) ∧
    (s.cst q = Cst.connected →
      (leAt (y 3) 8 2 = q → mine q → s.peerOk q (peerAt (y 3)) = true → Completes (.modifyQpRepath t e) s t (y 3) 0 z z fun u => u.cst q = Cst.connected ∧
        u.rd Reg.TRN_QP_T0_PEER_MODULE q = (peerAt (y 3)).module ∧ ∀ v ∈ (u.connOf q).sent, v.resend = true ∧ v.sends = 1) ∧
      (leAt (y 4) 8 2 = q → mine q → (s.sqOf q).ops = [] → s.pels = [] → AdmOpen s t → (s.admOf t).busy = false → Does (.modifyQpSetError t e) s fun u =>
        u.cst q = Cst.error ∧ u.sched q = Sched.error ∧ u.rd Reg.TRN_QP_T5_ERR_SYNDROME q = s.free 8)) ∧
    (leAt (x 6) 8 2 = q → s.ownsQp t q = true → Completes (.queryQp t e) s t (x 6) 0
      (fun _ => s.rd Reg.QP_HEAD_HEAD q + 2 ^ 32 * s.rd Reg.QP_OUT_COUNT q + 2 ^ 48 * s.sched q) (fun _ => s.rd Reg.QP_EARLY_DB_COUNT_COUNT q)
      fun u => u.sqs = s.sqs ∧ u.conns = s.conns)

/-- R129, R179, R181, R298, R302, R323, R331, R332: the admin commands of contexts, regions, pelotons and extents: a context takes a descriptor, a
region a key; their removal takes effect at once and completes when what is under way has drained; RESERVE loads the code and takes the
link queue pairs, BIND makes the peloton READY, DESTROY frees it; an extent is bound where units are free, or a KEPT one is claimed with its
bytes; freeing one makes every byte of it read as 0, and its number is free when the wipe ends. -/
def Obligations.ObjectCommands : Prop :=
  ∀ (s : State) (t d i p q c a n k u slot ctx pa base len rights : Nat) (e : List Byte) (x : AdmX) (o : Origin), t < 1024 →
    let z : State → Nat := fun _ => 0
    let w (cmd : Nat) := withByte 0 cmd e
    let pick (lo total quota : Nat) (valid ten : Fld) : Option Nat := s.pickIndex t lo total quota valid ten (fun n => s.on valid n)
    (s.ten.jobs = [] →
      (leAt (w 8) 8 2 = ctx → byteAt (w 8) 10 = slot → leAt (w 8) 16 8 = pa → slot ≤ 7 → pa % 4096 = 0 → pa < 2 ^ 56 → s.attLive t slot = true →
        s.descOf t ctx = none → pick 0 16384 (s.rd Reg.TEN_SLICE3_CONTEXTS t) Reg.XLT_CTX_DESC0_VALID Reg.XLT_CTX_DESC1_TENANT = some d →
        Completes (.registerContext t e) s t (w 8) 0 (fun _ => d) z fun v => v.rd Reg.XLT_CTX_DESC0_VALID d = 1 ∧ v.rd Reg.XLT_CTX_DESC0_ENDPOINT d = slot ∧
          v.rd Reg.XLT_CTX_DESC0_ROOT_PFN d = pa / 4096 ∧ v.rd Reg.XLT_CTX_DESC1_TENANT d = t ∧ v.rd Reg.XLT_CTX_DESC1_CONTEXT d = ctx) ∧
      (leAt (w 0xA) 8 8 = base → leAt (w 0xA) 16 8 = len → leAt (w 0xA) 24 2 = ctx → byteAt (w 0xA) 26 = rights → leAt (w 0xA) 28 2 = 0xFFFF →
        1 ≤ len → len ≤ 2 ^ 46 → canonical base = true → (s.descOf t ctx).isSome = true →
        pick 1 131072 (s.rd Reg.TEN_SLICE2_REGIONS t) Reg.TRN_REG_D0_VALID Reg.TRN_REG_D0_TENANT = some i →
        Completes (.registerRegion t e) s t (w 0xA) 0 (fun v => v.regKey i) z fun v => v.rd Reg.TRN_REG_D0_VALID i = 1 ∧ v.rd Reg.TRN_REG_D0_REVOKED i = 0 ∧
          v.rd Reg.TRN_REG_D1_BASE i = base ∧ v.rd Reg.TRN_REG_D2_LENGTH i = len ∧ v.rd Reg.TRN_REG_D0_RIGHTS i = rights % 2 ^ 5 ∧
          v.rd Reg.TRN_REG_D0_TENANT i = t ∧ v.rd Reg.TRN_REG_D2_QP_BIND_EN i = 0)) ∧
    (leAt (w 9) 8 2 = ctx → s.descOf t ctx = some d → s.ctxUsed t ctx = false → Waits (.unregisterContext t e) s t fun v =>
      v.rd Reg.XLT_CTX_DESC0_VALID d = 0 ∧ v.ten.jobs = s.ten.jobs ++ [.unreg (originOf t none (w 9)) d]) ∧
    (leAt (w 0xB) 8 4 = s.regKey i → i < 2 ^ 17 → i ≠ 0 → s.rd Reg.TRN_REG_D0_GENERATION i < 2 ^ 15 → s.rd Reg.TRN_REG_D0_VALID i = 1 →
      s.rd Reg.TRN_REG_D0_TENANT i = t → Waits (.deregisterRegion t e) s t fun v =>
        v.rd Reg.TRN_REG_D0_VALID i = 0 ∧ v.ten.jobs = s.ten.jobs ++ [.dereg (originOf t none (w 0xB)) i]) ∧
    (o.slot = t → o.cmd < 0x40 →
      (s.ten.jobs = [.dereg o i] → Ends (.deregisterRegionDone t) s o 0 fun v => v.ten.jobs = []) ∧
      (s.ten.jobs = [.unreg o d] → Ends (.unregisterContextDone t) s o 0 fun v => v.ten.jobs = [] ∧ v.rd Reg.XLT_CTX_DESC0_VALID d = 0)) ∧
    (let y := withByte 8 0 (w 0xC);
      imgOk x.mem (leAt y 24 4) = true → s.ctxSlot t (leAt y 10 2) = some slot → (s.pels.any fun v => v.2.st != .free && v.2.group == leAt y 12 4) = false →
      s.pickPel t = some p → leAt x.mem 16 2 = n → s.pickQps t n = some q → s.chooseCluster = some c → s.codePlace c (leAt x.mem 8 4 / 4) = some a → 64 + leAt x.mem 8 4 ≤ x.mem.length →
      Completes (.createPelotonReserve t e x) s t y 0 (fun _ => p + 2 ^ 12 * c + 2 ^ 16 * q + 2 ^ 32 * n) z fun v =>
        (v.pelOf p).st = .reserved ∧ (v.pelOf p).tenant = t ∧ (v.pelOf p).baseQp = q ∧ (v.pelOf p).slots = n ∧ (v.pelOf p).cluster = c ∧
        ∀ j < leAt x.mem 8 4 / 4, Tbl.get 0 (a + j) (v.cluOf c).pstore = leAt (imgCode x.mem) (4 * j) 4) ∧
    (let y := withByte 8 1 (w 0xC);
      leAt y 10 2 = p → p < 4096 → (s.pelOf p).tenant = t → s.bindOk (s.pelOf p) y (memberTable x.mem (leAt y 12 4)) = true →
      s.cipReady (s.pelOf p).baseQp = true → Completes (.createPelotonBind t e x) s t y 0 z z fun v =>
        v.pelOf p = bindPel (s.pelOf p) y (memberTable x.mem (leAt y 12 4)) ∧ (v.pelOf p).st = .ready) ∧
    (leAt (w 0xD) 8 2 = p → p < 4096 → (s.pelOf p).tenant = t →
      ((s.pelOf p).st ∈ [PelSt.reserved, .excluded, .error] → Completes (.destroyPeloton t e) s t (w 0xD) 0 z z fun v => v.pelOf p = {}) ∧
      ((s.pelOf p).st = .ready → AdmOpen s t → (s.admOf t).busy = false → Does (.destroyPeloton t e) s fun v => v.pelOf p = {})) ∧
    (let y := withByte 18 (clrBit (byteAt (w 0xE) 18) 1) (w 0xE);
      leAt y 8 8 = n * unitBytes → 1 ≤ n → n ≤ 23039 → s.unitsLeft t n = true → s.pickExt t = some k → s.pickUnits t n = some u →
      Completes (.allocExtent t e) s t y 0 (fun _ => k) (fun _ => u * unitBytes) fun v => v.xst k = Xs.bound ∧ v.rd Reg.TEN_EXT0_TENANT k = t ∧
        v.rd Reg.TEN_EXT1_BASE_UNIT k = u ∧ v.rd Reg.TEN_EXT1_UNITS k = n ∧ v.gddr = s.gddr) ∧
    (let y := withByte 18 (setBit (byteAt (w 0xE) 18) 1) (w 0xE);
      leAt y 20 2 = k → k < 4096 → s.xst k = Xs.kept → s.rd Reg.TEN_EXT0_TENANT k = t → k ∈ (s.sliceOf t).adopted →
      Completes (.allocExtentClaim t e) s t y 0 (fun _ => k) (fun _ => s.rd Reg.TEN_EXT1_BASE_UNIT k * unitBytes) fun v => v.xst k = Xs.bound ∧
        v.gddr = s.gddr) ∧
    (leAt (w 0xF) 8 2 = n → n < 4096 → (s.xst n = Xs.bound ∨ s.xst n = Xs.preserved) → s.rd Reg.TEN_EXT0_TENANT n = t → s.winRegion n = false →
      let lo := s.rd Reg.TEN_EXT1_BASE_UNIT n * unitBytes;
      Completes (.freeExtent t e) s t (w 0xF) 0 z z fun v => v.xst n = Xs.wiping ∧
        (∀ b, lo ≤ b → b < lo + s.rd Reg.TEN_EXT1_UNITS n * unitBytes → Mem.rd v.gddr b = 0) ∧
        SameGddrBut lo (s.rd Reg.TEN_EXT1_UNITS n * unitBytes) s v) ∧
    (s.xst n = Xs.wiping → Does (.extentWipeDone n) s fun v => v.xst n = Xs.free ∧
      v.rd Reg.TEN_WIPES_COUNT 0 = satAdd 64 (s.rd Reg.TEN_WIPES_COUNT 0) 1 ∧ v.gddr = s.gddr)

/-- R326 to R328, R334 to R337, R340 to R345: the provider's commands of slices, pools and endpoint records: a slice is made ACTIVE, frozen at its
count, FROZEN once nothing of it is in progress, thawed, saved with its keys cleared, restored RESTORED, destroyed, and free when its wipes
are done; unlocking makes a LOCKED attachment GONE; KEPT extents that none has claimed are wiped when their hold ends. -/
def Obligations.SliceCommands : Prop :=
  ∀ (s : State) (n p r k c t0 epid : Nat) (e : List Byte) (x : AdmX) (o : Origin),
    let z : State → Nat := fun _ => 0
    let w (cmd : Nat) := withByte 0 cmd e
    let ep (op : Nat) := withByte 16 op (w 0x43)
    let fz (op : Nat) := withByte 10 op (w 0x44)
    (leAt (w 0x40) 8 2 = n → n ≤ 511 → byteAt (w 0x40) 10 = p → p ≤ 7 → byteAt (w 0x40) 11 % 2 = 0 → quotaOk n (quotaAt (w 0x40)) = true → s.slice n = 0 →
      s.stillWiping n = false → (s.makeSlice n p 1 (quotaAt (w 0x40))).isSome = true →
      Completes (.createTenant provider e) s provider (w 0x40) 0 (fun u => u.bases n) z fun u => u.slice n = 1 ∧ u.rd Reg.TEN_SLICE0_POOL n = p ∧
        u.rd Reg.TEN_SLICE2_UNITS_USED n = 0) ∧
    (leAt (w 0x41) 8 2 = n → n ≤ 511 → s.slice n ≠ 0 → s.slice n ≠ 6 → AdmOpen s provider → (s.admOf provider).busy = false →
      Does (.destroyTenant provider e) s fun u => u.slice n = 6 ∧ (u.sliceOf n).destroying = some (originOf provider none (w 0x41)) ∧
        (u.admOf provider).busy = true) ∧
    ((s.sliceOf n).destroying = some o → s.slice n = 6 → s.stillWiping n = false → o.slot = provider → o.cmd = 0x41 → Ends (.destroyTenantDone n) s o 0 fun u =>
      u.slice n = 0 ∧ (u.sliceOf n).destroying = none) ∧
    (byteAt (w 0x42) 8 = p → p ≤ 7 → leAll (s.poolUsed p) (quotaAt (w 0x42)) = true →
      leAll ((List.range 8).foldl (fun a j => addAll a (if j = p then quotaAt (w 0x42) else s.poolOf j)) (moduleCounts.map fun _ => 0)) moduleCounts = true →
      Completes (.setPool provider e) s provider (w 0x42) 0 z z fun u => u.poolOf p = quotaAt (w 0x42) ∧ ∀ j, j ≠ p → u.poolOf j = s.poolOf j) ∧
    (epid ≠ 0 →
      (leAt (ep 0) 8 8 = epid → leAt (ep 0) 18 2 = n → epTenOk n = true → s.epRecord epid = some r → s.epEntry r n = none →
        (List.range 64).find? (fun j => !s.on Reg.TEN_EP_TEN_VALID (ix r j)) = some k →
        Completes (.setEndpointTenantsAdd provider e) s provider (ep 0) 0 z z fun u => u.rd Reg.TEN_EP_TEN_VALID (ix r k) = 1 ∧
          u.rd Reg.TEN_EP_TEN_TENANT (ix r k) = n ∧ u.permitted epid n = true) ∧
      (leAt (ep 1) 8 8 = epid → leAt (ep 1) 18 2 = n → epTenOk n = true → s.epRecord epid = some r → s.epEntry r n = some k → s.attThrough epid n = false →
        Completes (.setEndpointTenantsRemove provider e) s provider (ep 1) 0 z z fun u => u.rd Reg.TEN_EP_TEN_VALID (ix r k) = 0) ∧
      (leAt (ep 2) 8 8 = epid → s.epRecord epid = some r → s.atts = [] → Completes (.setEndpointTenantsClear provider e) s provider (ep 2) 0 z z fun u =>
        u.rd Reg.TEN_EP_ID_ID r = 0 ∧ ∀ j < 64, u.rd Reg.TEN_EP_TEN_VALID (ix r j) = 0)) ∧
    (n ≤ 511 →
      (leAt (fz 0) 8 2 = n → leAt (fz 0) 16 8 = t0 → s.slice n = 1 → t0 ≠ 0 → s.mayArm t0 = true → Waits (.freezeSliceFreeze provider e) s provider fun u =>
        u.slice n = 2 ∧ u.armed = s.armed ++ [{ kind := .freeze n, at_ := t0 }] ∧ u.rd Reg.TEN_SLICE4_FREEZE_AT n = t0 ∧ (u.sliceOf n).stepped = false) ∧
      (s.armed = [{ kind := .freeze n, at_ := t0 }] → s.now ≤ t0 → t0 < 2 ^ 64 → s.rd Reg.CAD_STATUS_STATE 0 ≠ 4 → s.resting = false → s.slice n = 2 →
        (s.sliceOf n).stepped = false → Does (.sliceFreezeFire n) s fun u => u.now = t0 ∧ u.armed = [] ∧ (u.sliceOf n).stepped = true ∧ u.slice n = 2 ∧
          ∀ q ∈ s.qpList, s.qpTenant q = n → s.cst q = Cst.connected → s.linkBusy q = false → u.cst q = Cst.suspended) ∧
      (s.slice n = 2 → (s.sliceOf n).stepped = true → s.inProgress n = false → (s.sliceOf n).freeze = some o → o.slot = provider → o.cmd = 0x44 →
        o.names = none → Ends (.freezeScanDone n) s o s.now fun u => u.slice n = 3 ∧
          ∀ q ∈ s.qpList, s.qpTenant q = n → s.cst q = Cst.connected → u.cst q = Cst.suspended) ∧
      (leAt (fz 1) 8 2 = n → s.slice n = 3 → byteAt (fz 1) 11 % 2 = 0 → (∀ q, (s.sqOf q).recorded = false) → (s.admOf n).held = [] → (s.admOf n).lost = 0 →
        Completes (.freezeSliceThaw provider e x) s provider (fz 1) 0 z z fun u => u.slice n = 1 ∧
          ∀ q ∈ s.qpList, s.qpTenant q = n → s.cst q = Cst.suspended → u.cst q = Cst.connected) ∧
      (leAt (w 0x45) 8 2 = n → s.slice n = 3 → (∀ a ∈ attList n, (s.attOf a).st ≠ .absent) → (s.descOf provider (leAt (w 0x45) 10 2)).isSome = true →
        272 + s.free 40 ≤ leAt (w 0x45) 24 8 → AdmOpen s provider → (s.admOf provider).busy = false → Does (.saveSlice provider e x) s fun u => u.slice n = 4 ∧
          (∃ img, .image (leAt (w 0x45) 16 8) img ∈ u.out ∧ img.tenant = n ∧ img.id = s.freeAt 1 128) ∧
          (c < 1024 → s.rd Reg.CIP_CTX0_VALID c = 1 → s.rd Reg.CIP_CTX0_TENANT c = n → Tbl.get 0 (2 * c) u.cip.keys = 0 ∧ Tbl.get 0 (2 * c + 1) u.cip.keys = 0)) ∧
      (leAt (w 0x46) 8 2 = n → byteAt (w 0x46) 10 = p → p ≤ 7 → s.slice n = 0 → s.stillWiping n = false → (s.descOf provider (leAt (w 0x46) 12 2)).isSome = true →
        s.imgBad x = none → x.img.regions = [] → x.img.exts = [] → (s.makeSlice n p 5 x.img.quota).isSome = true → AdmOpen s provider →
        (s.admOf provider).busy = false → Does (.restoreSlice provider e x) s fun u => u.slice n = 5 ∧ (u.sliceOf n).image = some x.img.id ∧
          u.ten.images = s.ten.images ++ [x.img.id]) ∧
      (leAt (w 0x47) 8 2 = n → (∃ a ∈ s.attsOf n, (s.attOf a).st = .locked ∧ (s.attOf a).epid = leAt (w 0x47) 16 8) →
        Completes (.unlockReattach provider e) s provider (w 0x47) 0 z z fun u => (u.sliceOf n).wrong = 0 ∧
          ∀ a ∈ s.attsOf n, (s.attOf a).st = .locked → (s.attOf a).epid = leAt (w 0x47) 16 8 → (u.attOf a).st = .gone)) ∧
    (s.ten.keepFrom = some t0 → Does .keepHoldExpire s fun u => u.ten.keepFrom = none ∧ ∀ k ∈ s.extList, s.xst k = Xs.kept → u.xst k = Xs.wiping)

/-! The cadence unit. -/

/-- R29, R38, R39, R44, R45, R48, R55, R480: registers, references and states of the cadence unit. Stated where no event is armed, no peloton
stands, no gate list runs and no cluster move waits: CAD_CTRL enables, or disables into FREE; CAD_LOAD sets the count in FREE and ACQUIRE
alone; a swap is armed ahead of its count and exchanges the tables that the mask selects at it; a reference is stamped, pulses go out at
multiples of their period, a root that loses its reference holds over, and HOLDOVER and a clock fault end in FAULT. -/
def Obligations.CadenceUnit : Prop :=
  ∀ (s : State) (v t p time frac : Nat) (valid : Bool),
    let st := s.rd Reg.CAD_STATUS_STATE 0
    let g := Reg.MAC_GHASH_BITS
    let a := Reg.MAC_GHASH_ACT_BITS
    s.pels = [] → s.rd Reg.TRN_EGR_CTRL_GATE_EN 0 = 0 → s.board.res.moves = [] →
    (s.armed = [] →
      (s.rd Reg.CAD_CTRL_ENABLE 0 = 0 → v % 2 = 1 → Does (.cadEnableWrite v) s fun u => u.rd Reg.CAD_CTRL_ENABLE 0 = 1 ∧
        u.rd Reg.CAD_CTRL_ROOT_CAPABLE 0 = v / 2 % 2 ∧ u.rd Reg.CAD_CTRL_REF_SRC 0 = v / 2 ^ 2 % 2 ^ 2 ∧ u.rd Reg.CAD_CTRL_PRIO 0 = v / 2 ^ 8 % 2 ^ 8 ∧
        u.now = s.now) ∧
      (s.rd Reg.CAD_CTRL_ENABLE 0 = 1 → v % 2 = 0 → s.board.cad.deferred = [] → Does (.cadEnableWrite v) s fun u => u.rd Reg.CAD_CTRL_ENABLE 0 = 0 ∧
        u.rd Reg.CAD_STATUS_STATE 0 = 0 ∧ u.rd Reg.CAD_STATUS_UPSTREAM 0 = 0xFF ∧ u.now = s.now) ∧
      (st ≤ 1 → Does .cadLoadGo s fun u => u.now = s.rd Reg.CAD_LOAD_COUNT 0 % 2 ^ 64 ∧
        u.rd Reg.CAD_STATUS_STATE 0 = if st = 0 ∧ s.rd Reg.CAD_CTRL_ENABLE 0 = 1 then 1 else st) ∧
      (1 < st → Does .cadLoadGo s fun u => u = s) ∧
      (s.mayArm (t % 2 ^ 64) = true → Does (.cadSwapAtWrite t) s fun u => u.armed = [{ kind := .swap, at_ := t % 2 ^ 64 }] ∧
        u.rd Reg.CAD_SWAP_STATUS_ARMED 0 = 1 ∧ u.rd Reg.CAD_SWAP_AT_COUNT 0 = t % 2 ^ 64) ∧
      (p = max 1000 (s.rd Reg.CAD_PPS_OUT_PERIOD_CT 0) → t = (s.now + p - 1) / p * p → t < 2 ^ 64 → s.rd Reg.CAD_CTRL_PPS_OUT_EN 0 = 1 →
        s.board.pwr.off = false → s.board.cad.pulse = none → Does .ppsOutPulse s fun u => u.out = s.out ++ [.pps t] ∧ u.now = t ∧
          u.board.cad.pulse = some t) ∧
      (s.rd Reg.CAD_CTRL_REF_SRC 0 = 1 → s.rd Reg.CAD_STATUS_ROOT 0 = 1 → st = 2 → Does (.referenceLost 1) s fun u =>
        u.rd Reg.CAD_STATUS_PPS_VALID 0 = 0 ∧ u.rd Reg.CAD_STATUS_STATE 0 = 3) ∧
      (st = 3 → s.rd Reg.CAD_HOLD_ERR_PS 0 < 65534 → Does .holdoverErrorLimit s fun u => u.rd Reg.CAD_STATUS_STATE 0 = 4 ∧
        u.rd Reg.CAD_EVT_STATUS_FAULT 0 = 1 ∧ u.rd Reg.RES_ERRORS_COUNT 0 = satAdd 64 (s.rd Reg.RES_ERRORS_COUNT 0) 1) ∧
      (st ≠ 0 → st ≠ 4 → Does .cadenceClockFault s fun u => u.rd Reg.CAD_STATUS_STATE 0 = 4 ∧ u.rd Reg.CAD_EVT_STATUS_FAULT 0 = 1 ∧
        u.board.cad.healthy = false)) ∧
    (s.armed = [{ kind := .swap, at_ := t }] → s.now ≤ t → t < 2 ^ 64 → st ≠ 4 → s.resting = false → s.rd Reg.CAD_SWAP_MASK_FWD 0 = 0 →
      s.rd Reg.CAD_SWAP_MASK_GATE 0 = 0 → s.rd Reg.CAD_SWAP_MASK_SHAPER 0 = 0 → s.rd Reg.CAD_SWAP_MASK_METER 0 = 0 → s.rd Reg.CAD_SWAP_MASK_STEER 0 = 0 →
      s.rd Reg.CAD_SWAP_MASK_GROUPHASH 0 = 1 → (∀ i, s.rd g i < 2 ^ g.w ∧ s.rd a i < 2 ^ a.w) → Does .tableSwap s fun u =>
        u.armed = [] ∧ u.now = t ∧ u.rd Reg.CAD_SWAP_STATUS_DONE 0 = 1 ∧ u.rd Reg.CAD_SWAP_STATUS_ARMED 0 = 0 ∧
        ∀ i, u.rd a i = s.rd g i ∧ u.rd g i = s.rd a i) ∧
    (s.rd Reg.CAD_CTRL_REF_SRC 0 = 0 →
      (Does (.ppsEdge frac time) s fun u => u.rd Reg.CAD_PPS_IN_STAMP_COUNT 0 = s.now % 2 ^ 64 ∧ u.rd Reg.CAD_STATUS_PPS_VALID 0 = 1 ∧
        SameRegsBut [(Reg.CAD_PPS_IN_STAMP_COUNT, 0), (Reg.CAD_STATUS_PPS_VALID, 0)] s u) ∧
      (Does (.ptpMessage valid time frac) s fun u => u.rd Reg.CAD_STATUS_PTP_VALID 0 = b2n valid ∧
        u.board.cad.ptpSec = time / 1000000000 ∧ SameRegsBut [(Reg.CAD_STATUS_PTP_VALID, 0)] s u)) ∧
    (Does .cadenceClockHealthy s fun u => u.board.cad = { s.board.cad with healthy := true } ∧ u.regs = s.regs)

/-- R34 to R37, R42, R164: cadence messages: a SYNC_REQ is answered with its SEQ and T1 and the two stamps of this module; the answer that was asked
for gives the correction to slew; an ANNOUNCE is noted for its lane; a bad CRC is counted; a message through a switch is treated alike. An
interval ends at its count, and a root without a reference locks then; an upstream without answers is given up for HOLDOVER. -/
def Obligations.CadenceMessages : Prop :=
  ∀ (s : State) (lane f2 wait f3 f4 hops t ref up : Nat) (m : SyncMsg) (pk : Pkt) (rx : Rx) (r : Nat × Nat × Nat),
    let answer : SyncMsg := { s.syncBase with seq := m.seq, t1 := m.t1, t1f := m.t1f, t2 := s.now, t2f := f2 % 256, t3 := s.now + wait, t3f := f3 % 256 }
    let off := (exchangeOf m s.now f4 (s.rd Reg.CAD_PORT_ASYM_PS lane)).1
    let calm : Prop := s.armed = [] ∧ s.pels = [] ∧ s.rd Reg.TRN_EGR_CTRL_GATE_EN 0 = 0 ∧ s.board.res.moves = []
    (m.crcOk = false → Does (.syncReq lane m f2 wait f3) s
      (Writes [(Reg.CAD_SYNC_DISCARD_CRC, 0, satAdd Reg.CAD_SYNC_DISCARD_CRC.w (s.rd Reg.CAD_SYNC_DISCARD_CRC 0) 1), (Reg.CAD_EVT_STATUS_SYNC_CRC_ERR, 0, 1)] s)) ∧
    (m.crcOk = true → s.syncOn lane = true →
      (s.portUp lane = true → (∀ e ∈ (s.farOf lane).pausedTo, e.1 ≠ 16) →
        (Does (.syncReq lane m f2 wait f3) s fun u => u = { s with out := s.out ++ [.sync lane 2 answer] }) ∧
        (s.rd Reg.TRN_CTRL_ENABLE 0 = 1 → s.localIp rx.ip = true → rx.dport = s.rd Reg.TRN_UDP_DPORT 0 → rx.csumOk = true → pk.ver = 1 →
          pk.dstMod = s.rd Reg.TRN_MODULE_ID 0 → Does (.rxCadencePacket pk rx lane 1 hops m f2 wait f3) s fun u => u.out = s.out ++ [.sync lane 2 answer] ∧
            u.rd Reg.TRN_RX_PKTS_COUNT 0 = satAdd 64 (s.rd Reg.TRN_RX_PKTS_COUNT 0) 1)) ∧
      (s.board.cad.req = some r → r.1 = m.seq → lane = s.rd Reg.CAD_STATUS_UPSTREAM 0 → s.rd Reg.CAD_STATUS_STATE 0 = 2 →
        off.natAbs ≤ (ctUnits (s.rd Reg.CAD_STEP_THRESH_CT 0)).natAbs → Does (.syncResp lane m f4 hops false) s fun u => u.board.cad.slew = -off ∧
          u.board.cad.answered = true ∧ u.board.cad.missed = 0 ∧ u.rd Reg.CAD_STATUS_HOP_EQ 0 = min 255 (m.hopEq + hops) ∧
          u.rd Reg.CAD_STATUS_STATE 0 = 2 ∧ u.now = s.now) ∧
      (s.board.cad.req = none → Does (.syncResp lane m f4 hops false) s
        (Writes [(Reg.CAD_SYNC_DISCARD_SEQ, 0, satAdd Reg.CAD_SYNC_DISCARD_SEQ.w (s.rd Reg.CAD_SYNC_DISCARD_SEQ 0) 1)] s)) ∧
      (calm → bits m.flags 3 2 = ref → Does (.announce lane m hops) s fun u =>
        u.board.cad.heard = Tbl.put lane { root := m.rootId, ref := ref, prio := m.rootPrio, hopEq := m.hopEq, locked := bit m.flags 0, hop := hops } s.board.cad.heard ∧
        (s.rd Reg.CAD_STATUS_STATE 0 = 0 → u.rd Reg.CAD_STATUS_STATE 0 = 1) ∧ u.now = s.now)) ∧
    (calm → s.rd Reg.CAD_CTRL_ENABLE 0 = 1 → up = s.rd Reg.CAD_STATUS_UPSTREAM 0 →
      (t = s.markOf 4 + s.syncCt → s.now < t → t < 2 ^ 64 → 36 ≤ up → s.board.cad.deferred = [] → s.rd Reg.CAD_STATUS_ROOT 0 = 1 →
        s.rd Reg.CAD_CTRL_REF_SRC 0 = 0 → s.rd Reg.CAD_STATUS_STATE 0 = 1 → Does .syncIntervalEnd s fun u => u.now = t ∧ u.markOf 4 = t ∧
          u.board.cad.interval = s.board.cad.interval + 1 ∧ u.rd Reg.CAD_STATUS_STATE 0 = 2) ∧
      (up < 36 → 3 ≤ s.board.cad.missed → s.board.cad.heard = [] → s.rd Reg.CAD_STATUS_STATE 0 = 2 → Does .upstreamLost s fun u =>
        u.rd Reg.CAD_EVT_STATUS_UPSTREAM_LOST 0 = 1 ∧ u.rd Reg.CAD_STATUS_STATE 0 = 3 ∧ u.rd Reg.CAD_STATUS_UPSTREAM 0 = 0xFF ∧ u.now = s.now))

/-! The transport engine. -/

/-- R161, R162, R166 to R169, R176, R182, R183, R188: what a CONNECTED queue pair does on its own: it sends the next packet of a WRITE with the next
PSN and keeps it; a delayed ACK goes out; an RTO marks its copy for resending, doubles the RTO and holds the entropy value; a backoff ends and
the copy is sent again; a resend limit puts the queue pair in ERROR; a READ asks again for what is missing; a hold ends; the rate rises. -/
def Obligations.TransportTimers : Prop :=
  ∀ (s : State) (q psn mem n e c port : Nat) (data : List Byte) (o : Op) (x : Sent) (b : List Byte),
    let k := s.connOf q
    let nxt := s.rd Reg.TRN_QP_T1_SND_NXT q
    let tc := s.rd Reg.QP_DESC0_TC q
    s.rd Reg.TRN_QP_T0_STATE q = 1 →
    (s.rd Reg.TRN_CTRL_ENABLE 0 = 1 → s.rd Reg.QP_DESC0_VALID q = 1 → k.nextTx ≤ s.now → s.rate q ≠ 0 → s.steer q = some c →
      s.shapersPass q (s.qpTenant q) tc = true → (∀ y ∈ k.sent, y.resend = false) → k.respQ = [] → k.mcast = none →
      d32 nxt (s.rd Reg.TRN_QP_T1_SND_UNA q) < 1024 → nxt < 2 ^ 32 → (s.sqOf q).ops = [o] → o.st = .started → o.cut < o.npk → o.sqe.opcode = 2 →
      o.sqe.inl = some b → s.egressPort (s.nextEntropy q) q = some port → s.classOn port = true → CanSend s q port →
      Does (.packetTransmit q data 0) s fun t => ∃ p : Pkt, p.opc = 2 ∧ p.psn = nxt ∧ p.msn = o.msn ∧
        p.payload = (b.drop (o.cut * s.mtu q)).take (min (s.mtu q) (o.sqe.len - o.cut * s.mtu q)) ∧ p.target = o.sqe.raddr ∧
        p.pktOffset = o.cut * s.mtu q ∧ p.msgLen = o.sqe.len ∧ p.txTime = s.now ∧ p.ackReq = decide (o.cut + 1 = o.npk) ∧
        (t.connOf q).sent = k.sent ++ [{ psn := nxt, serial := o.serial, pkt := p, txTime := s.now, entropy := s.nextEntropy q }] ∧
        t.rd Reg.TRN_QP_T1_SND_NXT q = (nxt + 1) % 2 ^ 32 ∧ (t.sqOf q).ops = [{ o with cut := o.cut + 1 }] ∧
        t.rd Reg.TRN_TX_PKTS_COUNT 0 = (s.rd Reg.TRN_TX_PKTS_COUNT 0 + 1) % 2 ^ 64) ∧
    (k.ackTimer = true → CanSend s q port → Does (.ackCoalesceTimer q) s fun t => (t.connOf q).ackTimer = false ∧ (t.connOf q).sinceAck = 0 ∧
      (t.connOf q).ce = 0 ∧ t.rd Reg.TRN_TX_PKTS_COUNT 0 = (s.rd Reg.TRN_TX_PKTS_COUNT 0 + 1) % 2 ^ 64) ∧
    (k.sentOf psn mem = some x →
      (x.hold = false → x.resend = false → x.sends ≤ s.rd Reg.TRN_QP_T0_RETRY_MAX q → s.rd Reg.TRN_CC_CTRL_ENABLE 0 = 0 →
        Does (.rtoExpire q psn mem) s fun t => (t.connOf q).sentOf psn mem = some { x with resend := true } ∧
          t.rd Reg.TRN_QP_T3_RTO_NS q = min s.rtoMax (2 * s.rd Reg.TRN_QP_T3_RTO_NS q) % 2 ^ 32 ∧
          (t.connOf q).holds = k.holds.filter (·.1 ≠ x.entropy) ++ [(x.entropy, s.now + 8 * s.rd Reg.TRN_QP_T3_SRTT_NS q)]) ∧
      (x.hold = true → Does (.resendBackoffExpire q psn mem) s fun t =>
        (t.connOf q).sentOf psn mem = some { x with hold := false, resend := true, uncounted := true } ∧ t.regs = s.regs) ∧
      (x.nakAt.isSome = true → x.nakReason ≠ 3 → s.pels = [] → Does (.resendLimitExpire q psn mem) s fun t =>
        t.rd Reg.TRN_QP_T0_STATE q = 3 ∧ t.rd Reg.TRN_QP_T5_ERR_SYNDROME q = if x.nakReason = 0 then Code.pageTimeout else Code.retryExceeded)) ∧
    ((s.sqOf q).ops = [o] → o.serial = n → o.sqe.opcode = 4 → o.st = .started → o.cut ≠ 0 → (∀ y ∈ k.sent, y.serial ≠ n) → (∀ y ∈ k.reReqs, y.1 ≠ n) →
      o.reissues < s.rd Reg.TRN_QP_T0_RETRY_MAX q → o.got = [] → o.sqe.len ≠ 0 → Does (.readRespTimeout q n) s fun t =>
        (t.sqOf q).ops = [{ o with reissues := o.reissues + 1 }] ∧ (t.connOf q).reReqs = k.reReqs ++ [(n, 0, o.sqe.len)]) ∧
    (Does (.entropyHoldExpire q e) s fun t => t.connOf q = { k with holds := k.holds.filter (·.1 ≠ e) } ∧ t.regs = s.regs) ∧
    (s.rd Reg.TRN_CC_CTRL_ENABLE 0 = 1 → k.ackSeen = true → k.ceSum = 0 → k.rMin.getD 0 ≤ s.rd Reg.TRN_CC_TC0_TARGET_NS tc →
      Does (.rateUpdate q) s fun t => (t.connOf q).ackSeen = false ∧
        (t.connOf q).rate = min (65536 * s.rd Reg.TRN_CC_TC1_MAX_RATE tc) (max (65536 * max 1 (s.rd Reg.TRN_CC_TC1_MIN_RATE tc))
          (k.rate + 65536 * s.rd Reg.TRN_CC_TC0_AI_MBPS tc)))

/-- R164, R165, R170, R171, R174 to R180: packets of a requester: a packet that is admitted and the next in order is accepted. A message of one packet
goes to GDDR7 and nowhere else, to the receive that its SSN names or to its region; its record waits for its flushes. A READ range waits to be
sent; an atomic replaces its 8 bytes and keeps the old ones; a REDUCE_WRITE combines elements. A bad header is counted and has no other effect. -/
def Obligations.TransportReceives : Prop :=
  ∀ (s : State) (p : Pkt) (r : Rx) (rv : Recv) (g ctx port : Nat),
    let q := p.dstQp
    let n := p.payload.length
    let ten := s.qpTenant q
    let took (t : State) : Prop := t.rd Reg.TRN_QP_T2_RCV_BASE q = (p.psn + 1) % 2 ^ 32 ∧
      t.rd Reg.TRN_RX_PKTS_COUNT 0 = satAdd 64 (s.rd Reg.TRN_RX_PKTS_COUNT 0) 1
    let placed (a : Nat) (b : List Byte) (t : State) : Prop := (∀ k < n, Mem.rd t.gddr (a + k) = b.getD k 0) ∧ SameGddrBut a n s t ∧
      ∃ m, t.recOf q p.msn = some m ∧ m.complete = true ∧ m.flush = [] ∧ m.got = n ∧ m.lastPsn = p.psn
    let whole (opc : Nat) : Prop := p.pktOffset = 0 ∧ p.msgLen = n ∧ 0 < n ∧ n ≤ s.fullPkt q opc p.format
    let region (opc right len : Nat) (al : Bool) (acc : AccK) : Prop := s.regionCheck q p.rkey p.target len right al = .ok g ctx true ∧
      (opc ≠ 4 → s.gddrPassAll ten ctx acc g (if opc = 6 ∨ opc = 7 then 8 else n) = true)
    let atomic (k : Instr) (opc new : Nat) : Prop := region opc 2 8 (p.target % 8 == 0) .atomic → s.gddrPoisoned g 8 = false →
      (s.connOf q).atomics.length < 16 → CanSend s q port → Does k s fun t => took t ∧ Mem.nat t.gddr g 8 = new ∧ SameGddrBut g 8 s t ∧
        (t.connOf q).atomics = (s.connOf q).atomics ++ [(p.psn, Mem.nat s.gddr g 8)]
    (Admitted s p r → InOrder s p →
      (whole 1 → (s.connOf q).recvs = [rv] → rv.ssn = p.target % 2 ^ 32 → n ≤ rv.len → rv.localWin = true →
        s.gddrPassAll ten (s.rd Reg.QP_DESC0_CONTEXT q) .write rv.laddr n = true → Does (.rxSend p r) s fun t =>
          took t ∧ placed rv.laddr p.payload t ∧ (t.connOf q).recvs = []) ∧
      (whole 2 → region 2 1 n true .write → Does (.rxWrite p r) s fun t => took t ∧ placed g p.payload t) ∧
      (whole 3 → region 3 1 n true .write → Does (.rxWriteImm p r) s fun t => took t ∧ placed g p.payload t ∧
        ∃ m, t.recOf q p.msn = some m ∧ m.imm = some p.imm) ∧
      (whole 8 → region 8 3 n (reduceAligned p.format p.target n) .write → s.gddrPoisoned g n = false → unitBytes ≤ g →
        Does (.rxReduceWrite p r) s fun t => took t ∧
          placed g (reduceBytes p.format (reduceSize p.format) (n + 1) (Mem.bytes s.gddr g n) p.payload).1 t) ∧
      (region 4 0 p.msgLen true .read → p.rangeOffset + p.rangeLen ≤ p.msgLen → p.rangeLen ≠ 0 → Does (.rxReadReq p r) s fun t => took t ∧
        SameGddr s t ∧ (t.connOf q).respQ = (s.connOf q).respQ ++
          [{ p with opc := 4, target := g, op0 := ctx, op1 := 1, pktOffset := p.rangeOffset }]) ∧
      atomic (.rxFetchAdd p r) 6 ((Mem.nat s.gddr g 8 + p.op0) % 2 ^ 64) ∧
      atomic (.rxCompareSwap p r) 7 (if Mem.nat s.gddr g 8 = p.op0 then p.op1 % 2 ^ 64 else Mem.nat s.gddr g 8)) ∧
    (r.csumOk = false → s.meterFor ten p.tc = none → Does (.rxSend p r) s (Writes [(Reg.TRN_RX_PKTS_COUNT, 0, satAdd 64 (s.rd Reg.TRN_RX_PKTS_COUNT 0) 1),
      (Reg.TRN_BAD_HDR_COUNT, 0, satAdd 64 (s.rd Reg.TRN_BAD_HDR_COUNT 0) 1)] s))

/-- R155, R160, R167, R171, R172, R176, R182: answers to a requester: an ACK of everything outstanding clears it, moves SND_UNA up and takes the first
sample of the round trip; RESEND_AFTER holds its copy; FAIL_OP ends its operation with REMOTE_ERROR; FATAL puts the queue pair in ERROR; an
ATOMIC_ACK ends its atomic with the old value; a READ_RESP that completes its READ is placed and ends it. A message placed is acknowledged. -/
def Obligations.TransportAnswers : Prop :=
  ∀ (s : State) (p : Pkt) (r : Rx) (o : Op) (x : Sent) (m : MsgRec) (port : Nat),
    let q := p.dstQp
    let c := s.connOf q
    let nxt := s.rd Reg.TRN_QP_T1_SND_NXT q
    let cq := s.rd Reg.QP_DESC0_CQ q
    let open_ : Prop := s.rd Reg.CQ_DESC0_BROKEN cq = 0 ∧ (s.cqOf cq).fenced = false ∧ s.rd Reg.QP_DESC0_LEGACY q = 0
    (Admitted s p r →
      ((∀ y ∈ c.sent, y.mem = 0 ∧ pktAcks p y.psn = true ∧ y.atomic = false) → (s.sqOf q).ops = [] → c.rttAny = false → nxt < 2 ^ 32 →
        Does (.rxAck p r) s fun t => (t.connOf q).sent = [] ∧ t.rd Reg.TRN_QP_T1_SND_UNA q = nxt ∧ (t.connOf q).rttAny = true ∧
          t.rd Reg.TRN_QP_T3_SRTT_NS q = (s.now - p.tsEcho - p.ackDelay) % 2 ^ 32) ∧
      (c.sent = [x] → x.psn = p.psn → x.mem = 0 → x.nakAt = none → Does (.rxNakResendAfter p r) s fun t =>
        (t.connOf q).sent = [{ x with hold := true, resend := false, nakAt := some s.now, nakReason := p.reason }] ∧
        t.rd Reg.TRN_NAK_RX_COUNT 0 = (s.rd Reg.TRN_NAK_RX_COUNT 0 + 1) % 2 ^ 64) ∧
      (c.sent = [x] → x.psn = p.psn → x.serial = o.serial → (s.sqOf q).ops = [o] → o.st = .started → open_ →
        (Does (.rxNakFailOp p r) s fun t => (t.connOf q).sent = [] ∧
          (t.sqOf q).ops = [{ o with st := .done, status := Code.remoteError, detail := p.detail }]) ∧
        (x.atomic = true → Does (.rxAtomicAck p r) s fun t => (t.connOf q).sent = [] ∧
          (t.sqOf q).ops = [{ o with st := .done, status := Code.success, detail := 0, aux := p.old, bytes := 8 }])) ∧
      (s.pels = [] → Does (.rxNakFatal p r) s fun t => t.rd Reg.TRN_QP_T0_STATE q = 3 ∧ t.rd Reg.TRN_QP_T5_ERR_SYNDROME q = p.syndrome % 2 ^ 8 ∧
        (t.connOf q).sent = []) ∧
      ((s.sqOf q).ops = [o] → o.sqe.opcode = 4 → o.st = .started → o.msn = p.msn → (∃ k, s.steer q = some k) → p.payload ≠ [] → p.pktOffset = 0 →
        p.payload.length = o.sqe.len → o.sqe.localWin = true → o.got = [] → open_ → 1 < s.rd Reg.TRN_TIMERS1_ACK_COALESCE 0 → o.resps = 0 →
        s.gddrPassAll (s.qpTenant q) (s.rd Reg.QP_DESC0_CONTEXT q) .write o.sqe.laddr o.sqe.len = true → Does (.rxReadResp p r) s fun t =>
          (∀ k < o.sqe.len, Mem.rd t.gddr (o.sqe.laddr + k) = p.payload.getD k 0) ∧ SameGddrBut o.sqe.laddr o.sqe.len s t ∧
          ∃ y, (t.sqOf q).ops = [y] ∧ y.st = .done ∧ y.status = Code.success ∧ y.bytes = o.sqe.len)) ∧
    (c.recs = [m] → m.complete = true → m.entered = false → m.flush = [] → m.opc = 2 → CanSend s q port →
      Does (.messagePlacedFlushed q m.msn) s fun t => (t.connOf q).recs = [] ∧ (t.connOf q).unackable = c.unackable.filter (· ≠ m.lastPsn) ∧
        t.rd Reg.TRN_RESP_REC_IN_USE 0 = (s.rd Reg.TRN_RESP_REC_IN_USE 0 - 1) % 2 ^ Reg.TRN_RESP_REC_IN_USE.w ∧
        t.rd Reg.TRN_TX_PKTS_COUNT 0 = (s.rd Reg.TRN_TX_PKTS_COUNT 0 + 1) % 2 ^ 64)

/-! Mailboxes. -/

/-- R373 to R378, R384, R385, R394: a doorbell of an idle slot makes its command busy with the doorbell's SEQ; an open request at the management port
waits its turn; GET_INFO, GET_ATTESTATION and GET_IDENTITY_CERT answer what the module holds; an unknown command gets INVALID_COMMAND. The
signature of a report is a free value (log entry 1). -/
def Obligations.MailboxRun : Prop :=
  ∀ (s : State) (ch p seq src : Nat) (pk : Pkt) (r : Rx),
    let par := s.params ch
    let m := s.mbxOf chPort
    let part := (s.mgmt.cert.drop (leAt par 0 4)).take 1976
    (isSlot ch = true → s.rd Reg.MBX_SLOT_STATUS_BUSY ch = 0 → Does (.mbxDoorbell p ch seq) s fun t => t.rd Reg.MBX_SLOT_STATUS_BUSY ch = 1 ∧
      t.rd Reg.MBX_SLOT_STATUS_DONE ch = 0 ∧ t.mbxOf ch = { s.mbxOf ch with seq := seq % 2 ^ 32, port := p, epid := (s.nearOf p).epid.getD 0 } ∧
      SameRegsBut [(Reg.MBX_SLOT_STATUS_BUSY, ch), (Reg.MBX_SLOT_STATUS_DONE, ch)] s t) ∧
    (isSlot ch = true → s.rd Reg.MBX_SLOT_STATUS_BUSY ch = 1 → Does (.mbxDoorbell p ch seq) s
      (Writes [(Reg.MBX_DB_BUSY_COUNT, 0, satAdd Reg.MBX_DB_BUSY_COUNT.w (s.rd Reg.MBX_DB_BUSY_COUNT 0) 1)] s)) ∧
    (pk.opc = 0x3E → mgmtKind pk = 1 → mgmtMode pk = 1 → s.rd Reg.MBX_MGMT_CFG_PORT_EN 0 = 1 → s.rd Reg.MBX_KILURN_STATE 0 ≠ 3 →
      s.board.pwr.aux = true → (∀ x ∈ m.done, x.1 ≠ mgmtId pk) → (∀ x ∈ m.reqs, x.msgId ≠ mgmtId pk) → Does (.rxMgmtPacket false src pk r) s fun t =>
        t.mbxOf chPort = { m with reqs := m.reqs ++ [{ msgId := mgmtId pk, sealed_ := false, src := src, header := pk.payload.take 64,
                                                       params := (pk.payload.drop 64).take 1920 }] } ∧ t.regs = s.regs ∧ t.out = s.out) ∧
    (ch < 1024 → s.mbxReady ch = true → hdrSeq (s.header ch) = (s.mbxOf ch).seq → hdrLen (s.header ch) ≤ 1920 → knownMbx (hdrCmd (s.header ch)) = false →
      Does (.mailboxUnknownCmd ch) s fun t => MbxSays s t ch Code.invalidCommand 0 []) ∧
    Answers (.getInfo ch) s ch 1 (leBytes 4 (s.rd Reg.MBX_FW_VERSION 0) ++ leBytes 4 (s.rd Reg.MBX_FW_SVN 0) ++ leBytes 1 (s.rd Reg.LCS_STATE_STATE 0) ++
      leBytes 1 (s.rd Reg.MBX_KILURN_STATE 0) ++ leBytes 2 (s.rd Reg.TRN_MODULE_ID 0) ++ leBytes 2 (chSlot ch) ++
      leBytes 1 (if chSlot ch = provider ∨ s.slice (chSlot ch) = 0 then 0xFF else s.slice (chSlot ch)))
      (fun t => t.gddr = s.gddr ∧ t.out = s.out) ∧
    (ch < 512 → s.slice ch ≠ 0 → Answers (.getAttestation ch) s ch 2 (s.report394 (par.take 32) true [ch] ++ leBytes 64 (s.free 512)) fun t =>
      t.gddr = s.gddr ∧ t.out = s.out) ∧
    Answers (.getIdentityCert ch) s ch 3 (leBytes 4 s.mgmt.cert.length ++ leBytes 4 part.length ++ part) fun t => t.gddr = s.gddr ∧ t.out = s.out

/-- R79, R332, R379 to R381, R395: ATTACH makes an attachment of the endpoint of the command's path; both forms of REATTACH make one and take over what
their token names; RELEASE ends a GONE attachment; BIND_ADMIN gives a slot its rings, from position 0, and UNBIND_ADMIN takes them. Each that
changes a slice extends its M_SLICE. Tokens are free values (log entry 1). -/
def Obligations.MailboxAttach : Prop :=
  ∀ (s : State) (ch e a n k ctx : Nat) (recs : List (Nat × Nat)), ch < 512 →
    let b := s.params ch
    let no := attNo ch e
    let made : Attach := { s.attOf no with st := if (s.upPaths e).isEmpty then .absent else .attached, epid := (s.epOf e).epid, token := some (s.free 64) }
    let idle : Prop := (s.attOf no).st ≠ .attached ∧ (s.attOf no).st ≠ .absent
    let grown (t : State) : Prop := (t.sliceOf ch).mSlice = extend (s.sliceOf ch).measure (s.digest (some ch))
    let token : List Byte := leBytes 8 e ++ leBytes 8 (s.free 64)
    (s.callerSlot ch = some e → idle →
      (Answers (.attach ch) s ch 0x10 token fun t => t.attOf no = made ∧ grown t) ∧
      (byteAt b 8 = 0 → leAt b 16 8 = 0 → 8192 ≤ a → (s.attsOf ch).find? (fun x => (s.attOf x).st == .gone && (s.attOf x).token == some (leAt b 0 8)) = some a →
        Answers (.reattachOrdinary ch) s ch 0x11 (token ++ leBytes 4 (s.attOf a).retired.length ++ leBytes 4 0) fun t =>
          t.attOf no = made ∧ t.attOf a = {} ∧ grown t ∧ (t.sliceOf ch).wrong = 0 ∧
          ((s.extOf n).att = some a → s.rd Reg.TEN_EXT0_STATE n = Xs.preserved → t.rd Reg.TEN_EXT0_STATE n = Xs.bound ∧ t.rd Reg.TEN_EXT0_ATTACH n = e)) ∧
      (byteAt b 8 = 1 → (s.sliceOf ch).migs = [(k, leAt b 0 8)] → (s.sliceOf ch).ctxs = [] →
        Answers (.reattachMigration ch recs) s ch 0x11 (token ++ leBytes 8 0) fun t => t.attOf no = made ∧ (t.sliceOf ch).migs = [] ∧ grown t)) ∧
    ((s.attsOf ch).filter (fun x => ((s.attOf x).st == .gone || (s.attOf x).st == .locked) && (s.attOf x).epid == leAt b 0 8) = [a] → s.slice ch ≠ 0 →
      (∀ x ∈ s.extList, (s.extOf x).att ≠ some a) → Answers (.release ch) s ch 0x12 [] fun t => t.attOf a = {} ∧ grown t ∧ t.gddr = s.gddr) ∧
    (s.callerSlot ch = some e → s.attLive ch e = true → ctx = leAt b 24 2 → s.ctxSlot ch ctx = some e → addrOk (leAt b 0 8) (2 ^ Reg.ADM_SQ_ADDR_ADDR.lo) = true →
      addrOk (leAt b 8 8) (2 ^ Reg.ADM_CQ_ADDR_ADDR.lo) = true → addrOk (leAt b 16 8) (2 ^ Reg.ADM_INDEX_ADDR_ADDR.lo) = true → 6 ≤ byteAt b 26 →
      byteAt b 26 ≤ 10 → 6 ≤ byteAt b 27 → byteAt b 27 ≤ 10 → s.rd Reg.ADM_DESC0_BOUND ch = 0 → (s.admOf ch).held = [] → (s.admOf ch).lost = 0 →
      Answers (.bindAdmin ch) s ch 0x13 [] fun t => t.rd Reg.ADM_DESC0_BOUND ch = 1 ∧ t.rd Reg.ADM_DESC0_ATTACH ch = e ∧
        t.rd Reg.ADM_DESC0_CONTEXT ch = ctx % 2 ^ Reg.ADM_DESC0_CONTEXT.w ∧ t.rd Reg.ADM_DESC0_SQ_LOG2 ch = byteAt b 26 ∧
        t.rd Reg.ADM_DESC0_CQ_LOG2 ch = byteAt b 27 ∧ t.admOf ch = { s.admOf ch with written := 0, headSeen := 0, sqHead := 0 } ∧ t.out = s.out) ∧
    (s.rd Reg.ADM_DESC0_BOUND ch = 1 → Answers (.unbindAdmin ch) s ch 0x14 [] fun t => t.rd Reg.ADM_DESC0_BOUND ch = 0 ∧ t.adms = s.adms ∧ t.out = s.out)

/-- R353, R356 to R359, R365: KEY_AGREE issues a challenge for 10 s; KEY_INSTALL consumes it and fills an empty key slot; KEY_ACTIVATE takes a key not
yet used and starts its counter at PHASE times 2^63; KEY_RETIRE clears a key that is not active; KEY_QUERY tells of both; CTX_BIND_QP binds a
queue pair in RESET. Challenges are free values (log entry 1).
R127, R255, R382, R383, R395: the provider's commands on its page: an admin command, events read out of the held ones, registers read and
written, the staging buffer filled, a good image taken into flash, a transform installed and removed, and the log of configuration commands.
Those that change the configuration extend M_CONFIG. -/
def Obligations.MailboxKeysAndProvider : Prop :=
  (∀ (s : State) (ch c owner key : Nat), ch < 512 →
      let b := s.params ch
      let ph := byteAt b 2
      let chals := Tbl.get [] ch s.mgmt.chals
      let start (k : Nat) : Prop := s.cipMap ch k = some c
      ((s.openChals ch).length < 4 → Answers (.keyAgree ch) s ch 0x20 (leBytes 16 (s.free 128)) fun t =>
        Tbl.get [] ch t.mgmt.chals = s.openChals ch ++ [(s.free 128, s.now)]) ∧
      (start (beAt b 0 2) → ph ≤ 1 → s.rd (slotValid ph) c = 0 → (s.openChals ch).any (fun x => x.1 == leAt b 8 16) = true →
        s.keyIdTaken ch c (beAt b 4 2) = false → Answers (.keyInstall ch owner true true key) s ch 0x21 [] fun t => t.rd (slotValid ph) c = 1 ∧
          t.rd (slotUsed ph) c = 0 ∧ t.rd (slotKeyId ph) c = beAt b 4 2 ∧ Tbl.get 0 (2 * c + ph) t.cip.keys = key % 2 ^ 256 ∧
          Tbl.get [] ch t.mgmt.chals = chals.filter (fun x => x.1 != leAt b 8 16)) ∧
      (start (leAt b 0 2) → ph ≤ 1 →
        (s.rd (slotValid ph) c = 1 → s.rd (slotUsed ph) c = 0 → Answers (.keyActivate ch) s ch 0x22 (leBytes 8 (ph * 2 ^ 63)) fun t =>
          t.rd Reg.CIP_CTX0_TX_PHASE c = ph ∧ t.rd Reg.CIP_CTX_CTR_COUNTER c = ph * 2 ^ 63 ∧ t.rd (slotUsed ph) c = 1 ∧
          t.rd Reg.CIP_CTX0_REKEY_REQ c = 0 ∧ t.rd Reg.CIP_CTX0_EXHAUSTED c = 0 ∧ t.cip = s.cip) ∧
        (s.rd Reg.CIP_CTX0_TX_PHASE c ≠ ph → Answers (.keyRetire ch) s ch 0x23 [] fun t => t.rd (slotValid ph) c = 0 ∧ t.rd (slotUsed ph) c = 0 ∧
          Tbl.get 0 (2 * c + ph) t.cip.keys = 0)) ∧
      (start (leAt b 0 2) → Answers (.keyQuery ch) s ch 0x24 (leBytes 1 (s.rd Reg.CIP_CTX0_TX_PHASE c) ++
        leBytes 1 (s.rd (slotValid 0) c + 2 * s.rd (slotValid 1) c) ++ leBytes 2 (s.rd (slotKeyId 0) c) ++ leBytes 2 (s.rd (slotKeyId 1) c) ++ leBytes 2 0 ++
        leBytes 8 (s.keyCount c)) fun t => t.cip = s.cip ∧ t.out = s.out) ∧
      (start (leAt b 2 2) → c < 1024 → leAt b 0 2 < 16384 → s.qpValid (leAt b 0 2) = true → s.qpTenant (leAt b 0 2) = ch → s.cst (leAt b 0 2) = Cst.reset →
        Answers (.ctxBindQp ch) s ch 0x25 [] fun t => t.qpCtx (leAt b 0 2) = some c) ∧
      (Does (.keyChallengeExpire ch) s fun t => Tbl.get [] ch t.mgmt.chals = chals.drop 1 ∧ t.regs = s.regs ∧ t.cip = s.cip)) ∧
  (∀ (s : State) (o n v a i : Nat) (x : AdmX) (ev : AdmEnt) (sg : Option Nat),
      let ch := 1023
      let b := s.params ch
      let e := b.take 64
      let grown (u t : State) : Prop := t.quad Reg.LCS_M_CONFIG = extend (u.quad Reg.LCS_M_CONFIG) (s.digest (some ch))
      let img := Mem.bytes s.mgmt.stage 0 (leAt b 0 4)
      let code := Mem.bytes s.mgmt.stage 0 (leAt b 4 4)
      let log := (s.mgmt.log.drop (leAt b 0 4)).take 41
      let said : List Fld := [Reg.LCS_M_CONFIG, Reg.MBX_CMD_COUNT_COUNT, Reg.MBX_SLOT_STATUS_SEQ_DONE, Reg.MBX_SLOT_STATUS_LAST_STATUS,
                              Reg.MBX_SLOT_STATUS_LAST_CMD, Reg.MBX_SLOT_STATUS_DONE, Reg.MBX_SLOT_STATUS_BUSY]
      (byteAt e 0 = 6 → s.ownsQp provider (leAt e 8 2) = true → Answers (.admin ch x) s ch 0x100
        (leBytes 4 (leAt e 4 4) ++ leBytes 1 0 ++ leBytes 1 0 ++ leBytes 1 6 ++ leBytes 1 0 ++
          leBytes 8 (s.rd Reg.QP_HEAD_HEAD (leAt e 8 2) + 2 ^ 32 * s.rd Reg.QP_OUT_COUNT (leAt e 8 2) + 2 ^ 48 * s.sched (leAt e 8 2)) ++
          leBytes 8 (s.rd Reg.QP_EARLY_DB_COUNT_COUNT (leAt e 8 2)) ++ leBytes 8 0) fun t => t.gddr = s.gddr ∧ t.out = s.out ∧ t.conns = s.conns) ∧
      ((s.admOf provider).held = [ev] → ev.event = true → (s.admOf provider).lost = 0 → 1 ≤ byteAt b 0 → byteAt b 0 ≤ 61 →
        Answers (.eventRead ch) s ch 0x101 (leBytes 4 1 ++ List.replicate 12 0 ++ ((admBytes ev 0 0).take 31 ++ [0])) fun t =>
          (t.admOf provider).held = [] ∧ t.out = s.out) ∧
      (blockOff (leAt b 0 8) n = some o → leAt b 8 2 = n →
        (1 ≤ n → n ≤ 240 → Answers (.regRead ch) s ch 0x102 ((List.range n).flatMap (fun k => leBytes 8 (s.readReg (o + 8 * k)))) fun t =>
          t.gddr = s.gddr ∧ t.out = s.out) ∧
        (n = 1 → v = leAt b 16 8 → s.mayWrite o v = true → (s.mbxWrite o v).mgmt = s.mgmt → Answers (.regWrite ch) s ch 0x103 [] fun t =>
          SameFieldsBut said (s.mbxWrite o v) t ∧ grown (s.mbxWrite o v) t)) ∧
      (leAt b 0 4 % 8 = 0 → leAt b 4 4 = n → n % 8 = 0 → 8 ≤ n → n ≤ 1888 → leAt b 0 4 + n ≤ stageBytes → Answers (.stage ch) s ch 0x104 [] fun t =>
        (∀ k < n, Mem.rd t.mgmt.stage (leAt b 0 4 + k) = b.getD (32 + k) 0) ∧ t.gddr = s.gddr) ∧
      (leAt b 0 4 ≤ stageBytes → s.imageFault img sg true = 0 → Answers (.fwCommit ch sg true) s ch 0x105 [] fun t => t.mgmt.flash = some img ∧ grown s t) ∧
      (i = byteAt b 0 → i ≠ 0 →
        (leAt b 4 4 ≠ 0 → leAt b 4 4 % 4 = 0 → leAt b 4 4 ≤ stageBytes → leAt b 8 4 % 4 = 0 → leAt b 8 4 < leAt b 4 4 → crc32c code = leAt b 12 4 →
          s.mgmt.xformPlace (leAt b 4 4 / 4) = some a → Answers (.xformInstall ch) s ch 0x106 [] fun t => t.rd Reg.CLU_XFORM_ENT_VALID i = 1 ∧
            t.rd Reg.CLU_XFORM_ENT_ENTRY_PC i = (a + leAt b 8 4 / 4) % 2 ^ Reg.CLU_XFORM_ENT_ENTRY_PC.w ∧
            Tbl.get (0, 0) i t.mgmt.xforms = (a, leAt b 4 4 / 4) ∧ grown s t) ∧
        (s.rd Reg.CLU_XFORM_ENT_VALID i = 1 → MbxOpen s ch 0x107 → Does (.xformRemove ch) s fun t => t.rd Reg.CLU_XFORM_ENT_VALID i = 0 ∧
          (t.mbxOf ch).waiting = true ∧ t.ten.jobs = s.ten.jobs ++ [.unxform i] ∧ (t.admOf provider).busy = true)) ∧
      (s.xformRuns i = false → s.ten.jobs = [.unxform i] → (s.mbxOf ch).waiting = true → hdrCmd (s.header ch) = 0x107 → (s.admOf provider).queue = [] →
        Does (.xformRemoveDone i) s fun t => MbxSays s t ch 0 0 [] ∧ t.ten.jobs = [] ∧ Tbl.get (0, 0) i t.mgmt.xforms = (0, 0) ∧
          (t.admOf provider).busy = false ∧ grown s t) ∧
      (Answers (.configLog ch) s ch 0x108 (leBytes 4 log.length ++ List.replicate 12 0 ++
        log.flatMap (fun x => padTo 32 x.1 ++ leBytes 2 x.2.1 ++ List.replicate 6 0 ++ leBytes 8 x.2.2)) fun t => t.mgmt.log = s.mgmt.log ∧ t.out = s.out))

/-- R370, R371, R378, R390 to R392: the life cycle: a challenge of 60 s, an advance to the next state under it, the record that starts the wipe and the
commit that makes the state good; MODULE_RESET answers, then resets or restarts; a fault of a core of the management processor is counted and
reported, and restarts it. The challenge is a free value (log entry 1). -/
def Obligations.LifeCycle : Prop :=
  ∀ (s : State) (ch core target : Nat) (hash : List Byte) (b : Boot), ch < 1024 →
    let par := s.params ch
    let m := s.mgmt
    let st := s.rd Reg.LCS_STATE_STATE 0
    let owner := sha256 ((par.drop 32).take 64)
    let gone (t : State) : Prop := t.sqs = [] ∧ t.conns = [] ∧ t.cqs = [] ∧ t.pels = [] ∧ t.near = [] ∧ t.cip = {}
    let fault (k : Instr) (f : Fld) : Prop := s.coreRuns core = true → s.faultedLately core = false → Does k s fun t =>
      t.rd f 0 = satAdd f.w (s.rd f 0) 1 ∧ t.rd Reg.RES_ERRORS_COUNT 0 = satAdd 64 (s.rd Reg.RES_ERRORS_COUNT 0) 1 ∧ t.rd Reg.MBX_KILURN_STATE 0 = 2 ∧
      Tbl.get 0 core t.mgmt.faults = s.now ∧ t.mgmt.stage = [] ∧ t.rd Reg.MBX_KILURN_CORES_FENCED 0 = s.rd Reg.MBX_KILURN_CORES_FENCED 0
    Answers (.lcChallenge ch) s ch 0x110 (leBytes 16 (s.free 128)) (fun t => t.mgmt.lcChal = some (s.free 128, s.now)) ∧
    (Does .lcChallengeExpire s fun t => t = { s with mgmt := { m with lcChal := none } }) ∧
    (lcNext st = some (byteAt par 0) → s.lcChalOk (leAt par 16 16) = true → (st ≠ 0 → owner = s.quad Reg.LCS_OWNER_HASH) →
      Answers (.lcAdvance ch true) s ch 0x111 [] fun t => t.mgmt.advance = some (byteAt par 0, owner) ∧ t.mgmt.lcChal = none ∧
        t.rd Reg.LCS_STATE_STATE 0 = st ∧ t.quad Reg.LCS_M_CONFIG = extend (s.quad Reg.LCS_M_CONFIG) (s.digest (some ch))) ∧
    (m.advance.isSome = true → s.rd Reg.LCS_STATE_PENDING 0 = 0 → Does .lcPendingRecord s fun t => t.rd Reg.LCS_STATE_PENDING 0 = 1 ∧ gone t ∧
      t.gddr = [] ∧ t.mgmt.advance = m.advance) ∧
    (s.rd Reg.LCS_STATE_PENDING 0 = 1 → m.advance = some (target, hash) → target < 4 → Does (.lcStateCommit b) s fun t =>
      t.rd Reg.LCS_STATE_STATE 0 = target ∧ t.rd Reg.LCS_STATE_PENDING 0 = 0 ∧ t.mgmt.advance = none ∧ gone t ∧ t.gddr = []) ∧
    (MbxOpen s ch 0x120 →
      (s.resetKind ch = 0 → Does (.moduleResetWarm ch b) s fun t => gone t ∧ t.now = s.now ∧ t.mgmt.stage = []) ∧
      (s.resetKind ch = 1 → Does (.moduleResetRestart ch true b) s fun t => MbxSays s t ch 0 0 [] ∧ t.rd Reg.MBX_KILURN_STATE 0 = 2 ∧
        t.mgmt.stage = [] ∧ t.gddr = s.gddr ∧ t.conns = s.conns)) ∧
    (core < 4 → fault (.controlFlowMismatch core true b) Reg.MBX_CFS_ERR_COUNT ∧ fault (.mgmtEccUncorrectable core true b) Reg.MBX_ECC_UNCORR ∧
      fault (.watchdogExpire core true b) Reg.MBX_WDOG_COUNT_COUNT)

/-! Traffic control, far ports and lanes. -/

/-- R196 to R199: a refill adds to each shaper and to both buckets of each meter what its rate gives for the cycles since the last one, up to their
sizes (stated where the cadence is not locked, for one shaper of each kind and one meter); APPLY makes a shadow configuration act, with tokens
at 0 or buckets full where it changes rates, sizes or the binding. -/
def Obligations.TrafficShaping : Prop :=
  ∀ (s : State) (i j k : Nat) (m : Meter),
    let last := s.traffic.lastRefill
    let at_ := max last (s.markOf 5) + s.refillCt
    let filled (act tok : Fld) (n : Nat) : Nat :=
      wrap 64 (min (tokens (s.rd tok n) + (refillOf (bits (s.rd act n) 0 24) (at_ - last) : Nat)) ((1024 * bits (s.rd act n) 24 24 : Nat) : Int))
    let q := s.qshpShadow i
    let g := s.tshpShadow i
    let n := s.mtrShadow i
    let o := s.meterOf i
    (s.listed Reg.TRN_QSHP_ACT_CFG = [i] → s.listed Reg.TRN_TSHP_ACT_CFG = [j] → s.traffic.meters = [(k, m)] → s.synced = false → s.resting = false →
      s.now ≤ at_ → at_ < 2 ^ 64 → Does .shaperRefill s fun t => t.now = at_ ∧ t.traffic.lastRefill = at_ ∧
        t.rd Reg.TRN_QSHP_TOKENS_TOKENS i = filled Reg.TRN_QSHP_ACT_CFG Reg.TRN_QSHP_TOKENS_TOKENS i ∧
        t.rd Reg.TRN_TSHP_TOKENS_TOKENS j = filled Reg.TRN_TSHP_ACT_CFG Reg.TRN_TSHP_TOKENS_TOKENS j ∧ t.meterOf k = m.refill (at_ - last)) ∧
    (i < 8192 → Does (.trnQshpApply i) s fun t => t.rd Reg.TRN_QSHP_ACT_CFG i = q.1 % 2 ^ Reg.TRN_QSHP_ACT_CFG.w ∧ Tbl.get 0 i t.traffic.qbind = q.2 ∧
      t.rd Reg.TRN_QSHP_TOKENS_TOKENS i = (if bits (s.rd Reg.TRN_QSHP_ACT_CFG i) 0 48 = bits q.1 0 48 ∧ Tbl.get 0 i s.traffic.qbind = q.2 then
        s.rd Reg.TRN_QSHP_TOKENS_TOKENS i else 0) ∧ SameFieldsBut [Reg.TRN_QSHP_ACT_CFG, Reg.TRN_QSHP_TOKENS_TOKENS] s t) ∧
    (i < 1024 →
      (Does (.trnTshpApply i) s fun t => t.rd Reg.TRN_TSHP_ACT_CFG i = g.1 % 2 ^ Reg.TRN_TSHP_ACT_CFG.w ∧ Tbl.get 0 i t.traffic.tbind = g.2 ∧
        t.rd Reg.TRN_TSHP_TOKENS_TOKENS i = (if bits (s.rd Reg.TRN_TSHP_ACT_CFG i) 0 48 = bits g.1 0 48 ∧ Tbl.get 0 i s.traffic.tbind = g.2 then
          s.rd Reg.TRN_TSHP_TOKENS_TOKENS i else 0) ∧ SameFieldsBut [Reg.TRN_TSHP_ACT_CFG, Reg.TRN_TSHP_TOKENS_TOKENS] s t) ∧
      (Does (.trnMtrApply i) s fun t => t.regs = s.regs ∧
        t.meterOf i = if bits o.cfg0 0 48 = bits n.cfg0 0 48 ∧ bits o.cfg1 0 48 = bits n.cfg1 0 48 ∧ o.bind = n.bind then
            { o with cfg0 := n.cfg0, cfg1 := n.cfg1 }
          else { n with tc := 1024 * bits n.cfg1 0 24, tp := 1024 * bits n.cfg1 24 24 }))

/-- R193, R200 to R203, R214: the gate list goes on to its next entry at its count; the scheduler sends the head frame of the one class that is
eligible; a class that drains below XON is let go with a PFC frame of 0, one that does not is held off again; PAUSE and PFC frames pause a port
or a class for their quanta, and a pause ends. -/
def Obligations.TrafficEgress : Prop :=
  ∀ (s : State) (n c quanta : Nat) (f : Frame) (rest : List Frame) (e : Nat × Nat) (l : List Nat),
    let p := s.farOf n
    let off := s.rd Reg.TRN_HFC_STAT_OFF_SENT n
    let t1 := s.now + s.gateNow.2.2
    let entry := (gateEntry s.gateList 0 ((t1 - s.traffic.gateBase) % max 1 s.traffic.gateCycle)).1
    let seen : Nat := satAdd 64 (s.rd Reg.MAC_RX_PAUSE_COUNT n) 1
    let empty : Prop := (∀ x ∈ s.far, x.2.ingress = [])
    (s.gateReady = true → s.traffic.gateBase ≤ s.now → t1 < 2 ^ 64 → s.armed = [] → s.resting = false → Does .gateEntryChange s fun t => t.now = t1 ∧
      t.rd Reg.TRN_GATE_STATUS_ENTRY 0 = entry % 2 ^ Reg.TRN_GATE_STATUS_ENTRY.w ∧ t.rd Reg.TRN_GATE_STATUS_RUNNING 0 = 1 ∧
      t.rd Reg.TRN_GATE_STATUS_FALLBACK_ACTIVE 0 = 0) ∧
    (c < 16 → p.queue c = f :: rest → (∀ d, d ≠ c → p.queue d = []) → s.eligible n c = true → s.gateOn = false → f.bytes ≤ 9216 → empty →
      Does (.egressSchedule n) s fun t => t.out = s.out ++ [.frame n f] ∧ (t.farOf n).queue c = rest ∧
        t.rd Reg.MAC_TX_FRAMES_COUNT n = satAdd 64 (s.rd Reg.MAC_TX_FRAMES_COUNT n) 1 ∧ SameFieldsBut (Reg.MAC_TX_FRAMES_COUNT :: pmcFields) s t) ∧
    (bit off c = true →
      (p.occ c < 1024 * s.xonKib n → Does (.pfcXonSend n c) s fun t => t.out = s.out ++ [.pfc n c 0] ∧
        t.rd Reg.TRN_HFC_STAT_OFF_SENT n = clrBit off c % 2 ^ 16) ∧
      (1024 * s.xonKib n ≤ p.occ c → Does (.pfcRefreshTimer n c) s fun t => t.out = s.out ++ [.pfc n c 0xFFFF] ∧ SameFieldsBut pmcFields s t)) ∧
    (quanta ≠ 0 → s.rd Reg.MAC_PORT_CFG_PAUSE_RX_EN n = 1 → s.rd Reg.MAC_PORT_CFG_PFC_RX_EN n = 0 → Does (.pauseFrame n quanta) s fun t =>
      t.farOf n = { p with pausedTo := Tbl.put 16 (s.pauseEnd n quanta) p.pausedTo } ∧ SameFieldsBut [Reg.MAC_RX_PAUSE_COUNT] s t ∧
      t.rd Reg.MAC_RX_PAUSE_COUNT n = seen) ∧
    (c < 16 → s.rd Reg.MAC_PORT_CFG_PFC_RX_EN n = 1 → l.getD c 0 = quanta → 0 < quanta → quanta < 65536 → Does (.pfcFrame n (2 ^ c) l) s fun t =>
      t.farOf n = { p with pausedTo := Tbl.put c (s.pauseEnd n quanta) p.pausedTo } ∧ t.rd Reg.MAC_RX_PAUSE_COUNT n = seen ∧
      t.rd Reg.TRN_HFC_STAT_PAUSED n = setBit (s.rd Reg.TRN_HFC_STAT_PAUSED n) c % 2 ^ 16) ∧
    (c < 16 → p.pausedTo.find? (fun x => x.1 == c) = some e → e.2 < 2 ^ 64 → Does (.pauseExpire n c) s fun t =>
      t.farOf n = { p with pausedTo := Tbl.del c p.pausedTo } ∧ t.now = max s.now e.2 ∧
      t.rd Reg.TRN_HFC_STAT_PAUSED n = clrBit (s.rd Reg.TRN_HFC_STAT_PAUSED n) c % 2 ^ 16)

/-- R209 to R213, R220 to R222: a port takes its configuration, and a change of it restarts its link; a link goes down and comes up; a frame for another
module is checked, counted and forwarded with its TTL one less; a frame with a bad FCS is dropped and counted; forwarding is enabled, held over
a warm reset until it is confirmed, and idle after the hold. -/
def Obligations.FarPorts : Prop :=
  ∀ (s : State) (n v e : Nat) (f : RxFrame) (k : Pkt),
    let st := s.rd Reg.FWP_STATUS_STATE 0
    let empty : Prop := (∀ x ∈ s.far, x.2.ingress = [])
    let rx : Nat := satAdd 64 (s.rd Reg.MAC_RX_FRAMES_COUNT n) 1
    (Does (.macPortCfgWrite n v) s fun t => t.rd Reg.MAC_PORT_CFG_WIDTH n = v % 2 ^ 3 ∧ t.rd Reg.MAC_PORT_CFG_PMD n = v / 2 ^ 3 % 2 ^ 2 ∧
      t.rd Reg.MAC_PORT_CFG_AN_EN n = v / 2 ^ 5 % 2 ∧ t.rd Reg.MAC_PORT_CFG_ENABLE n = v / 2 ^ 6 % 2 ∧
      (s.rd Reg.MAC_PORT_CFG_WIDTH n ≠ v % 2 ^ 3 → t.rd Reg.MAC_PORT_STATUS_LINK_UP n ≠ 1)) ∧
    (empty → s.rd Reg.MAC_PORT_STATUS_LINK_UP n = 1 → Does (.farLinkDown n) s (Writes [(Reg.MAC_PORT_STATUS_LINK_UP, n, 0),
      (Reg.MAC_PORT_STATUS_LINK_CHANGE, n, 1), (Reg.MAC_LINK_DOWN_COUNT_COUNT, n, satAdd 64 (s.rd Reg.MAC_LINK_DOWN_COUNT_COUNT n) 1)] s)) ∧
    (empty → s.rd Reg.MAC_PORT_STATUS_LINK_UP n = 0 → s.mayTrain n = true → s.board.lanes.substs = [] → Does (.farLinkUp n) s
      (Writes [(Reg.MAC_PORT_STATUS_LINK_UP, n, 1), (Reg.MAC_PORT_STATUS_LINK_CHANGE, n, 1), (Reg.MAC_PORT_STATUS_RETRAINING, n, 0)] s)) ∧
    (s.portUp n = true → s.board.pwr.off = false → s.power < 2 →
      (f.fcsOk = false → Does (.farFrameReceive n f) s fun t => t.rd Reg.MAC_RX_FRAMES_COUNT n = rx ∧
        t.rd Reg.MAC_RX_FCS_DROP_COUNT n = satAdd 64 (s.rd Reg.MAC_RX_FCS_DROP_COUNT n) 1 ∧ t.far = s.far) ∧
      (f.fcsOk = true → 64 ≤ f.bytes → f.bytes ≤ 9216 → f.etype = 0x86DD → s.rd Reg.CAD_SYNC_INTERVAL_ETYPE 0 ≠ 0x86DD → groupAddr f.dst = false → f.dst = s.rd Reg.MAC_ADDR_ADDR n →
        s.ingressFull n f = false → f.tree = none → f.pkt = some k → f.dport = s.fwId.2 → k.dstMod ≠ s.fwId.1 → s.rd Reg.FWP_CTRL_ENABLE 0 = 1 →
        (st = 1 ∨ st = 2) → (s.farOf n).ingress = [] → s.forwardPort n k.dstMod f.sport = some e → 1 < f.ttl → s.classOn e = true → f.ect = false →
        bit (s.rd Reg.TRN_HFC_CLASS_EN n) f.tc = false → Does (.farFrameReceive n f) s fun t =>
          t.farOf e = (s.farOf e).setQueue k.tc ((s.farOf e).queue k.tc ++ [{ heldFrame f false with ttl := f.ttl - 1, tc := k.tc }]) ∧
          t.rd Reg.FWP_FWD_FRAMES_COUNT 0 = satAdd 64 (s.rd Reg.FWP_FWD_FRAMES_COUNT 0) 1 ∧ t.rd Reg.MAC_RX_FRAMES_COUNT n = rx ∧
          (t.farOf n).ingress = [])) ∧
    (v % 2 = 1 → st = 0 → Does (.fwpEnableWrite v) s
      (Writes [(Reg.FWP_CTRL_ENABLE, 0, 1), (Reg.FWP_CTRL_MC_EN, 0, v / 2 % 2), (Reg.FWP_STATUS_STATE, 0, 1)] s)) ∧
    (st = 2 → (Does .fwpConfirmGo s (Writes [(Reg.FWP_STATUS_STATE, 0, 1)] s)) ∧ (Does .warmHoldExpire s (Writes [(Reg.FWP_STATUS_STATE, 0, 3)] s)))

/-- R216 to R219: a failing lane whose port has a free spare is proposed to the partner under a SEQ of its own (a free value, log entry 1); a proposal is
taken up; the spare trained, DONE goes out; with DONE both ways the position is served by the spare; a refusal, an abort and a timeout free the
spare or end the exchange; a pin substitution that succeeds brings its port up. -/
def Obligations.LaneSparing : Prop :=
  ∀ (s : State) (l reason k port : Nat) (near : Bool) (m : LaneMsg) (e : Exch) (x : Subst),
    let pos := positionOf near port e.logical
    let busy := if near then Reg.MAC_NEAR_STATUS_REMAP_BUSY else Reg.MAC_PORT_STATUS_REMAP_BUSY
    let lost : Nat := satAdd Reg.MAC_REMAP_COUNT_ABORTED.w (s.rd Reg.MAC_REMAP_COUNT_ABORTED 0) 1
    let proposes (c : Instr) (why : Nat) : Prop := Does c s fun t =>
      t.exchOn near port = some { near := near, port := port, logical := s.logicalPos l, spare := k, seq := s.free 32, proposer := true } ∧
      t.rd Reg.MAC_SPARE_CFG_STATE k = 1 ∧ t.rd busy port = 1 ∧
      t.out = s.out ++ [.remap near port (s.laneMsg near port (s.logicalPos l) k (s.free 32) 1 why)]
    (s.exchOn near port = none → s.board.lanes.substs = [] → s.remapOn near = true → s.freeSpare near port true = some k →
      (near = decide (36 ≤ l) → s.portOf l = some port → proposes (.laneFailing l reason) reason ∧ proposes (.macSpareReqLane l) 4) ∧
      (m.crcOk = true → Does (.laneRemapPropose near port m) s fun t => t.out = s.out ∧ t.rd Reg.MAC_SPARE_CFG_STATE k = 1 ∧
        t.exchOn near port = some { near := near, port := port, logical := m.logical, spare := k, seq := m.seq, proposer := false })) ∧
    (s.exchOn near port = some e → e.near = near → e.port = port → m.crcOk = true → m.seq = e.seq →
      (e.sent = false → e.rcvd = false → Does (.spareTrained near port) s fun t => t.exchOn near port = some { e with sent := true } ∧
        t.rd Reg.MAC_SPARE_CFG_STATE e.spare = 2 ∧ t.out = s.out ++ [.remap near port (s.laneMsg near port e.logical e.spare e.seq 2 0)]) ∧
      (e.sent = true → s.rd Reg.MAC_LANE_MAP_PHYS pos < 72 → Does (.laneRemapDone near port m) s fun t => t.exchOn near port = none ∧
        t.rd Reg.MAC_LANE_MAP_PHYS pos = spareLane e.spare ∧ t.rd Reg.MAC_SPARE_CFG_STATE e.spare = 3 ∧ t.rd busy port = 0 ∧
        t.rd Reg.MAC_REMAP_COUNT_DONE 0 = satAdd Reg.MAC_REMAP_COUNT_DONE.w (s.rd Reg.MAC_REMAP_COUNT_DONE 0) 1) ∧
      (e.proposer = true → Does (.laneRemapRefuse near port m) s fun t => t.exchOn near port = none ∧ t.rd Reg.MAC_SPARE_CFG_STATE e.spare = 0 ∧
        t.out = s.out) ∧
      (Does (.laneRemapAbort near port m) s fun t => t.exchOn near port = none ∧ t.rd Reg.MAC_SPARE_CFG_STATE e.spare = 0 ∧
        t.rd Reg.MAC_REMAP_COUNT_ABORTED 0 = lost ∧ t.out = s.out) ∧
      (e.proposer = true → e.rcvd = false → Does (.remapTimeout near port) s fun t => t.exchOn near port = none ∧
        t.rd Reg.MAC_REMAP_COUNT_ABORTED 0 = lost ∧ t.out = s.out ++ [.remap near port (s.laneMsg near port e.logical e.spare e.seq 4 0)])) ∧
    (s.board.lanes.substs = [x] → x.port = port → s.rd Reg.MAC_LANE_MAP_PHYS x.pos < 72 → s.mayTrain port = true →
      Does (.pinSubstitutionDone port true) s fun t => t.board.lanes.substs = [] ∧ t.rd Reg.MAC_LANE_MAP_PHYS x.pos = spareLane x.spare ∧
        t.rd Reg.MAC_PORT_STATUS_LINK_UP port = 1)

/-! Collective operations. -/

/-- R303, R304, R307 to R311, R315, R318, R319, R321, R322: an operation starts at its launch count on the lowest free banks, its program's threads at
ENTRY with the base count; a round with no receive pending meets its deadline; a chunk of one packet with a good CRC waits whole for its descriptor
and is acknowledged; a STALL that asks to re-form, and a LEAVE, fix T_R; at T_R the members named are excluded and the epoch goes up by one; an
operation whose results are visible completes. -/
def Obligations.Collectives : Prop :=
  ∀ (s : State) (p sl serial round at_ bytes drops listed port : Nat) (o : PelOp) (y : Op) (pk : Pkt) (r : Rx),
    let pl := s.pelOf p
    let q := pk.dstQp
    let out := excludedSet pl.live pl.ctls
    let live := pl.live.filter (fun m => !out.contains m)
    let due (k : EvKind) : Prop := s.armed = [{ kind := k, at_ := at_ }] ∧ s.now ≤ at_ ∧ at_ < 2 ^ 64 ∧ s.rd Reg.CAD_STATUS_STATE 0 ≠ 4 ∧ s.resting = false
    let link (opc len : Nat) : Prop := Admitted s pk r ∧ InOrder s pk ∧ CanSend s q port ∧ s.linkPel q = some (p, sl) ∧ pl.chunks = [] ∧
      leAt pk.ext 0 4 = pl.group ∧ leAt pk.ext 4 4 = pl.epoch ∧ len = pk.payload.length ∧ len ≤ s.mtu q ∧ opc < 0x1C
    let chunk (k : Instr) (opc : Nat) : Prop := link opc (leAt pk.ext 20 4) → pk.payload ≠ [] → leAt pk.ext 16 4 = 0 → leAt pk.ext 20 4 ≤ 4194304 →
      chunkSrcOk pl sl { chunkPkt pk with opc := opc } = true → crc32c pk.payload = leAt pk.ext 24 4 → pl.bankIds = [] → Does k s fun t =>
        t.pelOf p = { pl with chunks := [{ chunkOf sl { pk with opc := opc } with parts := [(0, pk.payload)], whole := true }] } ∧
        t.rd Reg.TRN_QP_T2_RCV_BASE q = (pk.psn + 1) % 2 ^ 32 ∧ t.recOf q pk.msn = none ∧ (t.connOf q).unackable = []
    let ctl := ctlOf pk.ext pk.payload
    let fixes (k : Instr) (opc : Nat) : Prop := link opc (2 * leAt pk.ext 18 2) → pk.pktOffset = 0 → pl.st = .running → pl.tR = none → pl.seen = [] →
      Does k s fun t => (t.pelOf p).tR = some ctl.count ∧ (t.pelOf p).st = .reforming ∧ (t.pelOf p).seen = [ctl] ∧
        (t.pelOf p).ctls = pl.ctls ++ [ctl] ∧ (t.pelOf p).live = pl.live ∧ (t.pelOf p).epoch = pl.epoch
    (pl.op = some o → o.serial = serial → o.started = false → o.missed = false → o.launchAt = at_ → at_ ≠ 0 → due (.launch p serial) → pl.st = .armed →
      s.banksLeft p = true → Does (.launchFire p serial) s fun t => t.now = at_ ∧ t.armed = [] ∧
        t.pelOf p = { pl with op := some { o with started := true, missed := false, base := at_, epochStart := pl.epoch }, st := .running,
                              bankIds := (s.freeBanks pl.cluster).take pl.banks } ∧
        (∀ k ∈ pl.coreList, t.rd Reg.CLU_THR_CTRL_RUN (ix pl.cluster (2 * k + 1)) = 1 ∧
          t.pc pl.cluster (2 * k + 1) = (pl.codeAt + pl.entry) % 2 ^ 17 ∧ t.g pl.cluster (2 * k + 1) 2 = at_)) ∧
    (pl.op = some o → due (.deadline p round) → pl.chunks = [] → s.pendingSlots p round = [] → Does (.stepDeadlineFire p round) s fun t => t.now = at_ ∧
      t.armed = [] ∧ t.pelOf p = { pl with op := some { o with settled := settledBy pl o round } }) ∧
    chunk (.rxChunk pk r) 0x18 ∧ chunk (.rxBcastChunk pk r) 0x19 ∧
    (ctl.kind ≠ 3 → ctl.action = 2 → fixes (.rxStall pk r) 0x1A) ∧ (ctl.kind = 3 → fixes (.rxLeave pk r) 0x1B) ∧
    (pl.tR = some at_ → s.armed = [] → s.now ≤ at_ → at_ < 2 ^ 64 → pl.reformAts = [] → pl.op = none → out.contains pl.me = false →
      pl.minMembers ≤ live.length → Does (.reformAtTr p) s fun t => t.now = at_ ∧ (t.pelOf p).epoch = (pl.epoch + 1) % 2 ^ 32 ∧
        (t.pelOf p).live = live ∧ (t.pelOf p).excluded = pl.excluded ++ out ∧ (t.pelOf p).tR = none ∧ (t.pelOf p).ctls = [] ∧
        (t.pelOf p).st = .ready) ∧
    (pl.op = some o → pl.st = .running → o.started = true → o.excl = [] → pl.waitOps = [] → (s.sqOf o.qp).ops = [y] → y.serial = o.serial →
      y.st ≠ .done → s.rd Reg.CQ_DESC0_BROKEN (s.rd Reg.QP_DESC0_CQ o.qp) = 0 → Does (.collectiveComplete p bytes drops listed) s fun t =>
        (t.pelOf p).op = none ∧ (t.pelOf p).st = .ready ∧ (t.pelOf p).bankIds = [] ∧
        (t.sqOf o.qp).ops = [{ y with st := .done, status := if drops ≠ 0 then Code.capacityDrop else Code.success, detail := 0, bytes := bytes,
                                      aux := s.rd Reg.CAD_TDC_VAL_COUNT p }])

/-! Resilience and counters. -/

/-- R401, R405 to R408, R410 to R412: a report is counted and, while the log is clear, logged; a cipher core that reports is fenced and tested while a
spare serves; a test that passes makes the unit a spare, one that fails or does not end fences it; the fabric manager and the test slots test a
free spare; a drained cluster ends its move in a test; a bank's copy ends with the spare in its place; a march wipes. -/
def Obligations.ResilienceTests : Prop :=
  ∀ (s : State) (i k u c b v : Nat) (e : ErrX) (bt : Boot) (t0 : Test) (mv : Move) (x : BankCopy) (m : March),
    let r := s.board.res
    let at_ := s.markOf 1 + 1000000000 * max 1 (s.rd Reg.RES_CTRL_SPARE_TEST_S 0) / s.spareUnits.length
    let added (t : State) (n : Test) : Prop := t.board.res.tests = r.tests ++ [n] ∧ t.rd Reg.RES_TESTS_COUNT 0 = satAdd 64 (s.rd Reg.RES_TESTS_COUNT 0) 1
    let free : Prop := unitIx u < unitCount (unitKind u) ∧ u < 2 ^ 16 ∧ s.isFree u = true ∧ s.underTest u = false
    (u = unitNo 6 i → i < 16 → s.board.pwr.off = false → s.unitSt u = 0 → s.takeSpare 6 = some k → s.rd Reg.RES_CTRL_TEST_EN 0 = 1 → v < 8 →
      Does (.errorReport u v false e true bt) s fun t => t.rd Reg.RES_ERRORS_COUNT 0 = satAdd 64 (s.rd Reg.RES_ERRORS_COUNT 0) 1 ∧ t.unitSt u = 2 ∧
        t.unitSt (unitNo 6 k) = 0 ∧ added t { unit := u } ∧ (s.rd Reg.RES_ERR_LOG0_VALID 0 = 0 →
          t.rd Reg.RES_ERR_LOG0_UNIT 0 = u ∧ t.rd Reg.RES_ERR_LOG0_CLASS 0 = v ∧ t.rd Reg.RES_ERR_LOG0_VALID 0 = 1)) ∧
    (r.tests = [t0] → t0.unit = u → u = unitNo 6 i → i < 16 → t0.slot = false → t0.returns = false →
      let failed (o : Instr) : Prop := Does o s fun t => t.board.res.tests = [] ∧ t.unitSt u = 3 ∧
        t.rd Reg.RES_LASTING_COUNT 0 = satAdd 64 (s.rd Reg.RES_LASTING_COUNT 0) 1
      ((s.passesIn u).length + 1 < s.rd Reg.RES_CTRL_TRANSIENT_LIMIT 0 → Does (.targetedTestDone u true) s fun t => t.board.res.tests = [] ∧
        t.unitSt u = 1 ∧ t.rd Reg.RES_TRANSIENT_COUNT 0 = satAdd 64 (s.rd Reg.RES_TRANSIENT_COUNT 0) 1) ∧
      failed (.targetedTestDone u false) ∧ failed (.targetedTestTimeout u)) ∧
    (free →
      (s.rd Reg.RES_CTRL_TEST_EN 0 = 1 → Does (.resTestReq u) s fun t => added t { unit := u, slot := true }) ∧
      (s.spareUnits ≠ [] → s.board.pwr.off = false → s.synced = false → s.resting = false → s.now ≤ at_ → at_ < 2 ^ 64 →
        Does (.spareTestSlot u) s fun t => t.now = at_ ∧ added t { unit := u, slot := true })) ∧
    (r.moves = [mv] → mv.src = c → c < 10 → mv.swapped = true → mv.core = false → s.drained c = true → Does (.clusterDrainDone c) s fun t =>
      t.board.res.moves = [] ∧ t.rd Reg.CLU_STATUS_STATE c = 3 ∧ t.rd Reg.CLU_CTRL_SERVICE_EN c = 0 ∧ added t { unit := unitNo 0 c }) ∧
    (r.copies = [x] → x.cluster = c → x.old = b → b ≠ x.new → x.new < 17 → Memory.wf (s.cluOf c).bank = true → Does (.bankCopyDone c b) s fun t =>
      t.board.res.copies = [] ∧ t.rd Reg.CLU_BANK_MAP_PHYS (ix c x.logical) = x.new ∧ t.rd Reg.CLU_BANK_MAP_SPARED (ix c x.logical) = 1 ∧
      added t { unit := unitNo 2 (17 * c + b) } ∧
      ∀ n < bankBytes, Mem.rd (t.cluOf c).bank (x.new * bankBytes + n) = Mem.rd (s.cluOf c).bank (b * bankBytes + n)) ∧
    (bits v 0 4 < 10 → bits v 4 5 < 16 → bit v 9 = true → bit v 10 = true → s.rd Reg.RES_MARCH_BUSY 0 = 0 → Does (.resMarchGo v) s fun t =>
      t.rd Reg.RES_MARCH_BUSY 0 = 1 ∧ t.board.res.march =
        some { cluster := bits v 0 4, phys := s.rd Reg.CLU_BANK_MAP_PHYS (ix (bits v 0 4) (bits v 4 5)), preserve := true }) ∧
    (r.march = some m → m.preserve = false → Does (.marchDone false) s fun t => t.rd Reg.RES_MARCH_BUSY 0 = 0 ∧ t.board.res.march = none ∧
      ∀ n < bankBytes, Mem.rd (t.cluOf m.cluster).bank (m.phys * bankBytes + n) = 0)

/-- R413 to R417, R421: a segment of the sweep; the row test of a GDDR7 device that passes; a copy of a device to a free spare, and its end, with the
spare in its place and the device fenced; a step of the scrub; the hourly reading of the margins. -/
def Obligations.ResilienceMemory : Prop :=
  ∀ (s : State) (d y n k : Nat) (t0 : Test) (margins : List Nat),
    let r := s.board.res
    let u := unitNo 7 d
    let src := s.rd Reg.MEM_COPY_SRC 0
    let dst := s.rd Reg.MEM_COPY_DST 0
    let t := r.scrub + n
    s.board.pwr.off = false →
    (r.extra ≠ 0 → s.resting = false → Does (.sweepStep []) s fun t => t.board.res.sweep = (r.sweep + 1) % 2400 ∧ t.board.res.extra = r.extra - 1 ∧
      t.rd Reg.RES_SWEEP_STATUS_PASSES 0 = if r.sweep + 1 = 2400 then (s.rd Reg.RES_SWEEP_STATUS_PASSES 0 + 1) % 2 ^ 32
        else s.rd Reg.RES_SWEEP_STATUS_PASSES 0) ∧
    (r.tests = [t0] → t0.unit = u → d < 18 → t0.slot = false → (s.passesIn u).length + 1 < s.rd Reg.RES_CTRL_TRANSIENT_LIMIT 0 →
      Does (.gddr7RowTestDone d true) s fun t => t.board.res.tests = [] ∧ t.unitSt u = 0 ∧ t.rd Reg.MEM_DEV_STATE d = 0 ∧
        t.rd Reg.RES_TRANSIENT_COUNT 0 = satAdd 64 (s.rd Reg.RES_TRANSIENT_COUNT 0) 1) ∧
    (d < 18 → s.rd Reg.MEM_COPY_ACTIVE 0 = 0 → s.rd Reg.MEM_DEV_STATE d = 0 → s.takeSpare 7 = some y → Does (.memCopyReq d) s fun t =>
      t.rd Reg.MEM_COPY_SRC 0 = d ∧ t.rd Reg.MEM_COPY_DST 0 = y ∧ t.rd Reg.MEM_COPY_ACTIVE 0 = 1 ∧ t.rd Reg.MEM_DEV_STATE d = 2 ∧
      t.rd Reg.MEM_DEV_STATE y = 2 ∧ t.gddr = s.gddr) ∧
    (s.rd Reg.MEM_COPY_ACTIVE 0 = 1 → src ≠ dst → (∀ i < 18, s.rd Reg.MEM_DEV_LASTING_ROWS i < 16 ∧
        s.rd Reg.MEM_DEV_CORR_24H i < s.rd Reg.MEM_CORR_LIMIT_LIMIT 0) → Does .deviceCopyDone s fun t =>
      t.rd Reg.MEM_COPY_ACTIVE 0 = 0 ∧ t.rd Reg.MEM_DEV_LOGICAL dst = s.rd Reg.MEM_DEV_LOGICAL src % 2 ^ 5 ∧ t.rd Reg.MEM_DEV_STATE dst = 0 ∧
      t.rd Reg.MEM_DEV_LOGICAL src = 0x1F ∧ t.rd Reg.MEM_DEV_STATE src = 3 ∧ t.gddr = s.gddr) ∧
    (s.rd Reg.MEM_CTRL_SCRUB_EN 0 = 1 → s.resting = false → Does (.patrolScrubStep n []) s fun u => u.board.res.scrub = t % scrubLines ∧
      u.rd Reg.MEM_SCRUB_STATUS_PASSES 0 = (s.rd Reg.MEM_SCRUB_STATUS_PASSES 0 + t / scrubLines) % 2 ^ 32 ∧
      u.rd Reg.MEM_SCRUB_STATUS_PERMILLE 0 = t % scrubLines * 1000 / scrubLines ∧ u.gddr = s.gddr) ∧
    (r.hours % 24 ≠ 23 → Does (.ageingHourlyRead margins) s fun t => t.board.res.hours = r.hours + 1 ∧
      (k < 110 → t.rd Reg.RES_AGE_STAT_MARGIN k = s.marginOf margins k % 2 ^ 16))

/-! The whole block. -/

/-- The queue, first in, first out: a step runs the command at its front on the state with the rest of the queue; on an empty queue one cadence
cycle passes (log entry 47, the model's choice). -/
def Obligations.StepRunsTheFront : Prop :=
  ∀ (s : State) (c : Instr) (rest : List Instr),
    (step { s with pending := c :: rest } = exec c { s with pending := rest }) ∧
    step { s with pending := [] } = .next { s with pending := [] }.tick

/-- R29: on an empty queue the count goes up by 1 while the freewheel domain has power and is not held in reset and no event is due at this
count; else nothing changes (log entry 47, the model's choice). -/
def Obligations.IdleCycle : Prop :=
  ∀ s : State, s.pending = [] → s.now < 2 ^ 64 →
    (s.board.pwr.off = false → s.board.pwr.rst ≠ 3 → (∀ e ∈ s.armed, e.at_ ≠ s.now) →
      ∃ t, step s = .next t ∧ Writes [(Reg.CAD_COUNT_COUNT, 0, (s.now + 1) % 2 ^ 64)] s t) ∧
    ((s.board.pwr.off = true ∨ s.board.pwr.rst = 3 ∨ ∃ e ∈ s.armed, e.at_ = s.now) → step s = .next s)

/-- A step from a canonical state gives a canonical state with the queue's rest: no well-formed command stops, the commands that wait stay as they
are, and GDDR7 keeps its canonical form. -/
def Obligations.StepKeepsCanonical : Prop :=
  ∀ s : State, Canonical s → ∃ t, step s = .next t ∧ Canonical t ∧ t.pending = s.pending.tail

/-- Every well-formed command runs in every state; a spoke core's instruction of a thread that the module does not have is the one stop. -/
def Obligations.WellFormedRuns : Prop :=
  ∀ (c : Instr) (s : State),
    (c.wf = true → ∃ t, exec c s = .next t) ∧ ((∃ t, exec c s = .next t) ∨ exec c s = .fault .noSuchThread)

/-- What the spec gives after reset: every field has the reset value of its register map, GDDR7 reads as 0, nothing waits and nothing is armed, the
state is canonical; and some of the values as the register maps give them. -/
def Obligations.ResetState : Prop :=
  let s := State.reset
  (∀ f i, s.rd f i = f.rst i) ∧ (∀ a, Mem.rd s.gddr a = 0) ∧ Canonical s ∧ s.pending = [] ∧ s.armed = [] ∧ s.out = [] ∧
  s.now = 0 ∧ s.rd Reg.CAD_STATUS_STATE 0 = 0 ∧ s.rd Reg.CAD_STATUS_UPSTREAM 0 = 0xFF ∧ s.rd Reg.CAD_MIN_LEAD_CT 0 = 2000 ∧
  s.rd Reg.CAD_SYNC_INTERVAL_CT 0 = 131072 ∧ s.rd Reg.XLT_FAULT_CFG_RETRY_MAX 0 = 8 ∧ s.rd Reg.XLT_WALKER_IN_SERVICE 0 = 0xFFFFFFF ∧
  s.rd Reg.TRN_UDP_DPORT 0 = 17079 ∧ s.rd Reg.TRN_TIMERS1_MAX_PKT_LIFE_MS 0 = 100 ∧ s.rd Reg.TRN_EGR_CTRL_MGMT_TC 0 = 15 ∧
  (∀ c < 10, s.rd Reg.CLU_STATUS_STATE c = if c < 8 then 1 else 0) ∧ s.rd Reg.CLU_CTRL_CORE_EN 0 = 15 ∧
  (∀ c < 10, ∀ b < 16, s.rd Reg.CLU_BANK_MAP_PHYS (ix c b) = b ∧ s.rd Reg.CLU_BANK_OWN_TENANT (ix c b) = 0x3FF) ∧
  s.rd Reg.CIP_CORES_IN_SERVICE 0 = 0x3FFF ∧ s.rd Reg.MEM_CORR_LIMIT_LIMIT 0 = 4096 ∧ s.rd Reg.RES_CTRL_TRANSIENT_LIMIT 0 = 3 ∧
  s.rd Reg.RES_SWEEP_STEP_CT 0 = 250000000 ∧ s.rd Reg.PWR_CAP_LIMIT_W 0 = 450 ∧ s.rd Reg.PMC_DUMP_CFG_PERIOD_CT 0 = 1000000000

/-- R44, R46, R47: an armed event takes effect as the count reaches its T, and moves no earlier event out of its way: while one of a lower count, or of
the same count and a kind that comes first in the order of R47, is still armed, it does not fire. One whose T has passed fires late and is
counted. It fires once, and not while events are suspended in FAULT. -/
def Obligations.ScheduledEvents : Prop :=
  (∀ (t p r c i : Nat), EvKind.swap.order < EvKind.gate.order ∧ EvKind.gate.order < EvKind.refill.order ∧ EvKind.refill.order < (EvKind.freeze t).order ∧
    (EvKind.freeze t).order < (EvKind.launch p r).order ∧ (EvKind.launch p r).order = (EvKind.deadline p r).order ∧
    (EvKind.deadline p r).order = (EvKind.cwait c i).order ∧ (EvKind.cwait c i).order < EvKind.dump.order ∧ EvKind.dump.order < EvKind.spareTest.order ∧
    EvKind.spareTest.order = EvKind.sweep.order ∧ EvKind.sweep.order < EvKind.crocus.order) ∧
  ∀ (s : State) (k : EvKind) (T : Nat), s.armedAt k = some T →
    let first : Prop := ∀ e ∈ s.armed, T < e.at_ ∨ (T = e.at_ ∧ k.order ≤ e.kind.order)
    (¬first → s.fire k = (s, false, false)) ∧
    (s.rd Reg.CAD_STATUS_STATE 0 = 4 → s.fire k = (s, false, false)) ∧
    (first → s.rd Reg.CAD_STATUS_STATE 0 ≠ 4 → s.resting = false →
      ((s.fire k).1.armed = s.armed.filter (fun e => e.kind ≠ k) ∧ ((s.fire k).1.fire k).2 = (false, false)) ∧
      (s.now ≤ T → T < 2 ^ 64 → (s.fire k).2 = (true, false) ∧ (s.fire k).1.now = T ∧ SameRegsBut [(Reg.CAD_COUNT_COUNT, 0)] s (s.fire k).1) ∧
      (T < s.now → (s.fire k).2 = (true, true) ∧ (s.fire k).1.now = s.now ∧
        (s.fire k).1.rd Reg.CAD_LATE_COUNT_COUNT 0 = satAdd 64 (s.rd Reg.CAD_LATE_COUNT_COUNT 0) 1))

/-- R126: an event is written to its slot's completion ring where there is room and nothing is held; else it is held, up to 256; beyond, it is lost,
counted and shown. Once there is room again, what is held is written, then one EVENT_LOST event with the number lost. -/
def Obligations.AdminEvents : Prop :=
  ∀ (s : State) (t code detail arg0 arg1 : Nat), s.frozen t = false →
    let a := s.admOf t
    let e : AdmEnt := { event := true, code := code, detail := detail, arg0 := arg0, arg1 := arg1, arg2 := s.now % 2 ^ 56 }
    let u := s.event t code detail arg0 arg1
    let full : Prop := s.admRoom t = false ∨ a.held ≠ []
    (s.admRoom t = true → a.held = [] → a.lost = 0 → u = { s with adms := u.adms, out := s.out ++ [.adm t a.written e] } ∧
      u.admOf t = { a with written := (a.written + 1) % 2 ^ 32 }) ∧
    (full → a.lost = 0 → a.events < 256 → u.admOf t = { a with held := a.held ++ [e] } ∧ u.out = s.out) ∧
    (full → 256 ≤ a.events ∨ a.lost ≠ 0 → u.admOf t = { a with lost := a.lost + 1 } ∧ u.out = s.out ∧
      u.rd Reg.ADM_EVENT_LOST_COUNT_COUNT t = (s.rd Reg.ADM_EVENT_LOST_COUNT_COUNT t + 1) % 2 ^ 64 ∧ u.rd Reg.ADM_SLICE_STATUS_EVENT_LOST t = 1) ∧
    (∀ x : AdmEnt, s.rd Reg.ADM_DESC0_BOUND t = 1 → a.written = a.headSeen → a.written < 2 ^ 32 → 1 ≤ s.rd Reg.ADM_DESC0_CQ_LOG2 t → a.lost ≠ 0 →
      s.rd Reg.ADM_DESC0_CQ_LOG2 t < 32 → a.held = [x] → (s.settleAdm t).out = s.out ++ [.adm t a.written x, .adm t ((a.written + 1) % 2 ^ 32)
        { event := true, code := Code.eventLost, arg0 := 5 * 2 ^ 16 + t % 2 ^ 16, arg1 := a.lost, arg2 := s.now % 2 ^ 56 }] ∧
        ((s.settleAdm t).admOf t).held = [] ∧ ((s.settleAdm t).admOf t).lost = 0)

/-- R280, R281: an accumulator reads out as NaN with its NaN flag or both infinity flags, else as the infinity of its flag, else as its value; a value
outside the finite range as the infinity of its sign, with the overflow. What it reads out as does not depend on the order of two additions. -/
def Obligations.AccumulatorReads : Prop :=
  ∀ a b c : Accum,
    let isNan : Prop := a.nan = true ∨ (a.pinf = true ∧ a.ninf = true)
    let finite : Prop := -(2 ^ 319) + 2 ^ 312 ≤ a.x ∧ a.x < 2 ^ 319
    (isNan → a.value = (.nan, false) ∧ a.image = (0x80 * 2 ^ 312 + 1, false)) ∧
    (¬isNan → a.pinf = true → a.value = (.inf false, false) ∧ a.image = (0x80 * 2 ^ 312 + 2, false)) ∧
    (¬isNan → a.ninf = true → a.value = (.inf true, false) ∧ a.image = (0x80 * 2 ^ 312 + 3, false)) ∧
    (¬isNan → a.pinf = false → a.ninf = false →
      (finite → a.value = (Machine.Num.ofInt a.x (-160), false) ∧ a.image = ((a.x % 2 ^ 320).toNat, false)) ∧
      (¬finite → a.value = (.inf (decide (a.x < 0)), true) ∧ a.image = (0x80 * 2 ^ 312 + (if a.x < 0 then 3 else 2), true))) ∧
    ((a.add b).add c).image = ((a.add c).add b).image ∧ ((a.add b).add c).value = ((a.add c).add b).value

/-- R2, R329, R448: a register reads as the sum of its fields, a write-only or reserved bit as 0; a write sets a field, leaves it, or clears or sets
bits, by its access code, and changes no other field. A register write from outside does so; a binding through the window is refused and
counted. Clearing the counters zeroes every one of them and nothing else. -/
def Obligations.RegisterAccess : Prop :=
  ∀ (s : State) (l : List Fld) (f : Fld) (i off v b : Nat),
    let w (f : Fld) (t : State) : Prop := SameFieldsBut [f] s t ∧ t.gddr = s.gddr ∧ t.out = s.out
    (s.wordAt l off = (l.map fun f => match s.fieldAt f off with | some i => if f.acc = .wo then 0 else s.rd f i * 2 ^ f.lo | none => 0).sum) ∧
    (SameRegsBut [(f, i)] s (s.access f i v) ∧ s.access f i v = { s with regs := (s.access f i v).regs }) ∧
    (f.acc = .rw → (s.access f i v).rd f i = v % 2 ^ f.w) ∧
    (f.acc = .ro ∨ f.acc = .wo → s.access f i v = s) ∧
    (f.acc = .w1c → b < f.w → ((s.access f i v).rd f i).testBit b = ((s.rd f i).testBit b && !v.testBit b)) ∧
    (f.acc = .w1s → b < f.w → ((s.access f i v).rd f i).testBit b = ((s.rd f i).testBit b || v.testBit b)) ∧
    (f.acc = .rwl → s.rd Reg.LCS_STATE_LOCK 0 ≠ 1 → (s.access f i v).rd f i = v % 2 ^ f.w) ∧
    (f.acc = .rwl → s.rd Reg.LCS_STATE_LOCK 0 = 1 → s.access f i v = s) ∧
    SameFieldsBut l s (s.accessAt l off v) ∧
    (s.board.pwr.off = false →
      (Does (.registerWrite Reg.MEM_CORR_LIMIT_LIMIT.addr v) s fun t => t.rd Reg.MEM_CORR_LIMIT_LIMIT 0 = v % 2 ^ 32 ∧ w Reg.MEM_CORR_LIMIT_LIMIT t) ∧
      (s.rd Reg.MEM_ERR_LOG0_VALID 0 < 2 → Does (.registerWrite Reg.MEM_ERR_LOG0_VALID.addr v) s fun t =>
        t.rd Reg.MEM_ERR_LOG0_VALID 0 = (if bit v 63 then 0 else s.rd Reg.MEM_ERR_LOG0_VALID 0) ∧ w Reg.MEM_ERR_LOG0_VALID t) ∧
      (Does (.registerWrite Reg.TRN_TX_PKTS_COUNT.addr v) s fun t => t = s) ∧
      (Does (.registerWrite Reg.TRN_QSHP_BIND_QP.addr v) s
        (Writes [(Reg.TEN_BIND_REFUSED_COUNT, 0, satAdd 64 (s.rd Reg.TEN_BIND_REFUSED_COUNT 0) 1)] s))) ∧
    (Does .pmcClearAll s fun t => (∀ i, t.rd Reg.PMC_CNT_VAL_VALUE i = 0 ∧ t.rd Reg.PMC_CNT_VAL_OVF i = 0 ∧ t.rd Reg.PMC_CORE_SLOT_VALUE i = 0 ∧
      t.rd Reg.PMC_CORE_SLOT_OVF i = 0 ∧ t.rd Reg.PMC_TRN_SLOT_VALUE i = 0 ∧ t.rd Reg.PMC_TRN_SLOT_OVF i = 0) ∧
      SameFieldsBut [Reg.PMC_CNT_VAL_VALUE, Reg.PMC_CNT_VAL_OVF, Reg.PMC_CORE_SLOT_VALUE, Reg.PMC_CORE_SLOT_OVF, Reg.PMC_TRN_SLOT_VALUE,
        Reg.PMC_TRN_SLOT_OVF] s t ∧ t = { s with regs := t.regs })

/-- R453 to R455: dumps are enabled where their ring lies inside an extent of the provider, and refused, or stopped, with BAD_DEST elsewhere; a dump
writes its record in the slot of its SEQ and nowhere else, with the number lost before it; while the ring is full the record is lost and
counted; SEQ goes on either way. Dumps are stated where the cadence is neither LOCKED nor in HOLDOVER. -/
def Obligations.DumpRing : Prop :=
  ∀ (s : State) (v : Nat),
    let size := 2 ^ min 16 (max 1 (s.rd Reg.PMC_DUMP_BASE_LOG2_RECORDS 0))
    let base := 4096 * s.rd Reg.PMC_DUMP_BASE_OFFSET 0
    let inside : Prop := ∃ n, (s.rd Reg.TEN_EXT0_STATE n = 1 ∨ s.rd Reg.TEN_EXT0_STATE n = 2) ∧ s.rd Reg.TEN_EXT0_TENANT n = 0x3FF ∧
      s.rd Reg.TEN_EXT1_BASE_UNIT n * 2 ^ 21 ≤ base ∧ base + 4096 * size ≤ (s.rd Reg.TEN_EXT1_BASE_UNIT n + s.rd Reg.TEN_EXT1_UNITS n) * 2 ^ 21
    let at_ := s.markOf 0 + min 200000000000 (max 1000000 (s.rd Reg.PMC_DUMP_CFG_PERIOD_CT 0))
    let seq := s.rd Reg.PMC_DUMP_WPTR_SEQ 0
    let place := base + 4096 * (seq % size)
    let full : Prop := (seq + 2 ^ 64 - s.rd Reg.PMC_DUMP_RPTR_SEQ 0) % 2 ^ 64 = size
    (bit v 40 = true → s.rd Reg.PMC_DUMP_CFG_DUMP_EN 0 = 0 →
      (inside → Does (.pmcDumpEnable v) s fun t => t.rd Reg.PMC_DUMP_CFG_DUMP_EN 0 = 1 ∧ t.rd Reg.PMC_DUMP_WPTR_SEQ 0 = 0 ∧
        t.rd Reg.PMC_DUMP_CFG_PERIOD_CT 0 = v % 2 ^ 40 ∧ t.markOf 0 = s.now) ∧
      (¬inside → Does (.pmcDumpEnable v) s fun t => t.rd Reg.PMC_DUMP_CFG_DUMP_EN 0 = 0 ∧ t.rd Reg.PMC_DUMP_STATUS_BAD_DEST 0 = 1 ∧
        t.rd Reg.PMC_DUMP_WPTR_SEQ 0 = seq)) ∧
    (s.rd Reg.PMC_DUMP_CFG_DUMP_EN 0 = 1 → s.board.pwr.off = false →
      (¬inside → Does .counterDump s (Writes [(Reg.PMC_DUMP_STATUS_BAD_DEST, 0, 1), (Reg.PMC_DUMP_CFG_DUMP_EN, 0, 0)] s)) ∧
      (inside → s.synced = false → s.resting = false → s.now ≤ at_ → at_ < 2 ^ 64 →
        (¬full → Does .counterDump s fun t => t.now = at_ ∧ t.rd Reg.PMC_DUMP_WPTR_SEQ 0 = (seq + 1) % 2 ^ 64 ∧
          t.rd Reg.PMC_DUMPS_COUNT 0 = satAdd 64 (s.rd Reg.PMC_DUMPS_COUNT 0) 1 ∧
          (∀ k < 4096, Mem.rd t.gddr (place + k) = ((((s.reach at_).setMark 0 at_).dumpRecord seq at_ false)).getD k 0) ∧
          Mem.nat t.gddr (place + 8) 8 = seq % 2 ^ 64 ∧ Mem.nat t.gddr (place + 40) 4 = s.board.pmc.lost % 2 ^ 32 ∧
          SameGddrBut place 4096 s t ∧ t.board.pmc.lost = 0) ∧
        (full → Does .counterDump s fun t => t.now = at_ ∧ t.rd Reg.PMC_DUMP_WPTR_SEQ 0 = (seq + 1) % 2 ^ 64 ∧
          t.rd Reg.PMC_DUMP_LOST_COUNT 0 = satAdd 64 (s.rd Reg.PMC_DUMP_LOST_COUNT 0) 1 ∧ t.gddr = s.gddr ∧
          t.board.pmc.lost = s.board.pmc.lost + 1)))
end

