-- ==== Sys2Proof/Laws/Table.lean ====
section
/-! SUPPORT. Laws of tables and byte memories: what a read answers after a write, and that every operation keeps the
canonical form. -/

namespace Sys2Proof.Machine

open Sys2Proof

variable {α : Type}

@[simp] theorem Tbl.get_nil (d : α) (k : Nat) : Tbl.get d k ([] : Tbl α) = d := rfl

theorem Tbl.get_put (d : α) (k j : Nat) (v : α) (m : Tbl α) : Tbl.get d j (Tbl.put k v m) = if j = k then v else Tbl.get d j m := by
  induction m with
  | nil => by_cases h : j = k <;> simp_all [Tbl.put, Tbl.get, eq_comm]
  | cons e m ih =>
    obtain ⟨a, w⟩ := e
    by_cases hj : j = k
    · subst hj
      simp only [Tbl.put]
      split
      · rename_i hlt; simp [Tbl.get, ih, Nat.ne_of_lt hlt]
      · split <;> simp [Tbl.get]
    · have hk : ¬ k = j := fun h => hj h.symm
      simp only [Tbl.put]
      split
      · simp [Tbl.get, ih, hj]
      · split
        · rename_i h; subst h; simp [Tbl.get, hk]
        · simp [Tbl.get, hk]

theorem Tbl.get_del (d : α) (k j : Nat) (m : Tbl α) : Tbl.get d j (Tbl.del k m) = if j = k then d else Tbl.get d j m := by
  induction m with
  | nil => simp [Tbl.del, Tbl.get]
  | cons e m ih =>
    obtain ⟨a, w⟩ := e
    simp only [Tbl.del]
    split
    · rw [ih]; simp only [Tbl.get]; split <;> first | rfl | (rw [if_neg (by omega)])
    · simp only [Tbl.get, ih]; split <;> split <;> first | rfl | omega

/-- What any number reads as after a write of one number. -/
theorem Tbl.get_set [DecidableEq α] (d : α) (k j : Nat) (v : α) (m : Tbl α) :
    Tbl.get d j (Tbl.set d k v m) = if j = k then v else Tbl.get d j m := by
  unfold Tbl.set
  split
  · rw [Tbl.get_del]; split <;> simp_all
  · exact Tbl.get_put d k j v m

@[simp] theorem Tbl.get_set_self [DecidableEq α] (d : α) (k : Nat) (v : α) (m : Tbl α) : Tbl.get d k (Tbl.set d k v m) = v := by
  rw [Tbl.get_set, if_pos rfl]

theorem Tbl.get_set_ne [DecidableEq α] (d : α) {k j : Nat} (v : α) (m : Tbl α) (h : j ≠ k) :
    Tbl.get d j (Tbl.set d k v m) = Tbl.get d j m := by
  rw [Tbl.get_set, if_neg h]

/-- A write of one number leaves every other, whatever an unlisted one is read as. -/
theorem Tbl.get_set_other [DecidableEq α] (d e : α) {k j : Nat} (v : α) (m : Tbl α) (h : j ≠ k) :
    Tbl.get d j (Tbl.set e k v m) = Tbl.get d j m := by
  unfold Tbl.set
  split
  · rw [Tbl.get_del, if_neg h]
  · rw [Tbl.get_put, if_neg h]

/-! The canonical form. -/

/-- All numbers of a table lie above a bound. -/
def Tbl.above (lo : Nat) (m : Tbl α) : Prop := ∀ e ∈ m, lo < e.1

theorem Tbl.risingFrom_some (lo : Nat) (m : Tbl α) :
    Tbl.risingFrom (some lo) m = true ↔ Tbl.above lo m ∧ Tbl.risingFrom none m = true := by
  induction m generalizing lo with
  | nil => simp [Tbl.risingFrom, Tbl.above]
  | cons e m ih =>
    obtain ⟨j, v⟩ := e
    simp only [Tbl.risingFrom, Bool.and_eq_true, decide_eq_true_eq, ih]
    constructor
    · rintro ⟨h, ha, hr⟩
      refine ⟨?_, ha, hr⟩
      intro e he
      rcases List.mem_cons.1 he with rfl | he
      · exact h
      · exact Nat.lt_trans h (ha e he)
    · rintro ⟨h, ha, hr⟩
      exact ⟨h _ (List.mem_cons_self ..), ha, hr⟩

theorem Tbl.rising_cons (j : Nat) (v : α) (m : Tbl α) :
    Tbl.risingFrom none ((j, v) :: m) = true ↔ Tbl.above j m ∧ Tbl.risingFrom none m = true := by
  simp only [Tbl.risingFrom]; exact Tbl.risingFrom_some j m

theorem Tbl.above_put {lo k : Nat} {v : α} {m : Tbl α} (hk : lo < k) (h : Tbl.above lo m) : Tbl.above lo (Tbl.put k v m) := by
  induction m with
  | nil => intro e he; simp [Tbl.put] at he; subst he; exact hk
  | cons e m ih =>
    obtain ⟨j, w⟩ := e
    have hm : Tbl.above lo m := fun e he => h e (List.mem_cons_of_mem _ he)
    have hj : lo < j := h (j, w) (List.mem_cons_self ..)
    intro e he
    simp only [Tbl.put] at he
    split at he
    · rcases List.mem_cons.1 he with rfl | he
      · exact hj
      · exact ih hm e he
    · split at he
      · rcases List.mem_cons.1 he with rfl | he
        · exact hk
        · exact hm e he
      · rcases List.mem_cons.1 he with rfl | he
        · exact hk
        · exact h e he

theorem Tbl.rising_put {k : Nat} {v : α} {m : Tbl α} (h : Tbl.risingFrom none m = true) : Tbl.risingFrom none (Tbl.put k v m) = true := by
  induction m with
  | nil => rfl
  | cons e m ih =>
    obtain ⟨j, w⟩ := e
    obtain ⟨ha, hr⟩ := (Tbl.rising_cons j w m).1 h
    simp only [Tbl.put]
    split
    · rename_i hlt
      exact (Tbl.rising_cons ..).2 ⟨Tbl.above_put hlt ha, ih hr⟩
    · split
      · rename_i heq
        exact (Tbl.rising_cons ..).2 ⟨heq ▸ ha, hr⟩
      · refine (Tbl.rising_cons ..).2 ⟨?_, h⟩
        intro e he
        rcases List.mem_cons.1 he with rfl | he
        · show k < j; omega
        · have := ha e he; omega

theorem Tbl.mem_del {k : Nat} {m : Tbl α} {e : Nat × α} (h : e ∈ Tbl.del k m) : e ∈ m := by
  induction m with
  | nil => simp [Tbl.del] at h
  | cons x m ih =>
    obtain ⟨j, w⟩ := x
    simp only [Tbl.del] at h
    split at h
    · exact List.mem_cons_of_mem _ (ih h)
    · rcases List.mem_cons.1 h with rfl | h
      · exact List.mem_cons_self ..
      · exact List.mem_cons_of_mem _ (ih h)

theorem Tbl.rising_of_sublist {m l : Tbl α} (hs : l.Sublist m) (h : Tbl.risingFrom none m = true) : Tbl.risingFrom none l = true := by
  induction hs with
  | slnil => rfl
  | cons a _ ih => obtain ⟨j, w⟩ := a; exact ih ((Tbl.rising_cons j w _).1 h).2
  | cons_cons a hs ih =>
    obtain ⟨j, w⟩ := a
    obtain ⟨ha, hr⟩ := (Tbl.rising_cons j w _).1 h
    exact (Tbl.rising_cons ..).2 ⟨fun e he => ha e (hs.subset he), ih hr⟩

theorem Tbl.del_sublist (k : Nat) (m : Tbl α) : (Tbl.del k m).Sublist m := by
  induction m with
  | nil => exact List.Sublist.slnil
  | cons e m ih =>
    obtain ⟨j, w⟩ := e
    simp only [Tbl.del]
    split
    · exact ih.cons _
    · exact ih.cons_cons _

theorem Tbl.wf_of_sublist [DecidableEq α] {d : α} {m l : Tbl α} (hs : l.Sublist m) (h : Tbl.wf d m = true) : Tbl.wf d l = true := by
  simp only [Tbl.wf, Bool.and_eq_true, List.all_eq_true, decide_eq_true_eq] at *
  exact ⟨Tbl.rising_of_sublist hs h.1, fun e he => h.2 e (hs.subset he)⟩

theorem Tbl.mem_put {k : Nat} {v : α} {m : Tbl α} {e : Nat × α} (h : e ∈ Tbl.put k v m) : e = (k, v) ∨ e ∈ m := by
  induction m with
  | nil => simp [Tbl.put] at h; exact .inl h
  | cons x m ih =>
    obtain ⟨j, w⟩ := x
    simp only [Tbl.put] at h
    split at h
    · rcases List.mem_cons.1 h with rfl | h
      · exact .inr (List.mem_cons_self ..)
      · exact (ih h).imp id (List.mem_cons_of_mem _)
    · split at h
      · rcases List.mem_cons.1 h with rfl | h
        · exact .inl rfl
        · exact .inr (List.mem_cons_of_mem _ h)
      · rcases List.mem_cons.1 h with rfl | h
        · exact .inl rfl
        · exact .inr h

/-- A write of one number keeps the canonical form. -/
theorem Tbl.wf_set [DecidableEq α] {d : α} {m : Tbl α} (k : Nat) (v : α) (h : Tbl.wf d m = true) : Tbl.wf d (Tbl.set d k v m) = true := by
  unfold Tbl.set
  split
  · exact Tbl.wf_of_sublist (Tbl.del_sublist k m) h
  · rename_i hv
    simp only [Tbl.wf, Bool.and_eq_true, List.all_eq_true, decide_eq_true_eq] at *
    refine ⟨Tbl.rising_put h.1, fun e he => ?_⟩
    rcases Tbl.mem_put he with rfl | he
    · exact hv
    · exact h.2 e he

/-! Byte memories. -/

/-- What any address reads as after a write of one byte. -/
theorem Mem.rd_wr (m : Mem) (a c : Nat) (b : Byte) : Mem.rd (Mem.wr m a b) c = if c = a then b else Mem.rd m c :=
  Tbl.get_set 0 a c b m

/-- A write of bytes leaves every address outside its range. -/
theorem Mem.rd_store_of_lt (m : Mem) (a c : Nat) (l : List Byte) (h : c < a ∨ a + l.length ≤ c) :
    Mem.rd (Mem.store m a l) c = Mem.rd m c := by
  induction l generalizing m a with
  | nil => rfl
  | cons b l ih =>
    simp only [Mem.store, List.length_cons] at *
    rw [ih (Mem.wr m a b) (a + 1) (by omega), Mem.rd_wr, if_neg (by omega)]

/-- Each address of the range reads its byte after a write of bytes. -/
theorem Mem.rd_store_of_mem (m : Mem) (a i : Nat) (l : List Byte) (h : i < l.length) : Mem.rd (Mem.store m a l) (a + i) = l[i] := by
  induction l generalizing m a i with
  | nil => simp at h
  | cons b l ih =>
    simp only [Mem.store]
    cases i with
    | zero => rw [Mem.rd_store_of_lt _ _ _ _ (by omega), Mem.rd_wr, if_pos (by omega)]; rfl
    | succ i =>
      have h' : i < l.length := by simpa using h
      have := ih (Mem.wr m a b) (a + 1) i h'
      rw [show a + (i + 1) = a + 1 + i by omega, this]; rfl

theorem Memory.wf_nil : Memory.wf [] = true := rfl

theorem Memory.wf_wr {m : Mem} (a : Nat) (b : Byte) (h : Memory.wf m = true) : Memory.wf (Mem.wr m a b) = true :=
  Tbl.wf_set a b h

theorem Memory.wf_store {m : Mem} (a : Nat) (l : List Byte) (h : Memory.wf m = true) : Memory.wf (Mem.store m a l) = true := by
  induction l generalizing m a with
  | nil => exact h
  | cons b l ih => exact ih (a + 1) (Memory.wf_wr a b h)

theorem Memory.wf_storeMasked {m : Mem} (a : Nat) (l : List Byte) (k : List Bool) (h : Memory.wf m = true) :
    Memory.wf (Mem.storeMasked m a l k) = true := by
  induction l generalizing m a k with
  | nil => exact h
  | cons b l ih =>
    cases k with
    | nil => exact h
    | cons x k =>
      simp only [Mem.storeMasked]
      split
      · exact ih (a + 1) k (Memory.wf_wr a b h)
      · exact ih (a + 1) k h

theorem Memory.wf_filter {m : Mem} (p : Nat × Byte → Bool) (h : Memory.wf m = true) : Memory.wf (m.filter p) = true :=
  Tbl.wf_of_sublist List.filter_sublist h

theorem Memory.wf_wipe {m : Mem} (lo hi : Nat) (h : Memory.wf m = true) : Memory.wf (Mem.wipe m lo hi) = true :=
  Memory.wf_filter _ h

end Sys2Proof.Machine
end

