-- ==== Sys2Proof/Laws/State.lean ====
section
/-! SUPPORT. One lemma for each field and each update of the state, and what a register reads as after a write. -/

namespace Sys2Proof.Machine

open Sys2Proof

/-! Registers. -/

@[simp] theorem State.rd_wr_self (s : State) (f : Fld) (i v : Nat) : (s.wr f i v).rd f i = v % 2 ^ f.w := by
  simp [State.rd, State.wr]

theorem State.rd_wr_of_key (s : State) (f g : Fld) (i j v : Nat) (h : g.key ≠ f.key) : (s.wr f i v).rd g j = s.rd g j := by
  simp [State.rd, State.wr, Tbl.get_set, h]

theorem State.rd_wr_of_index (s : State) (f g : Fld) (i j v : Nat) (h : j ≠ i) : (s.wr f i v).rd g j = s.rd g j := by
  simp only [State.rd, State.wr, Tbl.get_set]
  split
  · rename_i hk; rw [Tbl.get_set_other _ _ _ _ h, hk]
  · rfl

/-- What any register reads as after a write of another. -/
theorem State.rd_wr_ne (s : State) (f g : Fld) (i j v : Nat) (h : ¬(g.key = f.key ∧ j = i)) : (s.wr f i v).rd g j = s.rd g j := by
  by_cases hk : g.key = f.key
  · exact State.rd_wr_of_index s f g i j v (fun hj => h ⟨hk, hj⟩)
  · exact State.rd_wr_of_key s f g i j v hk

@[simp] theorem State.on_eq (s : State) (f : Fld) (i : Nat) : s.on f i = (s.rd f i == 1) := rfl

theorem State.inc_eq (s : State) (f : Fld) (i n : Nat) : s.inc f i n = s.wr f i (s.rd f i + n) := rfl
theorem State.count_eq (s : State) (f : Fld) (i n : Nat) : s.count f i n = s.wr f i (satAdd f.w (s.rd f i) n) := rfl
theorem State.dec_eq (s : State) (f : Fld) (i n : Nat) : s.dec f i n = s.wr f i (s.rd f i - n) := rfl
theorem State.put_eq (s : State) (f : Fld) (i : Nat) (b : Bool) : s.put f i b = s.wr f i (b2n b) := rfl

/-- A register write keeps the register file in canonical form. -/
theorem State.wr_regs_wf (s : State) (f : Fld) (i v : Nat) (h : Tbl.wf [] s.regs = true) : Tbl.wf [] (s.wr f i v).regs = true :=
  Tbl.wf_set _ _ h

/-! The changed fields. -/

@[simp] theorem State.emit_out (s : State) (o : Out) : (s.emit o).out = s.out ++ [o] := rfl
@[simp] theorem State.bump_fresh (s : State) : s.bump.fresh = s.fresh + 1 := rfl
@[simp] theorem State.bumpN_fresh (s : State) (n : Nat) : (s.bumpN n).fresh = s.fresh + n := rfl

@[simp] theorem State.nearOf_setNear (s : State) (p : Nat) (v : Near) : (s.setNear p v).nearOf p = v := by simp [State.nearOf, State.setNear]
theorem State.nearOf_setNear_ne (s : State) {p q : Nat} (v : Near) (h : q ≠ p) : (s.setNear p v).nearOf q = s.nearOf q := by
  simp [State.nearOf, State.setNear, Tbl.get_set, h]
@[simp] theorem State.epOf_setEp (s : State) (p : Nat) (v : Endpoint) : (s.setEp p v).epOf p = v := by simp [State.epOf, State.setEp]
theorem State.epOf_setEp_ne (s : State) {p q : Nat} (v : Endpoint) (h : q ≠ p) : (s.setEp p v).epOf q = s.epOf q := by
  simp [State.epOf, State.setEp, Tbl.get_set, h]
@[simp] theorem State.attOf_setAtt (s : State) (p : Nat) (v : Attach) : (s.setAtt p v).attOf p = v := by simp [State.attOf, State.setAtt]
theorem State.attOf_setAtt_ne (s : State) {p q : Nat} (v : Attach) (h : q ≠ p) : (s.setAtt p v).attOf q = s.attOf q := by
  simp [State.attOf, State.setAtt, Tbl.get_set, h]
@[simp] theorem State.sqOf_setSq (s : State) (p : Nat) (v : Sq) : (s.setSq p v).sqOf p = v := by simp [State.sqOf, State.setSq]
theorem State.sqOf_setSq_ne (s : State) {p q : Nat} (v : Sq) (h : q ≠ p) : (s.setSq p v).sqOf q = s.sqOf q := by
  simp [State.sqOf, State.setSq, Tbl.get_set, h]
@[simp] theorem State.cqOf_setCq (s : State) (p : Nat) (v : Cq) : (s.setCq p v).cqOf p = v := by simp [State.cqOf, State.setCq]
theorem State.cqOf_setCq_ne (s : State) {p q : Nat} (v : Cq) (h : q ≠ p) : (s.setCq p v).cqOf q = s.cqOf q := by
  simp [State.cqOf, State.setCq, Tbl.get_set, h]
@[simp] theorem State.admOf_setAdm (s : State) (p : Nat) (v : Adm) : (s.setAdm p v).admOf p = v := by simp [State.admOf, State.setAdm]
theorem State.admOf_setAdm_ne (s : State) {p q : Nat} (v : Adm) (h : q ≠ p) : (s.setAdm p v).admOf q = s.admOf q := by
  simp [State.admOf, State.setAdm, Tbl.get_set, h]
@[simp] theorem State.connOf_setConn (s : State) (p : Nat) (v : Conn) : (s.setConn p v).connOf p = v := by simp [State.connOf, State.setConn]
theorem State.connOf_setConn_ne (s : State) {p q : Nat} (v : Conn) (h : q ≠ p) : (s.setConn p v).connOf q = s.connOf q := by
  simp [State.connOf, State.setConn, Tbl.get_set, h]
@[simp] theorem State.farOf_setFar (s : State) (p : Nat) (v : Far) : (s.setFar p v).farOf p = v := by simp [State.farOf, State.setFar]
theorem State.farOf_setFar_ne (s : State) {p q : Nat} (v : Far) (h : q ≠ p) : (s.setFar p v).farOf q = s.farOf q := by
  simp [State.farOf, State.setFar, Tbl.get_set, h]
@[simp] theorem State.pelOf_setPel (s : State) (p : Nat) (v : Pel) : (s.setPel p v).pelOf p = v := by simp [State.pelOf, State.setPel]
theorem State.pelOf_setPel_ne (s : State) {p q : Nat} (v : Pel) (h : q ≠ p) : (s.setPel p v).pelOf q = s.pelOf q := by
  simp [State.pelOf, State.setPel, Tbl.get_set, h]
@[simp] theorem State.cluOf_setClu (s : State) (p : Nat) (v : Clu) : (s.setClu p v).cluOf p = v := by simp [State.cluOf, State.setClu]
theorem State.cluOf_setClu_ne (s : State) {p q : Nat} (v : Clu) (h : q ≠ p) : (s.setClu p v).cluOf q = s.cluOf q := by
  simp [State.cluOf, State.setClu, Tbl.get_set, h]
@[simp] theorem State.sliceOf_setSlice (s : State) (p : Nat) (v : Slice) : (s.setSlice p v).sliceOf p = v := by simp [State.sliceOf, State.setSlice]
theorem State.sliceOf_setSlice_ne (s : State) {p q : Nat} (v : Slice) (h : q ≠ p) : (s.setSlice p v).sliceOf q = s.sliceOf q := by
  simp [State.sliceOf, State.setSlice, Tbl.get_set, h]
@[simp] theorem State.extOf_setExt (s : State) (p : Nat) (v : Ext) : (s.setExt p v).extOf p = v := by simp [State.extOf, State.setExt]
theorem State.extOf_setExt_ne (s : State) {p q : Nat} (v : Ext) (h : q ≠ p) : (s.setExt p v).extOf q = s.extOf q := by
  simp [State.extOf, State.setExt, Tbl.get_set, h]
@[simp] theorem State.thrOf_setThr (s : State) (c i : Nat) (v : Thr) : (s.setThr c i v).thrOf c i = v := by
  simp [State.thrOf, State.setThr]
theorem State.thrOf_setThr_ne (s : State) {c i d j : Nat} (v : Thr) (h : ¬(d = c ∧ j = i)) : (s.setThr c i v).thrOf d j = s.thrOf d j := by
  simp only [State.thrOf, State.setThr]
  by_cases hd : d = c
  · subst hd; rw [State.cluOf_setClu]; exact Tbl.get_set_ne _ _ _ (fun hj => h ⟨rfl, hj⟩)
  · rw [State.cluOf_setClu_ne _ _ hd]

/-! What `State.wr` leaves. -/

@[simp] theorem State.wr_pending (s : State) (f : Fld) (i v : Nat) : (s.wr f i v).pending = s.pending := rfl
@[simp] theorem State.wr_gddr (s : State) (f : Fld) (i v : Nat) : (s.wr f i v).gddr = s.gddr := rfl
@[simp] theorem State.wr_fresh (s : State) (f : Fld) (i v : Nat) : (s.wr f i v).fresh = s.fresh := rfl
@[simp] theorem State.wr_out (s : State) (f : Fld) (i v : Nat) : (s.wr f i v).out = s.out := rfl
@[simp] theorem State.wr_near (s : State) (f : Fld) (i v : Nat) : (s.wr f i v).near = s.near := rfl
@[simp] theorem State.wr_eps (s : State) (f : Fld) (i v : Nat) : (s.wr f i v).eps = s.eps := rfl
@[simp] theorem State.wr_atts (s : State) (f : Fld) (i v : Nat) : (s.wr f i v).atts = s.atts := rfl
@[simp] theorem State.wr_xlt (s : State) (f : Fld) (i v : Nat) : (s.wr f i v).xlt = s.xlt := rfl
@[simp] theorem State.wr_sqs (s : State) (f : Fld) (i v : Nat) : (s.wr f i v).sqs = s.sqs := rfl
@[simp] theorem State.wr_cqs (s : State) (f : Fld) (i v : Nat) : (s.wr f i v).cqs = s.cqs := rfl
@[simp] theorem State.wr_adms (s : State) (f : Fld) (i v : Nat) : (s.wr f i v).adms = s.adms := rfl
@[simp] theorem State.wr_conns (s : State) (f : Fld) (i v : Nat) : (s.wr f i v).conns = s.conns := rfl
@[simp] theorem State.wr_cip (s : State) (f : Fld) (i v : Nat) : (s.wr f i v).cip = s.cip := rfl
@[simp] theorem State.wr_traffic (s : State) (f : Fld) (i v : Nat) : (s.wr f i v).traffic = s.traffic := rfl
@[simp] theorem State.wr_far (s : State) (f : Fld) (i v : Nat) : (s.wr f i v).far = s.far := rfl
@[simp] theorem State.wr_pels (s : State) (f : Fld) (i v : Nat) : (s.wr f i v).pels = s.pels := rfl
@[simp] theorem State.wr_clus (s : State) (f : Fld) (i v : Nat) : (s.wr f i v).clus = s.clus := rfl
@[simp] theorem State.wr_ten (s : State) (f : Fld) (i v : Nat) : (s.wr f i v).ten = s.ten := rfl
@[simp] theorem State.wr_mgmt (s : State) (f : Fld) (i v : Nat) : (s.wr f i v).mgmt = s.mgmt := rfl
@[simp] theorem State.wr_board (s : State) (f : Fld) (i v : Nat) : (s.wr f i v).board = s.board := rfl
@[simp] theorem State.wr_armed (s : State) (f : Fld) (i v : Nat) : (s.wr f i v).armed = s.armed := rfl

/-! What `State.inc` leaves. -/

@[simp] theorem State.inc_pending (s : State) (f : Fld) (i n : Nat) : (s.inc f i n).pending = s.pending := rfl
@[simp] theorem State.inc_gddr (s : State) (f : Fld) (i n : Nat) : (s.inc f i n).gddr = s.gddr := rfl
@[simp] theorem State.inc_fresh (s : State) (f : Fld) (i n : Nat) : (s.inc f i n).fresh = s.fresh := rfl
@[simp] theorem State.inc_out (s : State) (f : Fld) (i n : Nat) : (s.inc f i n).out = s.out := rfl
@[simp] theorem State.inc_near (s : State) (f : Fld) (i n : Nat) : (s.inc f i n).near = s.near := rfl
@[simp] theorem State.inc_eps (s : State) (f : Fld) (i n : Nat) : (s.inc f i n).eps = s.eps := rfl
@[simp] theorem State.inc_atts (s : State) (f : Fld) (i n : Nat) : (s.inc f i n).atts = s.atts := rfl
@[simp] theorem State.inc_xlt (s : State) (f : Fld) (i n : Nat) : (s.inc f i n).xlt = s.xlt := rfl
@[simp] theorem State.inc_sqs (s : State) (f : Fld) (i n : Nat) : (s.inc f i n).sqs = s.sqs := rfl
@[simp] theorem State.inc_cqs (s : State) (f : Fld) (i n : Nat) : (s.inc f i n).cqs = s.cqs := rfl
@[simp] theorem State.inc_adms (s : State) (f : Fld) (i n : Nat) : (s.inc f i n).adms = s.adms := rfl
@[simp] theorem State.inc_conns (s : State) (f : Fld) (i n : Nat) : (s.inc f i n).conns = s.conns := rfl
@[simp] theorem State.inc_cip (s : State) (f : Fld) (i n : Nat) : (s.inc f i n).cip = s.cip := rfl
@[simp] theorem State.inc_traffic (s : State) (f : Fld) (i n : Nat) : (s.inc f i n).traffic = s.traffic := rfl
@[simp] theorem State.inc_far (s : State) (f : Fld) (i n : Nat) : (s.inc f i n).far = s.far := rfl
@[simp] theorem State.inc_pels (s : State) (f : Fld) (i n : Nat) : (s.inc f i n).pels = s.pels := rfl
@[simp] theorem State.inc_clus (s : State) (f : Fld) (i n : Nat) : (s.inc f i n).clus = s.clus := rfl
@[simp] theorem State.inc_ten (s : State) (f : Fld) (i n : Nat) : (s.inc f i n).ten = s.ten := rfl
@[simp] theorem State.inc_mgmt (s : State) (f : Fld) (i n : Nat) : (s.inc f i n).mgmt = s.mgmt := rfl
@[simp] theorem State.inc_board (s : State) (f : Fld) (i n : Nat) : (s.inc f i n).board = s.board := rfl
@[simp] theorem State.inc_armed (s : State) (f : Fld) (i n : Nat) : (s.inc f i n).armed = s.armed := rfl

/-! What `State.count` leaves. -/

@[simp] theorem State.count_pending (s : State) (f : Fld) (i n : Nat) : (s.count f i n).pending = s.pending := rfl
@[simp] theorem State.count_gddr (s : State) (f : Fld) (i n : Nat) : (s.count f i n).gddr = s.gddr := rfl
@[simp] theorem State.count_fresh (s : State) (f : Fld) (i n : Nat) : (s.count f i n).fresh = s.fresh := rfl
@[simp] theorem State.count_out (s : State) (f : Fld) (i n : Nat) : (s.count f i n).out = s.out := rfl
@[simp] theorem State.count_near (s : State) (f : Fld) (i n : Nat) : (s.count f i n).near = s.near := rfl
@[simp] theorem State.count_eps (s : State) (f : Fld) (i n : Nat) : (s.count f i n).eps = s.eps := rfl
@[simp] theorem State.count_atts (s : State) (f : Fld) (i n : Nat) : (s.count f i n).atts = s.atts := rfl
@[simp] theorem State.count_xlt (s : State) (f : Fld) (i n : Nat) : (s.count f i n).xlt = s.xlt := rfl
@[simp] theorem State.count_sqs (s : State) (f : Fld) (i n : Nat) : (s.count f i n).sqs = s.sqs := rfl
@[simp] theorem State.count_cqs (s : State) (f : Fld) (i n : Nat) : (s.count f i n).cqs = s.cqs := rfl
@[simp] theorem State.count_adms (s : State) (f : Fld) (i n : Nat) : (s.count f i n).adms = s.adms := rfl
@[simp] theorem State.count_conns (s : State) (f : Fld) (i n : Nat) : (s.count f i n).conns = s.conns := rfl
@[simp] theorem State.count_cip (s : State) (f : Fld) (i n : Nat) : (s.count f i n).cip = s.cip := rfl
@[simp] theorem State.count_traffic (s : State) (f : Fld) (i n : Nat) : (s.count f i n).traffic = s.traffic := rfl
@[simp] theorem State.count_far (s : State) (f : Fld) (i n : Nat) : (s.count f i n).far = s.far := rfl
@[simp] theorem State.count_pels (s : State) (f : Fld) (i n : Nat) : (s.count f i n).pels = s.pels := rfl
@[simp] theorem State.count_clus (s : State) (f : Fld) (i n : Nat) : (s.count f i n).clus = s.clus := rfl
@[simp] theorem State.count_ten (s : State) (f : Fld) (i n : Nat) : (s.count f i n).ten = s.ten := rfl
@[simp] theorem State.count_mgmt (s : State) (f : Fld) (i n : Nat) : (s.count f i n).mgmt = s.mgmt := rfl
@[simp] theorem State.count_board (s : State) (f : Fld) (i n : Nat) : (s.count f i n).board = s.board := rfl
@[simp] theorem State.count_armed (s : State) (f : Fld) (i n : Nat) : (s.count f i n).armed = s.armed := rfl

/-! What `State.dec` leaves. -/

@[simp] theorem State.dec_pending (s : State) (f : Fld) (i n : Nat) : (s.dec f i n).pending = s.pending := rfl
@[simp] theorem State.dec_gddr (s : State) (f : Fld) (i n : Nat) : (s.dec f i n).gddr = s.gddr := rfl
@[simp] theorem State.dec_fresh (s : State) (f : Fld) (i n : Nat) : (s.dec f i n).fresh = s.fresh := rfl
@[simp] theorem State.dec_out (s : State) (f : Fld) (i n : Nat) : (s.dec f i n).out = s.out := rfl
@[simp] theorem State.dec_near (s : State) (f : Fld) (i n : Nat) : (s.dec f i n).near = s.near := rfl
@[simp] theorem State.dec_eps (s : State) (f : Fld) (i n : Nat) : (s.dec f i n).eps = s.eps := rfl
@[simp] theorem State.dec_atts (s : State) (f : Fld) (i n : Nat) : (s.dec f i n).atts = s.atts := rfl
@[simp] theorem State.dec_xlt (s : State) (f : Fld) (i n : Nat) : (s.dec f i n).xlt = s.xlt := rfl
@[simp] theorem State.dec_sqs (s : State) (f : Fld) (i n : Nat) : (s.dec f i n).sqs = s.sqs := rfl
@[simp] theorem State.dec_cqs (s : State) (f : Fld) (i n : Nat) : (s.dec f i n).cqs = s.cqs := rfl
@[simp] theorem State.dec_adms (s : State) (f : Fld) (i n : Nat) : (s.dec f i n).adms = s.adms := rfl
@[simp] theorem State.dec_conns (s : State) (f : Fld) (i n : Nat) : (s.dec f i n).conns = s.conns := rfl
@[simp] theorem State.dec_cip (s : State) (f : Fld) (i n : Nat) : (s.dec f i n).cip = s.cip := rfl
@[simp] theorem State.dec_traffic (s : State) (f : Fld) (i n : Nat) : (s.dec f i n).traffic = s.traffic := rfl
@[simp] theorem State.dec_far (s : State) (f : Fld) (i n : Nat) : (s.dec f i n).far = s.far := rfl
@[simp] theorem State.dec_pels (s : State) (f : Fld) (i n : Nat) : (s.dec f i n).pels = s.pels := rfl
@[simp] theorem State.dec_clus (s : State) (f : Fld) (i n : Nat) : (s.dec f i n).clus = s.clus := rfl
@[simp] theorem State.dec_ten (s : State) (f : Fld) (i n : Nat) : (s.dec f i n).ten = s.ten := rfl
@[simp] theorem State.dec_mgmt (s : State) (f : Fld) (i n : Nat) : (s.dec f i n).mgmt = s.mgmt := rfl
@[simp] theorem State.dec_board (s : State) (f : Fld) (i n : Nat) : (s.dec f i n).board = s.board := rfl
@[simp] theorem State.dec_armed (s : State) (f : Fld) (i n : Nat) : (s.dec f i n).armed = s.armed := rfl

/-! What `State.put` leaves. -/

@[simp] theorem State.put_pending (s : State) (f : Fld) (i : Nat) (b : Bool) : (s.put f i b).pending = s.pending := rfl
@[simp] theorem State.put_gddr (s : State) (f : Fld) (i : Nat) (b : Bool) : (s.put f i b).gddr = s.gddr := rfl
@[simp] theorem State.put_fresh (s : State) (f : Fld) (i : Nat) (b : Bool) : (s.put f i b).fresh = s.fresh := rfl
@[simp] theorem State.put_out (s : State) (f : Fld) (i : Nat) (b : Bool) : (s.put f i b).out = s.out := rfl
@[simp] theorem State.put_near (s : State) (f : Fld) (i : Nat) (b : Bool) : (s.put f i b).near = s.near := rfl
@[simp] theorem State.put_eps (s : State) (f : Fld) (i : Nat) (b : Bool) : (s.put f i b).eps = s.eps := rfl
@[simp] theorem State.put_atts (s : State) (f : Fld) (i : Nat) (b : Bool) : (s.put f i b).atts = s.atts := rfl
@[simp] theorem State.put_xlt (s : State) (f : Fld) (i : Nat) (b : Bool) : (s.put f i b).xlt = s.xlt := rfl
@[simp] theorem State.put_sqs (s : State) (f : Fld) (i : Nat) (b : Bool) : (s.put f i b).sqs = s.sqs := rfl
@[simp] theorem State.put_cqs (s : State) (f : Fld) (i : Nat) (b : Bool) : (s.put f i b).cqs = s.cqs := rfl
@[simp] theorem State.put_adms (s : State) (f : Fld) (i : Nat) (b : Bool) : (s.put f i b).adms = s.adms := rfl
@[simp] theorem State.put_conns (s : State) (f : Fld) (i : Nat) (b : Bool) : (s.put f i b).conns = s.conns := rfl
@[simp] theorem State.put_cip (s : State) (f : Fld) (i : Nat) (b : Bool) : (s.put f i b).cip = s.cip := rfl
@[simp] theorem State.put_traffic (s : State) (f : Fld) (i : Nat) (b : Bool) : (s.put f i b).traffic = s.traffic := rfl
@[simp] theorem State.put_far (s : State) (f : Fld) (i : Nat) (b : Bool) : (s.put f i b).far = s.far := rfl
@[simp] theorem State.put_pels (s : State) (f : Fld) (i : Nat) (b : Bool) : (s.put f i b).pels = s.pels := rfl
@[simp] theorem State.put_clus (s : State) (f : Fld) (i : Nat) (b : Bool) : (s.put f i b).clus = s.clus := rfl
@[simp] theorem State.put_ten (s : State) (f : Fld) (i : Nat) (b : Bool) : (s.put f i b).ten = s.ten := rfl
@[simp] theorem State.put_mgmt (s : State) (f : Fld) (i : Nat) (b : Bool) : (s.put f i b).mgmt = s.mgmt := rfl
@[simp] theorem State.put_board (s : State) (f : Fld) (i : Nat) (b : Bool) : (s.put f i b).board = s.board := rfl
@[simp] theorem State.put_armed (s : State) (f : Fld) (i : Nat) (b : Bool) : (s.put f i b).armed = s.armed := rfl

/-! What `State.emit` leaves. -/

@[simp] theorem State.emit_pending (s : State) (o : Out) : (s.emit o).pending = s.pending := rfl
@[simp] theorem State.emit_regs (s : State) (o : Out) : (s.emit o).regs = s.regs := rfl
@[simp] theorem State.emit_gddr (s : State) (o : Out) : (s.emit o).gddr = s.gddr := rfl
@[simp] theorem State.emit_fresh (s : State) (o : Out) : (s.emit o).fresh = s.fresh := rfl
@[simp] theorem State.emit_near (s : State) (o : Out) : (s.emit o).near = s.near := rfl
@[simp] theorem State.emit_eps (s : State) (o : Out) : (s.emit o).eps = s.eps := rfl
@[simp] theorem State.emit_atts (s : State) (o : Out) : (s.emit o).atts = s.atts := rfl
@[simp] theorem State.emit_xlt (s : State) (o : Out) : (s.emit o).xlt = s.xlt := rfl
@[simp] theorem State.emit_sqs (s : State) (o : Out) : (s.emit o).sqs = s.sqs := rfl
@[simp] theorem State.emit_cqs (s : State) (o : Out) : (s.emit o).cqs = s.cqs := rfl
@[simp] theorem State.emit_adms (s : State) (o : Out) : (s.emit o).adms = s.adms := rfl
@[simp] theorem State.emit_conns (s : State) (o : Out) : (s.emit o).conns = s.conns := rfl
@[simp] theorem State.emit_cip (s : State) (o : Out) : (s.emit o).cip = s.cip := rfl
@[simp] theorem State.emit_traffic (s : State) (o : Out) : (s.emit o).traffic = s.traffic := rfl
@[simp] theorem State.emit_far (s : State) (o : Out) : (s.emit o).far = s.far := rfl
@[simp] theorem State.emit_pels (s : State) (o : Out) : (s.emit o).pels = s.pels := rfl
@[simp] theorem State.emit_clus (s : State) (o : Out) : (s.emit o).clus = s.clus := rfl
@[simp] theorem State.emit_ten (s : State) (o : Out) : (s.emit o).ten = s.ten := rfl
@[simp] theorem State.emit_mgmt (s : State) (o : Out) : (s.emit o).mgmt = s.mgmt := rfl
@[simp] theorem State.emit_board (s : State) (o : Out) : (s.emit o).board = s.board := rfl
@[simp] theorem State.emit_armed (s : State) (o : Out) : (s.emit o).armed = s.armed := rfl
@[simp] theorem State.emit_rd (s : State) (o : Out) (h : Fld) (j : Nat) : (s.emit o).rd h j = s.rd h j := rfl

/-! What `State.bump` leaves. -/

@[simp] theorem State.bump_pending (s : State) : s.bump.pending = s.pending := rfl
@[simp] theorem State.bump_regs (s : State) : s.bump.regs = s.regs := rfl
@[simp] theorem State.bump_gddr (s : State) : s.bump.gddr = s.gddr := rfl
@[simp] theorem State.bump_out (s : State) : s.bump.out = s.out := rfl
@[simp] theorem State.bump_near (s : State) : s.bump.near = s.near := rfl
@[simp] theorem State.bump_eps (s : State) : s.bump.eps = s.eps := rfl
@[simp] theorem State.bump_atts (s : State) : s.bump.atts = s.atts := rfl
@[simp] theorem State.bump_xlt (s : State) : s.bump.xlt = s.xlt := rfl
@[simp] theorem State.bump_sqs (s : State) : s.bump.sqs = s.sqs := rfl
@[simp] theorem State.bump_cqs (s : State) : s.bump.cqs = s.cqs := rfl
@[simp] theorem State.bump_adms (s : State) : s.bump.adms = s.adms := rfl
@[simp] theorem State.bump_conns (s : State) : s.bump.conns = s.conns := rfl
@[simp] theorem State.bump_cip (s : State) : s.bump.cip = s.cip := rfl
@[simp] theorem State.bump_traffic (s : State) : s.bump.traffic = s.traffic := rfl
@[simp] theorem State.bump_far (s : State) : s.bump.far = s.far := rfl
@[simp] theorem State.bump_pels (s : State) : s.bump.pels = s.pels := rfl
@[simp] theorem State.bump_clus (s : State) : s.bump.clus = s.clus := rfl
@[simp] theorem State.bump_ten (s : State) : s.bump.ten = s.ten := rfl
@[simp] theorem State.bump_mgmt (s : State) : s.bump.mgmt = s.mgmt := rfl
@[simp] theorem State.bump_board (s : State) : s.bump.board = s.board := rfl
@[simp] theorem State.bump_armed (s : State) : s.bump.armed = s.armed := rfl
@[simp] theorem State.bump_rd (s : State)  (h : Fld) (j : Nat) : (s.bump ).rd h j = s.rd h j := rfl

/-! What `State.bumpN` leaves. -/

@[simp] theorem State.bumpN_pending (s : State) (n : Nat) : (s.bumpN n).pending = s.pending := rfl
@[simp] theorem State.bumpN_regs (s : State) (n : Nat) : (s.bumpN n).regs = s.regs := rfl
@[simp] theorem State.bumpN_gddr (s : State) (n : Nat) : (s.bumpN n).gddr = s.gddr := rfl
@[simp] theorem State.bumpN_out (s : State) (n : Nat) : (s.bumpN n).out = s.out := rfl
@[simp] theorem State.bumpN_near (s : State) (n : Nat) : (s.bumpN n).near = s.near := rfl
@[simp] theorem State.bumpN_eps (s : State) (n : Nat) : (s.bumpN n).eps = s.eps := rfl
@[simp] theorem State.bumpN_atts (s : State) (n : Nat) : (s.bumpN n).atts = s.atts := rfl
@[simp] theorem State.bumpN_xlt (s : State) (n : Nat) : (s.bumpN n).xlt = s.xlt := rfl
@[simp] theorem State.bumpN_sqs (s : State) (n : Nat) : (s.bumpN n).sqs = s.sqs := rfl
@[simp] theorem State.bumpN_cqs (s : State) (n : Nat) : (s.bumpN n).cqs = s.cqs := rfl
@[simp] theorem State.bumpN_adms (s : State) (n : Nat) : (s.bumpN n).adms = s.adms := rfl
@[simp] theorem State.bumpN_conns (s : State) (n : Nat) : (s.bumpN n).conns = s.conns := rfl
@[simp] theorem State.bumpN_cip (s : State) (n : Nat) : (s.bumpN n).cip = s.cip := rfl
@[simp] theorem State.bumpN_traffic (s : State) (n : Nat) : (s.bumpN n).traffic = s.traffic := rfl
@[simp] theorem State.bumpN_far (s : State) (n : Nat) : (s.bumpN n).far = s.far := rfl
@[simp] theorem State.bumpN_pels (s : State) (n : Nat) : (s.bumpN n).pels = s.pels := rfl
@[simp] theorem State.bumpN_clus (s : State) (n : Nat) : (s.bumpN n).clus = s.clus := rfl
@[simp] theorem State.bumpN_ten (s : State) (n : Nat) : (s.bumpN n).ten = s.ten := rfl
@[simp] theorem State.bumpN_mgmt (s : State) (n : Nat) : (s.bumpN n).mgmt = s.mgmt := rfl
@[simp] theorem State.bumpN_board (s : State) (n : Nat) : (s.bumpN n).board = s.board := rfl
@[simp] theorem State.bumpN_armed (s : State) (n : Nat) : (s.bumpN n).armed = s.armed := rfl
@[simp] theorem State.bumpN_rd (s : State) (n : Nat) (h : Fld) (j : Nat) : (s.bumpN n).rd h j = s.rd h j := rfl

/-! What `State.setNear` leaves. -/

@[simp] theorem State.setNear_pending (s : State) (p : Nat) (v : Near) : (s.setNear p v).pending = s.pending := rfl
@[simp] theorem State.setNear_regs (s : State) (p : Nat) (v : Near) : (s.setNear p v).regs = s.regs := rfl
@[simp] theorem State.setNear_gddr (s : State) (p : Nat) (v : Near) : (s.setNear p v).gddr = s.gddr := rfl
@[simp] theorem State.setNear_fresh (s : State) (p : Nat) (v : Near) : (s.setNear p v).fresh = s.fresh := rfl
@[simp] theorem State.setNear_out (s : State) (p : Nat) (v : Near) : (s.setNear p v).out = s.out := rfl
@[simp] theorem State.setNear_eps (s : State) (p : Nat) (v : Near) : (s.setNear p v).eps = s.eps := rfl
@[simp] theorem State.setNear_atts (s : State) (p : Nat) (v : Near) : (s.setNear p v).atts = s.atts := rfl
@[simp] theorem State.setNear_xlt (s : State) (p : Nat) (v : Near) : (s.setNear p v).xlt = s.xlt := rfl
@[simp] theorem State.setNear_sqs (s : State) (p : Nat) (v : Near) : (s.setNear p v).sqs = s.sqs := rfl
@[simp] theorem State.setNear_cqs (s : State) (p : Nat) (v : Near) : (s.setNear p v).cqs = s.cqs := rfl
@[simp] theorem State.setNear_adms (s : State) (p : Nat) (v : Near) : (s.setNear p v).adms = s.adms := rfl
@[simp] theorem State.setNear_conns (s : State) (p : Nat) (v : Near) : (s.setNear p v).conns = s.conns := rfl
@[simp] theorem State.setNear_cip (s : State) (p : Nat) (v : Near) : (s.setNear p v).cip = s.cip := rfl
@[simp] theorem State.setNear_traffic (s : State) (p : Nat) (v : Near) : (s.setNear p v).traffic = s.traffic := rfl
@[simp] theorem State.setNear_far (s : State) (p : Nat) (v : Near) : (s.setNear p v).far = s.far := rfl
@[simp] theorem State.setNear_pels (s : State) (p : Nat) (v : Near) : (s.setNear p v).pels = s.pels := rfl
@[simp] theorem State.setNear_clus (s : State) (p : Nat) (v : Near) : (s.setNear p v).clus = s.clus := rfl
@[simp] theorem State.setNear_ten (s : State) (p : Nat) (v : Near) : (s.setNear p v).ten = s.ten := rfl
@[simp] theorem State.setNear_mgmt (s : State) (p : Nat) (v : Near) : (s.setNear p v).mgmt = s.mgmt := rfl
@[simp] theorem State.setNear_board (s : State) (p : Nat) (v : Near) : (s.setNear p v).board = s.board := rfl
@[simp] theorem State.setNear_armed (s : State) (p : Nat) (v : Near) : (s.setNear p v).armed = s.armed := rfl
@[simp] theorem State.setNear_rd (s : State) (p : Nat) (v : Near) (h : Fld) (j : Nat) : (s.setNear p v).rd h j = s.rd h j := rfl

/-! What `State.setEp` leaves. -/

@[simp] theorem State.setEp_pending (s : State) (p : Nat) (v : Endpoint) : (s.setEp p v).pending = s.pending := rfl
@[simp] theorem State.setEp_regs (s : State) (p : Nat) (v : Endpoint) : (s.setEp p v).regs = s.regs := rfl
@[simp] theorem State.setEp_gddr (s : State) (p : Nat) (v : Endpoint) : (s.setEp p v).gddr = s.gddr := rfl
@[simp] theorem State.setEp_fresh (s : State) (p : Nat) (v : Endpoint) : (s.setEp p v).fresh = s.fresh := rfl
@[simp] theorem State.setEp_out (s : State) (p : Nat) (v : Endpoint) : (s.setEp p v).out = s.out := rfl
@[simp] theorem State.setEp_near (s : State) (p : Nat) (v : Endpoint) : (s.setEp p v).near = s.near := rfl
@[simp] theorem State.setEp_atts (s : State) (p : Nat) (v : Endpoint) : (s.setEp p v).atts = s.atts := rfl
@[simp] theorem State.setEp_xlt (s : State) (p : Nat) (v : Endpoint) : (s.setEp p v).xlt = s.xlt := rfl
@[simp] theorem State.setEp_sqs (s : State) (p : Nat) (v : Endpoint) : (s.setEp p v).sqs = s.sqs := rfl
@[simp] theorem State.setEp_cqs (s : State) (p : Nat) (v : Endpoint) : (s.setEp p v).cqs = s.cqs := rfl
@[simp] theorem State.setEp_adms (s : State) (p : Nat) (v : Endpoint) : (s.setEp p v).adms = s.adms := rfl
@[simp] theorem State.setEp_conns (s : State) (p : Nat) (v : Endpoint) : (s.setEp p v).conns = s.conns := rfl
@[simp] theorem State.setEp_cip (s : State) (p : Nat) (v : Endpoint) : (s.setEp p v).cip = s.cip := rfl
@[simp] theorem State.setEp_traffic (s : State) (p : Nat) (v : Endpoint) : (s.setEp p v).traffic = s.traffic := rfl
@[simp] theorem State.setEp_far (s : State) (p : Nat) (v : Endpoint) : (s.setEp p v).far = s.far := rfl
@[simp] theorem State.setEp_pels (s : State) (p : Nat) (v : Endpoint) : (s.setEp p v).pels = s.pels := rfl
@[simp] theorem State.setEp_clus (s : State) (p : Nat) (v : Endpoint) : (s.setEp p v).clus = s.clus := rfl
@[simp] theorem State.setEp_ten (s : State) (p : Nat) (v : Endpoint) : (s.setEp p v).ten = s.ten := rfl
@[simp] theorem State.setEp_mgmt (s : State) (p : Nat) (v : Endpoint) : (s.setEp p v).mgmt = s.mgmt := rfl
@[simp] theorem State.setEp_board (s : State) (p : Nat) (v : Endpoint) : (s.setEp p v).board = s.board := rfl
@[simp] theorem State.setEp_armed (s : State) (p : Nat) (v : Endpoint) : (s.setEp p v).armed = s.armed := rfl
@[simp] theorem State.setEp_rd (s : State) (p : Nat) (v : Endpoint) (h : Fld) (j : Nat) : (s.setEp p v).rd h j = s.rd h j := rfl

/-! What `State.setAtt` leaves. -/

@[simp] theorem State.setAtt_pending (s : State) (p : Nat) (v : Attach) : (s.setAtt p v).pending = s.pending := rfl
@[simp] theorem State.setAtt_regs (s : State) (p : Nat) (v : Attach) : (s.setAtt p v).regs = s.regs := rfl
@[simp] theorem State.setAtt_gddr (s : State) (p : Nat) (v : Attach) : (s.setAtt p v).gddr = s.gddr := rfl
@[simp] theorem State.setAtt_fresh (s : State) (p : Nat) (v : Attach) : (s.setAtt p v).fresh = s.fresh := rfl
@[simp] theorem State.setAtt_out (s : State) (p : Nat) (v : Attach) : (s.setAtt p v).out = s.out := rfl
@[simp] theorem State.setAtt_near (s : State) (p : Nat) (v : Attach) : (s.setAtt p v).near = s.near := rfl
@[simp] theorem State.setAtt_eps (s : State) (p : Nat) (v : Attach) : (s.setAtt p v).eps = s.eps := rfl
@[simp] theorem State.setAtt_xlt (s : State) (p : Nat) (v : Attach) : (s.setAtt p v).xlt = s.xlt := rfl
@[simp] theorem State.setAtt_sqs (s : State) (p : Nat) (v : Attach) : (s.setAtt p v).sqs = s.sqs := rfl
@[simp] theorem State.setAtt_cqs (s : State) (p : Nat) (v : Attach) : (s.setAtt p v).cqs = s.cqs := rfl
@[simp] theorem State.setAtt_adms (s : State) (p : Nat) (v : Attach) : (s.setAtt p v).adms = s.adms := rfl
@[simp] theorem State.setAtt_conns (s : State) (p : Nat) (v : Attach) : (s.setAtt p v).conns = s.conns := rfl
@[simp] theorem State.setAtt_cip (s : State) (p : Nat) (v : Attach) : (s.setAtt p v).cip = s.cip := rfl
@[simp] theorem State.setAtt_traffic (s : State) (p : Nat) (v : Attach) : (s.setAtt p v).traffic = s.traffic := rfl
@[simp] theorem State.setAtt_far (s : State) (p : Nat) (v : Attach) : (s.setAtt p v).far = s.far := rfl
@[simp] theorem State.setAtt_pels (s : State) (p : Nat) (v : Attach) : (s.setAtt p v).pels = s.pels := rfl
@[simp] theorem State.setAtt_clus (s : State) (p : Nat) (v : Attach) : (s.setAtt p v).clus = s.clus := rfl
@[simp] theorem State.setAtt_ten (s : State) (p : Nat) (v : Attach) : (s.setAtt p v).ten = s.ten := rfl
@[simp] theorem State.setAtt_mgmt (s : State) (p : Nat) (v : Attach) : (s.setAtt p v).mgmt = s.mgmt := rfl
@[simp] theorem State.setAtt_board (s : State) (p : Nat) (v : Attach) : (s.setAtt p v).board = s.board := rfl
@[simp] theorem State.setAtt_armed (s : State) (p : Nat) (v : Attach) : (s.setAtt p v).armed = s.armed := rfl
@[simp] theorem State.setAtt_rd (s : State) (p : Nat) (v : Attach) (h : Fld) (j : Nat) : (s.setAtt p v).rd h j = s.rd h j := rfl

/-! What `State.setSq` leaves. -/

@[simp] theorem State.setSq_pending (s : State) (p : Nat) (v : Sq) : (s.setSq p v).pending = s.pending := rfl
@[simp] theorem State.setSq_regs (s : State) (p : Nat) (v : Sq) : (s.setSq p v).regs = s.regs := rfl
@[simp] theorem State.setSq_gddr (s : State) (p : Nat) (v : Sq) : (s.setSq p v).gddr = s.gddr := rfl
@[simp] theorem State.setSq_fresh (s : State) (p : Nat) (v : Sq) : (s.setSq p v).fresh = s.fresh := rfl
@[simp] theorem State.setSq_out (s : State) (p : Nat) (v : Sq) : (s.setSq p v).out = s.out := rfl
@[simp] theorem State.setSq_near (s : State) (p : Nat) (v : Sq) : (s.setSq p v).near = s.near := rfl
@[simp] theorem State.setSq_eps (s : State) (p : Nat) (v : Sq) : (s.setSq p v).eps = s.eps := rfl
@[simp] theorem State.setSq_atts (s : State) (p : Nat) (v : Sq) : (s.setSq p v).atts = s.atts := rfl
@[simp] theorem State.setSq_xlt (s : State) (p : Nat) (v : Sq) : (s.setSq p v).xlt = s.xlt := rfl
@[simp] theorem State.setSq_cqs (s : State) (p : Nat) (v : Sq) : (s.setSq p v).cqs = s.cqs := rfl
@[simp] theorem State.setSq_adms (s : State) (p : Nat) (v : Sq) : (s.setSq p v).adms = s.adms := rfl
@[simp] theorem State.setSq_conns (s : State) (p : Nat) (v : Sq) : (s.setSq p v).conns = s.conns := rfl
@[simp] theorem State.setSq_cip (s : State) (p : Nat) (v : Sq) : (s.setSq p v).cip = s.cip := rfl
@[simp] theorem State.setSq_traffic (s : State) (p : Nat) (v : Sq) : (s.setSq p v).traffic = s.traffic := rfl
@[simp] theorem State.setSq_far (s : State) (p : Nat) (v : Sq) : (s.setSq p v).far = s.far := rfl
@[simp] theorem State.setSq_pels (s : State) (p : Nat) (v : Sq) : (s.setSq p v).pels = s.pels := rfl
@[simp] theorem State.setSq_clus (s : State) (p : Nat) (v : Sq) : (s.setSq p v).clus = s.clus := rfl
@[simp] theorem State.setSq_ten (s : State) (p : Nat) (v : Sq) : (s.setSq p v).ten = s.ten := rfl
@[simp] theorem State.setSq_mgmt (s : State) (p : Nat) (v : Sq) : (s.setSq p v).mgmt = s.mgmt := rfl
@[simp] theorem State.setSq_board (s : State) (p : Nat) (v : Sq) : (s.setSq p v).board = s.board := rfl
@[simp] theorem State.setSq_armed (s : State) (p : Nat) (v : Sq) : (s.setSq p v).armed = s.armed := rfl
@[simp] theorem State.setSq_rd (s : State) (p : Nat) (v : Sq) (h : Fld) (j : Nat) : (s.setSq p v).rd h j = s.rd h j := rfl

/-! What `State.setCq` leaves. -/

@[simp] theorem State.setCq_pending (s : State) (p : Nat) (v : Cq) : (s.setCq p v).pending = s.pending := rfl
@[simp] theorem State.setCq_regs (s : State) (p : Nat) (v : Cq) : (s.setCq p v).regs = s.regs := rfl
@[simp] theorem State.setCq_gddr (s : State) (p : Nat) (v : Cq) : (s.setCq p v).gddr = s.gddr := rfl
@[simp] theorem State.setCq_fresh (s : State) (p : Nat) (v : Cq) : (s.setCq p v).fresh = s.fresh := rfl
@[simp] theorem State.setCq_out (s : State) (p : Nat) (v : Cq) : (s.setCq p v).out = s.out := rfl
@[simp] theorem State.setCq_near (s : State) (p : Nat) (v : Cq) : (s.setCq p v).near = s.near := rfl
@[simp] theorem State.setCq_eps (s : State) (p : Nat) (v : Cq) : (s.setCq p v).eps = s.eps := rfl
@[simp] theorem State.setCq_atts (s : State) (p : Nat) (v : Cq) : (s.setCq p v).atts = s.atts := rfl
@[simp] theorem State.setCq_xlt (s : State) (p : Nat) (v : Cq) : (s.setCq p v).xlt = s.xlt := rfl
@[simp] theorem State.setCq_sqs (s : State) (p : Nat) (v : Cq) : (s.setCq p v).sqs = s.sqs := rfl
@[simp] theorem State.setCq_adms (s : State) (p : Nat) (v : Cq) : (s.setCq p v).adms = s.adms := rfl
@[simp] theorem State.setCq_conns (s : State) (p : Nat) (v : Cq) : (s.setCq p v).conns = s.conns := rfl
@[simp] theorem State.setCq_cip (s : State) (p : Nat) (v : Cq) : (s.setCq p v).cip = s.cip := rfl
@[simp] theorem State.setCq_traffic (s : State) (p : Nat) (v : Cq) : (s.setCq p v).traffic = s.traffic := rfl
@[simp] theorem State.setCq_far (s : State) (p : Nat) (v : Cq) : (s.setCq p v).far = s.far := rfl
@[simp] theorem State.setCq_pels (s : State) (p : Nat) (v : Cq) : (s.setCq p v).pels = s.pels := rfl
@[simp] theorem State.setCq_clus (s : State) (p : Nat) (v : Cq) : (s.setCq p v).clus = s.clus := rfl
@[simp] theorem State.setCq_ten (s : State) (p : Nat) (v : Cq) : (s.setCq p v).ten = s.ten := rfl
@[simp] theorem State.setCq_mgmt (s : State) (p : Nat) (v : Cq) : (s.setCq p v).mgmt = s.mgmt := rfl
@[simp] theorem State.setCq_board (s : State) (p : Nat) (v : Cq) : (s.setCq p v).board = s.board := rfl
@[simp] theorem State.setCq_armed (s : State) (p : Nat) (v : Cq) : (s.setCq p v).armed = s.armed := rfl
@[simp] theorem State.setCq_rd (s : State) (p : Nat) (v : Cq) (h : Fld) (j : Nat) : (s.setCq p v).rd h j = s.rd h j := rfl

/-! What `State.setAdm` leaves. -/

@[simp] theorem State.setAdm_pending (s : State) (p : Nat) (v : Adm) : (s.setAdm p v).pending = s.pending := rfl
@[simp] theorem State.setAdm_regs (s : State) (p : Nat) (v : Adm) : (s.setAdm p v).regs = s.regs := rfl
@[simp] theorem State.setAdm_gddr (s : State) (p : Nat) (v : Adm) : (s.setAdm p v).gddr = s.gddr := rfl
@[simp] theorem State.setAdm_fresh (s : State) (p : Nat) (v : Adm) : (s.setAdm p v).fresh = s.fresh := rfl
@[simp] theorem State.setAdm_out (s : State) (p : Nat) (v : Adm) : (s.setAdm p v).out = s.out := rfl
@[simp] theorem State.setAdm_near (s : State) (p : Nat) (v : Adm) : (s.setAdm p v).near = s.near := rfl
@[simp] theorem State.setAdm_eps (s : State) (p : Nat) (v : Adm) : (s.setAdm p v).eps = s.eps := rfl
@[simp] theorem State.setAdm_atts (s : State) (p : Nat) (v : Adm) : (s.setAdm p v).atts = s.atts := rfl
@[simp] theorem State.setAdm_xlt (s : State) (p : Nat) (v : Adm) : (s.setAdm p v).xlt = s.xlt := rfl
@[simp] theorem State.setAdm_sqs (s : State) (p : Nat) (v : Adm) : (s.setAdm p v).sqs = s.sqs := rfl
@[simp] theorem State.setAdm_cqs (s : State) (p : Nat) (v : Adm) : (s.setAdm p v).cqs = s.cqs := rfl
@[simp] theorem State.setAdm_conns (s : State) (p : Nat) (v : Adm) : (s.setAdm p v).conns = s.conns := rfl
@[simp] theorem State.setAdm_cip (s : State) (p : Nat) (v : Adm) : (s.setAdm p v).cip = s.cip := rfl
@[simp] theorem State.setAdm_traffic (s : State) (p : Nat) (v : Adm) : (s.setAdm p v).traffic = s.traffic := rfl
@[simp] theorem State.setAdm_far (s : State) (p : Nat) (v : Adm) : (s.setAdm p v).far = s.far := rfl
@[simp] theorem State.setAdm_pels (s : State) (p : Nat) (v : Adm) : (s.setAdm p v).pels = s.pels := rfl
@[simp] theorem State.setAdm_clus (s : State) (p : Nat) (v : Adm) : (s.setAdm p v).clus = s.clus := rfl
@[simp] theorem State.setAdm_ten (s : State) (p : Nat) (v : Adm) : (s.setAdm p v).ten = s.ten := rfl
@[simp] theorem State.setAdm_mgmt (s : State) (p : Nat) (v : Adm) : (s.setAdm p v).mgmt = s.mgmt := rfl
@[simp] theorem State.setAdm_board (s : State) (p : Nat) (v : Adm) : (s.setAdm p v).board = s.board := rfl
@[simp] theorem State.setAdm_armed (s : State) (p : Nat) (v : Adm) : (s.setAdm p v).armed = s.armed := rfl
@[simp] theorem State.setAdm_rd (s : State) (p : Nat) (v : Adm) (h : Fld) (j : Nat) : (s.setAdm p v).rd h j = s.rd h j := rfl

/-! What `State.setConn` leaves. -/

@[simp] theorem State.setConn_pending (s : State) (p : Nat) (v : Conn) : (s.setConn p v).pending = s.pending := rfl
@[simp] theorem State.setConn_regs (s : State) (p : Nat) (v : Conn) : (s.setConn p v).regs = s.regs := rfl
@[simp] theorem State.setConn_gddr (s : State) (p : Nat) (v : Conn) : (s.setConn p v).gddr = s.gddr := rfl
@[simp] theorem State.setConn_fresh (s : State) (p : Nat) (v : Conn) : (s.setConn p v).fresh = s.fresh := rfl
@[simp] theorem State.setConn_out (s : State) (p : Nat) (v : Conn) : (s.setConn p v).out = s.out := rfl
@[simp] theorem State.setConn_near (s : State) (p : Nat) (v : Conn) : (s.setConn p v).near = s.near := rfl
@[simp] theorem State.setConn_eps (s : State) (p : Nat) (v : Conn) : (s.setConn p v).eps = s.eps := rfl
@[simp] theorem State.setConn_atts (s : State) (p : Nat) (v : Conn) : (s.setConn p v).atts = s.atts := rfl
@[simp] theorem State.setConn_xlt (s : State) (p : Nat) (v : Conn) : (s.setConn p v).xlt = s.xlt := rfl
@[simp] theorem State.setConn_sqs (s : State) (p : Nat) (v : Conn) : (s.setConn p v).sqs = s.sqs := rfl
@[simp] theorem State.setConn_cqs (s : State) (p : Nat) (v : Conn) : (s.setConn p v).cqs = s.cqs := rfl
@[simp] theorem State.setConn_adms (s : State) (p : Nat) (v : Conn) : (s.setConn p v).adms = s.adms := rfl
@[simp] theorem State.setConn_cip (s : State) (p : Nat) (v : Conn) : (s.setConn p v).cip = s.cip := rfl
@[simp] theorem State.setConn_traffic (s : State) (p : Nat) (v : Conn) : (s.setConn p v).traffic = s.traffic := rfl
@[simp] theorem State.setConn_far (s : State) (p : Nat) (v : Conn) : (s.setConn p v).far = s.far := rfl
@[simp] theorem State.setConn_pels (s : State) (p : Nat) (v : Conn) : (s.setConn p v).pels = s.pels := rfl
@[simp] theorem State.setConn_clus (s : State) (p : Nat) (v : Conn) : (s.setConn p v).clus = s.clus := rfl
@[simp] theorem State.setConn_ten (s : State) (p : Nat) (v : Conn) : (s.setConn p v).ten = s.ten := rfl
@[simp] theorem State.setConn_mgmt (s : State) (p : Nat) (v : Conn) : (s.setConn p v).mgmt = s.mgmt := rfl
@[simp] theorem State.setConn_board (s : State) (p : Nat) (v : Conn) : (s.setConn p v).board = s.board := rfl
@[simp] theorem State.setConn_armed (s : State) (p : Nat) (v : Conn) : (s.setConn p v).armed = s.armed := rfl
@[simp] theorem State.setConn_rd (s : State) (p : Nat) (v : Conn) (h : Fld) (j : Nat) : (s.setConn p v).rd h j = s.rd h j := rfl

/-! What `State.setFar` leaves. -/

@[simp] theorem State.setFar_pending (s : State) (p : Nat) (v : Far) : (s.setFar p v).pending = s.pending := rfl
@[simp] theorem State.setFar_regs (s : State) (p : Nat) (v : Far) : (s.setFar p v).regs = s.regs := rfl
@[simp] theorem State.setFar_gddr (s : State) (p : Nat) (v : Far) : (s.setFar p v).gddr = s.gddr := rfl
@[simp] theorem State.setFar_fresh (s : State) (p : Nat) (v : Far) : (s.setFar p v).fresh = s.fresh := rfl
@[simp] theorem State.setFar_out (s : State) (p : Nat) (v : Far) : (s.setFar p v).out = s.out := rfl
@[simp] theorem State.setFar_near (s : State) (p : Nat) (v : Far) : (s.setFar p v).near = s.near := rfl
@[simp] theorem State.setFar_eps (s : State) (p : Nat) (v : Far) : (s.setFar p v).eps = s.eps := rfl
@[simp] theorem State.setFar_atts (s : State) (p : Nat) (v : Far) : (s.setFar p v).atts = s.atts := rfl
@[simp] theorem State.setFar_xlt (s : State) (p : Nat) (v : Far) : (s.setFar p v).xlt = s.xlt := rfl
@[simp] theorem State.setFar_sqs (s : State) (p : Nat) (v : Far) : (s.setFar p v).sqs = s.sqs := rfl
@[simp] theorem State.setFar_cqs (s : State) (p : Nat) (v : Far) : (s.setFar p v).cqs = s.cqs := rfl
@[simp] theorem State.setFar_adms (s : State) (p : Nat) (v : Far) : (s.setFar p v).adms = s.adms := rfl
@[simp] theorem State.setFar_conns (s : State) (p : Nat) (v : Far) : (s.setFar p v).conns = s.conns := rfl
@[simp] theorem State.setFar_cip (s : State) (p : Nat) (v : Far) : (s.setFar p v).cip = s.cip := rfl
@[simp] theorem State.setFar_traffic (s : State) (p : Nat) (v : Far) : (s.setFar p v).traffic = s.traffic := rfl
@[simp] theorem State.setFar_pels (s : State) (p : Nat) (v : Far) : (s.setFar p v).pels = s.pels := rfl
@[simp] theorem State.setFar_clus (s : State) (p : Nat) (v : Far) : (s.setFar p v).clus = s.clus := rfl
@[simp] theorem State.setFar_ten (s : State) (p : Nat) (v : Far) : (s.setFar p v).ten = s.ten := rfl
@[simp] theorem State.setFar_mgmt (s : State) (p : Nat) (v : Far) : (s.setFar p v).mgmt = s.mgmt := rfl
@[simp] theorem State.setFar_board (s : State) (p : Nat) (v : Far) : (s.setFar p v).board = s.board := rfl
@[simp] theorem State.setFar_armed (s : State) (p : Nat) (v : Far) : (s.setFar p v).armed = s.armed := rfl
@[simp] theorem State.setFar_rd (s : State) (p : Nat) (v : Far) (h : Fld) (j : Nat) : (s.setFar p v).rd h j = s.rd h j := rfl

/-! What `State.setPel` leaves. -/

@[simp] theorem State.setPel_pending (s : State) (p : Nat) (v : Pel) : (s.setPel p v).pending = s.pending := rfl
@[simp] theorem State.setPel_regs (s : State) (p : Nat) (v : Pel) : (s.setPel p v).regs = s.regs := rfl
@[simp] theorem State.setPel_gddr (s : State) (p : Nat) (v : Pel) : (s.setPel p v).gddr = s.gddr := rfl
@[simp] theorem State.setPel_fresh (s : State) (p : Nat) (v : Pel) : (s.setPel p v).fresh = s.fresh := rfl
@[simp] theorem State.setPel_out (s : State) (p : Nat) (v : Pel) : (s.setPel p v).out = s.out := rfl
@[simp] theorem State.setPel_near (s : State) (p : Nat) (v : Pel) : (s.setPel p v).near = s.near := rfl
@[simp] theorem State.setPel_eps (s : State) (p : Nat) (v : Pel) : (s.setPel p v).eps = s.eps := rfl
@[simp] theorem State.setPel_atts (s : State) (p : Nat) (v : Pel) : (s.setPel p v).atts = s.atts := rfl
@[simp] theorem State.setPel_xlt (s : State) (p : Nat) (v : Pel) : (s.setPel p v).xlt = s.xlt := rfl
@[simp] theorem State.setPel_sqs (s : State) (p : Nat) (v : Pel) : (s.setPel p v).sqs = s.sqs := rfl
@[simp] theorem State.setPel_cqs (s : State) (p : Nat) (v : Pel) : (s.setPel p v).cqs = s.cqs := rfl
@[simp] theorem State.setPel_adms (s : State) (p : Nat) (v : Pel) : (s.setPel p v).adms = s.adms := rfl
@[simp] theorem State.setPel_conns (s : State) (p : Nat) (v : Pel) : (s.setPel p v).conns = s.conns := rfl
@[simp] theorem State.setPel_cip (s : State) (p : Nat) (v : Pel) : (s.setPel p v).cip = s.cip := rfl
@[simp] theorem State.setPel_traffic (s : State) (p : Nat) (v : Pel) : (s.setPel p v).traffic = s.traffic := rfl
@[simp] theorem State.setPel_far (s : State) (p : Nat) (v : Pel) : (s.setPel p v).far = s.far := rfl
@[simp] theorem State.setPel_clus (s : State) (p : Nat) (v : Pel) : (s.setPel p v).clus = s.clus := rfl
@[simp] theorem State.setPel_ten (s : State) (p : Nat) (v : Pel) : (s.setPel p v).ten = s.ten := rfl
@[simp] theorem State.setPel_mgmt (s : State) (p : Nat) (v : Pel) : (s.setPel p v).mgmt = s.mgmt := rfl
@[simp] theorem State.setPel_board (s : State) (p : Nat) (v : Pel) : (s.setPel p v).board = s.board := rfl
@[simp] theorem State.setPel_armed (s : State) (p : Nat) (v : Pel) : (s.setPel p v).armed = s.armed := rfl
@[simp] theorem State.setPel_rd (s : State) (p : Nat) (v : Pel) (h : Fld) (j : Nat) : (s.setPel p v).rd h j = s.rd h j := rfl

/-! What `State.setClu` leaves. -/

@[simp] theorem State.setClu_pending (s : State) (p : Nat) (v : Clu) : (s.setClu p v).pending = s.pending := rfl
@[simp] theorem State.setClu_regs (s : State) (p : Nat) (v : Clu) : (s.setClu p v).regs = s.regs := rfl
@[simp] theorem State.setClu_gddr (s : State) (p : Nat) (v : Clu) : (s.setClu p v).gddr = s.gddr := rfl
@[simp] theorem State.setClu_fresh (s : State) (p : Nat) (v : Clu) : (s.setClu p v).fresh = s.fresh := rfl
@[simp] theorem State.setClu_out (s : State) (p : Nat) (v : Clu) : (s.setClu p v).out = s.out := rfl
@[simp] theorem State.setClu_near (s : State) (p : Nat) (v : Clu) : (s.setClu p v).near = s.near := rfl
@[simp] theorem State.setClu_eps (s : State) (p : Nat) (v : Clu) : (s.setClu p v).eps = s.eps := rfl
@[simp] theorem State.setClu_atts (s : State) (p : Nat) (v : Clu) : (s.setClu p v).atts = s.atts := rfl
@[simp] theorem State.setClu_xlt (s : State) (p : Nat) (v : Clu) : (s.setClu p v).xlt = s.xlt := rfl
@[simp] theorem State.setClu_sqs (s : State) (p : Nat) (v : Clu) : (s.setClu p v).sqs = s.sqs := rfl
@[simp] theorem State.setClu_cqs (s : State) (p : Nat) (v : Clu) : (s.setClu p v).cqs = s.cqs := rfl
@[simp] theorem State.setClu_adms (s : State) (p : Nat) (v : Clu) : (s.setClu p v).adms = s.adms := rfl
@[simp] theorem State.setClu_conns (s : State) (p : Nat) (v : Clu) : (s.setClu p v).conns = s.conns := rfl
@[simp] theorem State.setClu_cip (s : State) (p : Nat) (v : Clu) : (s.setClu p v).cip = s.cip := rfl
@[simp] theorem State.setClu_traffic (s : State) (p : Nat) (v : Clu) : (s.setClu p v).traffic = s.traffic := rfl
@[simp] theorem State.setClu_far (s : State) (p : Nat) (v : Clu) : (s.setClu p v).far = s.far := rfl
@[simp] theorem State.setClu_pels (s : State) (p : Nat) (v : Clu) : (s.setClu p v).pels = s.pels := rfl
@[simp] theorem State.setClu_ten (s : State) (p : Nat) (v : Clu) : (s.setClu p v).ten = s.ten := rfl
@[simp] theorem State.setClu_mgmt (s : State) (p : Nat) (v : Clu) : (s.setClu p v).mgmt = s.mgmt := rfl
@[simp] theorem State.setClu_board (s : State) (p : Nat) (v : Clu) : (s.setClu p v).board = s.board := rfl
@[simp] theorem State.setClu_armed (s : State) (p : Nat) (v : Clu) : (s.setClu p v).armed = s.armed := rfl
@[simp] theorem State.setClu_rd (s : State) (p : Nat) (v : Clu) (h : Fld) (j : Nat) : (s.setClu p v).rd h j = s.rd h j := rfl

/-! What `State.setThr` leaves. -/

@[simp] theorem State.setThr_pending (s : State) (c i : Nat) (v : Thr) : (s.setThr c i v).pending = s.pending := rfl
@[simp] theorem State.setThr_regs (s : State) (c i : Nat) (v : Thr) : (s.setThr c i v).regs = s.regs := rfl
@[simp] theorem State.setThr_gddr (s : State) (c i : Nat) (v : Thr) : (s.setThr c i v).gddr = s.gddr := rfl
@[simp] theorem State.setThr_fresh (s : State) (c i : Nat) (v : Thr) : (s.setThr c i v).fresh = s.fresh := rfl
@[simp] theorem State.setThr_out (s : State) (c i : Nat) (v : Thr) : (s.setThr c i v).out = s.out := rfl
@[simp] theorem State.setThr_near (s : State) (c i : Nat) (v : Thr) : (s.setThr c i v).near = s.near := rfl
@[simp] theorem State.setThr_eps (s : State) (c i : Nat) (v : Thr) : (s.setThr c i v).eps = s.eps := rfl
@[simp] theorem State.setThr_atts (s : State) (c i : Nat) (v : Thr) : (s.setThr c i v).atts = s.atts := rfl
@[simp] theorem State.setThr_xlt (s : State) (c i : Nat) (v : Thr) : (s.setThr c i v).xlt = s.xlt := rfl
@[simp] theorem State.setThr_sqs (s : State) (c i : Nat) (v : Thr) : (s.setThr c i v).sqs = s.sqs := rfl
@[simp] theorem State.setThr_cqs (s : State) (c i : Nat) (v : Thr) : (s.setThr c i v).cqs = s.cqs := rfl
@[simp] theorem State.setThr_adms (s : State) (c i : Nat) (v : Thr) : (s.setThr c i v).adms = s.adms := rfl
@[simp] theorem State.setThr_conns (s : State) (c i : Nat) (v : Thr) : (s.setThr c i v).conns = s.conns := rfl
@[simp] theorem State.setThr_cip (s : State) (c i : Nat) (v : Thr) : (s.setThr c i v).cip = s.cip := rfl
@[simp] theorem State.setThr_traffic (s : State) (c i : Nat) (v : Thr) : (s.setThr c i v).traffic = s.traffic := rfl
@[simp] theorem State.setThr_far (s : State) (c i : Nat) (v : Thr) : (s.setThr c i v).far = s.far := rfl
@[simp] theorem State.setThr_pels (s : State) (c i : Nat) (v : Thr) : (s.setThr c i v).pels = s.pels := rfl
@[simp] theorem State.setThr_ten (s : State) (c i : Nat) (v : Thr) : (s.setThr c i v).ten = s.ten := rfl
@[simp] theorem State.setThr_mgmt (s : State) (c i : Nat) (v : Thr) : (s.setThr c i v).mgmt = s.mgmt := rfl
@[simp] theorem State.setThr_board (s : State) (c i : Nat) (v : Thr) : (s.setThr c i v).board = s.board := rfl
@[simp] theorem State.setThr_armed (s : State) (c i : Nat) (v : Thr) : (s.setThr c i v).armed = s.armed := rfl
@[simp] theorem State.setThr_rd (s : State) (c i : Nat) (v : Thr) (h : Fld) (j : Nat) : (s.setThr c i v).rd h j = s.rd h j := rfl

/-! What `State.setSlice` leaves. -/

@[simp] theorem State.setSlice_pending (s : State) (p : Nat) (v : Slice) : (s.setSlice p v).pending = s.pending := rfl
@[simp] theorem State.setSlice_regs (s : State) (p : Nat) (v : Slice) : (s.setSlice p v).regs = s.regs := rfl
@[simp] theorem State.setSlice_gddr (s : State) (p : Nat) (v : Slice) : (s.setSlice p v).gddr = s.gddr := rfl
@[simp] theorem State.setSlice_fresh (s : State) (p : Nat) (v : Slice) : (s.setSlice p v).fresh = s.fresh := rfl
@[simp] theorem State.setSlice_out (s : State) (p : Nat) (v : Slice) : (s.setSlice p v).out = s.out := rfl
@[simp] theorem State.setSlice_near (s : State) (p : Nat) (v : Slice) : (s.setSlice p v).near = s.near := rfl
@[simp] theorem State.setSlice_eps (s : State) (p : Nat) (v : Slice) : (s.setSlice p v).eps = s.eps := rfl
@[simp] theorem State.setSlice_atts (s : State) (p : Nat) (v : Slice) : (s.setSlice p v).atts = s.atts := rfl
@[simp] theorem State.setSlice_xlt (s : State) (p : Nat) (v : Slice) : (s.setSlice p v).xlt = s.xlt := rfl
@[simp] theorem State.setSlice_sqs (s : State) (p : Nat) (v : Slice) : (s.setSlice p v).sqs = s.sqs := rfl
@[simp] theorem State.setSlice_cqs (s : State) (p : Nat) (v : Slice) : (s.setSlice p v).cqs = s.cqs := rfl
@[simp] theorem State.setSlice_adms (s : State) (p : Nat) (v : Slice) : (s.setSlice p v).adms = s.adms := rfl
@[simp] theorem State.setSlice_conns (s : State) (p : Nat) (v : Slice) : (s.setSlice p v).conns = s.conns := rfl
@[simp] theorem State.setSlice_cip (s : State) (p : Nat) (v : Slice) : (s.setSlice p v).cip = s.cip := rfl
@[simp] theorem State.setSlice_traffic (s : State) (p : Nat) (v : Slice) : (s.setSlice p v).traffic = s.traffic := rfl
@[simp] theorem State.setSlice_far (s : State) (p : Nat) (v : Slice) : (s.setSlice p v).far = s.far := rfl
@[simp] theorem State.setSlice_pels (s : State) (p : Nat) (v : Slice) : (s.setSlice p v).pels = s.pels := rfl
@[simp] theorem State.setSlice_clus (s : State) (p : Nat) (v : Slice) : (s.setSlice p v).clus = s.clus := rfl
@[simp] theorem State.setSlice_mgmt (s : State) (p : Nat) (v : Slice) : (s.setSlice p v).mgmt = s.mgmt := rfl
@[simp] theorem State.setSlice_board (s : State) (p : Nat) (v : Slice) : (s.setSlice p v).board = s.board := rfl
@[simp] theorem State.setSlice_armed (s : State) (p : Nat) (v : Slice) : (s.setSlice p v).armed = s.armed := rfl
@[simp] theorem State.setSlice_rd (s : State) (p : Nat) (v : Slice) (h : Fld) (j : Nat) : (s.setSlice p v).rd h j = s.rd h j := rfl

/-! What `State.setExt` leaves. -/

@[simp] theorem State.setExt_pending (s : State) (p : Nat) (v : Ext) : (s.setExt p v).pending = s.pending := rfl
@[simp] theorem State.setExt_regs (s : State) (p : Nat) (v : Ext) : (s.setExt p v).regs = s.regs := rfl
@[simp] theorem State.setExt_gddr (s : State) (p : Nat) (v : Ext) : (s.setExt p v).gddr = s.gddr := rfl
@[simp] theorem State.setExt_fresh (s : State) (p : Nat) (v : Ext) : (s.setExt p v).fresh = s.fresh := rfl
@[simp] theorem State.setExt_out (s : State) (p : Nat) (v : Ext) : (s.setExt p v).out = s.out := rfl
@[simp] theorem State.setExt_near (s : State) (p : Nat) (v : Ext) : (s.setExt p v).near = s.near := rfl
@[simp] theorem State.setExt_eps (s : State) (p : Nat) (v : Ext) : (s.setExt p v).eps = s.eps := rfl
@[simp] theorem State.setExt_atts (s : State) (p : Nat) (v : Ext) : (s.setExt p v).atts = s.atts := rfl
@[simp] theorem State.setExt_xlt (s : State) (p : Nat) (v : Ext) : (s.setExt p v).xlt = s.xlt := rfl
@[simp] theorem State.setExt_sqs (s : State) (p : Nat) (v : Ext) : (s.setExt p v).sqs = s.sqs := rfl
@[simp] theorem State.setExt_cqs (s : State) (p : Nat) (v : Ext) : (s.setExt p v).cqs = s.cqs := rfl
@[simp] theorem State.setExt_adms (s : State) (p : Nat) (v : Ext) : (s.setExt p v).adms = s.adms := rfl
@[simp] theorem State.setExt_conns (s : State) (p : Nat) (v : Ext) : (s.setExt p v).conns = s.conns := rfl
@[simp] theorem State.setExt_cip (s : State) (p : Nat) (v : Ext) : (s.setExt p v).cip = s.cip := rfl
@[simp] theorem State.setExt_traffic (s : State) (p : Nat) (v : Ext) : (s.setExt p v).traffic = s.traffic := rfl
@[simp] theorem State.setExt_far (s : State) (p : Nat) (v : Ext) : (s.setExt p v).far = s.far := rfl
@[simp] theorem State.setExt_pels (s : State) (p : Nat) (v : Ext) : (s.setExt p v).pels = s.pels := rfl
@[simp] theorem State.setExt_clus (s : State) (p : Nat) (v : Ext) : (s.setExt p v).clus = s.clus := rfl
@[simp] theorem State.setExt_mgmt (s : State) (p : Nat) (v : Ext) : (s.setExt p v).mgmt = s.mgmt := rfl
@[simp] theorem State.setExt_board (s : State) (p : Nat) (v : Ext) : (s.setExt p v).board = s.board := rfl
@[simp] theorem State.setExt_armed (s : State) (p : Nat) (v : Ext) : (s.setExt p v).armed = s.armed := rfl
@[simp] theorem State.setExt_rd (s : State) (p : Nat) (v : Ext) (h : Fld) (j : Nat) : (s.setExt p v).rd h j = s.rd h j := rfl

/-! What `State.arm` leaves. -/

@[simp] theorem State.arm_pending (s : State) (k : EvKind) (n : Nat) : (s.arm k n).pending = s.pending := rfl
@[simp] theorem State.arm_regs (s : State) (k : EvKind) (n : Nat) : (s.arm k n).regs = s.regs := rfl
@[simp] theorem State.arm_gddr (s : State) (k : EvKind) (n : Nat) : (s.arm k n).gddr = s.gddr := rfl
@[simp] theorem State.arm_fresh (s : State) (k : EvKind) (n : Nat) : (s.arm k n).fresh = s.fresh := rfl
@[simp] theorem State.arm_out (s : State) (k : EvKind) (n : Nat) : (s.arm k n).out = s.out := rfl
@[simp] theorem State.arm_near (s : State) (k : EvKind) (n : Nat) : (s.arm k n).near = s.near := rfl
@[simp] theorem State.arm_eps (s : State) (k : EvKind) (n : Nat) : (s.arm k n).eps = s.eps := rfl
@[simp] theorem State.arm_atts (s : State) (k : EvKind) (n : Nat) : (s.arm k n).atts = s.atts := rfl
@[simp] theorem State.arm_xlt (s : State) (k : EvKind) (n : Nat) : (s.arm k n).xlt = s.xlt := rfl
@[simp] theorem State.arm_sqs (s : State) (k : EvKind) (n : Nat) : (s.arm k n).sqs = s.sqs := rfl
@[simp] theorem State.arm_cqs (s : State) (k : EvKind) (n : Nat) : (s.arm k n).cqs = s.cqs := rfl
@[simp] theorem State.arm_adms (s : State) (k : EvKind) (n : Nat) : (s.arm k n).adms = s.adms := rfl
@[simp] theorem State.arm_conns (s : State) (k : EvKind) (n : Nat) : (s.arm k n).conns = s.conns := rfl
@[simp] theorem State.arm_cip (s : State) (k : EvKind) (n : Nat) : (s.arm k n).cip = s.cip := rfl
@[simp] theorem State.arm_traffic (s : State) (k : EvKind) (n : Nat) : (s.arm k n).traffic = s.traffic := rfl
@[simp] theorem State.arm_far (s : State) (k : EvKind) (n : Nat) : (s.arm k n).far = s.far := rfl
@[simp] theorem State.arm_pels (s : State) (k : EvKind) (n : Nat) : (s.arm k n).pels = s.pels := rfl
@[simp] theorem State.arm_clus (s : State) (k : EvKind) (n : Nat) : (s.arm k n).clus = s.clus := rfl
@[simp] theorem State.arm_ten (s : State) (k : EvKind) (n : Nat) : (s.arm k n).ten = s.ten := rfl
@[simp] theorem State.arm_mgmt (s : State) (k : EvKind) (n : Nat) : (s.arm k n).mgmt = s.mgmt := rfl
@[simp] theorem State.arm_board (s : State) (k : EvKind) (n : Nat) : (s.arm k n).board = s.board := rfl
@[simp] theorem State.arm_rd (s : State) (k : EvKind) (n : Nat) (h : Fld) (j : Nat) : (s.arm k n).rd h j = s.rd h j := rfl

/-! What `State.disarm` leaves. -/

@[simp] theorem State.disarm_pending (s : State) (k : EvKind) : (s.disarm k).pending = s.pending := rfl
@[simp] theorem State.disarm_regs (s : State) (k : EvKind) : (s.disarm k).regs = s.regs := rfl
@[simp] theorem State.disarm_gddr (s : State) (k : EvKind) : (s.disarm k).gddr = s.gddr := rfl
@[simp] theorem State.disarm_fresh (s : State) (k : EvKind) : (s.disarm k).fresh = s.fresh := rfl
@[simp] theorem State.disarm_out (s : State) (k : EvKind) : (s.disarm k).out = s.out := rfl
@[simp] theorem State.disarm_near (s : State) (k : EvKind) : (s.disarm k).near = s.near := rfl
@[simp] theorem State.disarm_eps (s : State) (k : EvKind) : (s.disarm k).eps = s.eps := rfl
@[simp] theorem State.disarm_atts (s : State) (k : EvKind) : (s.disarm k).atts = s.atts := rfl
@[simp] theorem State.disarm_xlt (s : State) (k : EvKind) : (s.disarm k).xlt = s.xlt := rfl
@[simp] theorem State.disarm_sqs (s : State) (k : EvKind) : (s.disarm k).sqs = s.sqs := rfl
@[simp] theorem State.disarm_cqs (s : State) (k : EvKind) : (s.disarm k).cqs = s.cqs := rfl
@[simp] theorem State.disarm_adms (s : State) (k : EvKind) : (s.disarm k).adms = s.adms := rfl
@[simp] theorem State.disarm_conns (s : State) (k : EvKind) : (s.disarm k).conns = s.conns := rfl
@[simp] theorem State.disarm_cip (s : State) (k : EvKind) : (s.disarm k).cip = s.cip := rfl
@[simp] theorem State.disarm_traffic (s : State) (k : EvKind) : (s.disarm k).traffic = s.traffic := rfl
@[simp] theorem State.disarm_far (s : State) (k : EvKind) : (s.disarm k).far = s.far := rfl
@[simp] theorem State.disarm_pels (s : State) (k : EvKind) : (s.disarm k).pels = s.pels := rfl
@[simp] theorem State.disarm_clus (s : State) (k : EvKind) : (s.disarm k).clus = s.clus := rfl
@[simp] theorem State.disarm_ten (s : State) (k : EvKind) : (s.disarm k).ten = s.ten := rfl
@[simp] theorem State.disarm_mgmt (s : State) (k : EvKind) : (s.disarm k).mgmt = s.mgmt := rfl
@[simp] theorem State.disarm_board (s : State) (k : EvKind) : (s.disarm k).board = s.board := rfl
@[simp] theorem State.disarm_rd (s : State) (k : EvKind) (h : Fld) (j : Nat) : (s.disarm k).rd h j = s.rd h j := rfl

/-! What `State.modBoard` leaves. -/

@[simp] theorem State.modBoard_pending (s : State) (g : Board → Board) : (s.modBoard g).pending = s.pending := rfl
@[simp] theorem State.modBoard_regs (s : State) (g : Board → Board) : (s.modBoard g).regs = s.regs := rfl
@[simp] theorem State.modBoard_gddr (s : State) (g : Board → Board) : (s.modBoard g).gddr = s.gddr := rfl
@[simp] theorem State.modBoard_fresh (s : State) (g : Board → Board) : (s.modBoard g).fresh = s.fresh := rfl
@[simp] theorem State.modBoard_out (s : State) (g : Board → Board) : (s.modBoard g).out = s.out := rfl
@[simp] theorem State.modBoard_near (s : State) (g : Board → Board) : (s.modBoard g).near = s.near := rfl
@[simp] theorem State.modBoard_eps (s : State) (g : Board → Board) : (s.modBoard g).eps = s.eps := rfl
@[simp] theorem State.modBoard_atts (s : State) (g : Board → Board) : (s.modBoard g).atts = s.atts := rfl
@[simp] theorem State.modBoard_xlt (s : State) (g : Board → Board) : (s.modBoard g).xlt = s.xlt := rfl
@[simp] theorem State.modBoard_sqs (s : State) (g : Board → Board) : (s.modBoard g).sqs = s.sqs := rfl
@[simp] theorem State.modBoard_cqs (s : State) (g : Board → Board) : (s.modBoard g).cqs = s.cqs := rfl
@[simp] theorem State.modBoard_adms (s : State) (g : Board → Board) : (s.modBoard g).adms = s.adms := rfl
@[simp] theorem State.modBoard_conns (s : State) (g : Board → Board) : (s.modBoard g).conns = s.conns := rfl
@[simp] theorem State.modBoard_cip (s : State) (g : Board → Board) : (s.modBoard g).cip = s.cip := rfl
@[simp] theorem State.modBoard_traffic (s : State) (g : Board → Board) : (s.modBoard g).traffic = s.traffic := rfl
@[simp] theorem State.modBoard_far (s : State) (g : Board → Board) : (s.modBoard g).far = s.far := rfl
@[simp] theorem State.modBoard_pels (s : State) (g : Board → Board) : (s.modBoard g).pels = s.pels := rfl
@[simp] theorem State.modBoard_clus (s : State) (g : Board → Board) : (s.modBoard g).clus = s.clus := rfl
@[simp] theorem State.modBoard_ten (s : State) (g : Board → Board) : (s.modBoard g).ten = s.ten := rfl
@[simp] theorem State.modBoard_mgmt (s : State) (g : Board → Board) : (s.modBoard g).mgmt = s.mgmt := rfl
@[simp] theorem State.modBoard_armed (s : State) (g : Board → Board) : (s.modBoard g).armed = s.armed := rfl
@[simp] theorem State.modBoard_rd (s : State) (g : Board → Board) (h : Fld) (j : Nat) : (s.modBoard g).rd h j = s.rd h j := rfl

/-! What `State.modCad` leaves. -/

@[simp] theorem State.modCad_pending (s : State) (g : Cad → Cad) : (s.modCad g).pending = s.pending := rfl
@[simp] theorem State.modCad_regs (s : State) (g : Cad → Cad) : (s.modCad g).regs = s.regs := rfl
@[simp] theorem State.modCad_gddr (s : State) (g : Cad → Cad) : (s.modCad g).gddr = s.gddr := rfl
@[simp] theorem State.modCad_fresh (s : State) (g : Cad → Cad) : (s.modCad g).fresh = s.fresh := rfl
@[simp] theorem State.modCad_out (s : State) (g : Cad → Cad) : (s.modCad g).out = s.out := rfl
@[simp] theorem State.modCad_near (s : State) (g : Cad → Cad) : (s.modCad g).near = s.near := rfl
@[simp] theorem State.modCad_eps (s : State) (g : Cad → Cad) : (s.modCad g).eps = s.eps := rfl
@[simp] theorem State.modCad_atts (s : State) (g : Cad → Cad) : (s.modCad g).atts = s.atts := rfl
@[simp] theorem State.modCad_xlt (s : State) (g : Cad → Cad) : (s.modCad g).xlt = s.xlt := rfl
@[simp] theorem State.modCad_sqs (s : State) (g : Cad → Cad) : (s.modCad g).sqs = s.sqs := rfl
@[simp] theorem State.modCad_cqs (s : State) (g : Cad → Cad) : (s.modCad g).cqs = s.cqs := rfl
@[simp] theorem State.modCad_adms (s : State) (g : Cad → Cad) : (s.modCad g).adms = s.adms := rfl
@[simp] theorem State.modCad_conns (s : State) (g : Cad → Cad) : (s.modCad g).conns = s.conns := rfl
@[simp] theorem State.modCad_cip (s : State) (g : Cad → Cad) : (s.modCad g).cip = s.cip := rfl
@[simp] theorem State.modCad_traffic (s : State) (g : Cad → Cad) : (s.modCad g).traffic = s.traffic := rfl
@[simp] theorem State.modCad_far (s : State) (g : Cad → Cad) : (s.modCad g).far = s.far := rfl
@[simp] theorem State.modCad_pels (s : State) (g : Cad → Cad) : (s.modCad g).pels = s.pels := rfl
@[simp] theorem State.modCad_clus (s : State) (g : Cad → Cad) : (s.modCad g).clus = s.clus := rfl
@[simp] theorem State.modCad_ten (s : State) (g : Cad → Cad) : (s.modCad g).ten = s.ten := rfl
@[simp] theorem State.modCad_mgmt (s : State) (g : Cad → Cad) : (s.modCad g).mgmt = s.mgmt := rfl
@[simp] theorem State.modCad_armed (s : State) (g : Cad → Cad) : (s.modCad g).armed = s.armed := rfl
@[simp] theorem State.modCad_rd (s : State) (g : Cad → Cad) (h : Fld) (j : Nat) : (s.modCad g).rd h j = s.rd h j := rfl

/-! What `State.modLanes` leaves. -/

@[simp] theorem State.modLanes_pending (s : State) (g : Lanes → Lanes) : (s.modLanes g).pending = s.pending := rfl
@[simp] theorem State.modLanes_regs (s : State) (g : Lanes → Lanes) : (s.modLanes g).regs = s.regs := rfl
@[simp] theorem State.modLanes_gddr (s : State) (g : Lanes → Lanes) : (s.modLanes g).gddr = s.gddr := rfl
@[simp] theorem State.modLanes_fresh (s : State) (g : Lanes → Lanes) : (s.modLanes g).fresh = s.fresh := rfl
@[simp] theorem State.modLanes_out (s : State) (g : Lanes → Lanes) : (s.modLanes g).out = s.out := rfl
@[simp] theorem State.modLanes_near (s : State) (g : Lanes → Lanes) : (s.modLanes g).near = s.near := rfl
@[simp] theorem State.modLanes_eps (s : State) (g : Lanes → Lanes) : (s.modLanes g).eps = s.eps := rfl
@[simp] theorem State.modLanes_atts (s : State) (g : Lanes → Lanes) : (s.modLanes g).atts = s.atts := rfl
@[simp] theorem State.modLanes_xlt (s : State) (g : Lanes → Lanes) : (s.modLanes g).xlt = s.xlt := rfl
@[simp] theorem State.modLanes_sqs (s : State) (g : Lanes → Lanes) : (s.modLanes g).sqs = s.sqs := rfl
@[simp] theorem State.modLanes_cqs (s : State) (g : Lanes → Lanes) : (s.modLanes g).cqs = s.cqs := rfl
@[simp] theorem State.modLanes_adms (s : State) (g : Lanes → Lanes) : (s.modLanes g).adms = s.adms := rfl
@[simp] theorem State.modLanes_conns (s : State) (g : Lanes → Lanes) : (s.modLanes g).conns = s.conns := rfl
@[simp] theorem State.modLanes_cip (s : State) (g : Lanes → Lanes) : (s.modLanes g).cip = s.cip := rfl
@[simp] theorem State.modLanes_traffic (s : State) (g : Lanes → Lanes) : (s.modLanes g).traffic = s.traffic := rfl
@[simp] theorem State.modLanes_far (s : State) (g : Lanes → Lanes) : (s.modLanes g).far = s.far := rfl
@[simp] theorem State.modLanes_pels (s : State) (g : Lanes → Lanes) : (s.modLanes g).pels = s.pels := rfl
@[simp] theorem State.modLanes_clus (s : State) (g : Lanes → Lanes) : (s.modLanes g).clus = s.clus := rfl
@[simp] theorem State.modLanes_ten (s : State) (g : Lanes → Lanes) : (s.modLanes g).ten = s.ten := rfl
@[simp] theorem State.modLanes_mgmt (s : State) (g : Lanes → Lanes) : (s.modLanes g).mgmt = s.mgmt := rfl
@[simp] theorem State.modLanes_armed (s : State) (g : Lanes → Lanes) : (s.modLanes g).armed = s.armed := rfl
@[simp] theorem State.modLanes_rd (s : State) (g : Lanes → Lanes) (h : Fld) (j : Nat) : (s.modLanes g).rd h j = s.rd h j := rfl

/-! What `State.modRes` leaves. -/

@[simp] theorem State.modRes_pending (s : State) (g : Res → Res) : (s.modRes g).pending = s.pending := rfl
@[simp] theorem State.modRes_regs (s : State) (g : Res → Res) : (s.modRes g).regs = s.regs := rfl
@[simp] theorem State.modRes_gddr (s : State) (g : Res → Res) : (s.modRes g).gddr = s.gddr := rfl
@[simp] theorem State.modRes_fresh (s : State) (g : Res → Res) : (s.modRes g).fresh = s.fresh := rfl
@[simp] theorem State.modRes_out (s : State) (g : Res → Res) : (s.modRes g).out = s.out := rfl
@[simp] theorem State.modRes_near (s : State) (g : Res → Res) : (s.modRes g).near = s.near := rfl
@[simp] theorem State.modRes_eps (s : State) (g : Res → Res) : (s.modRes g).eps = s.eps := rfl
@[simp] theorem State.modRes_atts (s : State) (g : Res → Res) : (s.modRes g).atts = s.atts := rfl
@[simp] theorem State.modRes_xlt (s : State) (g : Res → Res) : (s.modRes g).xlt = s.xlt := rfl
@[simp] theorem State.modRes_sqs (s : State) (g : Res → Res) : (s.modRes g).sqs = s.sqs := rfl
@[simp] theorem State.modRes_cqs (s : State) (g : Res → Res) : (s.modRes g).cqs = s.cqs := rfl
@[simp] theorem State.modRes_adms (s : State) (g : Res → Res) : (s.modRes g).adms = s.adms := rfl
@[simp] theorem State.modRes_conns (s : State) (g : Res → Res) : (s.modRes g).conns = s.conns := rfl
@[simp] theorem State.modRes_cip (s : State) (g : Res → Res) : (s.modRes g).cip = s.cip := rfl
@[simp] theorem State.modRes_traffic (s : State) (g : Res → Res) : (s.modRes g).traffic = s.traffic := rfl
@[simp] theorem State.modRes_far (s : State) (g : Res → Res) : (s.modRes g).far = s.far := rfl
@[simp] theorem State.modRes_pels (s : State) (g : Res → Res) : (s.modRes g).pels = s.pels := rfl
@[simp] theorem State.modRes_clus (s : State) (g : Res → Res) : (s.modRes g).clus = s.clus := rfl
@[simp] theorem State.modRes_ten (s : State) (g : Res → Res) : (s.modRes g).ten = s.ten := rfl
@[simp] theorem State.modRes_mgmt (s : State) (g : Res → Res) : (s.modRes g).mgmt = s.mgmt := rfl
@[simp] theorem State.modRes_armed (s : State) (g : Res → Res) : (s.modRes g).armed = s.armed := rfl
@[simp] theorem State.modRes_rd (s : State) (g : Res → Res) (h : Fld) (j : Nat) : (s.modRes g).rd h j = s.rd h j := rfl

/-! What `State.modPwr` leaves. -/

@[simp] theorem State.modPwr_pending (s : State) (g : Pwr → Pwr) : (s.modPwr g).pending = s.pending := rfl
@[simp] theorem State.modPwr_regs (s : State) (g : Pwr → Pwr) : (s.modPwr g).regs = s.regs := rfl
@[simp] theorem State.modPwr_gddr (s : State) (g : Pwr → Pwr) : (s.modPwr g).gddr = s.gddr := rfl
@[simp] theorem State.modPwr_fresh (s : State) (g : Pwr → Pwr) : (s.modPwr g).fresh = s.fresh := rfl
@[simp] theorem State.modPwr_out (s : State) (g : Pwr → Pwr) : (s.modPwr g).out = s.out := rfl
@[simp] theorem State.modPwr_near (s : State) (g : Pwr → Pwr) : (s.modPwr g).near = s.near := rfl
@[simp] theorem State.modPwr_eps (s : State) (g : Pwr → Pwr) : (s.modPwr g).eps = s.eps := rfl
@[simp] theorem State.modPwr_atts (s : State) (g : Pwr → Pwr) : (s.modPwr g).atts = s.atts := rfl
@[simp] theorem State.modPwr_xlt (s : State) (g : Pwr → Pwr) : (s.modPwr g).xlt = s.xlt := rfl
@[simp] theorem State.modPwr_sqs (s : State) (g : Pwr → Pwr) : (s.modPwr g).sqs = s.sqs := rfl
@[simp] theorem State.modPwr_cqs (s : State) (g : Pwr → Pwr) : (s.modPwr g).cqs = s.cqs := rfl
@[simp] theorem State.modPwr_adms (s : State) (g : Pwr → Pwr) : (s.modPwr g).adms = s.adms := rfl
@[simp] theorem State.modPwr_conns (s : State) (g : Pwr → Pwr) : (s.modPwr g).conns = s.conns := rfl
@[simp] theorem State.modPwr_cip (s : State) (g : Pwr → Pwr) : (s.modPwr g).cip = s.cip := rfl
@[simp] theorem State.modPwr_traffic (s : State) (g : Pwr → Pwr) : (s.modPwr g).traffic = s.traffic := rfl
@[simp] theorem State.modPwr_far (s : State) (g : Pwr → Pwr) : (s.modPwr g).far = s.far := rfl
@[simp] theorem State.modPwr_pels (s : State) (g : Pwr → Pwr) : (s.modPwr g).pels = s.pels := rfl
@[simp] theorem State.modPwr_clus (s : State) (g : Pwr → Pwr) : (s.modPwr g).clus = s.clus := rfl
@[simp] theorem State.modPwr_ten (s : State) (g : Pwr → Pwr) : (s.modPwr g).ten = s.ten := rfl
@[simp] theorem State.modPwr_mgmt (s : State) (g : Pwr → Pwr) : (s.modPwr g).mgmt = s.mgmt := rfl
@[simp] theorem State.modPwr_armed (s : State) (g : Pwr → Pwr) : (s.modPwr g).armed = s.armed := rfl
@[simp] theorem State.modPwr_rd (s : State) (g : Pwr → Pwr) (h : Fld) (j : Nat) : (s.modPwr g).rd h j = s.rd h j := rfl

/-! What `State.modPmc` leaves. -/

@[simp] theorem State.modPmc_pending (s : State) (g : Pmc → Pmc) : (s.modPmc g).pending = s.pending := rfl
@[simp] theorem State.modPmc_regs (s : State) (g : Pmc → Pmc) : (s.modPmc g).regs = s.regs := rfl
@[simp] theorem State.modPmc_gddr (s : State) (g : Pmc → Pmc) : (s.modPmc g).gddr = s.gddr := rfl
@[simp] theorem State.modPmc_fresh (s : State) (g : Pmc → Pmc) : (s.modPmc g).fresh = s.fresh := rfl
@[simp] theorem State.modPmc_out (s : State) (g : Pmc → Pmc) : (s.modPmc g).out = s.out := rfl
@[simp] theorem State.modPmc_near (s : State) (g : Pmc → Pmc) : (s.modPmc g).near = s.near := rfl
@[simp] theorem State.modPmc_eps (s : State) (g : Pmc → Pmc) : (s.modPmc g).eps = s.eps := rfl
@[simp] theorem State.modPmc_atts (s : State) (g : Pmc → Pmc) : (s.modPmc g).atts = s.atts := rfl
@[simp] theorem State.modPmc_xlt (s : State) (g : Pmc → Pmc) : (s.modPmc g).xlt = s.xlt := rfl
@[simp] theorem State.modPmc_sqs (s : State) (g : Pmc → Pmc) : (s.modPmc g).sqs = s.sqs := rfl
@[simp] theorem State.modPmc_cqs (s : State) (g : Pmc → Pmc) : (s.modPmc g).cqs = s.cqs := rfl
@[simp] theorem State.modPmc_adms (s : State) (g : Pmc → Pmc) : (s.modPmc g).adms = s.adms := rfl
@[simp] theorem State.modPmc_conns (s : State) (g : Pmc → Pmc) : (s.modPmc g).conns = s.conns := rfl
@[simp] theorem State.modPmc_cip (s : State) (g : Pmc → Pmc) : (s.modPmc g).cip = s.cip := rfl
@[simp] theorem State.modPmc_traffic (s : State) (g : Pmc → Pmc) : (s.modPmc g).traffic = s.traffic := rfl
@[simp] theorem State.modPmc_far (s : State) (g : Pmc → Pmc) : (s.modPmc g).far = s.far := rfl
@[simp] theorem State.modPmc_pels (s : State) (g : Pmc → Pmc) : (s.modPmc g).pels = s.pels := rfl
@[simp] theorem State.modPmc_clus (s : State) (g : Pmc → Pmc) : (s.modPmc g).clus = s.clus := rfl
@[simp] theorem State.modPmc_ten (s : State) (g : Pmc → Pmc) : (s.modPmc g).ten = s.ten := rfl
@[simp] theorem State.modPmc_mgmt (s : State) (g : Pmc → Pmc) : (s.modPmc g).mgmt = s.mgmt := rfl
@[simp] theorem State.modPmc_armed (s : State) (g : Pmc → Pmc) : (s.modPmc g).armed = s.armed := rfl
@[simp] theorem State.modPmc_rd (s : State) (g : Pmc → Pmc) (h : Fld) (j : Nat) : (s.modPmc g).rd h j = s.rd h j := rfl

/-! What `State.setMark` leaves. -/

@[simp] theorem State.setMark_pending (s : State) (k n : Nat) : (s.setMark k n).pending = s.pending := rfl
@[simp] theorem State.setMark_regs (s : State) (k n : Nat) : (s.setMark k n).regs = s.regs := rfl
@[simp] theorem State.setMark_gddr (s : State) (k n : Nat) : (s.setMark k n).gddr = s.gddr := rfl
@[simp] theorem State.setMark_fresh (s : State) (k n : Nat) : (s.setMark k n).fresh = s.fresh := rfl
@[simp] theorem State.setMark_out (s : State) (k n : Nat) : (s.setMark k n).out = s.out := rfl
@[simp] theorem State.setMark_near (s : State) (k n : Nat) : (s.setMark k n).near = s.near := rfl
@[simp] theorem State.setMark_eps (s : State) (k n : Nat) : (s.setMark k n).eps = s.eps := rfl
@[simp] theorem State.setMark_atts (s : State) (k n : Nat) : (s.setMark k n).atts = s.atts := rfl
@[simp] theorem State.setMark_xlt (s : State) (k n : Nat) : (s.setMark k n).xlt = s.xlt := rfl
@[simp] theorem State.setMark_sqs (s : State) (k n : Nat) : (s.setMark k n).sqs = s.sqs := rfl
@[simp] theorem State.setMark_cqs (s : State) (k n : Nat) : (s.setMark k n).cqs = s.cqs := rfl
@[simp] theorem State.setMark_adms (s : State) (k n : Nat) : (s.setMark k n).adms = s.adms := rfl
@[simp] theorem State.setMark_conns (s : State) (k n : Nat) : (s.setMark k n).conns = s.conns := rfl
@[simp] theorem State.setMark_cip (s : State) (k n : Nat) : (s.setMark k n).cip = s.cip := rfl
@[simp] theorem State.setMark_traffic (s : State) (k n : Nat) : (s.setMark k n).traffic = s.traffic := rfl
@[simp] theorem State.setMark_far (s : State) (k n : Nat) : (s.setMark k n).far = s.far := rfl
@[simp] theorem State.setMark_pels (s : State) (k n : Nat) : (s.setMark k n).pels = s.pels := rfl
@[simp] theorem State.setMark_clus (s : State) (k n : Nat) : (s.setMark k n).clus = s.clus := rfl
@[simp] theorem State.setMark_ten (s : State) (k n : Nat) : (s.setMark k n).ten = s.ten := rfl
@[simp] theorem State.setMark_mgmt (s : State) (k n : Nat) : (s.setMark k n).mgmt = s.mgmt := rfl
@[simp] theorem State.setMark_armed (s : State) (k n : Nat) : (s.setMark k n).armed = s.armed := rfl
@[simp] theorem State.setMark_rd (s : State) (k n : Nat) (h : Fld) (j : Nat) : (s.setMark k n).rd h j = s.rd h j := rfl

end Sys2Proof.Machine
end

