-- ==== Sys2Proof/Laws/Kept.lean ====
section
/-! SUPPORT. What every operation of the machine keeps, for the proof that a step keeps the canonical form: the queue of commands, and the
canonical form of GDDR7. -/

namespace Sys2Proof.Machine

open Sys2Proof

/-- The commands that wait stay, and GDDR7 stays in canonical form. -/
structure Kept (s t : State) : Prop where
  pending : t.pending = s.pending
  memory : Memory.wf s.gddr = true → Memory.wf t.gddr = true

theorem Kept.refl (s : State) : Kept s s := ⟨rfl, id⟩

theorem Kept.trans {s t u : State} (a : Kept s t) (b : Kept t u) : Kept s u :=
  ⟨b.pending.trans a.pending, fun h => b.memory (a.memory h)⟩

/-- An operation that touches neither the queue nor GDDR7. -/
theorem Kept.of_eq {s t : State} (p : t.pending = s.pending) (m : t.gddr = s.gddr) : Kept s t := ⟨p, fun h => m ▸ h⟩

theorem Kept.ite {s t u : State} (c : Prop) [Decidable c] (a : Kept s t) (b : Kept s u) : Kept s (if c then t else u) := by
  split <;> assumption

/-- A loop keeps what each of its steps keeps. -/
theorem Kept.foldl {β : Type} {f : State → β → State} (h : ∀ s x, Kept s (f s x)) (l : List β) (s : State) : Kept s (l.foldl f s) := by
  induction l generalizing s with
  | nil => exact Kept.refl s
  | cons x l ih => exact (h s x).trans (ih (f s x))

/-! Registers and counters. -/

theorem State.wr_kept (s : State) (f : Fld) (i v : Nat) : Kept s (s.wr f i v) := .of_eq rfl rfl
theorem State.inc_kept (s : State) (f : Fld) (i n : Nat) : Kept s (s.inc f i n) := .of_eq rfl rfl
theorem State.count_kept (s : State) (f : Fld) (i n : Nat) : Kept s (s.count f i n) := .of_eq rfl rfl
theorem State.dec_kept (s : State) (f : Fld) (i n : Nat) : Kept s (s.dec f i n) := .of_eq rfl rfl
theorem State.put_kept (s : State) (f : Fld) (i : Nat) (b : Bool) : Kept s (s.put f i b) := .of_eq rfl rfl
theorem State.emit_kept (s : State) (o : Out) : Kept s (s.emit o) := .of_eq rfl rfl
theorem State.bump_kept (s : State) : Kept s s.bump := .of_eq rfl rfl
theorem State.bumpN_kept (s : State) (n : Nat) : Kept s (s.bumpN n) := .of_eq rfl rfl

theorem State.access_kept (s : State) (f : Fld) (i v : Nat) : Kept s (s.access f i v) := by
  unfold State.access
  split <;> first | exact Kept.refl s | exact s.wr_kept .. | exact .ite _ (Kept.refl s) (s.wr_kept ..)

theorem State.pmc_kept (s : State) (bank code : Nat) (ten : Option Nat) (n : Nat) : Kept s (s.pmc bank code ten n) := by
  unfold State.pmc
  refine .ite _ (Kept.refl s) (Kept.foldl (fun t k => ?_) _ s)
  exact .ite _ (Kept.refl t) (.ite _ (t.wr_kept ..) ((t.wr_kept ..).trans (State.wr_kept ..)))

/-! Tables of the state. -/

theorem State.setNear_kept (s : State) (p : Nat) (v : Near) : Kept s (s.setNear p v) := .of_eq rfl rfl
theorem State.setEp_kept (s : State) (e : Nat) (v : Endpoint) : Kept s (s.setEp e v) := .of_eq rfl rfl
theorem State.setAtt_kept (s : State) (a : Nat) (v : Attach) : Kept s (s.setAtt a v) := .of_eq rfl rfl
theorem State.setSq_kept (s : State) (q : Nat) (v : Sq) : Kept s (s.setSq q v) := .of_eq rfl rfl
theorem State.setCq_kept (s : State) (c : Nat) (v : Cq) : Kept s (s.setCq c v) := .of_eq rfl rfl
theorem State.setAdm_kept (s : State) (t : Nat) (v : Adm) : Kept s (s.setAdm t v) := .of_eq rfl rfl
theorem State.setConn_kept (s : State) (q : Nat) (v : Conn) : Kept s (s.setConn q v) := .of_eq rfl rfl
theorem State.setFar_kept (s : State) (n : Nat) (v : Far) : Kept s (s.setFar n v) := .of_eq rfl rfl
theorem State.setPel_kept (s : State) (p : Nat) (v : Pel) : Kept s (s.setPel p v) := .of_eq rfl rfl
theorem State.setClu_kept (s : State) (c : Nat) (v : Clu) : Kept s (s.setClu c v) := .of_eq rfl rfl
theorem State.setThr_kept (s : State) (c i : Nat) (v : Thr) : Kept s (s.setThr c i v) := .of_eq rfl rfl
theorem State.setSlice_kept (s : State) (t : Nat) (v : Slice) : Kept s (s.setSlice t v) := .of_eq rfl rfl
theorem State.setExt_kept (s : State) (n : Nat) (v : Ext) : Kept s (s.setExt n v) := .of_eq rfl rfl
theorem State.arm_kept (s : State) (k : EvKind) (t : Nat) : Kept s (s.arm k t) := .of_eq rfl rfl
theorem State.disarm_kept (s : State) (k : EvKind) : Kept s (s.disarm k) := .of_eq rfl rfl

/-! Admin completion rings and events. -/

theorem State.drainAdm_kept (t n : Nat) (s : State) : Kept s (State.drainAdm t n s) := by
  induction n generalizing s with
  | zero => exact Kept.refl s
  | succ n ih =>
    simp only [State.drainAdm]
    split
    · exact Kept.refl s
    · exact .ite _ (.trans (.trans (s.setAdm_kept ..) (State.emit_kept ..)) (ih _)) (Kept.refl s)

theorem State.reportLost_kept (s : State) (t : Nat) : Kept s (s.reportLost t) := by
  unfold State.reportLost
  exact .ite _ (s.setAdm_kept ..) (Kept.refl s)

theorem State.settleAdm_kept (s : State) (t : Nat) : Kept s (s.settleAdm t) :=
  (((State.drainAdm_kept t _ s).trans (State.reportLost_kept ..)).trans (State.drainAdm_kept ..)).trans (State.wr_kept ..)

theorem State.event_kept (s : State) (t code detail arg0 arg1 : Nat) : Kept s (s.event t code detail arg0 arg1) := by
  unfold State.event
  exact .ite _ ((s.setAdm_kept ..).trans (State.emit_kept ..)) (.ite _ ((s.setAdm_kept ..).trans (State.wr_kept ..))
    (((s.setAdm_kept ..).trans (State.inc_kept ..)).trans (State.wr_kept ..)))

theorem State.eventOpen_kept (s : State) (t code : Nat) : Kept s (s.eventOpen t code) := (s.event_kept ..).trans (State.bumpN_kept ..)

theorem State.admDone_kept (s : State) (t tag cmd code detail arg0 arg1 : Nat) : Kept s (s.admDone t tag cmd code detail arg0 arg1) :=
  ((s.setAdm_kept ..).trans (State.inc_kept ..)).trans (State.settleAdm_kept ..)

theorem State.logReport_kept (s : State) (unit cls : Nat) (uncorr reset : Bool) : Kept s (s.logReport unit cls uncorr reset) := by
  have h : Kept s ((s.count Reg.RES_ERRORS_COUNT).count Reg.RES_UNIT_STAT_ERRORS unit) := (s.count_kept ..).trans (State.count_kept ..)
  refine .ite _ h (h.trans ?_)
  exact (((((State.wr_kept ..).trans (State.wr_kept ..)).trans (State.put_kept ..)).trans (State.put_kept ..)).trans (State.wr_kept ..)).trans
    (State.wr_kept ..)

theorem State.fire_kept (s : State) (k : EvKind) : Kept s (s.fire k).1 := by
  unfold State.fire
  split
  · exact Kept.refl s
  · split
    · exact Kept.refl s
    · simp only []
      split
      · exact (s.disarm_kept k).trans (State.count_kept ..)
      · split
        · exact ((s.disarm_kept k).trans (State.count_kept ..)).trans (State.wr_kept ..)
        · exact (s.disarm_kept k).trans (State.wr_kept ..)

/-! A store to GDDR7 (a wipe and a reset drop bytes of it: Memory.wf_wipe, Memory.wf_filter). -/

theorem State.gddrStore_kept (s : State) (a : Nat) (b : List Byte) : Kept s (s.gddrStore a b) := ⟨rfl, Memory.wf_store a b⟩

end Sys2Proof.Machine
end

