-- ==== Sys2Proof/Laws/Threads.lean ====
section
/-! SUPPORT. What the shared operations over the threads of spoke cores do. -/

namespace Sys2Proof.Machine

open Sys2Proof Sys2Proof.Safety

/-- A command of a thread that can issue runs its body. -/
theorem runThread_of_canIssue {c i : Nat} {s : State} (h : CanIssue s c i) (f : State → State) : runThread c i s f = .next (f s) := by
  obtain ⟨h1, h2, h3, h4⟩ := h
  simp [runThread, isThread, h1, h2, h3, h4]

/-- A command of a thread that the module does not have stops. -/
theorem runThread_of_not_isThread {c i : Nat} (s : State) (h : isThread c i = false) (f : State → State) :
    runThread c i s f = .fault .noSuchThread := by simp [runThread, h]

/-- A write of one part of a thread leaves the other parts. -/
theorem State.cluOf_setThr_rest (s : State) (c i d : Nat) (v : Thr) :
    { (s.setThr c i v).cluOf d with thr := [] } = { s.cluOf d with thr := [] } := by
  by_cases h : d = c
  · subst h; simp [State.setThr]
  · simp [State.setThr, State.cluOf_setClu_ne, h]

theorem State.thrOf_wr (s : State) (f : Fld) (i v c j : Nat) : (s.wr f i v).thrOf c j = s.thrOf c j := rfl
theorem State.thrOf_step1 (s : State) (c i d j : Nat) : (s.step1 c i).thrOf d j = s.thrOf d j := rfl
theorem State.g_step1 (s : State) (c i d j n : Nat) : (s.step1 c i).g d j n = s.g d j n := rfl
theorem State.v_step1 (s : State) (c i d j n : Nat) : (s.step1 c i).v d j n = s.v d j n := rfl

theorem State.pc_step1 (s : State) (c i : Nat) : (s.step1 c i).pc c i = (s.pc c i + 1) % 2 ^ 17 := by
  simp [State.step1, State.pc, State.inc, Reg.CLU_THR_PC_PC]

/-- Only the program counter is written by `step1`. -/
theorem State.rd_step1_of_ne (s : State) (c i : Nat) (f : Fld) (j : Nat) (h : ¬(f.key = Reg.CLU_THR_PC_PC.key ∧ j = ix c i)) :
    (s.step1 c i).rd f j = s.rd f j := State.rd_wr_ne _ _ _ _ _ _ h

theorem State.setG_rd (s : State) (c i n v : Nat) (f : Fld) (j : Nat) : (s.setG c i n v).rd f j = s.rd f j := by
  unfold State.setG; split <;> rfl

theorem State.setG_pc (s : State) (c i n v d j : Nat) : (s.setG c i n v).pc d j = s.pc d j := State.setG_rd ..

/-- What general registers read as after a write of one. -/
theorem State.g_setG (s : State) (c i d v n : Nat) :
    (s.setG c i d v).g c i n = if n % 32 = 0 then 0 else if n % 32 = d % 32 then v % 2 ^ 64 else s.g c i n := by
  unfold State.setG State.g
  by_cases hn : n % 32 = 0
  · simp [hn]
  · by_cases hd : d % 32 = 0
    · have : ¬ n % 32 = d % 32 := by omega
      simp [hn, hd]
    · simp only [hd, hn, if_false, State.thrOf_setThr, Tbl.get_set]

theorem State.thrOf_setG_rest (s : State) (c i d v : Nat) : { (s.setG c i d v).thrOf c i with g := [] } = { s.thrOf c i with g := [] } := by
  unfold State.setG; split
  · rfl
  · simp

theorem State.thrOf_setG_ne (s : State) {c i e j : Nat} (d v : Nat) (h : ¬(e = c ∧ j = i)) : (s.setG c i d v).thrOf e j = s.thrOf e j := by
  unfold State.setG; split
  · rfl
  · exact State.thrOf_setThr_ne s _ h

theorem State.cluOf_setG_rest (s : State) (c i d v e : Nat) :
    { (s.setG c i d v).cluOf e with thr := [] } = { s.cluOf e with thr := [] } := by
  unfold State.setG; split
  · rfl
  · exact State.cluOf_setThr_rest ..

theorem State.setG_rest (s : State) (c i d v : Nat) :
    s.setG c i d v = { s with clus := (s.setG c i d v).clus } := by
  unfold State.setG; split <;> rfl

/-- A write of g[d] writes g[d] and nothing else of the thread. -/
theorem State.gTakes_setG (s : State) (c i d v : Nat) : GTakes c i d v s (s.setG c i d v) where
  value := by
    rw [State.g_setG]; by_cases h : d % 32 = 0 <;> simp [h]
  others n hn := by
    rw [State.g_setG, if_neg hn]
    split
    · rename_i h; simp [State.g, h]
    · rfl
  thread := State.thrOf_setG_rest ..

/-- A write of g[d] and the step to the next instruction: everything they do. -/
theorem State.setG_step1 (s : State) (c i d v : Nat) :
    GTakes c i d v s ((s.setG c i d v).step1 c i) ∧ PcNext c i s ((s.setG c i d v).step1 c i) ∧
      OnlyThread [] c i s ((s.setG c i d v).step1 c i) := by
  refine ⟨⟨(State.gTakes_setG s c i d v).value, (State.gTakes_setG s c i d v).others, (State.gTakes_setG s c i d v).thread⟩, ?_, ?_⟩
  · rw [PcNext, State.pc_step1, State.setG_pc]
  · refine ⟨?_, ?_, ?_, ?_⟩
    · show State.step1 _ c i = _
      unfold State.setG; split <;> rfl
    · intro f j _ h
      rw [State.rd_step1_of_ne _ _ _ _ _ h, State.setG_rd]
    · intro e j h; exact State.thrOf_setG_ne s d v h
    · intro e; exact State.cluOf_setG_rest s c i d v e

/-- The same where a free value was taken on the way. -/
theorem State.setG_step1_bump (s : State) (c i d v : Nat) :
    GTakes c i d v s ((s.setG c i d v).step1 c i).bump ∧ PcNext c i s ((s.setG c i d v).step1 c i).bump ∧
      OnlyThread [] c i s ((s.setG c i d v).step1 c i).bump := by
  obtain ⟨⟨a1, a2, a3⟩, b, c1, c2, c3, c4⟩ := State.setG_step1 s c i d v
  refine ⟨⟨a1, a2, a3⟩, b, ?_, c2, c3, c4⟩
  unfold State.setG; split <;> rfl

/-- What `scalar` does. -/
theorem scalar_does {c i : Nat} {s : State} (h : CanIssue s c i) (d : Nat) (x y : State → Nat) (f : Nat → Nat → Nat) :
    ∃ t, scalar c i d x y f s = .next t ∧ GTakes c i d (f (x s) (y s)) s t ∧ PcNext c i s t ∧ OnlyThread [] c i s t ∧ t.fresh = s.fresh := by
  refine ⟨_, runThread_of_canIssue h _, (State.setG_step1 ..).1, (State.setG_step1 ..).2.1, (State.setG_step1 ..).2.2, ?_⟩
  unfold State.setG; split <;> rfl

/-- What `shift` does. -/
theorem shift_does {c i : Nat} {s : State} (h : CanIssue s c i) (d : Nat) (x n : State → Nat) (f : Nat → Nat → Nat) :
    ∃ t, shift c i d x n f s = .next t ∧ GTakes c i d (if n s < 64 then f (x s) (n s) else s.free 64) s t ∧ PcNext c i s t ∧ OnlyThread [] c i s t := by
  rw [shift, runThread_of_canIssue h]
  by_cases hn : n s < 64
  · simp only [hn, if_true]; exact ⟨_, rfl, State.setG_step1 ..⟩
  · simp only [hn, if_false]; exact ⟨_, rfl, State.setG_step1_bump ..⟩

/-! Integers of 64 bits. -/

theorem sext_toInt (w v : Nat) (hw : 0 < w) : sext w v = (BitVec.ofNat w v).toInt := by
  obtain ⟨k, rfl⟩ : ∃ k, w = k + 1 := ⟨w - 1, by omega⟩
  simp only [sext, BitVec.toInt_eq_toNat_cond, BitVec.toNat_ofNat, Nat.add_sub_cancel]
  have h2 : 2 * 2 ^ k = 2 ^ (k + 1) := by rw [Nat.pow_succ]; omega
  have hp : 0 < 2 ^ (k + 1) := Nat.two_pow_pos _
  generalize v % 2 ^ (k + 1) = m
  by_cases h : m < 2 ^ k
  · rw [if_pos h, if_pos (by omega)]
  · rw [if_neg h, if_neg (by omega)]

theorem wrap_toNat (w : Nat) (z : Int) : wrap w z = (BitVec.ofInt w z).toNat := by
  simp [wrap, BitVec.toNat_ofInt]

end Sys2Proof.Machine
end

