-- ==== Sys2Proof/Tests/Slice0.lean ====
section
/-! SUPPORT. The model's own tests: the well-formedness smoke test, one command at a time on small states, and for every
statement with hypotheses a theorem whose states meet them. -/

namespace Sys2Proof.Tests

open Sys2Proof Sys2Proof.Machine Sys2Proof.Safety

/-! One theorem after another: each asks the kernel to evaluate the model. -/

set_option Elab.async false

/-! States. -/

/-- Fields written one after another: field, instance, value. -/
def put (s : State) (l : List (Fld × Nat × Nat)) : State := l.foldl (fun s e => s.wr e.1 e.2.1 e.2.2) s

/-- Thread `i` of cluster 0 READY, with general registers. -/
def thr (i : Nat) (g : List (Nat × Nat)) : State := ((g.foldl (fun s e => s.setG 0 i e.1 e.2) State.reset).setThState 0 i Ts.ready)

/-- Bank 0 of cluster 0 is core 0's and its stream unit reads it. -/
def own (s : State) : State := put s [(Reg.CLU_BANK_OWN_OWNER, ix 0 0, 1), (Reg.CLU_BANK_OWN_SHARE_RD, ix 0 0, 0x3FF), (Reg.CLU_BANK_OWN_TENANT, ix 0 0, 0x3FF)]

/-- Bank 0 of cluster 0 is the unit's of a code. -/
def ownBy (code : Nat) (s : State) : State := put s [(Reg.CLU_BANK_OWN_OWNER, ix 0 0, code), (Reg.CLU_BANK_OWN_TENANT, ix 0 0, 0x3FF)]

/-- Extent 1 is 8 MiB of the provider from 2 MiB on. -/
def ext (s : State) : State := put s [(Reg.TEN_EXT0_STATE, 1, 1), (Reg.TEN_EXT0_TENANT, 1, 0x3FF), (Reg.TEN_EXT1_BASE_UNIT, 1, 1), (Reg.TEN_EXT1_UNITS, 1, 4)]

/-- Vector register 1 of thread 0 of cluster 0 holds a pattern. -/
def vec : State := ((thr 0 []).setV 0 0 1 (0x3F804000 * (2 ^ 992 + 2 ^ 32 + 1))).setV 0 0 2 (0x40003F80 * (2 ^ 992 + 2 ^ 32 + 1))

/-- Cluster 0 changed by `f`. -/
def clu (f : Clu → Clu) (s : State) : State := s.setClu 0 (f (s.cluOf 0))

/-- Thread `i` of cluster 0 changed by `f`. -/
def thw (i : Nat) (f : Thr → Thr) (s : State) : State := s.setThr 0 i (f (s.thrOf 0 i))

/-- Scratchpad bytes of cluster 0 from `a`. -/
def bk (a : Nat) (l : List Nat) (s : State) : State := s.spStore 0 a (l.map (BitVec.ofNat 8))

/-- Slot 0 of stream unit 0 of cluster 0. -/
def slot (v : Slot) (s : State) : State := s.setSlot 0 0 0 v

/-- Peloton 0, which runs on cluster 0. -/
def pel (v : Pel) (s : State) : State := s.setPel 0 v

/-- An operation that has started, with deadlines. -/
def opn : PelOp := { qp := 0, serial := 0, cop := 0, format := 0, outFormat := 0, src := 0, dst := 0, count := 0, launchAt := 10, stepCt := 4, report := 0, capRows := 0, root := 0, localWin := false, base := 10, started := true }

/-- A work item with two hub slots. -/
def item (kind : Nat) : Work := { kind := kind, qp := 0, serial := 0, tenant := 0, ctx := 0, addr := 0, len := 64, hub := some 0, slots := 2 }

/-- The power unit as `f` leaves it. -/
def pw (f : Pwr → Pwr) (s : State) : State := { s with board := { s.board with pwr := f s.board.pwr } }

/-- What Kilurn keeps as `f` leaves it. -/
def mg (f : Mgmt → Mgmt) (s : State) : State := { s with mgmt := f s.mgmt }

/-- Path 0, as `f` leaves it, is up to the endpoint in slot 0, whose window is at 2^40. -/
def near (f : Near → Near) (s : State) : State :=
  put ((s.setNear 0 (f { epid := some 7, ready := true, capsSent := true, peerReady := true, crdP := 64, crdD := 1024, crdNp := 64 })).setEp 0 { used := true, epid := 7, windowBase := 2 ^ 40, up := true })
    [(Reg.MAC_NEAR_STATUS_PATH_UP, 0, 1), (Reg.MAC_NEAR_STATUS_FLIT_LOCK, 0, 1), (Reg.MAC_NEAR_STATUS_FEC_LOCK, 0, 1), (Reg.MAC_NEAR_STATUS_ATTACH_VALID, 0, 1)]

/-- A near-link message to window byte `a` with `n` bytes of data. -/
def msg (op tenant a n : Nat) : NearMsg := { op := op, tenant := tenant, addr := 2 ^ 40 + a, len := n, data := (List.range n).map (BitVec.ofNat 8) }

/-- What the translation unit holds as `f` leaves it. -/
def xl (f : Xlt → Xlt) (s : State) : State := { s with xlt := f s.xlt }

/-- A walk at level 4. -/
def wk : Walk := { id := 0, tenant := 1, ctx := 0, va := 4096, acc := .read, cluster := 0, walker := none, level := 4, table := 0, wOk := true, att := 0, waiters := [] }

/-- An invalidation of 4 KiB through path 0. -/
def inv : Inval := { seq := 3, slot := 0, path := 0, tenant := 1, ctx := 0, base := 0, size := 12, wholeCtx := false, wholeTen := false }

/-- A non-posted request for a user. -/
def npr (kind : NpKind) (user : User) : NpReq := { tag := 2, kind := kind, user := user, msg := { data := leBytes 8 0x11 } }

/-- The record of one page fault. -/
def flt (st : FaultSt) (s : State) : State := s.setFault 1 0 { st := st, attempts := 1, waiters := [{ user := .admin 0, acc := .read, va := 4096, cluster := 0 }] }

/-- Queue pair 4 with a ring of 64 entries and completion ring 2. -/
def qp (l : List (Fld × Nat × Nat)) (f : Sq → Sq) (s : State) : State :=
  (put s ([(Reg.QP_DESC0_VALID, 4, 1), (Reg.QP_DESC0_LOG2_SIZE, 4, 6), (Reg.QP_DESC0_CQ, 4, 2), (Reg.QP_CTRL_ENABLE, 0, 1), (Reg.CQ_DESC0_VALID, 2, 1), (Reg.CQ_DESC0_LOG2_SIZE, 2, 6)] ++ l)).setSq 4 (f {})

/-- A one-slot entry of an opcode, with the phase bit of the first turn. -/
def ent (o : Nat) : List Byte := (BitVec.ofNat 8 o :: List.replicate 62 0) ++ [0x80]

/-- A legacy entry of an opcode with OWN. -/
def lent (o : Nat) : List Byte := (BitVec.ofNat 8 o :: List.replicate 30 0) ++ [0x80]

/-- An entry of 64 bytes: offset, size, value. -/
def en (l : List (Nat × Nat × Nat)) : List Byte := (List.range 64).map fun k => match l.find? (fun e => decide (e.1 ≤ k) && decide (k < e.1 + e.2.1)) with
  | some e => BitVec.ofNat 8 (e.2.2 / 256 ^ (k - e.1))
  | none => 0

/-- Slice 1 is ACTIVE with quotas, its admin rings are bound, and its context 0 is registered through attachment slot 0; cluster 0 alone
is in service. -/
def adm (l : List (Fld × Nat × Nat)) : State :=
  (put State.reset ([(Reg.ADM_DESC0_BOUND, 1, 1), (Reg.ADM_DESC0_CQ_LOG2, 1, 6), (Reg.ADM_DESC0_BOUND, 1023, 1), (Reg.ADM_DESC0_CQ_LOG2, 1023, 6),
    (Reg.TEN_SLICE0_STATE, 1, 1), (Reg.TEN_SLICE0_QP_COUNT, 1, 8), (Reg.TEN_SLICE1_CQ_COUNT, 1, 8), (Reg.TEN_SLICE1_PEL_COUNT, 1, 4),
    (Reg.TEN_SLICE2_GDDR7_UNITS, 1, 8), (Reg.TEN_SLICE2_REGIONS, 1, 8), (Reg.TEN_SLICE3_CONTEXTS, 1, 8), (Reg.TEN_SLICE5_LEGACY, 1, 4),
    (Reg.XLT_CTX_DESC0_VALID, 4, 1), (Reg.XLT_CTX_DESC1_TENANT, 4, 1)] ++ (List.range 7).map (fun k => (Reg.CLU_STATUS_STATE, k + 1, 0)) ++ l)).setAtt 8 { st := .attached, epid := 7 }

/-- The queue pair and ring of `qp` belong to slice 1, and its cipher context is ready. -/
def adq (l : List (Fld × Nat × Nat)) (f : Sq → Sq) : State :=
  qp ([(Reg.QP_DESC0_TENANT, 4, 1), (Reg.CQ_DESC0_TENANT, 2, 1), (Reg.CIP_QP_CTX_VALID, 4, 1), (Reg.CIP_CTX0_SLOT0_VALID, 0, 1), (Reg.TRN_IP_VALID_VALID, 0, 1)] ++ l) f (adm [])

/-- A collective image with one word of code. -/
def colImg : List Byte :=
  en [(0, 4, 0xC011EC71), (4, 2, 1), (7, 1, 1), (8, 4, 4), (16, 2, 2), (18, 1, 1), (19, 1, 1), (24, 4, crc32c [1, 2, 3, 4])] ++ [1, 2, 3, 4]

/-- The cadence unit as `f` leaves it. -/
def cd (f : Cad → Cad) (s : State) : State := { s with board := { s.board with cad := f s.board.cad } }

/-- Far port 0, of all 8 lanes, is up. -/
def far (l : List (Fld × Nat × Nat)) (s : State) : State :=
  put s ([(Reg.MAC_PORT_CFG_ENABLE, 0, 1), (Reg.MAC_PORT_CFG_WIDTH, 0, 4), (Reg.MAC_PORT_STATUS_LINK_UP, 0, 1)] ++ l)

/-- The transport is enabled, its first local address is ::1, and far port 0 is up. -/
def trn (l : List (Fld × Nat × Nat)) (s : State) : State :=
  far ([(Reg.TRN_CTRL_ENABLE, 0, 1), (Reg.TRN_IP_VALID_VALID, 0, 1), (Reg.TRN_LOCAL_IP_LO, 0, 1), (Reg.TRN_SPRAY_MAP_PORTS, 0, 0)] ++ l) s

/-- What a port finds of a packet for this module. -/
def rxd : Rx := { ip := leBytes 16 1, dport := State.reset.rd Reg.TRN_UDP_DPORT }

/-- Queue pair 4 of slice 1 is CONNECTED and served by cluster 0, with a key. -/
def con (l : List (Fld × Nat × Nat)) (f : Sq → Sq) (g : Conn → Conn) : State :=
  (trn ([(Reg.TRN_QP_T0_STATE, 4, 1), (Reg.TRN_QP_T0_RETRY_MAX, 4, 3), (Reg.CLU_STEER_ENT_VALID_ACT, 4, 1), (Reg.CLU_STATUS_STATE, 0, 1), (Reg.CIP_CTRL_ENABLE, 0, 1),
    (Reg.QP_DESC0_TENANT, 4, 1), (Reg.CIP_QP_CTX_VALID, 4, 1), (Reg.CIP_CTX0_SLOT0_VALID, 0, 1), (Reg.TRN_REG_D0_VALID, 1, 1), (Reg.TRN_REG_D0_TENANT, 1, 1),
    (Reg.TRN_REG_D0_RIGHTS, 1, 31), (Reg.TRN_REG_D1_BASE, 1, 0x200000), (Reg.TRN_REG_D2_LENGTH, 1, 0x1000),
    (Reg.TEN_EXT0_STATE, 1, 1), (Reg.TEN_EXT0_TENANT, 1, 1), (Reg.TEN_EXT1_BASE_UNIT, 1, 1), (Reg.TEN_EXT1_UNITS, 1, 4), (Reg.TEN_EXT0_ANY_CONTEXT, 1, 1)] ++ l) (qp [] f State.reset)).setConn 4 (g {})

/-- A packet of an opcode to queue pair 4, with four bytes for region 1. -/
def pkd (opc : Nat) : Pkt := { opc := opc, dstQp := 4, rkey := 1, target := 16, msgLen := 4, payload := [1, 2, 3, 4] }

/-- Page `ch` holds a command with its header fields and parameters, whose turn has come; it came from the endpoint in slot 0. -/
def mb (ch cmd : Nat) (par : List (Nat × Nat × Nat)) (s : State) : State :=
  put (s.setMbx ch { epid := 7, page := ((en [(0, 2, cmd)] ++ en par).zipIdx.filter (fun x => x.1 ≠ 0)).map (fun x => (0x40 + x.2, x.1)) })
    [(Reg.MBX_SLOT_STATUS_BUSY, ch, 1), (Reg.MBX_KILURN_STATE, 0, 1)]

/-- A good firmware image whose body is one byte. -/
def fwImg : List Byte :=
  leBytes 4 0x4B1C0009 ++ leBytes 2 1 ++ leBytes 2 256 ++ leBytes 8 0 ++ leBytes 4 1 ++ leBytes 12 0 ++ sha256 [9] ++ sha256 (List.replicate 64 0) ++
    List.replicate 160 0 ++ [9] ++ List.replicate 64 0

/-- Bytes of the staging buffer from its start. -/
def stg (l : List Byte) (s : State) : State := mg (fun m => { m with stage := (l.zipIdx.filter (fun x => x.1 ≠ 0)).map (fun x => (x.2, x.1)) }) s

/-- What the resilience unit holds as `f` leaves it. -/
def rs (f : Res → Res) (s : State) : State := { s with board := { s.board with res := f s.board.res } }

/-- What the lane unit holds as `f` leaves it. -/
def ln (f : Lanes → Lanes) (s : State) : State := { s with board := { s.board with lanes := f s.board.lanes } }

/-- Peloton 0 of two members, running on the link queue pairs 4 and 5. -/
def pl : Pel := { st := .running, tenant := 1, group := 7, baseQp := 4, slots := 2, live := [0, 1], members := [⟨0, 0, none, 0⟩, ⟨0, 0, none, 0⟩] }

/-- A chunk of four bytes from member 1. -/
def chk (opc : Nat) : Pkt := { pkd opc with ext := (en [(0, 4, 7), (20, 4, 4), (24, 4, crc32c [1, 2, 3, 4]), (28, 2, 1)]) }

/-- A STALL or LEAVE of member 1. -/
def ctlPkt (opc kind : Nat) : Pkt := { pkd opc with payload := [1, 0], ext := en [(0, 4, 7), (11, 1, kind), (12, 2, 1), (14, 1, 2), (18, 2, 1), (24, 8, 90)] }

/-- A register stays below a bound that its reset value and every value listed for it keep. -/
theorem rd_lt (s : State) (f : Fld) (n : Nat) (h : ∀ e ∈ Tbl.get [] f.key s.regs, e.2 < n) (hr : ∀ i, f.rst i < n) (i : Nat) : s.rd f i < n := by
  unfold State.rd
  generalize Tbl.get [] f.key s.regs = m at h
  induction m with
  | nil => exact hr i
  | cons e m ih =>
    obtain ⟨j, v⟩ := e
    simp only [Tbl.get]
    split
    · exact h (j, v) (List.mem_cons_self ..)
    · exact ih fun x hx => h x (List.mem_cons_of_mem _ hx)

/-- Where one cluster alone serves, a queue pair's cluster is that one, whatever the free value of log entry 28 is. -/
theorem chooseCluster_of_one {s : State} {c : Nat} (h : s.serving = [c]) : s.chooseCluster = some c := by
  simp [State.chooseCluster, h, Nat.mod_one]

/-! The well-formedness smoke test: each check refuses a command that names a thing the module does not have, and takes the last one it has. -/

theorem test_wf_cluster : (Instr.halt 10 0).wf = false ∧ (Instr.halt 9 0).wf = true := by decide
theorem test_wf_thread : (Instr.halt 0 8).wf = false ∧ (Instr.halt 0 7).wf = true := by decide
theorem test_wf_number : (Instr.add 0 0 32 0 0).wf = false ∧ (Instr.add 0 0 0 32 0).wf = false ∧ (Instr.add 0 0 0 0 32).wf = false ∧ (Instr.add 0 0 31 31 31).wf = true := by decide
theorem test_wf_f : (Instr.swait 0 0 0 128).wf = false ∧ (Instr.swait 0 0 0 127).wf = true := by decide
theorem test_wf_imm : (Instr.addi 0 0 1 1 4096).wf = false ∧ (Instr.addi 0 0 1 1 4095).wf = true := by decide
theorem test_wf_long : (Instr.lui 0 0 1 131072).wf = false ∧ (Instr.lui 0 0 1 131071).wf = true := by decide
theorem test_wf_bank : (Instr.bankZeroingDone 0 17).wf = false ∧ (Instr.bankZeroingDone 0 16).wf = true := by decide
theorem test_wf_unit : (Instr.streamSlotDone 0 4 0).wf = false ∧ (Instr.streamSlotDone 0 3 0).wf = true := by decide
theorem test_wf_qp : (Instr.qpDoorbell 16384 0).wf = false ∧ (Instr.qpDoorbell 16383 0).wf = true := by decide
theorem test_wf_cq : (Instr.cqDoorbell 4096).wf = false ∧ (Instr.cqDoorbell 4095).wf = true := by decide
theorem test_wf_slot : (Instr.admSqDoorbell 512).wf = false ∧ (Instr.admSqDoorbell 511).wf = true ∧ (Instr.admSqDoorbell 1023).wf = true := by decide
theorem test_wf_tenant : (Instr.destroyTenantDone 512).wf = false ∧ (Instr.destroyTenantDone 511).wf = true := by decide
theorem test_wf_tenant_field : (Instr.pageTimerExpire 1024 0).wf = false ∧ (Instr.pageTimerExpire 1023 0).wf = true := by decide
theorem test_wf_extent : (Instr.extentWipeDone 4096).wf = false ∧ (Instr.extentWipeDone 4095).wf = true := by decide
theorem test_wf_entry : (Instr.createCq 1 (List.replicate 63 0)).wf = false ∧ (Instr.createCq 1 (List.replicate 64 0)).wf = true := by decide
theorem test_wf_slots : (Instr.sqSlotsReadDone 1 [List.replicate 64 0, []]).wf = false ∧ (Instr.sqSlotsReadDone 1 [List.replicate 64 0]).wf = true := by decide
theorem test_wf_legacy_slots : (Instr.legacySlotsReadDone 1 [List.replicate 64 0]).wf = false ∧ (Instr.legacySlotsReadDone 1 [List.replicate 32 0]).wf = true := by decide
theorem test_wf_legacy : (Instr.legacyNop 1 []).wf = false ∧ (Instr.legacyNop 1 (List.replicate 32 0)).wf = true := by decide
theorem test_wf_near : (Instr.nearReady 8).wf = false ∧ (Instr.nearReady 7).wf = true := by decide
theorem test_wf_tag : (Instr.npCompletionTimeout 0 4096).wf = false ∧ (Instr.npCompletionTimeout 0 4095).wf = true := by decide
theorem test_wf_attach : (Instr.endpointGraceExpire 8).wf = false ∧ (Instr.endpointGraceExpire 7).wf = true := by decide
theorem test_wf_peloton : (Instr.launchFire 4096 0).wf = false ∧ (Instr.launchFire 4095 0).wf = true := by decide
theorem test_wf_lane : (Instr.farLinkUp 32).wf = false ∧ (Instr.farLinkUp 31).wf = true := by decide
theorem test_wf_class : (Instr.pfcXonSend 0 16).wf = false ∧ (Instr.pfcXonSend 0 15).wf = true := by decide
theorem test_wf_position : (Instr.laneFailing 72 0).wf = false ∧ (Instr.laneFailing 71 0).wf = true := by decide
theorem test_wf_unit_number : (Instr.targetedTestTimeout 65536).wf = false ∧ (Instr.targetedTestTimeout 65535).wf = true := by decide
theorem test_wf_device : (Instr.memCopyReq 18).wf = false ∧ (Instr.memCopyReq 17).wf = true := by decide
theorem test_wf_offset : (Instr.registerWrite 4 0).wf = false ∧ (Instr.registerWrite (19 * 1048576) 0).wf = false ∧ (Instr.registerWrite 8 0).wf = true := by decide
theorem test_wf_channel : (Instr.getInfo 1026).wf = false ∧ (Instr.getInfo 1025).wf = true ∧ (Instr.getInfo 512).wf = false := by decide
theorem test_wf_core : (Instr.watchdogExpire 4 true {}).wf = false ∧ (Instr.watchdogExpire 3 true {}).wf = true := by decide
theorem test_wf_rail : (Instr.pmbusTimeout 16).wf = false ∧ (Instr.pmbusTimeout 15).wf = true := by decide

/-! One command at a time. The expected values are the spec's own worked examples, or are worked out by hand from its rules. -/

/-- What `f` reads in the state a command leaves. -/
def after {α : Type} (c : Instr) (s : State) (f : State → α) : Option α :=
  match exec c s with
  | .next t => some (f t)
  | _ => none

/-- R235: 64-bit addition wraps. -/
theorem test_add_wraps : after (.add 0 0 3 1 2) (thr 0 [(1, 2 ^ 64 - 1), (2, 3)]) (fun t => t.g 0 0 3) = some 2 := by decide +kernel
/-- R235: the shift is arithmetic, and a source may be the destination. -/
theorem test_sra_sign : after (.sra 0 0 1 1 2) (thr 0 [(1, 2 ^ 64 - 8), (2, 1)]) (fun t => t.g 0 0 1) = some (2 ^ 64 - 4) := by decide +kernel
/-- R232: g0 ignores writes. -/
theorem test_g0_reads_0 : after (.add 0 0 0 1 2) (thr 0 [(1, 4), (2, 3)]) (fun t => (t.g 0 0 0, t.pc 0 0)) = some (0, 1) := by decide +kernel
/-- R235: LUI places IMM17 shifted left by 15. -/
theorem test_lui : after (.lui 0 0 3 3) (thr 0 []) (fun t => t.g 0 0 3) = some 0x18000 := by decide +kernel
/-- R232: an address past the local memory traps with RANGE, and the thread stops. -/
theorem test_load_out_of_range : after (.ldD 0 0 3 1 0) (thr 0 [(1, 0x1004000)]) (fun t => t.thState 0 0) = some Ts.trapped := by decide +kernel
/-- R232, R235: the last doubleword of the local memory. -/
theorem test_store_then_load : after (.stD 0 0 3 1 0) (thr 0 [(1, 0x1003FF8), (3, 0x1122334455667788)]) (fun t => after (.ldD 0 0 4 1 0) t (fun u => u.g 0 0 4)) =
    some (some 0x1122334455667788) := by decide +kernel

/-- "Example: a 128-point rotation before MXFP4" (spec/11_arithmetic.md): the matrix entry is 1.4140625 x 2^-4. -/
theorem test_bf16_entry : Fmt.bf16.decode 0x3DB5 = .fin false 181 (-11) ∧ Fmt.bf16.decode 0xBDB5 = .fin true 181 (-11) := by decide +kernel
/-- The same example, step 4: the scale byte of the block is 0x7F; without the rotation it is 0x82. -/
theorem test_mx_scale :
    mxScale 9 true [.fin false 1086 (-8), .fin false 976 (-8), .fin true 40 (-8), .fin false 332 (-8), .fin true 1200 (-8)] = (0x7F, false) ∧
    mxScale 9 true [.fin false 48 0, .fin false 1 (-1)] = (0x82, false) := by decide +kernel
/-- The same example, step 5: the codes under round-to-nearest-even. -/
theorem test_mx_quant :
    [Num.fin false 1086 (-8), .fin false 976 (-8), .fin true 40 (-8), .fin false 332 (-8), .fin true 1200 (-8)].map (fun x => (mxQuant 9 0x7F .rne x).1) =
      [6, 6, 8, 3, 0xE] := by decide +kernel
/-- The same example, step 7: y0 becomes 6 exactly when r is at least 57,600. -/
theorem test_mx_stochastic :
    (mxQuant 9 0x7F (.sr 57599) (.fin false 1086 (-8))).1 = 6 ∧ (mxQuant 9 0x7F (.sr 57600) (.fin false 1086 (-8))).1 = 7 := by decide +kernel

/-- "Example: an exact all-reduce of BF16 gradients": the exports of members 0 to 2 hold BOTTOM, WIDTH and element as the spec gives them. -/
theorem test_trimmed_exports :
    trimmed [2 ^ 170] = [1, 0, 170, 0, 1, 0, 0, 0] ++ [1, 0, 0, 0, 0, 0, 0, 0] ∧
    trimmed [2 ^ 170 + 2 ^ 145] = [1, 0, 145, 0, 4, 0, 0, 0] ++ [1, 0, 0, 2, 0, 0, 0, 0] ∧
    trimmed [2 ^ 170 + 2 ^ 146] = [1, 0, 146, 0, 4, 0, 0, 0] ++ [0, 0, 0, 1, 0, 0, 0, 0].set 0 1 ∧
    trimmed [0] = [1, 0, 0, 0, 1, 0, 0, 0] ++ [0, 0, 0, 0, 0, 0, 0, 0] := by decide +kernel
/-- The same example: the sum of the four members, its image, its residue, and its value in BF16. -/
theorem test_exact_sum :
    let a := (((({} : Accum).add (addendOf (Fmt.bf16.decode 0x4480)).1).add (addendOf (Fmt.bf16.decode 0x3800)).1).add (addendOf (Fmt.bf16.decode 0x3800)).1).add
      (addendOf (Fmt.bf16.decode 0xC480)).1
    a.x = 2 ^ 146 ∧ a.image = (2 ^ 146, false) ∧ a.res = 64 ∧ residue a.x = 64 ∧ (Fmt.bf16.round .rne true a.value.1).1 = 0x3880 := by decide +kernel
/-- The same example under FAST: 2^-15 is lost against 1,024, and not after 1,024 - 1,024. -/
theorem test_fast_order :
    let v (c : Nat) : Nat := (Fmt.fp32.round .rne true (Fmt.bf16.decode c)).1
    let add (x y : Nat) : Nat := ((Elem.flt Fmt.fp32).addRound x y).1
    add (add (add (v 0x4480) (v 0x3800)) (v 0x3800)) (v 0xC480) = 0 ∧ add (add (add (v 0x4480) (v 0xC480)) (v 0x3800)) (v 0x3800) = v 0x3880 := by decide +kernel

/-- "Example: three updates" (spec/08): the rates after each interval, to the Mbit/s; the rate is kept to 2^-16 Mbit/s. -/
def rated (r : Nat) (rmin ce n : Nat) : State :=
  (put State.reset [(Reg.QP_DESC0_TC, 4, 3)]).setConn 4 { rate := r, rMin := some rmin, ceSum := ce, ackedSum := n, ackSeen := true }
theorem test_rate_by_delay : after (.rateUpdate 4) (rated (400000 * 65536) 18000 0 48) (fun t => t.rd Reg.TRN_CCQ_RATE_RATE 4) = some 366667 := by decide +kernel
theorem test_rate_by_marks : after (.rateUpdate 4) (rated (366667 * 65536) 18000 12 48) (fun t => t.rd Reg.TRN_CCQ_RATE_RATE 4) = some 320834 := by decide +kernel
theorem test_rate_increase : after (.rateUpdate 4) (rated (320833 * 65536) 10500 0 48) (fun t => t.rd Reg.TRN_CCQ_RATE_RATE 4) = some 321833 := by decide +kernel

/-- "Example: merged and stale doorbells" (spec/06): a legacy queue of 64 entries with h = 120. -/
def bells (seen : Nat) : State :=
  qp [(Reg.QP_DESC0_LEGACY, 4, 1), (Reg.QP_HEAD_HEAD, 4, 120), (Reg.QP_HEAD_TAIL_SEEN, 4, seen)] id State.reset
theorem test_legacy_bell_wraps : after (.legacyDoorbell 4 2 false) (bells 120) (fun t => t.rd Reg.QP_HEAD_TAIL_SEEN 4) = some 2 := by decide +kernel
theorem test_legacy_bell_stale : after (.legacyDoorbell 4 126 false) (bells 2) (fun t => t.rd Reg.QP_HEAD_TAIL_SEEN 4) = some 2 := by decide +kernel
theorem test_legacy_bell_bad : after (.legacyDoorbell 4 200 false) (bells 2) (fun t => (t.rd Reg.QP_INDEX_ERR_COUNT, t.sched 4 == Sched.error)) = some (1, true) := by decide +kernel

/-- "Example: strict and relaxed completion of a 12 KiB write" (spec/03): near ports 1 and 5 are up; the pages go to 1, 5 and 1, and the entry to 5. -/
theorem test_near_port_choice :
    let s := put State.reset [(Reg.MAC_NEAR_STATUS_PATH_UP, 1, 1), (Reg.MAC_NEAR_STATUS_ATTACH_VALID, 1, 1), (Reg.MAC_NEAR_STATUS_ATTACH, 1, 0),
      (Reg.MAC_NEAR_STATUS_PATH_UP, 5, 1), (Reg.MAC_NEAR_STATUS_ATTACH_VALID, 5, 1), (Reg.MAC_NEAR_STATUS_ATTACH, 5, 0)]
    [0x4000003000, 0x4000004000, 0x4000005000, 0x4000100040].map (s.pathFor 0) = [some 1, some 5, some 1, some 5] := by decide +kernel

/-- "Example: locating a tenant's pages" (spec/00): the pages that four window offsets lie in. -/
theorem test_pages :
    [0xF804D2000, 0xF8404D000, 0xF85025000, 0xF85425000, 0xF853FF000].map pageOf = [.qp 1234, .cq 77, .mbx 37, .ctl 37, .mbx 1023] := by decide +kernel
/-- The same example: tenant 38 writes to the doorbell of tenant 37's queue pair; the write is discarded and counted. -/
theorem test_window_denied :
    after (.nearWr 0 { op := 1, tenant := 38, addr := 2 ^ 40 + 0xF804D2000, len := 8, data := leBytes 8 1 })
      (near id (put State.reset [(Reg.QP_DESC0_VALID, 1234, 1), (Reg.QP_DESC0_TENANT, 1234, 37)]))
      (fun t => (t.rd Reg.ADM_WIN_DENIED_COUNT, (t.sqOf 1234).phase == (State.reset.sqOf 1234).phase)) = some (1, true) := by decide +kernel

/-- "Example: a frame that does not fit" (spec/08): port F4 at 800 Gbit/s, the active list with its two entries, at count 5,000,041,950 and later. -/
def gates (now : Nat) : State :=
  let s := put State.reset [(Reg.MAC_PORT_CFG_WIDTH, 4, 3), (Reg.TRN_EGR_CTRL_GATE_EN, 0, 1), (Reg.CAD_STATUS_STATE, 0, 2), (Reg.CAD_COUNT_COUNT, 0, now),
    (Reg.TRN_GCL_ACT, 0, 0x40 + 2000 * 2 ^ 32), (Reg.TRN_GCL_ACT, 1, 0xFFBF + 8000 * 2 ^ 32)]
  { s with traffic := { s.traffic with gateBase := 5000000000, gateCycle := 10000, gateLen := 2, gateStopped := false } }
theorem test_gate_window : (gates 5000041950).gateWindow 6 = some 50 ∧ (gates 5000041950).gateWindow 3 = some 0 := by decide +kernel
theorem test_gate_fits :
    (gates 5000041950).gateAdmits 4 6 8350 = false ∧ (gates 5000041950).gateAdmits 4 6 1182 = true ∧ (gates 5000042000).gateAdmits 4 6 1182 = false ∧
    (gates 5000042000).gateAdmits 4 3 1182 = true ∧ (gates 5000050000).gateAdmits 4 6 8350 = true := by decide +kernel

/-- "Example: a module joins the domain" (spec/02): in ACQUIRE, the exchange over lane 8 steps the count forward by 315 ct. -/
theorem test_cadence_step :
    after (.syncResp 8 { seq := 5, t1 := 5000000000, t2 := 5000000812, t2f := 64, t3 := 5000000912, t3f := 64, hopEq := 1 } 128 1 false)
      (cd (fun c => { c with req := some (5, 5000000000, 0) }) (put State.reset [(Reg.CAD_CTRL_ENABLE, 0, 1), (Reg.CAD_CTRL_SYNC_EN, 0, 2 ^ 8),
        (Reg.CAD_STATUS_UPSTREAM, 0, 8), (Reg.CAD_STATUS_STATE, 0, 1), (Reg.CAD_PORT_ASYM_PS, 8, 1500), (Reg.CAD_COUNT_COUNT, 0, 5000001092)]))
      (fun t => (t.now, t.rd Reg.CAD_EVT_STATUS_STEP_TAKEN, t.rd Reg.CAD_STATUS_STATE, t.rd Reg.CAD_STATUS_HOP_EQ, t.board.cad.slew)) =
    some (5000001407, 1, 1, 2, 128000) := by decide +kernel

/-- RFC 3720 and FIPS 180-4, which R302 and R338 name: their known check values. -/
theorem test_crc32c : crc32c [0x31, 0x32, 0x33, 0x34, 0x35, 0x36, 0x37, 0x38, 0x39] = 0xE3069283 := by decide +kernel
theorem test_sha256 : sha256 [0x61, 0x62, 0x63] = [0xBA, 0x78, 0x16, 0xBF, 0x8F, 0x01, 0xCF, 0xEA, 0x41, 0x41, 0x40, 0xDE, 0x5D, 0xAE, 0x22, 0x23,
  0xB0, 0x03, 0x61, 0xA3, 0x96, 0x17, 0x7A, 0x9C, 0xB4, 0x10, 0xFF, 0x61, 0xF2, 0x00, 0x15, 0xAD] := by decide +kernel

/-- A step takes the front of the queue and leaves the rest. -/
theorem test_step_takes_front :
    (match step { thr 0 [(1, 5), (2, 7)] with pending := [.add 0 0 3 1 2, .sub 0 0 4 1 2] } with
      | .next t => some (t.g 0 0 3, t.pending)
      | _ => none) = some (12, [.sub 0 0 4 1 2]) := by decide +kernel
/-- A step on the empty queue lets one cadence cycle pass. -/
theorem test_step_idles : (match step State.reset with
      | .next t => some t.now
      | _ => none) = some 1 := by decide +kernel

/-- A canonical state with a command that waits and a byte in GDDR7. -/
theorem witness_StepKeepsCanonical : Canonical { State.reset with pending := [.jtagBypass], gddr := [(5, 1)] } :=
  ⟨by decide +kernel, by unfold queueWf; decide +kernel⟩
/-- A well-formed command. -/
theorem witness_WellFormedRuns : (Instr.jtagBypass).wf = true := by decide

/-! The hypotheses of the statements can be met. -/

def scalarArithmetic1S : State := thr 0 [(1, 5), (2, 2 ^ 63 + 7)]

/-- O1, ScalarArithmetic: a state meets the hypotheses together. -/
theorem witness_ScalarArithmetic :
    CanIssue scalarArithmetic1S 0 0 ∧
      scalarArithmetic1S.g 0 0 1 < 2 ^ 64 :=
  ⟨by unfold CanIssue; decide +kernel, by decide +kernel⟩

def shiftsAndDivision1S : State := thr 0 [(1, 2 ^ 63 + 5), (2, 7)]

/-- O2, ShiftsAndDivision: a state meets the hypotheses together. -/
theorem witness_ShiftsAndDivision :
    CanIssue shiftsAndDivision1S 0 0 ∧
      shiftsAndDivision1S.g 0 0 2 < 64 ∧
      BitVec.ofNat 64 (shiftsAndDivision1S.g 0 0 2) ≠ 0 ∧
      (¬((BitVec.ofNat 64 (shiftsAndDivision1S.g 0 0 1)).toInt = -2 ^ 63 ∧ (BitVec.ofNat 64 (shiftsAndDivision1S.g 0 0 2)).toInt = -1)) :=
  ⟨by unfold CanIssue; decide +kernel, by decide +kernel⟩

def scalarImmediate1S : State := thr 0 [(1, 2 ^ 63 + 5), (2, 70)]

/-- O3, ScalarImmediate: a state meets the hypotheses together. -/
theorem witness_ScalarImmediate :
    CanIssue scalarImmediate1S 0 0 :=
  by unfold CanIssue; decide +kernel

def loads1S : State := own (thr 0 [(1, 0x1000010)])

def loads2S : State := own (thr 0 [(1, 64)])

/-- O4, Loads: 2 states, which meet the hypotheses of its clauses. -/
theorem witness_Loads :
    (CanIssue loads1S 0 0 ∧
      loads1S.thCheck 0 0 false (BitVec.ofNat 64 (loads1S.g 0 0 1) + BitVec.signExtend 64 0#12).toNat 1 1 = ThRes.ok ∧
      loads1S.thCheck 0 0 false (BitVec.ofNat 64 (loads1S.g 0 0 1) + BitVec.signExtend 64 0#12).toNat 2 2 = ThRes.ok ∧
      loads1S.thCheck 0 0 false (BitVec.ofNat 64 (loads1S.g 0 0 1) + BitVec.signExtend 64 0#12).toNat 4 4 = ThRes.ok ∧
      loads1S.thCheck 0 0 false (BitVec.ofNat 64 (loads1S.g 0 0 1) + BitVec.signExtend 64 0#12).toNat 8 8 = ThRes.ok) ∧
    (CanIssue loads2S 0 0 ∧
      loads2S.thCheck 0 0 false (BitVec.ofNat 64 (loads2S.g 0 0 1) + BitVec.signExtend 64 0#12 * 64#64).toNat 128 64 = ThRes.ok) :=
  ⟨⟨by unfold CanIssue; decide +kernel, by decide +kernel⟩, ⟨by unfold CanIssue; decide +kernel, by decide +kernel⟩⟩

def stores1S : State := thr 0 [(1, 0x1003FF8), (3, 0x1234567890)]

def stores2S : State := own (thr 0 [(1, 64), (3, 0x1234567890)])

/-- O5, Stores: 2 states, which meet the hypotheses of its clauses. -/
theorem witness_Stores :
    (CanIssue stores1S 0 0 ∧
      16777216 ≤ (BitVec.ofNat 64 (stores1S.g 0 0 1) + BitVec.signExtend 64 0#12).toNat ∧
      (BitVec.ofNat 64 (stores1S.g 0 0 1) + BitVec.signExtend 64 0#12).toNat + 1 ≤ 16793600 ∧
      (BitVec.ofNat 64 (stores1S.g 0 0 1) + BitVec.signExtend 64 0#12).toNat % 1 = 0 ∧
      (BitVec.ofNat 64 (stores1S.g 0 0 1) + BitVec.signExtend 64 0#12).toNat + 2 ≤ 16793600 ∧
      (BitVec.ofNat 64 (stores1S.g 0 0 1) + BitVec.signExtend 64 0#12).toNat % 2 = 0 ∧
      (BitVec.ofNat 64 (stores1S.g 0 0 1) + BitVec.signExtend 64 0#12).toNat + 4 ≤ 16793600 ∧
      (BitVec.ofNat 64 (stores1S.g 0 0 1) + BitVec.signExtend 64 0#12).toNat % 4 = 0 ∧
      (BitVec.ofNat 64 (stores1S.g 0 0 1) + BitVec.signExtend 64 0#12).toNat + 8 ≤ 16793600 ∧
      (BitVec.ofNat 64 (stores1S.g 0 0 1) + BitVec.signExtend 64 0#12).toNat % 8 = 0) ∧
    (CanIssue stores2S 0 0 ∧
      (BitVec.ofNat 64 (stores2S.g 0 0 1) + BitVec.signExtend 64 0#12).toNat < 16777216 ∧
      stores2S.thCheck 0 0 true (BitVec.ofNat 64 (stores2S.g 0 0 1) + BitVec.signExtend 64 0#12).toNat 1 1 = ThRes.ok ∧
      (∀ k < 1, ∀ j < k, stores2S.spPlace 0 ((BitVec.ofNat 64 (stores2S.g 0 0 1) + BitVec.signExtend 64 0#12).toNat + j) ≠ stores2S.spPlace 0 ((BitVec.ofNat 64 (stores2S.g 0 0 1) + BitVec.signExtend 64 0#12).toNat + k)) ∧
      stores2S.thCheck 0 0 true (BitVec.ofNat 64 (stores2S.g 0 0 1) + BitVec.signExtend 64 0#12).toNat 2 2 = ThRes.ok ∧
      (∀ k < 2, ∀ j < k, stores2S.spPlace 0 ((BitVec.ofNat 64 (stores2S.g 0 0 1) + BitVec.signExtend 64 0#12).toNat + j) ≠ stores2S.spPlace 0 ((BitVec.ofNat 64 (stores2S.g 0 0 1) + BitVec.signExtend 64 0#12).toNat + k)) ∧
      stores2S.thCheck 0 0 true (BitVec.ofNat 64 (stores2S.g 0 0 1) + BitVec.signExtend 64 0#12).toNat 4 4 = ThRes.ok ∧
      (∀ k < 4, ∀ j < k, stores2S.spPlace 0 ((BitVec.ofNat 64 (stores2S.g 0 0 1) + BitVec.signExtend 64 0#12).toNat + j) ≠ stores2S.spPlace 0 ((BitVec.ofNat 64 (stores2S.g 0 0 1) + BitVec.signExtend 64 0#12).toNat + k)) ∧
      stores2S.thCheck 0 0 true (BitVec.ofNat 64 (stores2S.g 0 0 1) + BitVec.signExtend 64 0#12).toNat 8 8 = ThRes.ok ∧
      (∀ k < 8, ∀ j < k, stores2S.spPlace 0 ((BitVec.ofNat 64 (stores2S.g 0 0 1) + BitVec.signExtend 64 0#12).toNat + j) ≠ stores2S.spPlace 0 ((BitVec.ofNat 64 (stores2S.g 0 0 1) + BitVec.signExtend 64 0#12).toNat + k)) ∧
      (BitVec.ofNat 64 (stores2S.g 0 0 1) + BitVec.signExtend 64 0#12 * 64#64).toNat < 16777216 ∧
      stores2S.thCheck 0 0 true (BitVec.ofNat 64 (stores2S.g 0 0 1) + BitVec.signExtend 64 0#12 * 64#64).toNat 128 64 = ThRes.ok ∧
      (∀ k < 128, ∀ j < k, stores2S.spPlace 0 ((BitVec.ofNat 64 (stores2S.g 0 0 1) + BitVec.signExtend 64 0#12 * 64#64).toNat + j) ≠ stores2S.spPlace 0 ((BitVec.ofNat 64 (stores2S.g 0 0 1) + BitVec.signExtend 64 0#12 * 64#64).toNat + k))) :=
  ⟨⟨by unfold CanIssue; decide +kernel, by decide +kernel⟩, ⟨by unfold CanIssue; decide +kernel, by decide +kernel⟩⟩

def branches1S : State := thr 0 [(1, 0x1000010), (3, 0x1234567890)]

/-- O6, Branches: a state meets the hypotheses together. -/
theorem witness_Branches :
    CanIssue branches1S 0 0 :=
  by unfold CanIssue; decide +kernel

def trapping1S : State := thr 1 [(1, 0x1000)]

def trapping2S : State := thr 0 [(1, 0x1004000)]

/-- O7, Trapping: 2 states, which meet the hypotheses of its clauses. -/
theorem witness_Trapping :
    (CanIssue trapping1S 0 1 ∧
      Alone trapping1S 0 1 ∧
      (BitVec.ofNat 64 (trapping1S.g 0 1 1) + BitVec.signExtend 64 1#12).toNat + 8 ≤ 16777216 ∧
      (BitVec.ofNat 64 (trapping1S.g 0 1 1) + BitVec.signExtend 64 1#12).toNat % 2 = 1 ∧
      trapping1S.rd Reg.CLU_ARR_OWN_HOLDER ≠ 1 + 1 ∧
      trapping1S.rd Reg.CLU_SPK_OWN_HOLDER ≠ 1 + 1) ∧
    (CanIssue trapping2S 0 0 ∧
      Alone trapping2S 0 0 ∧
      16793600 ≤ (BitVec.ofNat 64 (trapping2S.g 0 0 1) + BitVec.signExtend 64 0#12).toNat) :=
  ⟨⟨by unfold CanIssue; decide +kernel, by unfold Alone; decide +kernel, by decide +kernel⟩, ⟨by unfold CanIssue; decide +kernel, by unfold Alone; decide +kernel, by decide +kernel⟩⟩

/-- O8, VectorArithmetic: 2 states, which meet the hypotheses of its clauses. -/
theorem witness_VectorArithmetic :
    (CanIssue vec 0 0 ∧
      vecFormat (0 % 16) = true ∧
      (∀ (k : Nat), elemOf (0 % 16) ≠ Elem.int k)) ∧
    (CanIssue vec 0 0 ∧
      vecFormat (12 % 16) = true ∧
      elemOf (12 % 16) = Elem.int 32) :=
  ⟨⟨by unfold CanIssue; decide +kernel, by decide +kernel, fun _ h => Elem.noConfusion h⟩, ⟨by unfold CanIssue; decide +kernel, by decide +kernel⟩⟩

def vectorSelection1S : State := vec.setP 0 0 1 0xF

/-- O9, VectorSelection: a state meets the hypotheses together. -/
theorem witness_VectorSelection :
    CanIssue vectorSelection1S 0 0 ∧
      vecFormat (16 % 16) = true ∧
      laneWidth 32 = true ∧
      31 < 1024 / 32 :=
  ⟨by unfold CanIssue; decide +kernel, by decide +kernel⟩

/-- O10, VectorConversion: 2 states, which meet the hypotheses of its clauses. -/
theorem witness_VectorConversion :
    (CanIssue vec 0 0 ∧
      cvtSrc 0 = true ∧
      cvtDst (1 % 16) = true ∧
      vecFormat (1 % 16) = true) ∧
    (CanIssue vec 0 0 ∧
      mxOk 1 6 = true) :=
  ⟨⟨by unfold CanIssue; decide +kernel, by decide +kernel⟩, ⟨by unfold CanIssue; decide +kernel, by decide +kernel⟩⟩

def streamUnits1S : State := ext (own (thr 0 [(1,64),(2,0x200000),(3,8)]))

def streamUnits2S : State := ext (ownBy 5 (thr 0 [(1,64),(2,0x200000),(3,8)]))

def streamUnits3S : State := own (thr 0 [(1,64),(2,0x2000),(3,2^63+8)])

def streamUnits4S : State := ownBy 5 (thr 0 [(1,64),(2,0x2000),(3,8)])

def streamUnits5S : State := bk 128 [0,1,0,0,1,0,0,0,8,0,0,0,1,0,4,0] (ownBy 5 (thr 0 [(1,64),(2,0x200000),(3,128)]))

def streamUnits6S : State := slot { busy := true } (thr 0 [])

def streamUnits7S : State := slot { busy := true, status := 5 } (thw 0 (fun t => { t with wait := .slotDone 0 1 }) (thr 0 []))

/-- O11, StreamUnits: 7 states, which meet the hypotheses of its clauses. -/
theorem witness_StreamUnits :
    (CanIssue streamUnits1S 0 0 ∧
      ownSlot 0 1 = true ∧
      (streamUnits1S.slotOf 0 (0 / 2) (1 / 2 % 8)).busy = false ∧
      1 ≤ streamUnits1S.g 0 0 3 ∧
      streamUnits1S.g 0 0 2 % 4096 + streamUnits1S.g 0 0 3 ≤ 4096 ∧
      2097152 ≤ streamUnits1S.g 0 0 2 ∧
      streamUnits1S.gddrPassAll (streamUnits1S.thTenant 0 0) (streamUnits1S.thCtx 0 0) AccK.write (streamUnits1S.g 0 0 2) (streamUnits1S.g 0 0 3) = true ∧
      streamUnits1S.g 0 0 1 + streamUnits1S.g 0 0 3 ≤ 16777216 ∧
      streamUnits1S.spCheck 0 (5 + 0 / 2) (streamUnits1S.thTenant 0 0) false (streamUnits1S.g 0 0 1) (streamUnits1S.g 0 0 3) = SpRes.ok ∧
      streamUnits1S.g 0 0 1 + streamUnits1S.g 0 0 3 ≤ 2 ^ 20 ∧
      streamUnits1S.gddrPassAll (streamUnits1S.thTenant 0 0) (streamUnits1S.thCtx 0 0) AccK.read (streamUnits1S.g 0 0 2) (streamUnits1S.g 0 0 3) = true ∧
      streamUnits1S.gddrPoisoned (streamUnits1S.g 0 0 2) (streamUnits1S.g 0 0 3) = false) ∧
    (CanIssue streamUnits2S 0 0 ∧
      ownSlot 0 1 = true ∧
      (streamUnits2S.slotOf 0 (0 / 2) (1 / 2 % 8)).busy = false ∧
      1 ≤ streamUnits2S.g 0 0 3 ∧
      streamUnits2S.g 0 0 2 % 4096 + streamUnits2S.g 0 0 3 ≤ 4096 ∧
      2097152 ≤ streamUnits2S.g 0 0 2 ∧
      streamUnits2S.gddrPassAll (streamUnits2S.thTenant 0 0) (streamUnits2S.thCtx 0 0) AccK.read (streamUnits2S.g 0 0 2) (streamUnits2S.g 0 0 3) = true ∧
      streamUnits2S.gddrPoisoned (streamUnits2S.g 0 0 2) (streamUnits2S.g 0 0 3) = false ∧
      streamUnits2S.g 0 0 1 + streamUnits2S.g 0 0 3 ≤ 16777216 ∧
      streamUnits2S.spCheck 0 (5 + 0 / 2) (streamUnits2S.thTenant 0 0) true (streamUnits2S.g 0 0 1) (streamUnits2S.g 0 0 3) = SpRes.ok ∧
      (∀ k < streamUnits2S.g 0 0 3, ∀ j < k, streamUnits2S.spPlace 0 (streamUnits2S.g 0 0 1 + j) ≠ streamUnits2S.spPlace 0 (streamUnits2S.g 0 0 1 + k))) ∧
    (CanIssue streamUnits3S 0 0 ∧
      ownSlot 0 1 = true ∧
      (streamUnits3S.slotOf 0 (0 / 2) (1 / 2 % 8)).busy = false ∧
      streamUnits3S.g 0 0 1 + streamUnits3S.g 0 0 3 % 2 ^ 63 ≤ 16777216 ∧
      streamUnits3S.g 0 0 1 < 16777216 ∧
      streamUnits3S.g 0 0 2 + streamUnits3S.g 0 0 3 % 2 ^ 63 ≤ 2 ^ 20 ∧
      streamUnits3S.g 0 0 3 / 2 ^ 63 % 2 = 1 ∧
      streamUnits3S.spCheck 0 (5 + 0 / 2) (streamUnits3S.thTenant 0 0) false (streamUnits3S.g 0 0 1) (streamUnits3S.g 0 0 3 % 2 ^ 63) = SpRes.ok) ∧
    (CanIssue streamUnits4S 0 0 ∧
      ownSlot 0 1 = true ∧
      (streamUnits4S.slotOf 0 (0 / 2) (1 / 2 % 8)).busy = false ∧
      streamUnits4S.g 0 0 1 + streamUnits4S.g 0 0 3 % 2 ^ 63 ≤ 16777216 ∧
      streamUnits4S.g 0 0 1 < 16777216 ∧
      streamUnits4S.g 0 0 2 + streamUnits4S.g 0 0 3 % 2 ^ 63 ≤ 2 ^ 20 ∧
      streamUnits4S.g 0 0 3 / 2 ^ 63 % 2 = 0 ∧
      streamUnits4S.spCheck 0 (5 + 0 / 2) (streamUnits4S.thTenant 0 0) true (streamUnits4S.g 0 0 1) (streamUnits4S.g 0 0 3 % 2 ^ 63) = SpRes.ok ∧
      (∀ k < streamUnits4S.g 0 0 3 % 2 ^ 63, ∀ j < k, streamUnits4S.spPlace 0 (streamUnits4S.g 0 0 1 + j) ≠ streamUnits4S.spPlace 0 (streamUnits4S.g 0 0 1 + k))) ∧
    (CanIssue streamUnits5S 0 0 ∧
      ownSlot 0 1 = true ∧
      (streamUnits5S.slotOf 0 (0 / 2) (1 / 2 % 8)).busy = false ∧
      streamUnits5S.g 0 0 3 + 16 ≤ 16777216 ∧
      streamUnits5S.g 0 0 3 % 16 = 0 ∧
      streamUnits5S.spCheck 0 (5 + 0 / 2) (streamUnits5S.thTenant 0 0) false (streamUnits5S.g 0 0 3) 16 = SpRes.ok ∧
      (gatherOf (streamUnits5S.spRead 0 (streamUnits5S.g 0 0 3) 16)).ok = true ∧
      streamUnits5S.g 0 0 1 < 16777216 ∧
      streamUnits5S.g 0 0 1 + (gatherOf (streamUnits5S.spRead 0 (streamUnits5S.g 0 0 3) 16)).rows * (gatherOf (streamUnits5S.spRead 0 (streamUnits5S.g 0 0 3) 16)).row ≤ 16777216 ∧
      streamUnits5S.spCheck 0 (5 + 0 / 2) (streamUnits5S.thTenant 0 0) false (gatherOf (streamUnits5S.spRead 0 (streamUnits5S.g 0 0 3) 16)).list ((gatherOf (streamUnits5S.spRead 0 (streamUnits5S.g 0 0 3) 16)).rows * (gatherOf (streamUnits5S.spRead 0 (streamUnits5S.g 0 0 3) 16)).width) = SpRes.ok) ∧
    (CanIssue streamUnits6S 0 0 ∧
      ownSlot 0 1 = true ∧
      (streamUnits6S.slotOf 0 (0 / 2) (1 / 2 % 8)).busy = true) ∧
    ((streamUnits7S.slotOf 0 (0 / 2) (1 / 2 % 8)).busy = true ∧
      (streamUnits7S.slotOf 0 (0 / 2) (1 / 2 % 8)).todo = [] ∧
      (streamUnits7S.slotOf 0 (0 / 2) (1 / 2 % 8)).out = [] ∧
      (streamUnits7S.slotOf 0 (0 / 2) (1 / 2 % 8)).parked = false ∧
      0 = 0 / 2 ∧
      0 = 1 / 2 % 8 ∧
      (streamUnits7S.thrOf 0 0).wait = Wait.slotDone 0 1 ∧
      (streamUnits7S.thrOf 0 (0 + 1)).wait = Wait.none) :=
  ⟨⟨by unfold CanIssue; decide +kernel, by decide +kernel⟩, ⟨by unfold CanIssue; decide +kernel, by decide +kernel⟩, ⟨by unfold CanIssue; decide +kernel, by decide +kernel⟩, ⟨by unfold CanIssue; decide +kernel, by decide +kernel⟩, ⟨by unfold CanIssue; decide +kernel, by decide +kernel⟩, ⟨by unfold CanIssue; decide +kernel, by decide +kernel⟩, by decide +kernel⟩

def cadenceGroup1S : State := (thr 0 [(1,5)]).wr Reg.CAD_STATUS_STATE 0 1

def cadenceGroup2S : State := (thr 0 [(1,0)]).wr Reg.CAD_STATUS_STATE 0 2

def cadenceGroup3S : State := (thr 0 [(1,5)]).wr Reg.CAD_STATUS_STATE 0 2

def cadenceGroup4S : State := { thw 0 (fun t => { t with wait := .cadence 5 2 }) ((thr 0 [(1,5)]).wr Reg.CAD_STATUS_STATE 0 2) with armed := [{ kind := .cwait 0 0, at_ := 5 }] }

def cadenceGroup6S : State := pel { cores := 1, op := some opn } ((thr 0 [(1,100000000)]).wr Reg.CAD_STATUS_STATE 0 2)

def cadenceGroup7S : State := pel { cores := 1, op := some opn } ((thr 0 [(1,14)]).wr Reg.CAD_STATUS_STATE 0 2)

/-- O12, CadenceGroup: 6 states, which meet the hypotheses of its clauses. -/
theorem witness_CadenceGroup :
    (CanIssue cadenceGroup1S 0 0 ∧
      cadenceGroup1S.rd Reg.CAD_STATUS_STATE < 2 ∧
      cadenceGroup1S.pelOn 0 0 = none) ∧
    (CanIssue cadenceGroup2S 0 0 ∧
      2 ≤ cadenceGroup2S.rd Reg.CAD_STATUS_STATE ∧
      cadenceGroup2S.g 0 0 1 ≤ cadenceGroup2S.now) ∧
    (CanIssue cadenceGroup3S 0 0 ∧
      2 ≤ cadenceGroup3S.rd Reg.CAD_STATUS_STATE ∧
      cadenceGroup3S.now < cadenceGroup3S.g 0 0 1) ∧
    (cadenceGroup4S.armedAt (EvKind.cwait 0 0) = some 5 ∧
      cadenceGroup4S.isNext (EvKind.cwait 0 0) 5 = true ∧
      cadenceGroup4S.rd Reg.CAD_STATUS_STATE ≠ 4 ∧
      cadenceGroup4S.resting = false ∧
      (cadenceGroup4S.thrOf 0 0).wait = Wait.cadence 5 2) ∧
    (CanIssue cadenceGroup6S 0 0 ∧
      cadenceGroup6S.pelOn 0 0 = some 0 ∧
      (cadenceGroup6S.pelOf 0).op = some opn ∧
      opn.launchAt ≠ 0 ∧
      opn.stepCt ≠ 0 ∧
      cadenceGroup6S.mayArm (cadenceGroup6S.g 0 0 1 + opn.shiftOf ((cadenceGroup6S.g 0 0 1 - opn.base) / opn.stepCt - 1)) = true) ∧
    (CanIssue cadenceGroup7S 0 0 ∧
      cadenceGroup7S.pelOn 0 0 = some 0 ∧
      (cadenceGroup7S.pelOf 0).op = some opn ∧
      opn.launchAt ≠ 0 ∧
      opn.stepCt ≠ 0 ∧
      cadenceGroup7S.mayArm (cadenceGroup7S.g 0 0 1 + opn.shiftOf ((cadenceGroup7S.g 0 0 1 - opn.base) / opn.stepCt - 1)) = false) :=
  ⟨⟨by unfold CanIssue; decide +kernel, by decide +kernel⟩, ⟨by unfold CanIssue; decide +kernel, by decide +kernel⟩, ⟨by unfold CanIssue; decide +kernel, by decide +kernel⟩, by decide +kernel, ⟨by unfold CanIssue; decide +kernel, by decide +kernel⟩, ⟨by unfold CanIssue; decide +kernel, by decide +kernel⟩⟩

def fencesBarriersSignals1S : State := thr 0 []

def fencesBarriersSignals2S : State := slot { busy := true } (thr 0 [])

def fencesBarriersSignals4S : State := thw 0 (fun t => { t with wait := .fence 1 }) (thr 0 [])

def fencesBarriersSignals5S : State := thw 0 (fun t => { t with wait := .barrier 1 }) (thw 1 (fun t => { t with wait := .barrier 1 }) (thr 0 []))

def fencesBarriersSignals6S : State := pel { cores := 1, op := some opn } (thr 0 [])

def fencesBarriersSignals7S : State := pel { cores := 1, op := some opn } (thr 0 [])

def fencesBarriersSignals8S : State := thr 1 []

/-- O13, FencesBarriersSignals: 7 states, which meet the hypotheses of its clauses. -/
theorem witness_FencesBarriersSignals :
    (CanIssue fencesBarriersSignals1S 0 0 ∧
      Nat.testBit 1 4 = false ∧
      (Nat.testBit 1 3 = true → (fencesBarriersSignals1S.spk 0).trapDue = false) ∧
      fencesBarriersSignals1S.fenceHolds 0 0 1 = true ∧
      0 ∉ barrierThreads 1) ∧
    (CanIssue fencesBarriersSignals2S 0 0 ∧
      Nat.testBit 2 4 = false ∧
      (Nat.testBit 2 3 = true → (fencesBarriersSignals2S.spk 0).trapDue = false) ∧
      fencesBarriersSignals2S.fenceHolds 0 0 2 = false) ∧
    ((fencesBarriersSignals4S.thrOf 0 0).wait = Wait.fence 1 ∧
      Nat.testBit 1 4 = false ∧
      (Nat.testBit 1 3 = true → (fencesBarriersSignals4S.spk 0).trapDue = false) ∧
      fencesBarriersSignals4S.fenceHolds 0 0 1 = true) ∧
    ((∀ j ∈ barrierThreads 1, (fencesBarriersSignals5S.thrOf 0 j).wait = Wait.barrier (1 % 16))) ∧
    (CanIssue fencesBarriersSignals6S 0 0 ∧
      fencesBarriersSignals6S.pelOn 0 0 = some 0 ∧
      (fencesBarriersSignals6S.pelOf 0).op = some opn) ∧
    (CanIssue fencesBarriersSignals7S 0 0 ∧
      fencesBarriersSignals7S.pelOn 0 0 = some 0 ∧
      (fencesBarriersSignals7S.pelOf 0).op = some opn) ∧
    (CanIssue fencesBarriersSignals8S 0 1 ∧
      1 ∈ barrierThreads 1) :=
  ⟨⟨by unfold CanIssue; decide +kernel, by decide +kernel⟩, ⟨by unfold CanIssue; decide +kernel, by decide +kernel⟩, by decide +kernel, by decide +kernel, ⟨by unfold CanIssue; decide +kernel, by decide +kernel⟩, ⟨by unfold CanIssue; decide +kernel, by decide +kernel⟩, ⟨by unfold CanIssue; decide +kernel, by decide +kernel⟩⟩

def systemInstructions1S : State := thr 0 [(1,5)]

def systemInstructions2S : State := put (thr 0 [(1,5)]) [(Reg.CLU_ARR_OWN_HOLDER, 0, 2)]

def systemInstructions3S : State := put (thr 0 [(1,5)]) [(Reg.CLU_SPK_OWN_HOLDER, 0, 1)]

def systemInstructions4S : State := clu (fun x => { x with work := [item 0] }) (thr 0 [(1,5)])

def systemInstructions4W : Work := item 0

def systemInstructions5S : State := thw 0 (fun t => { t with work := some (item 1) }) (thr 0 [(1,5)])

def systemInstructions5W : Work := item 1

/-- O14, SystemInstructions: 5 states, which meet the hypotheses of its clauses. -/
theorem witness_SystemInstructions :
    (CanIssue systemInstructions1S 0 0 ∧
      2048 % 4096 / 1024 = 2 ∧
      (0 = 0 ∧ Reg.CLU_ARR_OWN_HOLDER = Reg.CLU_ARR_OWN_HOLDER ∧ Reg.CLU_ARR_OWN_TENANT = Reg.CLU_ARR_OWN_TENANT ∨ 0 = 1 ∧ Reg.CLU_ARR_OWN_HOLDER = Reg.CLU_SPK_OWN_HOLDER ∧ Reg.CLU_ARR_OWN_TENANT = Reg.CLU_SPK_OWN_TENANT) ∧
      (systemInstructions1S.rd Reg.CLU_ARR_OWN_HOLDER = 0 ∨ systemInstructions1S.rd Reg.CLU_ARR_OWN_HOLDER = 0 + 1) ∧
      (0 % 2 = 0 ∨ systemInstructions1S.xformOn 0 0 = none)) ∧
    (CanIssue systemInstructions2S 0 0 ∧
      (0 = 0 ∧ Reg.CLU_ARR_OWN_HOLDER = Reg.CLU_ARR_OWN_HOLDER ∧ Reg.CLU_ARR_OWN_TENANT = Reg.CLU_ARR_OWN_TENANT ∨ 0 = 1 ∧ Reg.CLU_ARR_OWN_HOLDER = Reg.CLU_SPK_OWN_HOLDER ∧ Reg.CLU_ARR_OWN_TENANT = Reg.CLU_SPK_OWN_TENANT) ∧
      systemInstructions2S.rd Reg.CLU_ARR_OWN_HOLDER ≠ 0 ∧
      systemInstructions2S.rd Reg.CLU_ARR_OWN_HOLDER ≠ 0 + 1) ∧
    (CanIssue systemInstructions3S 0 0 ∧
      (1 = 0 ∧ Reg.CLU_SPK_OWN_HOLDER = Reg.CLU_ARR_OWN_HOLDER ∧ Reg.CLU_SPK_OWN_TENANT = Reg.CLU_ARR_OWN_TENANT ∨ 1 = 1 ∧ Reg.CLU_SPK_OWN_HOLDER = Reg.CLU_SPK_OWN_HOLDER ∧ Reg.CLU_SPK_OWN_TENANT = Reg.CLU_SPK_OWN_TENANT) ∧
      systemInstructions3S.rd Reg.CLU_SPK_OWN_HOLDER = 0 + 1 ∧
      (systemInstructions3S.arr 0).queue = [] ∧
      (systemInstructions3S.spk 0).queue = []) ∧
    (CanIssue systemInstructions4S 0 0 ∧
      (systemInstructions4S.thrOf 0 0).work = none ∧
      (systemInstructions4S.cluOf 0).work.head? = some systemInstructions4W ∧
      systemInstructions4W.hub = some 0) ∧
    (CanIssue systemInstructions5S 0 0 ∧
      (systemInstructions5S.thrOf 0 0).work = some systemInstructions5W ∧
      systemInstructions5W.kind = 1 ∧
      systemInstructions5W.hub = some 0) :=
  ⟨⟨by unfold CanIssue; decide +kernel, by decide +kernel, .inl ⟨rfl, rfl, rfl⟩, by decide +kernel⟩, ⟨by unfold CanIssue; decide +kernel, .inl ⟨rfl, rfl, rfl⟩, by decide +kernel⟩, ⟨by unfold CanIssue; decide +kernel, .inr ⟨rfl, rfl, rfl⟩, by decide +kernel⟩, ⟨by unfold CanIssue; decide +kernel, by decide +kernel⟩, ⟨by unfold CanIssue; decide +kernel, by decide +kernel⟩⟩

def chainring1S : State := put (thr 0 [(1,0x1111),(2,1),(3,1),(4,128)]) [(Reg.CLU_ARR_OWN_HOLDER, 0, 1)]

def chainring1Y : CrCfg := ⟨bits 0x1111 0 4, bits 0x1111 4 4, bits 0x1111 8 4, bit 0x1111 12, bit 0x1111 13⟩

def chainring2S : State := clu (fun x => { x with arr := { kOf := [(0, 1)] } }) (put (thr 0 [(1,64),(2,1),(3,1)]) [(Reg.CLU_ARR_OWN_HOLDER, 0, 1)])

def chainring3S : State := clu (fun x => { x with arr := { queue := [.mul { aFmt := 1 } 0 1 0 false] } }) (ownBy 9 (thr 0 []))

def chainring3X : CrCfg := { aFmt := 1 }

def chainring3Rest : List CrCmd := ([] : List CrCmd)

def chainring4S : State := clu (fun x => { x with arr := { queue := [.load { aFmt := 1 } 0 0 1] } }) (ownBy 9 (thr 0 []))

def chainring4X : CrCfg := { aFmt := 1 }

def chainring4Rest : List CrCmd := ([] : List CrCmd)

def chainring5S : State := clu (fun x => { x with arr := { queue := [.store {} 0 true], failed := true } }) (put (ownBy 9 (thr 0 [])) [(Reg.CLU_ARR_OWN_HOLDER, 0, 1)])

def chainring5X : CrCfg := ({} : CrCfg)

def chainring5Rest : List CrCmd := ([] : List CrCmd)

/-- O15, Chainring: 5 states, which meet the hypotheses of its clauses. -/
theorem witness_Chainring :
    (CanIssue chainring1S 0 0 ∧
      chainring1S.rd Reg.CLU_ARR_OWN_HOLDER = 0 + 1 ∧
      chainring1Y = { aFmt := bits (chainring1S.g 0 0 1) 0 4, bFmt := bits (chainring1S.g 0 0 1) 4 4, outFmt := bits (chainring1S.g 0 0 1) 8 4, round := bit (chainring1S.g 0 0 1) 12, sat := bit (chainring1S.g 0 0 1) 13 } ∧
      chainring1Y.ok = true ∧
      chainring1S.g 0 0 1 < 2 ^ 14 ∧
      chainring1S.g 0 0 2 ≤ 1 ∧
      kOk (chainring1S.arr 0).cfg.bFmt (chainring1S.g 0 0 3) = true ∧
      chainring1S.g 0 0 1 < 16777216 ∧
      chainring1S.g 0 0 1 + tileBytes (chainring1S.arr 0).cfg.bFmt (chainring1S.g 0 0 3) ≤ 16777216 ∧
      chainring1S.g 0 0 1 + 16384 * (elemBits (chainring1S.arr 0).cfg.outFmt / 8) ≤ 16777216) ∧
    (CanIssue chainring2S 0 0 ∧
      chainring2S.rd Reg.CLU_ARR_OWN_HOLDER = 0 + 1 ∧
      kOk (chainring2S.arr 0).cfg.aFmt (chainring2S.g 0 0 3 % 256) = true ∧
      Tbl.get 0 (chainring2S.g 0 0 3 / 256 % 2) (chainring2S.arr 0).kOf = chainring2S.g 0 0 3 % 256 ∧
      chainring2S.g 0 0 1 < 16777216 ∧
      chainring2S.g 0 0 1 + tileBytes (chainring2S.arr 0).cfg.aFmt (chainring2S.g 0 0 3 % 256) ≤ 16777216) ∧
    (chainring3S.rd Reg.ARR_STATUS_STATE = 0 ∧
      (chainring3S.arr 0).queue = CrCmd.mul chainring3X 0 1 0 false :: chainring3Rest ∧
      (chainring3S.arr 0).release = false ∧
      chainring3S.spCheck 0 9 (chainring3S.rd Reg.CLU_ARR_OWN_TENANT) false 0 (tileBytes chainring3X.aFmt 1) = SpRes.ok ∧
      chainring3S.spPoisoned 0 0 (tileBytes chainring3X.aFmt 1) = false) ∧
    (chainring4S.rd Reg.ARR_STATUS_STATE = 0 ∧
      (chainring4S.arr 0).queue = CrCmd.load chainring4X 0 0 1 :: chainring4Rest ∧
      (chainring4S.arr 0).release = false ∧
      chainring4S.spCheck 0 9 (chainring4S.rd Reg.CLU_ARR_OWN_TENANT) false 0 (tileBytes chainring4X.bFmt 1) = SpRes.ok ∧
      chainring4S.spPoisoned 0 0 (tileBytes chainring4X.bFmt 1) = false) ∧
    (chainring5S.rd Reg.ARR_STATUS_STATE = 0 ∧
      (chainring5S.arr 0).queue = CrCmd.store chainring5X 0 true :: chainring5Rest ∧
      (chainring5S.arr 0).failed = true ∧
      (chainring5S.arr 0).release = false ∧
      1 ≤ chainring5S.rd Reg.CLU_ARR_OWN_HOLDER ∧
      Alone chainring5S 0 (chainring5S.rd Reg.CLU_ARR_OWN_HOLDER - 1)) :=
  ⟨⟨by unfold CanIssue; decide +kernel, by decide +kernel⟩, ⟨by unfold CanIssue; decide +kernel, by decide +kernel⟩, by decide +kernel, by decide +kernel, ⟨by decide +kernel, by decide +kernel, by decide +kernel, by decide +kernel, by decide +kernel, by unfold Alone; decide +kernel⟩⟩

def sprocket1S : State := put (thr 0 [(1,0x3111),(2,0x20004),(3,128)]) [(Reg.CLU_SPK_OWN_HOLDER, 0, 1)]

def sprocket1Y : SpCfg := { inFmt := bits 0x3111 0 4, in2 := bits 0x3111 4 4, outFmt := bits 0x3111 8 4, round := bit 0x3111 12, sat := bit 0x3111 13 }

def sprocket2S : State := put (thr 0 [(1,0x3111),(2,0x20004),(3,128)]) [(Reg.CLU_SPK_OWN_HOLDER, 0, 1)]

def sprocket3S : State := clu (fun x => { x with spk := { queue := [.clr 1 2] } }) State.reset

def sprocket3Rest : List SpCmd := []

def sprocket4S : State := clu (fun x => { x with spk := { queue := [.exp 1 1 0 false true], accs := [(1, { x := 1 })] } }) (ownBy 10 State.reset)

def sprocket4Rest : List SpCmd := []

/-- O16, Sprocket: 4 states, which meet the hypotheses of its clauses. -/
theorem witness_Sprocket :
    (CanIssue sprocket1S 0 0 ∧
      sprocket1S.rd Reg.CLU_SPK_OWN_HOLDER = 0 + 1 ∧
      sprocket1Y = { inFmt := bits (sprocket1S.g 0 0 1) 0 4, in2 := bits (sprocket1S.g 0 0 1) 4 4, outFmt := bits (sprocket1S.g 0 0 1) 8 4, round := bit (sprocket1S.g 0 0 1) 12, sat := bit (sprocket1S.g 0 0 1) 13 } ∧
      sprocket1Y.ok = true ∧
      1 ≤ sprocket1S.g 0 0 2 / 2 ^ 16 % 2 ^ 14 ∧
      sprocket1S.g 0 0 2 % 2 ^ 14 + sprocket1S.g 0 0 2 / 2 ^ 16 % 2 ^ 14 ≤ 12288 ∧
      (isMx (sprocket1S.spCfg 0).inFmt = true → sprocket1S.g 0 0 2 / 2 ^ 16 % 2 ^ 14 % 32 = 0) ∧
      sprocket1S.g 0 0 1 < 16777216 ∧
      sprocket1S.g 0 0 1 + elemBytes (sprocket1S.spCfg 0).inFmt (sprocket1S.g 0 0 2 / 2 ^ 16 % 2 ^ 14) ≤ 16777216 ∧
      sprocket1S.g 0 0 1 + 40 * (sprocket1S.g 0 0 2 / 2 ^ 16 % 2 ^ 14) ≤ 16777216 ∧
      sprocket1S.g 0 0 1 + sprocket1S.g 0 0 2 / 2 ^ 16 % 2 ^ 14 * elemBits (sprocket1S.spCfg 0).outFmt / 8 ≤ 16777216) ∧
    (CanIssue sprocket2S 0 0 ∧
      sprocket2S.rd Reg.CLU_SPK_OWN_HOLDER = 0 + 1 ∧
      1 ≤ sprocket2S.g 0 0 2 / 2 ^ 16 % 2 ^ 14 ∧
      sprocket2S.g 0 0 2 % 2 ^ 14 + sprocket2S.g 0 0 2 / 2 ^ 16 % 2 ^ 14 ≤ 12288 ∧
      sprocket2S.g 0 0 1 + 8 ≤ 16777216) ∧
    ((sprocket3S.spk 0).release = false ∧
      (sprocket3S.spk 0).queue = SpCmd.clr 1 2 :: sprocket3Rest) ∧
    ((sprocket4S.spk 0).release = false ∧
      (sprocket4S.spk 0).queue = SpCmd.exp 1 1 0 false true :: sprocket4Rest ∧
      sprocket4S.anyPoison 0 1 1 = false ∧
      0 + 40 * 1 ≤ 16777216 ∧
      sprocket4S.spCheck 0 10 (sprocket4S.rd Reg.CLU_SPK_OWN_TENANT) true 0 (40 * 1) = SpRes.ok ∧
      (∀ k < 40 * 1, ∀ j < k, sprocket4S.spPlace 0 (0 + j) ≠ sprocket4S.spPlace 0 (0 + k))) :=
  ⟨⟨by unfold CanIssue; decide +kernel, by decide +kernel⟩, ⟨by unfold CanIssue; decide +kernel, by decide +kernel⟩, by decide +kernel, by decide +kernel⟩

def clusterControl1S : State := put State.reset [(Reg.CLU_CTRL_CORE_EN, 0, 15), (Reg.CLU_STATUS_STATE, 0, 1)]

def clusterControl2S : State := put State.reset [(Reg.CLU_CTRL_CORE_EN, 0, 15), (Reg.CLU_STATUS_STATE, 0, 1), (Reg.CLU_THR_CTRL_RUN, ix 0 1, 1)]

def clusterControl3S : State := put State.reset [(Reg.CLU_CTRL_CORE_EN, 0, 15), (Reg.CLU_STATUS_STATE, 0, 1)]

def clusterControl4S : State := thw 1 (fun t => { t with zeroing := true }) (put State.reset [(Reg.CLU_CTRL_CORE_EN, 0, 15), (Reg.CLU_STATUS_STATE, 0, 1), (Reg.CLU_THR_CTRL_RUN, ix 0 1, 1)])

def clusterControl6S : State := clu (fun x => { x with handing := [(0, (1, 2, 3))] }) (put State.reset [(Reg.CLU_BANK_OWN_ZEROING, ix 0 0, 1)])

/-- O17, ClusterControl: 5 states, which meet the hypotheses of its clauses. -/
theorem witness_ClusterControl :
    (clusterControl1S.rd Reg.CLU_THR_CTRL_RUN (ix 0 1) = 0 ∧
      67043329 / 2 ^ 16 % 2 ^ 10 = clusterControl1S.thTenant 0 1 ∧
      67043329 / 2 ^ 32 % 2 ^ 16 = clusterControl1S.thCtx 0 1 ∧
      (clusterControl1S.thrOf 0 1).zeroing = false ∧
      clusterControl1S.coreServes 0 (1 / 2) = true ∧
      (∀ (u k : Nat), (clusterControl1S.slotOf 0 u k).todo = []) ∧
      67043329 / 2 ^ 16 % 2 ^ 10 = clusterControl1S.rd Reg.CLU_BANK_OWN_TENANT (ix 0 0) ∧
      clusterControl1S.rd Reg.CLU_BANK_OWN_ZEROING (ix 0 0) = 0) ∧
    (clusterControl2S.rd Reg.CLU_THR_CTRL_RUN (ix 0 1) = 1 ∧
      (∀ (u k : Nat), (clusterControl2S.slotOf 0 u k).todo = []) ∧
      0 / 2 ^ 16 % 2 ^ 10 ≠ clusterControl2S.rd Reg.CLU_BANK_OWN_TENANT (ix 0 0)) ∧
    (clusterControl3S.rd Reg.CLU_THR_CTRL_RUN (ix 0 1) = 0 ∧
      (196608 / 2 ^ 16 % 2 ^ 10 ≠ clusterControl3S.thTenant 0 1 ∨ 196608 / 2 ^ 32 % 2 ^ 16 ≠ clusterControl3S.thCtx 0 1)) ∧
    ((clusterControl4S.thrOf 0 1).zeroing = true ∧
      clusterControl4S.rd Reg.CLU_THR_CTRL_RUN (ix 0 1) = 1 ∧
      clusterControl4S.coreServes 0 (1 / 2) = true) ∧
    ((∀ (u k : Nat), (clusterControl6S.slotOf 0 u k).todo = []) ∧
      clusterControl6S.rd Reg.CLU_BANK_OWN_ZEROING (ix 0 0) = 1 ∧
      Tbl.get (0, 0, 1023) 0 (clusterControl6S.cluOf 0).handing = (1, 2, 3)) :=
  ⟨⟨by decide +kernel, by decide +kernel, by decide +kernel, by decide +kernel, by decide +kernel, fun _ _ => rfl, by decide +kernel⟩, ⟨by decide +kernel, fun _ _ => rfl, by decide +kernel⟩, by decide +kernel, by decide +kernel, ⟨fun _ _ => rfl, by decide +kernel⟩⟩

def resets1S : State := put (ext { State.reset with gddr := [(5, 7), (2097153, 9)], sqs := [(0, {})] }) [(Reg.TEN_EXT0_KEEP, 1, 1), (Reg.FWP_STATUS_STATE, 0, 1), (Reg.CAD_COUNT_COUNT, 0, 5)]

def resets2S : State := pw (fun p => { p with rst := 1 }) State.reset

def resets3S : State := mg (fun m => { m with flash := some [] }) (pw (fun p => { p with rst := 2 }) State.reset)

def resets3Img : List Byte := []

/-- O18, Resets: 3 states, which meet the hypotheses of its clauses. -/
theorem witness_Resets :
    (resets1S.board.pwr.rst = 0 ∧
      resets1S.board.pwr.rst < 2) ∧
    (resets2S.board.pwr.rst = 1) ∧
    (resets3S.board.pwr.rst = 2 ∧
      2 ≤ resets3S.board.pwr.rst ∧
      resets3S.rd Reg.LCS_STATE_PENDING = 0 ∧
      resets3S.mgmt.flash = some resets3Img) :=
  ⟨by decide +kernel, by decide +kernel, by decide +kernel⟩

def powerUpAndRecovery1S : State := mg (fun m => { m with image := [1], recovery := some {} }) (put State.reset [(Reg.MBX_KILURN_STATE, 0, 0)])

def powerUpAndRecovery1Data : List Byte := [1]

def powerUpAndRecovery1R : Recovery := {}

def powerUpAndRecovery2S : State := mg (fun m => { m with recovery := some { responder := some 1, len := 2 } }) (put State.reset [(Reg.MBX_KILURN_STATE, 0, 2)])

def powerUpAndRecovery2R : Recovery := { responder := some 1, len := 2 }

def powerUpAndRecovery3S : State := pw (fun p => { p with aux := false, off := true }) (mg (fun m => { m with recovery := some { responder := some 1, len := 2, retries := 8 } }) (put State.reset [(Reg.MBX_KILURN_STATE, 0, 2)]))

def powerUpAndRecovery3R : Recovery := { responder := some 1, len := 2, retries := 8 }

def powerUpAndRecovery4S : State := pw (fun p => { p with en := false, off := true, seq := .idle }) State.reset

def powerUpAndRecovery5S : State := pw (fun p => { p with off := true, seq := .waitVin }) State.reset

def powerUpAndRecovery6S : State := pw (fun p => { p with off := true, seq := .raising 4 }) State.reset

def powerUpAndRecovery7S : State := pw (fun p => { p with off := true, seq := .raising 5 }) State.reset

/-- O19, PowerUpAndRecovery: 7 states, which meet the hypotheses of its clauses. -/
theorem witness_PowerUpAndRecovery :
    (powerUpAndRecovery1S.board.pwr.aux = true ∧
      powerUpAndRecovery1S.board.pwr.off = false ∧
      powerUpAndRecovery1S.board.pwr.refclk = true ∧
      powerUpAndRecovery1S.rd Reg.MBX_KILURN_CORES_FENCED ≠ 15 ∧
      powerUpAndRecovery1S.rd Reg.MBX_KILURN_STATE = 0 ∧
      powerUpAndRecovery1S.mgmt.image ≠ [] ∧
      powerUpAndRecovery1S.board.pwr.rst < 2 ∧
      powerUpAndRecovery1S.mgmt.recovery = some powerUpAndRecovery1R ∧
      powerUpAndRecovery1R.responder = none ∧
      1 ≤ powerUpAndRecovery1Data.length ∧
      powerUpAndRecovery1Data.length ≤ 4096 ∧
      powerUpAndRecovery1Data.length < 2) ∧
    (powerUpAndRecovery2S.rd Reg.MBX_KILURN_CORES_FENCED ≠ 15 ∧
      powerUpAndRecovery2S.board.pwr.aux = true ∧
      powerUpAndRecovery2S.rd Reg.MBX_KILURN_STATE = 2 ∧
      powerUpAndRecovery2S.mgmt.recovery = some powerUpAndRecovery2R ∧
      powerUpAndRecovery2R.responder = some 1 ∧
      1 ≠ powerUpAndRecovery2R.data.length ∧
      powerUpAndRecovery2R.retries < 8) ∧
    (powerUpAndRecovery3S.board.pwr.aux = false ∧
      powerUpAndRecovery3S.mgmt.recovery = some powerUpAndRecovery3R ∧
      powerUpAndRecovery3R.responder = some 1 ∧
      8 ≤ powerUpAndRecovery3R.retries) ∧
    (powerUpAndRecovery4S.board.pwr.en = false ∧
      powerUpAndRecovery4S.board.pwr.off = true ∧
      powerUpAndRecovery4S.board.pwr.aux = true ∧
      powerUpAndRecovery4S.board.pwr.cause ≠ 1) ∧
    (powerUpAndRecovery5S.board.pwr.seq = RailSeq.waitVin ∧
      powerUpAndRecovery5S.board.pwr.en = true) ∧
    (powerUpAndRecovery6S.board.pwr.seq = RailSeq.raising 4) ∧
    (powerUpAndRecovery7S.board.pwr.seq = RailSeq.raising 5) :=
  ⟨by decide +kernel, by decide +kernel, by decide +kernel, by decide +kernel, by decide +kernel, by decide +kernel, by decide +kernel⟩

def powerRequests3S : State := put State.reset [(Reg.QP_MODULE_OUT_COUNT, 0, 1)]

def powerRequests6S : State := put State.reset [(Reg.PWR_STATUS_STATE, 0, 1), (Reg.PWR_STATUS_STEP, 0, 4), (Reg.PWR_RAIL_SET_MV, 0, 725)]

def powerRequests7S : State := pw (fun p => { p with entry := some (3, 1) }) (put State.reset [(Reg.PWR_STATUS_STATE, 0, 4)])

/-- O20, PowerRequests: 5 states, which meet the hypotheses of its clauses. -/
theorem witness_PowerRequests :
    (State.reset.board.pwr.off = false ∧
      State.reset.rd Reg.PWR_STATUS_STATE < 2 ∧
      State.reset.board.pwr.entry = none ∧
      (Instr.pwrReqCrocus = Instr.pwrReqCrocus ∧ 2 = 2 ∨ Instr.pwrReqCrocus = Instr.pwrReqRest ∧ 2 = 3) ∧
      (State.reset.rd Reg.QP_MODULE_OUT_COUNT 0 = 0 ∧ State.reset.pels = [] ∧ State.reset.armedAt .swap = none ∧ (∀ t, State.reset.rd Reg.TEN_SLICE0_STATE t = 0) ∧ State.reset.rd Reg.TEN_WIPE_STATUS_BUSY 0 ≠ 1 ∧ State.reset.rd Reg.FWP_STATUS_STATE 0 = 0 ∧ State.reset.board.res.moves = [] ∧ State.reset.board.res.copies = [] ∧ State.reset.rd Reg.MEM_COPY_ACTIVE 0 ≠ 1 ∧ State.reset.board.pwr.dips = []) ∧
      State.reset.rd Reg.PWR_PMBUS_PENDING % 2 = 0 ∧
      State.reset.board.pwr.raising = none ∧
      State.reset.board.pwr.wants = [] ∧
      State.reset.rd Reg.PWR_STATUS_STATE = 0 ∧
      State.reset.rd Reg.PWR_STATUS_STEP = 8 ∧
      State.reset.rd Reg.PWR_RAIL_SET_MV = 800) ∧
    (State.reset.board.pwr.off = false ∧
      State.reset.rd Reg.PWR_STATUS_STATE < 2 ∧
      State.reset.board.pwr.entry = none ∧
      (Instr.pwrReqRest = Instr.pwrReqCrocus ∧ 3 = 2 ∨ Instr.pwrReqRest = Instr.pwrReqRest ∧ 3 = 3)) ∧
    (powerRequests6S.board.pwr.off = false ∧
      powerRequests6S.rd Reg.PWR_STATUS_STATE < 2 ∧
      powerRequests6S.board.pwr.entry = none ∧
      powerRequests6S.rd Reg.PWR_PMBUS_PENDING % 2 = 0 ∧
      powerRequests6S.board.pwr.raising = none ∧
      powerRequests6S.board.pwr.wants = [] ∧
      powerRequests6S.rd Reg.PWR_STATUS_STATE = 1 ∧
      powerRequests6S.rd Reg.PWR_STATUS_STEP = 4 ∧
      powerRequests6S.rd Reg.PWR_RAIL_SET_MV = 725) ∧
    (powerRequests7S.board.pwr.off = false ∧
      powerRequests7S.board.pwr.entry = some (3, 1)) ∧
    (powerRequests3S.board.pwr.off = false ∧
      powerRequests3S.rd Reg.PWR_STATUS_STATE < 2 ∧
      powerRequests3S.board.pwr.entry = none ∧
      ¬powerRequests3S.rd Reg.QP_MODULE_OUT_COUNT = 0) :=
  ⟨⟨by decide +kernel, by decide +kernel, by decide +kernel, by decide +kernel, ⟨by decide +kernel, rfl, by decide +kernel, fun _ => rfl, by decide +kernel, by decide +kernel, rfl, rfl, by decide +kernel, rfl⟩, by decide +kernel⟩, by decide +kernel, by decide +kernel, by decide +kernel, by decide +kernel⟩

def wakes1S : State := put State.reset [(Reg.PWR_STATUS_STATE, 0, 3)]

def wakes2S : State := pw (fun p => { p with dips := [{ source := 0, minMv := 4000, logged := true, resting := true }] }) (put State.reset [(Reg.PWR_STATUS_STATE, 0, 3)])

def wakes3S : State := put State.reset [(Reg.PWR_STATUS_STATE, 0, 2), (Reg.CAD_STATUS_STATE, 0, 0)]

def wakes3Temps : List ℤ := [400, 400, 400, 400]

/-- O21, Wakes: 3 states, which meet the hypotheses of its clauses. -/
theorem witness_Wakes :
    (wakes1S.rd Reg.PWR_STATUS_STATE = 3 ∧
      wakes1S.board.pwr.dips = [] ∧
      wakes1S.rd Reg.PWR_STATUS_RESUME < 2) ∧
    (wakes2S.rd Reg.PWR_STATUS_STATE = 3 ∧
      wakes2S.board.pwr.dips ≠ []) ∧
    (wakes3S.rd Reg.PWR_STATUS_STATE = 2 ∧
      wakes3S.synced = false ∧
      wakes3S.board.pwr.dips = [] ∧
      wakes3S.rd Reg.PWR_STATUS_RESUME < 2 ∧
      wakes3S.crossed wakes3Temps 4800 = false) :=
  ⟨by decide +kernel, by decide +kernel, by decide +kernel⟩

def supplyAndLimits1S : State := put State.reset [(Reg.PWR_PMBUS_PENDING, 0, 2)]

def supplyAndLimits1Temps : List ℤ := [1760, 0, 0, 0]

def supplyAndLimits2S : State := put State.reset [(Reg.PWR_STATUS_STATE, 0, 1), (Reg.PWR_STATUS_STEP, 0, 4), (Reg.PWR_RAIL_SET_MV, 0, 725)]

def supplyAndLimits2Temps : List ℤ := [1600, 0, 0, 0]

def supplyAndLimits4S : State := pw (fun p => { p with dips := [{ source := 1, minMv := 800, logged := true, resting := false }] }) (put State.reset [(Reg.PWR_STATUS_DIP_ACTIVE, 0, 1), (Reg.PWR_STATUS_STEP, 0, 8), (Reg.PWR_RAIL_SET_MV, 0, 800)])

def supplyAndLimits4D : Dip := { source := 1, minMv := 800, logged := true, resting := false }

/-- O22, SupplyAndLimits: 3 states, which meet the hypotheses of its clauses. -/
theorem witness_SupplyAndLimits :
    (supplyAndLimits1S.board.pwr.off = false ∧
      (supplyAndLimits1S.rd Reg.PWR_PMBUS_PENDING).testBit 1 = true ∧
      supplyAndLimits1S.rd Reg.PWR_PMBUS_PENDING < 256 ∧
      supplyAndLimits1Temps = [1760, 0, 0, 0] ∧
      (∀ d ∈ supplyAndLimits1S.board.pwr.dips, d.source ≠ 1) ∧
      supplyAndLimits1S.rd Reg.PWR_STATUS_STATE < 2 ∧
      supplyAndLimits1S.board.pwr.entry = none) ∧
    (supplyAndLimits2S.board.pwr.off = false ∧
      supplyAndLimits2S.rd Reg.PWR_STATUS_STATE < 2 ∧
      (supplyAndLimits2S.rd Reg.PWR_PMBUS_PENDING = 0 ∧ supplyAndLimits2S.board.pwr.raising = none ∧ supplyAndLimits2S.board.pwr.wants = []) ∧
      1 ≤ supplyAndLimits2S.rd Reg.PWR_STATUS_STEP ∧
      supplyAndLimits2S.rd Reg.PWR_STATUS_STEP ≤ 4 ∧
      supplyAndLimits2S.rd Reg.PWR_RAIL_SET_MV = 725 ∧
      supplyAndLimits2S.rd Reg.PWR_STATUS_STATE = 1 ∧
      supplyAndLimits2Temps = [1600, 0, 0, 0]) ∧
    (supplyAndLimits4S.board.pwr.off = false ∧
      supplyAndLimits4S.board.pwr.dips = [supplyAndLimits4D] ∧
      supplyAndLimits4D.source = 1 ∧
      supplyAndLimits4S.board.pwr.exitHeld = false ∧
      supplyAndLimits4S.rd Reg.PWR_STATUS_DIP_ACTIVE = 1 ∧
      supplyAndLimits4D.logged = true ∧
      supplyAndLimits4D.resting = false ∧
      supplyAndLimits4S.rd Reg.PWR_STATUS_STATE < 2 ∧
      (supplyAndLimits4S.rd Reg.PWR_PMBUS_PENDING = 0 ∧ supplyAndLimits4S.board.pwr.raising = none ∧ supplyAndLimits4S.board.pwr.wants = []) ∧
      supplyAndLimits4S.board.pwr.trimHeld = false ∧
      supplyAndLimits4S.rd Reg.PWR_STATUS_STEP = 8 ∧
      supplyAndLimits4S.rd Reg.PWR_RAIL_SET_MV = 800) :=
  ⟨by decide +kernel, by decide +kernel, by decide +kernel⟩

def smbusAndTestPort1Temps : List ℤ := [400, -400, 3, 4]

def smbusAndTestPort1Mac : List Byte := [1, 2, 3, 4, 5, 6]

def smbusAndTestPort1A : ℤ := 400

def smbusAndTestPort1B : ℤ := -400

def smbusAndTestPort1C : ℤ := 3

def smbusAndTestPort1D : ℤ := 4

/-- O23, SmbusAndTestPort: a state meets the hypotheses together. -/
theorem witness_SmbusAndTestPort :
    State.reset.board.pwr.aux = true ∧
      State.reset.board.pwr.off = false ∧
      smbusAndTestPort1Temps = [smbusAndTestPort1A, smbusAndTestPort1B, smbusAndTestPort1C, smbusAndTestPort1D] ∧
      smbusAndTestPort1Mac.length = 6 :=
  by decide +kernel

def windowMemory1S : State := near id State.reset

def windowMemory1M : NearMsg := msg 1 0x3FF 0x200000 4

def windowMemory2S : State := near id State.reset

def windowMemory2M : NearMsg := msg 2 0x3FF 0x200000 4

def windowMemory3S : State := near id State.reset

def windowMemory3M : NearMsg := msg 2 0x3FF 0x200000 0

def windowMemory4S : State := near id State.reset

def windowMemory4M : NearMsg := msg 3 0x3FF 0x200000 8

def windowMemory5S : State := near id State.reset

def windowMemory5M : NearMsg := msg 4 0x3FF 0x200000 16

def windowMemory6S : State := near id State.reset

def windowMemory6M : NearMsg := msg 1 5 0x200000 4

/-- O24, WindowMemory: 6 states, which meet the hypotheses of its clauses. -/
theorem witness_WindowMemory :
    (windowMemory1S.pathIsUp 0 = true ∧
      (windowMemory1S.epOf (windowMemory1S.nearOf 0).slot).windowBase ≤ windowMemory1M.addr ∧
      windowMemory1M.addr - (windowMemory1S.epOf (windowMemory1S.nearOf 0).slot).windowBase + reqSpan windowMemory1M ≤ gddrEnd ∧
      nearBad windowMemory1M = false ∧
      windowMemory1S.frozen windowMemory1M.tenant = false ∧
      (windowMemory1S.nearOf 0).waitP = [] ∧
      (windowMemory1S.nearOf 0).replay.length < 512 ∧
      (windowMemory1S.nearOf 0).resting = false ∧
      windowMemory1S.permitted (windowMemory1S.epOf (windowMemory1S.nearOf 0).slot).epid windowMemory1M.tenant = true ∧
      windowMemory1M.op = 1 ∧
      windowMemory1S.gddrPassAll windowMemory1M.tenant windowMemory1M.ctx AccK.write (windowMemory1M.addr - (windowMemory1S.epOf (windowMemory1S.nearOf 0).slot).windowBase) windowMemory1M.len = true) ∧
    (windowMemory2S.pathIsUp 0 = true ∧
      (windowMemory2S.epOf (windowMemory2S.nearOf 0).slot).windowBase ≤ windowMemory2M.addr ∧
      windowMemory2M.addr - (windowMemory2S.epOf (windowMemory2S.nearOf 0).slot).windowBase + reqSpan windowMemory2M ≤ gddrEnd ∧
      nearBad windowMemory2M = false ∧
      windowMemory2S.frozen windowMemory2M.tenant = false ∧
      (windowMemory2S.nearOf 0).waitP = [] ∧
      (windowMemory2S.nearOf 0).replay.length < 512 ∧
      (windowMemory2S.nearOf 0).resting = false ∧
      windowMemory2S.permitted (windowMemory2S.epOf (windowMemory2S.nearOf 0).slot).epid windowMemory2M.tenant = true ∧
      windowMemory2M.op = 2 ∧
      windowMemory2M.len ≠ 0 ∧
      windowMemory2S.gddrPassAll windowMemory2M.tenant windowMemory2M.ctx AccK.read (windowMemory2M.addr - (windowMemory2S.epOf (windowMemory2S.nearOf 0).slot).windowBase) windowMemory2M.len = true ∧
      windowMemory2S.gddrPoisoned (windowMemory2M.addr - (windowMemory2S.epOf (windowMemory2S.nearOf 0).slot).windowBase) windowMemory2M.len = false ∧
      unitBytes ≤ windowMemory2M.addr - (windowMemory2S.epOf (windowMemory2S.nearOf 0).slot).windowBase) ∧
    (windowMemory3S.pathIsUp 0 = true ∧
      (windowMemory3S.epOf (windowMemory3S.nearOf 0).slot).windowBase ≤ windowMemory3M.addr ∧
      windowMemory3M.addr - (windowMemory3S.epOf (windowMemory3S.nearOf 0).slot).windowBase + reqSpan windowMemory3M ≤ gddrEnd ∧
      nearBad windowMemory3M = false ∧
      windowMemory3S.frozen windowMemory3M.tenant = false ∧
      (windowMemory3S.nearOf 0).waitP = [] ∧
      (windowMemory3S.nearOf 0).replay.length < 512 ∧
      (windowMemory3S.nearOf 0).resting = false ∧
      windowMemory3S.permitted (windowMemory3S.epOf (windowMemory3S.nearOf 0).slot).epid windowMemory3M.tenant = true ∧
      windowMemory3M.op = 2 ∧
      windowMemory3M.len = 0) ∧
    (windowMemory4S.pathIsUp 0 = true ∧
      (windowMemory4S.epOf (windowMemory4S.nearOf 0).slot).windowBase ≤ windowMemory4M.addr ∧
      windowMemory4M.addr - (windowMemory4S.epOf (windowMemory4S.nearOf 0).slot).windowBase + reqSpan windowMemory4M ≤ gddrEnd ∧
      nearBad windowMemory4M = false ∧
      windowMemory4S.frozen windowMemory4M.tenant = false ∧
      (windowMemory4S.nearOf 0).waitP = [] ∧
      (windowMemory4S.nearOf 0).replay.length < 512 ∧
      (windowMemory4S.nearOf 0).resting = false ∧
      windowMemory4S.permitted (windowMemory4S.epOf (windowMemory4S.nearOf 0).slot).epid windowMemory4M.tenant = true ∧
      windowMemory4M.op = 3 ∧
      windowMemory4S.gddrPassAll windowMemory4M.tenant windowMemory4M.ctx AccK.atomic (windowMemory4M.addr - (windowMemory4S.epOf (windowMemory4S.nearOf 0).slot).windowBase) 8 = true ∧
      windowMemory4S.gddrPoisoned (windowMemory4M.addr - (windowMemory4S.epOf (windowMemory4S.nearOf 0).slot).windowBase) 8 = false) ∧
    (windowMemory5S.pathIsUp 0 = true ∧
      (windowMemory5S.epOf (windowMemory5S.nearOf 0).slot).windowBase ≤ windowMemory5M.addr ∧
      windowMemory5M.addr - (windowMemory5S.epOf (windowMemory5S.nearOf 0).slot).windowBase + reqSpan windowMemory5M ≤ gddrEnd ∧
      nearBad windowMemory5M = false ∧
      windowMemory5S.frozen windowMemory5M.tenant = false ∧
      (windowMemory5S.nearOf 0).waitP = [] ∧
      (windowMemory5S.nearOf 0).replay.length < 512 ∧
      (windowMemory5S.nearOf 0).resting = false ∧
      windowMemory5S.permitted (windowMemory5S.epOf (windowMemory5S.nearOf 0).slot).epid windowMemory5M.tenant = true ∧
      windowMemory5M.op = 4 ∧
      windowMemory5S.gddrPassAll windowMemory5M.tenant windowMemory5M.ctx AccK.atomic (windowMemory5M.addr - (windowMemory5S.epOf (windowMemory5S.nearOf 0).slot).windowBase) 8 = true ∧
      windowMemory5S.gddrPoisoned (windowMemory5M.addr - (windowMemory5S.epOf (windowMemory5S.nearOf 0).slot).windowBase) 8 = false) ∧
    (windowMemory6S.pathIsUp 0 = true ∧
      (windowMemory6S.epOf (windowMemory6S.nearOf 0).slot).windowBase ≤ windowMemory6M.addr ∧
      windowMemory6M.addr - (windowMemory6S.epOf (windowMemory6S.nearOf 0).slot).windowBase + reqSpan windowMemory6M ≤ gddrEnd ∧
      nearBad windowMemory6M = false ∧
      windowMemory6S.frozen windowMemory6M.tenant = false ∧
      (windowMemory6S.nearOf 0).waitP = [] ∧
      (windowMemory6S.nearOf 0).replay.length < 512 ∧
      (windowMemory6S.nearOf 0).resting = false ∧
      windowMemory6S.permitted (windowMemory6S.epOf (windowMemory6S.nearOf 0).slot).epid windowMemory6M.tenant = false ∧
      windowMemory6M.op = 1) :=
  ⟨by decide +kernel, ⟨by decide +kernel, by decide +kernel⟩, by decide +kernel, by decide +kernel, by decide +kernel, by decide +kernel⟩

def nearLinkLayer1S : State := near (fun y => { y with replay := [(0, msg 1 0 0 4, none), (1, msg 1 0 0 4, none)] }) State.reset

def nearLinkLayer1F : Flit := { kind := 1 }

def nearLinkLayer1M : NearMsg := msg 1 0 0 4

def nearLinkLayer1U : Option User := none

def nearLinkLayer1L1 : List (Nat × NearMsg × Option User) := []

def nearLinkLayer1L2 : List (Nat × NearMsg × Option User) := [(1, msg 1 0 0 4, none)]

def nearLinkLayer2S : State := near (fun y => { y with replay := [(0, msg 1 0 0 4, none), (1, msg 1 0 0 4, none)] }) State.reset

def nearLinkLayer2F : Flit := { fcrcOk := false }

def nearLinkLayer2M : NearMsg := msg 1 0 0 4

def nearLinkLayer2X : NearMsg := msg 1 0 0 4

def nearLinkLayer2U : Option User := none

def nearLinkLayer2V : Option User := none

def nearLinkLayer2L1 : List (Nat × NearMsg × Option User) := []

def nearLinkLayer2L2 : List (Nat × NearMsg × Option User) := []

def nearLinkLayer3S : State := near (fun y => { y with waitP := [(msg 1 0 0 4, none)], crdP := 0 }) State.reset

def nearLinkLayer3M : NearMsg := msg 1 0 0 4

def nearLinkLayer3U : Option User := none

def nearLinkLayer4S : State := thw 1 (fun t => { t with flush := [(0, 2)] }) (near (fun y => { y with np := [npr .flush (.vis 0 1)] }) State.reset)

def nearLinkLayer4M : NearMsg := { op := 5, tag := 2 }

def nearLinkLayer4R : NpReq := npr .flush (.vis 0 1)

def nearLinkLayer6S : State := near (fun y => { y with resting := true, wakes := 1 }) State.reset

/-- O25, NearLinkLayer: 6 states, which meet the hypotheses of its clauses. -/
theorem witness_NearLinkLayer :
    ((nearLinkLayer1S.nearOf 0).resting = false ∧
      (nearLinkLayer1S.nearOf 0).waitP = [] ∧
      (nearLinkLayer1S.nearOf 0).waitNp = [] ∧
      nearLinkLayer1F.fcrcOk = true ∧
      nearLinkLayer1F.kind = 1 ∧
      nearLinkLayer1F.msgs = [] ∧
      nearLinkLayer1F.fseq % 4096 = ((nearLinkLayer1S.nearOf 0).rxSeq + 1) % 4096 ∧
      nearLinkLayer1S.on Reg.MAC_NEAR_STATUS_FLIT_LOCK = true ∧
      (nearLinkLayer1S.nearOf 0).replay = nearLinkLayer1L1 ++ (nearLinkLayer1F.ack % 4096, nearLinkLayer1M, nearLinkLayer1U) :: nearLinkLayer1L2 ∧
      (∀ e ∈ nearLinkLayer1L1, e.1 ≠ nearLinkLayer1F.ack % 4096)) ∧
    ((nearLinkLayer2S.nearOf 0).resting = false ∧
      (nearLinkLayer2S.nearOf 0).waitP = [] ∧
      (nearLinkLayer2S.nearOf 0).waitNp = [] ∧
      nearLinkLayer2F.fcrcOk = false ∧
      nearLinkLayer2S.on Reg.MAC_NEAR_STATUS_FLIT_LOCK = true ∧
      (nearLinkLayer2S.nearOf 0).retryAsked = false ∧
      (nearLinkLayer2S.nearOf 0).replay = nearLinkLayer2L1 ++ (0, nearLinkLayer2M, nearLinkLayer2U) :: (1, nearLinkLayer2X, nearLinkLayer2V) :: nearLinkLayer2L2 ∧
      (∀ e ∈ nearLinkLayer2L1, e.1 ≠ 0)) ∧
    (nearLinkLayer3S.on Reg.MAC_NEAR_STATUS_FLIT_LOCK = true ∧
      (nearLinkLayer3S.nearOf 0).waitP = [(nearLinkLayer3M, nearLinkLayer3U)] ∧
      (nearLinkLayer3S.nearOf 0).waitNp = [] ∧
      nearLinkLayer3M.op = 1 ∧
      1 ≤ (nearLinkLayer3S.nearOf 0).crdP + 1 ∧
      unitsOf nearLinkLayer3M ≤ (nearLinkLayer3S.nearOf 0).crdD + 2 ∧
      (nearLinkLayer3S.nearOf 0).replay.length < 512 ∧
      (nearLinkLayer3S.nearOf 0).resting = false ∧
      nearLinkLayer3S.rd Reg.MAC_NEAR_STATUS_PATH_UP = 1 ∧
      (nearLinkLayer3S.nearOf 0).replay = [] ∧
      (nearLinkLayer3S.nearOf 0).np = []) ∧
    (nearLinkLayer4S.pathIsUp 0 = true ∧
      nearLinkLayer4M.op = 5 ∧
      nearLinkLayer4M.status = 0 ∧
      nearLinkLayer4S.npOf 0 nearLinkLayer4M.tag = some nearLinkLayer4R ∧
      nearLinkLayer4R.kind = NpKind.flush ∧
      nearLinkLayer4R.user = User.vis 0 1 ∧
      (nearLinkLayer4S.thrOf 0 1).wait = Wait.none) ∧
    (State.reset.on Reg.MAC_NEAR_STATUS_FEC_LOCK = false) ∧
    ((nearLinkLayer6S.nearOf 0).resting = true ∧
      nearLinkLayer6S.rd Reg.PWR_STATUS_STATE < 2 ∧
      (nearLinkLayer6S.nearOf 0).waitP = [] ∧
      (nearLinkLayer6S.nearOf 0).waitNp = [] ∧
      1 ≤ (nearLinkLayer6S.nearOf 0).wakes ∧
      (nearLinkLayer6S.nearOf 0).wakes ≤ 3) :=
  ⟨by decide +kernel, by decide +kernel, by decide +kernel, by decide +kernel, by decide +kernel, by decide +kernel⟩

def nearBringUp1S : State := put (State.reset.setNear 0 { capsSent := true }) [(Reg.MAC_NEAR_STATUS_FLIT_LOCK, 0, 1)]

def nearBringUp1C : Caps := { ident := 7, windowBase := 2 ^ 40 }

def nearBringUp2S : State := put (State.reset.setNear 0 { capsSent := true }) [(Reg.MAC_NEAR_STATUS_FLIT_LOCK, 0, 1)]

def nearBringUp2C : Caps := { profile := 2 }

def nearBringUp3S : State := put ((near id State.reset).setAtt 8 { st := .absent, epid := 7 }) [(Reg.MAC_NEAR_STATUS_PATH_UP, 0, 0)]

def nearBringUp4S : State := (near (fun y => { y with replays := 8, np := [npr .read (.admin 0)] }) State.reset).setAtt 8 { st := .attached, epid := 7 }

/-- O26, NearBringUp: 4 states, which meet the hypotheses of its clauses. -/
theorem witness_NearBringUp :
    (nearBringUp1S.on Reg.MAC_NEAR_STATUS_FLIT_LOCK = true ∧
      (nearBringUp1S.nearOf 0).epid = none ∧
      (nearBringUp1S.nearOf 0).capsSent = true ∧
      nearBringUp1C.profile = 1 ∧
      nearBringUp1C.ptf = 1 ∧
      40 ≤ nearBringUp1C.paBits ∧
      nearBringUp1C.paBits ≤ 56 ∧
      nearBringUp1C.windowBase % 2 ^ 36 = 0 ∧
      nearBringUp1C.windowBase < 2 ^ nearBringUp1C.paBits ∧
      nearBringUp1C.features % 8 = 7 ∧
      (∀ q < 8, (nearBringUp1S.nearOf q).epid ≠ some nearBringUp1C.ident) ∧
      (∀ k < 8, (nearBringUp1S.epOf k).used = true → (nearBringUp1S.epOf k).epid ≠ nearBringUp1C.ident) ∧
      nearBringUp1S.freeSlot = some 0 ∧
      (∀ q < 8, q ≠ 0 → nearBringUp1S.rd Reg.MAC_NEAR_STATUS_ATTACH_VALID q = 1 → nearBringUp1S.rd Reg.MAC_NEAR_STATUS_ATTACH q ≠ 0) ∧
      nearBringUp1S.rd Reg.MAC_NEAR_STATUS_ATTACH_VALID = 0 ∧
      (nearBringUp1S.epOf 0).held = []) ∧
    (nearBringUp2S.on Reg.MAC_NEAR_STATUS_FLIT_LOCK = true ∧
      (nearBringUp2S.nearOf 0).epid = none ∧
      (nearBringUp2S.nearOf 0).capsSent = true ∧
      nearBringUp2C.profile ≠ 1) ∧
    ((nearBringUp3S.nearOf 0).ready = true ∧
      nearBringUp3S.on Reg.MAC_NEAR_STATUS_FLIT_LOCK = true ∧
      nearBringUp3S.on Reg.MAC_NEAR_STATUS_PATH_UP = false ∧
      (∀ q < 8, q ≠ 0 → nearBringUp3S.rd Reg.MAC_NEAR_STATUS_ATTACH_VALID q = 1 → nearBringUp3S.rd Reg.MAC_NEAR_STATUS_ATTACH q ≠ (nearBringUp3S.nearOf 0).slot) ∧
      (nearBringUp3S.nearOf 0).waitP = [] ∧
      (nearBringUp3S.nearOf 0).waitNp = [] ∧
      (nearBringUp3S.epOf (nearBringUp3S.nearOf 0).slot).held = [] ∧
      nearBringUp3S.xlt.invals = [] ∧
      (nearBringUp3S.epOf 0).used = true ∧
      (nearBringUp3S.epOf 0).epid ≠ 0 ∧
      nearBringUp3S.upPaths 0 = []) ∧
    (nearBringUp4S.on Reg.MAC_NEAR_STATUS_PATH_UP = true ∧
      (∀ q < 8, q ≠ 0 → nearBringUp4S.rd Reg.MAC_NEAR_STATUS_ATTACH_VALID q = 1 → nearBringUp4S.rd Reg.MAC_NEAR_STATUS_ATTACH q ≠ (nearBringUp4S.nearOf 0).slot) ∧
      8 ≤ (nearBringUp4S.nearOf 0).replays ∧
      (nearBringUp4S.nearOf 0).resting = false ∧
      (nearBringUp4S.npOf 0 2).isSome = true ∧
      nearBringUp4S.on Reg.MAC_NEAR_STATUS_FEC_LOCK = true) :=
  ⟨⟨by decide +kernel, by decide +kernel, by decide +kernel, by decide +kernel⟩, by decide +kernel, by decide +kernel, by decide +kernel⟩

def translationWalks1S : State := xl (fun x => { x with tlb := [(0, [{ tenant := 1, ctx := 0, shift := 12, vpn := 0, pfn := 5, w := true, d := true, att := 0 }])] }) (near id State.reset)

def translationWalks1M : NearMsg := { op := 8, tenant := 1, opspec := 3, data := leBytes 8 12 }

def translationWalks2S : State := xl (fun x => { x with invals := [inv], tlb := [(0, [{ tenant := 1, ctx := 0, shift := 12, vpn := 0, pfn := 5, w := true, d := true, att := 0, marked := true }])] }) (near id State.reset)

def translationWalks3S : State := xl (fun x => { x with walks := [wk] }) (near (fun y => { y with np := [npr .table (.walk 0)] }) State.reset)

def translationWalks3R : NpReq := npr .table (.walk 0)

def translationWalks4S : State := put (xl (fun x => { x with walks := [wk] }) (near (fun y => { y with np := [npr .adUpdate (.walk 0)] }) State.reset)) [(Reg.XLT_CTX_DESC0_VALID, 4, 1), (Reg.XLT_CTX_DESC1_TENANT, 4, 1)]

def translationWalks4R : NpReq := npr .adUpdate (.walk 0)

def translationWalks5S : State := xl (fun x => { x with walks := [{ wk with leaf := some (12, 0x5013) }] }) (near (fun y => { y with np := [npr .adUpdate (.walk 0)] }) State.reset)

def translationWalks5W : Walk := { wk with leaf := some (12, 0x5013) }

def translationWalks5R : NpReq := npr .adUpdate (.walk 0)

/-- O27, TranslationWalks: 5 states, which meet the hypotheses of its clauses. -/
theorem witness_TranslationWalks :
    (translationWalks1S.pathIsUp 0 = true ∧
      leAt translationWalks1M.data 0 8 = 12 ∧
      translationWalks1S.activeInvals (translationWalks1S.nearOf 0).slot < 256 ∧
      (∀ q < 8, (translationWalks1S.nearOf q).unflushed = false ∧ ∀ x ∈ (translationWalks1S.nearOf q).np, x.kind ≠ NpKind.flush)) ∧
    (translationWalks2S.pathIsUp 0 = true ∧
      translationWalks2S.xlt.invals = [inv] ∧
      inv.path = 0 ∧
      inv.slot = (translationWalks2S.nearOf 0).slot ∧
      inv.seq < 2 ^ 32 ∧
      inv.marked = true ∧
      inv.drained = false ∧
      translationWalks2S.invalBusy (translationWalks2S.nearOf 0).slot inv.seq = false ∧
      0 ∈ translationWalks2S.upPaths (translationWalks2S.nearOf 0).slot ∧
      (translationWalks2S.nearOf 0).waitP = [] ∧
      1 ≤ (translationWalks2S.nearOf 0).crdP ∧
      (translationWalks2S.nearOf 0).replay.length < 512 ∧
      (translationWalks2S.nearOf 0).resting = false) ∧
    (translationWalks3S.pathIsUp 0 = true ∧
      translationWalks3S.npOf 0 2 = some translationWalks3R ∧
      translationWalks3R.user = User.walk 0 ∧
      translationWalks3S.walkOf 0 = some wk ∧
      wk.restart = false ∧
      20739 < 2 ^ 64 ∧
      translationWalks3R.kind = NpKind.table ∧
      pteCheck wk.tenant wk.level (translationWalks3S.epOf wk.att).paBits 20739 = PteRes.table 5) ∧
    (translationWalks4S.pathIsUp 0 = true ∧
      translationWalks4S.npOf 0 2 = some translationWalks4R ∧
      translationWalks4R.user = User.walk 0 ∧
      translationWalks4S.walkOf 0 = some wk ∧
      wk.restart = false ∧
      18 < 2 ^ 64 ∧
      translationWalks4R.kind = NpKind.adUpdate ∧
      translationWalks4S.descOf wk.tenant wk.ctx = some 4 ∧
      List.take 8 translationWalks4R.msg.data ≠ leBytes 8 18) ∧
    (translationWalks5S.pathIsUp 0 = true ∧
      translationWalks5S.npOf 0 2 = some translationWalks5R ∧
      translationWalks5R.user = User.walk 0 ∧
      translationWalks5S.walkOf 0 = some translationWalks5W ∧
      translationWalks5W.restart = false ∧
      17 < 2 ^ 64 ∧
      translationWalks5R.kind = NpKind.adUpdate ∧
      List.take 8 translationWalks5R.msg.data = leBytes 8 17 ∧
      translationWalks5W.leaf = some (12, 20499) ∧
      translationWalks5S.xlt.walks = [translationWalks5W] ∧
      translationWalks5W.waiters = [] ∧
      translationWalks5W.fault = none ∧
      translationWalks5S.tlbOf translationWalks5W.cluster = []) :=
  ⟨by decide +kernel, by decide +kernel, by decide +kernel, by decide +kernel, by decide +kernel⟩

def onDemandPaging1S : State := near id State.reset

def onDemandPaging1M : NearMsg := { op := 0xB, tenant := 1, opspec := 0 }

def onDemandPaging2S : State := put (flt .open (near id State.reset)) [(Reg.XLT_FAULT_CFG_RETRY_MAX, 0, 3)]

def onDemandPaging2M : NearMsg := { op := 0xB, tenant := 1, opspec := 0, status := 2 }

def onDemandPaging2W : Waiter := { user := .admin 0, acc := .read, va := 4096, cluster := 0 }

def onDemandPaging3S : State := flt .open (near id State.reset)

def onDemandPaging3M : NearMsg := { op := 0xB, tenant := 1, opspec := 0, status := 0 }

def onDemandPaging4S : State := put (flt .retryWait (near id State.reset)) [(Reg.XLT_FAULT_CFG_RETRY_MAX, 0, 3)]

def onDemandPaging4Rest : List Nat := []

def onDemandPaging5S : State := flt .rewalk State.reset

def onDemandPaging6S : State := State.reset.setFault 1 0 { st := .open }

/-- O28, OnDemandPaging: 6 states, which meet the hypotheses of its clauses. -/
theorem witness_OnDemandPaging :
    (onDemandPaging1S.pathIsUp 0 = true ∧
      onDemandPaging1M.tenant = 1 ∧
      onDemandPaging1M.opspec % 256 = 0 ∧
      onDemandPaging1M.status < 3 ∧
      (onDemandPaging1S.faultOf 1 0).st = FaultSt.free) ∧
    (onDemandPaging2S.pathIsUp 0 = true ∧
      onDemandPaging2M.tenant = 1 ∧
      onDemandPaging2M.opspec % 256 = 0 ∧
      onDemandPaging2M.status < 3 ∧
      (onDemandPaging2S.faultOf 1 0).st = FaultSt.open ∧
      (onDemandPaging2S.faultOf 1 0).att = (onDemandPaging2S.nearOf 0).slot ∧
      onDemandPaging2M.status = 2 ∧
      (onDemandPaging2S.faultOf 1 0).attempts < onDemandPaging2S.retryMax ∧
      (onDemandPaging2S.faultOf 1 0).st ≠ FaultSt.free ∧
      (onDemandPaging2S.faultOf 1 0).waiters[0]? = some onDemandPaging2W ∧
      onDemandPaging2W.remote = false) ∧
    (onDemandPaging3S.pathIsUp 0 = true ∧
      onDemandPaging3M.tenant = 1 ∧
      onDemandPaging3M.opspec % 256 = 0 ∧
      onDemandPaging3M.status < 3 ∧
      (onDemandPaging3S.faultOf 1 0).st = FaultSt.open ∧
      (onDemandPaging3S.faultOf 1 0).att = (onDemandPaging3S.nearOf 0).slot ∧
      onDemandPaging3M.status = 0) ∧
    ((onDemandPaging4S.faultOf 1 0).st = FaultSt.retryWait ∧
      (onDemandPaging4S.faultOf 1 0).attempts < onDemandPaging4S.retryMax ∧
      onDemandPaging4S.upPaths (onDemandPaging4S.faultOf 1 0).att = 0 :: onDemandPaging4Rest ∧
      (onDemandPaging4S.nearOf 0).waitP = [] ∧
      1 ≤ (onDemandPaging4S.nearOf 0).crdP ∧
      (onDemandPaging4S.nearOf 0).replay.length < 512 ∧
      (onDemandPaging4S.nearOf 0).resting = false) ∧
    ((onDemandPaging5S.faultOf 1 0).st = FaultSt.rewalk) ∧
    ((onDemandPaging6S.faultOf 1 0).st = FaultSt.open ∧
      (onDemandPaging6S.faultOf 1 0).waiters = [] ∧
      onDemandPaging6S.xlt.queued = []) :=
  ⟨by decide +kernel, by decide +kernel, by decide +kernel, by decide +kernel, by decide +kernel, by decide +kernel⟩

def submissionFetch1S : State := qp [] id State.reset

def submissionFetch2S : State := qp [(Reg.QP_CTRL_ENABLE, 0, 0)] id State.reset

def submissionFetch3S : State := qp [] (fun x => { x with held := true }) State.reset

def submissionFetch4S : State := qp [] (fun x => { x with phase := .wait }) State.reset

def submissionFetch5S : State := qp [] (fun x => { x with phase := .index }) State.reset

def submissionFetch6S : State := qp [(Reg.QP_HEAD_TAIL_SEEN, 4, 1)] (fun x => { x with phase := .slots }) State.reset

def submissionFetch6B : List Byte := ent 1

def submissionFetch7S : State := qp [(Reg.QP_HEAD_HEAD, 4, 1)] id State.reset

/-- O29, SubmissionFetch: 7 states, which meet the hypotheses of its clauses. -/
theorem witness_SubmissionFetch :
    (submissionFetch1S.qpValid 4 = true ∧
      submissionFetch1S.legacy 4 = false ∧
      submissionFetch1S.mayFetch = true ∧
      submissionFetch1S.frozen (submissionFetch1S.qpTenant 4) = false ∧
      (submissionFetch1S.sqOf 4).phase = Fetch.none ∧
      submissionFetch1S.bellOff 4 = false) ∧
    (submissionFetch2S.qpValid 4 = true ∧
      submissionFetch2S.legacy 4 = false ∧
      submissionFetch2S.bellOff 4 = true) ∧
    (submissionFetch3S.qpValid 4 = true ∧
      submissionFetch3S.legacy 4 = false ∧
      submissionFetch3S.mayFetch = true ∧
      submissionFetch3S.frozen (submissionFetch3S.qpTenant 4) = false ∧
      (submissionFetch3S.sqOf 4).phase = Fetch.none ∧
      (submissionFetch3S.sqOf 4).held = true ∧
      submissionFetch3S.capacity 4 { } = true) ∧
    (submissionFetch4S.qpValid 4 = true ∧
      submissionFetch4S.legacy 4 = false ∧
      submissionFetch4S.mayFetch = true ∧
      submissionFetch4S.frozen (submissionFetch4S.qpTenant 4) = false ∧
      (submissionFetch4S.sqOf 4).phase = Fetch.wait) ∧
    (submissionFetch5S.qpValid 4 = true ∧
      submissionFetch5S.legacy 4 = false ∧
      submissionFetch5S.mayFetch = true ∧
      submissionFetch5S.frozen (submissionFetch5S.qpTenant 4) = false ∧
      (submissionFetch5S.sqOf 4).phase = Fetch.index ∧
      d32 (1 % 2 ^ 32) (submissionFetch5S.rd Reg.QP_HEAD_HEAD 4) ≤ submissionFetch5S.ringSize 4 ∧
      ((submissionFetch5S.sqOf 4).phase = Fetch.index ∨ (submissionFetch5S.sqOf 4).phase = Fetch.slots) ∧
      Code.accessViolation ∈ [Code.accessViolation, Code.pageTimeout, Code.hostDataError] ∧
      submissionFetch5S.cst 4 = Cst.reset ∧
      (submissionFetch5S.sqOf 4).ops = [] ∧
      submissionFetch5S.pels = [] ∧
      submissionFetch5S.rd Reg.CQ_DESC0_BROKEN (submissionFetch5S.rd Reg.QP_DESC0_CQ 4) = 0 ∧
      (submissionFetch5S.cqOf (submissionFetch5S.rd Reg.QP_DESC0_CQ 4)).fenced = false) ∧
    (submissionFetch6S.qpValid 4 = true ∧
      submissionFetch6S.legacy 4 = false ∧
      submissionFetch6S.mayFetch = true ∧
      submissionFetch6S.frozen (submissionFetch6S.qpTenant 4) = false ∧
      (submissionFetch6S.sqOf 4).phase = Fetch.slots ∧
      slotsOf submissionFetch6B = 1 ∧
      submissionFetch6S.rd Reg.QP_HEAD_TAIL_SEEN 4 = (submissionFetch6S.rd Reg.QP_HEAD_HEAD 4 + 1) % 2 ^ 32 ∧
      submissionFetch6S.rd Reg.QP_HEAD_HEAD 4 < 2 ^ 32 ∧
      phasesOk (submissionFetch6S.rd Reg.QP_DESC0_LOG2_SIZE 4) (submissionFetch6S.rd Reg.QP_HEAD_HEAD 4) [submissionFetch6B] = true ∧
      submissionFetch6S.capacity 4 (parseEntry [submissionFetch6B]) = true ∧
      submissionFetch6S.entryBad 4 (parseEntry [submissionFetch6B]) = none ∧
      1 ≤ (parseEntry [submissionFetch6B]).opcode ∧
      (parseEntry [submissionFetch6B]).opcode ≤ 7 ∧
      (submissionFetch6S.sqOf 4).headWritten = submissionFetch6S.rd Reg.QP_HEAD_HEAD 4 ∧
      (submissionFetch6S.sqOf 4).bell = false ∧
      (submissionFetch6S.sqOf 4).again = false) ∧
    (submissionFetch7S.qpValid 4 = true ∧
      submissionFetch7S.legacy 4 = false ∧
      (submissionFetch7S.sqOf 4).headWritten ≠ submissionFetch7S.rd Reg.QP_HEAD_HEAD 4) :=
  ⟨by decide +kernel, by decide +kernel, by decide +kernel, by decide +kernel, by decide +kernel, ⟨by decide +kernel, by decide +kernel, by decide +kernel, by decide +kernel⟩, by decide +kernel⟩

def submissionEntries1S : State := qp [(Reg.QP_HEAD_TAIL_SEEN, 4, 1)] (fun x => { x with phase := .slots }) State.reset

def submissionEntries1Slots : List (List Byte) := [ent 0]

def submissionEntries2S : State := qp [(Reg.QP_HEAD_TAIL_SEEN, 4, 1), (Reg.TRN_QP_T0_STATE, 4, 1)] (fun x => { x with phase := .slots }) State.reset

def submissionEntries2Slots : List (List Byte) := [ent 0]

def submissionEntries3S : State := qp [(Reg.QP_HEAD_TAIL_SEEN, 4, 1)] (fun x => { x with phase := .slots }) State.reset

def submissionEntries3Slots : List (List Byte) := [ent 0, ent 0, ent 0, ent 0]

def submissionEntries4S : State := pel { st := .ready, cops := 1, mode := 1 } (qp [(Reg.QP_HEAD_TAIL_SEEN, 4, 1), (Reg.TRN_QP_T0_STATE, 4, 1)] (fun x => { x with phase := .slots }) State.reset)

def submissionEntries4Slots : List (List Byte) := [ent 0]

def submissionEntries4C : PelOp := colFields false 4 0 { parseEntry [ent 8] with pos := 0 }

/-- O30, SubmissionEntries: 4 states, which meet the hypotheses of its clauses. -/
theorem witness_SubmissionEntries :
    ((submissionEntries1S.sqOf 4).phase = Fetch.slots ∧
      submissionEntries1S.legacy 4 = false ∧
      submissionEntries1S.frozen (submissionEntries1S.qpTenant 4) = false ∧
      submissionEntries1S.rd Reg.QP_HEAD_HEAD 4 < 2 ^ 32 ∧
      submissionEntries1S.entryBad 4 (parseEntry (List.take (slotsOf ((setOpcode 1 submissionEntries1Slots).headD [])) (setOpcode 1 submissionEntries1Slots))) = none ∧
      (submissionEntries1Slots ≠ [] ∧ slotsOf ((setOpcode 1 submissionEntries1Slots).headD []) ≤ submissionEntries1Slots.length ∧ slotsOf ((setOpcode 1 submissionEntries1Slots).headD []) ≤ (submissionEntries1S.rd Reg.QP_HEAD_TAIL_SEEN 4 + 16 + 2 ^ 32 - submissionEntries1S.rd Reg.QP_HEAD_HEAD 4) % 2 ^ 32 ∧ phasesOk (submissionEntries1S.rd Reg.QP_DESC0_LOG2_SIZE 4) (submissionEntries1S.rd Reg.QP_HEAD_HEAD 4) (List.take (slotsOf ((setOpcode 1 submissionEntries1Slots).headD [])) (setOpcode 1 submissionEntries1Slots)) = true ∧ submissionEntries1S.capacity 4 (parseEntry (List.take (slotsOf ((setOpcode 1 submissionEntries1Slots).headD [])) (setOpcode 1 submissionEntries1Slots))) = true) ∧
      submissionEntries1S.entryBad 4 (parseEntry (List.take (slotsOf ((setOpcode 2 submissionEntries1Slots).headD [])) (setOpcode 2 submissionEntries1Slots))) = none ∧
      (submissionEntries1Slots ≠ [] ∧ slotsOf ((setOpcode 2 submissionEntries1Slots).headD []) ≤ submissionEntries1Slots.length ∧ slotsOf ((setOpcode 2 submissionEntries1Slots).headD []) ≤ (submissionEntries1S.rd Reg.QP_HEAD_TAIL_SEEN 4 + 16 + 2 ^ 32 - submissionEntries1S.rd Reg.QP_HEAD_HEAD 4) % 2 ^ 32 ∧ phasesOk (submissionEntries1S.rd Reg.QP_DESC0_LOG2_SIZE 4) (submissionEntries1S.rd Reg.QP_HEAD_HEAD 4) (List.take (slotsOf ((setOpcode 2 submissionEntries1Slots).headD [])) (setOpcode 2 submissionEntries1Slots)) = true ∧ submissionEntries1S.capacity 4 (parseEntry (List.take (slotsOf ((setOpcode 2 submissionEntries1Slots).headD [])) (setOpcode 2 submissionEntries1Slots))) = true) ∧
      submissionEntries1S.entryBad 4 (parseEntry (List.take (slotsOf ((setOpcode 3 submissionEntries1Slots).headD [])) (setOpcode 3 submissionEntries1Slots))) = none ∧
      (submissionEntries1Slots ≠ [] ∧ slotsOf ((setOpcode 3 submissionEntries1Slots).headD []) ≤ submissionEntries1Slots.length ∧ slotsOf ((setOpcode 3 submissionEntries1Slots).headD []) ≤ (submissionEntries1S.rd Reg.QP_HEAD_TAIL_SEEN 4 + 16 + 2 ^ 32 - submissionEntries1S.rd Reg.QP_HEAD_HEAD 4) % 2 ^ 32 ∧ phasesOk (submissionEntries1S.rd Reg.QP_DESC0_LOG2_SIZE 4) (submissionEntries1S.rd Reg.QP_HEAD_HEAD 4) (List.take (slotsOf ((setOpcode 3 submissionEntries1Slots).headD [])) (setOpcode 3 submissionEntries1Slots)) = true ∧ submissionEntries1S.capacity 4 (parseEntry (List.take (slotsOf ((setOpcode 3 submissionEntries1Slots).headD [])) (setOpcode 3 submissionEntries1Slots))) = true) ∧
      submissionEntries1S.entryBad 4 (parseEntry (List.take (slotsOf ((setOpcode 4 submissionEntries1Slots).headD [])) (setOpcode 4 submissionEntries1Slots))) = none ∧
      (submissionEntries1Slots ≠ [] ∧ slotsOf ((setOpcode 4 submissionEntries1Slots).headD []) ≤ submissionEntries1Slots.length ∧ slotsOf ((setOpcode 4 submissionEntries1Slots).headD []) ≤ (submissionEntries1S.rd Reg.QP_HEAD_TAIL_SEEN 4 + 16 + 2 ^ 32 - submissionEntries1S.rd Reg.QP_HEAD_HEAD 4) % 2 ^ 32 ∧ phasesOk (submissionEntries1S.rd Reg.QP_DESC0_LOG2_SIZE 4) (submissionEntries1S.rd Reg.QP_HEAD_HEAD 4) (List.take (slotsOf ((setOpcode 4 submissionEntries1Slots).headD [])) (setOpcode 4 submissionEntries1Slots)) = true ∧ submissionEntries1S.capacity 4 (parseEntry (List.take (slotsOf ((setOpcode 4 submissionEntries1Slots).headD [])) (setOpcode 4 submissionEntries1Slots))) = true) ∧
      submissionEntries1S.entryBad 4 (parseEntry (List.take (slotsOf ((setOpcode 5 submissionEntries1Slots).headD [])) (setOpcode 5 submissionEntries1Slots))) = none ∧
      (submissionEntries1Slots ≠ [] ∧ slotsOf ((setOpcode 5 submissionEntries1Slots).headD []) ≤ submissionEntries1Slots.length ∧ slotsOf ((setOpcode 5 submissionEntries1Slots).headD []) ≤ (submissionEntries1S.rd Reg.QP_HEAD_TAIL_SEEN 4 + 16 + 2 ^ 32 - submissionEntries1S.rd Reg.QP_HEAD_HEAD 4) % 2 ^ 32 ∧ phasesOk (submissionEntries1S.rd Reg.QP_DESC0_LOG2_SIZE 4) (submissionEntries1S.rd Reg.QP_HEAD_HEAD 4) (List.take (slotsOf ((setOpcode 5 submissionEntries1Slots).headD [])) (setOpcode 5 submissionEntries1Slots)) = true ∧ submissionEntries1S.capacity 4 (parseEntry (List.take (slotsOf ((setOpcode 5 submissionEntries1Slots).headD [])) (setOpcode 5 submissionEntries1Slots))) = true) ∧
      submissionEntries1S.entryBad 4 (parseEntry (List.take (slotsOf ((setOpcode 6 submissionEntries1Slots).headD [])) (setOpcode 6 submissionEntries1Slots))) = none ∧
      (submissionEntries1Slots ≠ [] ∧ slotsOf ((setOpcode 6 submissionEntries1Slots).headD []) ≤ submissionEntries1Slots.length ∧ slotsOf ((setOpcode 6 submissionEntries1Slots).headD []) ≤ (submissionEntries1S.rd Reg.QP_HEAD_TAIL_SEEN 4 + 16 + 2 ^ 32 - submissionEntries1S.rd Reg.QP_HEAD_HEAD 4) % 2 ^ 32 ∧ phasesOk (submissionEntries1S.rd Reg.QP_DESC0_LOG2_SIZE 4) (submissionEntries1S.rd Reg.QP_HEAD_HEAD 4) (List.take (slotsOf ((setOpcode 6 submissionEntries1Slots).headD [])) (setOpcode 6 submissionEntries1Slots)) = true ∧ submissionEntries1S.capacity 4 (parseEntry (List.take (slotsOf ((setOpcode 6 submissionEntries1Slots).headD [])) (setOpcode 6 submissionEntries1Slots))) = true) ∧
      submissionEntries1S.entryBad 4 (parseEntry (List.take (slotsOf ((setOpcode 7 submissionEntries1Slots).headD [])) (setOpcode 7 submissionEntries1Slots))) = none ∧
      (submissionEntries1Slots ≠ [] ∧ slotsOf ((setOpcode 7 submissionEntries1Slots).headD []) ≤ submissionEntries1Slots.length ∧ slotsOf ((setOpcode 7 submissionEntries1Slots).headD []) ≤ (submissionEntries1S.rd Reg.QP_HEAD_TAIL_SEEN 4 + 16 + 2 ^ 32 - submissionEntries1S.rd Reg.QP_HEAD_HEAD 4) % 2 ^ 32 ∧ phasesOk (submissionEntries1S.rd Reg.QP_DESC0_LOG2_SIZE 4) (submissionEntries1S.rd Reg.QP_HEAD_HEAD 4) (List.take (slotsOf ((setOpcode 7 submissionEntries1Slots).headD [])) (setOpcode 7 submissionEntries1Slots)) = true ∧ submissionEntries1S.capacity 4 (parseEntry (List.take (slotsOf ((setOpcode 7 submissionEntries1Slots).headD [])) (setOpcode 7 submissionEntries1Slots))) = true) ∧
      submissionEntries1S.entryBad 4 (parseEntry (List.take (slotsOf ((setOpcode 16 submissionEntries1Slots).headD [])) (setOpcode 16 submissionEntries1Slots))) = none ∧
      (submissionEntries1Slots ≠ [] ∧ slotsOf ((setOpcode 16 submissionEntries1Slots).headD []) ≤ submissionEntries1Slots.length ∧ slotsOf ((setOpcode 16 submissionEntries1Slots).headD []) ≤ (submissionEntries1S.rd Reg.QP_HEAD_TAIL_SEEN 4 + 16 + 2 ^ 32 - submissionEntries1S.rd Reg.QP_HEAD_HEAD 4) % 2 ^ 32 ∧ phasesOk (submissionEntries1S.rd Reg.QP_DESC0_LOG2_SIZE 4) (submissionEntries1S.rd Reg.QP_HEAD_HEAD 4) (List.take (slotsOf ((setOpcode 16 submissionEntries1Slots).headD [])) (setOpcode 16 submissionEntries1Slots)) = true ∧ submissionEntries1S.capacity 4 (parseEntry (List.take (slotsOf ((setOpcode 16 submissionEntries1Slots).headD [])) (setOpcode 16 submissionEntries1Slots))) = true) ∧
      nativeOpcode (9 % 256) = false ∧
      submissionEntries1S.cst 4 = Cst.reset ∧
      (submissionEntries1S.sqOf 4).ops = [] ∧
      submissionEntries1S.pels = [] ∧
      submissionEntries1S.rd Reg.CQ_DESC0_BROKEN (submissionEntries1S.rd Reg.QP_DESC0_CQ 4) = 0 ∧
      (submissionEntries1S.cqOf (submissionEntries1S.rd Reg.QP_DESC0_CQ 4)).fenced = false ∧
      (submissionEntries1Slots ≠ [] ∧ slotsOf ((setOpcode 9 submissionEntries1Slots).headD []) ≤ submissionEntries1Slots.length ∧ slotsOf ((setOpcode 9 submissionEntries1Slots).headD []) ≤ (submissionEntries1S.rd Reg.QP_HEAD_TAIL_SEEN 4 + 16 + 2 ^ 32 - submissionEntries1S.rd Reg.QP_HEAD_HEAD 4) % 2 ^ 32 ∧ phasesOk (submissionEntries1S.rd Reg.QP_DESC0_LOG2_SIZE 4) (submissionEntries1S.rd Reg.QP_HEAD_HEAD 4) (List.take (slotsOf ((setOpcode 9 submissionEntries1Slots).headD [])) (setOpcode 9 submissionEntries1Slots)) = true ∧ submissionEntries1S.capacity 4 (parseEntry (List.take (slotsOf ((setOpcode 9 submissionEntries1Slots).headD [])) (setOpcode 9 submissionEntries1Slots))) = true)) ∧
    ((submissionEntries2S.sqOf 4).phase = Fetch.slots ∧
      submissionEntries2S.legacy 4 = false ∧
      submissionEntries2S.frozen (submissionEntries2S.qpTenant 4) = false ∧
      submissionEntries2S.rd Reg.QP_HEAD_HEAD 4 < 2 ^ 32 ∧
      submissionEntries2S.entryBad 4 (parseEntry (List.take (slotsOf ((setOpcode 0 submissionEntries2Slots).headD [])) (setOpcode 0 submissionEntries2Slots))) = none ∧
      submissionEntries2S.cst 4 = Cst.connected ∧
      (submissionEntries2S.sqOf 4).ops = [] ∧
      submissionEntries2S.rd Reg.CQ_DESC0_BROKEN (submissionEntries2S.rd Reg.QP_DESC0_CQ 4) = 0 ∧
      (submissionEntries2S.cqOf (submissionEntries2S.rd Reg.QP_DESC0_CQ 4)).fenced = false ∧
      (submissionEntries2Slots ≠ [] ∧ slotsOf ((setOpcode 0 submissionEntries2Slots).headD []) ≤ submissionEntries2Slots.length ∧ slotsOf ((setOpcode 0 submissionEntries2Slots).headD []) ≤ (submissionEntries2S.rd Reg.QP_HEAD_TAIL_SEEN 4 + 16 + 2 ^ 32 - submissionEntries2S.rd Reg.QP_HEAD_HEAD 4) % 2 ^ 32 ∧ phasesOk (submissionEntries2S.rd Reg.QP_DESC0_LOG2_SIZE 4) (submissionEntries2S.rd Reg.QP_HEAD_HEAD 4) (List.take (slotsOf ((setOpcode 0 submissionEntries2Slots).headD [])) (setOpcode 0 submissionEntries2Slots)) = true ∧ submissionEntries2S.capacity 4 (parseEntry (List.take (slotsOf ((setOpcode 0 submissionEntries2Slots).headD [])) (setOpcode 0 submissionEntries2Slots))) = true)) ∧
    ((submissionEntries3S.sqOf 4).phase = Fetch.slots ∧
      submissionEntries3S.legacy 4 = false ∧
      submissionEntries3S.frozen (submissionEntries3S.qpTenant 4) = false ∧
      submissionEntries3S.rd Reg.QP_HEAD_HEAD 4 < 2 ^ 32 ∧
      submissionEntries3S.cst 4 = Cst.reset ∧
      (submissionEntries3S.sqOf 4).ops = [] ∧
      submissionEntries3S.pels = [] ∧
      submissionEntries3S.rd Reg.CQ_DESC0_BROKEN (submissionEntries3S.rd Reg.QP_DESC0_CQ 4) = 0 ∧
      (submissionEntries3S.cqOf (submissionEntries3S.rd Reg.QP_DESC0_CQ 4)).fenced = false ∧
      (submissionEntries3Slots ≠ [] ∧ slotsOf ((setOpcode 31 submissionEntries3Slots).headD []) ≤ submissionEntries3Slots.length ∧ slotsOf ((setOpcode 31 submissionEntries3Slots).headD []) ≤ (submissionEntries3S.rd Reg.QP_HEAD_TAIL_SEEN 4 + 16 + 2 ^ 32 - submissionEntries3S.rd Reg.QP_HEAD_HEAD 4) % 2 ^ 32 ∧ phasesOk (submissionEntries3S.rd Reg.QP_DESC0_LOG2_SIZE 4) (submissionEntries3S.rd Reg.QP_HEAD_HEAD 4) (List.take (slotsOf ((setOpcode 31 submissionEntries3Slots).headD [])) (setOpcode 31 submissionEntries3Slots)) = true ∧ submissionEntries3S.capacity 4 (parseEntry (List.take (slotsOf ((setOpcode 31 submissionEntries3Slots).headD [])) (setOpcode 31 submissionEntries3Slots))) = true)) ∧
    ((submissionEntries4S.sqOf 4).phase = Fetch.slots ∧
      submissionEntries4S.legacy 4 = false ∧
      submissionEntries4S.frozen (submissionEntries4S.qpTenant 4) = false ∧
      submissionEntries4S.rd Reg.QP_HEAD_HEAD 4 < 2 ^ 32 ∧
      0 = colPel false (parseEntry (List.take (slotsOf ((setOpcode 8 submissionEntries4Slots).headD [])) (setOpcode 8 submissionEntries4Slots))) ∧
      submissionEntries4C = colFields false 4 (submissionEntries4S.sqOf 4).serial { opcode := (parseEntry (List.take (slotsOf ((setOpcode 8 submissionEntries4Slots).headD [])) (setOpcode 8 submissionEntries4Slots))).opcode, fence := (parseEntry (List.take (slotsOf ((setOpcode 8 submissionEntries4Slots).headD [])) (setOpcode 8 submissionEntries4Slots))).fence, localWin := (parseEntry (List.take (slotsOf ((setOpcode 8 submissionEntries4Slots).headD [])) (setOpcode 8 submissionEntries4Slots))).localWin, immValid := (parseEntry (List.take (slotsOf ((setOpcode 8 submissionEntries4Slots).headD [])) (setOpcode 8 submissionEntries4Slots))).immValid, format := (parseEntry (List.take (slotsOf ((setOpcode 8 submissionEntries4Slots).headD [])) (setOpcode 8 submissionEntries4Slots))).format, xform := (parseEntry (List.take (slotsOf ((setOpcode 8 submissionEntries4Slots).headD [])) (setOpcode 8 submissionEntries4Slots))).xform, tag := (parseEntry (List.take (slotsOf ((setOpcode 8 submissionEntries4Slots).headD [])) (setOpcode 8 submissionEntries4Slots))).tag, laddr := (parseEntry (List.take (slotsOf ((setOpcode 8 submissionEntries4Slots).headD [])) (setOpcode 8 submissionEntries4Slots))).laddr, len := (parseEntry (List.take (slotsOf ((setOpcode 8 submissionEntries4Slots).headD [])) (setOpcode 8 submissionEntries4Slots))).len, raddr := (parseEntry (List.take (slotsOf ((setOpcode 8 submissionEntries4Slots).headD [])) (setOpcode 8 submissionEntries4Slots))).raddr, rkey := (parseEntry (List.take (slotsOf ((setOpcode 8 submissionEntries4Slots).headD [])) (setOpcode 8 submissionEntries4Slots))).rkey, imm := (parseEntry (List.take (slotsOf ((setOpcode 8 submissionEntries4Slots).headD [])) (setOpcode 8 submissionEntries4Slots))).imm, op0 := (parseEntry (List.take (slotsOf ((setOpcode 8 submissionEntries4Slots).headD [])) (setOpcode 8 submissionEntries4Slots))).op0, op1 := (parseEntry (List.take (slotsOf ((setOpcode 8 submissionEntries4Slots).headD [])) (setOpcode 8 submissionEntries4Slots))).op1, xarg := (parseEntry (List.take (slotsOf ((setOpcode 8 submissionEntries4Slots).headD [])) (setOpcode 8 submissionEntries4Slots))).xarg, inl := (parseEntry (List.take (slotsOf ((setOpcode 8 submissionEntries4Slots).headD [])) (setOpcode 8 submissionEntries4Slots))).inl, bad := (parseEntry (List.take (slotsOf ((setOpcode 8 submissionEntries4Slots).headD [])) (setOpcode 8 submissionEntries4Slots))).bad, pos := submissionEntries4S.rd Reg.QP_HEAD_HEAD 4, slots := (parseEntry (List.take (slotsOf ((setOpcode 8 submissionEntries4Slots).headD [])) (setOpcode 8 submissionEntries4Slots))).slots, raw := (parseEntry (List.take (slotsOf ((setOpcode 8 submissionEntries4Slots).headD [])) (setOpcode 8 submissionEntries4Slots))).raw } ∧
      submissionEntries4S.entryBad 4 (parseEntry (List.take (slotsOf ((setOpcode 8 submissionEntries4Slots).headD [])) (setOpcode 8 submissionEntries4Slots))) = none ∧
      (submissionEntries4S.pelOf 0).st = PelSt.ready ∧
      (submissionEntries4S.pelOf 0).op = none ∧
      submissionEntries4C.launchAt = 0 ∧
      (submissionEntries4Slots ≠ [] ∧ slotsOf ((setOpcode 8 submissionEntries4Slots).headD []) ≤ submissionEntries4Slots.length ∧ slotsOf ((setOpcode 8 submissionEntries4Slots).headD []) ≤ (submissionEntries4S.rd Reg.QP_HEAD_TAIL_SEEN 4 + 16 + 2 ^ 32 - submissionEntries4S.rd Reg.QP_HEAD_HEAD 4) % 2 ^ 32 ∧ phasesOk (submissionEntries4S.rd Reg.QP_DESC0_LOG2_SIZE 4) (submissionEntries4S.rd Reg.QP_HEAD_HEAD 4) (List.take (slotsOf ((setOpcode 8 submissionEntries4Slots).headD [])) (setOpcode 8 submissionEntries4Slots)) = true ∧ submissionEntries4S.capacity 4 (parseEntry (List.take (slotsOf ((setOpcode 8 submissionEntries4Slots).headD [])) (setOpcode 8 submissionEntries4Slots))) = true)) :=
  ⟨⟨by decide +kernel, by decide +kernel, by decide +kernel, by decide +kernel, by decide +kernel, by decide +kernel, by decide +kernel, by decide +kernel, by decide +kernel, by decide +kernel, by decide +kernel, by decide +kernel, by decide +kernel, by decide +kernel, by decide +kernel⟩, by decide +kernel, by decide +kernel, by decide +kernel⟩

def completionAndLegacyRings1S : State := qp [(Reg.CQ_PEND_FULL, 2, 1), (Reg.CQ_DESC3_NOTIFY_ADDR, 2, 8)] id State.reset

def completionAndLegacyRings2S : State := (qp [(Reg.CQ_DESC0_ARMED, 2, 1), (Reg.CQ_POS_WRITTEN, 2, 5), (Reg.QP_DESC0_CQ, 4, 3)] id State.reset).setCq 2 { armRead := true, notified := 4 }

def completionAndLegacyRings3S : State := near id ((qp [] (fun x => { x with ops := [{ serial := 9, sqe := {} }] }) State.reset).setCq 2 { waiting := [{ qp := 4, serial := some 9 }] })

def completionAndLegacyRings3E : Cqe := { qp := 4, serial := some 9 }

def completionAndLegacyRings3Rest : List Cqe := []

def completionAndLegacyRings4S : State := (qp [(Reg.CQ_POS_WRITTEN, 2, 64)] id State.reset).setCq 2 { waiting := [{ qp := 4 }] }

def completionAndLegacyRings4E : Cqe := { qp := 4 }

def completionAndLegacyRings4Rest : List Cqe := []

def completionAndLegacyRings5S : State := (put State.reset [(Reg.ADM_DESC0_BOUND, 1, 1), (Reg.ADM_DESC0_CQ_LOG2, 1, 6)]).setAdm 1 { held := [{ tag := 5 }] }

def completionAndLegacyRings5A : AdmEnt := { tag := 5 }

def completionAndLegacyRings6S : State := qp [(Reg.QP_DESC0_LEGACY, 4, 1), (Reg.QP_HEAD_TAIL_SEEN, 4, 1)] (fun x => { x with phase := .slots }) State.reset

def completionAndLegacyRings6B : List Byte := lent 1

def completionAndLegacyRings7S : State := qp [(Reg.QP_DESC0_LEGACY, 4, 1), (Reg.QP_HEAD_TAIL_SEEN, 4, 1)] (fun x => { x with phase := .slots }) State.reset

def completionAndLegacyRings7B : List Byte := lent 0x33

def completionAndLegacyRings8S : State := pel { st := .ready, cops := 1, mode := 1 } (qp [(Reg.QP_DESC0_LEGACY, 4, 1), (Reg.QP_HEAD_TAIL_SEEN, 4, 1), (Reg.TRN_QP_T0_STATE, 4, 1)] (fun x => { x with phase := .slots }) State.reset)

def completionAndLegacyRings8B : List Byte := lent 1

def completionAndLegacyRings8C : PelOp := colFields true 4 0 { parseLegacy (lent 8) with pos := 0 }

def completionAndLegacyRings9S : State := qp [(Reg.QP_DESC0_LEGACY, 4, 1)] id State.reset

def completionAndLegacyRings9B : List Byte := lent 1

def completionAndLegacyRings10S : State := qp [(Reg.QP_DESC0_LEGACY, 4, 1)] (fun x => { x with ops := [{ serial := 0, sqe := {}, st := .done }] }) State.reset

def completionAndLegacyRings10B : List Byte := lent 1

def completionAndLegacyRings10A : Op := { serial := 0, sqe := {}, st := .done }

/-- O31, CompletionAndLegacyRings: 10 states, which meet the hypotheses of its clauses. -/
theorem witness_CompletionAndLegacyRings :
    (completionAndLegacyRings1S.rd Reg.CQ_DESC0_VALID 2 = 1 ∧
      completionAndLegacyRings1S.rd Reg.CQ_DESC0_BROKEN 2 = 0 ∧
      (completionAndLegacyRings1S.cqOf 2).fenced = false ∧
      completionAndLegacyRings1S.rd Reg.CQ_PEND_FULL 2 = 1 ∧
      completionAndLegacyRings1S.rd Reg.CQ_DESC3_NOTIFY_ADDR 2 ≠ 0 ∧
      (completionAndLegacyRings1S.cqOf 2).armRead = false) ∧
    (completionAndLegacyRings2S.rd Reg.CQ_DESC0_VALID 2 = 1 ∧
      completionAndLegacyRings2S.rd Reg.CQ_DESC0_BROKEN 2 = 0 ∧
      (completionAndLegacyRings2S.cqOf 2).fenced = false ∧
      (completionAndLegacyRings2S.cqOf 2).armRead = true ∧
      completionAndLegacyRings2S.rd Reg.CQ_DESC0_ARMED 2 = 1 ∧
      d32 (completionAndLegacyRings2S.rd Reg.CQ_POS_WRITTEN 2) 1 ≠ 0 ∧
      d32 (completionAndLegacyRings2S.rd Reg.CQ_POS_WRITTEN 2) (completionAndLegacyRings2S.cqOf 2).notified ≠ 0 ∧
      Code.accessViolation ∈ [Code.accessViolation, Code.pageTimeout, Code.hostDataError] ∧
      (completionAndLegacyRings2S.cqOf 2).waiting = [] ∧
      (∀ q ∈ completionAndLegacyRings2S.qpList, completionAndLegacyRings2S.rd Reg.QP_DESC0_CQ q ≠ 2)) ∧
    (completionAndLegacyRings3S.rd Reg.CQ_DESC0_VALID 2 = 1 ∧
      completionAndLegacyRings3S.rd Reg.CQ_DESC0_BROKEN 2 = 0 ∧
      (completionAndLegacyRings3S.cqOf 2).fenced = false ∧
      (completionAndLegacyRings3S.cqOf 2).waiting = completionAndLegacyRings3E :: completionAndLegacyRings3Rest ∧
      completionAndLegacyRings3E.wait = [] ∧
      completionAndLegacyRings3S.cqRoom 2 = true ∧
      (completionAndLegacyRings3S.sqOf completionAndLegacyRings3E.qp).headWritten = completionAndLegacyRings3S.rd Reg.QP_HEAD_HEAD completionAndLegacyRings3E.qp ∧
      completionAndLegacyRings3E.msn = none ∧
      completionAndLegacyRings3S.rd Reg.CQ_DESC0_ARMED 2 = 0 ∧
      completionAndLegacyRings3S.pathFor (completionAndLegacyRings3S.rd Reg.CQ_DESC0_ATTACH 2) 2097152 = some 0 ∧
      (completionAndLegacyRings3S.nearOf 0).waitP = [] ∧
      1 ≤ (completionAndLegacyRings3S.nearOf 0).crdP ∧
      1 ≤ (completionAndLegacyRings3S.nearOf 0).crdD ∧
      (completionAndLegacyRings3S.nearOf 0).replay.length < 512 ∧
      (completionAndLegacyRings3S.nearOf 0).resting = false) ∧
    (completionAndLegacyRings4S.rd Reg.CQ_DESC0_VALID 2 = 1 ∧
      completionAndLegacyRings4S.rd Reg.CQ_DESC0_BROKEN 2 = 0 ∧
      (completionAndLegacyRings4S.cqOf 2).fenced = false ∧
      (completionAndLegacyRings4S.cqOf 2).waiting = completionAndLegacyRings4E :: completionAndLegacyRings4Rest ∧
      completionAndLegacyRings4E.wait = [] ∧
      completionAndLegacyRings4S.cqRoom 2 = false ∧
      completionAndLegacyRings4S.rd Reg.CQ_PEND_FULL 2 = 0) ∧
    (completionAndLegacyRings5S.rd Reg.ADM_DESC0_BOUND 1 = 1 ∧
      (completionAndLegacyRings5S.admOf 1).held = [completionAndLegacyRings5A] ∧
      completionAndLegacyRings5A.event = false ∧
      (completionAndLegacyRings5S.admOf 1).lost = 0 ∧
      ((completionAndLegacyRings5S.admOf 1).written + 2 ^ 32 - 0 % 2 ^ 32) % 2 ^ 32 < 2 ^ completionAndLegacyRings5S.rd Reg.ADM_DESC0_CQ_LOG2 1) ∧
    (completionAndLegacyRings6S.legacy 4 = true ∧
      completionAndLegacyRings6B ≠ [] ∧
      completionAndLegacyRings6S.entryBad 4 (parseLegacy ((setOpcode 1 [completionAndLegacyRings6B]).headD [])) = none ∧
      ((completionAndLegacyRings6S.sqOf 4).phase = Fetch.slots ∧ completionAndLegacyRings6S.frozen (completionAndLegacyRings6S.qpTenant 4) = false ∧ completionAndLegacyRings6S.legacyLeft 4 ≠ 0 ∧ legacyOwn ((setOpcode 1 [completionAndLegacyRings6B]).headD []) = true ∧ completionAndLegacyRings6S.capacity 4 (parseLegacy ((setOpcode 1 [completionAndLegacyRings6B]).headD [])) = true) ∧
      completionAndLegacyRings6S.entryBad 4 (parseLegacy ((setOpcode 2 [completionAndLegacyRings6B]).headD [])) = none ∧
      ((completionAndLegacyRings6S.sqOf 4).phase = Fetch.slots ∧ completionAndLegacyRings6S.frozen (completionAndLegacyRings6S.qpTenant 4) = false ∧ completionAndLegacyRings6S.legacyLeft 4 ≠ 0 ∧ legacyOwn ((setOpcode 2 [completionAndLegacyRings6B]).headD []) = true ∧ completionAndLegacyRings6S.capacity 4 (parseLegacy ((setOpcode 2 [completionAndLegacyRings6B]).headD [])) = true) ∧
      completionAndLegacyRings6S.entryBad 4 (parseLegacy ((setOpcode 3 [completionAndLegacyRings6B]).headD [])) = none ∧
      ((completionAndLegacyRings6S.sqOf 4).phase = Fetch.slots ∧ completionAndLegacyRings6S.frozen (completionAndLegacyRings6S.qpTenant 4) = false ∧ completionAndLegacyRings6S.legacyLeft 4 ≠ 0 ∧ legacyOwn ((setOpcode 3 [completionAndLegacyRings6B]).headD []) = true ∧ completionAndLegacyRings6S.capacity 4 (parseLegacy ((setOpcode 3 [completionAndLegacyRings6B]).headD [])) = true) ∧
      completionAndLegacyRings6S.entryBad 4 (parseLegacy ((setOpcode 4 [completionAndLegacyRings6B]).headD [])) = none ∧
      ((completionAndLegacyRings6S.sqOf 4).phase = Fetch.slots ∧ completionAndLegacyRings6S.frozen (completionAndLegacyRings6S.qpTenant 4) = false ∧ completionAndLegacyRings6S.legacyLeft 4 ≠ 0 ∧ legacyOwn ((setOpcode 4 [completionAndLegacyRings6B]).headD []) = true ∧ completionAndLegacyRings6S.capacity 4 (parseLegacy ((setOpcode 4 [completionAndLegacyRings6B]).headD [])) = true) ∧
      completionAndLegacyRings6S.entryBad 4 (parseLegacy ((setOpcode 5 [completionAndLegacyRings6B]).headD [])) = none ∧
      ((completionAndLegacyRings6S.sqOf 4).phase = Fetch.slots ∧ completionAndLegacyRings6S.frozen (completionAndLegacyRings6S.qpTenant 4) = false ∧ completionAndLegacyRings6S.legacyLeft 4 ≠ 0 ∧ legacyOwn ((setOpcode 5 [completionAndLegacyRings6B]).headD []) = true ∧ completionAndLegacyRings6S.capacity 4 (parseLegacy ((setOpcode 5 [completionAndLegacyRings6B]).headD [])) = true) ∧
      completionAndLegacyRings6S.entryBad 4 (parseLegacy ((setOpcode 16 [completionAndLegacyRings6B]).headD [])) = none ∧
      ((completionAndLegacyRings6S.sqOf 4).phase = Fetch.slots ∧ completionAndLegacyRings6S.frozen (completionAndLegacyRings6S.qpTenant 4) = false ∧ completionAndLegacyRings6S.legacyLeft 4 ≠ 0 ∧ legacyOwn ((setOpcode 16 [completionAndLegacyRings6B]).headD []) = true ∧ completionAndLegacyRings6S.capacity 4 (parseLegacy ((setOpcode 16 [completionAndLegacyRings6B]).headD [])) = true) ∧
      1 ≤ (parseLegacy completionAndLegacyRings6B).opcode ∧
      (parseLegacy completionAndLegacyRings6B).opcode ≤ 5 ∧
      (completionAndLegacyRings6S.sqOf 4).phase = Fetch.slots ∧
      completionAndLegacyRings6S.frozen (completionAndLegacyRings6S.qpTenant 4) = false ∧
      completionAndLegacyRings6S.legacyLeft 4 = 1 ∧
      legacyOwn completionAndLegacyRings6B = true ∧
      completionAndLegacyRings6S.capacity 4 (parseLegacy completionAndLegacyRings6B) = true ∧
      completionAndLegacyRings6S.entryBad 4 (parseLegacy completionAndLegacyRings6B) = none ∧
      completionAndLegacyRings6S.rd Reg.QP_HEAD_HEAD 4 < 2 * completionAndLegacyRings6S.ringSize 4 ∧
      2 * completionAndLegacyRings6S.ringSize 4 ≤ 2 ^ 32 ∧
      (completionAndLegacyRings6S.sqOf 4).bell = false ∧
      (completionAndLegacyRings6S.sqOf 4).again = false) ∧
    (completionAndLegacyRings7S.legacy 4 = true ∧
      completionAndLegacyRings7B ≠ [] ∧
      (completionAndLegacyRings7S.entryBad 4 (parseLegacy completionAndLegacyRings7B)).isSome = true ∧
      completionAndLegacyRings7S.cst 4 = Cst.reset ∧
      (completionAndLegacyRings7S.sqOf 4).ops = [] ∧
      completionAndLegacyRings7S.pels = [] ∧
      ((completionAndLegacyRings7S.sqOf 4).phase = Fetch.slots ∧ completionAndLegacyRings7S.frozen (completionAndLegacyRings7S.qpTenant 4) = false ∧ completionAndLegacyRings7S.legacyLeft 4 ≠ 0 ∧ legacyOwn ((setOpcode (byteAt completionAndLegacyRings7B 0) [completionAndLegacyRings7B]).headD []) = true ∧ completionAndLegacyRings7S.capacity 4 (parseLegacy ((setOpcode (byteAt completionAndLegacyRings7B 0) [completionAndLegacyRings7B]).headD [])) = true)) ∧
    (completionAndLegacyRings8S.legacy 4 = true ∧
      completionAndLegacyRings8B ≠ [] ∧
      completionAndLegacyRings8S.entryBad 4 (parseLegacy ((setOpcode 0 [completionAndLegacyRings8B]).headD [])) = none ∧
      completionAndLegacyRings8S.cst 4 = Cst.connected ∧
      (completionAndLegacyRings8S.sqOf 4).ops = [] ∧
      ((completionAndLegacyRings8S.sqOf 4).phase = Fetch.slots ∧ completionAndLegacyRings8S.frozen (completionAndLegacyRings8S.qpTenant 4) = false ∧ completionAndLegacyRings8S.legacyLeft 4 ≠ 0 ∧ legacyOwn ((setOpcode 0 [completionAndLegacyRings8B]).headD []) = true ∧ completionAndLegacyRings8S.capacity 4 (parseLegacy ((setOpcode 0 [completionAndLegacyRings8B]).headD [])) = true) ∧
      0 = colPel true (parseLegacy ((setOpcode 8 [completionAndLegacyRings8B]).headD [])) ∧
      completionAndLegacyRings8C = colFields true 4 (completionAndLegacyRings8S.sqOf 4).serial { opcode := (parseLegacy ((setOpcode 8 [completionAndLegacyRings8B]).headD [])).opcode, fence := (parseLegacy ((setOpcode 8 [completionAndLegacyRings8B]).headD [])).fence, localWin := (parseLegacy ((setOpcode 8 [completionAndLegacyRings8B]).headD [])).localWin, immValid := (parseLegacy ((setOpcode 8 [completionAndLegacyRings8B]).headD [])).immValid, format := (parseLegacy ((setOpcode 8 [completionAndLegacyRings8B]).headD [])).format, xform := (parseLegacy ((setOpcode 8 [completionAndLegacyRings8B]).headD [])).xform, tag := (parseLegacy ((setOpcode 8 [completionAndLegacyRings8B]).headD [])).tag, laddr := (parseLegacy ((setOpcode 8 [completionAndLegacyRings8B]).headD [])).laddr, len := (parseLegacy ((setOpcode 8 [completionAndLegacyRings8B]).headD [])).len, raddr := (parseLegacy ((setOpcode 8 [completionAndLegacyRings8B]).headD [])).raddr, rkey := (parseLegacy ((setOpcode 8 [completionAndLegacyRings8B]).headD [])).rkey, imm := (parseLegacy ((setOpcode 8 [completionAndLegacyRings8B]).headD [])).imm, op0 := (parseLegacy ((setOpcode 8 [completionAndLegacyRings8B]).headD [])).op0, op1 := (parseLegacy ((setOpcode 8 [completionAndLegacyRings8B]).headD [])).op1, xarg := (parseLegacy ((setOpcode 8 [completionAndLegacyRings8B]).headD [])).xarg, inl := (parseLegacy ((setOpcode 8 [completionAndLegacyRings8B]).headD [])).inl, bad := (parseLegacy ((setOpcode 8 [completionAndLegacyRings8B]).headD [])).bad, pos := completionAndLegacyRings8S.rd Reg.QP_HEAD_HEAD 4, slots := (parseLegacy ((setOpcode 8 [completionAndLegacyRings8B]).headD [])).slots, raw := (parseLegacy ((setOpcode 8 [completionAndLegacyRings8B]).headD [])).raw } ∧
      completionAndLegacyRings8S.entryBad 4 (parseLegacy ((setOpcode 8 [completionAndLegacyRings8B]).headD [])) = none ∧
      (completionAndLegacyRings8S.pelOf 0).st = PelSt.ready ∧
      (completionAndLegacyRings8S.pelOf 0).op = none ∧
      ((completionAndLegacyRings8S.sqOf 4).phase = Fetch.slots ∧ completionAndLegacyRings8S.frozen (completionAndLegacyRings8S.qpTenant 4) = false ∧ completionAndLegacyRings8S.legacyLeft 4 ≠ 0 ∧ legacyOwn ((setOpcode 8 [completionAndLegacyRings8B]).headD []) = true ∧ completionAndLegacyRings8S.capacity 4 (parseLegacy ((setOpcode 8 [completionAndLegacyRings8B]).headD [])) = true)) ∧
    (completionAndLegacyRings9S.legacy 4 = true ∧
      completionAndLegacyRings9B ≠ [] ∧
      completionAndLegacyRings9S.qpValid 4 = true ∧
      completionAndLegacyRings9S.bellOff 4 = false ∧
      completionAndLegacyRings9S.frozen (completionAndLegacyRings9S.qpTenant 4) = false ∧
      completionAndLegacyRings9S.mayFetch = true ∧
      (completionAndLegacyRings9S.sqOf 4).phase = Fetch.none ∧
      1 < 2 * completionAndLegacyRings9S.ringSize 4 ∧
      1 < 2 ^ 32 ∧
      (1 + 2 * completionAndLegacyRings9S.ringSize 4 - completionAndLegacyRings9S.rd Reg.QP_HEAD_HEAD 4) % (2 * completionAndLegacyRings9S.ringSize 4) ≤ completionAndLegacyRings9S.ringSize 4 ∧
      completionAndLegacyRings9S.legacyLeft 4 ≤ (1 + 2 * completionAndLegacyRings9S.ringSize 4 - completionAndLegacyRings9S.rd Reg.QP_HEAD_HEAD 4) % (2 * completionAndLegacyRings9S.ringSize 4) ∧
      (1 + 2 * completionAndLegacyRings9S.ringSize 4 - completionAndLegacyRings9S.rd Reg.QP_HEAD_HEAD 4) % (2 * completionAndLegacyRings9S.ringSize 4) ≠ 0) ∧
    (completionAndLegacyRings10S.legacy 4 = true ∧
      completionAndLegacyRings10B ≠ [] ∧
      (completionAndLegacyRings10S.sqOf 4).ops = completionAndLegacyRings10A :: default ∧
      completionAndLegacyRings10A.st = OpSt.done ∧
      completionAndLegacyRings10S.sched 4 ≠ Sched.fenced ∧
      (completionAndLegacyRings10S.sqOf 4).wbFlush = none ∧
      completionAndLegacyRings10A.paths = 0 ∧
      (completionAndLegacyRings10S.connOf 4).recs = []) :=
  ⟨by decide +kernel, by decide +kernel, ⟨by decide +kernel, by decide +kernel, by decide +kernel⟩, by decide +kernel, by decide +kernel, ⟨by decide +kernel, by decide +kernel, by decide +kernel, by decide +kernel, by decide +kernel, by decide +kernel, by decide +kernel, by decide +kernel, by decide +kernel, by decide +kernel, by decide +kernel, by decide +kernel, by decide +kernel, by decide +kernel⟩, by decide +kernel, by decide +kernel, by decide +kernel, by decide +kernel⟩

def queuePairCommands1S : State := adm []

def queuePairCommands1E : List Byte := en [(0,1,0x20)]

def queuePairCommands2S : State := adm []

def queuePairCommands2E : List Byte := en [(8,8,0x1000),(16,8,64),(24,8,8),(32,2,0),(34,1,6)]

def queuePairCommands3S : State := adm [(Reg.CQ_DESC0_VALID, 2, 1), (Reg.CQ_DESC0_TENANT, 2, 1)]

def queuePairCommands3E : List Byte := en [(8,2,2)]

def queuePairCommands4S : State := adm [(Reg.CQ_DESC0_VALID, 2, 1), (Reg.CQ_DESC0_TENANT, 2, 1)]

def queuePairCommands4E : List Byte := en [(8,8,0x1000),(16,8,64),(24,2,0),(26,2,2),(28,1,6),(29,1,0),(30,2,4)]

def queuePairCommands5S : State := adq [] id

def queuePairCommands5E : List Byte := en [(8,2,4),(11,1,5),(12,2,9),(41,1,1),(42,1,1)]

def queuePairCommands6S : State := adq [(Reg.TRN_QP_T0_STATE, 4, 1)] id

def queuePairCommands6E : List Byte := en [(8,2,4),(11,1,5),(12,2,9),(41,1,1),(42,1,1)]

def queuePairCommands7S : State := adq [(Reg.TRN_QP_T0_STATE, 4, 3)] id

def queuePairCommands7E : List Byte := en [(8,2,4),(11,1,5),(12,2,9),(41,1,1),(42,1,1)]

def queuePairCommands8S : State := adq [] (fun x => { x with destroying := some ({ slot := 1, tag := 6, cmd := 4 }, 2) })

def queuePairCommands8O : Origin := { slot := 1, tag := 6, cmd := 4 }

/-- O32, QueuePairCommands: 8 states, which meet the hypotheses of its clauses. -/
theorem witness_QueuePairCommands :
    ((byteAt queuePairCommands1E 0 = 0 ∨ 15 < byteAt queuePairCommands1E 0 ∧ byteAt queuePairCommands1E 0 < 64) ∧
      AdmOpen queuePairCommands1S 1 ∧
      (queuePairCommands1S.admOf 1).busy = false) ∧
    (leAt (withByte 0 1 queuePairCommands2E) 32 2 = 0 ∧
      addrOk (leAt (withByte 0 1 queuePairCommands2E) 8 8) 4096 = true ∧
      addrOk (leAt (withByte 0 1 queuePairCommands2E) 16 8) 64 = true ∧
      addrOk (leAt (withByte 0 1 queuePairCommands2E) 24 8) 8 = true ∧
      6 ≤ byteAt (withByte 0 1 queuePairCommands2E) 34 ∧
      byteAt (withByte 0 1 queuePairCommands2E) 34 ≤ 16 ∧
      queuePairCommands2S.ctxSlot 1 0 = some 0 ∧
      queuePairCommands2S.pickCq 1 = some 0 ∧
      AdmOpen queuePairCommands2S 1 ∧
      (queuePairCommands2S.admOf 1).busy = false) ∧
    (leAt (withByte 0 2 queuePairCommands3E) 8 2 = 2 ∧
      queuePairCommands3S.ownsCq 1 2 = true ∧
      (∀ q ∈ queuePairCommands3S.qpList, queuePairCommands3S.rd Reg.QP_DESC0_CQ q ≠ 2) ∧
      (queuePairCommands3S.cqOf 2).waiting = [] ∧
      AdmOpen queuePairCommands3S 1 ∧
      (queuePairCommands3S.admOf 1).busy = false) ∧
    (queuePairCommands4S.pickQps 1 1 = some 0 ∧
      queuePairCommands4S.chooseCluster = some 0 ∧
      queuePairCommands4S.ctxSlot 1 0 = some 0 ∧
      leAt (withByte 0 3 queuePairCommands4E) 24 2 = 0 ∧
      leAt (withByte 0 3 queuePairCommands4E) 26 2 = 2 ∧
      addrOk (leAt (withByte 0 3 queuePairCommands4E) 8 8) 4096 = true ∧
      addrOk (leAt (withByte 0 3 queuePairCommands4E) 16 8) 64 = true ∧
      6 ≤ byteAt (withByte 0 3 queuePairCommands4E) 28 ∧
      byteAt (withByte 0 3 queuePairCommands4E) 28 ≤ 16 ∧
      byteAt (withByte 0 3 queuePairCommands4E) 29 ≤ 15 ∧
      1 ≤ leAt (withByte 0 3 queuePairCommands4E) 30 2 ∧
      leAt (withByte 0 3 queuePairCommands4E) 30 2 ≤ 1024 ∧
      queuePairCommands4S.ownsCq 1 2 = true ∧
      AdmOpen queuePairCommands4S 1 ∧
      (queuePairCommands4S.admOf 1).busy = false ∧
      leAt (withByte 0 7 queuePairCommands4E) 24 2 = 0 ∧
      addrOk (leAt (withByte 0 7 queuePairCommands4E) 8 8) 4096 = true ∧
      6 ≤ byteAt (withByte 0 7 queuePairCommands4E) 28 ∧
      byteAt (withByte 0 7 queuePairCommands4E) 28 ≤ 12 ∧
      byteAt (withByte 0 7 queuePairCommands4E) 29 ≤ 15 ∧
      1 ≤ leAt (withByte 0 7 queuePairCommands4E) 30 2 ∧
      leAt (withByte 0 7 queuePairCommands4E) 30 2 ≤ min 1024 (2 ^ byteAt (withByte 0 7 queuePairCommands4E) 28) ∧
      ((queuePairCommands4S.legacyCount fun (x : Nat) => true) < 128) ∧
      ((queuePairCommands4S.legacyCount fun (q : Nat) => queuePairCommands4S.qpTenant q == 1) < queuePairCommands4S.rd Reg.TEN_SLICE5_LEGACY 1)) ∧
    (leAt (withByte 0 4 queuePairCommands5E) 8 2 = 4 ∧
      (queuePairCommands5S.ownsQp 1 4 = true ∧ queuePairCommands5S.isLink 4 = false) ∧
      (queuePairCommands5S.sqOf 4).ops = [] ∧
      queuePairCommands5S.pels = [] ∧
      AdmOpen queuePairCommands5S 1 ∧
      (queuePairCommands5S.admOf 1).busy = false ∧
      leAt (withByte 10 2 (withByte 0 5 queuePairCommands5E)) 8 2 = 4 ∧
      queuePairCommands5S.cst 4 = Cst.reset ∧
      queuePairCommands5S.peerOk 4 (peerAt (withByte 10 2 (withByte 0 5 queuePairCommands5E))) = true ∧
      (queuePairCommands5S.connOf 4).lastEpoch ≠ some (byteAt (withByte 10 2 (withByte 0 5 queuePairCommands5E)) 11) ∧
      byteAt (withByte 10 2 (withByte 0 5 queuePairCommands5E)) 40 ≤ 3 ∧
      byteAt (withByte 10 2 (withByte 0 5 queuePairCommands5E)) 42 % 16 ≠ 0 ∧
      queuePairCommands5S.cipReady 4 = true ∧
      leAt (withByte 0 6 queuePairCommands5E) 8 2 = 4 ∧
      queuePairCommands5S.ownsQp 1 4 = true) ∧
    (queuePairCommands6S.cst 4 = Cst.connected ∧
      leAt (withByte 10 3 (withByte 0 5 queuePairCommands6E)) 8 2 = 4 ∧
      (queuePairCommands6S.ownsQp 1 4 = true ∧ queuePairCommands6S.isLink 4 = false) ∧
      queuePairCommands6S.peerOk 4 (peerAt (withByte 10 3 (withByte 0 5 queuePairCommands6E))) = true ∧
      AdmOpen queuePairCommands6S 1 ∧
      (queuePairCommands6S.admOf 1).busy = false ∧
      leAt (withByte 10 4 (withByte 0 5 queuePairCommands6E)) 8 2 = 4 ∧
      (queuePairCommands6S.sqOf 4).ops = [] ∧
      queuePairCommands6S.pels = []) ∧
    (leAt (withByte 10 0 (withByte 0 5 queuePairCommands7E)) 8 2 = 4 ∧
      (queuePairCommands7S.ownsQp 1 4 = true ∧ queuePairCommands7S.isLink 4 = false) ∧
      queuePairCommands7S.cst 4 = Cst.error ∧
      queuePairCommands7S.cqesLeft 4 = false ∧
      queuePairCommands7S.legacy 4 = false ∧
      AdmOpen queuePairCommands7S 1 ∧
      (queuePairCommands7S.admOf 1).busy = false) ∧
    ((queuePairCommands8S.sqOf 4).destroying = some (queuePairCommands8O, 2) ∧
      queuePairCommands8S.cqesLeft 4 = false ∧
      queuePairCommands8O.cmd < 64 ∧
      AdmOpen queuePairCommands8S queuePairCommands8O.slot ∧
      queuePairCommands8O.mbx = none) :=
  ⟨⟨by decide +kernel, ⟨by decide +kernel, by decide +kernel, by decide +kernel, by decide +kernel, by decide +kernel⟩, by decide +kernel⟩, ⟨by decide +kernel, by decide +kernel, by decide +kernel, by decide +kernel, by decide +kernel, by decide +kernel, by decide +kernel, by decide +kernel, ⟨by decide +kernel, by decide +kernel, by decide +kernel, by decide +kernel, by decide +kernel⟩, by decide +kernel⟩, ⟨by decide +kernel, by decide +kernel, by decide +kernel, by decide +kernel, ⟨by decide +kernel, by decide +kernel, by decide +kernel, by decide +kernel, by decide +kernel⟩, by decide +kernel⟩, ⟨by decide +kernel, chooseCluster_of_one (by decide +kernel), by decide +kernel, by decide +kernel, by decide +kernel, by decide +kernel, by decide +kernel, by decide +kernel, by decide +kernel, by decide +kernel, by decide +kernel, by decide +kernel, by decide +kernel, ⟨by decide +kernel, by decide +kernel, by decide +kernel, by decide +kernel, by decide +kernel⟩, by decide +kernel⟩, ⟨by decide +kernel, by decide +kernel, by decide +kernel, by decide +kernel, ⟨by decide +kernel, by decide +kernel, by decide +kernel, by decide +kernel, by decide +kernel⟩, by decide +kernel⟩, ⟨by decide +kernel, by decide +kernel, by decide +kernel, by decide +kernel, ⟨by decide +kernel, by decide +kernel, by decide +kernel, by decide +kernel, by decide +kernel⟩, by decide +kernel⟩, ⟨by decide +kernel, by decide +kernel, by decide +kernel, by decide +kernel, by decide +kernel, ⟨by decide +kernel, by decide +kernel, by decide +kernel, by decide +kernel, by decide +kernel⟩, by decide +kernel⟩, ⟨by decide +kernel, by decide +kernel, by decide +kernel, ⟨by decide +kernel, by decide +kernel, by decide +kernel, by decide +kernel, by decide +kernel⟩, by decide +kernel⟩⟩

def objectCommands1S : State := adm []

def objectCommands1E : List Byte := en [(8,2,3),(16,8,0x1000)]

def objectCommands2S : State := adm []

def objectCommands2E : List Byte := en [(8,8,0x1000),(16,8,64),(26,1,3),(28,2,0xFFFF)]

def objectCommands3S : State := adm []

def objectCommands3E : List Byte := en []

def objectCommands4S : State := adm [(Reg.TRN_REG_D0_VALID, 1, 1), (Reg.TRN_REG_D0_TENANT, 1, 1)]

def objectCommands4E : List Byte := en [(8,4,1)]

def objectCommands5S : State := { adm [] with ten := { jobs := [.dereg { slot := 1, cmd := 11 } 1] } }

def objectCommands5O : Origin := { slot := 1, cmd := 11 }

def objectCommands6S : State := { adm [] with ten := { jobs := [.unreg { slot := 1, cmd := 9 } 4] } }

def objectCommands6O : Origin := { slot := 1, cmd := 9 }

def objectCommands7S : State := adm []

def objectCommands7E : List Byte := en [(10,2,0),(12,4,7),(24,4,68)]

def objectCommands7X : AdmX := { mem := colImg }

def objectCommands8S : State := pel { st := .reserved, tenant := 1, modes := 1, slots := 2, baseQp := 4 } (adq [] id)

def objectCommands8E : List Byte := en [(10,2,0),(12,4,2),(16,8,64),(29,1,12),(45,1,1),(46,1,1),(48,4,10000),(52,4,2)]

def objectCommands8X : AdmX := { mem := en [] }

def objectCommands10S : State := pel { st := .ready, tenant := 1, baseQp := 4 } (adm [])

def objectCommands10E : List Byte := en [(8,2,0)]

def objectCommands11S : State := adm []

def objectCommands11E : List Byte := en [(8,8,2 ^ 22)]

def objectCommands12S : State := (adm [(Reg.TEN_EXT0_STATE, 1, 3), (Reg.TEN_EXT0_TENANT, 1, 1), (Reg.TEN_EXT1_BASE_UNIT, 1, 1), (Reg.TEN_EXT1_UNITS, 1, 4)]).setSlice 1 { adopted := [1] }

def objectCommands12E : List Byte := en [(20,2,1)]

def objectCommands13S : State := { adm [(Reg.TEN_EXT0_STATE, 1, 1), (Reg.TEN_EXT0_TENANT, 1, 1), (Reg.TEN_EXT1_BASE_UNIT, 1, 1), (Reg.TEN_EXT1_UNITS, 1, 4)] with gddr := [(5, 7), (2097153, 9)] }

def objectCommands13E : List Byte := en [(8,2,1)]

def objectCommands14S : State := adm [(Reg.TEN_EXT0_STATE, 1, 4)]

/-- O33, ObjectCommands: 13 states, which meet the hypotheses of its clauses. -/
theorem witness_ObjectCommands :
    (objectCommands1S.ten.jobs = [] ∧
      leAt (withByte 0 8 objectCommands1E) 8 2 = 3 ∧
      byteAt (withByte 0 8 objectCommands1E) 10 = 0 ∧
      leAt (withByte 0 8 objectCommands1E) 16 8 = 4096 ∧
      4096 < 2 ^ 56 ∧
      objectCommands1S.attLive 1 0 = true ∧
      objectCommands1S.descOf 1 3 = none ∧
      ((objectCommands1S.pickIndex 1 0 16384 (objectCommands1S.rd Reg.TEN_SLICE3_CONTEXTS 1) Reg.XLT_CTX_DESC0_VALID Reg.XLT_CTX_DESC1_TENANT fun (n : Nat) => objectCommands1S.on Reg.XLT_CTX_DESC0_VALID n) = some 0) ∧
      AdmOpen objectCommands1S 1 ∧
      (objectCommands1S.admOf 1).busy = false) ∧
    (objectCommands2S.ten.jobs = [] ∧
      leAt (withByte 0 10 objectCommands2E) 8 8 = 4096 ∧
      leAt (withByte 0 10 objectCommands2E) 16 8 = 64 ∧
      leAt (withByte 0 10 objectCommands2E) 24 2 = 0 ∧
      byteAt (withByte 0 10 objectCommands2E) 26 = 3 ∧
      leAt (withByte 0 10 objectCommands2E) 28 2 = 65535 ∧
      64 ≤ 2 ^ 46 ∧
      canonical 4096 = true ∧
      (objectCommands2S.descOf 1 0).isSome = true ∧
      ((objectCommands2S.pickIndex 1 1 131072 (objectCommands2S.rd Reg.TEN_SLICE2_REGIONS 1) Reg.TRN_REG_D0_VALID Reg.TRN_REG_D0_TENANT fun (n : Nat) => objectCommands2S.on Reg.TRN_REG_D0_VALID n) = some 1) ∧
      AdmOpen objectCommands2S 1 ∧
      (objectCommands2S.admOf 1).busy = false) ∧
    (leAt (withByte 0 9 objectCommands3E) 8 2 = 0 ∧
      objectCommands3S.descOf 1 0 = some 4 ∧
      objectCommands3S.ctxUsed 1 0 = false ∧
      AdmOpen objectCommands3S 1 ∧
      (objectCommands3S.admOf 1).busy = false) ∧
    (leAt (withByte 0 11 objectCommands4E) 8 4 = objectCommands4S.regKey 1 ∧
      1 < 2 ^ 17 ∧
      objectCommands4S.rd Reg.TRN_REG_D0_GENERATION 1 < 2 ^ 15 ∧
      objectCommands4S.rd Reg.TRN_REG_D0_VALID 1 = 1 ∧
      objectCommands4S.rd Reg.TRN_REG_D0_TENANT 1 = 1 ∧
      AdmOpen objectCommands4S 1 ∧
      (objectCommands4S.admOf 1).busy = false) ∧
    (objectCommands5O.slot = 1 ∧
      objectCommands5O.cmd < 64 ∧
      objectCommands5S.ten.jobs = [Job.dereg objectCommands5O 1] ∧
      AdmOpen objectCommands5S objectCommands5O.slot ∧
      objectCommands5O.mbx = none) ∧
    (objectCommands6O.slot = 1 ∧
      objectCommands6O.cmd < 64 ∧
      objectCommands6S.ten.jobs = [Job.unreg objectCommands6O 4] ∧
      AdmOpen objectCommands6S objectCommands6O.slot ∧
      objectCommands6O.mbx = none) ∧
    (imgOk objectCommands7X.mem (leAt (withByte 8 0 (withByte 0 12 objectCommands7E)) 24 4) = true ∧
      objectCommands7S.ctxSlot 1 (leAt (withByte 8 0 (withByte 0 12 objectCommands7E)) 10 2) = some 0 ∧
      ((List.any objectCommands7S.pels fun (v : Nat × Pel) => v.2.st != PelSt.free && v.2.group == leAt (withByte 8 0 (withByte 0 12 objectCommands7E)) 12 4) = false) ∧
      objectCommands7S.pickPel 1 = some 0 ∧
      leAt objectCommands7X.mem 16 2 = 2 ∧
      objectCommands7S.pickQps 1 2 = some 0 ∧
      objectCommands7S.chooseCluster = some 0 ∧
      objectCommands7S.codePlace 0 (leAt objectCommands7X.mem 8 4 / 4) = some 65536 ∧
      64 + leAt objectCommands7X.mem 8 4 ≤ objectCommands7X.mem.length ∧
      AdmOpen objectCommands7S 1 ∧
      (objectCommands7S.admOf 1).busy = false) ∧
    (leAt (withByte 8 1 (withByte 0 12 objectCommands8E)) 10 2 = 0 ∧
      (objectCommands8S.pelOf 0).tenant = 1 ∧
      objectCommands8S.bindOk (objectCommands8S.pelOf 0) (withByte 8 1 (withByte 0 12 objectCommands8E)) (memberTable objectCommands8X.mem (leAt (withByte 8 1 (withByte 0 12 objectCommands8E)) 12 4)) = true ∧
      objectCommands8S.cipReady (objectCommands8S.pelOf 0).baseQp = true ∧
      AdmOpen objectCommands8S 1 ∧
      (objectCommands8S.admOf 1).busy = false ∧
      leAt (withByte 0 13 objectCommands8E) 8 2 = 0 ∧
      (objectCommands8S.pelOf 0).st ∈ [PelSt.reserved, PelSt.excluded, PelSt.error]) ∧
    (leAt (withByte 0 13 objectCommands10E) 8 2 = 0 ∧
      (objectCommands10S.pelOf 0).tenant = 1 ∧
      (objectCommands10S.pelOf 0).st = PelSt.ready ∧
      AdmOpen objectCommands10S 1 ∧
      (objectCommands10S.admOf 1).busy = false) ∧
    (leAt (withByte 18 (clrBit (byteAt (withByte 0 14 objectCommands11E) 18) 1) (withByte 0 14 objectCommands11E)) 8 8 = 2 * unitBytes ∧
      objectCommands11S.unitsLeft 1 2 = true ∧
      objectCommands11S.pickExt 1 = some 0 ∧
      objectCommands11S.pickUnits 1 2 = some 1 ∧
      AdmOpen objectCommands11S 1 ∧
      (objectCommands11S.admOf 1).busy = false) ∧
    (leAt (withByte 18 (setBit (byteAt (withByte 0 14 objectCommands12E) 18) 1) (withByte 0 14 objectCommands12E)) 20 2 = 1 ∧
      objectCommands12S.xst 1 = Xs.kept ∧
      objectCommands12S.rd Reg.TEN_EXT0_TENANT 1 = 1 ∧
      1 ∈ (objectCommands12S.sliceOf 1).adopted ∧
      AdmOpen objectCommands12S 1 ∧
      (objectCommands12S.admOf 1).busy = false) ∧
    (leAt (withByte 0 15 objectCommands13E) 8 2 = 1 ∧
      (objectCommands13S.xst 1 = Xs.bound ∨ objectCommands13S.xst 1 = Xs.preserved) ∧
      objectCommands13S.rd Reg.TEN_EXT0_TENANT 1 = 1 ∧
      objectCommands13S.winRegion 1 = false ∧
      AdmOpen objectCommands13S 1 ∧
      (objectCommands13S.admOf 1).busy = false) ∧
    (objectCommands14S.xst 1 = Xs.wiping) :=
  ⟨⟨by decide +kernel, by decide +kernel, by decide +kernel, by decide +kernel, by decide +kernel, by decide +kernel, by decide +kernel, by decide +kernel, ⟨by decide +kernel, by decide +kernel, by decide +kernel, by decide +kernel, by decide +kernel⟩, by decide +kernel⟩, ⟨by decide +kernel, by decide +kernel, by decide +kernel, by decide +kernel, by decide +kernel, by decide +kernel, by decide +kernel, by decide +kernel, by decide +kernel, by decide +kernel, ⟨by decide +kernel, by decide +kernel, by decide +kernel, by decide +kernel, by decide +kernel⟩, by decide +kernel⟩, ⟨by decide +kernel, by decide +kernel, by decide +kernel, ⟨by decide +kernel, by decide +kernel, by decide +kernel, by decide +kernel, by decide +kernel⟩, by decide +kernel⟩, ⟨by decide +kernel, by decide +kernel, by decide +kernel, by decide +kernel, by decide +kernel, ⟨by decide +kernel, by decide +kernel, by decide +kernel, by decide +kernel, by decide +kernel⟩, by decide +kernel⟩, ⟨by decide +kernel, by decide +kernel, by decide +kernel, ⟨by decide +kernel, by decide +kernel, by decide +kernel, by decide +kernel, by decide +kernel⟩, by decide +kernel⟩, ⟨by decide +kernel, by decide +kernel, by decide +kernel, ⟨by decide +kernel, by decide +kernel, by decide +kernel, by decide +kernel, by decide +kernel⟩, by decide +kernel⟩, ⟨by decide +kernel, by decide +kernel, by decide +kernel, by decide +kernel, by decide +kernel, by decide +kernel, chooseCluster_of_one (by decide +kernel), by decide +kernel, by decide +kernel, ⟨by decide +kernel, by decide +kernel, by decide +kernel, by decide +kernel, by decide +kernel⟩, by decide +kernel⟩, ⟨by decide +kernel, by decide +kernel, by decide +kernel, by decide +kernel, ⟨by decide +kernel, by decide +kernel, by decide +kernel, by decide +kernel, by decide +kernel⟩, by decide +kernel⟩, ⟨by decide +kernel, by decide +kernel, by decide +kernel, ⟨by decide +kernel, by decide +kernel, by decide +kernel, by decide +kernel, by decide +kernel⟩, by decide +kernel⟩, ⟨by decide +kernel, by decide +kernel, by decide +kernel, by decide +kernel, ⟨by decide +kernel, by decide +kernel, by decide +kernel, by decide +kernel, by decide +kernel⟩, by decide +kernel⟩, ⟨by decide +kernel, by decide +kernel, by decide +kernel, by decide +kernel, ⟨by decide +kernel, by decide +kernel, by decide +kernel, by decide +kernel, by decide +kernel⟩, by decide +kernel⟩, ⟨by decide +kernel, by decide +kernel, by decide +kernel, by decide +kernel, ⟨by decide +kernel, by decide +kernel, by decide +kernel, by decide +kernel, by decide +kernel⟩, by decide +kernel⟩, by decide +kernel⟩

def sliceCommands1S : State := adm []

def sliceCommands1E : List Byte := en [(8,2,5),(12,2,1),(14,2,1),(18,2,1),(34,2,1)]

def sliceCommands2S : State := adm [(Reg.TEN_SLICE0_STATE, 5, 1)]

def sliceCommands2E : List Byte := en [(8,2,5)]

def sliceCommands3S : State := (adm [(Reg.TEN_SLICE0_STATE, 5, 6)]).setSlice 5 { destroying := some { slot := 1023, cmd := 0x41 } }

def sliceCommands3O : Origin := { slot := 1023, cmd := 0x41 }

def sliceCommands4S : State := adm []

def sliceCommands4E : List Byte := en [(8,1,1)]

def sliceCommands5S : State := adm [(Reg.TEN_EP_ID_ID, 2, 7)]

def sliceCommands5E : List Byte := en [(8,8,7),(18,2,5)]

def sliceCommands6S : State := put State.reset [(Reg.ADM_DESC0_BOUND, 1023, 1), (Reg.ADM_DESC0_CQ_LOG2, 1023, 6), (Reg.TEN_EP_ID_ID, 2, 7), (Reg.TEN_EP_TEN_VALID, ix 2 0, 1), (Reg.TEN_EP_TEN_TENANT, ix 2 0, 5)]

def sliceCommands6E : List Byte := en [(8,8,7),(18,2,5)]

def sliceCommands7S : State := adm [(Reg.TEN_SLICE0_STATE, 5, 1), (Reg.CAD_STATUS_STATE, 0, 2)]

def sliceCommands7E : List Byte := en [(8,2,5),(16,8,2 ^ 40)]

def sliceCommands8S : State := { (qp [(Reg.QP_DESC0_TENANT, 4, 5), (Reg.TRN_QP_T0_STATE, 4, 1)] id (adm [(Reg.TEN_SLICE0_STATE, 5, 2)])) with armed := [{ kind := .freeze 5, at_ := 9 }] }

def sliceCommands9S : State := (qp [(Reg.QP_DESC0_TENANT, 4, 5), (Reg.TRN_QP_T0_STATE, 4, 1)] id (adm [(Reg.TEN_SLICE0_STATE, 5, 2)])).setSlice 5 { stepped := true, freeze := some { slot := 1023, cmd := 0x44 } }

def sliceCommands9O : Origin := { slot := 1023, cmd := 0x44 }

def sliceCommands10S : State := qp [(Reg.QP_DESC0_TENANT, 4, 5), (Reg.TRN_QP_T0_STATE, 4, 2)] id (adm [(Reg.TEN_SLICE0_STATE, 5, 3)])

def sliceCommands10E : List Byte := en [(8,2,5)]

def sliceCommands11S : State := { (qp [(Reg.QP_DESC0_TENANT, 4, 5), (Reg.TRN_QP_T0_STATE, 4, 2), (Reg.XLT_CTX_DESC0_VALID, 6, 1), (Reg.XLT_CTX_DESC1_TENANT, 6, 1023), (Reg.CIP_CTX0_VALID, 0, 1), (Reg.CIP_CTX0_TENANT, 0, 5)] id (adm [(Reg.TEN_SLICE0_STATE, 5, 3)])) with cip := { keys := [(0, 9)] } }

def sliceCommands11E : List Byte := en [(8,2,5),(24,8,2 ^ 41)]

def sliceCommands12S : State := adm [(Reg.XLT_CTX_DESC0_VALID, 6, 1), (Reg.XLT_CTX_DESC1_TENANT, 6, 1023)]

def sliceCommands12E : List Byte := en [(8,2,5)]

def sliceCommands12X : AdmX := { sigOk := true, tagOk := true, img := { srcIdent := sha256 [], tgtIdent := sha256 [], quota := [1,1,0,1,0,0,0,0,0,0,1,0,0] } }

def sliceCommands13S : State := (adm [(Reg.TEN_SLICE0_STATE, 5, 1)]).setAtt (attNo 5 0) { st := .locked, epid := 9 }

def sliceCommands13E : List Byte := en [(8,2,5),(16,8,9)]

def sliceCommands14S : State := { adm [(Reg.TEN_EXT0_STATE, 1, 3)] with ten := { keepFrom := some 9 } }

/-- O34, SliceCommands: 14 states, which meet the hypotheses of its clauses. -/
theorem witness_SliceCommands :
    (leAt (withByte 0 64 sliceCommands1E) 8 2 = 5 ∧
      byteAt (withByte 0 64 sliceCommands1E) 10 = 0 ∧
      byteAt (withByte 0 64 sliceCommands1E) 11 % 2 = 0 ∧
      quotaOk 5 (quotaAt (withByte 0 64 sliceCommands1E)) = true ∧
      sliceCommands1S.slice 5 = 0 ∧
      sliceCommands1S.stillWiping 5 = false ∧
      (sliceCommands1S.makeSlice 5 0 1 (quotaAt (withByte 0 64 sliceCommands1E))).isSome = true ∧
      AdmOpen sliceCommands1S provider ∧
      (sliceCommands1S.admOf provider).busy = false) ∧
    (leAt (withByte 0 65 sliceCommands2E) 8 2 = 5 ∧
      sliceCommands2S.slice 5 ≠ 0 ∧
      sliceCommands2S.slice 5 ≠ 6 ∧
      AdmOpen sliceCommands2S provider ∧
      (sliceCommands2S.admOf provider).busy = false) ∧
    ((sliceCommands3S.sliceOf 5).destroying = some sliceCommands3O ∧
      sliceCommands3S.slice 5 = 6 ∧
      sliceCommands3S.stillWiping 5 = false ∧
      sliceCommands3O.slot = provider ∧
      sliceCommands3O.cmd = 65 ∧
      AdmOpen sliceCommands3S sliceCommands3O.slot ∧
      sliceCommands3O.mbx = none) ∧
    (byteAt (withByte 0 66 sliceCommands4E) 8 = 1 ∧
      leAll (sliceCommands4S.poolUsed 1) (quotaAt (withByte 0 66 sliceCommands4E)) = true ∧
      (leAll (List.foldl (fun (a : List Nat) (j : Nat) => addAll a (if j = 1 then quotaAt (withByte 0 66 sliceCommands4E) else sliceCommands4S.poolOf j)) (List.map (fun (x : Nat) => 0) moduleCounts) (List.range 8)) moduleCounts = true) ∧
      AdmOpen sliceCommands4S provider ∧
      (sliceCommands4S.admOf provider).busy = false) ∧
    (leAt (withByte 16 0 (withByte 0 67 sliceCommands5E)) 8 8 = 7 ∧
      leAt (withByte 16 0 (withByte 0 67 sliceCommands5E)) 18 2 = 5 ∧
      epTenOk 5 = true ∧
      sliceCommands5S.epRecord 7 = some 2 ∧
      sliceCommands5S.epEntry 2 5 = none ∧
      (List.find? (fun (j : Nat) => !sliceCommands5S.on Reg.TEN_EP_TEN_VALID (ix 2 j)) (List.range 64) = some 0) ∧
      AdmOpen sliceCommands5S provider ∧
      (sliceCommands5S.admOf provider).busy = false) ∧
    (leAt (withByte 16 1 (withByte 0 67 sliceCommands6E)) 8 8 = 7 ∧
      leAt (withByte 16 1 (withByte 0 67 sliceCommands6E)) 18 2 = 5 ∧
      epTenOk 5 = true ∧
      sliceCommands6S.epRecord 7 = some 2 ∧
      sliceCommands6S.epEntry 2 5 = some 0 ∧
      sliceCommands6S.attThrough 7 5 = false ∧
      AdmOpen sliceCommands6S provider ∧
      (sliceCommands6S.admOf provider).busy = false ∧
      leAt (withByte 16 2 (withByte 0 67 sliceCommands6E)) 8 8 = 7 ∧
      sliceCommands6S.atts = []) ∧
    (leAt (withByte 10 0 (withByte 0 68 sliceCommands7E)) 8 2 = 5 ∧
      leAt (withByte 10 0 (withByte 0 68 sliceCommands7E)) 16 8 = 2 ^ 40 ∧
      sliceCommands7S.slice 5 = 1 ∧
      2 ^ 40 ≠ 0 ∧
      sliceCommands7S.mayArm (2 ^ 40) = true ∧
      AdmOpen sliceCommands7S provider ∧
      (sliceCommands7S.admOf provider).busy = false) ∧
    (sliceCommands8S.armed = [{ kind := EvKind.freeze 5, at_ := 9 }] ∧
      sliceCommands8S.now ≤ 9 ∧
      9 < 2 ^ 64 ∧
      sliceCommands8S.rd Reg.CAD_STATUS_STATE ≠ 4 ∧
      sliceCommands8S.resting = false ∧
      sliceCommands8S.slice 5 = 2 ∧
      (sliceCommands8S.sliceOf 5).stepped = false) ∧
    (sliceCommands9S.slice 5 = 2 ∧
      (sliceCommands9S.sliceOf 5).stepped = true ∧
      sliceCommands9S.inProgress 5 = false ∧
      (sliceCommands9S.sliceOf 5).freeze = some sliceCommands9O ∧
      sliceCommands9O.slot = provider ∧
      sliceCommands9O.cmd = 68 ∧
      sliceCommands9O.names = none ∧
      AdmOpen sliceCommands9S sliceCommands9O.slot ∧
      sliceCommands9O.mbx = none) ∧
    (leAt (withByte 10 1 (withByte 0 68 sliceCommands10E)) 8 2 = 5 ∧
      sliceCommands10S.slice 5 = 3 ∧
      byteAt (withByte 10 1 (withByte 0 68 sliceCommands10E)) 11 % 2 = 0 ∧
      (∀ (q : Nat), (sliceCommands10S.sqOf q).recorded = false) ∧
      (sliceCommands10S.admOf 5).held = [] ∧
      (sliceCommands10S.admOf 5).lost = 0 ∧
      AdmOpen sliceCommands10S provider ∧
      (sliceCommands10S.admOf provider).busy = false) ∧
    (leAt (withByte 0 69 sliceCommands11E) 8 2 = 5 ∧
      sliceCommands11S.slice 5 = 3 ∧
      (∀ a ∈ attList 5, (sliceCommands11S.attOf a).st ≠ AttSt.absent) ∧
      (sliceCommands11S.descOf provider (leAt (withByte 0 69 sliceCommands11E) 10 2)).isSome = true ∧
      272 + sliceCommands11S.free 40 ≤ leAt (withByte 0 69 sliceCommands11E) 24 8 ∧
      AdmOpen sliceCommands11S provider ∧
      (sliceCommands11S.admOf provider).busy = false) ∧
    (leAt (withByte 0 70 sliceCommands12E) 8 2 = 5 ∧
      byteAt (withByte 0 70 sliceCommands12E) 10 = 0 ∧
      sliceCommands12S.slice 5 = 0 ∧
      sliceCommands12S.stillWiping 5 = false ∧
      (sliceCommands12S.descOf provider (leAt (withByte 0 70 sliceCommands12E) 12 2)).isSome = true ∧
      sliceCommands12S.imgBad sliceCommands12X = none ∧
      sliceCommands12X.img.regions = [] ∧
      sliceCommands12X.img.exts = [] ∧
      (sliceCommands12S.makeSlice 5 0 5 sliceCommands12X.img.quota).isSome = true ∧
      AdmOpen sliceCommands12S provider ∧
      (sliceCommands12S.admOf provider).busy = false) ∧
    (leAt (withByte 0 71 sliceCommands13E) 8 2 = 5 ∧
      (∃ a ∈ sliceCommands13S.attsOf 5, (sliceCommands13S.attOf a).st = AttSt.locked ∧ (sliceCommands13S.attOf a).epid = leAt (withByte 0 71 sliceCommands13E) 16 8) ∧
      AdmOpen sliceCommands13S provider ∧
      (sliceCommands13S.admOf provider).busy = false) ∧
    (sliceCommands14S.ten.keepFrom = some 9) :=
  ⟨⟨by decide +kernel, by decide +kernel, by decide +kernel, by decide +kernel, by decide +kernel, by decide +kernel, by decide +kernel, ⟨by decide +kernel, by decide +kernel, by decide +kernel, by decide +kernel, by decide +kernel⟩, by decide +kernel⟩, ⟨by decide +kernel, by decide +kernel, by decide +kernel, ⟨by decide +kernel, by decide +kernel, by decide +kernel, by decide +kernel, by decide +kernel⟩, by decide +kernel⟩, ⟨by decide +kernel, by decide +kernel, by decide +kernel, by decide +kernel, by decide +kernel, ⟨by decide +kernel, by decide +kernel, by decide +kernel, by decide +kernel, by decide +kernel⟩, by decide +kernel⟩, ⟨by decide +kernel, by decide +kernel, by decide +kernel, ⟨by decide +kernel, by decide +kernel, by decide +kernel, by decide +kernel, by decide +kernel⟩, by decide +kernel⟩, ⟨by decide +kernel, by decide +kernel, by decide +kernel, by decide +kernel, by decide +kernel, by decide +kernel, ⟨by decide +kernel, by decide +kernel, by decide +kernel, by decide +kernel, by decide +kernel⟩, by decide +kernel⟩, ⟨by decide +kernel, by decide +kernel, by decide +kernel, by decide +kernel, by decide +kernel, by decide +kernel, ⟨by decide +kernel, by decide +kernel, by decide +kernel, by decide +kernel, by decide +kernel⟩, by decide +kernel⟩, ⟨by decide +kernel, by decide +kernel, by decide +kernel, by decide +kernel, by decide +kernel, ⟨by decide +kernel, by decide +kernel, by decide +kernel, by decide +kernel, by decide +kernel⟩, by decide +kernel⟩, by decide +kernel, ⟨by decide +kernel, by decide +kernel, by decide +kernel, by decide +kernel, by decide +kernel, by decide +kernel, by decide +kernel, ⟨by decide +kernel, by decide +kernel, by decide +kernel, by decide +kernel, by decide +kernel⟩, by decide +kernel⟩, ⟨by decide +kernel, by decide +kernel, by decide +kernel, fun _ => rfl, by decide +kernel, by decide +kernel, ⟨by decide +kernel, by decide +kernel, by decide +kernel, by decide +kernel, by decide +kernel⟩, by decide +kernel⟩, ⟨by decide +kernel, by decide +kernel, by decide +kernel, by decide +kernel, Nat.le_trans (Nat.add_le_add_left (Nat.le_of_lt (Nat.mod_lt _ (by decide))) 272) (by decide +kernel), ⟨by decide +kernel, by decide +kernel, by decide +kernel, by decide +kernel, by decide +kernel⟩, by decide +kernel⟩, ⟨by decide +kernel, by decide +kernel, by decide +kernel, by decide +kernel, by decide +kernel, by decide +kernel, by decide +kernel, by decide +kernel, by decide +kernel, ⟨by decide +kernel, by decide +kernel, by decide +kernel, by decide +kernel, by decide +kernel⟩, by decide +kernel⟩, ⟨by decide +kernel, by decide +kernel, ⟨by decide +kernel, by decide +kernel, by decide +kernel, by decide +kernel, by decide +kernel⟩, by decide +kernel⟩, by decide +kernel⟩

def cadenceUnit2S : State := put State.reset [(Reg.CAD_CTRL_ENABLE, 0, 1), (Reg.CAD_STATUS_STATE, 0, 3)]

def cadenceUnit3S : State := put State.reset [(Reg.CAD_CTRL_ENABLE, 0, 1), (Reg.CAD_STATUS_STATE, 0, 2), (Reg.CAD_CTRL_PPS_OUT_EN, 0, 1), (Reg.CAD_PPS_OUT_PERIOD_CT, 0, 1000), (Reg.CAD_COUNT_COUNT, 0, 1500)]

def cadenceUnit4S : State := put State.reset [(Reg.CAD_CTRL_REF_SRC, 0, 1), (Reg.CAD_STATUS_STATE, 0, 2), (Reg.CAD_STATUS_ROOT, 0, 1)]

def cadenceUnit5S : State := { put State.reset [(Reg.CAD_SWAP_MASK_GROUPHASH, 0, 1), (Reg.CAD_STATUS_STATE, 0, 2), (Reg.MAC_GHASH_BITS, 0, 5)] with armed := [{ kind := .swap, at_ := 9 }] }

/-- O35, CadenceUnit: 5 states, which meet the hypotheses of its clauses. -/
theorem witness_CadenceUnit :
    (State.reset.pels = [] ∧
      State.reset.rd Reg.TRN_EGR_CTRL_GATE_EN = 0 ∧
      State.reset.board.res.moves = [] ∧
      State.reset.armed = [] ∧
      State.reset.rd Reg.CAD_CTRL_ENABLE = 0 ∧
      State.reset.rd Reg.CAD_STATUS_STATE ≤ 1 ∧
      State.reset.rd Reg.CAD_CTRL_REF_SRC = 0) ∧
    (cadenceUnit2S.pels = [] ∧
      cadenceUnit2S.rd Reg.TRN_EGR_CTRL_GATE_EN = 0 ∧
      cadenceUnit2S.board.res.moves = [] ∧
      cadenceUnit2S.armed = [] ∧
      cadenceUnit2S.rd Reg.CAD_CTRL_ENABLE = 1 ∧
      cadenceUnit2S.board.cad.deferred = [] ∧
      1 < cadenceUnit2S.rd Reg.CAD_STATUS_STATE ∧
      cadenceUnit2S.mayArm (2 ^ 40 % 2 ^ 64) = true ∧
      cadenceUnit2S.rd Reg.CAD_STATUS_STATE = 3 ∧
      cadenceUnit2S.rd Reg.CAD_HOLD_ERR_PS < 65534 ∧
      cadenceUnit2S.rd Reg.CAD_STATUS_STATE ≠ 0 ∧
      cadenceUnit2S.rd Reg.CAD_STATUS_STATE ≠ 4) ∧
    (cadenceUnit3S.pels = [] ∧
      cadenceUnit3S.rd Reg.TRN_EGR_CTRL_GATE_EN = 0 ∧
      cadenceUnit3S.board.res.moves = [] ∧
      cadenceUnit3S.armed = [] ∧
      1000 = max 1000 (cadenceUnit3S.rd Reg.CAD_PPS_OUT_PERIOD_CT) ∧
      2000 = (cadenceUnit3S.now + 1000 - 1) / 1000 * 1000 ∧
      2000 < 2 ^ 64 ∧
      cadenceUnit3S.rd Reg.CAD_CTRL_PPS_OUT_EN = 1 ∧
      cadenceUnit3S.board.pwr.off = false ∧
      cadenceUnit3S.board.cad.pulse = none) ∧
    (cadenceUnit4S.pels = [] ∧
      cadenceUnit4S.rd Reg.TRN_EGR_CTRL_GATE_EN = 0 ∧
      cadenceUnit4S.board.res.moves = [] ∧
      cadenceUnit4S.armed = [] ∧
      cadenceUnit4S.rd Reg.CAD_CTRL_REF_SRC = 1 ∧
      cadenceUnit4S.rd Reg.CAD_STATUS_ROOT = 1 ∧
      cadenceUnit4S.rd Reg.CAD_STATUS_STATE = 2) ∧
    (cadenceUnit5S.pels = [] ∧
      cadenceUnit5S.rd Reg.TRN_EGR_CTRL_GATE_EN = 0 ∧
      cadenceUnit5S.board.res.moves = [] ∧
      cadenceUnit5S.armed = [{ kind := EvKind.swap, at_ := 9 }] ∧
      cadenceUnit5S.now ≤ 9 ∧
      9 < 2 ^ 64 ∧
      cadenceUnit5S.rd Reg.CAD_STATUS_STATE ≠ 4 ∧
      cadenceUnit5S.resting = false ∧
      cadenceUnit5S.rd Reg.CAD_SWAP_MASK_FWD = 0 ∧
      cadenceUnit5S.rd Reg.CAD_SWAP_MASK_GATE = 0 ∧
      cadenceUnit5S.rd Reg.CAD_SWAP_MASK_SHAPER = 0 ∧
      cadenceUnit5S.rd Reg.CAD_SWAP_MASK_METER = 0 ∧
      cadenceUnit5S.rd Reg.CAD_SWAP_MASK_STEER = 0 ∧
      cadenceUnit5S.rd Reg.CAD_SWAP_MASK_GROUPHASH = 1 ∧
      (∀ (i : Nat), cadenceUnit5S.rd Reg.MAC_GHASH_BITS i < 2 ^ Reg.MAC_GHASH_BITS.w ∧ cadenceUnit5S.rd Reg.MAC_GHASH_ACT_BITS i < 2 ^ Reg.MAC_GHASH_ACT_BITS.w)) :=
  ⟨by decide +kernel, by decide +kernel, by decide +kernel, by decide +kernel, ⟨by decide +kernel, by decide +kernel, by decide +kernel, by decide +kernel, by decide +kernel, by decide +kernel, by decide +kernel, by decide +kernel, by decide +kernel, by decide +kernel, by decide +kernel, by decide +kernel, by decide +kernel, by decide +kernel, fun _ => ⟨rd_lt _ _ _ (by decide +kernel) (fun _ => Nat.two_pow_pos _) _, rd_lt _ _ _ (by decide +kernel) (fun _ => Nat.two_pow_pos _) _⟩⟩⟩

def cadenceMessages1M : SyncMsg := { crcOk := false }

def cadenceMessages2S : State := trn [(Reg.CAD_CTRL_ENABLE, 0, 1), (Reg.CAD_CTRL_SYNC_EN, 0, 1)] State.reset

def cadenceMessages2M : SyncMsg := { seq := 3, t1 := 5 }

def cadenceMessages2Pk : Pkt := {}

def cadenceMessages3S : State := cd (fun c => { c with req := some (3, 5, 0) }) (trn [(Reg.CAD_CTRL_ENABLE, 0, 1), (Reg.CAD_CTRL_SYNC_EN, 0, 1), (Reg.CAD_STATUS_UPSTREAM, 0, 0), (Reg.CAD_STATUS_STATE, 0, 2), (Reg.CAD_STEP_THRESH_CT, 0, 1000), (Reg.CAD_COUNT_COUNT, 0, 20)] State.reset)

def cadenceMessages3M : SyncMsg := { seq := 3, t1 := 5, t2 := 10, t3 := 12 }

def cadenceMessages3R : Nat × Nat × Nat := (3, 5, 0)

def cadenceMessages4S : State := put State.reset [(Reg.CAD_CTRL_ENABLE, 0, 1), (Reg.CAD_STATUS_UPSTREAM, 0, 255), (Reg.CAD_STATUS_STATE, 0, 1), (Reg.CAD_STATUS_ROOT, 0, 1)]

def cadenceMessages5S : State := cd (fun c => { c with missed := 3 }) (put State.reset [(Reg.CAD_CTRL_ENABLE, 0, 1), (Reg.CAD_STATUS_UPSTREAM, 0, 0), (Reg.CAD_STATUS_STATE, 0, 2)])

/-- O36, CadenceMessages: 5 states, which meet the hypotheses of its clauses. -/
theorem witness_CadenceMessages :
    (cadenceMessages1M.crcOk = false) ∧
    (cadenceMessages2M.crcOk = true ∧
      cadenceMessages2S.syncOn 0 = true ∧
      cadenceMessages2S.portUp 0 = true ∧
      (∀ e ∈ (cadenceMessages2S.farOf 0).pausedTo, e.1 ≠ 16) ∧
      cadenceMessages2S.rd Reg.TRN_CTRL_ENABLE = 1 ∧
      cadenceMessages2S.localIp rxd.ip = true ∧
      rxd.dport = cadenceMessages2S.rd Reg.TRN_UDP_DPORT ∧
      rxd.csumOk = true ∧
      cadenceMessages2Pk.ver = 1 ∧
      cadenceMessages2Pk.dstMod = cadenceMessages2S.rd Reg.TRN_MODULE_ID ∧
      cadenceMessages2S.board.cad.req = none ∧
      (cadenceMessages2S.armed = [] ∧ cadenceMessages2S.pels = [] ∧ cadenceMessages2S.rd Reg.TRN_EGR_CTRL_GATE_EN = 0 ∧ cadenceMessages2S.board.res.moves = []) ∧
      bits cadenceMessages2M.flags 3 2 = 0) ∧
    (cadenceMessages3M.crcOk = true ∧
      cadenceMessages3S.syncOn 0 = true ∧
      cadenceMessages3S.board.cad.req = some cadenceMessages3R ∧
      cadenceMessages3R.1 = cadenceMessages3M.seq ∧
      0 = cadenceMessages3S.rd Reg.CAD_STATUS_UPSTREAM ∧
      cadenceMessages3S.rd Reg.CAD_STATUS_STATE = 2 ∧
      (exchangeOf cadenceMessages3M cadenceMessages3S.now 4 (cadenceMessages3S.rd Reg.CAD_PORT_ASYM_PS)).1.natAbs ≤ (ctUnits (cadenceMessages3S.rd Reg.CAD_STEP_THRESH_CT)).natAbs) ∧
    ((cadenceMessages4S.armed = [] ∧ cadenceMessages4S.pels = [] ∧ cadenceMessages4S.rd Reg.TRN_EGR_CTRL_GATE_EN = 0 ∧ cadenceMessages4S.board.res.moves = []) ∧
      cadenceMessages4S.rd Reg.CAD_CTRL_ENABLE = 1 ∧
      255 = cadenceMessages4S.rd Reg.CAD_STATUS_UPSTREAM ∧
      State.reset.syncCt = cadenceMessages4S.markOf 4 + cadenceMessages4S.syncCt ∧
      cadenceMessages4S.now < State.reset.syncCt ∧
      State.reset.syncCt < 2 ^ 64 ∧
      cadenceMessages4S.board.cad.deferred = [] ∧
      cadenceMessages4S.rd Reg.CAD_STATUS_ROOT = 1 ∧
      cadenceMessages4S.rd Reg.CAD_CTRL_REF_SRC = 0 ∧
      cadenceMessages4S.rd Reg.CAD_STATUS_STATE = 1) ∧
    ((cadenceMessages5S.armed = [] ∧ cadenceMessages5S.pels = [] ∧ cadenceMessages5S.rd Reg.TRN_EGR_CTRL_GATE_EN = 0 ∧ cadenceMessages5S.board.res.moves = []) ∧
      cadenceMessages5S.rd Reg.CAD_CTRL_ENABLE = 1 ∧
      0 = cadenceMessages5S.rd Reg.CAD_STATUS_UPSTREAM ∧
      3 ≤ cadenceMessages5S.board.cad.missed ∧
      cadenceMessages5S.board.cad.heard = [] ∧
      cadenceMessages5S.rd Reg.CAD_STATUS_STATE = 2) :=
  ⟨by decide +kernel, by decide +kernel, by decide +kernel, by decide +kernel, by decide +kernel⟩

def transportTimers1S : State := con [(Reg.QP_DESC3_SCHED_STATE, 4, 1)] (fun x => { x with ops := [{ serial := 3, sqe := { opcode := 2, len := 4, inl := some [1, 2, 3, 4], raddr := 16 }, st := .started, npk := 1, msn := 7 }] }) (fun c => { c with rate := 65536 })

def transportTimers1O : Op := { serial := 3, sqe := { opcode := 2, len := 4, inl := some [1, 2, 3, 4], raddr := 16 }, st := .started, npk := 1, msn := 7 }

def transportTimers1B : List Byte := [1, 2, 3, 4]

def transportTimers2S : State := con [] id (fun c => { c with ackTimer := true, sent := [{ psn := 0, serial := 3, pkt := {} }], ackSeen := true })

def transportTimers3S : State := con [(Reg.TRN_CC_CTRL_ENABLE, 0, 0)] id (fun c => { c with sent := [{ psn := 0, serial := 3, pkt := {} }] })

def transportTimers3X : Sent := { psn := 0, serial := 3, pkt := {} }

def transportTimers4S : State := con [(Reg.TRN_CC_CTRL_ENABLE, 0, 1)] id (fun c => { c with ackSeen := true, sent := [{ psn := 0, serial := 3, pkt := {}, hold := true, nakAt := some 0 }] })

def transportTimers4X : Sent := { psn := 0, serial := 3, pkt := {}, hold := true, nakAt := some 0 }

def transportTimers5S : State := con [] (fun x => { x with ops := [{ serial := 3, sqe := { opcode := 4, len := 4 }, st := .started, cut := 1 }] }) id

def transportTimers5O : Op := { serial := 3, sqe := { opcode := 4, len := 4 }, st := .started, cut := 1 }

/-- O37, TransportTimers: 5 states, which meet the hypotheses of its clauses. -/
theorem witness_TransportTimers :
    (transportTimers1S.rd Reg.TRN_QP_T0_STATE 4 = 1 ∧
      transportTimers1S.rd Reg.TRN_CTRL_ENABLE = 1 ∧
      transportTimers1S.rd Reg.QP_DESC0_VALID 4 = 1 ∧
      (transportTimers1S.connOf 4).nextTx ≤ transportTimers1S.now ∧
      transportTimers1S.rate 4 ≠ 0 ∧
      transportTimers1S.steer 4 = some 0 ∧
      transportTimers1S.shapersPass 4 (transportTimers1S.qpTenant 4) (transportTimers1S.rd Reg.QP_DESC0_TC 4) = true ∧
      (∀ y ∈ (transportTimers1S.connOf 4).sent, y.resend = false) ∧
      (transportTimers1S.connOf 4).respQ = [] ∧
      (transportTimers1S.connOf 4).mcast = none ∧
      d32 (transportTimers1S.rd Reg.TRN_QP_T1_SND_NXT 4) (transportTimers1S.rd Reg.TRN_QP_T1_SND_UNA 4) < 1024 ∧
      transportTimers1S.rd Reg.TRN_QP_T1_SND_NXT 4 < 2 ^ 32 ∧
      (transportTimers1S.sqOf 4).ops = [transportTimers1O] ∧
      transportTimers1O.st = OpSt.started ∧
      transportTimers1O.cut < transportTimers1O.npk ∧
      transportTimers1O.sqe.opcode = 2 ∧
      transportTimers1O.sqe.inl = some transportTimers1B ∧
      transportTimers1S.egressPort (transportTimers1S.nextEntropy 4) 4 = some 0 ∧
      transportTimers1S.classOn 0 = true ∧
      CanSend transportTimers1S 4 0) ∧
    (transportTimers2S.rd Reg.TRN_QP_T0_STATE 4 = 1 ∧
      (transportTimers2S.connOf 4).ackTimer = true ∧
      CanSend transportTimers2S 4 0 ∧
      transportTimers2S.rd Reg.TRN_CC_CTRL_ENABLE = 1 ∧
      (transportTimers2S.connOf 4).ackSeen = true ∧
      (transportTimers2S.connOf 4).ceSum = 0 ∧
      (transportTimers2S.connOf 4).rMin.getD 0 ≤ transportTimers2S.rd Reg.TRN_CC_TC0_TARGET_NS (transportTimers2S.rd Reg.QP_DESC0_TC 4)) ∧
    (transportTimers3S.rd Reg.TRN_QP_T0_STATE 4 = 1 ∧
      (transportTimers3S.connOf 4).sentOf 0 0 = some transportTimers3X ∧
      transportTimers3X.hold = false ∧
      transportTimers3X.resend = false ∧
      transportTimers3X.sends ≤ transportTimers3S.rd Reg.TRN_QP_T0_RETRY_MAX 4 ∧
      transportTimers3S.rd Reg.TRN_CC_CTRL_ENABLE = 0) ∧
    (transportTimers4S.rd Reg.TRN_QP_T0_STATE 4 = 1 ∧
      (transportTimers4S.connOf 4).sentOf 0 0 = some transportTimers4X ∧
      transportTimers4X.hold = true ∧
      transportTimers4X.nakAt.isSome = true ∧
      transportTimers4X.nakReason ≠ 3 ∧
      transportTimers4S.pels = []) ∧
    (transportTimers5S.rd Reg.TRN_QP_T0_STATE 4 = 1 ∧
      (transportTimers5S.sqOf 4).ops = [transportTimers5O] ∧
      transportTimers5O.serial = 3 ∧
      transportTimers5O.sqe.opcode = 4 ∧
      transportTimers5O.st = OpSt.started ∧
      transportTimers5O.cut ≠ 0 ∧
      (∀ y ∈ (transportTimers5S.connOf 4).sent, y.serial ≠ 3) ∧
      (∀ y ∈ (transportTimers5S.connOf 4).reReqs, y.1 ≠ 3) ∧
      transportTimers5O.reissues < transportTimers5S.rd Reg.TRN_QP_T0_RETRY_MAX 4 ∧
      transportTimers5O.got = [] ∧
      transportTimers5O.sqe.len ≠ 0) :=
  ⟨⟨by decide +kernel, by decide +kernel, by decide +kernel, by decide +kernel, by decide +kernel, by decide +kernel, by decide +kernel, by decide +kernel, by decide +kernel, by decide +kernel, by decide +kernel, by decide +kernel, by decide +kernel, by decide +kernel, by decide +kernel, by decide +kernel, by decide +kernel, by decide +kernel, by decide +kernel, ⟨by decide +kernel, by decide +kernel, 0, by decide +kernel⟩⟩, ⟨by decide +kernel, by decide +kernel, ⟨by decide +kernel, by decide +kernel, 0, by decide +kernel⟩, by decide +kernel⟩, by decide +kernel, by decide +kernel, by decide +kernel⟩

def transportReceives1S : State := con [] id (fun c => { c with recvs := [{ ssn := 16, serial := 0, tag := 0, laddr := 0x200000, len := 8, localWin := true }] })

def transportReceives1P : Pkt := pkd 1

def transportReceives1Rv : Recv := { ssn := 16, serial := 0, tag := 0, laddr := 0x200000, len := 8, localWin := true }

def transportReceives2S : State := con [] id id

def transportReceives2P : Pkt := { pkd 4 with rangeLen := 4, payload := [] }

def transportReceives4S : State := con [] id id

def transportReceives4P : Pkt := pkd 1

def transportReceives4R : Rx := { rxd with csumOk := false }

/-- O38, TransportReceives: 3 states, which meet the hypotheses of its clauses. -/
theorem witness_TransportReceives :
    (Admitted transportReceives1S transportReceives1P rxd ∧
      InOrder transportReceives1S transportReceives1P ∧
      (transportReceives1P.pktOffset = 0 ∧ transportReceives1P.msgLen = transportReceives1P.payload.length ∧ 0 < transportReceives1P.payload.length ∧ transportReceives1P.payload.length ≤ transportReceives1S.fullPkt transportReceives1P.dstQp 1 transportReceives1P.format) ∧
      (transportReceives1S.connOf transportReceives1P.dstQp).recvs = [transportReceives1Rv] ∧
      transportReceives1Rv.ssn = transportReceives1P.target % 2 ^ 32 ∧
      transportReceives1P.payload.length ≤ transportReceives1Rv.len ∧
      transportReceives1Rv.localWin = true ∧
      transportReceives1S.gddrPassAll (transportReceives1S.qpTenant transportReceives1P.dstQp) (transportReceives1S.rd Reg.QP_DESC0_CONTEXT transportReceives1P.dstQp) AccK.write transportReceives1Rv.laddr transportReceives1P.payload.length = true ∧
      (transportReceives1P.pktOffset = 0 ∧ transportReceives1P.msgLen = transportReceives1P.payload.length ∧ 0 < transportReceives1P.payload.length ∧ transportReceives1P.payload.length ≤ transportReceives1S.fullPkt transportReceives1P.dstQp 2 transportReceives1P.format) ∧
      (transportReceives1S.regionCheck transportReceives1P.dstQp transportReceives1P.rkey transportReceives1P.target transportReceives1P.payload.length 1 true = RegRes.ok 2097168 0 true ∧ (2 ≠ 4 → transportReceives1S.gddrPassAll (transportReceives1S.qpTenant transportReceives1P.dstQp) 0 AccK.write 2097168 (if 2 = 6 ∨ 2 = 7 then 8 else transportReceives1P.payload.length) = true)) ∧
      (transportReceives1P.pktOffset = 0 ∧ transportReceives1P.msgLen = transportReceives1P.payload.length ∧ 0 < transportReceives1P.payload.length ∧ transportReceives1P.payload.length ≤ transportReceives1S.fullPkt transportReceives1P.dstQp 3 transportReceives1P.format) ∧
      (transportReceives1S.regionCheck transportReceives1P.dstQp transportReceives1P.rkey transportReceives1P.target transportReceives1P.payload.length 1 true = RegRes.ok 2097168 0 true ∧ (3 ≠ 4 → transportReceives1S.gddrPassAll (transportReceives1S.qpTenant transportReceives1P.dstQp) 0 AccK.write 2097168 (if 3 = 6 ∨ 3 = 7 then 8 else transportReceives1P.payload.length) = true)) ∧
      (transportReceives1P.pktOffset = 0 ∧ transportReceives1P.msgLen = transportReceives1P.payload.length ∧ 0 < transportReceives1P.payload.length ∧ transportReceives1P.payload.length ≤ transportReceives1S.fullPkt transportReceives1P.dstQp 8 transportReceives1P.format) ∧
      (transportReceives1S.regionCheck transportReceives1P.dstQp transportReceives1P.rkey transportReceives1P.target transportReceives1P.payload.length 3 (reduceAligned transportReceives1P.format transportReceives1P.target transportReceives1P.payload.length) = RegRes.ok 2097168 0 true ∧ (8 ≠ 4 → transportReceives1S.gddrPassAll (transportReceives1S.qpTenant transportReceives1P.dstQp) 0 AccK.write 2097168 (if 8 = 6 ∨ 8 = 7 then 8 else transportReceives1P.payload.length) = true)) ∧
      transportReceives1S.gddrPoisoned 2097168 transportReceives1P.payload.length = false ∧
      unitBytes ≤ 2097168 ∧
      (transportReceives1S.regionCheck transportReceives1P.dstQp transportReceives1P.rkey transportReceives1P.target 8 2 (transportReceives1P.target % 8 == 0) = RegRes.ok 2097168 0 true ∧ (6 ≠ 4 → transportReceives1S.gddrPassAll (transportReceives1S.qpTenant transportReceives1P.dstQp) 0 AccK.atomic 2097168 (if 6 = 6 ∨ 6 = 7 then 8 else transportReceives1P.payload.length) = true)) ∧
      transportReceives1S.gddrPoisoned 2097168 8 = false ∧
      (transportReceives1S.connOf transportReceives1P.dstQp).atomics.length < 16 ∧
      CanSend transportReceives1S transportReceives1P.dstQp 0 ∧
      (transportReceives1S.regionCheck transportReceives1P.dstQp transportReceives1P.rkey transportReceives1P.target 8 2 (transportReceives1P.target % 8 == 0) = RegRes.ok 2097168 0 true ∧ (7 ≠ 4 → transportReceives1S.gddrPassAll (transportReceives1S.qpTenant transportReceives1P.dstQp) 0 AccK.atomic 2097168 (if 7 = 6 ∨ 7 = 7 then 8 else transportReceives1P.payload.length) = true))) ∧
    (Admitted transportReceives2S transportReceives2P rxd ∧
      InOrder transportReceives2S transportReceives2P ∧
      (transportReceives2S.regionCheck transportReceives2P.dstQp transportReceives2P.rkey transportReceives2P.target transportReceives2P.msgLen 0 true = RegRes.ok 2097168 0 true ∧ (4 ≠ 4 → transportReceives2S.gddrPassAll (transportReceives2S.qpTenant transportReceives2P.dstQp) 0 AccK.read 2097168 (if 4 = 6 ∨ 4 = 7 then 8 else transportReceives2P.payload.length) = true)) ∧
      transportReceives2P.rangeOffset + transportReceives2P.rangeLen ≤ transportReceives2P.msgLen ∧
      transportReceives2P.rangeLen ≠ 0) ∧
    (transportReceives4R.csumOk = false ∧
      transportReceives4S.meterFor (transportReceives4S.qpTenant transportReceives4P.dstQp) transportReceives4P.tc = none) :=
  ⟨⟨⟨by decide +kernel, by decide +kernel, ⟨by decide +kernel, by decide +kernel, by decide +kernel, by decide +kernel, 0, by decide +kernel⟩, by decide +kernel⟩, ⟨by decide +kernel, by decide +kernel, by decide +kernel, 0, by decide +kernel⟩, by decide +kernel, by decide +kernel, by decide +kernel, by decide +kernel, by decide +kernel, by decide +kernel, by decide +kernel, by decide +kernel, by decide +kernel, by decide +kernel, by decide +kernel, by decide +kernel, by decide +kernel, by decide +kernel, by decide +kernel, by decide +kernel, by decide +kernel, ⟨by decide +kernel, by decide +kernel, 0, by decide +kernel⟩, by decide +kernel⟩, ⟨⟨by decide +kernel, by decide +kernel, ⟨by decide +kernel, by decide +kernel, by decide +kernel, by decide +kernel, 0, by decide +kernel⟩, by decide +kernel⟩, ⟨by decide +kernel, by decide +kernel, by decide +kernel, 0, by decide +kernel⟩, by decide +kernel⟩, by decide +kernel⟩

def transportAnswers1S : State := con [(Reg.TRN_QP_T1_SND_NXT, 4, 1), (Reg.CAD_COUNT_COUNT, 0, 500)] id (fun c => { c with sent := [{ psn := 0, serial := 3, pkt := {} }] })

def transportAnswers1P : Pkt := { pkd 9 with payload := [], cumPsn := 1, txTime := 400, tsEcho := 100, ackDelay := 5 }

def transportAnswers1X : Sent := { psn := 0, serial := 3, pkt := {} }

def transportAnswers2S : State := con [(Reg.TRN_QP_T1_SND_NXT, 4, 1)] (fun x => { x with ops := [{ serial := 3, sqe := {}, st := .started }] }) (fun c => { c with sent := [{ psn := 0, serial := 3, pkt := { opc := 6 } }] })

def transportAnswers2P : Pkt := { pkd 9 with payload := [] }

def transportAnswers2O : Op := { serial := 3, sqe := {}, st := .started }

def transportAnswers2X : Sent := { psn := 0, serial := 3, pkt := { opc := 6 } }

def transportAnswers3S : State := con [] (fun x => { x with ops := [{ serial := 3, sqe := { opcode := 4, len := 4, laddr := 0x200000, localWin := true }, st := .started }] }) (fun c => { c with recs := [{ msn := 0, opc := 2, len := 4, target := 0, rkey := 1, format := 0, complete := true }] })

def transportAnswers3P : Pkt := pkd 9

def transportAnswers3O : Op := { serial := 3, sqe := { opcode := 4, len := 4, laddr := 0x200000, localWin := true }, st := .started }

def transportAnswers3M : MsgRec := { msn := 0, opc := 2, len := 4, target := 0, rkey := 1, format := 0, complete := true }

/-- O39, TransportAnswers: 3 states, which meet the hypotheses of its clauses. -/
theorem witness_TransportAnswers :
    (Admitted transportAnswers1S transportAnswers1P rxd ∧
      (∀ y ∈ (transportAnswers1S.connOf transportAnswers1P.dstQp).sent, y.mem = 0 ∧ pktAcks transportAnswers1P y.psn = true ∧ y.atomic = false) ∧
      (transportAnswers1S.sqOf transportAnswers1P.dstQp).ops = [] ∧
      (transportAnswers1S.connOf transportAnswers1P.dstQp).rttAny = false ∧
      transportAnswers1S.rd Reg.TRN_QP_T1_SND_NXT transportAnswers1P.dstQp < 2 ^ 32 ∧
      (transportAnswers1S.connOf transportAnswers1P.dstQp).sent = [transportAnswers1X] ∧
      transportAnswers1X.psn = transportAnswers1P.psn ∧
      transportAnswers1X.mem = 0 ∧
      transportAnswers1X.nakAt = none ∧
      transportAnswers1S.pels = []) ∧
    (Admitted transportAnswers2S transportAnswers2P rxd ∧
      (transportAnswers2S.connOf transportAnswers2P.dstQp).sent = [transportAnswers2X] ∧
      transportAnswers2X.psn = transportAnswers2P.psn ∧
      transportAnswers2X.serial = transportAnswers2O.serial ∧
      (transportAnswers2S.sqOf transportAnswers2P.dstQp).ops = [transportAnswers2O] ∧
      transportAnswers2O.st = OpSt.started ∧
      (transportAnswers2S.rd Reg.CQ_DESC0_BROKEN (transportAnswers2S.rd Reg.QP_DESC0_CQ transportAnswers2P.dstQp) = 0 ∧ (transportAnswers2S.cqOf (transportAnswers2S.rd Reg.QP_DESC0_CQ transportAnswers2P.dstQp)).fenced = false ∧ transportAnswers2S.rd Reg.QP_DESC0_LEGACY transportAnswers2P.dstQp = 0) ∧
      transportAnswers2X.atomic = true) ∧
    (Admitted transportAnswers3S transportAnswers3P rxd ∧
      (transportAnswers3S.sqOf transportAnswers3P.dstQp).ops = [transportAnswers3O] ∧
      transportAnswers3O.sqe.opcode = 4 ∧
      transportAnswers3O.st = OpSt.started ∧
      transportAnswers3O.msn = transportAnswers3P.msn ∧
      (∃ (k : Nat), transportAnswers3S.steer transportAnswers3P.dstQp = some k) ∧
      transportAnswers3P.payload ≠ [] ∧
      transportAnswers3P.pktOffset = 0 ∧
      transportAnswers3P.payload.length = transportAnswers3O.sqe.len ∧
      transportAnswers3O.sqe.localWin = true ∧
      transportAnswers3O.got = [] ∧
      (transportAnswers3S.rd Reg.CQ_DESC0_BROKEN (transportAnswers3S.rd Reg.QP_DESC0_CQ transportAnswers3P.dstQp) = 0 ∧ (transportAnswers3S.cqOf (transportAnswers3S.rd Reg.QP_DESC0_CQ transportAnswers3P.dstQp)).fenced = false ∧ transportAnswers3S.rd Reg.QP_DESC0_LEGACY transportAnswers3P.dstQp = 0) ∧
      1 < transportAnswers3S.rd Reg.TRN_TIMERS1_ACK_COALESCE ∧
      transportAnswers3O.resps = 0 ∧
      transportAnswers3S.gddrPassAll (transportAnswers3S.qpTenant transportAnswers3P.dstQp) (transportAnswers3S.rd Reg.QP_DESC0_CONTEXT transportAnswers3P.dstQp) AccK.write transportAnswers3O.sqe.laddr transportAnswers3O.sqe.len = true ∧
      (transportAnswers3S.connOf transportAnswers3P.dstQp).recs = [transportAnswers3M] ∧
      transportAnswers3M.complete = true ∧
      transportAnswers3M.entered = false ∧
      transportAnswers3M.flush = [] ∧
      transportAnswers3M.opc = 2 ∧
      CanSend transportAnswers3S transportAnswers3P.dstQp 0) :=
  ⟨⟨⟨by decide +kernel, by decide +kernel, ⟨by decide +kernel, by decide +kernel, by decide +kernel, by decide +kernel, 0, by decide +kernel⟩, by decide +kernel⟩, by decide +kernel⟩, ⟨⟨by decide +kernel, by decide +kernel, ⟨by decide +kernel, by decide +kernel, by decide +kernel, by decide +kernel, 0, by decide +kernel⟩, by decide +kernel⟩, by decide +kernel⟩, ⟨⟨by decide +kernel, by decide +kernel, ⟨by decide +kernel, by decide +kernel, by decide +kernel, by decide +kernel, 0, by decide +kernel⟩, by decide +kernel⟩, by decide +kernel, by decide +kernel, by decide +kernel, by decide +kernel, ⟨0, by decide +kernel⟩, by decide +kernel, by decide +kernel, by decide +kernel, by decide +kernel, by decide +kernel, by decide +kernel, by decide +kernel, by decide +kernel, by decide +kernel, by decide +kernel, by decide +kernel, by decide +kernel, by decide +kernel, by decide +kernel, ⟨by decide +kernel, by decide +kernel, 0, by decide +kernel⟩⟩⟩

def mailboxRun1S : State := adm []

def mailboxRun2S : State := mb 1 0x7777 [] (adm [])

def mailboxRun3S : State := put State.reset [(Reg.MBX_MGMT_CFG_PORT_EN, 0, 1), (Reg.MBX_KILURN_STATE, 0, 1)]

def mailboxRun3Pk : Pkt := { opc := 0x3E, ext := [5, 0, 0, 0, 1, 1], payload := [1, 2] }

def mailboxRun4S : State := mb 1 1 [] (adm [])

def mailboxRun5S : State := mb 1 2 [] (adm [])

def mailboxRun6S : State := mb 1 3 [] (mg (fun m => { m with cert := [1, 2] }) (adm []))

/-- O40, MailboxRun: 6 states, which meet the hypotheses of its clauses. -/
theorem witness_MailboxRun :
    (isSlot 1 = true ∧
      mailboxRun1S.rd Reg.MBX_SLOT_STATUS_BUSY 1 = 0) ∧
    (isSlot 1 = true ∧
      mailboxRun2S.rd Reg.MBX_SLOT_STATUS_BUSY 1 = 1 ∧
      mailboxRun2S.mbxReady 1 = true ∧
      hdrSeq (mailboxRun2S.header 1) = (mailboxRun2S.mbxOf 1).seq ∧
      hdrLen (mailboxRun2S.header 1) ≤ 1920 ∧
      knownMbx (hdrCmd (mailboxRun2S.header 1)) = false) ∧
    (mailboxRun3Pk.opc = 62 ∧
      mgmtKind mailboxRun3Pk = 1 ∧
      mgmtMode mailboxRun3Pk = 1 ∧
      mailboxRun3S.rd Reg.MBX_MGMT_CFG_PORT_EN = 1 ∧
      mailboxRun3S.rd Reg.MBX_KILURN_STATE ≠ 3 ∧
      mailboxRun3S.board.pwr.aux = true ∧
      (∀ x ∈ (mailboxRun3S.mbxOf chPort).done, x.1 ≠ mgmtId mailboxRun3Pk) ∧
      (∀ x ∈ (mailboxRun3S.mbxOf chPort).reqs, x.msgId ≠ mgmtId mailboxRun3Pk)) ∧
    (MbxOpen mailboxRun4S 1 1) ∧
    (mailboxRun5S.slice 1 ≠ 0 ∧
      MbxOpen mailboxRun5S 1 2) ∧
    (MbxOpen mailboxRun6S 1 3) :=
  ⟨by decide +kernel, by decide +kernel, by decide +kernel, ⟨by decide +kernel, by decide +kernel, by decide +kernel, by decide +kernel⟩, ⟨by decide +kernel, ⟨by decide +kernel, by decide +kernel, by decide +kernel, by decide +kernel⟩⟩, ⟨by decide +kernel, by decide +kernel, by decide +kernel, by decide +kernel⟩⟩

def mailboxAttach1S : State := mb 1 0x10 [] (near id (put State.reset [(Reg.TEN_SLICE0_STATE, 1, 1)]))

def mailboxAttach2S : State := { mb 1 0x11 [(0,8,5)] (near id (put (State.reset.setAtt 8200 { st := .gone, token := some 5, epid := 7 }) [(Reg.TEN_SLICE0_STATE, 1, 1), (Reg.TEN_EXT0_STATE, 1, 2)])) with ten := { exts := [(1, { att := some 8200 })] } }

def mailboxAttach3S : State := (mb 1 0x11 [(0,8,5),(8,1,1)] (near id (put State.reset [(Reg.TEN_SLICE0_STATE, 1, 5)]))).setSlice 1 { migs := [(0, 5)] }

def mailboxAttach4S : State := mb 1 0x12 [(0,8,9)] (put (State.reset.setAtt 8 { st := .gone, epid := 9 }) [(Reg.TEN_SLICE0_STATE, 1, 1)])

def mailboxAttach5S : State := mb 1 0x13 [(0,8,0x1000),(8,8,0x2000),(16,8,0x3000),(26,1,6),(27,1,6)] (near id (adm [(Reg.ADM_DESC0_BOUND, 1, 0)]))

def mailboxAttach6S : State := mb 1 0x14 [] (adm [])

/-- O41, MailboxAttach: 6 states, which meet the hypotheses of its clauses. -/
theorem witness_MailboxAttach :
    (mailboxAttach1S.callerSlot 1 = some 0 ∧
      ((mailboxAttach1S.attOf (attNo 1 0)).st ≠ AttSt.attached ∧ (mailboxAttach1S.attOf (attNo 1 0)).st ≠ AttSt.absent) ∧
      MbxOpen mailboxAttach1S 1 16) ∧
    (mailboxAttach2S.callerSlot 1 = some 0 ∧
      ((mailboxAttach2S.attOf (attNo 1 0)).st ≠ AttSt.attached ∧ (mailboxAttach2S.attOf (attNo 1 0)).st ≠ AttSt.absent) ∧
      byteAt (mailboxAttach2S.params 1) 8 = 0 ∧
      leAt (mailboxAttach2S.params 1) 16 8 = 0 ∧
      (List.find? (fun (x : Nat) => (mailboxAttach2S.attOf x).st == AttSt.gone && (mailboxAttach2S.attOf x).token == some (leAt (mailboxAttach2S.params 1) 0 8)) (mailboxAttach2S.attsOf 1) = some 8200) ∧
      MbxOpen mailboxAttach2S 1 17) ∧
    (mailboxAttach3S.callerSlot 1 = some 0 ∧
      ((mailboxAttach3S.attOf (attNo 1 0)).st ≠ AttSt.attached ∧ (mailboxAttach3S.attOf (attNo 1 0)).st ≠ AttSt.absent) ∧
      byteAt (mailboxAttach3S.params 1) 8 = 1 ∧
      (mailboxAttach3S.sliceOf 1).migs = [(0, leAt (mailboxAttach3S.params 1) 0 8)] ∧
      (mailboxAttach3S.sliceOf 1).ctxs = [] ∧
      MbxOpen mailboxAttach3S 1 17) ∧
    ((List.filter (fun (x : Nat) => ((mailboxAttach4S.attOf x).st == AttSt.gone || (mailboxAttach4S.attOf x).st == AttSt.locked) && (mailboxAttach4S.attOf x).epid == leAt (mailboxAttach4S.params 1) 0 8) (mailboxAttach4S.attsOf 1) = [8]) ∧
      mailboxAttach4S.slice 1 ≠ 0 ∧
      (∀ x ∈ mailboxAttach4S.extList, (mailboxAttach4S.extOf x).att ≠ some 8) ∧
      MbxOpen mailboxAttach4S 1 18) ∧
    (mailboxAttach5S.callerSlot 1 = some 0 ∧
      mailboxAttach5S.attLive 1 0 = true ∧
      0 = leAt (mailboxAttach5S.params 1) 24 2 ∧
      mailboxAttach5S.ctxSlot 1 0 = some 0 ∧
      addrOk (leAt (mailboxAttach5S.params 1) 0 8) (2 ^ Reg.ADM_SQ_ADDR_ADDR.lo) = true ∧
      addrOk (leAt (mailboxAttach5S.params 1) 8 8) (2 ^ Reg.ADM_CQ_ADDR_ADDR.lo) = true ∧
      addrOk (leAt (mailboxAttach5S.params 1) 16 8) (2 ^ Reg.ADM_INDEX_ADDR_ADDR.lo) = true ∧
      6 ≤ byteAt (mailboxAttach5S.params 1) 26 ∧
      byteAt (mailboxAttach5S.params 1) 26 ≤ 10 ∧
      6 ≤ byteAt (mailboxAttach5S.params 1) 27 ∧
      byteAt (mailboxAttach5S.params 1) 27 ≤ 10 ∧
      mailboxAttach5S.rd Reg.ADM_DESC0_BOUND 1 = 0 ∧
      (mailboxAttach5S.admOf 1).held = [] ∧
      (mailboxAttach5S.admOf 1).lost = 0 ∧
      MbxOpen mailboxAttach5S 1 19) ∧
    (mailboxAttach6S.rd Reg.ADM_DESC0_BOUND 1 = 1 ∧
      MbxOpen mailboxAttach6S 1 20) :=
  ⟨⟨by decide +kernel, by decide +kernel, ⟨by decide +kernel, by decide +kernel, by decide +kernel, by decide +kernel⟩⟩, ⟨by decide +kernel, by decide +kernel, by decide +kernel, by decide +kernel, by decide +kernel, ⟨by decide +kernel, by decide +kernel, by decide +kernel, by decide +kernel⟩⟩, ⟨by decide +kernel, by decide +kernel, by decide +kernel, by decide +kernel, by decide +kernel, ⟨by decide +kernel, by decide +kernel, by decide +kernel, by decide +kernel⟩⟩, ⟨by decide +kernel, by decide +kernel, by decide +kernel, ⟨by decide +kernel, by decide +kernel, by decide +kernel, by decide +kernel⟩⟩, ⟨by decide +kernel, by decide +kernel, by decide +kernel, by decide +kernel, by decide +kernel, by decide +kernel, by decide +kernel, by decide +kernel, by decide +kernel, by decide +kernel, by decide +kernel, by decide +kernel, by decide +kernel, by decide +kernel, ⟨by decide +kernel, by decide +kernel, by decide +kernel, by decide +kernel⟩⟩, ⟨by decide +kernel, ⟨by decide +kernel, by decide +kernel, by decide +kernel, by decide +kernel⟩⟩⟩

def mailboxKeysAndProvider1S : State := mb 1 0x20 [] (adm [])

def mailboxKeysAndProvider2S : State := mg (fun m => { m with chals := [(1, [(5, 0)])] }) (mb 1 0x21 [(4,2,0x102),(8,16,5)] (adm [(Reg.TEN_SLICE3_CIPHER_CTX, 1, 1), (Reg.CIP_CTX0_VALID, 0, 1), (Reg.CIP_CTX0_TENANT, 0, 1)]))

def mailboxKeysAndProvider3S : State := mb 1 0x22 [] (adm [(Reg.TEN_SLICE3_CIPHER_CTX, 1, 1), (Reg.CIP_CTX0_VALID, 0, 1), (Reg.CIP_CTX0_TENANT, 0, 1), (Reg.CIP_CTX0_SLOT0_VALID, 0, 1)])

def mailboxKeysAndProvider4S : State := { mb 1 0x23 [] (adm [(Reg.TEN_SLICE3_CIPHER_CTX, 1, 1), (Reg.CIP_CTX0_VALID, 0, 1), (Reg.CIP_CTX0_TENANT, 0, 1), (Reg.CIP_CTX0_SLOT0_VALID, 0, 1), (Reg.CIP_CTX0_TX_PHASE, 0, 1)]) with cip := { keys := [(0, 9)] } }

def mailboxKeysAndProvider5S : State := mb 1 0x24 [] (adm [(Reg.TEN_SLICE3_CIPHER_CTX, 1, 1), (Reg.CIP_CTX0_VALID, 0, 1), (Reg.CIP_CTX0_TENANT, 0, 1)])

def mailboxKeysAndProvider6S : State := mb 1 0x25 [(0,2,4)] (adm [(Reg.TEN_SLICE3_CIPHER_CTX, 1, 1), (Reg.CIP_CTX0_VALID, 0, 1), (Reg.CIP_CTX0_TENANT, 0, 1), (Reg.QP_DESC0_VALID, 4, 1), (Reg.QP_DESC0_TENANT, 4, 1)])

def mailboxKeysAndProvider7S : State := mb 1023 0x100 [(0,1,6),(8,2,4)] (adm [(Reg.QP_DESC0_VALID, 4, 1), (Reg.QP_DESC0_TENANT, 4, 1023)])

def mailboxKeysAndProvider8S : State := (mb 1023 0x101 [(0,1,1)] (adm [])).setAdm 1023 { held := [{ event := true, code := 3 }] }

def mailboxKeysAndProvider8Ev : AdmEnt := { event := true, code := 3 }

def mailboxKeysAndProvider9S : State := mb 1023 0x102 [(0,8,0xFF0000000),(8,2,1)] (adm [])

def mailboxKeysAndProvider10S : State := mb 1023 0x103 [(0,8,0xFF0000000 + Reg.MEM_CORR_LIMIT_LIMIT.addr),(8,2,1),(16,8,77)] (adm [])

def mailboxKeysAndProvider11S : State := mb 1023 0x104 [(4,4,8),(32,4,0x01020304)] (adm [])

def mailboxKeysAndProvider12S : State := stg fwImg (mb 1023 0x105 [(0,4,321)] (adm []))

def mailboxKeysAndProvider12Sg : Option Nat := some 1

def mailboxKeysAndProvider13S : State := mb 1023 0x106 [(0,1,5),(4,4,8),(12,4,crc32c (List.replicate 8 0))] (adm [])

def mailboxKeysAndProvider14S : State := mb 1023 0x107 [(0,1,5)] (adm [(Reg.CLU_XFORM_ENT_VALID, 5, 1)])

def mailboxKeysAndProvider15S : State := (let s := mb 1023 0x107 [(0,1,5)] { adm [] with ten := { jobs := [.unxform 5] } }; s.setMbx 1023 { s.mbxOf 1023 with waiting := true })

def mailboxKeysAndProvider16S : State := mb 1023 0x108 [] (mg (fun m => { m with log := [([1], 2, 3)] }) (adm []))

/-- O42, MailboxKeysAndProvider: 16 states, which meet the hypotheses of its clauses. -/
theorem witness_MailboxKeysAndProvider :
    ((mailboxKeysAndProvider1S.openChals 1).length < 4 ∧
      MbxOpen mailboxKeysAndProvider1S 1 32) ∧
    (mailboxKeysAndProvider2S.cipMap 1 (beAt (mailboxKeysAndProvider2S.params 1) 0 2) = some 0 ∧
      byteAt (mailboxKeysAndProvider2S.params 1) 2 ≤ 1 ∧
      mailboxKeysAndProvider2S.rd (slotValid (byteAt (mailboxKeysAndProvider2S.params 1) 2)) = 0 ∧
      (((mailboxKeysAndProvider2S.openChals 1).any fun (x : Nat × Nat) => x.1 == leAt (mailboxKeysAndProvider2S.params 1) 8 16) = true) ∧
      mailboxKeysAndProvider2S.keyIdTaken 1 0 (beAt (mailboxKeysAndProvider2S.params 1) 4 2) = false ∧
      MbxOpen mailboxKeysAndProvider2S 1 33) ∧
    (mailboxKeysAndProvider3S.cipMap 1 (leAt (mailboxKeysAndProvider3S.params 1) 0 2) = some 0 ∧
      byteAt (mailboxKeysAndProvider3S.params 1) 2 ≤ 1 ∧
      mailboxKeysAndProvider3S.rd (slotValid (byteAt (mailboxKeysAndProvider3S.params 1) 2)) = 1 ∧
      mailboxKeysAndProvider3S.rd (slotUsed (byteAt (mailboxKeysAndProvider3S.params 1) 2)) = 0 ∧
      MbxOpen mailboxKeysAndProvider3S 1 34) ∧
    (mailboxKeysAndProvider4S.cipMap 1 (leAt (mailboxKeysAndProvider4S.params 1) 0 2) = some 0 ∧
      byteAt (mailboxKeysAndProvider4S.params 1) 2 ≤ 1 ∧
      mailboxKeysAndProvider4S.rd Reg.CIP_CTX0_TX_PHASE ≠ byteAt (mailboxKeysAndProvider4S.params 1) 2 ∧
      MbxOpen mailboxKeysAndProvider4S 1 35) ∧
    (mailboxKeysAndProvider5S.cipMap 1 (leAt (mailboxKeysAndProvider5S.params 1) 0 2) = some 0 ∧
      MbxOpen mailboxKeysAndProvider5S 1 36) ∧
    (mailboxKeysAndProvider6S.cipMap 1 (leAt (mailboxKeysAndProvider6S.params 1) 2 2) = some 0 ∧
      leAt (mailboxKeysAndProvider6S.params 1) 0 2 < 16384 ∧
      mailboxKeysAndProvider6S.qpValid (leAt (mailboxKeysAndProvider6S.params 1) 0 2) = true ∧
      mailboxKeysAndProvider6S.qpTenant (leAt (mailboxKeysAndProvider6S.params 1) 0 2) = 1 ∧
      mailboxKeysAndProvider6S.cst (leAt (mailboxKeysAndProvider6S.params 1) 0 2) = Cst.reset ∧
      MbxOpen mailboxKeysAndProvider6S 1 37) ∧
    (byteAt (List.take 64 (mailboxKeysAndProvider7S.params 1023)) 0 = 6 ∧
      mailboxKeysAndProvider7S.ownsQp provider (leAt (List.take 64 (mailboxKeysAndProvider7S.params 1023)) 8 2) = true ∧
      MbxOpen mailboxKeysAndProvider7S 1023 256) ∧
    ((mailboxKeysAndProvider8S.admOf provider).held = [mailboxKeysAndProvider8Ev] ∧
      mailboxKeysAndProvider8Ev.event = true ∧
      (mailboxKeysAndProvider8S.admOf provider).lost = 0 ∧
      1 ≤ byteAt (mailboxKeysAndProvider8S.params 1023) 0 ∧
      byteAt (mailboxKeysAndProvider8S.params 1023) 0 ≤ 61 ∧
      MbxOpen mailboxKeysAndProvider8S 1023 257) ∧
    (blockOff (leAt (mailboxKeysAndProvider9S.params 1023) 0 8) 1 = some 0 ∧
      leAt (mailboxKeysAndProvider9S.params 1023) 8 2 = 1 ∧
      MbxOpen mailboxKeysAndProvider9S 1023 258) ∧
    (blockOff (leAt (mailboxKeysAndProvider10S.params 1023) 0 8) 1 = some Reg.MEM_CORR_LIMIT_LIMIT.addr ∧
      leAt (mailboxKeysAndProvider10S.params 1023) 8 2 = 1 ∧
      77 = leAt (mailboxKeysAndProvider10S.params 1023) 16 8 ∧
      mailboxKeysAndProvider10S.mayWrite Reg.MEM_CORR_LIMIT_LIMIT.addr 77 = true ∧
      (mailboxKeysAndProvider10S.mbxWrite Reg.MEM_CORR_LIMIT_LIMIT.addr 77).mgmt = mailboxKeysAndProvider10S.mgmt ∧
      MbxOpen mailboxKeysAndProvider10S 1023 259) ∧
    (leAt (mailboxKeysAndProvider11S.params 1023) 0 4 % 8 = 0 ∧
      leAt (mailboxKeysAndProvider11S.params 1023) 4 4 = 8 ∧
      leAt (mailboxKeysAndProvider11S.params 1023) 0 4 + 8 ≤ stageBytes ∧
      MbxOpen mailboxKeysAndProvider11S 1023 260) ∧
    (leAt (mailboxKeysAndProvider12S.params 1023) 0 4 ≤ stageBytes ∧
      mailboxKeysAndProvider12S.imageFault (Mem.bytes mailboxKeysAndProvider12S.mgmt.stage 0 (leAt (mailboxKeysAndProvider12S.params 1023) 0 4)) mailboxKeysAndProvider12Sg true = 0 ∧
      MbxOpen mailboxKeysAndProvider12S 1023 261) ∧
    (5 = byteAt (mailboxKeysAndProvider13S.params 1023) 0 ∧
      leAt (mailboxKeysAndProvider13S.params 1023) 4 4 ≠ 0 ∧
      leAt (mailboxKeysAndProvider13S.params 1023) 4 4 % 4 = 0 ∧
      leAt (mailboxKeysAndProvider13S.params 1023) 4 4 ≤ stageBytes ∧
      leAt (mailboxKeysAndProvider13S.params 1023) 8 4 % 4 = 0 ∧
      leAt (mailboxKeysAndProvider13S.params 1023) 8 4 < leAt (mailboxKeysAndProvider13S.params 1023) 4 4 ∧
      crc32c (Mem.bytes mailboxKeysAndProvider13S.mgmt.stage 0 (leAt (mailboxKeysAndProvider13S.params 1023) 4 4)) = leAt (mailboxKeysAndProvider13S.params 1023) 12 4 ∧
      mailboxKeysAndProvider13S.mgmt.xformPlace (leAt (mailboxKeysAndProvider13S.params 1023) 4 4 / 4) = some (((adm []).mgmt.xformPlace 2).getD 0) ∧
      MbxOpen mailboxKeysAndProvider13S 1023 262) ∧
    (5 = byteAt (mailboxKeysAndProvider14S.params 1023) 0 ∧
      mailboxKeysAndProvider14S.rd Reg.CLU_XFORM_ENT_VALID 5 = 1 ∧
      MbxOpen mailboxKeysAndProvider14S 1023 263) ∧
    (mailboxKeysAndProvider15S.xformRuns 5 = false ∧
      mailboxKeysAndProvider15S.ten.jobs = [Job.unxform 5] ∧
      (mailboxKeysAndProvider15S.mbxOf 1023).waiting = true ∧
      hdrCmd (mailboxKeysAndProvider15S.header 1023) = 263 ∧
      (mailboxKeysAndProvider15S.admOf provider).queue = []) ∧
    (MbxOpen mailboxKeysAndProvider16S 1023 264) :=
  ⟨⟨by decide +kernel, ⟨by decide +kernel, by decide +kernel, by decide +kernel, by decide +kernel⟩⟩, ⟨by decide +kernel, by decide +kernel, by decide +kernel, by decide +kernel, by decide +kernel, ⟨by decide +kernel, by decide +kernel, by decide +kernel, by decide +kernel⟩⟩, ⟨by decide +kernel, by decide +kernel, by decide +kernel, by decide +kernel, ⟨by decide +kernel, by decide +kernel, by decide +kernel, by decide +kernel⟩⟩, ⟨by decide +kernel, by decide +kernel, by decide +kernel, ⟨by decide +kernel, by decide +kernel, by decide +kernel, by decide +kernel⟩⟩, ⟨by decide +kernel, ⟨by decide +kernel, by decide +kernel, by decide +kernel, by decide +kernel⟩⟩, ⟨by decide +kernel, by decide +kernel, by decide +kernel, by decide +kernel, by decide +kernel, ⟨by decide +kernel, by decide +kernel, by decide +kernel, by decide +kernel⟩⟩, ⟨by decide +kernel, by decide +kernel, ⟨by decide +kernel, by decide +kernel, by decide +kernel, by decide +kernel⟩⟩, ⟨by decide +kernel, by decide +kernel, by decide +kernel, by decide +kernel, by decide +kernel, ⟨by decide +kernel, by decide +kernel, by decide +kernel, by decide +kernel⟩⟩, ⟨by decide +kernel, by decide +kernel, ⟨by decide +kernel, by decide +kernel, by decide +kernel, by decide +kernel⟩⟩, ⟨by decide +kernel, by decide +kernel, by decide +kernel, by decide +kernel, by decide +kernel, ⟨by decide +kernel, by decide +kernel, by decide +kernel, by decide +kernel⟩⟩, ⟨by decide +kernel, by decide +kernel, by decide +kernel, ⟨by decide +kernel, by decide +kernel, by decide +kernel, by decide +kernel⟩⟩, ⟨by decide +kernel, by decide +kernel, ⟨by decide +kernel, by decide +kernel, by decide +kernel, by decide +kernel⟩⟩, ⟨by decide +kernel, by decide +kernel, by decide +kernel, by decide +kernel, by decide +kernel, by decide +kernel, by decide +kernel, by decide +kernel, ⟨by decide +kernel, by decide +kernel, by decide +kernel, by decide +kernel⟩⟩, ⟨by decide +kernel, by decide +kernel, ⟨by decide +kernel, by decide +kernel, by decide +kernel, by decide +kernel⟩⟩, by decide +kernel, ⟨by decide +kernel, by decide +kernel, by decide +kernel, by decide +kernel⟩⟩

def lifeCycle1S : State := mb 1023 0x110 [] (adm [])

def lifeCycle2S : State := mb 1023 0x111 [(0,1,1),(16,16,5)] (mg (fun m => { m with lcChal := some (5, 0) }) (adm []))

def lifeCycle3S : State := mg (fun m => { m with advance := some (1, []) }) (adm [])

def lifeCycle4S : State := mg (fun m => { m with advance := some (1, []) }) (adm [(Reg.LCS_STATE_PENDING, 0, 1)])

def lifeCycle4Hash : List Byte := []

def lifeCycle5S : State := mb 1023 0x120 [] (adm [])

def lifeCycle6S : State := mb 1023 0x120 [(0,1,1)] (adm [])

/-- O43, LifeCycle: 6 states, which meet the hypotheses of its clauses. -/
theorem witness_LifeCycle :
    (MbxOpen lifeCycle1S 1023 272 ∧
      lifeCycle1S.coreRuns 0 = true ∧
      lifeCycle1S.faultedLately 0 = false) ∧
    (lcNext (lifeCycle2S.rd Reg.LCS_STATE_STATE) = some (byteAt (lifeCycle2S.params 1023) 0) ∧
      lifeCycle2S.lcChalOk (leAt (lifeCycle2S.params 1023) 16 16) = true ∧
      (lifeCycle2S.rd Reg.LCS_STATE_STATE ≠ 0 → sha256 (List.take 64 (List.drop 32 (lifeCycle2S.params 1023))) = lifeCycle2S.quad Reg.LCS_OWNER_HASH) ∧
      MbxOpen lifeCycle2S 1023 273) ∧
    (lifeCycle3S.mgmt.advance.isSome = true ∧
      lifeCycle3S.rd Reg.LCS_STATE_PENDING = 0) ∧
    (lifeCycle4S.rd Reg.LCS_STATE_PENDING = 1 ∧
      lifeCycle4S.mgmt.advance = some (1, lifeCycle4Hash)) ∧
    (MbxOpen lifeCycle5S 1023 288 ∧
      lifeCycle5S.resetKind 1023 = 0) ∧
    (MbxOpen lifeCycle6S 1023 288 ∧
      lifeCycle6S.resetKind 1023 = 1) :=
  ⟨⟨⟨by decide +kernel, by decide +kernel, by decide +kernel, by decide +kernel⟩, by decide +kernel⟩, ⟨by decide +kernel, by decide +kernel, by decide +kernel, ⟨by decide +kernel, by decide +kernel, by decide +kernel, by decide +kernel⟩⟩, by decide +kernel, by decide +kernel, ⟨⟨by decide +kernel, by decide +kernel, by decide +kernel, by decide +kernel⟩, by decide +kernel⟩, ⟨⟨by decide +kernel, by decide +kernel, by decide +kernel, by decide +kernel⟩, by decide +kernel⟩⟩

def trafficShaping1S : State := { put State.reset [(Reg.TRN_QSHP_ACT_CFG, 3, 5 + 2 ^ 24 * 100), (Reg.TRN_TSHP_ACT_CFG, 4, 5 + 2 ^ 24 * 100), (Reg.CAD_STATUS_STATE, 0, 1)] with traffic := { meters := [(2, { cfg0 := 7, cfg1 := 9 })] } }

def trafficShaping1M : Meter := { cfg0 := 7, cfg1 := 9 }

/-- O44, TrafficShaping: a state meets the hypotheses together. -/
theorem witness_TrafficShaping :
    trafficShaping1S.listed Reg.TRN_QSHP_ACT_CFG = [3] ∧
      trafficShaping1S.listed Reg.TRN_TSHP_ACT_CFG = [4] ∧
      trafficShaping1S.traffic.meters = [(2, trafficShaping1M)] ∧
      trafficShaping1S.synced = false ∧
      trafficShaping1S.resting = false ∧
      trafficShaping1S.now ≤ max trafficShaping1S.traffic.lastRefill (trafficShaping1S.markOf 5) + trafficShaping1S.refillCt ∧
      max trafficShaping1S.traffic.lastRefill (trafficShaping1S.markOf 5) + trafficShaping1S.refillCt < 2 ^ 64 :=
  by decide +kernel

def trafficEgress1S : State := { put State.reset [(Reg.TRN_EGR_CTRL_GATE_EN, 0, 1), (Reg.CAD_STATUS_STATE, 0, 2), (Reg.TRN_GCL_ACT, 0, 1 + 2 ^ 32 * 100)] with traffic := { gateLen := 1, gateCycle := 100, gateStopped := false } }

def trafficEgress2S : State := (far [] State.reset).setFar 0 { classQ := [(3, [{}])] }

def trafficEgress2F : Frame := {}

def trafficEgress2Rest : List Frame := []

def trafficEgress3S : State := far [(Reg.TRN_HFC_STAT_OFF_SENT, 0, 8), (Reg.TRN_HFC_XON_KIB, 0, 1), (Reg.TRN_HFC_XOFF_KIB, 0, 2)] State.reset

def trafficEgress4S : State := far [(Reg.TRN_HFC_STAT_OFF_SENT, 0, 8), (Reg.TRN_HFC_XON_KIB, 0, 0)] State.reset

def trafficEgress5S : State := far [(Reg.MAC_PORT_CFG_PAUSE_RX_EN, 0, 1), (Reg.MAC_PORT_CFG_PFC_RX_EN, 0, 0)] State.reset

def trafficEgress6S : State := far [(Reg.MAC_PORT_CFG_PFC_RX_EN, 0, 1)] State.reset

def trafficEgress6L : List Nat := [0, 0, 0, 5]

def trafficEgress7S : State := (far [(Reg.TRN_HFC_STAT_PAUSED, 0, 8)] State.reset).setFar 0 { pausedTo := [(3, 50)] }

def trafficEgress7E : Nat × Nat := (3, 50)

/-- O45, TrafficEgress: 7 states, which meet the hypotheses of its clauses. -/
theorem witness_TrafficEgress :
    (trafficEgress1S.gateReady = true ∧
      trafficEgress1S.traffic.gateBase ≤ trafficEgress1S.now ∧
      trafficEgress1S.now + trafficEgress1S.gateNow.2.2 < 2 ^ 64 ∧
      trafficEgress1S.armed = [] ∧
      trafficEgress1S.resting = false) ∧
    ((trafficEgress2S.farOf 0).queue 3 = trafficEgress2F :: trafficEgress2Rest ∧
      (∀ (d : Nat), d ≠ 3 → (trafficEgress2S.farOf 0).queue d = []) ∧
      trafficEgress2S.eligible 0 3 = true ∧
      trafficEgress2S.gateOn = false ∧
      trafficEgress2F.bytes ≤ 9216 ∧
      (∀ x ∈ trafficEgress2S.far, x.2.ingress = [])) ∧
    (bit (trafficEgress3S.rd Reg.TRN_HFC_STAT_OFF_SENT) 3 = true ∧
      (trafficEgress3S.farOf 0).occ 3 < 1024 * trafficEgress3S.xonKib 0) ∧
    (bit (trafficEgress4S.rd Reg.TRN_HFC_STAT_OFF_SENT) 3 = true ∧
      1024 * trafficEgress4S.xonKib 0 ≤ (trafficEgress4S.farOf 0).occ 3) ∧
    (trafficEgress5S.rd Reg.MAC_PORT_CFG_PAUSE_RX_EN = 1 ∧
      trafficEgress5S.rd Reg.MAC_PORT_CFG_PFC_RX_EN = 0) ∧
    (trafficEgress6S.rd Reg.MAC_PORT_CFG_PFC_RX_EN = 1 ∧
      trafficEgress6L.getD 3 0 = 5) ∧
    ((List.find? (fun (x : Nat × Nat) => x.1 == 3) (trafficEgress7S.farOf 0).pausedTo = some trafficEgress7E) ∧
      trafficEgress7E.2 < 2 ^ 64) :=
  ⟨by decide +kernel, ⟨by decide +kernel, fun d hd => by change (if 3 = d then [({} : Frame)] else []) = []; exact if_neg (Ne.symm hd), by decide +kernel⟩, by decide +kernel, by decide +kernel, by decide +kernel, by decide +kernel, by decide +kernel⟩

def farPorts1S : State := far [] State.reset

def farPorts1F : RxFrame := { fcsOk := false }

def farPorts2S : State := far [(Reg.MAC_PORT_STATUS_LINK_UP, 0, 0)] State.reset

def farPorts3S : State := far [(Reg.MAC_PORT_CFG_ENABLE, 16, 1), (Reg.MAC_PORT_CFG_WIDTH, 16, 4), (Reg.MAC_PORT_STATUS_LINK_UP, 16, 1), (Reg.FWP_CTRL_ENABLE, 0, 1), (Reg.FWP_STATUS_STATE, 0, 1), (Reg.FWP_FWD_ENT_VALID_ACT, 9, 1), (Reg.FWP_FWD_ENT_COUNT_ACT, 9, 1), (Reg.FWP_FWD_ENT_PORTS_ACT, 9, 16)] State.reset

def farPorts3F : RxFrame := { bytes := 100, dport := 17079, pkt := some { dstMod := 9, tc := 2 } }

def farPorts3K : Pkt := { dstMod := 9, tc := 2 }

def farPorts4S : State := far [(Reg.FWP_STATUS_STATE, 0, 2)] State.reset

/-- O46, FarPorts: 4 states, which meet the hypotheses of its clauses. -/
theorem witness_FarPorts :
    ((∀ x ∈ farPorts1S.far, x.2.ingress = []) ∧
      farPorts1S.rd Reg.MAC_PORT_STATUS_LINK_UP = 1 ∧
      farPorts1S.portUp 0 = true ∧
      farPorts1S.board.pwr.off = false ∧
      farPorts1S.power < 2 ∧
      farPorts1F.fcsOk = false) ∧
    ((∀ x ∈ farPorts2S.far, x.2.ingress = []) ∧
      farPorts2S.rd Reg.MAC_PORT_STATUS_LINK_UP = 0 ∧
      farPorts2S.mayTrain 0 = true ∧
      farPorts2S.board.lanes.substs = [] ∧
      farPorts2S.rd Reg.FWP_STATUS_STATE = 0) ∧
    (farPorts3S.portUp 0 = true ∧
      farPorts3S.board.pwr.off = false ∧
      farPorts3S.power < 2 ∧
      farPorts3F.fcsOk = true ∧
      64 ≤ farPorts3F.bytes ∧
      farPorts3F.bytes ≤ 9216 ∧
      farPorts3F.etype = 34525 ∧
      farPorts3S.rd Reg.CAD_SYNC_INTERVAL_ETYPE ≠ 34525 ∧
      groupAddr farPorts3F.dst = false ∧
      farPorts3F.dst = farPorts3S.rd Reg.MAC_ADDR_ADDR ∧
      farPorts3S.ingressFull 0 farPorts3F = false ∧
      farPorts3F.tree = none ∧
      farPorts3F.pkt = some farPorts3K ∧
      farPorts3F.dport = farPorts3S.fwId.2 ∧
      farPorts3K.dstMod ≠ farPorts3S.fwId.1 ∧
      farPorts3S.rd Reg.FWP_CTRL_ENABLE = 1 ∧
      (farPorts3S.rd Reg.FWP_STATUS_STATE = 1 ∨ farPorts3S.rd Reg.FWP_STATUS_STATE = 2) ∧
      (farPorts3S.farOf 0).ingress = [] ∧
      farPorts3S.forwardPort 0 farPorts3K.dstMod farPorts3F.sport = some 16 ∧
      1 < farPorts3F.ttl ∧
      farPorts3S.classOn 16 = true ∧
      farPorts3F.ect = false ∧
      bit (farPorts3S.rd Reg.TRN_HFC_CLASS_EN) farPorts3F.tc = false) ∧
    (farPorts4S.rd Reg.FWP_STATUS_STATE = 2) :=
  ⟨by decide +kernel, by decide +kernel, ⟨by decide +kernel, by decide +kernel, by decide +kernel, by decide +kernel, by decide +kernel, by decide +kernel, by decide +kernel, by decide +kernel, by decide +kernel, by decide +kernel, by decide +kernel⟩, by decide +kernel⟩

def laneSparing1S : State := far [(Reg.MAC_SPARE_CTRL_FAR_REMAP_EN, 0, 1), (Reg.MAC_SPARE_CFG_CABLED, 0, 1), (Reg.MAC_SPARE_CFG_PORT, 0, 0)] State.reset

def laneSparing1M : LaneMsg := { logical := 1, seq := 7 }

def laneSparing2S : State := ln (fun y => { y with exchs := [{ near := false, port := 0, logical := 1, spare := 0, seq := 7, proposer := true }] }) (far [] State.reset)

def laneSparing2M : LaneMsg := { logical := 1, seq := 7 }

def laneSparing2E : Exch := { near := false, port := 0, logical := 1, spare := 0, seq := 7, proposer := true }

def laneSparing3S : State := ln (fun y => { y with exchs := [{ near := false, port := 0, logical := 1, spare := 0, seq := 7, proposer := true, sent := true }] }) (far [] State.reset)

def laneSparing3M : LaneMsg := { logical := 1, seq := 7 }

def laneSparing3E : Exch := { near := false, port := 0, logical := 1, spare := 0, seq := 7, proposer := true, sent := true }

def laneSparing4S : State := ln (fun y => { y with substs := [{ port := 0, pos := 1, spare := 0 }] }) (far [(Reg.MAC_PORT_STATUS_LINK_UP, 0, 0)] State.reset)

def laneSparing4X : Subst := { port := 0, pos := 1, spare := 0 }

/-- O47, LaneSparing: 4 states, which meet the hypotheses of its clauses. -/
theorem witness_LaneSparing :
    (laneSparing1S.exchOn false 0 = none ∧
      laneSparing1S.board.lanes.substs = [] ∧
      laneSparing1S.remapOn false = true ∧
      laneSparing1S.freeSpare false 0 true = some 0 ∧
      false = decide (36 ≤ 1) ∧
      laneSparing1S.portOf 1 = some 0 ∧
      laneSparing1M.crcOk = true) ∧
    (laneSparing2S.exchOn false 0 = some laneSparing2E ∧
      laneSparing2E.near = false ∧
      laneSparing2E.port = 0 ∧
      laneSparing2M.crcOk = true ∧
      laneSparing2M.seq = laneSparing2E.seq ∧
      laneSparing2E.sent = false ∧
      laneSparing2E.rcvd = false ∧
      laneSparing2E.proposer = true) ∧
    (laneSparing3S.exchOn false 0 = some laneSparing3E ∧
      laneSparing3E.near = false ∧
      laneSparing3E.port = 0 ∧
      laneSparing3M.crcOk = true ∧
      laneSparing3M.seq = laneSparing3E.seq ∧
      laneSparing3E.sent = true ∧
      laneSparing3S.rd Reg.MAC_LANE_MAP_PHYS (positionOf false 0 laneSparing3E.logical) < 72) ∧
    (laneSparing4S.board.lanes.substs = [laneSparing4X] ∧
      laneSparing4X.port = 0 ∧
      laneSparing4S.rd Reg.MAC_LANE_MAP_PHYS laneSparing4X.pos < 72 ∧
      laneSparing4S.mayTrain 0 = true) :=
  ⟨by decide +kernel, by decide +kernel, by decide +kernel, by decide +kernel⟩

def collectives1S : State := { pel { pl with st := .armed, cores := 1, banks := 1, tenant := 1023, entry := 2, codeAt := 65536, op := some { opn with started := false, launchAt := 9 } } (put State.reset [(Reg.CAD_STATUS_STATE, 0, 2)]) with armed := [{ kind := .launch 0 0, at_ := 9 }] }

def collectives1O : PelOp := { opn with started := false, launchAt := 9 }

def collectives2S : State := { pel { pl with op := some opn } (put State.reset [(Reg.CAD_STATUS_STATE, 0, 2)]) with armed := [{ kind := .deadline 0 1, at_ := 9 }] }

def collectives3S : State := pel pl (con [] id id)

def collectives3Pk : Pkt := chk 0x18

def collectives5S : State := pel pl (con [] id id)

def collectives5Pk : Pkt := ctlPkt 0x1A 0

def collectives6S : State := pel pl (con [] id id)

def collectives6Pk : Pkt := ctlPkt 0x1B 3

def collectives7S : State := pel { pl with tR := some 9, minMembers := 1, ctls := [{ epoch := 0, round := 0, kind := 3, origin := 1 }] } State.reset

def collectives8S : State := (pel { pl with op := some opn } State.reset).setSq 0 { ops := [{ serial := 0, sqe := {} }] }

def collectives8Y : Op := { serial := 0, sqe := {} }

/-- O48, Collectives: 7 states, which meet the hypotheses of its clauses. -/
theorem witness_Collectives :
    ((collectives1S.pelOf 0).op = some collectives1O ∧
      collectives1O.serial = 0 ∧
      collectives1O.started = false ∧
      collectives1O.missed = false ∧
      collectives1O.launchAt = 9 ∧
      (collectives1S.armed = [{ kind := EvKind.launch 0 0, at_ := 9 }] ∧ collectives1S.now ≤ 9 ∧ 9 < 2 ^ 64 ∧ collectives1S.rd Reg.CAD_STATUS_STATE ≠ 4 ∧ collectives1S.resting = false) ∧
      (collectives1S.pelOf 0).st = PelSt.armed ∧
      collectives1S.banksLeft 0 = true) ∧
    ((collectives2S.pelOf 0).op = some opn ∧
      (collectives2S.armed = [{ kind := EvKind.deadline 0 1, at_ := 9 }] ∧ collectives2S.now ≤ 9 ∧ 9 < 2 ^ 64 ∧ collectives2S.rd Reg.CAD_STATUS_STATE ≠ 4 ∧ collectives2S.resting = false) ∧
      (collectives2S.pelOf 0).chunks = [] ∧
      collectives2S.pendingSlots 0 1 = []) ∧
    ((Admitted collectives3S collectives3Pk rxd ∧ InOrder collectives3S collectives3Pk ∧ CanSend collectives3S collectives3Pk.dstQp 0 ∧ collectives3S.linkPel collectives3Pk.dstQp = some (0, 0) ∧ (collectives3S.pelOf 0).chunks = [] ∧ leAt collectives3Pk.ext 0 4 = (collectives3S.pelOf 0).group ∧ leAt collectives3Pk.ext 4 4 = (collectives3S.pelOf 0).epoch ∧ leAt collectives3Pk.ext 20 4 = collectives3Pk.payload.length ∧ leAt collectives3Pk.ext 20 4 ≤ collectives3S.mtu collectives3Pk.dstQp ∧ 24 < 28) ∧
      collectives3Pk.payload ≠ [] ∧
      leAt collectives3Pk.ext 16 4 = 0 ∧
      leAt collectives3Pk.ext 20 4 ≤ 4194304 ∧
      chunkSrcOk (collectives3S.pelOf 0) 0 { opc := 24, ackReq := (chunkPkt collectives3Pk).ackReq, retx := (chunkPkt collectives3Pk).retx, ver := (chunkPkt collectives3Pk).ver, tc := (chunkPkt collectives3Pk).tc, epoch := (chunkPkt collectives3Pk).epoch, srcMod := (chunkPkt collectives3Pk).srcMod, dstMod := (chunkPkt collectives3Pk).dstMod, srcQp := (chunkPkt collectives3Pk).srcQp, dstQp := (chunkPkt collectives3Pk).dstQp, psn := (chunkPkt collectives3Pk).psn, msn := (chunkPkt collectives3Pk).msn, entropy := (chunkPkt collectives3Pk).entropy, nonce := (chunkPkt collectives3Pk).nonce, txTime := (chunkPkt collectives3Pk).txTime, rkey := (chunkPkt collectives3Pk).rkey, imm := (chunkPkt collectives3Pk).imm, immValid := (chunkPkt collectives3Pk).immValid, target := (chunkPkt collectives3Pk).target, pktOffset := (chunkPkt collectives3Pk).pktOffset, msgLen := (chunkPkt collectives3Pk).msgLen, format := (chunkPkt collectives3Pk).format, rangeOffset := (chunkPkt collectives3Pk).rangeOffset, rangeLen := (chunkPkt collectives3Pk).rangeLen, readPsn := (chunkPkt collectives3Pk).readPsn, op0 := (chunkPkt collectives3Pk).op0, op1 := (chunkPkt collectives3Pk).op1, cumPsn := (chunkPkt collectives3Pk).cumPsn, sackBase := (chunkPkt collectives3Pk).sackBase, sack := (chunkPkt collectives3Pk).sack, tsEcho := (chunkPkt collectives3Pk).tsEcho, ackDelay := (chunkPkt collectives3Pk).ackDelay, ceCount := (chunkPkt collectives3Pk).ceCount, nakKind := (chunkPkt collectives3Pk).nakKind, syndrome := (chunkPkt collectives3Pk).syndrome, reason := (chunkPkt collectives3Pk).reason, detail := (chunkPkt collectives3Pk).detail, backoff := (chunkPkt collectives3Pk).backoff, old := (chunkPkt collectives3Pk).old, ext := (chunkPkt collectives3Pk).ext, payload := (chunkPkt collectives3Pk).payload } = true ∧
      crc32c collectives3Pk.payload = leAt collectives3Pk.ext 24 4 ∧
      (collectives3S.pelOf 0).bankIds = [] ∧
      (Admitted collectives3S collectives3Pk rxd ∧ InOrder collectives3S collectives3Pk ∧ CanSend collectives3S collectives3Pk.dstQp 0 ∧ collectives3S.linkPel collectives3Pk.dstQp = some (0, 0) ∧ (collectives3S.pelOf 0).chunks = [] ∧ leAt collectives3Pk.ext 0 4 = (collectives3S.pelOf 0).group ∧ leAt collectives3Pk.ext 4 4 = (collectives3S.pelOf 0).epoch ∧ leAt collectives3Pk.ext 20 4 = collectives3Pk.payload.length ∧ leAt collectives3Pk.ext 20 4 ≤ collectives3S.mtu collectives3Pk.dstQp ∧ 25 < 28) ∧
      chunkSrcOk (collectives3S.pelOf 0) 0 { opc := 25, ackReq := (chunkPkt collectives3Pk).ackReq, retx := (chunkPkt collectives3Pk).retx, ver := (chunkPkt collectives3Pk).ver, tc := (chunkPkt collectives3Pk).tc, epoch := (chunkPkt collectives3Pk).epoch, srcMod := (chunkPkt collectives3Pk).srcMod, dstMod := (chunkPkt collectives3Pk).dstMod, srcQp := (chunkPkt collectives3Pk).srcQp, dstQp := (chunkPkt collectives3Pk).dstQp, psn := (chunkPkt collectives3Pk).psn, msn := (chunkPkt collectives3Pk).msn, entropy := (chunkPkt collectives3Pk).entropy, nonce := (chunkPkt collectives3Pk).nonce, txTime := (chunkPkt collectives3Pk).txTime, rkey := (chunkPkt collectives3Pk).rkey, imm := (chunkPkt collectives3Pk).imm, immValid := (chunkPkt collectives3Pk).immValid, target := (chunkPkt collectives3Pk).target, pktOffset := (chunkPkt collectives3Pk).pktOffset, msgLen := (chunkPkt collectives3Pk).msgLen, format := (chunkPkt collectives3Pk).format, rangeOffset := (chunkPkt collectives3Pk).rangeOffset, rangeLen := (chunkPkt collectives3Pk).rangeLen, readPsn := (chunkPkt collectives3Pk).readPsn, op0 := (chunkPkt collectives3Pk).op0, op1 := (chunkPkt collectives3Pk).op1, cumPsn := (chunkPkt collectives3Pk).cumPsn, sackBase := (chunkPkt collectives3Pk).sackBase, sack := (chunkPkt collectives3Pk).sack, tsEcho := (chunkPkt collectives3Pk).tsEcho, ackDelay := (chunkPkt collectives3Pk).ackDelay, ceCount := (chunkPkt collectives3Pk).ceCount, nakKind := (chunkPkt collectives3Pk).nakKind, syndrome := (chunkPkt collectives3Pk).syndrome, reason := (chunkPkt collectives3Pk).reason, detail := (chunkPkt collectives3Pk).detail, backoff := (chunkPkt collectives3Pk).backoff, old := (chunkPkt collectives3Pk).old, ext := (chunkPkt collectives3Pk).ext, payload := (chunkPkt collectives3Pk).payload } = true) ∧
    ((ctlOf collectives5Pk.ext collectives5Pk.payload).kind ≠ 3 ∧
      (ctlOf collectives5Pk.ext collectives5Pk.payload).action = 2 ∧
      (Admitted collectives5S collectives5Pk rxd ∧ InOrder collectives5S collectives5Pk ∧ CanSend collectives5S collectives5Pk.dstQp 0 ∧ collectives5S.linkPel collectives5Pk.dstQp = some (0, 0) ∧ (collectives5S.pelOf 0).chunks = [] ∧ leAt collectives5Pk.ext 0 4 = (collectives5S.pelOf 0).group ∧ leAt collectives5Pk.ext 4 4 = (collectives5S.pelOf 0).epoch ∧ 2 * leAt collectives5Pk.ext 18 2 = collectives5Pk.payload.length ∧ 2 * leAt collectives5Pk.ext 18 2 ≤ collectives5S.mtu collectives5Pk.dstQp ∧ 26 < 28) ∧
      collectives5Pk.pktOffset = 0 ∧
      (collectives5S.pelOf 0).st = PelSt.running ∧
      (collectives5S.pelOf 0).tR = none ∧
      (collectives5S.pelOf 0).seen = []) ∧
    ((ctlOf collectives6Pk.ext collectives6Pk.payload).kind = 3 ∧
      (Admitted collectives6S collectives6Pk rxd ∧ InOrder collectives6S collectives6Pk ∧ CanSend collectives6S collectives6Pk.dstQp 0 ∧ collectives6S.linkPel collectives6Pk.dstQp = some (0, 0) ∧ (collectives6S.pelOf 0).chunks = [] ∧ leAt collectives6Pk.ext 0 4 = (collectives6S.pelOf 0).group ∧ leAt collectives6Pk.ext 4 4 = (collectives6S.pelOf 0).epoch ∧ 2 * leAt collectives6Pk.ext 18 2 = collectives6Pk.payload.length ∧ 2 * leAt collectives6Pk.ext 18 2 ≤ collectives6S.mtu collectives6Pk.dstQp ∧ 27 < 28) ∧
      collectives6Pk.pktOffset = 0 ∧
      (collectives6S.pelOf 0).st = PelSt.running ∧
      (collectives6S.pelOf 0).tR = none ∧
      (collectives6S.pelOf 0).seen = []) ∧
    ((collectives7S.pelOf 0).tR = some 9 ∧
      collectives7S.armed = [] ∧
      collectives7S.now ≤ 9 ∧
      9 < 2 ^ 64 ∧
      (collectives7S.pelOf 0).reformAts = [] ∧
      (collectives7S.pelOf 0).op = none ∧
      (excludedSet (collectives7S.pelOf 0).live (collectives7S.pelOf 0).ctls).contains (collectives7S.pelOf 0).me = false ∧
      ((collectives7S.pelOf 0).minMembers ≤ (List.filter (fun (m : Nat) => !(excludedSet (collectives7S.pelOf 0).live (collectives7S.pelOf 0).ctls).contains m) (collectives7S.pelOf 0).live).length)) ∧
    ((collectives8S.pelOf 0).op = some opn ∧
      (collectives8S.pelOf 0).st = PelSt.running ∧
      opn.started = true ∧
      opn.excl = [] ∧
      (collectives8S.pelOf 0).waitOps = [] ∧
      (collectives8S.sqOf opn.qp).ops = [collectives8Y] ∧
      collectives8Y.serial = opn.serial ∧
      collectives8Y.st ≠ OpSt.done ∧
      collectives8S.rd Reg.CQ_DESC0_BROKEN (collectives8S.rd Reg.QP_DESC0_CQ opn.qp) = 0) :=
  ⟨by decide +kernel, by decide +kernel, ⟨⟨⟨by decide +kernel, by decide +kernel, ⟨by decide +kernel, by decide +kernel, by decide +kernel, by decide +kernel, 0, by decide +kernel⟩, by decide +kernel⟩, ⟨by decide +kernel, by decide +kernel, by decide +kernel, 0, by decide +kernel⟩, ⟨by decide +kernel, by decide +kernel, 0, by decide +kernel⟩, by decide +kernel, by decide +kernel, by decide +kernel, by decide +kernel, by decide +kernel, by decide +kernel, by decide +kernel⟩, by decide +kernel, by decide +kernel, by decide +kernel, by decide +kernel, by decide +kernel, by decide +kernel, ⟨⟨by decide +kernel, by decide +kernel, ⟨by decide +kernel, by decide +kernel, by decide +kernel, by decide +kernel, 0, by decide +kernel⟩, by decide +kernel⟩, ⟨by decide +kernel, by decide +kernel, by decide +kernel, 0, by decide +kernel⟩, ⟨by decide +kernel, by decide +kernel, 0, by decide +kernel⟩, by decide +kernel, by decide +kernel, by decide +kernel, by decide +kernel, by decide +kernel, by decide +kernel, by decide +kernel⟩, by decide +kernel⟩, ⟨by decide +kernel, by decide +kernel, ⟨⟨by decide +kernel, by decide +kernel, ⟨by decide +kernel, by decide +kernel, by decide +kernel, by decide +kernel, 0, by decide +kernel⟩, by decide +kernel⟩, ⟨by decide +kernel, by decide +kernel, by decide +kernel, 0, by decide +kernel⟩, ⟨by decide +kernel, by decide +kernel, 0, by decide +kernel⟩, by decide +kernel, by decide +kernel, by decide +kernel, by decide +kernel, by decide +kernel, by decide +kernel, by decide +kernel⟩, by decide +kernel⟩, ⟨by decide +kernel, ⟨⟨by decide +kernel, by decide +kernel, ⟨by decide +kernel, by decide +kernel, by decide +kernel, by decide +kernel, 0, by decide +kernel⟩, by decide +kernel⟩, ⟨by decide +kernel, by decide +kernel, by decide +kernel, 0, by decide +kernel⟩, ⟨by decide +kernel, by decide +kernel, 0, by decide +kernel⟩, by decide +kernel, by decide +kernel, by decide +kernel, by decide +kernel, by decide +kernel, by decide +kernel, by decide +kernel⟩, by decide +kernel⟩, by decide +kernel, by decide +kernel⟩

def resilienceTests1S : State := put State.reset [(Reg.RES_CTRL_TEST_EN, 0, 1), (Reg.RES_UNIT_STAT_STATE, unitNo 6 14, 1)]

def resilienceTests2S : State := rs (fun r => { r with tests := [{ unit := unitNo 6 1 }] }) (put State.reset [(Reg.RES_UNIT_STAT_STATE, unitNo 6 1, 2)])

def resilienceTests2T0 : Test := { unit := unitNo 6 1 }

def resilienceTests3S : State := put State.reset [(Reg.RES_CTRL_TEST_EN, 0, 1), (Reg.RES_UNIT_STAT_STATE, unitNo 6 14, 1)]

def resilienceTests4S : State := rs (fun r => { r with moves := [{ src := 0, dst := [8], swapped := true }], copies := [{ cluster := 0, logical := 3, old := 3, new := 16 }], march := some { cluster := 0, phys := 2, preserve := false } }) (clu (fun c => { c with bank := [(3 * 2 ^ 18 + 5, 7)] }) State.reset)

def resilienceTests4Mv : Move := { src := 0, dst := [8], swapped := true }

def resilienceTests4X : BankCopy := { cluster := 0, logical := 3, old := 3, new := 16 }

def resilienceTests4M : March := { cluster := 0, phys := 2, preserve := false }

/-- O49, ResilienceTests: 4 states, which meet the hypotheses of its clauses. -/
theorem witness_ResilienceTests :
    (unitNo 6 1 = unitNo 6 1 ∧
      resilienceTests1S.board.pwr.off = false ∧
      resilienceTests1S.unitSt (unitNo 6 1) = 0 ∧
      resilienceTests1S.takeSpare 6 = some 14 ∧
      resilienceTests1S.rd Reg.RES_CTRL_TEST_EN = 1) ∧
    (resilienceTests2S.board.res.tests = [resilienceTests2T0] ∧
      resilienceTests2T0.unit = unitNo 6 1 ∧
      unitNo 6 1 = unitNo 6 1 ∧
      resilienceTests2T0.slot = false ∧
      resilienceTests2T0.returns = false ∧
      (resilienceTests2S.passesIn (unitNo 6 1)).length + 1 < resilienceTests2S.rd Reg.RES_CTRL_TRANSIENT_LIMIT) ∧
    ((unitIx (unitNo 6 14) < unitCount (unitKind (unitNo 6 14)) ∧ unitNo 6 14 < 2 ^ 16 ∧ resilienceTests3S.isFree (unitNo 6 14) = true ∧ resilienceTests3S.underTest (unitNo 6 14) = false) ∧
      resilienceTests3S.rd Reg.RES_CTRL_TEST_EN = 1 ∧
      resilienceTests3S.spareUnits ≠ [] ∧
      resilienceTests3S.board.pwr.off = false ∧
      resilienceTests3S.synced = false ∧
      resilienceTests3S.resting = false ∧
      resilienceTests3S.now ≤ resilienceTests3S.markOf 1 + 1000000000 * max 1 (resilienceTests3S.rd Reg.RES_CTRL_SPARE_TEST_S) / resilienceTests3S.spareUnits.length ∧
      resilienceTests3S.markOf 1 + 1000000000 * max 1 (resilienceTests3S.rd Reg.RES_CTRL_SPARE_TEST_S) / resilienceTests3S.spareUnits.length < 2 ^ 64 ∧
      bits 1553 0 4 < 10 ∧
      bits 1553 4 5 < 16 ∧
      bit 1553 9 = true ∧
      bit 1553 10 = true ∧
      resilienceTests3S.rd Reg.RES_MARCH_BUSY = 0) ∧
    (resilienceTests4S.board.res.moves = [resilienceTests4Mv] ∧
      resilienceTests4Mv.src = 0 ∧
      resilienceTests4Mv.swapped = true ∧
      resilienceTests4Mv.core = false ∧
      resilienceTests4S.drained 0 = true ∧
      resilienceTests4S.board.res.copies = [resilienceTests4X] ∧
      resilienceTests4X.cluster = 0 ∧
      resilienceTests4X.old = 3 ∧
      3 ≠ resilienceTests4X.new ∧
      resilienceTests4X.new < 17 ∧
      Memory.wf (resilienceTests4S.cluOf 0).bank = true ∧
      resilienceTests4S.board.res.march = some resilienceTests4M ∧
      resilienceTests4M.preserve = false) :=
  ⟨by decide +kernel, by decide +kernel, by decide +kernel, by decide +kernel⟩

def resilienceMemory1S : State := rs (fun r => { r with extra := 3, tests := [{ unit := unitNo 7 2 }] }) (put State.reset [(Reg.RES_UNIT_STAT_STATE, unitNo 7 16, 1)])

def resilienceMemory1T0 : Test := { unit := unitNo 7 2 }

def resilienceMemory2S : State := put State.reset [(Reg.MEM_COPY_ACTIVE, 0, 1), (Reg.MEM_COPY_SRC, 0, 2), (Reg.MEM_COPY_DST, 0, 16), (Reg.MEM_CTRL_SCRUB_EN, 0, 1)]

/-- O50, ResilienceMemory: 2 states, which meet the hypotheses of its clauses. -/
theorem witness_ResilienceMemory :
    (resilienceMemory1S.board.pwr.off = false ∧
      resilienceMemory1S.board.res.extra ≠ 0 ∧
      resilienceMemory1S.resting = false ∧
      resilienceMemory1S.board.res.tests = [resilienceMemory1T0] ∧
      resilienceMemory1T0.unit = unitNo 7 2 ∧
      resilienceMemory1T0.slot = false ∧
      (resilienceMemory1S.passesIn (unitNo 7 2)).length + 1 < resilienceMemory1S.rd Reg.RES_CTRL_TRANSIENT_LIMIT ∧
      resilienceMemory1S.rd Reg.MEM_COPY_ACTIVE = 0 ∧
      resilienceMemory1S.rd Reg.MEM_DEV_STATE 2 = 0 ∧
      resilienceMemory1S.takeSpare 7 = some 16 ∧
      resilienceMemory1S.rd Reg.MEM_CTRL_SCRUB_EN = 1 ∧
      resilienceMemory1S.board.res.hours % 24 ≠ 23) ∧
    (resilienceMemory2S.board.pwr.off = false ∧
      resilienceMemory2S.rd Reg.MEM_COPY_ACTIVE = 1 ∧
      resilienceMemory2S.rd Reg.MEM_COPY_SRC ≠ resilienceMemory2S.rd Reg.MEM_COPY_DST ∧
      (∀ i < 18, resilienceMemory2S.rd Reg.MEM_DEV_LASTING_ROWS i < 16 ∧ resilienceMemory2S.rd Reg.MEM_DEV_CORR_24H i < resilienceMemory2S.rd Reg.MEM_CORR_LIMIT_LIMIT)) :=
  ⟨by decide +kernel, by decide +kernel⟩

def idleCycle2S : State := { State.reset with armed := [{ kind := .swap, at_ := 0 }] }

/-- O52, IdleCycle: 2 states, which meet the hypotheses of its clauses. -/
theorem witness_IdleCycle :
    (State.reset.pending = [] ∧
      State.reset.now < 2 ^ 64 ∧
      State.reset.board.pwr.off = false ∧
      State.reset.board.pwr.rst ≠ 3 ∧
      (∀ e ∈ State.reset.armed, e.at_ ≠ State.reset.now)) ∧
    (idleCycle2S.pending = [] ∧
      idleCycle2S.now < 2 ^ 64 ∧
      (idleCycle2S.board.pwr.off = true ∨ idleCycle2S.board.pwr.rst = 3 ∨ ∃ e ∈ idleCycle2S.armed, e.at_ = idleCycle2S.now)) :=
  ⟨by decide +kernel, by decide +kernel⟩

def scheduledEvents1S : State := { put State.reset [(Reg.CAD_STATUS_STATE, 0, 2)] with armed := [{ kind := .swap, at_ := 5 }, { kind := .gate, at_ := 5 }] }

def scheduledEvents2S : State := { put State.reset [(Reg.CAD_STATUS_STATE, 0, 2)] with armed := [{ kind := .swap, at_ := 5 }, { kind := .gate, at_ := 5 }] }

def scheduledEvents3S : State := { put State.reset [(Reg.CAD_STATUS_STATE, 0, 4)] with armed := [{ kind := .swap, at_ := 5 }] }

def scheduledEvents4S : State := { put State.reset [(Reg.CAD_STATUS_STATE, 0, 2), (Reg.CAD_COUNT_COUNT, 0, 9)] with armed := [{ kind := .swap, at_ := 5 }] }

/-- O56, ScheduledEvents: 4 states, which meet the hypotheses of its clauses. -/
theorem witness_ScheduledEvents :
    (scheduledEvents1S.armedAt EvKind.swap = some 5 ∧
      (∀ e ∈ scheduledEvents1S.armed, 5 < e.at_ ∨ 5 = e.at_ ∧ EvKind.swap.order ≤ e.kind.order) ∧
      scheduledEvents1S.rd Reg.CAD_STATUS_STATE ≠ 4 ∧
      scheduledEvents1S.resting = false ∧
      scheduledEvents1S.now ≤ 5 ∧
      5 < 2 ^ 64) ∧
    (scheduledEvents2S.armedAt EvKind.gate = some 5 ∧
      (¬∀ e ∈ scheduledEvents2S.armed, 5 < e.at_ ∨ 5 = e.at_ ∧ EvKind.gate.order ≤ e.kind.order)) ∧
    (scheduledEvents3S.armedAt EvKind.swap = some 5 ∧
      scheduledEvents3S.rd Reg.CAD_STATUS_STATE = 4) ∧
    (scheduledEvents4S.armedAt EvKind.swap = some 5 ∧
      (∀ e ∈ scheduledEvents4S.armed, 5 < e.at_ ∨ 5 = e.at_ ∧ EvKind.swap.order ≤ e.kind.order) ∧
      scheduledEvents4S.rd Reg.CAD_STATUS_STATE ≠ 4 ∧
      scheduledEvents4S.resting = false ∧
      5 < scheduledEvents4S.now) :=
  ⟨by decide +kernel, by decide +kernel, by decide +kernel, by decide +kernel⟩

def adminEvents1S : State := adm []

def adminEvents3S : State := State.reset.setAdm 1 { lost := 2, held := [{ tag := 1 }] }

def adminEvents4S : State := (adm []).setAdm 1 { lost := 2, held := [{ tag := 1 }] }

def adminEvents4X : AdmEnt := { tag := 1 }

/-- O57, AdminEvents: 4 states, which meet the hypotheses of its clauses. -/
theorem witness_AdminEvents :
    (adminEvents1S.frozen 1 = false ∧
      adminEvents1S.admRoom 1 = true ∧
      (adminEvents1S.admOf 1).held = [] ∧
      (adminEvents1S.admOf 1).lost = 0) ∧
    (State.reset.frozen 1 = false ∧
      (State.reset.admRoom 1 = false ∨ (State.reset.admOf 1).held ≠ []) ∧
      (State.reset.admOf 1).lost = 0 ∧
      (State.reset.admOf 1).events < 256) ∧
    (adminEvents3S.frozen 1 = false ∧
      (adminEvents3S.admRoom 1 = false ∨ (adminEvents3S.admOf 1).held ≠ []) ∧
      (256 ≤ (adminEvents3S.admOf 1).events ∨ (adminEvents3S.admOf 1).lost ≠ 0)) ∧
    (adminEvents4S.frozen 1 = false ∧
      adminEvents4S.rd Reg.ADM_DESC0_BOUND 1 = 1 ∧
      (adminEvents4S.admOf 1).written = (adminEvents4S.admOf 1).headSeen ∧
      (adminEvents4S.admOf 1).written < 2 ^ 32 ∧
      1 ≤ adminEvents4S.rd Reg.ADM_DESC0_CQ_LOG2 1 ∧
      (adminEvents4S.admOf 1).lost ≠ 0 ∧
      adminEvents4S.rd Reg.ADM_DESC0_CQ_LOG2 1 < 32 ∧
      (adminEvents4S.admOf 1).held = [adminEvents4X]) :=
  ⟨by decide +kernel, by decide +kernel, by decide +kernel, by decide +kernel⟩

def accumulatorReads1A : Accum := { x := 5 }

def accumulatorReads2A : Accum := { x := 5, nan := true }

def accumulatorReads3A : Accum := { x := 5, pinf := true }

def accumulatorReads4A : Accum := { x := 5, ninf := true }

def accumulatorReads5A : Accum := { x := 2 ^ 319 }

/-- O58, AccumulatorReads: 5 states, which meet the hypotheses of its clauses. -/
theorem witness_AccumulatorReads :
    ((¬(accumulatorReads1A.nan = true ∨ accumulatorReads1A.pinf = true ∧ accumulatorReads1A.ninf = true)) ∧
      accumulatorReads1A.pinf = false ∧
      accumulatorReads1A.ninf = false ∧
      (-2 ^ 319 + 2 ^ 312 ≤ accumulatorReads1A.x ∧ accumulatorReads1A.x < 2 ^ 319)) ∧
    ((accumulatorReads2A.nan = true ∨ accumulatorReads2A.pinf = true ∧ accumulatorReads2A.ninf = true)) ∧
    ((¬(accumulatorReads3A.nan = true ∨ accumulatorReads3A.pinf = true ∧ accumulatorReads3A.ninf = true)) ∧
      accumulatorReads3A.pinf = true) ∧
    ((¬(accumulatorReads4A.nan = true ∨ accumulatorReads4A.pinf = true ∧ accumulatorReads4A.ninf = true)) ∧
      accumulatorReads4A.ninf = true) ∧
    ((¬(accumulatorReads5A.nan = true ∨ accumulatorReads5A.pinf = true ∧ accumulatorReads5A.ninf = true)) ∧
      accumulatorReads5A.pinf = false ∧
      accumulatorReads5A.ninf = false ∧
      (¬(-2 ^ 319 + 2 ^ 312 ≤ accumulatorReads5A.x ∧ accumulatorReads5A.x < 2 ^ 319))) :=
  ⟨by decide +kernel, by decide +kernel, by decide +kernel, by decide +kernel, by decide +kernel⟩

/-- O59, RegisterAccess: 3 states, which meet the hypotheses of its clauses. -/
theorem witness_RegisterAccess :
    (Reg.MEM_CORR_LIMIT_LIMIT.acc = Acc.rw ∧
      State.reset.board.pwr.off = false ∧
      State.reset.rd Reg.MEM_ERR_LOG0_VALID < 2) ∧
    ((Reg.TRN_TX_PKTS_COUNT.acc = Acc.ro ∨ Reg.TRN_TX_PKTS_COUNT.acc = Acc.wo)) ∧
    (Reg.CAD_EVT_STATUS_FAULT.acc = Acc.w1c ∧
      0 < Reg.CAD_EVT_STATUS_FAULT.w) :=
  ⟨by decide +kernel, by decide +kernel, by decide +kernel⟩

def dumpRing2S : State := put State.reset [(Reg.TEN_EXT0_STATE, 1, 1), (Reg.TEN_EXT0_TENANT, 1, 0x3FF), (Reg.TEN_EXT1_BASE_UNIT, 1, 1), (Reg.TEN_EXT1_UNITS, 1, 4), (Reg.PMC_DUMP_BASE_OFFSET, 0, 512)]

def dumpRing3S : State := put State.reset [(Reg.TEN_EXT0_STATE, 1, 1), (Reg.TEN_EXT0_TENANT, 1, 0x3FF), (Reg.TEN_EXT1_BASE_UNIT, 1, 1), (Reg.TEN_EXT1_UNITS, 1, 4), (Reg.PMC_DUMP_BASE_OFFSET, 0, 512), (Reg.PMC_DUMP_CFG_DUMP_EN, 0, 1)]

def dumpRing4S : State := put State.reset [(Reg.TEN_EXT0_STATE, 1, 1), (Reg.TEN_EXT0_TENANT, 1, 0x3FF), (Reg.TEN_EXT1_BASE_UNIT, 1, 1), (Reg.TEN_EXT1_UNITS, 1, 4), (Reg.PMC_DUMP_BASE_OFFSET, 0, 512), (Reg.PMC_DUMP_CFG_DUMP_EN, 0, 1), (Reg.PMC_DUMP_WPTR_SEQ, 0, 2), (Reg.PMC_DUMP_BASE_LOG2_RECORDS, 0, 1)]

def dumpRing5S : State := put State.reset [(Reg.PMC_DUMP_CFG_DUMP_EN, 0, 1)]

/-- O60, DumpRing: 5 states, which meet the hypotheses of its clauses. -/
theorem witness_DumpRing :
    (bit (2 ^ 40 + 5) 40 = true ∧
      State.reset.rd Reg.PMC_DUMP_CFG_DUMP_EN = 0 ∧
      (¬∃ (n : Nat), (State.reset.rd Reg.TEN_EXT0_STATE n = 1 ∨ State.reset.rd Reg.TEN_EXT0_STATE n = 2) ∧ State.reset.rd Reg.TEN_EXT0_TENANT n = 1023 ∧ State.reset.rd Reg.TEN_EXT1_BASE_UNIT n * 2 ^ 21 ≤ 4096 * State.reset.rd Reg.PMC_DUMP_BASE_OFFSET ∧ 4096 * State.reset.rd Reg.PMC_DUMP_BASE_OFFSET + 4096 * 2 ^ min 16 (max 1 (State.reset.rd Reg.PMC_DUMP_BASE_LOG2_RECORDS)) ≤ (State.reset.rd Reg.TEN_EXT1_BASE_UNIT n + State.reset.rd Reg.TEN_EXT1_UNITS n) * 2 ^ 21)) ∧
    (dumpRing3S.rd Reg.PMC_DUMP_CFG_DUMP_EN = 1 ∧
      dumpRing3S.board.pwr.off = false ∧
      (∃ (n : Nat), (dumpRing3S.rd Reg.TEN_EXT0_STATE n = 1 ∨ dumpRing3S.rd Reg.TEN_EXT0_STATE n = 2) ∧ dumpRing3S.rd Reg.TEN_EXT0_TENANT n = 1023 ∧ dumpRing3S.rd Reg.TEN_EXT1_BASE_UNIT n * 2 ^ 21 ≤ 4096 * dumpRing3S.rd Reg.PMC_DUMP_BASE_OFFSET ∧ 4096 * dumpRing3S.rd Reg.PMC_DUMP_BASE_OFFSET + 4096 * 2 ^ min 16 (max 1 (dumpRing3S.rd Reg.PMC_DUMP_BASE_LOG2_RECORDS)) ≤ (dumpRing3S.rd Reg.TEN_EXT1_BASE_UNIT n + dumpRing3S.rd Reg.TEN_EXT1_UNITS n) * 2 ^ 21) ∧
      dumpRing3S.synced = false ∧
      dumpRing3S.resting = false ∧
      dumpRing3S.now ≤ dumpRing3S.markOf 0 + min 200000000000 (max 1000000 (dumpRing3S.rd Reg.PMC_DUMP_CFG_PERIOD_CT)) ∧
      dumpRing3S.markOf 0 + min 200000000000 (max 1000000 (dumpRing3S.rd Reg.PMC_DUMP_CFG_PERIOD_CT)) < 2 ^ 64 ∧
      ¬(dumpRing3S.rd Reg.PMC_DUMP_WPTR_SEQ + 2 ^ 64 - dumpRing3S.rd Reg.PMC_DUMP_RPTR_SEQ) % 2 ^ 64 = 2 ^ min 16 (max 1 (dumpRing3S.rd Reg.PMC_DUMP_BASE_LOG2_RECORDS))) ∧
    (dumpRing4S.rd Reg.PMC_DUMP_CFG_DUMP_EN = 1 ∧
      dumpRing4S.board.pwr.off = false ∧
      (∃ (n : Nat), (dumpRing4S.rd Reg.TEN_EXT0_STATE n = 1 ∨ dumpRing4S.rd Reg.TEN_EXT0_STATE n = 2) ∧ dumpRing4S.rd Reg.TEN_EXT0_TENANT n = 1023 ∧ dumpRing4S.rd Reg.TEN_EXT1_BASE_UNIT n * 2 ^ 21 ≤ 4096 * dumpRing4S.rd Reg.PMC_DUMP_BASE_OFFSET ∧ 4096 * dumpRing4S.rd Reg.PMC_DUMP_BASE_OFFSET + 4096 * 2 ^ min 16 (max 1 (dumpRing4S.rd Reg.PMC_DUMP_BASE_LOG2_RECORDS)) ≤ (dumpRing4S.rd Reg.TEN_EXT1_BASE_UNIT n + dumpRing4S.rd Reg.TEN_EXT1_UNITS n) * 2 ^ 21) ∧
      dumpRing4S.synced = false ∧
      dumpRing4S.resting = false ∧
      dumpRing4S.now ≤ dumpRing4S.markOf 0 + min 200000000000 (max 1000000 (dumpRing4S.rd Reg.PMC_DUMP_CFG_PERIOD_CT)) ∧
      dumpRing4S.markOf 0 + min 200000000000 (max 1000000 (dumpRing4S.rd Reg.PMC_DUMP_CFG_PERIOD_CT)) < 2 ^ 64 ∧
      (dumpRing4S.rd Reg.PMC_DUMP_WPTR_SEQ + 2 ^ 64 - dumpRing4S.rd Reg.PMC_DUMP_RPTR_SEQ) % 2 ^ 64 = 2 ^ min 16 (max 1 (dumpRing4S.rd Reg.PMC_DUMP_BASE_LOG2_RECORDS))) ∧
    (dumpRing5S.rd Reg.PMC_DUMP_CFG_DUMP_EN = 1 ∧
      dumpRing5S.board.pwr.off = false ∧
      (¬∃ (n : Nat), (dumpRing5S.rd Reg.TEN_EXT0_STATE n = 1 ∨ dumpRing5S.rd Reg.TEN_EXT0_STATE n = 2) ∧ dumpRing5S.rd Reg.TEN_EXT0_TENANT n = 1023 ∧ dumpRing5S.rd Reg.TEN_EXT1_BASE_UNIT n * 2 ^ 21 ≤ 4096 * dumpRing5S.rd Reg.PMC_DUMP_BASE_OFFSET ∧ 4096 * dumpRing5S.rd Reg.PMC_DUMP_BASE_OFFSET + 4096 * 2 ^ min 16 (max 1 (dumpRing5S.rd Reg.PMC_DUMP_BASE_LOG2_RECORDS)) ≤ (dumpRing5S.rd Reg.TEN_EXT1_BASE_UNIT n + dumpRing5S.rd Reg.TEN_EXT1_UNITS n) * 2 ^ 21)) ∧
    (bit (2 ^ 40 + 5) 40 = true ∧
      dumpRing2S.rd Reg.PMC_DUMP_CFG_DUMP_EN = 0 ∧
      (∃ n, (dumpRing2S.rd Reg.TEN_EXT0_STATE n = 1 ∨ dumpRing2S.rd Reg.TEN_EXT0_STATE n = 2) ∧ dumpRing2S.rd Reg.TEN_EXT0_TENANT n = 1023 ∧ dumpRing2S.rd Reg.TEN_EXT1_BASE_UNIT n * 2 ^ 21 ≤ 4096 * dumpRing2S.rd Reg.PMC_DUMP_BASE_OFFSET ∧ 4096 * dumpRing2S.rd Reg.PMC_DUMP_BASE_OFFSET + 4096 * 2 ^ min 16 (max 1 (dumpRing2S.rd Reg.PMC_DUMP_BASE_LOG2_RECORDS)) ≤ (dumpRing2S.rd Reg.TEN_EXT1_BASE_UNIT n + dumpRing2S.rd Reg.TEN_EXT1_UNITS n) * 2 ^ 21)) :=
  ⟨⟨by decide +kernel, by decide +kernel, fun ⟨n, h, _⟩ => by have : State.reset.rd Reg.TEN_EXT0_STATE n = 0 := rfl; omega⟩, ⟨by decide +kernel, by decide +kernel, ⟨1, by decide +kernel⟩, by decide +kernel⟩, ⟨by decide +kernel, by decide +kernel, ⟨1, by decide +kernel⟩, by decide +kernel⟩, ⟨by decide +kernel, by decide +kernel, fun ⟨n, h, _⟩ => by have : dumpRing5S.rd Reg.TEN_EXT0_STATE n = 0 := rfl; omega⟩, ⟨by decide +kernel, by decide +kernel, ⟨1, by decide +kernel⟩⟩⟩

end Sys2Proof.Tests
end

section
/-! What a register reads as and what a write of it does, by the access code of each field (R2, R329), and what clearing
the counters does (R448). -/

namespace Sys2Proof.Safety

open Sys2Proof Sys2Proof.Machine

/-! Frames. -/

theorem SameFieldsBut.refl (l : List Fld) (s : State) : SameFieldsBut l s s := fun _ _ _ => rfl

theorem SameFieldsBut.trans {l : List Fld} {s t u : State} (a : SameFieldsBut l s t) (b : SameFieldsBut l t u) : SameFieldsBut l s u :=
  fun f i h => (b f i h).trans (a f i h)

/-- A loop leaves the fields that each of its steps leaves. -/
theorem SameFieldsBut.foldl {β : Type} {l : List Fld} {step : State → β → State} {xs : List β}
    (h : ∀ t, ∀ x ∈ xs, SameFieldsBut l t (step t x)) (s : State) : SameFieldsBut l s (xs.foldl step s) := by
  induction xs generalizing s with
  | nil => exact .refl l s
  | cons x xs ih =>
    exact (h s x List.mem_cons_self).trans (ih (fun t y hy => h t y (List.mem_cons_of_mem x hy)) _)

/-- Where only one cell of a field changes, only that field does. -/
theorem SameRegsBut.sameFieldsBut {f : Fld} {i : Nat} {s t : State} {l : List Fld} (h : SameRegsBut [(f, i)] s t) (hf : f ∈ l) :
    SameFieldsBut l s t := by
  intro g j hg
  refine h g j fun e he => ?_
  obtain rfl := List.mem_singleton.1 he
  exact fun hk => hg f hf hk.1

theorem SameRegsBut.refl (l : List (Fld × Nat)) (s : State) : SameRegsBut l s s := fun _ _ _ => rfl

end Sys2Proof.Safety

namespace Sys2Proof.Machine

open Sys2Proof Sys2Proof.Safety

theorem State.sameRegsBut_wr (s : State) (f : Fld) (i v : Nat) : SameRegsBut [(f, i)] s (s.wr f i v) :=
  fun g j h => State.rd_wr_ne s f g i j v (h (f, i) (List.mem_singleton_self _))

theorem satAdd_lt (w v n : Nat) : satAdd w v n < 2 ^ w := by
  have := Nat.two_pow_pos w
  unfold satAdd
  omega

/-- A counter that stops at its greatest value takes the sum, and nothing else changes. -/
theorem State.writes_count (s : State) (f : Fld) (i n : Nat) :
    Writes [(f, i, satAdd f.w (s.rd f i) n)] s (s.count f i n) := by
  refine ⟨fun e he => ?_, State.sameRegsBut_wr s f i _, rfl⟩
  obtain rfl := List.mem_singleton.1 he
  rw [State.count_eq, State.rd_wr_self, Nat.mod_eq_of_lt (satAdd_lt ..)]

/-! Reads (R2). -/

/-- What field `f` adds to the value of the register at `off`. -/
def State.fieldWord (s : State) (off : Nat) (f : Fld) : Nat :=
  match s.fieldAt f off with
  | some i => if f.acc = .wo then 0 else s.rd f i * 2 ^ f.lo
  | none => 0

theorem State.wordAt_eq_sum (s : State) (l : List Fld) (off : Nat) : s.wordAt l off = (l.map (s.fieldWord off)).sum := by
  rw [List.sum_eq_foldl, List.foldl_map]
  unfold State.wordAt
  congr 1
  funext acc f
  unfold State.fieldWord
  cases s.fieldAt f off with
  | none => rfl
  | some i => by_cases h : f.acc = .wo <;> simp [h]

/-! Writes of one field, by its access code (R2, R3, R393). -/

section Access

variable {f : Fld} (s : State) (i v : Nat)

theorem State.access_rw (h : f.acc = .rw) : s.access f i v = s.wr f i v := by simp [State.access, h]

theorem State.access_readonly (h : f.acc = .ro ∨ f.acc = .wo) : s.access f i v = s := by
  rcases h with h | h <;> simp [State.access, h]

theorem State.access_w1c (h : f.acc = .w1c) : s.access f i v = s.wr f i (s.rd f i &&& (2 ^ f.w - 1 - v % 2 ^ f.w)) := by
  simp [State.access, h]

theorem State.access_w1s (h : f.acc = .w1s) : s.access f i v = s.wr f i (s.rd f i ||| v % 2 ^ f.w) := by
  simp [State.access, h]

theorem State.access_rwl_unlocked (h : f.acc = .rwl) (hl : s.rd Reg.LCS_STATE_LOCK 0 ≠ 1) : s.access f i v = s.wr f i v := by
  simp [State.access, h, hl]

theorem State.access_rwl_locked (h : f.acc = .rwl) (hl : s.rd Reg.LCS_STATE_LOCK 0 = 1) : s.access f i v = s := by
  simp [State.access, h, hl]

/-- A write by software writes the field or does nothing. -/
theorem State.access_cases (f : Fld) : s.access f i v = s ∨ ∃ x, s.access f i v = s.wr f i x := by
  cases h : f.acc with
  | rw => exact .inr ⟨_, State.access_rw s i v h⟩
  | ro => exact .inl (State.access_readonly s i v (.inl h))
  | wo => exact .inl (State.access_readonly s i v (.inr h))
  | w1c => exact .inr ⟨_, State.access_w1c s i v h⟩
  | w1s => exact .inr ⟨_, State.access_w1s s i v h⟩
  | rwl =>
    by_cases hl : s.rd Reg.LCS_STATE_LOCK 0 = 1
    · exact .inl (State.access_rwl_locked s i v h hl)
    · exact .inr ⟨_, State.access_rwl_unlocked s i v h hl⟩

theorem State.sameRegsBut_access (f : Fld) : SameRegsBut [(f, i)] s (s.access f i v) := by
  rcases State.access_cases s i v f with h | ⟨x, h⟩
  · rw [h]; exact .refl _ s
  · rw [h]; exact State.sameRegsBut_wr s f i x

theorem State.access_only_regs (f : Fld) : s.access f i v = { s with regs := (s.access f i v).regs } := by
  rcases State.access_cases s i v f with h | ⟨x, h⟩
  · rw [h]
  · rw [h]; rfl

/-- Ones written clear bits. -/
theorem State.testBit_access_w1c {b : Nat} (h : f.acc = .w1c) (hb : b < f.w) :
    ((s.access f i v).rd f i).testBit b = ((s.rd f i).testBit b && !v.testBit b) := by
  have hm : 2 ^ f.w - 1 - v % 2 ^ f.w = 2 ^ f.w - (v % 2 ^ f.w + 1) := by omega
  rw [State.access_w1c s i v h, State.rd_wr_self, hm, Nat.testBit_mod_two_pow, Nat.testBit_and,
    Nat.testBit_two_pow_sub_succ (Nat.mod_lt _ (Nat.two_pow_pos _)), Nat.testBit_mod_two_pow]
  simp [hb]

/-- Ones written set bits. -/
theorem State.testBit_access_w1s {b : Nat} (h : f.acc = .w1s) (hb : b < f.w) :
    ((s.access f i v).rd f i).testBit b = ((s.rd f i).testBit b || v.testBit b) := by
  rw [State.access_w1s s i v h, State.rd_wr_self, Nat.testBit_mod_two_pow, Nat.testBit_or, Nat.testBit_mod_two_pow]
  simp [hb]

/-- A one-bit field that a one clears. -/
theorem State.rd_access_w1c_of_one_bit (h : f.acc = .w1c) (hw : f.w = 1) (hr : s.rd f i < 2) :
    (s.access f i v).rd f i = if bit v 0 then 0 else s.rd f i := by
  rw [State.access_w1c s i v h, State.rd_wr_self, hw]
  obtain hv | hv : v % 2 = 0 ∨ v % 2 = 1 := by omega
  · obtain hx | hx : s.rd f i = 0 ∨ s.rd f i = 1 := by omega
    all_goals simp [bit, hv, hx]
  · simp [bit, hv]

end Access

/-! Writes of a register (R2, R8). -/

theorem State.sameFieldsBut_accessAt (s : State) (l : List Fld) (off v : Nat) : SameFieldsBut l s (s.accessAt l off v) := by
  refine SameFieldsBut.foldl (fun t f hf => ?_) s
  cases s.fieldAt f off with
  | none => exact .refl l t
  | some i => exact (State.sameRegsBut_access t i _ f).sameFieldsBut hf

/-- Does a write at `off` reach the field, and can it change it? -/
def Fld.writableAt (off : Nat) (f : Fld) : Bool := (f.arrayIx off).isSome && f.acc != .ro && f.acc != .wo

/-- A write of a register is a write of the fields there that a write can change. -/
theorem State.accessAt_eq_filter (s : State) (l : List Fld) (off v : Nat) :
    s.accessAt l off v = s.accessAt (l.filter (Fld.writableAt off)) off v := by
  unfold State.accessAt
  rw [List.foldl_filter]
  congr 1
  funext t f
  by_cases hw : f.writableAt off = true
  · rw [if_pos hw]
  · rw [if_neg hw]
    unfold State.fieldAt
    cases ha : f.arrayIx off with
    | none => rfl
    | some r =>
      have hacc : f.acc = .ro ∨ f.acc = .wo := by
        simpa [Fld.writableAt, ha, or_iff_not_imp_left] using hw
      exact State.access_readonly t _ _ hacc

/-- Nothing changes where no field can. -/
theorem State.accessAt_of_filter_nil (s : State) {l : List Fld} {off : Nat} (v : Nat) (h : l.filter (Fld.writableAt off) = []) :
    s.accessAt l off v = s := by rw [State.accessAt_eq_filter, h]; rfl

/-- Where one field can change, the write is the write of that field. -/
theorem State.accessAt_of_filter_singleton (s : State) {l : List Fld} {off i : Nat} {f : Fld} (v : Nat)
    (h : l.filter (Fld.writableAt off) = [f]) (hi : s.fieldAt f off = some i) :
    s.accessAt l off v = s.access f i (v / 2 ^ f.lo) := by
  rw [State.accessAt_eq_filter, h]
  simp [State.accessAt, hi]

/-- No field of `l` is written where none stands. -/
theorem State.accessAt_of_not_regExists (s : State) {l : List Fld} {off : Nat} (v : Nat) (h : regExists l off = false) :
    s.accessAt l off v = s := by
  refine State.accessAt_of_filter_nil s v (List.filter_eq_nil_iff.2 fun f hf => ?_)
  have : (f.arrayIx off).isSome = false := by simpa using List.any_eq_false.1 h f hf
  simp [Fld.writableAt, this]

/-- A write of both halves is a write of the whole word. -/
theorem mergeHalves_both (old : Nat) {v : Nat} (hv : v < 2 ^ 64) : mergeHalves old v 3 = v := by
  have h0 : bit 3 0 = true := by decide
  have h1 : bit 3 1 = true := by decide
  simp only [mergeHalves, h0, h1, if_true]
  omega

theorem State.liveFields_of_powered (s : State) (n : Nat) (h : s.board.pwr.off = false) : s.liveFields n = Reg.blockFields n := by
  simp [State.liveFields, State.powered, h]

/-- The offsets of the TRN_ block at which a write has an effect of its own. -/
def trnEffectOffs : List Nat :=
  [Reg.TRN_QSHP_APPLY_GO.addr, Reg.TRN_TSHP_APPLY_GO.addr, Reg.TRN_MTR_APPLY_GO.addr, Reg.TRN_EGR_CTRL_GATE_EN.addr]

theorem State.writeTrnReg_of_no_effect (s : State) (l : List Fld) {off : Nat} (v : Nat) (h : off ∉ trnEffectOffs) :
    s.writeTrnReg l off v = s.accessAt l off v := by
  simp only [trnEffectOffs, List.mem_cons, List.not_mem_nil, or_false, not_or] at h
  obtain ⟨h1, h2, h3, h4⟩ := h
  rw [State.writeTrnReg, if_neg h1, if_neg h2, if_neg h3, if_neg h4]

/-- A write of a whole word of the MEM_ block, at a register that starts nothing. -/
theorem State.writeReg_mem (s : State) {off v : Nat} (hp : s.board.pwr.off = false) (hv : v < 2 ^ 64) (hn : off / 2 ^ 20 = 11)
    (ho : off ∉ ownedOffs) (hc : off ≠ Reg.MEM_COPY_REQ.addr) : s.writeReg off v 3 = s.accessAt Reg.blockMEM off v := by
  have ho' : ownedOffs.contains off = false := by simpa using ho
  simp only [State.writeReg, hn, s.liveFields_of_powered _ hp, mergeHalves_both _ hv, ho', Reg.blockFields, hc]
  cases hr : regExists Reg.blockMEM off with
  | false => simp [State.accessAt_of_not_regExists s v hr]
  | true => simp

/-- A write of a whole word of the TRN_ block, at a register with no effect of its own. -/
theorem State.writeReg_trn (s : State) {off v : Nat} (hp : s.board.pwr.off = false) (hv : v < 2 ^ 64) (hn : off / 2 ^ 20 = 5)
    (ho : off ∉ ownedOffs) (he : off ∉ trnEffectOffs) : s.writeReg off v 3 = s.accessAt Reg.blockTRN off v := by
  have ho' : ownedOffs.contains off = false := by simpa using ho
  simp only [State.writeReg, hn, s.liveFields_of_powered _ hp, mergeHalves_both _ hv, ho', Reg.blockFields,
    s.writeTrnReg_of_no_effect _ _ he]
  cases hr : regExists Reg.blockTRN off with
  | false => simp [State.accessAt_of_not_regExists s v hr]
  | true => simp

/-! Register writes from outside (R2, R329). -/

theorem exec_registerWrite {off : Nat} (v : Nat) (s : State) (h : off < 19 * 2 ^ 20 ∧ off % 8 = 0) :
    exec (.registerWrite off v) s = .next (s.writeBlock off (v % 2 ^ 64) 3) := by
  show execRegisterWrite off v s = _
  rw [execRegisterWrite, if_pos h]

theorem State.writeBlock_of_not_bind (s : State) {off : Nat} (v h : Nat) (hb : off ∉ bindOffs) :
    s.writeBlock off v h = s.writeReg off v h := by
  simp [State.writeBlock, hb]

theorem State.writeBlock_of_bind (s : State) {off : Nat} (v h : Nat) (hb : off ∈ bindOffs) (hp : s.board.pwr.off = false) :
    s.writeBlock off v h = s.count Reg.TEN_BIND_REFUSED_COUNT := by
  simp [State.writeBlock, hb, State.powered, hp]

/-- A command that writes one field by its access code changes no other field, not GDDR7, and sends nothing. -/
theorem does_of_access {c : Instr} {s : State} {f : Fld} {i v : Nat} {P : State → Prop}
    (hc : exec c s = .next (s.access f i v)) (hP : P (s.access f i v)) :
    Does c s fun t => P t ∧ SameFieldsBut [f] s t ∧ t.gddr = s.gddr ∧ t.out = s.out := by
  have hregs := State.access_only_regs s i v f
  exact ⟨_, hc, hP, (State.sameRegsBut_access s i v f).sameFieldsBut (List.mem_singleton_self f), by rw [hregs], by rw [hregs]⟩

/-- A write of a register of the MEM_ block in which one field can change is a write of that field. -/
theorem exec_registerWrite_mem {off i : Nat} {f : Fld} (v : Nat) (s : State) (hp : s.board.pwr.off = false)
    (hoff : off < 19 * 2 ^ 20 ∧ off % 8 = 0) (hb : off ∉ bindOffs) (hn : off / 2 ^ 20 = 11) (ho : off ∉ ownedOffs)
    (hc : off ≠ Reg.MEM_COPY_REQ.addr) (hf : Reg.blockMEM.filter (Fld.writableAt off) = [f]) (hi : s.fieldAt f off = some i) :
    exec (.registerWrite off v) s = .next (s.access f i (v % 2 ^ 64 / 2 ^ f.lo)) := by
  rw [exec_registerWrite v s hoff, State.writeBlock_of_not_bind s _ _ hb,
    State.writeReg_mem s hp (Nat.mod_lt _ (by decide)) hn ho hc, State.accessAt_of_filter_singleton s _ hf hi]

theorem does_write_MEM_CORR_LIMIT (s : State) (v : Nat) (hp : s.board.pwr.off = false) :
    Does (.registerWrite Reg.MEM_CORR_LIMIT_LIMIT.addr v) s fun t =>
      t.rd Reg.MEM_CORR_LIMIT_LIMIT 0 = v % 2 ^ 32 ∧ SameFieldsBut [Reg.MEM_CORR_LIMIT_LIMIT] s t ∧ t.gddr = s.gddr ∧ t.out = s.out := by
  refine does_of_access (exec_registerWrite_mem (i := 0) v s hp (by decide) (by decide) (by decide) (by decide) (by decide) rfl rfl) ?_
  rw [State.access_rw s _ _ rfl, State.rd_wr_self]
  show v % 2 ^ 64 / 2 ^ 0 % 2 ^ 32 = v % 2 ^ 32
  omega

theorem does_write_MEM_ERR_LOG0 (s : State) (v : Nat) (hp : s.board.pwr.off = false) (hr : s.rd Reg.MEM_ERR_LOG0_VALID 0 < 2) :
    Does (.registerWrite Reg.MEM_ERR_LOG0_VALID.addr v) s fun t =>
      t.rd Reg.MEM_ERR_LOG0_VALID 0 = (if bit v 63 then 0 else s.rd Reg.MEM_ERR_LOG0_VALID 0) ∧
        SameFieldsBut [Reg.MEM_ERR_LOG0_VALID] s t ∧ t.gddr = s.gddr ∧ t.out = s.out := by
  refine does_of_access (exec_registerWrite_mem (i := 0) v s hp (by decide) (by decide) (by decide) (by decide) (by decide) rfl rfl) ?_
  rw [State.rd_access_w1c_of_one_bit s _ _ rfl rfl hr]
  have hbit : bit (v % 2 ^ 64 / 2 ^ Reg.MEM_ERR_LOG0_VALID.lo) 0 = bit v 63 := by
    show decide (v % 2 ^ 64 / 2 ^ 63 / 2 ^ 0 % 2 = 1) = decide (v / 2 ^ 63 % 2 = 1)
    congr 2
    omega
  rw [hbit]

/-- A counter of the transport is read-only. -/
theorem does_write_TRN_TX_PKTS (s : State) (v : Nat) (hp : s.board.pwr.off = false) :
    Does (.registerWrite Reg.TRN_TX_PKTS_COUNT.addr v) s fun t => t = s := by
  refine ⟨s, ?_, rfl⟩
  rw [exec_registerWrite v s (by decide), State.writeBlock_of_not_bind s _ _ (by decide),
    State.writeReg_trn s hp (Nat.mod_lt _ (by decide)) (by decide) (by decide) (by decide), State.accessAt_of_filter_nil s _ rfl]

/-- A binding through the window is refused and counted (R329). -/
theorem does_write_TRN_QSHP_BIND (s : State) (v : Nat) (hp : s.board.pwr.off = false) :
    Does (.registerWrite Reg.TRN_QSHP_BIND_QP.addr v) s
      (Writes [(Reg.TEN_BIND_REFUSED_COUNT, 0, satAdd 64 (s.rd Reg.TEN_BIND_REFUSED_COUNT 0) 1)] s) := by
  refine ⟨_, exec_registerWrite v s (by decide), ?_⟩
  rw [State.writeBlock_of_bind s _ _ (by decide) hp]
  exact State.writes_count s Reg.TEN_BIND_REFUSED_COUNT 0 1

/-! Clearing the counters (R448). -/

/-- The fields of the counter unit that CLEAR_ALL zeroes. -/
def counterFields : List Fld :=
  [Reg.PMC_CNT_VAL_VALUE, Reg.PMC_CNT_VAL_OVF, Reg.PMC_CORE_SLOT_VALUE, Reg.PMC_CORE_SLOT_OVF, Reg.PMC_TRN_SLOT_VALUE, Reg.PMC_TRN_SLOT_OVF]

theorem State.rd_clearField (s : State) (f g : Fld) (j : Nat) :
    (s.clearField f).rd g j = if g.key = f.key then g.rst j else s.rd g j := by
  simp only [State.rd, State.clearField, Tbl.get_del]
  split <;> rfl

theorem State.rd_clearFields (s : State) (l : List Fld) (g : Fld) (j : Nat) :
    (l.foldl State.clearField s).rd g j = if ∃ f ∈ l, g.key = f.key then g.rst j else s.rd g j := by
  induction l generalizing s with
  | nil => simp
  | cons f l ih =>
    rw [List.foldl_cons, ih, State.rd_clearField]
    by_cases h : g.key = f.key <;> simp [h]

theorem State.rd_clearCounters_of_mem (s : State) {f : Fld} (h : f ∈ counterFields) (j : Nat) : s.clearCounters.rd f j = f.rst j :=
  (State.rd_clearFields s counterFields f j).trans (if_pos ⟨f, h, rfl⟩)

theorem State.sameFieldsBut_clearCounters (s : State) : SameFieldsBut counterFields s s.clearCounters :=
  fun f j h => (State.rd_clearFields s counterFields f j).trans (if_neg fun ⟨g, hg, hk⟩ => h g hg hk)

theorem exec_pmcClearAll (s : State) : exec .pmcClearAll s = .next s.clearCounters := rfl

end Sys2Proof.Machine

open Sys2Proof Sys2Proof.Machine Sys2Proof.Safety

/-- Settles O59: reads are sums over the fields, a write is a write of each field by its access code, from which
three of the register writes follow; the write of a binding counts, and CLEAR_ALL drops the six counter fields. -/
theorem registerAccess : Obligations.RegisterAccess := by
  intro s l f i off v b w
  refine ⟨s.wordAt_eq_sum l off, ⟨s.sameRegsBut_access i v f, s.access_only_regs i v f⟩, fun h => ?_, s.access_readonly i v,
    s.testBit_access_w1c i v, s.testBit_access_w1s i v, fun h hl => ?_, s.access_rwl_locked i v, s.sameFieldsBut_accessAt l off v,
    fun hp => ⟨does_write_MEM_CORR_LIMIT s v hp, does_write_MEM_ERR_LOG0 s v hp, does_write_TRN_TX_PKTS s v hp,
      does_write_TRN_QSHP_BIND s v hp⟩, ⟨_, exec_pmcClearAll s, fun j => ?_, s.sameFieldsBut_clearCounters, rfl⟩⟩
  · rw [s.access_rw i v h, State.rd_wr_self]
  · rw [s.access_rwl_unlocked i v h hl, State.rd_wr_self]
  · have zero : ∀ g ∈ counterFields, s.clearCounters.rd g j = g.rst j := fun g hg => s.rd_clearCounters_of_mem hg j
    simp only [counterFields, List.forall_mem_cons] at zero
    obtain ⟨cnt, cntOvf, core, coreOvf, trn, trnOvf, -⟩ := zero
    exact ⟨cnt, cntOvf, core, coreOvf, trn, trnOvf⟩
end

section
/-! The state after reset (R19, R30, R55, R81): no register is listed, so each reads as its reset value. -/

namespace Sys2Proof.Machine

open Sys2Proof Sys2Proof.Safety

theorem State.rd_reset (f : Fld) (i : Nat) : State.reset.rd f i = f.rst i := rfl

theorem State.canonical_reset : Canonical State.reset := ⟨rfl, fun _ h => absurd h List.not_mem_nil⟩

/-- Each logical bank starts on the physical bank of its number, owned by the provider. -/
theorem State.bank_reset (c : Nat) {b : Nat} (hb : b < 16) :
    State.reset.rd Reg.CLU_BANK_MAP_PHYS (ix c b) = b ∧ State.reset.rd Reg.CLU_BANK_OWN_TENANT (ix c b) = 0x3FF := by
  refine ⟨?_, rfl⟩
  show (c * 1024 + b) % 1024 = b
  omega

end Sys2Proof.Machine

open Sys2Proof Sys2Proof.Machine Sys2Proof.Safety

/-- Settles O55: every field reads as its reset value, which for the fields that log entry 49 names is the model's choice. -/
theorem resetState : Obligations.ResetState := by
  unfold Obligations.ResetState
  have serving : ∀ c < 10, State.reset.rd Reg.CLU_STATUS_STATE c = if c < 8 then 1 else 0 := by decide
  exact ⟨State.rd_reset, fun _ => rfl, State.canonical_reset, rfl, rfl, rfl, rfl, rfl, rfl, rfl, rfl, rfl, rfl, rfl, rfl, rfl, serving, rfl,
    fun c _ _ hb => State.bank_reset c hb, rfl, rfl, rfl, rfl, rfl, rfl⟩
end

section
/-! What a boot keeps (R387, R409): the start-up tests, the image and a life-cycle change write registers, events and the
management processor's state, and leave the rest of the module as the reset left it. -/

namespace Sys2Proof.Machine

open Sys2Proof Sys2Proof.Safety

/-! Dropping whole numbers of a table. -/

theorem Tbl.get_filter {α : Type} (d : α) (p : Nat → Bool) (k : Nat) (m : Tbl α) :
    Tbl.get d k (m.filter fun e => p e.1) = if p k then Tbl.get d k m else d := by
  induction m with
  | nil => simp
  | cons e m ih =>
    obtain ⟨j, v⟩ := e
    by_cases hj : j = k
    · subst hj
      by_cases hp : p j <;> simp [hp, Tbl.get, ih]
    · by_cases hp : p j <;> simp [hp, hj, Tbl.get, ih]

theorem Tbl.mem_of_get_ne {α : Type} {d : α} {k : Nat} {m : Tbl α} (h : Tbl.get d k m ≠ d) : k ∈ m.map (·.1) := by
  induction m with
  | nil => exact absurd rfl h
  | cons e m ih =>
    obtain ⟨j, v⟩ := e
    by_cases hj : j = k
    · simp [hj]
    · simp only [Tbl.get, hj, if_false] at h
      exact List.mem_cons_of_mem _ (ih h)

/-- The extents that are not FREE are those of a state other than 0. -/
theorem State.mem_extList (s : State) (n : Nat) : n ∈ s.extList ↔ s.rd Reg.TEN_EXT0_STATE n ≠ 0 := by
  have listed : s.rd Reg.TEN_EXT0_STATE n ≠ 0 → n ∈ s.listed Reg.TEN_EXT0_STATE := Tbl.mem_of_get_ne
  simp only [State.extList, List.mem_filter, decide_eq_true_eq]
  exact and_iff_right_of_imp listed

/-! Clearing the registers of some domains (R19). -/

theorem State.rd_of_regs {s t : State} (h : t.regs = s.regs) (f : Fld) (i : Nat) : t.rd f i = s.rd f i := by
  rw [State.rd, h]; rfl

/-- The keys of the fields of some domains. -/
def keysOf (p : Dom → Bool) : List Nat := (allFields.filter (fun f => p f.dom)).map Fld.key

theorem State.rd_clearRegs (s : State) (p : Dom → Bool) (f : Fld) (i : Nat) :
    (s.clearRegs p).rd f i = if f.key ∈ keysOf p then f.rst i else s.rd f i := by
  have gone : Tbl.get [] f.key (s.clearRegs p).regs = if f.key ∈ keysOf p then [] else Tbl.get [] f.key s.regs := by
    exact (Tbl.get_filter [] (fun k => !(keysOf p).contains k) f.key s.regs).trans (by simp)
  rw [State.rd, gone]
  split <;> rfl

/-! What a boot, and the end of a reset of the main domain, leave. -/

/-- The state but for what these may change: registers, far ports, admin queues, the resilience unit's work, what leaves the
block, the management processor, the tenants' records, and free values. -/
def State.bootFrame (s : State) : State :=
  { s with regs := [], far := [], adms := [], fresh := 0, out := [], mgmt := {}, ten := {}, board := { s.board with res := {} } }

/-- The fields that a boot leaves, of those the resets speak of: the count, the forwarding state, the cold boots. -/
def bootFields : List Fld := [Reg.CAD_COUNT_COUNT, Reg.FWP_STATUS_STATE, Reg.LCS_BOOT_COLD_BOOTS]

/-- The fields that a reset of the main domain leaves: those, and whether a life-cycle change is pending. -/
def resetFields : List Fld := Reg.LCS_STATE_PENDING :: bootFields

/-- The frame stays, ports that hold nothing go on holding nothing, and the fields of `l` read as before. -/
structure BootKeeps (l : List Fld) (s t : State) : Prop where
  frame : t.bootFrame = s.bootFrame
  far : s.far = [] → t.far = []
  regs : ∀ f ∈ l, ∀ i, t.rd f i = s.rd f i

namespace BootKeeps

variable {l : List Fld} {s t u : State}

theorem refl (s : State) : BootKeeps l s s := ⟨rfl, id, fun _ _ _ => rfl⟩

theorem trans (a : BootKeeps l s t) (b : BootKeeps l t u) : BootKeeps l s u :=
  ⟨b.frame.trans a.frame, b.far ∘ a.far, fun f hf i => (b.regs f hf i).trans (a.regs f hf i)⟩

theorem ite (c : Prop) [Decidable c] (a : BootKeeps l s t) (b : BootKeeps l s u) : BootKeeps l s (if c then t else u) := by
  split <;> assumption

/-- A loop keeps what each of its steps keeps. -/
theorem foldl {β : Type} {f : State → β → State} (h : BootKeeps l s t) (xs : List β)
    (hf : ∀ u x, BootKeeps l s u → BootKeeps l s (f u x)) : BootKeeps l s (xs.foldl f t) :=
  List.foldlRecOn xs f h fun u hu x _ => hf u x hu

/-- An operation that touches neither a register nor a far port. -/
theorem of_eq (h : BootKeeps l s t) (hu : u.bootFrame = t.bootFrame) (hr : u.regs = t.regs) (hf : u.far = t.far) : BootKeeps l s u :=
  h.trans ⟨hu, hf.trans, fun f _ i => State.rd_of_regs hr f i⟩

/-- A write of another field. -/
theorem wr (h : BootKeeps l s t) (f : Fld) (i v : Nat) (hf : ∀ g ∈ l, g.key ≠ f.key := by decide) : BootKeeps l s (t.wr f i v) :=
  h.trans ⟨rfl, id, fun g hg j => State.rd_wr_of_key t f g i j v (hf g hg)⟩

theorem setAdm (h : BootKeeps l s t) (n : Nat) (v : Adm) : BootKeeps l s (t.setAdm n v) := h.of_eq rfl rfl rfl
theorem emit (h : BootKeeps l s t) (o : Out) : BootKeeps l s (t.emit o) := h.of_eq rfl rfl rfl
theorem bump (h : BootKeeps l s t) : BootKeeps l s t.bump := h.of_eq rfl rfl rfl
theorem modRes (h : BootKeeps l s t) (f : Res → Res) : BootKeeps l s (t.modRes f) := h.of_eq rfl rfl rfl
theorem modMgmt (h : BootKeeps l s t) (f : Mgmt → Mgmt) : BootKeeps l s (t.modMgmt f) := h.of_eq rfl rfl rfl
theorem setTen (h : BootKeeps l s t) (x : Ten) : BootKeeps l s { t with ten := x } := h.of_eq rfl rfl rfl

/-! The end of a reset of the main domain. -/

theorem dropLocal (h : BootKeeps resetFields s t) : BootKeeps resetFields s t.dropLocal := by
  refine h.trans ⟨?_, fun hfar => by simp [State.dropLocal, hfar], fun f hf i => ?_⟩
  · exact List.foldlRecOn (motive := fun (u : State) => u.bootFrame = t.bootFrame) _ _ rfl fun _ hu _ _ => hu
  · have other : f.key ≠ Reg.FWP_LOCAL_DROP_COUNT.key := by revert f; decide
    refine List.foldlRecOn (motive := fun (u : State) => u.rd f i = t.rd f i) _ _ rfl fun u hu _ _ => ?_
    rw [State.setFar_rd, State.count_eq, State.rd_wr_of_key _ _ _ _ _ _ other, hu]

theorem showWipe (h : BootKeeps resetFields s t) : BootKeeps resetFields s t.showWipe := (h.wr _ _ _).wr _ _ _

/-! Events, units and spares. -/

variable (h : BootKeeps bootFields s t)
include h

theorem putBit (f : Fld) (i : Nat) (b : Bool) (hf : ∀ g ∈ bootFields, g.key ≠ f.key := by decide) :
    BootKeeps bootFields s (t.putBit f i b) := h.wr f 0 _ hf

theorem count (f : Fld) (i n : Nat) (hf : ∀ g ∈ bootFields, g.key ≠ f.key := by decide) :
    BootKeeps bootFields s (t.count f i n) := h.wr f i _ hf

theorem event (n code detail arg0 arg1 : Nat) : BootKeeps bootFields s (t.event n code detail arg0 arg1) :=
  .ite _ ((h.setAdm _ _).emit _) (.ite _ ((h.setAdm _ _).wr _ _ _) (((h.setAdm _ _).wr _ _ _).wr _ _ _))

theorem showSpares (k : Nat) : BootKeeps bootFields s (t.showSpares k) :=
  (((h.wr _ _ _).wr _ _ _).wr _ _ _).wr _ _ _

theorem raiseReplace (f : Fld) (k : Nat) (hf : ∀ g ∈ bootFields, g.key ≠ f.key := by decide) :
    BootKeeps bootFields s (t.raiseReplace f k) :=
  ((((h.wr f _ _ hf).wr _ _ _).wr _ _ _).event _ _ _ _ _).bump

theorem reviewClass (k : Nat) : BootKeeps bootFields s (t.reviewClass k) :=
  .ite _ ((h.showSpares k).raiseReplace _ _) (h.showSpares k)

theorem setUnit (n v : Nat) : BootKeeps bootFields s (t.setUnit n v) := by
  have state : BootKeeps bootFields s (t.wr Reg.RES_UNIT_STAT_STATE n v) := h.wr _ _ _
  have array := fun v => state.wr Reg.ARR_STATUS_STATE (unitIx n) v
  have walker := fun a b => (state.putBit Reg.XLT_WALKER_IN_SERVICE (unitIx n) a).putBit Reg.XLT_WALKER_FENCED (unitIx n) b
  have core := fun a b => ((state.putBit Reg.CIP_CORES_IN_SERVICE (unitIx n) a).putBit Reg.CIP_CORES_FENCED (unitIx n) b).wr
    Reg.CIP_CORE_STAT_STATE (unitIx n) v
  unfold State.setUnit
  dsimp only
  split
  · split
    exacts [array _, walker _ _, core _ _, state]
  · refine showSpares (.ite _ (count ?shown _ _ _) ?shown) _
    split
    exacts [array _, walker _ _, core _ _, state]

theorem setCluster (c v : Nat) : BootKeeps bootFields s (t.setCluster c v) :=
  ((((h.wr _ _ _).putBit _ _ _).putBit _ _ _).showSpares 0).showSpares 1

theorem fenceLane (l : Nat) : BootKeeps bootFields s (t.fenceLane l) := by
  unfold State.fenceLane
  split
  · exact h.wr _ _ _
  · exact h.wr _ _ _

theorem setQuad (f : Fld) (b : List Byte) (hf : ∀ g ∈ bootFields, g.key ≠ f.key := by decide) : BootKeeps bootFields s (t.setQuad f b) :=
  h.foldl _ fun _ _ hu => hu.wr f _ _ hf

/-! The start-up tests. -/

theorem assignKind (kind k : Nat) (bad : Nat → Bool) : BootKeeps bootFields s (t.assignKind kind k bad) :=
  (h.foldl _ fun _ _ hu => hu.setUnit _ _).foldl _ fun _ _ hu => hu.setUnit _ _

theorem assignClusters (failed : List Nat) : BootKeeps bootFields s (t.assignClusters failed) := by
  refine (h.foldl _ fun _ _ hu => hu.setUnit _ _).foldl _ fun u c hu => ?_
  refine .ite _ (setUnit (setCluster ?parts _ _) _ _) (.ite _ (setUnit (setCluster ?parts _ _) _ _) (setUnit (setCluster ?parts _ _) _ _))
  exact (hu.foldl _ fun _ _ hx => ((hx.setUnit _ _).wr _ _ _).wr _ _ _).foldl _ fun _ _ hx => .ite _ (hx.setUnit _ _) hx

theorem assignBanks (failed : List Nat) (c : Nat) : BootKeeps bootFields s (t.assignBanks failed c) := by
  have spare : BootKeeps bootFields s (t.setUnit (unitNo 2 (17 * c + 16)) 1) := h.setUnit _ _
  unfold State.assignBanks
  dsimp only
  split
  · exact .ite _ (spare.setUnit _ _) spare
  · exact .ite _ (spare.setUnit _ _) ((((spare.setUnit _ _).setUnit _ _).wr _ _ _).wr _ _ _)

theorem assignDevices (failed : List Nat) : BootKeeps bootFields s (t.assignDevices failed) := by
  have fence : ∀ u d, BootKeeps bootFields s u → BootKeeps bootFields s (((u.setUnit (unitNo 7 d) 3).wr Reg.MEM_DEV_STATE d 3).wr Reg.MEM_DEV_LOGICAL d 0x1F) :=
    fun _ _ hu => ((hu.setUnit _ _).wr _ _ _).wr _ _ _
  refine ((h.foldl _ fun _ _ hu => hu.setUnit _ _).foldl _ fence).foldl _ fun u x hu => ?_
  exact (((fence u x.1 hu).setUnit _ _).wr _ _ _).wr _ _ _

theorem assignLanes (failed : List Nat) (cold : Bool) : BootKeeps bootFields s (t.assignLanes failed cold) :=
  (h.foldl _ fun _ _ hu => hu.fenceLane _).foldl _ fun _ _ hu => hu.setUnit _ _

theorem startupTests (failed : List Nat) (cold : Bool) : BootKeeps bootFields s (t.startupTests failed cold) := by
  have banks := (h.assignClusters failed).foldl (List.range 10) fun _ c hu => hu.assignBanks failed c
  exact (((((banks.assignKind _ _ _).assignKind _ _ _).assignDevices _).assignLanes _ _).modRes _).foldl _ fun _ k hu => hu.reviewClass k

/-! The boot. -/

theorem takeImage (img : List Byte) (signer : Option Nat) : BootKeeps bootFields s (t.takeImage img signer) :=
  setTen (modMgmt (wr (wr (wr (setQuad h _ _) _ _ _) _ _ _) _ _ _) _) _

theorem enterRecovery (reason : Nat) (cold : Bool) : BootKeeps bootFields s (t.enterRecovery reason cold) :=
  (((h.wr _ _ _).wr _ _ _).wr _ _ _).modMgmt _

theorem commitLife : BootKeeps bootFields s t.commitLife := by
  unfold State.commitLife
  split
  · exact h
  · have stored := fun (target : Nat) => ((h.wr Reg.LCS_STATE_STATE 0 target).wr Reg.LCS_STATE_LOCK 0 (b2n (target == 2))).wr Reg.LCS_STATE_PENDING 0 0
    exact modMgmt (.ite _ ((stored _).setQuad _ _) (.ite _ ((stored _).setQuad _ _) (stored _))) _

theorem newKeyPair : BootKeeps bootFields s t.newKeyPair := h.of_eq rfl rfl rfl

theorem clearAlerts : BootKeeps bootFields s (t.clearRegs (fun d => d == .alert)) := by
  have kept : ∀ f ∈ bootFields, f.key ∉ keysOf (fun d => d == .alert) := by decide +kernel
  exact h.trans ⟨rfl, id, fun f hf i => by rw [State.rd_clearRegs, if_neg (kept f hf)]⟩

end BootKeeps

end Sys2Proof.Machine
end

section
/-! Cold and warm resets and MOD_RST_N (R19, R81, R222, R345, R470): what a reset of each domain empties and leaves, then
what a boot makes of it. -/

namespace Sys2Proof.Machine

open Sys2Proof Sys2Proof.Safety

/-! A reset of the main domain. -/

/-- What every reset empties: rings, connections, pelotons, near links, endpoints, attachments, translations and keys. -/
def MainEmpty (t : State) : Prop :=
  t.sqs = [] ∧ t.conns = [] ∧ t.cqs = [] ∧ t.pels = [] ∧ t.near = [] ∧ t.eps = [] ∧ t.atts = [] ∧ t.xlt = {} ∧ t.cip = {}

theorem BootKeeps.mainEmpty {l : List Fld} {s t : State} (h : BootKeeps l s t) (hs : MainEmpty s) : MainEmpty t := by
  show MainEmpty t.bootFrame
  rw [h.frame]
  exact hs

/-- The extents whose bytes a warm reset keeps (R345). -/
def State.keepsExt (s : State) (n : Nat) : Prop :=
  s.rd Reg.TEN_EXT0_STATE n = 3 ∨ ((s.rd Reg.TEN_EXT0_STATE n = 1 ∨ s.rd Reg.TEN_EXT0_STATE n = 2) ∧ s.rd Reg.TEN_EXT0_KEEP n = 1)

/-- Does a byte of GDDR7 lie in an extent? -/
def State.inExt (s : State) (n a : Nat) : Prop :=
  s.rd Reg.TEN_EXT1_BASE_UNIT n * 2 ^ 21 ≤ a ∧ a < (s.rd Reg.TEN_EXT1_BASE_UNIT n + s.rd Reg.TEN_EXT1_UNITS n) * 2 ^ 21

/-- Does a warm reset keep a byte of GDDR7? -/
def State.survives (s : State) (a : Nat) : Bool :=
  s.warmExts.any fun x => x.2.1 == Xs.kept && decide (x.2.2.2.1 * unitBytes ≤ a) && decide (a < (x.2.2.2.1 + x.2.2.2.2) * unitBytes)

theorem State.survives_iff (s : State) (a : Nat) : s.survives a = true ↔ ∃ n, s.keepsExt n ∧ s.inExt n a := by
  have state (n : Nat) : (if (s.xst n == Xs.bound || s.xst n == Xs.preserved) && s.on Reg.TEN_EXT0_KEEP n || s.xst n == Xs.kept then Xs.kept
      else Xs.wiping) = Xs.kept ↔ s.keepsExt n := by
    simpa [State.keepsExt, State.xst, Xs.bound, Xs.preserved, Xs.kept, Xs.wiping, or_comm] using or_iff_not_imp_left.symm
  have listed (n : Nat) (h : s.keepsExt n) : n ∈ s.extList := by
    rw [State.mem_extList]
    unfold State.keepsExt at h
    omega
  simp only [State.survives, State.warmExts, List.any_map, List.any_eq_true, Function.comp, Bool.and_eq_true, beq_iff_eq, decide_eq_true_eq]
  constructor
  · rintro ⟨n, -, ⟨hk, lo⟩, hi⟩
    exact ⟨n, (state n).1 hk, lo, hi⟩
  · rintro ⟨n, hk, lo, hi⟩
    exact ⟨n, listed n hk, ⟨(state n).2 hk, lo⟩, hi⟩

/-- Everything the resets need of `State.resetMain`. -/
structure MainReset (s : State) (keep : Bool) (t : State) : Prop where
  empty : MainEmpty t
  gddr : t.gddr = s.gddr.filter fun e => keep && s.survives e.1
  armed : t.armed = s.armed.filter fun e => e.kind == EvKind.swap
  far : s.far = [] → t.far = []
  pwr : t.board.pwr = s.board.pwr
  regs : ∀ f ∈ resetFields, ∀ i, t.rd f i = s.rd f i

theorem State.resetMain_does (s : State) (keep : Bool) : MainReset s keep (s.resetMain keep) := by
  have tail : BootKeeps resetFields _ (s.resetMain keep) := BootKeeps.showWipe (BootKeeps.dropLocal (BootKeeps.foldl (.refl _) _ fun _ _ hu =>
    ((((hu.wr _ _ _).wr _ _ _).wr _ _ _).wr _ _ _).wr _ _ _))
  have other : ∀ f ∈ resetFields, f.key ∉ keysOf (fun d => d == .main) := by decide +kernel
  refine ⟨tail.mainEmpty ⟨rfl, rfl, rfl, rfl, rfl, rfl, rfl, rfl, rfl⟩, (congrArg State.gddr tail.frame :).trans ?_, (congrArg State.armed tail.frame :),
    tail.far, (congrArg (·.board.pwr) tail.frame :), fun f hf i => (tail.regs f hf i).trans ?_⟩
  · cases keep <;> rfl
  · exact (State.rd_clearRegs s _ f i).trans (if_neg (other f hf))

/-! The boot (R387, R391). -/

/-- What the boot ROM starts from: a pending life-cycle transition wipes first. -/
def State.bootStart (s : State) : State := if s.on Reg.LCS_STATE_PENDING then s.fullWipe else s

theorem State.boot_keeps (s : State) (b : Boot) (cold : Bool) : BootKeeps bootFields s.bootStart (s.boot b cold) := by
  have start : BootKeeps bootFields s.bootStart
      (if s.on Reg.LCS_STATE_PENDING then s.fullWipe.commitLife.newKeyPair.clearRegs (fun d => d == .alert) else s) := by
    unfold State.bootStart
    split
    · exact (BootKeeps.refl _).commitLife.newKeyPair.clearAlerts
    · exact .refl _
  have written := fun f => start.modMgmt f
  exact .ite _ ((written _).enterRecovery _ _) (.ite _ ((written _).takeImage _ _) (((written _).startupTests _ _).takeImage _ _))

/-- Everything the resets need of `State.boot`. -/
structure Boots (s t : State) : Prop where
  empty : MainEmpty s → MainEmpty t
  gddr : t.gddr = if s.rd Reg.LCS_STATE_PENDING 0 = 1 then [] else s.gddr
  armed : s.armed = [] → t.armed = []
  far : s.far = [] → t.far = []
  pwr : t.board.pwr = s.board.pwr
  regs : ∀ f ∈ bootFields, ∀ i, t.rd f i = s.rd f i

theorem Boots.of_keeps {s t u : State} (a : Boots s t) (k : BootKeeps bootFields t u) : Boots s u where
  empty := k.mainEmpty ∘ a.empty
  gddr := (congrArg State.gddr k.frame :).trans a.gddr
  armed h := (congrArg State.armed k.frame :).trans (a.armed h)
  far := k.far ∘ a.far
  pwr := (congrArg (·.board.pwr) k.frame :).trans a.pwr
  regs f hf i := (k.regs f hf i).trans (a.regs f hf i)

/-- The full wipe of a pending transition empties the main domain, the key stores included. -/
theorem MainReset.boots {s m : State} (wipe : MainReset s false m) (pending : s.rd Reg.LCS_STATE_PENDING 0 = 1) : Boots s { m with cip := {} } := by
  obtain ⟨⟨sqs, conns, cqs, pels, near, eps, atts, xlt, -⟩, gddr, armed, far, pwr, regs⟩ := wipe
  refine ⟨fun _ => ⟨sqs, conns, cqs, pels, near, eps, atts, xlt, rfl⟩, ?_, fun h => ?_, far, pwr, fun f hf => regs f (List.mem_cons_of_mem _ hf)⟩
  · rw [if_pos pending]
    exact gddr.trans (by simp)
  · exact armed.trans (by simp [h])

theorem State.bootStart_does (s : State) : Boots s s.bootStart := by
  unfold State.bootStart
  split
  · rename_i pending
    exact (s.resetMain_does false).boots (beq_iff_eq.1 pending)
  · rename_i settled
    have settled : ¬s.rd Reg.LCS_STATE_PENDING 0 = 1 := fun h => settled (beq_iff_eq.2 h)
    exact ⟨id, (if_neg settled).symm, id, id, rfl, fun _ _ _ => rfl⟩

theorem State.boot_does (s : State) (b : Boot) (cold : Bool) : Boots s (s.boot b cold) := s.bootStart_does.of_keeps (s.boot_keeps b cold)

/-! Warm and cold resets up to the boot (R19). -/

theorem State.rd_resetMgmt (s : State) {f : Fld} (h : f ∈ resetFields) (i : Nat) : s.resetMgmt.rd f i = s.rd f i := by
  have other : ∀ f ∈ resetFields, f.key ∉ keysOf (fun d => d == .mgmt) := by decide +kernel
  have regs : s.resetMgmt.regs = (s.clearRegs (fun d => d == .mgmt)).regs := by
    unfold State.resetMgmt
    dsimp only
  rw [State.rd_of_regs regs, State.rd_clearRegs, if_neg (other f h)]

/-- What a warm reset leaves for the boot. -/
structure WarmReset (s t : State) : Prop where
  empty : MainEmpty t
  gddr : t.gddr = s.gddr.filter fun e => s.survives e.1
  rst : t.board.pwr.rst = s.board.pwr.rst
  now : t.now = s.now
  pending : t.rd Reg.LCS_STATE_PENDING 0 = s.rd Reg.LCS_STATE_PENDING 0
  held : s.rd Reg.FWP_STATUS_STATE 0 = 1 → t.rd Reg.FWP_STATUS_STATE 0 = 2

theorem State.warmReset_does (s : State) : WarmReset s (s.warmReset true) := by
  have main := s.resetMain_does true
  have regs (f : Fld) (hf : f ∈ resetFields) : (s.resetMain true).resetMgmt.rd f 0 = s.rd f 0 := (rd_resetMgmt _ hf 0).trans (main.regs f hf 0)
  have forwarding := regs Reg.FWP_STATUS_STATE (by simp [resetFields, bootFields])
  have pending := regs Reg.LCS_STATE_PENDING (by simp [resetFields])
  have now := regs Reg.CAD_COUNT_COUNT (by simp [resetFields, bootFields])
  unfold State.warmReset
  dsimp only
  generalize s.resetMain true = m at *
  obtain ⟨empty, gddr, -, -, pwr, -⟩ := main
  have rst : m.board.pwr.rst = s.board.pwr.rst := by rw [pwr]
  have gddr : m.gddr = s.gddr.filter fun e => s.survives e.1 := by simpa using gddr
  split
  · have other (f : Fld) (h : f.key ≠ Reg.FWP_STATUS_STATE.key ∧ f.key ≠ Reg.FWP_HOLD_COUNT_COUNT.key) (t : State) (n : Nat) :
        (((t.wr Reg.FWP_STATUS_STATE 0 2).count Reg.FWP_HOLD_COUNT_COUNT).setMark 7 n).rd f 0 = t.rd f 0 := by
      rw [State.setMark_rd, State.count_eq, State.rd_wr_of_key _ _ _ _ _ _ h.2, State.rd_wr_of_key _ _ _ _ _ _ h.1]
    refine ⟨empty, gddr, rst, (other _ (by decide) _ _).trans now, (other _ (by decide) _ _).trans pending, fun _ => ?_⟩
    rw [State.setMark_rd, State.count_eq, State.rd_wr_of_key _ _ _ _ _ _ (by decide), State.rd_wr_self]
    rfl
  · rename_i forwards
    exact ⟨empty, gddr, rst, now, pending, fun hf => absurd (forwarding.trans hf) forwards⟩

/-- What a cold reset leaves for the boot. -/
structure ColdReset (s t : State) : Prop where
  empty : MainEmpty t
  gddr : t.gddr = []
  armed : t.armed = []
  far : t.far = []
  rst : t.board.pwr.rst = s.board.pwr.rst
  now : t.now = 0
  boots : t.rd Reg.LCS_BOOT_COLD_BOOTS 0 = (s.rd Reg.LCS_BOOT_COLD_BOOTS 0 + 1) % 2 ^ 32

theorem State.loseMain_empties (s : State) : MainEmpty s.loseMain ∧ s.loseMain.gddr = [] ∧ s.loseMain.board.pwr = s.board.pwr := by
  obtain ⟨empty, gddr, -, -, pwr, -⟩ := s.resetMain_does false
  unfold State.loseMain
  dsimp only
  generalize s.resetMain false = m at *
  exact ⟨empty, gddr.trans (by simp), pwr⟩

theorem State.rd_loseMain (s : State) {f : Fld} (h : f ∈ resetFields) (i : Nat) :
    s.loseMain.rd f i = if f.key ∈ keysOf (fun d => d == .freewheel) then f.rst i else s.rd f i := by
  have main := (s.resetMain_does false).regs f h i
  unfold State.loseMain
  dsimp only
  generalize s.resetMain false = m at *
  rw [← main, ← State.rd_clearRegs]
  rfl

theorem State.coldReset_does (s : State) : ColdReset s s.coldReset := by
  have regs (f : Fld) (hf : f ∈ resetFields) (ha : f.key ∉ keysOf (fun d => d == .alert)) :
      (s.loseMain.resetMgmt.clearRegs (fun d => d == .alert)).rd f 0 = if f.key ∈ keysOf (fun d => d == .freewheel) then f.rst 0 else s.rd f 0 := by
    rw [State.rd_clearRegs, if_neg ha, State.rd_resetMgmt _ hf, State.rd_loseMain s hf]
  have now := regs Reg.CAD_COUNT_COUNT (by simp [resetFields, bootFields]) (by decide +kernel)
  have boots := regs Reg.LCS_BOOT_COLD_BOOTS (by simp [resetFields, bootFields]) (by decide +kernel)
  rw [if_pos (by decide +kernel)] at now
  rw [if_neg (by decide +kernel)] at boots
  obtain ⟨empty, gddr, pwr⟩ := s.loseMain_empties
  have armed : s.loseMain.armed = [] := rfl
  have far : s.loseMain.far = [] := rfl
  unfold State.coldReset
  generalize s.loseMain = m at *
  have rst : m.board.pwr.rst = s.board.pwr.rst := by rw [pwr]
  refine ⟨empty, gddr, armed, far, rst, ?_, ?_⟩
  · exact (State.rd_wr_of_key _ _ _ _ _ _ (by decide)).trans now
  · rw [State.inc_eq, State.rd_wr_self, ← boots]
    rfl

/-! The boot's image (R387, R388). -/

theorem State.boot_of_flash (s : State) (b : Boot) (cold : Bool) {img : List Byte} (hp : s.rd Reg.LCS_STATE_PENDING 0 = 0)
    (hf : s.mgmt.flash = some img) :
    (s.imageFault img b.signer b.sigOk = 0 → (s.boot b cold).mgmt.image = img ∧ (s.boot b cold).mgmt.recovery = none) ∧
    (s.imageFault img b.signer b.sigOk ≠ 0 → ∃ t : State, s.boot b cold = t.enterRecovery (s.imageFault img b.signer b.sigOk) cold) := by
  have settled : s.on Reg.LCS_STATE_PENDING = false := by simp [hp]
  have same (f : Mgmt → Mgmt) : (s.modMgmt f).imageFault img b.signer b.sigOk = s.imageFault img b.signer b.sigOk := rfl
  have taken (t : State) : (t.takeImage img b.signer).mgmt.image = img ∧ (t.takeImage img b.signer).mgmt.recovery = none := ⟨rfl, rfl⟩
  constructor
  · intro good
    simp only [State.boot, settled, Bool.false_eq_true, if_false, hf, Option.getD_some, same, good, ne_eq, not_true_eq_false]
    split <;> exact taken _
  · intro bad
    simp only [State.boot, settled, Bool.false_eq_true, if_false, hf, Option.getD_some, same, if_pos bad]
    exact ⟨_, rfl⟩

theorem State.imageFault_lt (s : State) (img : List Byte) (signer : Option Nat) (sigOk : Bool) : s.imageFault img signer sigOk < 2 ^ 4 := by
  unfold State.imageFault
  dsimp only
  split_ifs <;> decide

theorem State.enterRecovery_does (s : State) {reason : Nat} (cold : Bool) (h : reason < 2 ^ 4) :
    (s.enterRecovery reason cold).rd Reg.MBX_KILURN_STATE 0 = 3 ∧ (s.enterRecovery reason cold).mgmt.recovery ≠ none ∧
      (s.enterRecovery reason cold).rd Reg.LCS_BOOT_IMAGE_FAIL_REASON 0 = reason := by
  refine ⟨?_, by simp [State.enterRecovery, State.modMgmt], ?_⟩
  · show State.rd (State.wr _ _ _ _) _ _ = 3
    rw [State.rd_wr_of_key _ _ _ _ _ _ (by decide), State.rd_wr_self]
    rfl
  · show State.rd (State.wr _ _ _ _) _ _ = reason
    rw [State.rd_wr_of_key _ _ _ _ _ _ (by decide), State.rd_wr_of_key _ _ _ _ _ _ (by decide), State.rd_wr_self]
    exact Nat.mod_eq_of_lt h

/-! The commands. -/

theorem does_coldReset (b : Boot) (s : State) : Does (.coldReset b) s fun t =>
    MainEmpty t ∧ t.gddr = [] ∧ t.now = 0 ∧ t.armed = [] ∧ t.far = [] ∧
      t.rd Reg.LCS_BOOT_COLD_BOOTS 0 = (s.rd Reg.LCS_BOOT_COLD_BOOTS 0 + 1) % 2 ^ 32 := by
  have cold := s.coldReset_does
  have boot := s.coldReset.boot_does b true
  refine ⟨_, rfl, boot.empty cold.empty, ?_, (boot.regs _ (by simp [bootFields]) 0).trans cold.now, boot.armed cold.armed, boot.far cold.far,
    (boot.regs _ (by simp [bootFields]) 0).trans cold.boots⟩
  rw [boot.gddr, cold.gddr, ite_self]

theorem does_warmReset (b : Boot) (s : State) : Does (.warmReset b) s fun t =>
    MainEmpty t ∧ t.now = s.now ∧ (∀ a, (∀ n, s.keepsExt n → ¬s.inExt n a) → Mem.rd t.gddr a = 0) ∧
      (s.rd Reg.LCS_STATE_PENDING 0 = 0 → ∀ n a, s.keepsExt n → s.inExt n a → Mem.rd t.gddr a = Mem.rd s.gddr a) ∧
      (s.rd Reg.FWP_STATUS_STATE 0 = 1 → t.rd Reg.FWP_STATUS_STATE 0 = 2) := by
  have warm := s.warmReset_does
  have boot := (s.warmReset true).boot_does b false
  have left (a : Nat) : Mem.rd (s.warmReset true).gddr a = if s.survives a then Mem.rd s.gddr a else 0 := by
    rw [warm.gddr]
    exact Tbl.get_filter 0 s.survives a s.gddr
  refine ⟨_, rfl, boot.empty warm.empty, (boot.regs _ (by simp [bootFields]) 0).trans warm.now, fun a gone => ?_, fun settled n a hk ha => ?_,
    fun forwards => (boot.regs _ (by simp [bootFields]) 0).trans (warm.held forwards)⟩
  · have dies : ¬s.survives a = true := fun h => by
      obtain ⟨n, hk, ha⟩ := (s.survives_iff a).1 h
      exact gone n hk ha
    rw [boot.gddr]
    split
    · rfl
    · rw [left, if_neg dies]
  · have unwiped : ¬(s.warmReset true).rd Reg.LCS_STATE_PENDING 0 = 1 := by rw [warm.pending, settled]; decide
    rw [boot.gddr, if_neg unwiped, left, if_pos ((s.survives_iff a).2 ⟨n, hk, ha⟩)]

theorem does_modRstNWarmTimer (s : State) (h : s.board.pwr.rst = 1) :
    Does .modRstNWarmTimer s fun t => t.board.pwr.rst = 2 ∧ MainEmpty t ∧ t.now = s.now := by
  have warm := (s.modPwr fun p => { p with rst := 2 }).warmReset_does
  exact ⟨_, congrArg Host.Outcome.next (if_pos h), warm.rst, warm.empty, warm.now⟩

theorem does_modRstNColdTimer (s : State) (h : s.board.pwr.rst = 2) :
    Does .modRstNColdTimer s fun t => t.board.pwr.rst = 3 ∧ MainEmpty t ∧ t.gddr = [] ∧ t.now = 0 := by
  have cold := (s.modPwr fun p => { p with rst := 3 }).coldReset_does
  exact ⟨_, congrArg Host.Outcome.next (if_pos h), cold.rst, cold.empty, cold.gddr, cold.now⟩

/-- The rise of MOD_RST_N ends a reset: the boot runs from the flash. -/
theorem does_modRstNRise (b : Boot) (s : State) {img : List Byte} (h : 2 ≤ s.board.pwr.rst) (settled : s.rd Reg.LCS_STATE_PENDING 0 = 0)
    (flash : s.mgmt.flash = some img) : Does (.modRstNRise b) s fun t => t.board.pwr.rst = 0 ∧
      (s.imageFault img b.signer b.sigOk = 0 → t.mgmt.image = img ∧ t.mgmt.recovery = none) ∧
      (s.imageFault img b.signer b.sigOk ≠ 0 → t.rd Reg.MBX_KILURN_STATE 0 = 3 ∧ t.mgmt.recovery ≠ none ∧
        t.rd Reg.LCS_BOOT_IMAGE_FAIL_REASON 0 = s.imageFault img b.signer b.sigOk) := by
  let u := s.modPwr fun p => { p with rst := 0 }
  have boot := u.boot_does b (s.board.pwr.rst == 3)
  have image := u.boot_of_flash b (s.board.pwr.rst == 3) settled flash
  refine ⟨u.boot b (s.board.pwr.rst == 3), congrArg Host.Outcome.next (if_neg (by omega)), by rw [boot.pwr]; rfl, image.1, fun bad => ?_⟩
  obtain ⟨t, ht⟩ := image.2 bad
  rw [ht]
  exact t.enterRecovery_does _ (u.imageFault_lt ..)

end Sys2Proof.Machine

open Sys2Proof Sys2Proof.Machine Sys2Proof.Safety

/-- Settles O18: a reset of the main domain empties it and keeps the bytes of the extents that survive, and the boot after it
leaves all that as it is, or wipes it again where a life-cycle change is pending. -/
theorem resets : Obligations.Resets := by
  intro s b empty holds kept
  exact ⟨does_coldReset b s, does_warmReset b s, fun h => ⟨_, congrArg Host.Outcome.next (if_pos h), rfl, rfl, rfl⟩,
    does_modRstNWarmTimer s, does_modRstNColdTimer s, fun h => ⟨_, congrArg Host.Outcome.next (if_pos h), rfl, rfl, rfl⟩,
    fun _ => does_modRstNRise b s⟩
end

section
/-! Scheduled events (R44, R46, R47) and the idle cycle (R29): what `State.fire` answers in each of its cases, and what a step on an
empty queue does. -/

namespace Sys2Proof.Safety

open Sys2Proof Sys2Proof.Machine

/-- A write of a listed cell keeps all the others. -/
theorem SameRegsBut.wr {l : List (Fld × Nat)} {s t : State} (h : SameRegsBut l s t) (f : Fld) (i v : Nat) (hf : (f, i) ∈ l) :
    SameRegsBut l s (t.wr f i v) :=
  fun g j hg => (State.rd_wr_ne t f g i j v (hg (f, i) hf)).trans (h g j hg)

end Sys2Proof.Safety

namespace Sys2Proof.Machine

open Sys2Proof Sys2Proof.Safety

/-! The count. -/

theorem State.now_wr_count (s : State) (t : Nat) : (s.wr Reg.CAD_COUNT_COUNT 0 t).now = t % 2 ^ 64 := State.rd_wr_self ..

theorem State.now_wr_of_key (s : State) (f : Fld) (i v : Nat) (h : Reg.CAD_COUNT_COUNT.key ≠ f.key) : (s.wr f i v).now = s.now :=
  State.rd_wr_of_key _ _ _ _ _ _ h

/-! Events that fire. -/

theorem State.isNext_iff (s : State) (k : EvKind) (t : Nat) :
    s.isNext k t = true ↔ ∀ e ∈ s.armed, t < e.at_ ∨ (t = e.at_ ∧ k.order ≤ e.kind.order) := by
  simp [State.isNext, eq_comm (a := t)]

theorem State.fire_of_armedAt_none {s : State} {k : EvKind} (h : s.armedAt k = none) : s.fire k = (s, false, false) := by
  simp [State.fire, h]

/-- What fired is not armed any more. -/
theorem State.armedAt_of_filter {s t : State} {k : EvKind} (h : t.armed = s.armed.filter (fun e => e.kind ≠ k)) : t.armedAt k = none := by
  simp [State.armedAt, h]

section Fire

variable {s : State} {k : EvKind} {t : Nat} (armed : s.armedAt k = some t)
include armed

theorem State.fire_of_held (h : s.rd Reg.CAD_STATUS_STATE 0 = 4 ∨ s.isNext k t = false) : s.fire k = (s, false, false) := by
  simp only [State.fire, armed, if_pos h]

variable (run : s.rd Reg.CAD_STATUS_STATE 0 ≠ 4) (next : s.isNext k t = true) (awake : s.resting = false)
include run next awake

theorem State.fire_of_due (h : s.now ≤ t) : s.fire k = ((s.disarm k).wr Reg.CAD_COUNT_COUNT 0 t, true, false) := by
  simp [State.fire, armed, run, next, awake, Nat.not_lt.2 h]

theorem State.fire_of_late (h : t < s.now) :
    s.fire k = (((s.disarm k).count Reg.CAD_LATE_COUNT_COUNT).wr Reg.CAD_EVT_STATUS_LATE_FIRE 0 1, true, true) := by
  simp [State.fire, armed, run, next, awake, h]

theorem State.fire_armed : (s.fire k).1.armed = s.armed.filter (fun e => e.kind ≠ k) := by
  rcases Nat.lt_or_ge t s.now with late | due
  · rw [State.fire_of_late armed run next awake late]; rfl
  · rw [State.fire_of_due armed run next awake due]; rfl

end Fire

/-! The idle cycle. -/

theorem State.eventDue_eq_false_iff (s : State) : s.eventDue = false ↔ ∀ e ∈ s.armed, e.at_ ≠ s.now := by
  simp [State.eventDue]

theorem State.counts_iff (s : State) : s.counts = true ↔ s.board.pwr.off = false ∧ s.board.pwr.rst ≠ 3 := by
  simp [State.counts]

theorem State.tick_of_free {s : State} (counts : s.counts = true) (free : s.eventDue = false) :
    s.tick = s.wr Reg.CAD_COUNT_COUNT 0 ((s.now + 1) % 2 ^ 64) := by
  simp [State.tick, counts, free]

theorem State.tick_of_held {s : State} (h : s.counts = false ∨ s.eventDue = true) : s.tick = s := by
  rcases h with h | h <;> simp [State.tick, h]

theorem step_of_empty {s : State} (h : s.pending = []) : step s = .next s.tick := by simp [step, h]

end Sys2Proof.Machine

open Sys2Proof Sys2Proof.Machine Sys2Proof.Safety

/-- Settles O56: by the cases of `State.fire`; what has fired is filtered out of the armed events, so it cannot fire again. -/
theorem scheduledEvents : Obligations.ScheduledEvents := by
  refine ⟨fun _ _ _ _ _ => by simp [EvKind.order], fun s k t armed => ?_⟩
  intro first
  have next : s.isNext k t = true ↔ first := s.isNext_iff k t
  refine ⟨fun h => State.fire_of_held armed (.inr (Bool.eq_false_iff.2 (mt next.1 h))), fun h => State.fire_of_held armed (.inl h),
    fun h run awake => ⟨?_, fun due ht => ?_, fun late => ?_⟩⟩
  · have gone := State.fire_armed armed run (next.2 h) awake
    exact ⟨gone, by rw [State.fire_of_armedAt_none (State.armedAt_of_filter gone)]⟩
  · rw [State.fire_of_due armed run (next.2 h) awake due]
    exact ⟨rfl, (State.now_wr_count _ t).trans (Nat.mod_eq_of_lt ht), State.sameRegsBut_wr (s.disarm k) _ 0 t⟩
  · rw [State.fire_of_late armed run (next.2 h) awake late]
    refine ⟨rfl, ?_, ?_⟩
    · rw [State.now_wr_of_key _ _ _ _ (by decide), State.count_eq, State.now_wr_of_key _ _ _ _ (by decide)]
      rfl
    · rw [State.rd_wr_of_key _ _ _ _ _ _ (by decide), State.count_eq, State.rd_wr_self]
      exact Nat.mod_eq_of_lt (satAdd_lt ..)

/-- Settles O52: by the two cases of `State.tick`. -/
theorem idleCycle : Obligations.IdleCycle := by
  intro s empty _
  rw [step_of_empty empty]
  constructor
  · intro on held free
    rw [State.tick_of_free (s.counts_iff.2 ⟨on, held⟩) (s.eventDue_eq_false_iff.2 free)]
    refine ⟨_, rfl, fun e he => ?_, s.sameRegsBut_wr _ 0 _, rfl⟩
    obtain rfl := List.mem_singleton.1 he
    exact (State.rd_wr_self ..).trans (Nat.mod_mod ..)
  · intro h
    rw [State.tick_of_held]
    rcases h with off | held | ⟨e, he, due⟩
    · exact .inl (by simp [State.counts, off])
    · exact .inl (by simp [State.counts, held])
    · exact .inr (List.any_eq_true.2 ⟨e, he, beq_iff_eq.2 due⟩)
end

section
/-! What the cadence unit's own operations keep (R29, R32, R39 to R43): an election, a change of state, a fault and a swap write the
registers listed here, and beside the registers change only what the frame leaves out. -/

namespace Sys2Proof.Machine

open Sys2Proof Sys2Proof.Safety

/-- The state but for registers, what is sent on the far ports, the gates, the counter unit, and what an election or a change of
state writes of the cadence unit. -/
def State.cadFrame (s : State) : State :=
  { s with
    regs := [], out := [], far := [], traffic := {}
    board := { s.board with
      pmc := {}
      cad := { s.board.cad with req := none, missed := 0, batch := [], ref := 0, prio := 0, good := 0, errBase := 0, errAt := 0 } } }

/-- The frame stays, and every register reads as before but the fields of `l`. -/
structure CadKeeps (l : List Fld) (s t : State) : Prop where
  frame : t.cadFrame = s.cadFrame
  regs : SameFieldsBut l s t

namespace CadKeeps

variable {l m : List Fld} {s t u : State}

theorem refl (s : State) : CadKeeps l s s := ⟨rfl, .refl l s⟩

theorem trans (a : CadKeeps l s t) (b : CadKeeps l t u) : CadKeeps l s u := ⟨b.frame.trans a.frame, a.regs.trans b.regs⟩

theorem ite (c : Prop) [Decidable c] (a : CadKeeps l s t) (b : CadKeeps l s u) : CadKeeps l s (if c then t else u) := by
  split <;> assumption

theorem mono (h : CadKeeps l s t) (hl : ∀ f ∈ l, f ∈ m) : CadKeeps m s t := ⟨h.frame, fun f i hf => h.regs f i fun g hg => hf g (hl g hg)⟩

/-- An operation that touches no register and stays in the frame. -/
theorem of_eq (h : CadKeeps l s t) (hu : u.cadFrame = t.cadFrame) (hr : u.regs = t.regs) : CadKeeps l s u :=
  h.trans ⟨hu, fun f i _ => State.rd_of_regs hr f i⟩

/-- A write of a field of the list. -/
theorem wr (h : CadKeeps l s t) (f : Fld) (i v : Nat) (hf : f.key ∈ l.map Fld.key := by decide) : CadKeeps l s (t.wr f i v) := by
  refine h.trans ⟨rfl, fun g j hg => State.rd_wr_of_key t f g i j v fun hk => ?_⟩
  obtain ⟨x, hx, hxk⟩ := List.mem_map.1 hf
  exact hg x hx (hk.trans hxk.symm)

/-- A loop keeps what each of its steps keeps. -/
theorem foldl {β : Type} {f : State → β → State} (h : CadKeeps l s t) (xs : List β)
    (hf : ∀ u x, CadKeeps l s u → CadKeeps l s (f u x)) : CadKeeps l s (xs.foldl f t) :=
  List.foldlRecOn xs f h fun u hu x _ => hf u x hu

theorem rd (h : CadKeeps l s t) (f : Fld) (i : Nat := 0) (hf : ∀ g ∈ l, f.key ≠ g.key := by decide) : t.rd f i = s.rd f i :=
  h.regs f i hf

theorem now (h : CadKeeps l s t) (hf : ∀ g ∈ l, Reg.CAD_COUNT_COUNT.key ≠ g.key := by decide) : t.now = s.now := h.rd _ 0 hf

theorem armed (h : CadKeeps l s t) : t.armed = s.armed := (congrArg State.armed h.frame :)
theorem pels (h : CadKeeps l s t) : t.pels = s.pels := (congrArg State.pels h.frame :)
theorem moves (h : CadKeeps l s t) : t.board.res.moves = s.board.res.moves := (congrArg (·.board.res.moves) h.frame :)
theorem marks (h : CadKeeps l s t) : t.board.marks = s.board.marks := (congrArg (·.board.marks) h.frame :)
theorem heard (h : CadKeeps l s t) : t.board.cad.heard = s.board.cad.heard := (congrArg (·.board.cad.heard) h.frame :)
theorem healthy (h : CadKeeps l s t) : t.board.cad.healthy = s.board.cad.healthy := (congrArg (·.board.cad.healthy) h.frame :)
theorem interval (h : CadKeeps l s t) : t.board.cad.interval = s.board.cad.interval := (congrArg (·.board.cad.interval) h.frame :)
theorem deferred (h : CadKeeps l s t) : t.board.cad.deferred = s.board.cad.deferred := (congrArg (·.board.cad.deferred) h.frame :)

/-! Gates, far ports and the shown error. -/

theorem keepGate (h : CadKeeps l s t) : CadKeeps l s t.keepGate := .ite _ (h.of_eq rfl rfl) h

theorem showEst (h : CadKeeps l s t) (hf : Reg.CAD_STATUS_EST_ERR.key ∈ l.map Fld.key := by decide) : CadKeeps l s t.showEst :=
  h.wr _ _ _ hf

theorem sendSync (h : CadKeeps l s t) (lane n : Nat) (m : SyncMsg) : CadKeeps l s (t.sendSync lane n m) :=
  .ite _ h (.ite _ (h.of_eq rfl rfl) (h.of_eq rfl rfl))

theorem announceAll (h : CadKeeps l s t) : CadKeeps l s t.announceAll :=
  h.foldl _ fun _ _ hu => .ite _ (hu.sendSync _ _ _) hu

end CadKeeps

/-! The fields each operation writes. -/

/-- What is shown of the gates (R208). -/
def gateFields : List Fld :=
  [Reg.TRN_GATE_STATUS_RUNNING, Reg.TRN_GATE_STATUS_FALLBACK_ACTIVE, Reg.TRN_GATE_STATUS_ENTRY, Reg.TRN_GATE_STATUS_INVALID]

/-- What a change of state writes beside the state. -/
def stateFields : List Fld := Reg.CAD_EVT_STATUS_STATE_CHANGE :: Reg.CAD_STATUS_EST_ERR :: gateFields

/-- What an election, or a new upstream, writes. -/
def electFields : List Fld := [Reg.CAD_STATUS_ROOT, Reg.CAD_STATUS_ROOT_ID, Reg.CAD_STATUS_HOP_EQ, Reg.CAD_STATUS_UPSTREAM]

/-- What a report writes beside the count of reports (R426). -/
def reportFields : List Fld :=
  [Reg.RES_UNIT_STAT_ERRORS, Reg.RES_ERR_LOG0_UNIT, Reg.RES_ERR_LOG0_CLASS, Reg.RES_ERR_LOG0_UNCORR, Reg.RES_ERR_LOG0_RESET,
    Reg.RES_ERR_LOG0_VALID, Reg.RES_ERR_LOG1_COUNT]

/-! The election (R32, R37). -/

theorem State.setUpstream_keeps (s : State) (u : Option (Nat × Heard)) : CadKeeps electFields s (s.setUpstream u) := by
  have fresh : CadKeeps electFields s (s.modCad fun c => { c with req := none, missed := 0, batch := [] }) := (CadKeeps.refl s).of_eq rfl rfl
  cases u with
  | none => exact (fresh.wr _ _ _).wr _ _ _
  | some x => exact ((fresh.wr _ _ _).wr _ _ _).of_eq rfl rfl

theorem State.elect_keeps (s : State) : CadKeeps electFields s s.elect := by
  have follow (h : Nat) : CadKeeps electFields s ((s.wr Reg.CAD_STATUS_ROOT 0 0).wr Reg.CAD_STATUS_ROOT_ID 0 h) :=
    ((CadKeeps.refl s).wr _ _ _).wr _ _ _
  refine .ite _ (.refl s) (.ite _ (((((CadKeeps.refl s).wr _ _ _).wr _ _ _).wr _ _ _).wr _ _ _) ?_)
  split
  · exact .ite _ (((CadKeeps.refl s).wr _ _ _).trans (State.setUpstream_keeps _ _)) (.refl s)
  · exact .ite _ (follow _) ((follow _).trans (State.setUpstream_keeps _ _))

theorem State.rd_setUpstream_none (s : State) : (s.setUpstream none).rd Reg.CAD_STATUS_UPSTREAM 0 = 0xFF :=
  (State.rd_wr_of_key _ _ _ _ _ _ (by decide)).trans (State.rd_wr_self ..)

/-- Where nothing is heard there is no candidate. -/
theorem State.pickUpstream_of_not_heard {s : State} (h : s.board.cad.heard = []) (root own : Nat) (lost : Option Nat) :
    s.pickUpstream root own lost = none := by
  have silent : ∀ c, s.heardOn c = none := fun c => by simp [State.heardOn, h]
  simp [State.pickUpstream, silent]

/-! Changes of state (R39). -/

theorem State.showGate_keeps (s : State) : CadKeeps gateFields s s.showGate := by
  have shown : CadKeeps gateFields s ((s.put Reg.TRN_GATE_STATUS_RUNNING 0 s.gateOn).put Reg.TRN_GATE_STATUS_FALLBACK_ACTIVE 0 !s.gateOn) :=
    ((CadKeeps.refl s).wr _ _ _).wr _ _ _
  exact ((CadKeeps.ite _ (shown.wr _ _ _) shown).wr _ _ _).keepGate

theorem State.settleMoves_of_no_moves {s : State} (h : s.board.res.moves = []) : s.settleMoves = s := by simp [State.settleMoves, h]

/-- A change to another state is a write of the state, with what is shown of it. -/
theorem State.setCad_of_ne {s : State} (moves : s.board.res.moves = []) {v : Nat} (h : s.rd Reg.CAD_STATUS_STATE 0 ≠ v) :
    CadKeeps stateFields (s.wr Reg.CAD_STATUS_STATE 0 v) (s.setCad v) := by
  have gates : CadKeeps stateFields (s.wr Reg.CAD_STATUS_STATE 0 v) (s.keepGate.wr Reg.CAD_STATUS_STATE 0 v) := by
    unfold State.keepGate
    split
    · exact (CadKeeps.refl _).of_eq rfl rfl
    · exact .refl _
  unfold State.setCad
  rw [if_neg h]
  dsimp only
  generalize s.keepGate.wr Reg.CAD_STATUS_STATE 0 v = t at gates
  generalize s.estNow = base
  have moved : CadKeeps stateFields (s.wr Reg.CAD_STATUS_STATE 0 v) ((t.wr Reg.CAD_EVT_STATUS_STATE_CHANGE 0 1).modCad fun c =>
      { c with good := 0, errBase := base, errAt := (t.wr Reg.CAD_EVT_STATUS_STATE_CHANGE 0 1).now }) := (gates.wr _ _ _).of_eq rfl rfl
  have shown := moved.showEst.trans ((State.showGate_keeps _).mono fun _ hf => List.mem_cons_of_mem _ (List.mem_cons_of_mem _ hf))
  rwa [State.settleMoves_of_no_moves (shown.moves.trans moves)]

theorem State.setCad_of_eq {s : State} {v : Nat} (h : s.rd Reg.CAD_STATUS_STATE 0 = v) : s.setCad v = s.showEst := if_pos h

theorem State.setCad_keeps {s : State} (moves : s.board.res.moves = []) (v : Nat) :
    CadKeeps (Reg.CAD_STATUS_STATE :: stateFields) s (s.setCad v) := by
  by_cases h : s.rd Reg.CAD_STATUS_STATE 0 = v
  · rw [State.setCad_of_eq h]
    exact (CadKeeps.refl s).showEst
  · exact ((CadKeeps.refl s).wr _ _ _).trans ((State.setCad_of_ne moves h).mono fun _ => List.mem_cons_of_mem _)

theorem State.rd_setCad_state {s : State} (moves : s.board.res.moves = []) {v : Nat} (hv : v < 8) :
    (s.setCad v).rd Reg.CAD_STATUS_STATE 0 = v := by
  by_cases h : s.rd Reg.CAD_STATUS_STATE 0 = v
  · rw [State.setCad_of_eq h]
    exact (State.rd_wr_of_key _ _ _ _ _ _ (by decide)).trans h
  · rw [(State.setCad_of_ne moves h).rd Reg.CAD_STATUS_STATE, State.rd_wr_self]
    exact Nat.mod_eq_of_lt hv

/-! A fault (R39, R41, R426). -/

theorem State.logReport_keeps (s : State) (unit cls : Nat) (uncorr reset : Bool) :
    CadKeeps reportFields (s.count Reg.RES_ERRORS_COUNT) (s.logReport unit cls uncorr reset) := by
  have counted : CadKeeps reportFields (s.count Reg.RES_ERRORS_COUNT)
      ((s.count Reg.RES_ERRORS_COUNT).count Reg.RES_UNIT_STAT_ERRORS unit) := (CadKeeps.refl _).wr _ _ _
  exact .ite _ counted ((((((counted.wr _ _ _).wr _ _ _).wr _ _ _).wr _ _ _).wr _ _ _).wr _ _ _)

/-- Without pelotons a fault is the change of state, its event and a report. -/
theorem State.enterFault_of_no_pels {s : State} (moves : s.board.res.moves = []) (pels : s.pels = []) :
    s.enterFault = ((s.setCad 4).wr Reg.CAD_EVT_STATUS_FAULT 0 1).logReport (unitNo 13 1) 7 true false := by
  have alone : ((s.setCad 4).wr Reg.CAD_EVT_STATUS_FAULT 0 1).pels = [] := (State.setCad_keeps moves 4).pels.trans pels
  simp only [State.enterFault, alone, List.foldl_nil]

theorem State.enterFault_does {s : State} (moves : s.board.res.moves = []) (pels : s.pels = []) :
    s.enterFault.rd Reg.CAD_STATUS_STATE 0 = 4 ∧ s.enterFault.rd Reg.CAD_EVT_STATUS_FAULT 0 = 1 ∧
      s.enterFault.rd Reg.RES_ERRORS_COUNT 0 = satAdd 64 (s.rd Reg.RES_ERRORS_COUNT 0) 1 ∧
      s.enterFault.board.cad.healthy = s.board.cad.healthy := by
  have fault := State.setCad_keeps moves 4
  have report := ((s.setCad 4).wr Reg.CAD_EVT_STATUS_FAULT 0 1).logReport_keeps (unitNo 13 1) 7 true false
  rw [State.enterFault_of_no_pels moves pels, report.rd Reg.CAD_STATUS_STATE, report.rd Reg.CAD_EVT_STATUS_FAULT,
    report.rd Reg.RES_ERRORS_COUNT, report.healthy, State.count_eq]
  refine ⟨?_, ?_, ?_, fault.healthy⟩
  · rw [State.rd_wr_of_key _ _ _ _ _ _ (by decide), State.rd_wr_of_key _ _ _ _ _ _ (by decide), State.rd_setCad_state moves (by decide)]
  · rw [State.rd_wr_of_key _ _ _ _ _ _ (by decide), State.rd_wr_self]
    rfl
  · rw [State.rd_wr_self, State.rd_wr_of_key _ _ _ _ _ _ (by decide), fault.rd Reg.RES_ERRORS_COUNT]
    exact Nat.mod_eq_of_lt (satAdd_lt ..)

/-! The count (R29, R44). -/

theorem State.reach_keeps (s : State) (t : Nat) : CadKeeps [Reg.CAD_COUNT_COUNT] s (s.reach t) :=
  .ite _ ((CadKeeps.refl s).wr _ _ _) (.refl s)

theorem State.reach_out (s : State) (t : Nat) : (s.reach t).out = s.out := by
  unfold State.reach
  split <;> rfl

theorem State.now_reach {s : State} {t : Nat} (h : s.now ≤ t) (ht : t < 2 ^ 64) : (s.reach t).now = t := by
  unfold State.reach
  split
  · exact (State.now_wr_count s t).trans (Nat.mod_eq_of_lt ht)
  · omega

theorem State.mayReach_of_not_armed {s : State} (h : s.armed = []) (t : Nat) : s.mayReach t = true := by simp [State.mayReach, h]

/-! The gates, where none run (R202). -/

theorem State.gateReady_of_disabled {s : State} (h : s.rd Reg.TRN_EGR_CTRL_GATE_EN 0 = 0) : s.gateReady = false := by
  simp [State.gateReady, h]

theorem State.keepGate_of_disabled {s : State} (h : s.rd Reg.TRN_EGR_CTRL_GATE_EN 0 = 0) : s.keepGate = s := by
  simp [State.keepGate, State.gateOn, State.gateReady_of_disabled h]

/-- Where nothing is armed and no gate list runs, a cancellation is a gap of the dump schedule at most. -/
theorem State.cancelEvents_keeps {s : State} (armed : s.armed = []) (gate : s.rd Reg.TRN_EGR_CTRL_GATE_EN 0 = 0) :
    CadKeeps [Reg.PMC_DUMP_STATUS_GAP] s s.cancelEvents := by
  simp only [State.cancelEvents, armed, List.foldl_nil, State.gateReady_of_disabled gate, Bool.false_eq_true, if_false]
  exact .ite _ (((CadKeeps.refl s).wr _ _ _).of_eq rfl rfl) (.refl s)

end Sys2Proof.Machine
end

section
/-! The cadence unit (R29, R38, R39, R44, R45, R48, R55, R480): its registers, its references and the table swap. -/

namespace Sys2Proof.Machine

open Sys2Proof Sys2Proof.Safety

theorem bit_zero_of_odd {v : Nat} (h : v % 2 = 1) : bit v 0 = true := by simp [bit, h]

theorem bit_zero_of_even {v : Nat} (h : v % 2 = 0) : bit v 0 = false := by simp [bit, h]

/-! CAD_CTRL (R39, R55). -/

/-- The fields of CAD_CTRL beside ENABLE. -/
def ctrlFields : List Fld :=
  [Reg.CAD_CTRL_ROOT_CAPABLE, Reg.CAD_CTRL_REF_SRC, Reg.CAD_CTRL_PPS_OUT_EN, Reg.CAD_CTRL_PRIO, Reg.CAD_CTRL_SYNC_EN]

/-- These fields take their bits of a word at once, as they do while ENABLE is 0. -/
def State.wrCtrl (s : State) (v : Nat) : State :=
  ((((s.wr Reg.CAD_CTRL_ROOT_CAPABLE 0 (v / 2)).wr Reg.CAD_CTRL_REF_SRC 0 (v / 2 ^ 2)).wr Reg.CAD_CTRL_PPS_OUT_EN 0 (v / 2 ^ 4)).wr
    Reg.CAD_CTRL_PRIO 0 (v / 2 ^ 8)).wr Reg.CAD_CTRL_SYNC_EN 0 (v / 2 ^ 16)

theorem State.wrCtrl_keeps (s : State) (v : Nat) : CadKeeps ctrlFields s (s.wrCtrl v) :=
  (((((CadKeeps.refl s).wr _ _ _).wr _ _ _).wr _ _ _).wr _ _ _).wr _ _ _

theorem State.rd_wrCtrl (s : State) (v : Nat) :
    (s.wrCtrl v).rd Reg.CAD_CTRL_ROOT_CAPABLE 0 = v / 2 % 2 ∧ (s.wrCtrl v).rd Reg.CAD_CTRL_REF_SRC 0 = v / 2 ^ 2 % 2 ^ 2 ∧
      (s.wrCtrl v).rd Reg.CAD_CTRL_PRIO 0 = v / 2 ^ 8 % 2 ^ 8 := by
  unfold State.wrCtrl
  refine ⟨?_, ?_, ?_⟩ <;> simp (disch := decide) only [State.rd_wr_of_key, State.rd_wr_self] <;> rfl

theorem State.deferWrite_of_disabled {s : State} (h : s.rd Reg.CAD_CTRL_ENABLE 0 = 0) (f : Fld) (i v : Nat) :
    s.deferWrite f i v = s.wr f i v := by
  simp [State.deferWrite, h]

/-- The five writes of CAD_CTRL's fields while ENABLE is 0. -/
theorem State.deferCtrl_of_disabled {s : State} (h : s.rd Reg.CAD_CTRL_ENABLE 0 = 0) (v : Nat) :
    ((((s.deferWrite Reg.CAD_CTRL_ROOT_CAPABLE 0 (v / 2)).deferWrite Reg.CAD_CTRL_REF_SRC 0 (v / 2 ^ 2)).deferWrite
      Reg.CAD_CTRL_PPS_OUT_EN 0 (v / 2 ^ 4)).deferWrite Reg.CAD_CTRL_PRIO 0 (v / 2 ^ 8)).deferWrite Reg.CAD_CTRL_SYNC_EN 0 (v / 2 ^ 16) =
      s.wrCtrl v := by
  have off : ∀ f ∈ ctrlFields, ∀ (t : State) (x : Nat), t.rd Reg.CAD_CTRL_ENABLE 0 = 0 → (t.wr f 0 x).rd Reg.CAD_CTRL_ENABLE 0 = 0 :=
    fun f hf t x ht => (State.rd_wr_of_key _ _ _ _ _ _ (by revert f; decide)).trans ht
  simp only [ctrlFields, List.forall_mem_cons] at off
  obtain ⟨root, ref, pps, prio, -⟩ := off
  unfold State.wrCtrl
  rw [State.deferWrite_of_disabled h, State.deferWrite_of_disabled (root _ _ h), State.deferWrite_of_disabled (ref _ _ (root _ _ h)),
    State.deferWrite_of_disabled (pps _ _ (ref _ _ (root _ _ h))), State.deferWrite_of_disabled (prio _ _ (pps _ _ (ref _ _ (root _ _ h))))]

/-- What setting ENABLE writes beside CAD_CTRL. -/
def enableFields : List Fld := Reg.CAD_STATUS_STATE :: (stateFields ++ electFields)

/-- Setting ENABLE starts an interval and elects a root; a root starts to acquire. -/
theorem State.sameFieldsBut_enable {s : State} (moves : s.board.res.moves = []) {v : Nat} (off : s.rd Reg.CAD_CTRL_ENABLE 0 = 0)
    (hv : v % 2 = 1) : SameFieldsBut enableFields ((s.wrCtrl v).wr Reg.CAD_CTRL_ENABLE 0 1) (s.writeCadCtrl v) := by
  have was : s.on Reg.CAD_CTRL_ENABLE 0 = false := by simp [off]
  simp only [State.writeCadCtrl, was, bit_zero_of_odd hv, Bool.false_eq_true, false_and, if_false, Bool.not_false, and_self, if_true,
    State.deferCtrl_of_disabled off]
  generalize hu : (State.setMark _ 4 _) = u
  have started : SameFieldsBut enableFields ((s.wrCtrl v).wr Reg.CAD_CTRL_ENABLE 0 1) u := by
    rw [← hu]
    exact .refl _ _
  have elected := u.elect_keeps
  have elected' := started.trans (elected.mono (m := enableFields) fun _ h => List.mem_cons_of_mem _ (List.mem_append_right _ h)).regs
  split
  · have moves : u.elect.board.res.moves = [] := elected.moves.trans (by rw [← hu]; exact moves)
    exact elected'.trans ((State.setCad_keeps moves 1).mono fun _ h => List.mem_append_left electFields h).regs
  · exact elected'

theorem State.applyDeferred_of_nil {s : State} (h : s.board.cad.deferred = []) : s.applyDeferred = s := by
  have same : (s.modCad fun c => { c with deferred := [] }) = s := by
    show { s with board := { s.board with cad := { s.board.cad with deferred := [] } } } = s
    rw [← h]
  simp only [State.applyDeferred, h, List.foldl_nil, same]

/-- Clearing ENABLE cancels what is armed, goes to FREE and drops root and upstream. -/
theorem State.writeCadCtrl_drops {s : State} {v : Nat} (on : s.rd Reg.CAD_CTRL_ENABLE 0 = 1) (hv : v % 2 = 0)
    (settled : s.board.cad.deferred = []) :
    SameFieldsBut electFields (((s.wr Reg.CAD_CTRL_ENABLE 0 0).wrCtrl v).cancelEvents.setCad 0) (s.writeCadCtrl v) ∧
      (s.writeCadCtrl v).rd Reg.CAD_STATUS_UPSTREAM 0 = 0xFF := by
  have was : s.on Reg.CAD_CTRL_ENABLE 0 = true := by simp [on]
  have off : (s.wr Reg.CAD_CTRL_ENABLE 0 0).rd Reg.CAD_CTRL_ENABLE 0 = 0 := State.rd_wr_self ..
  simp only [State.writeCadCtrl, was, bit_zero_of_even hv, Bool.not_false, and_self, if_true, State.applyDeferred_of_nil settled,
    State.deferCtrl_of_disabled off]
  generalize ((s.wr Reg.CAD_CTRL_ENABLE 0 0).wrCtrl v).cancelEvents.setCad 0 = t
  have rootless : CadKeeps electFields t ((t.wr Reg.CAD_STATUS_ROOT 0 0).wr Reg.CAD_STATUS_ROOT_ID 0 0) := ((CadKeeps.refl t).wr _ _ _).wr _ _ _
  exact ⟨fun f i hf => (State.modCad_rd ..).trans ((rootless.trans (State.setUpstream_keeps _ _)).rd f i hf),
    (State.modCad_rd ..).trans (State.rd_setUpstream_none _)⟩

theorem does_cadEnableWrite_of_enabling {s : State} (moves : s.board.res.moves = []) {v : Nat} (off : s.rd Reg.CAD_CTRL_ENABLE 0 = 0)
    (hv : v % 2 = 1) : Does (.cadEnableWrite v) s fun u => u.rd Reg.CAD_CTRL_ENABLE 0 = 1 ∧ u.rd Reg.CAD_CTRL_ROOT_CAPABLE 0 = v / 2 % 2 ∧
      u.rd Reg.CAD_CTRL_REF_SRC 0 = v / 2 ^ 2 % 2 ^ 2 ∧ u.rd Reg.CAD_CTRL_PRIO 0 = v / 2 ^ 8 % 2 ^ 8 ∧ u.now = s.now := by
  have kept (f : Fld) (hf : ∀ g ∈ enableFields, f.key ≠ g.key := by decide) := State.sameFieldsBut_enable moves off hv f 0 hf
  have other (f : Fld) (hf : f.key ≠ Reg.CAD_CTRL_ENABLE.key := by decide) := State.rd_wr_of_key (s.wrCtrl v) Reg.CAD_CTRL_ENABLE f 0 0 1 hf
  obtain ⟨root, ref, prio⟩ := s.rd_wrCtrl v
  exact ⟨_, rfl, (kept Reg.CAD_CTRL_ENABLE).trans (State.rd_wr_self ..),
    (kept Reg.CAD_CTRL_ROOT_CAPABLE).trans ((other _).trans root), (kept Reg.CAD_CTRL_REF_SRC).trans ((other _).trans ref),
    (kept Reg.CAD_CTRL_PRIO).trans ((other _).trans prio), (kept Reg.CAD_COUNT_COUNT).trans ((other _).trans (s.wrCtrl_keeps v).now)⟩

theorem does_cadEnableWrite_of_disabling {s : State} (moves : s.board.res.moves = []) (armed : s.armed = [])
    (gate : s.rd Reg.TRN_EGR_CTRL_GATE_EN 0 = 0) {v : Nat} (on : s.rd Reg.CAD_CTRL_ENABLE 0 = 1) (hv : v % 2 = 0)
    (settled : s.board.cad.deferred = []) : Does (.cadEnableWrite v) s fun u => u.rd Reg.CAD_CTRL_ENABLE 0 = 0 ∧
      u.rd Reg.CAD_STATUS_STATE 0 = 0 ∧ u.rd Reg.CAD_STATUS_UPSTREAM 0 = 0xFF ∧ u.now = s.now := by
  have written := (s.wr Reg.CAD_CTRL_ENABLE 0 0).wrCtrl_keeps v
  have cancelled := State.cancelEvents_keeps (written.armed.trans armed)
    ((written.rd Reg.TRN_EGR_CTRL_GATE_EN).trans ((State.rd_wr_of_key _ _ _ _ _ _ (by decide)).trans gate))
  have idle := cancelled.moves.trans (written.moves.trans moves)
  have free := State.setCad_keeps idle 0
  have state := State.rd_setCad_state idle (v := 0) (by decide)
  obtain ⟨dropped, upstream⟩ := State.writeCadCtrl_drops on hv settled
  have kept (f : Fld) (h1 : ∀ g ∈ electFields, f.key ≠ g.key := by decide)
      (h2 : ∀ g ∈ Reg.CAD_STATUS_STATE :: stateFields, f.key ≠ g.key := by decide)
      (h3 : ∀ g ∈ [Reg.PMC_DUMP_STATUS_GAP], f.key ≠ g.key := by decide) (h4 : ∀ g ∈ ctrlFields, f.key ≠ g.key := by decide) :=
    (dropped f 0 h1).trans ((free.rd f 0 h2).trans ((cancelled.rd f 0 h3).trans (written.rd f 0 h4)))
  exact ⟨_, rfl, (kept Reg.CAD_CTRL_ENABLE).trans (State.rd_wr_self ..), (dropped Reg.CAD_STATUS_STATE 0 (by decide)).trans state, upstream,
    (kept Reg.CAD_COUNT_COUNT).trans (State.now_wr_of_key _ _ _ _ (by decide))⟩

/-! The count and the swap's count (R29, R45). -/

theorem State.rd_jump (s : State) (t : Nat) (f : Fld) (i : Nat) : (s.jump t).rd f i = (s.wr Reg.CAD_COUNT_COUNT 0 t).rd f i := rfl

theorem does_cadLoadGo_of_unsynced {s : State} (moves : s.board.res.moves = []) (low : s.rd Reg.CAD_STATUS_STATE 0 ≤ 1) :
    Does .cadLoadGo s fun u => u.now = s.rd Reg.CAD_LOAD_COUNT 0 % 2 ^ 64 ∧ u.rd Reg.CAD_STATUS_STATE 0 =
      if s.rd Reg.CAD_STATUS_STATE 0 = 0 ∧ s.rd Reg.CAD_CTRL_ENABLE 0 = 1 then 1 else s.rd Reg.CAD_STATUS_STATE 0 := by
  refine ⟨_, rfl, ?_⟩
  have count : (s.jump (s.rd Reg.CAD_LOAD_COUNT 0)).now = s.rd Reg.CAD_LOAD_COUNT 0 % 2 ^ 64 := State.now_wr_count _ _
  have state := (s.rd_jump (s.rd Reg.CAD_LOAD_COUNT 0) Reg.CAD_STATUS_STATE 0).trans (State.rd_wr_of_key _ _ _ _ _ _ (by decide))
  have idle : (s.jump (s.rd Reg.CAD_LOAD_COUNT 0)).board.res.moves = [] := moves
  simp only [State.cadLoad, if_neg (Nat.not_lt.2 low), State.on_eq, beq_iff_eq]
  split
  · exact ⟨(State.setCad_keeps idle 1).now.trans count, State.rd_setCad_state idle (by decide)⟩
  · exact ⟨count, state⟩

theorem does_cadLoadGo_of_synced {s : State} (high : 1 < s.rd Reg.CAD_STATUS_STATE 0) : Does .cadLoadGo s fun u => u = s :=
  ⟨_, rfl, if_pos high⟩

theorem does_cadSwapAtWrite {s : State} (armed : s.armed = []) {t : Nat} (may : s.mayArm (t % 2 ^ 64) = true) :
    Does (.cadSwapAtWrite t) s fun u => u.armed = [{ kind := .swap, at_ := t % 2 ^ 64 }] ∧ u.rd Reg.CAD_SWAP_STATUS_ARMED 0 = 1 ∧
      u.rd Reg.CAD_SWAP_AT_COUNT 0 = t % 2 ^ 64 := by
  refine ⟨_, rfl, ?_⟩
  simp only [State.writeSwapAt, may, if_true, State.armSwap]
  refine ⟨?_, State.rd_wr_self .., ?_⟩
  · simp [State.arm, State.disarm, armed]
  · rw [State.rd_wr_of_key _ _ _ _ _ _ (by decide), State.arm_rd, State.disarm_rd, State.rd_wr_self]
    rfl

/-! References and pulses (R38, R39). -/

/-- The first multiple of a period that is not below a number. -/
theorem le_ceil_mul (n : Nat) {p : Nat} (h : 0 < p) : n ≤ (n + p - 1) / p * p := by
  rw [← Nat.ceilDiv_eq_add_pred_div, Nat.mul_comm]
  exact le_smul_ceilDiv h

theorem does_ppsOutPulse {s : State} {p t : Nat} (armed : s.armed = []) (hp : p = max 1000 (s.rd Reg.CAD_PPS_OUT_PERIOD_CT 0))
    (hn : t = (s.now + p - 1) / p * p) (ht : t < 2 ^ 64) (on : s.rd Reg.CAD_CTRL_PPS_OUT_EN 0 = 1) (powered : s.board.pwr.off = false)
    (first : s.board.cad.pulse = none) :
    Does .ppsOutPulse s fun u => u.out = s.out ++ [.pps t] ∧ u.now = t ∧ u.board.cad.pulse = some t := by
  have due : s.now ≤ t := hn ▸ le_ceil_mul s.now (by omega)
  refine ⟨((s.reach t).modCad fun c => { c with pulse := some t }).emit (.pps t), ?_, ?_, State.now_reach due ht, rfl⟩
  · show execPpsOutPulse s = _
    simp [execPpsOutPulse, ← hp, ← hn, on, powered, first, State.mayReach_of_not_armed armed]
  · show (s.reach t).out ++ _ = _
    rw [State.reach_out]

/-- A root that tracks the PPS alone holds over when it is lost. -/
theorem does_referenceLost {s : State} (moves : s.board.res.moves = []) (src : s.rd Reg.CAD_CTRL_REF_SRC 0 = 1)
    (root : s.rd Reg.CAD_STATUS_ROOT 0 = 1) (locked : s.rd Reg.CAD_STATUS_STATE 0 = 2) :
    Does (.referenceLost 1) s fun u => u.rd Reg.CAD_STATUS_PPS_VALID 0 = 0 ∧ u.rd Reg.CAD_STATUS_STATE 0 = 3 := by
  let lost := s.wr Reg.CAD_STATUS_PPS_VALID 0 0
  have valid : lost.rd Reg.CAD_STATUS_PPS_VALID 0 = 0 := State.rd_wr_self ..
  have other (f : Fld) (hf : f.key ≠ Reg.CAD_STATUS_PPS_VALID.key := by decide) : lost.rd f 0 = s.rd f 0 := State.rd_wr_of_key _ _ _ _ _ _ hf
  have unreferenced : lost.ownRef = 0 := by simp [State.ownRef, other Reg.CAD_CTRL_REF_SRC, src, valid, bit]
  have idle : lost.board.res.moves = [] := moves
  have holds : exec (.referenceLost 1) s = .next (lost.setCad 3).elect := by
    have cond : lost.on Reg.CAD_STATUS_ROOT = true ∧ lost.rd Reg.CAD_CTRL_REF_SRC ≠ 0 ∧ lost.ownRef = 0 ∧ lost.rd Reg.CAD_STATUS_STATE = 2 :=
      ⟨by simp [other Reg.CAD_STATUS_ROOT, root], by simp [other Reg.CAD_CTRL_REF_SRC, src], unreferenced, (other _).trans locked⟩
    exact congrArg Host.Outcome.next (if_pos cond)
  have held := State.setCad_keeps idle 3
  have elected := (lost.setCad 3).elect_keeps
  exact ⟨_, holds, (elected.rd Reg.CAD_STATUS_PPS_VALID).trans ((held.rd Reg.CAD_STATUS_PPS_VALID).trans valid),
    (elected.rd Reg.CAD_STATUS_STATE).trans (State.rd_setCad_state idle (by decide))⟩

theorem does_ppsEdge {s : State} (src : s.rd Reg.CAD_CTRL_REF_SRC 0 = 0) (frac time : Nat) :
    Does (.ppsEdge frac time) s fun u => u.rd Reg.CAD_PPS_IN_STAMP_COUNT 0 = s.now % 2 ^ 64 ∧ u.rd Reg.CAD_STATUS_PPS_VALID 0 = 1 ∧
      SameRegsBut [(Reg.CAD_PPS_IN_STAMP_COUNT, 0), (Reg.CAD_STATUS_PPS_VALID, 0)] s u := by
  have unused : (!bit (s.rd Reg.CAD_CTRL_REF_SRC 0) 0) = true ∨ (!s.on Reg.CAD_CTRL_ENABLE) = true := .inl (by simp [src, bit])
  refine ⟨_, congrArg Host.Outcome.next (if_pos unused), ?_, State.rd_wr_self .., ?_⟩
  · exact (State.rd_wr_of_key _ _ _ _ _ _ (by decide)).trans (State.rd_wr_self ..)
  · exact ((SameRegsBut.refl _ s).wr _ _ _ (by simp)).wr _ _ _ (by simp)

theorem does_ptpMessage {s : State} (src : s.rd Reg.CAD_CTRL_REF_SRC 0 = 0) (valid : Bool) (time frac : Nat) :
    Does (.ptpMessage valid time frac) s fun u => u.rd Reg.CAD_STATUS_PTP_VALID 0 = b2n valid ∧
      u.board.cad.ptpSec = time / 1000000000 ∧ SameRegsBut [(Reg.CAD_STATUS_PTP_VALID, 0)] s u := by
  have unused : (!bit (s.rd Reg.CAD_CTRL_REF_SRC 0) 1) = true ∨ (!s.on Reg.CAD_CTRL_ENABLE) = true ∨ (!valid) = true := .inl (by simp [src, bit])
  refine ⟨_, congrArg Host.Outcome.next (if_pos unused), (State.rd_wr_self ..).trans ?_, rfl, s.sameRegsBut_wr _ 0 _⟩
  cases valid <;> rfl

/-! FAULT (R39, R480). -/

theorem does_holdoverErrorLimit {s : State} (moves : s.board.res.moves = []) (pels : s.pels = []) (armed : s.armed = [])
    (holds : s.rd Reg.CAD_STATUS_STATE 0 = 3) (limit : s.rd Reg.CAD_HOLD_ERR_PS 0 < 65534) :
    Does .holdoverErrorLimit s fun u => u.rd Reg.CAD_STATUS_STATE 0 = 4 ∧ u.rd Reg.CAD_EVT_STATUS_FAULT 0 = 1 ∧
      u.rd Reg.RES_ERRORS_COUNT 0 = satAdd 64 (s.rd Reg.RES_ERRORS_COUNT 0) 1 := by
  obtain ⟨t, comes⟩ : ∃ t, exec .holdoverErrorLimit s = .next (s.reach t).enterFault := by
    refine ⟨s.board.cad.errAt + (s.rd Reg.CAD_HOLD_ERR_PS 0 + 1 - s.board.cad.errBase) * 20000, ?_⟩
    show execHoldoverErrorLimit s = _
    simp only [execHoldoverErrorLimit, holds, State.mayReach_of_not_armed armed, Nat.not_le.2 limit, ne_eq, not_true_eq_false, Bool.not_true,
      Bool.false_eq_true, or_self, if_false]
  have reached := s.reach_keeps t
  obtain ⟨state, event, count, -⟩ := State.enterFault_does (reached.moves.trans moves) (reached.pels.trans pels)
  exact ⟨_, comes, state, event, count.trans (by rw [reached.rd Reg.RES_ERRORS_COUNT])⟩

theorem does_cadenceClockFault {s : State} (moves : s.board.res.moves = []) (pels : s.pels = []) (runs : s.rd Reg.CAD_STATUS_STATE 0 ≠ 0)
    (sound : s.rd Reg.CAD_STATUS_STATE 0 ≠ 4) : Does .cadenceClockFault s fun u => u.rd Reg.CAD_STATUS_STATE 0 = 4 ∧
      u.rd Reg.CAD_EVT_STATUS_FAULT 0 = 1 ∧ u.board.cad.healthy = false := by
  obtain ⟨state, event, -, healthy⟩ := State.enterFault_does (s := s.modCad fun c => { c with healthy := false }) moves pels
  refine ⟨_, ?_, state, event, healthy⟩
  show execCadenceClockFault s = _
  simp only [execCadenceClockFault, if_neg runs, if_neg sound]

/-! The table swap (R48). -/

/-- Exchanges two fields at one index. -/
def State.swapCell (a b : Fld) (s : State) (i : Nat) : State := (s.wr a i (s.rd b i)).wr b i (s.rd a i)

theorem State.rd_swapCell (s : State) {a b : Fld} (hk : a.key ≠ b.key) (i j : Nat) :
    (State.swapCell a b s j).rd a i = (if i = j then s.rd b i % 2 ^ a.w else s.rd a i) ∧
      (State.swapCell a b s j).rd b i = if i = j then s.rd a i % 2 ^ b.w else s.rd b i := by
  unfold State.swapCell
  by_cases h : i = j
  · subst h
    simp [State.rd_wr_of_key _ _ _ _ _ _ hk]
  · simp [State.rd_wr_of_index _ _ _ _ _ _ h, h]

theorem State.rd_swapCells {a b : Fld} (hk : a.key ≠ b.key) (l : List Nat) (nodup : l.Nodup) (i : Nat) (s : State) :
    (l.foldl (State.swapCell a b) s).rd a i = (if i ∈ l then s.rd b i % 2 ^ a.w else s.rd a i) ∧
      (l.foldl (State.swapCell a b) s).rd b i = if i ∈ l then s.rd a i % 2 ^ b.w else s.rd b i := by
  induction l generalizing s with
  | nil => simp
  | cons j l ih =>
    obtain ⟨new, rest⟩ := List.nodup_cons.1 nodup
    obtain ⟨ha, hb⟩ := s.rd_swapCell hk i j
    rw [List.foldl_cons, (ih rest _).1, (ih rest _).2, ha, hb]
    by_cases h : i = j
    · subst h
      simp [new]
    · simp [h]

theorem State.rd_of_not_listed {s : State} {f : Fld} {i : Nat} (h : i ∉ s.listed f) : s.rd f i = f.rst i :=
  Decidable.by_contra fun hne => h (Tbl.mem_of_get_ne hne)

/-- Two fields of one width, with equal reset values, change places at every index. -/
theorem State.rd_swapFld {s : State} {a b : Fld} (hk : a.key ≠ b.key) (hw : a.w = b.w) (rst : ∀ i, a.rst i = b.rst i)
    (fits : ∀ i, s.rd a i < 2 ^ a.w ∧ s.rd b i < 2 ^ b.w) (i : Nat) :
    (s.swapFld a b).rd a i = s.rd b i ∧ (s.swapFld a b).rd b i = s.rd a i := by
  obtain ⟨ha, hb⟩ := State.rd_swapCells hk (s.listed a ++ s.listed b).dedup (List.nodup_dedup _) i s
  rw [Nat.mod_eq_of_lt (hw ▸ (fits i).2)] at ha
  rw [Nat.mod_eq_of_lt (hw ▸ (fits i).1)] at hb
  have still (h : i ∉ (s.listed a ++ s.listed b).dedup) : s.rd a i = s.rd b i := by
    simp only [List.mem_dedup, List.mem_append, not_or] at h
    rw [State.rd_of_not_listed h.1, State.rd_of_not_listed h.2, rst]
  exact ⟨ha.trans (ite_eq_left_iff.2 still), hb.trans (ite_eq_left_iff.2 fun h => (still h).symm)⟩

theorem State.swapFld_keeps (s : State) (a b : Fld) : CadKeeps [a, b] s (s.swapFld a b) :=
  (CadKeeps.refl s).foldl _ fun _ _ hu => (hu.wr _ _ _ (by simp)).wr _ _ _ (by simp)

/-- CAD_SWAP_MASK selects the group hashes alone, and no gate list runs. -/
structure SwapsHash (s : State) : Prop where
  gate : s.rd Reg.TRN_EGR_CTRL_GATE_EN 0 = 0
  fwd : s.rd Reg.CAD_SWAP_MASK_FWD 0 = 0
  gates : s.rd Reg.CAD_SWAP_MASK_GATE 0 = 0
  shaper : s.rd Reg.CAD_SWAP_MASK_SHAPER 0 = 0
  meter : s.rd Reg.CAD_SWAP_MASK_METER 0 = 0
  steer : s.rd Reg.CAD_SWAP_MASK_STEER 0 = 0
  hash : s.rd Reg.CAD_SWAP_MASK_GROUPHASH 0 = 1

theorem SwapsHash.swapTables {s : State} (h : SwapsHash s) :
    s.swapTables = (s.swapFld Reg.MAC_GHASH_BITS Reg.MAC_GHASH_ACT_BITS).showGate := by
  simp [State.swapTables, State.when_, State.keepGate_of_disabled h.gate, h.fwd, h.gates, h.shaper, h.meter, h.steer, h.hash]

/-- The swap has fired on time: it is not armed any more, the count stands at it, and it is shown as done. -/
def State.swapFired (s : State) (t : Nat) : State :=
  (((s.disarm .swap).wr Reg.CAD_COUNT_COUNT 0 t).wr Reg.CAD_SWAP_STATUS_ARMED 0 0).wr Reg.CAD_SWAP_STATUS_DONE 0 1

theorem State.rd_swapFired (s : State) (t : Nat) (f : Fld) (i : Nat := 0)
    (hf : ∀ g ∈ [Reg.CAD_COUNT_COUNT, Reg.CAD_SWAP_STATUS_ARMED, Reg.CAD_SWAP_STATUS_DONE], f.key ≠ g.key := by decide) :
    (s.swapFired t).rd f i = s.rd f i :=
  ((((CadKeeps.refl (s.disarm .swap)).wr _ _ _).wr _ _ _).wr _ _ _).rd f i hf

theorem SwapsHash.swapFired {s : State} (h : SwapsHash s) (t : Nat) : SwapsHash (s.swapFired t) where
  gate := (s.rd_swapFired t _).trans h.gate
  fwd := (s.rd_swapFired t _).trans h.fwd
  gates := (s.rd_swapFired t _).trans h.gates
  shaper := (s.rd_swapFired t _).trans h.shaper
  meter := (s.rd_swapFired t _).trans h.meter
  steer := (s.rd_swapFired t _).trans h.steer
  hash := (s.rd_swapFired t _).trans h.hash

theorem exec_tableSwap {s : State} {t : Nat} (moves : s.board.res.moves = []) (mask : SwapsHash s)
    (fires : s.fire .swap = ((s.disarm .swap).wr Reg.CAD_COUNT_COUNT 0 t, true, false)) :
    exec .tableSwap s = .next ((s.swapFired t).swapFld Reg.MAC_GHASH_BITS Reg.MAC_GHASH_ACT_BITS).showGate := by
  have idle : ((s.swapFired t).swapFld Reg.MAC_GHASH_BITS Reg.MAC_GHASH_ACT_BITS).showGate.board.res.moves = [] :=
    (State.showGate_keeps _).moves.trans ((State.swapFld_keeps _ _ _).moves.trans moves)
  show execTableSwap s = _
  simp only [execTableSwap, fires, if_true, State.when_, Bool.false_eq_true, if_false]
  exact congrArg Host.Outcome.next ((congrArg State.settleMoves (mask.swapFired t).swapTables).trans (State.settleMoves_of_no_moves idle))

theorem does_tableSwap {s : State} {t : Nat} (moves : s.board.res.moves = []) (mask : SwapsHash s)
    (armed : s.armed = [{ kind := .swap, at_ := t }]) (due : s.now ≤ t) (ht : t < 2 ^ 64) (run : s.rd Reg.CAD_STATUS_STATE 0 ≠ 4)
    (awake : s.resting = false)
    (fits : ∀ i, s.rd Reg.MAC_GHASH_BITS i < 2 ^ Reg.MAC_GHASH_BITS.w ∧ s.rd Reg.MAC_GHASH_ACT_BITS i < 2 ^ Reg.MAC_GHASH_ACT_BITS.w) :
    Does .tableSwap s fun u => u.armed = [] ∧ u.now = t ∧ u.rd Reg.CAD_SWAP_STATUS_DONE 0 = 1 ∧ u.rd Reg.CAD_SWAP_STATUS_ARMED 0 = 0 ∧
      ∀ i, u.rd Reg.MAC_GHASH_ACT_BITS i = s.rd Reg.MAC_GHASH_BITS i ∧ u.rd Reg.MAC_GHASH_BITS i = s.rd Reg.MAC_GHASH_ACT_BITS i := by
  have fires := State.fire_of_due (k := .swap) (t := t) (by simp [State.armedAt, armed]) run (by simp [State.isNext, armed]) awake due
  have crossed := State.rd_swapFld (s := s.swapFired t) (a := Reg.MAC_GHASH_BITS) (b := Reg.MAC_GHASH_ACT_BITS) (by decide) rfl (fun _ => rfl)
    fun i => by rw [s.rd_swapFired t Reg.MAC_GHASH_BITS i, s.rd_swapFired t Reg.MAC_GHASH_ACT_BITS i]; exact fits i
  have exchange := (s.swapFired t).swapFld_keeps Reg.MAC_GHASH_BITS Reg.MAC_GHASH_ACT_BITS
  have shown := State.showGate_keeps ((s.swapFired t).swapFld Reg.MAC_GHASH_BITS Reg.MAC_GHASH_ACT_BITS)
  refine ⟨_, exec_tableSwap moves mask fires, ?_, ?_, ?_, ?_, fun i => ⟨?_, ?_⟩⟩
  · rw [shown.armed, exchange.armed]
    simp [State.swapFired, State.disarm, armed]
  · rw [shown.now, exchange.now, State.swapFired, State.now_wr_of_key _ _ _ _ (by decide), State.now_wr_of_key _ _ _ _ (by decide),
      State.now_wr_count]
    exact Nat.mod_eq_of_lt ht
  · rw [shown.rd Reg.CAD_SWAP_STATUS_DONE, exchange.rd Reg.CAD_SWAP_STATUS_DONE, State.swapFired, State.rd_wr_self]
    rfl
  · rw [shown.rd Reg.CAD_SWAP_STATUS_ARMED, exchange.rd Reg.CAD_SWAP_STATUS_ARMED, State.swapFired, State.rd_wr_of_key _ _ _ _ _ _ (by decide),
      State.rd_wr_self]
    rfl
  · rw [shown.rd Reg.MAC_GHASH_ACT_BITS i, (crossed i).2, s.rd_swapFired t Reg.MAC_GHASH_BITS i]
  · rw [shown.rd Reg.MAC_GHASH_BITS i, (crossed i).1, s.rd_swapFired t Reg.MAC_GHASH_ACT_BITS i]

end Sys2Proof.Machine

open Sys2Proof Sys2Proof.Machine Sys2Proof.Safety

/-- Settles O35: with no peloton, no gate list and no cluster move about, a change of state and an election write only the fields of
their own lists; the swap fires at its count and exchanges the two group hashes index by index. -/
theorem cadenceUnit : Obligations.CadenceUnit := by
  intro s v t p time frac valid st g a pels gate moves
  refine ⟨fun armed => ⟨does_cadEnableWrite_of_enabling moves, does_cadEnableWrite_of_disabling moves armed gate, does_cadLoadGo_of_unsynced moves,
    does_cadLoadGo_of_synced, does_cadSwapAtWrite armed, does_ppsOutPulse armed, does_referenceLost moves,
    does_holdoverErrorLimit moves pels armed, does_cadenceClockFault moves pels⟩, fun armed due ht run awake fwd gates shaper meter steer hash =>
      does_tableSwap moves ⟨gate, fwd, gates, shaper, meter, steer, hash⟩ armed due ht run awake,
    fun src => ⟨does_ppsEdge src frac time, does_ptpMessage src valid time frac⟩, ⟨_, rfl, rfl, rfl⟩⟩
end

section
/-! Cadence messages and sync intervals (R34 to R37, R42, R164): what a received message does, and what the end of an interval and the
loss of the upstream make of the cadence state. -/

namespace Sys2Proof.Machine

open Sys2Proof Sys2Proof.Safety

variable {s : State} {lane : Nat} {m : SyncMsg}

/-! Messages that are discarded (R34, R36). -/

theorem State.writes_badSync (s : State) : Writes
    [(Reg.CAD_SYNC_DISCARD_CRC, 0, satAdd Reg.CAD_SYNC_DISCARD_CRC.w (s.rd Reg.CAD_SYNC_DISCARD_CRC 0) 1), (Reg.CAD_EVT_STATUS_SYNC_CRC_ERR, 0, 1)]
    s s.badSync := by
  obtain ⟨value, kept, -⟩ := s.writes_count Reg.CAD_SYNC_DISCARD_CRC 0 1
  refine ⟨?_, ?_, rfl⟩
  · simp only [List.forall_mem_cons]
    exact ⟨(State.rd_wr_of_key _ _ _ _ _ _ (by decide)).trans (value _ (List.mem_singleton_self _)), State.rd_wr_self .., by simp⟩
  · exact ((SameRegsBut.refl _ s).wr _ _ _ (by simp)).wr _ _ _ (by simp)

theorem does_syncReq_of_bad_crc (bad : m.crcOk = false) (f2 wait f3 : Nat) : Does (.syncReq lane m f2 wait f3) s
    (Writes [(Reg.CAD_SYNC_DISCARD_CRC, 0, satAdd Reg.CAD_SYNC_DISCARD_CRC.w (s.rd Reg.CAD_SYNC_DISCARD_CRC 0) 1),
      (Reg.CAD_EVT_STATUS_SYNC_CRC_ERR, 0, 1)] s) :=
  ⟨s.badSync, congrArg Host.Outcome.next (if_pos (by simp [bad])), s.writes_badSync⟩

theorem does_syncResp_of_no_request (good : m.crcOk = true) (on : s.syncOn lane = true) (unasked : s.board.cad.req = none) (f4 hops : Nat)
    (switched : Bool) : Does (.syncResp lane m f4 hops switched) s
      (Writes [(Reg.CAD_SYNC_DISCARD_SEQ, 0, satAdd Reg.CAD_SYNC_DISCARD_SEQ.w (s.rd Reg.CAD_SYNC_DISCARD_SEQ 0) 1)] s) := by
  refine ⟨s.count Reg.CAD_SYNC_DISCARD_SEQ, ?_, s.writes_count Reg.CAD_SYNC_DISCARD_SEQ 0 1⟩
  show Host.Outcome.next (s.rxSyncResp lane m f4 hops switched) = _
  simp [State.rxSyncResp, good, on, unasked]

/-! Answers to a SYNC_REQ (R34, R164). -/

/-- What answers a SYNC_REQ: its SEQ and T1, and this module's two stamps. -/
def State.syncAnswer (s : State) (m : SyncMsg) (f2 wait f3 : Nat) : SyncMsg :=
  { s.syncBase with seq := m.seq, t1 := m.t1, t1f := m.t1f, t2 := s.now, t2f := f2 % 256, t3 := s.now + wait, t3f := f3 % 256 }

theorem State.sendSync_of_open (up : s.portUp lane = true) (free : ∀ e ∈ (s.farOf lane).pausedTo, e.1 ≠ 16) (n : Nat) :
    s.sendSync lane n m = s.emit (.sync lane n m) := by
  have clear : (s.farOf lane).pausedTo.any (fun e => e.1 == 16) = false := by simpa using free
  simp [State.sendSync, up, clear]

theorem State.rxSyncReq_answers (good : m.crcOk = true) (on : s.syncOn lane = true) (up : s.portUp lane = true)
    (free : ∀ e ∈ (s.farOf lane).pausedTo, e.1 ≠ 16) (f2 wait f3 : Nat) :
    s.rxSyncReq lane m f2 wait f3 = s.emit (.sync lane 2 (s.syncAnswer m f2 wait f3)) := by
  simp only [State.rxSyncReq, good, on, Bool.not_true, Bool.false_eq_true, if_false, State.sendSync_of_open up free, State.syncAnswer]

theorem State.on_wr_of_key (s : State) (f g : Fld) (i j v : Nat) (h : g.key ≠ f.key) : (s.wr f i v).on g j = s.on g j := by
  rw [State.on_eq, State.on_eq, State.rd_wr_of_key _ _ _ _ _ _ h]

/-- Counting a packet changes nothing of what a message of this module carries. -/
theorem State.syncAnswer_count (s : State) (m : SyncMsg) (f2 wait f3 : Nat) :
    (s.count Reg.TRN_RX_PKTS_COUNT).syncAnswer m f2 wait f3 = s.syncAnswer m f2 wait f3 := by
  simp (disch := decide) only [State.syncAnswer, State.syncBase, State.syncFlags, State.ownRef, State.fwId, State.estNow, State.now,
    State.count_eq, State.wr_board, State.rd_wr_of_key, State.on_wr_of_key]

/-- A SYNC_REQ through a switch is counted, and answered like one from a lane. -/
theorem does_rxCadencePacket_of_syncReq (good : m.crcOk = true) (on : s.syncOn lane = true) (up : s.portUp lane = true)
    (free : ∀ e ∈ (s.farOf lane).pausedTo, e.1 ≠ 16) {pk : Pkt} {rx : Rx} (enabled : s.rd Reg.TRN_CTRL_ENABLE 0 = 1)
    (ip : s.localIp rx.ip = true) (port : rx.dport = s.rd Reg.TRN_UDP_DPORT 0) (csum : rx.csumOk = true) (ver : pk.ver = 1)
    (dst : pk.dstMod = s.rd Reg.TRN_MODULE_ID 0) (hops f2 wait f3 : Nat) :
    Does (.rxCadencePacket pk rx lane 1 hops m f2 wait f3) s fun u => u.out = s.out ++ [.sync lane 2 (s.syncAnswer m f2 wait f3)] ∧
      u.rd Reg.TRN_RX_PKTS_COUNT 0 = satAdd 64 (s.rd Reg.TRN_RX_PKTS_COUNT 0) 1 := by
  have other (f : Fld) (i : Nat) (hf : f.key ≠ Reg.TRN_RX_PKTS_COUNT.key := by decide) :
      (s.count Reg.TRN_RX_PKTS_COUNT).rd f i = s.rd f i := State.rd_wr_of_key _ _ _ _ _ _ hf
  have on' : (s.count Reg.TRN_RX_PKTS_COUNT).syncOn lane = true := by
    rwa [State.syncOn, State.on, other Reg.CAD_CTRL_ENABLE, other Reg.CAD_CTRL_SYNC_EN]
  have up' : (s.count Reg.TRN_RX_PKTS_COUNT).portUp lane = true := by
    rwa [State.portUp, State.on, State.on, other Reg.MAC_PORT_CFG_ENABLE, other Reg.MAC_PORT_CFG_WIDTH, other Reg.MAC_PORT_STATUS_LINK_UP]
  have answers := State.rxSyncReq_answers good on' up' free f2 wait f3
  rw [State.syncAnswer_count] at answers
  refine ⟨(s.count Reg.TRN_RX_PKTS_COUNT).emit (.sync lane 2 (s.syncAnswer m f2 wait f3)), ?_, rfl,
    (State.rd_wr_self ..).trans (Nat.mod_eq_of_lt (satAdd_lt ..))⟩
  show execRxCadencePacket pk rx lane 1 hops m f2 wait f3 s = _
  simp only [execRxCadencePacket, State.on, enabled, ip, ← port, csum, ver, ← dst, beq_self_eq_true, bne_self_eq_false, Bool.not_true, Bool.or_self,
    Bool.false_eq_true, if_false, if_true, answers]

/-! The answer that was asked for (R36, R42). -/

/-- In LOCKED a small offset is slewed and changes no state. -/
theorem State.compare_of_locked {off : Int} {tracks : Bool} (locked : s.rd Reg.CAD_STATUS_STATE 0 = 2)
    (small : off.natAbs ≤ (ctUnits (s.rd Reg.CAD_STEP_THRESH_CT 0)).natAbs) : s.compare off tracks = (s.slewBy off).showEst := by
  have same : (s.slewBy off).rd Reg.CAD_STATUS_STATE 0 = 2 := locked
  simp [State.compare, locked, if_pos small, State.setCad_of_eq same]

/-- The answer that was asked for is taken: it is noted, and the distance from the root is shown. -/
def State.answerTaken (s : State) (m : SyncMsg) (hops : Nat) : State :=
  (s.modCad fun c => { c with req := none, answered := true, missed := 0, upErr := m.estErr, upHop := hops, upRoot := m.hopEq == 0 }).wr
    Reg.CAD_STATUS_HOP_EQ 0 (min 255 (m.hopEq + hops))

theorem State.rd_answerTaken (s : State) (m : SyncMsg) (hops : Nat) (f : Fld) (hf : f.key ≠ Reg.CAD_STATUS_HOP_EQ.key := by decide) :
    (s.answerTaken m hops).rd f 0 = s.rd f 0 :=
  State.rd_wr_of_key _ _ _ _ _ _ hf

theorem does_syncResp_of_request (good : m.crcOk = true) (on : s.syncOn lane = true) {r : Nat × Nat × Nat} (asked : s.board.cad.req = some r)
    (seq : r.1 = m.seq) (upstream : lane = s.rd Reg.CAD_STATUS_UPSTREAM 0) (locked : s.rd Reg.CAD_STATUS_STATE 0 = 2) (f4 hops : Nat)
    (small : (exchangeOf m s.now f4 (s.rd Reg.CAD_PORT_ASYM_PS lane)).1.natAbs ≤ (ctUnits (s.rd Reg.CAD_STEP_THRESH_CT 0)).natAbs) :
    Does (.syncResp lane m f4 hops false) s fun u =>
      u.board.cad.slew = -(exchangeOf m s.now f4 (s.rd Reg.CAD_PORT_ASYM_PS lane)).1 ∧ u.board.cad.answered = true ∧ u.board.cad.missed = 0 ∧
        u.rd Reg.CAD_STATUS_HOP_EQ 0 = min 255 (m.hopEq + hops) ∧ u.rd Reg.CAD_STATUS_STATE 0 = 2 ∧ u.now = s.now := by
  generalize hoff : (exchangeOf m s.now f4 (s.rd Reg.CAD_PORT_ASYM_PS lane)).1 = off at small ⊢
  have other (f : Fld) (hf : f.key ≠ Reg.CAD_STATUS_HOP_EQ.key := by decide) := s.rd_answerTaken m hops f hf
  have compared : (s.answerTaken m hops).compare off false = ((s.answerTaken m hops).slewBy off).showEst :=
    State.compare_of_locked ((other _).trans locked) (by rwa [other Reg.CAD_STEP_THRESH_CT])
  have runs : exec (.syncResp lane m f4 hops false) s = .next ((s.answerTaken m hops).slewBy off).showEst.showEst := by
    rw [← compared, ← hoff]
    show Host.Outcome.next (s.rxSyncResp lane m f4 hops false) = _
    simp only [State.rxSyncResp, good, on, asked, seq, ← upstream, Option.all_some, bne_self_eq_false, ne_eq, not_true_eq_false,
      Bool.not_true, Bool.not_false, Bool.false_eq_true, or_self, if_false, if_true]
    rfl
  have shown : CadKeeps [Reg.CAD_STATUS_EST_ERR] ((s.answerTaken m hops).slewBy off) ((s.answerTaken m hops).slewBy off).showEst.showEst :=
    (CadKeeps.refl _).showEst.showEst
  refine ⟨_, runs, rfl, rfl, rfl, ?_, (shown.rd Reg.CAD_STATUS_STATE).trans ((other _).trans locked),
    shown.now.trans (other Reg.CAD_COUNT_COUNT)⟩
  refine (shown.rd Reg.CAD_STATUS_HOP_EQ).trans ((State.rd_wr_self ..).trans (Nat.mod_eq_of_lt ?_))
  show _ < 2 ^ 8
  omega

/-! ANNOUNCE (R32, R34, R39). -/

/-- The state once an ANNOUNCE is noted for its lane. -/
def State.noted (s : State) (lane : Nat) (m : SyncMsg) (hops : Nat) : State :=
  s.modCad fun c =>
    let h : Heard := { root := m.rootId, ref := bits m.flags 3 2, prio := m.rootPrio, hopEq := m.hopEq, locked := bit m.flags 0, hop := hops }
    { c with heard := Tbl.put lane h c.heard }

/-- What the election after an ANNOUNCE leads to: an upstream where there is none, and the root's reference where the lane is the upstream. -/
def State.followed (s : State) (lane : Nat) (m : SyncMsg) : State :=
  let t := if s.on Reg.CAD_STATUS_ROOT ∨ s.rd Reg.CAD_STATUS_UPSTREAM < 36 then s
    else s.setUpstream (s.pickUpstream (s.rd Reg.CAD_STATUS_ROOT_ID) (s.rd Reg.CAD_STATUS_HOP_EQ) none)
  if t.rd Reg.CAD_STATUS_UPSTREAM = lane then t.modCad (fun c => { c with ref := bits m.flags 3 2, prio := m.rootPrio }) else t

theorem State.followed_keeps (s : State) (lane : Nat) (m : SyncMsg) : CadKeeps electFields s (s.followed lane m) := by
  have upstream := CadKeeps.ite (s.on Reg.CAD_STATUS_ROOT ∨ s.rd Reg.CAD_STATUS_UPSTREAM < 36) (CadKeeps.refl (l := electFields) s)
    (s.setUpstream_keeps (s.pickUpstream (s.rd Reg.CAD_STATUS_ROOT_ID) (s.rd Reg.CAD_STATUS_HOP_EQ) none))
  exact .ite _ (upstream.of_eq rfl rfl) upstream

theorem State.rxAnnounce_eq (good : m.crcOk = true) (on : s.syncOn lane = true) (hops : Nat) : s.rxAnnounce lane m hops =
    if ((s.noted lane m hops).elect.followed lane m).rd Reg.CAD_STATUS_STATE 0 = 0
    then ((s.noted lane m hops).elect.followed lane m).setCad 1 else (s.noted lane m hops).elect.followed lane m := by
  simp only [State.rxAnnounce, good, on, Bool.not_true, Bool.false_eq_true, if_false]
  rfl

theorem does_announce (good : m.crcOk = true) (on : s.syncOn lane = true) (moves : s.board.res.moves = []) (hops : Nat) :
    Does (.announce lane m hops) s fun u => u.board.cad.heard = (s.noted lane m hops).board.cad.heard ∧
      (s.rd Reg.CAD_STATUS_STATE 0 = 0 → u.rd Reg.CAD_STATUS_STATE 0 = 1) ∧ u.now = s.now := by
  have elected := (s.noted lane m hops).elect_keeps.trans (State.followed_keeps _ lane m)
  refine ⟨_, congrArg Host.Outcome.next (State.rxAnnounce_eq good on hops), ?_⟩
  generalize (s.noted lane m hops).elect.followed lane m = t at elected ⊢
  have state : t.rd Reg.CAD_STATUS_STATE 0 = s.rd Reg.CAD_STATUS_STATE 0 := elected.rd Reg.CAD_STATUS_STATE
  have idle : t.board.res.moves = [] := elected.moves.trans moves
  rw [state]
  split
  · have acquires := State.setCad_keeps idle 1
    exact ⟨acquires.heard.trans elected.heard, fun _ => State.rd_setCad_state idle (by decide), acquires.now.trans elected.now⟩
  · rename_i busy
    exact ⟨elected.heard, fun h => absurd h busy, elected.now⟩

/-! The end of an interval (R35, R39, R481). -/

/-- The count stands at the end of the interval, whose answer is noted and whose part of the correction is slewed. -/
def State.intervalEnded (s : State) (t : Nat) : State :=
  ((s.reach t).setMark 4 t).modCad fun c => { c with
    interval := c.interval + 1
    missed := if ((s.reach t).setMark 4 t).rd Reg.CAD_STATUS_UPSTREAM < 36 then (if c.answered then 0 else c.missed + 1) else 0
    answered := false
    slew := slewLeft c.slew s.syncCt }

/-- A root without a reference locks. -/
theorem State.freeRoot_locks (root : s.rd Reg.CAD_STATUS_ROOT 0 = 1) (src : s.rd Reg.CAD_CTRL_REF_SRC 0 = 0)
    (acquires : s.rd Reg.CAD_STATUS_STATE 0 = 1) : s.freeRoot = s.setCad 2 := by
  simp [State.freeRoot, root, src, acquires]

theorem State.askUpstream_of_none (h : 36 ≤ s.rd Reg.CAD_STATUS_UPSTREAM 0) : s.askUpstream = s := by
  simp [State.askUpstream, h]

/-- What the end of an interval writes beside the count and the state. -/
def intervalFields : List Fld := Reg.CAD_STATUS_EST_ERR :: electFields

/-- An interval of a root without a reference that acquires ends with the root LOCKED; the rest is messages, an election and what is shown. -/
theorem exec_syncIntervalEnd {t : Nat} (moves : s.board.res.moves = []) (armed : s.armed = []) (enabled : s.rd Reg.CAD_CTRL_ENABLE 0 = 1)
    (ht : t = s.markOf 4 + s.syncCt) (noUp : 36 ≤ s.rd Reg.CAD_STATUS_UPSTREAM 0) (settled : s.board.cad.deferred = [])
    (root : s.rd Reg.CAD_STATUS_ROOT 0 = 1) (src : s.rd Reg.CAD_CTRL_REF_SRC 0 = 0) (acquires : s.rd Reg.CAD_STATUS_STATE 0 = 1) :
    ∃ u, exec .syncIntervalEnd s = .next u ∧ CadKeeps intervalFields ((s.intervalEnded t).setCad 2) u := by
  have reached := s.reach_keeps t
  have locked := State.setCad_keeps (s := s.intervalEnded t) (reached.moves.trans moves) 2
  have same (f : Fld) (hf : ∀ g ∈ [Reg.CAD_COUNT_COUNT], f.key ≠ g.key := by decide) : (s.intervalEnded t).rd f 0 = s.rd f 0 := reached.rd f 0 hf
  have locks : (s.intervalEnded t).freeRoot = (s.intervalEnded t).setCad 2 :=
    State.freeRoot_locks ((same _).trans root) ((same _).trans src) ((same _).trans acquires)
  have silent : ((s.intervalEnded t).setCad 2).askUpstream = (s.intervalEnded t).setCad 2 :=
    State.askUpstream_of_none ((noUp.trans_eq (same _).symm).trans_eq (locked.rd _).symm)
  generalize hv : (if ((s.intervalEnded t).setCad 2).board.cad.interval % 8 = 0 then ((s.intervalEnded t).setCad 2).announceAll
    else (s.intervalEnded t).setCad 2) = v
  have announced : CadKeeps intervalFields ((s.intervalEnded t).setCad 2) v := hv ▸ .ite _ (CadKeeps.refl _).announceAll (.refl _)
  have written : v.applyDeferred = v :=
    State.applyDeferred_of_nil (announced.deferred.trans (locked.deferred.trans ((congrArg (·.board.cad.deferred) reached.frame :).trans settled)))
  refine ⟨v.elect.showEst, ?_, (announced.trans (v.elect_keeps.mono fun _ => List.mem_cons_of_mem _)).showEst⟩
  show execSyncIntervalEnd s = _
  have goes : ¬((!s.on Reg.CAD_CTRL_ENABLE) = true ∨ (!s.mayReach t) = true) := by simp [enabled, State.mayReach_of_not_armed armed]
  simp only [execSyncIntervalEnd, ← ht, if_neg goes]
  rw [← written, ← hv, ← silent, ← locks]
  rfl

theorem does_syncIntervalEnd {t : Nat} (moves : s.board.res.moves = []) (armed : s.armed = []) (enabled : s.rd Reg.CAD_CTRL_ENABLE 0 = 1)
    (ht : t = s.markOf 4 + s.syncCt) (ahead : s.now < t) (bound : t < 2 ^ 64) (noUp : 36 ≤ s.rd Reg.CAD_STATUS_UPSTREAM 0)
    (settled : s.board.cad.deferred = []) (root : s.rd Reg.CAD_STATUS_ROOT 0 = 1) (src : s.rd Reg.CAD_CTRL_REF_SRC 0 = 0)
    (acquires : s.rd Reg.CAD_STATUS_STATE 0 = 1) : Does .syncIntervalEnd s fun u => u.now = t ∧ u.markOf 4 = t ∧
      u.board.cad.interval = s.board.cad.interval + 1 ∧ u.rd Reg.CAD_STATUS_STATE 0 = 2 := by
  obtain ⟨u, runs, rest⟩ := exec_syncIntervalEnd moves armed enabled ht noUp settled root src acquires
  have reached := s.reach_keeps t
  have idle : (s.intervalEnded t).board.res.moves = [] := reached.moves.trans moves
  have locked := State.setCad_keeps idle 2
  refine ⟨u, runs, rest.now.trans (locked.now.trans (State.now_reach ahead.le bound)), ?_, ?_, ?_⟩
  · rw [State.markOf, rest.marks, locked.marks]
    exact Tbl.get_set_self 0 4 t _
  · rw [rest.interval, locked.interval]
    exact congrArg (· + 1) reached.interval
  · exact (rest.rd Reg.CAD_STATUS_STATE).trans (State.rd_setCad_state idle (by decide))

/-! The loss of the upstream (R37). -/

/-- The loss is shown, the unit holds over, and what was heard of the upstream is forgotten. -/
def State.upstreamGone (s : State) : State :=
  ((s.wr Reg.CAD_EVT_STATUS_UPSTREAM_LOST 0 1).setCad 3).modCad fun c =>
    { c with heard := c.heard.filter fun e => e.1 != s.rd Reg.CAD_STATUS_UPSTREAM }

/-- Where no other module is heard, the upstream of a LOCKED module is given up for none. -/
theorem exec_upstreamLost (moves : s.board.res.moves = []) (enabled : s.rd Reg.CAD_CTRL_ENABLE 0 = 1)
    (up : s.rd Reg.CAD_STATUS_UPSTREAM 0 < 36) (missed : 3 ≤ s.board.cad.missed) (silent : s.board.cad.heard = [])
    (locked : s.rd Reg.CAD_STATUS_STATE 0 = 2) : exec .upstreamLost s = .next (s.upstreamGone.setUpstream none) := by
  have held := State.setCad_keeps (s := s.wr Reg.CAD_EVT_STATUS_UPSTREAM_LOST 0 1) moves 3
  have empty : s.upstreamGone.board.cad.heard = [] := by
    show ((s.wr Reg.CAD_EVT_STATUS_UPSTREAM_LOST 0 1).setCad 3).board.cad.heard.filter _ = []
    rw [held.heard, State.wr_board, silent, List.filter_nil]
  have goes : ¬((!s.on Reg.CAD_CTRL_ENABLE) = true ∨ 36 ≤ s.rd Reg.CAD_STATUS_UPSTREAM ∨ s.board.cad.missed < 3) := by
    simp [enabled, up, missed]
  have holds (t : State) : t.when_ (s.rd Reg.CAD_STATUS_STATE == 2) (fun t => t.setCad 3) = t.setCad 3 := if_pos (by simp [locked])
  rw [← State.pickUpstream_of_not_heard empty (s.upstreamGone.rd Reg.CAD_STATUS_ROOT_ID) (s.upstreamGone.rd Reg.CAD_STATUS_HOP_EQ)
    (some (s.rd Reg.CAD_STATUS_UPSTREAM))]
  show execUpstreamLost s = _
  simp only [execUpstreamLost, if_neg goes, holds]
  rfl

theorem does_upstreamLost (moves : s.board.res.moves = []) (enabled : s.rd Reg.CAD_CTRL_ENABLE 0 = 1)
    (up : s.rd Reg.CAD_STATUS_UPSTREAM 0 < 36) (missed : 3 ≤ s.board.cad.missed) (silent : s.board.cad.heard = [])
    (locked : s.rd Reg.CAD_STATUS_STATE 0 = 2) : Does .upstreamLost s fun u => u.rd Reg.CAD_EVT_STATUS_UPSTREAM_LOST 0 = 1 ∧
      u.rd Reg.CAD_STATUS_STATE 0 = 3 ∧ u.rd Reg.CAD_STATUS_UPSTREAM 0 = 0xFF ∧ u.now = s.now := by
  have held := State.setCad_keeps (s := s.wr Reg.CAD_EVT_STATUS_UPSTREAM_LOST 0 1) moves 3
  have dropped := s.upstreamGone.setUpstream_keeps none
  refine ⟨_, exec_upstreamLost moves enabled up missed silent locked, ?_, ?_, State.rd_setUpstream_none _, ?_⟩
  · exact (dropped.rd Reg.CAD_EVT_STATUS_UPSTREAM_LOST).trans ((held.rd Reg.CAD_EVT_STATUS_UPSTREAM_LOST).trans (State.rd_wr_self ..))
  · exact (dropped.rd Reg.CAD_STATUS_STATE).trans (State.rd_setCad_state (s := s.wr _ 0 1) moves (by decide))
  · exact dropped.now.trans (held.now.trans (State.now_wr_of_key _ _ _ _ (by decide)))

end Sys2Proof.Machine

open Sys2Proof Sys2Proof.Machine Sys2Proof.Safety

/-- Settles O36: each message has its own case of the receiving function; an ANNOUNCE, the end of an interval and the loss of the
upstream are changes of state and elections, which write only the fields of their own lists. -/
theorem cadenceMessages : Obligations.CadenceMessages := by
  intro s lane f2 wait f3 f4 hops t ref up m pk rx r answer off calm
  refine ⟨fun bad => does_syncReq_of_bad_crc bad f2 wait f3, fun good on => ⟨fun open_ free => ⟨?_, ?_⟩, ?_, ?_, ?_⟩, ?_⟩
  · exact ⟨_, congrArg Host.Outcome.next (State.rxSyncReq_answers good on open_ free f2 wait f3), rfl⟩
  · exact fun enabled ip port csum ver dst => does_rxCadencePacket_of_syncReq good on open_ free enabled ip port csum ver dst hops f2 wait f3
  · exact fun asked seq upstream locked small => does_syncResp_of_request good on asked seq upstream locked f4 hops small
  · exact fun unasked => does_syncResp_of_no_request good on unasked f4 hops false
  · rintro ⟨-, -, -, moves⟩ rfl
    exact does_announce good on moves hops
  · rintro ⟨armed, -, -, moves⟩ enabled rfl
    exact ⟨fun ht ahead bound noUp settled root src acquires =>
      does_syncIntervalEnd moves armed enabled ht ahead bound noUp settled root src acquires, does_upstreamLost moves enabled⟩
end

section
/-! Bytes after a store (R1), and the frames of the near-link, ring and mailbox operations: which part of the state each leaves, and
which fields it may write. -/

namespace Sys2Proof.Machine

open Sys2Proof Sys2Proof.Safety

/-! Bytes. -/

@[simp] theorem length_leBytes (n v : Nat) : (leBytes n v).length = n := by
  induction n generalizing v with
  | zero => rfl
  | succ n ih => simp [leBytes, ih]

theorem leNat_leBytes (n v : Nat) : leNat (leBytes n v) = v % 256 ^ n := by
  induction n generalizing v with
  | zero => simp [leBytes, leNat, Nat.mod_one]
  | succ n ih => simp [leBytes, leNat, ih, Nat.pow_succ', Nat.mod_mul]

theorem leNat_lt (l : List Byte) : leNat l < 256 ^ l.length := by
  induction l with
  | nil => simp [leNat]
  | cons b l ih =>
    have := b.isLt
    simp only [leNat, List.length_cons, Nat.pow_succ]
    omega

theorem leAt_eq_leNat (e : List Byte) (o n : Nat) : leAt e o n = leNat ((e.drop o).take n) := by
  unfold leAt
  induction (e.drop o).take n with
  | nil => rfl
  | cons b l ih => rw [List.foldr_cons, ih, leNat]

theorem leAt_lt (e : List Byte) (o n : Nat) : leAt e o n < 256 ^ n := by
  rw [leAt_eq_leNat]
  exact (leNat_lt _).trans_le (Nat.pow_le_pow_right (by decide) (List.length_take_le ..))

@[simp] theorem Mem.length_bytes (m : Mem) (a n : Nat) : (Mem.bytes m a n).length = n := by
  induction n generalizing a with
  | zero => rfl
  | succ n ih => simp [Mem.bytes, ih]

theorem Mem.getElem_bytes (m : Mem) (a n i : Nat) (h : i < (Mem.bytes m a n).length) : (Mem.bytes m a n)[i] = Mem.rd m (a + i) := by
  induction n generalizing a i with
  | zero => simp [Mem.bytes] at h
  | succ n ih =>
    cases i with
    | zero => rfl
    | succ i => simp only [Mem.bytes, List.getElem_cons_succ, ih, Nat.add_assoc, Nat.add_comm 1 i]

/-- What was stored is read back. -/
theorem Mem.bytes_store_self (m : Mem) (a : Nat) (l : List Byte) : Mem.bytes (Mem.store m a l) a l.length = l := by
  refine List.ext_getElem (by simp) fun i _ hi => ?_
  rw [Mem.getElem_bytes, Mem.rd_store_of_mem _ _ _ _ hi]

/-- A store leaves the bytes outside its range. -/
theorem Mem.bytes_store_of_disjoint (m : Mem) (a b n : Nat) (l : List Byte) (h : b + n ≤ a ∨ a + l.length ≤ b) :
    Mem.bytes (Mem.store m a l) b n = Mem.bytes m b n := by
  refine List.ext_getElem (by simp) fun i hi _ => ?_
  rw [Mem.length_bytes] at hi
  rw [Mem.getElem_bytes, Mem.getElem_bytes, Mem.rd_store_of_lt _ _ _ _ (by omega)]

theorem Mem.nat_store_leBytes (m : Mem) (a n v : Nat) : Mem.nat (Mem.store m a (leBytes n v)) a n = v % 256 ^ n := by
  have back := Mem.bytes_store_self m a (leBytes n v)
  rw [length_leBytes] at back
  rw [Mem.nat, back, leNat_leBytes]

theorem Mem.nat_lt (m : Mem) (a n : Nat) : Mem.nat m a n < 256 ^ n := by
  simpa [Mem.nat] using leNat_lt (Mem.bytes m a n)

/-! Frames. -/

/-- The part `F` of the state stays, and every register reads as before but the fields of `l`. -/
structure Keeps {α : Type} (F : State → α) (l : List Fld) (s t : State) : Prop where
  frame : F t = F s
  regs : SameFieldsBut l s t

namespace Keeps

variable {α : Type} {F : State → α} {l m : List Fld} {s t u : State}

theorem refl (F : State → α) (l : List Fld) (s : State) : Keeps F l s s := ⟨rfl, .refl l s⟩

theorem trans (a : Keeps F l s t) (b : Keeps F l t u) : Keeps F l s u := ⟨b.frame.trans a.frame, a.regs.trans b.regs⟩

theorem ite (c : Prop) [Decidable c] (a : Keeps F l s t) (b : Keeps F l s u) : Keeps F l s (if c then t else u) := by
  split <;> assumption

theorem mono (h : Keeps F l s t) (hl : ∀ f ∈ l, f ∈ m) : Keeps F m s t := ⟨h.frame, fun f i hf => h.regs f i fun g hg => hf g (hl g hg)⟩

/-- A smaller part stays where a larger one does. -/
theorem part {β : Type} {F : State → State} (h : Keeps F l s t) (G : State → β) (hG : ∀ u, G (F u) = G u := by intro; rfl) :
    Keeps G l s t :=
  ⟨(hG t).symm.trans ((congrArg G h.frame).trans (hG s)), h.regs⟩

/-- An operation that touches no register and leaves the part. -/
theorem of_eq (h : Keeps F l s t) (hu : F u = F t := by rfl) (hr : u.regs = t.regs := by rfl) : Keeps F l s u :=
  h.trans ⟨hu, fun f i _ => State.rd_of_regs hr f i⟩

/-- A write of a field of the list. -/
theorem wr (h : Keeps F l s t) (f : Fld) (i v : Nat) (hf : f.key ∈ l.map Fld.key := by decide)
    (hF : ∀ u r, F { u with regs := r } = F u := by intros; rfl) : Keeps F l s (t.wr f i v) := by
  refine h.trans ⟨hF t _, fun g j hg => State.rd_wr_of_key t f g i j v fun hk => ?_⟩
  obtain ⟨x, hx, hxk⟩ := List.mem_map.1 hf
  exact hg x hx (hk.trans hxk.symm)

/-- A loop keeps what each of its steps keeps. -/
theorem foldl {β : Type} {f : State → β → State} (h : Keeps F l s t) (xs : List β)
    (hf : ∀ u, ∀ x ∈ xs, Keeps F l s u → Keeps F l s (f u x)) : Keeps F l s (xs.foldl f t) :=
  List.foldlRecOn xs f h fun u hu x hx => hf u x hx hu

theorem rd (h : Keeps F l s t) (f : Fld) (i : Nat) (hf : ∀ g ∈ l, f.key ≠ g.key := by decide) : t.rd f i = s.rd f i := h.regs f i hf

end Keeps

/-- The state but for its registers. -/
def State.noRegs (s : State) : State := { s with regs := [] }

/-- The state but for its registers, its near ports and what has left it. -/
def State.noLink (s : State) : State := { s with regs := [], near := [], out := [] }

/-- The state but for its registers, its admin queues and what has left it. -/
def State.noEvent (s : State) : State := { s with regs := [], adms := [], out := [] }

/-- What an event may write (R126, R131). -/
def eventFields : List Fld := [Reg.ADM_STATUS_EVENTS_HELD, Reg.ADM_EVENT_LOST_COUNT_COUNT, Reg.ADM_SLICE_STATUS_EVENT_LOST]

/-- What a violation writes (R97, R105). -/
def violationFields : List Fld :=
  [Reg.XLT_VIOL_COUNT_COUNT, Reg.XLT_VIOL_LOG0_TENANT, Reg.XLT_VIOL_LOG0_CONTEXT, Reg.XLT_VIOL_LOG0_KIND, Reg.XLT_VIOL_LOG0_CLUSTER,
    Reg.XLT_VIOL_LOG1_ADDR, Reg.XLT_VIOL_LOG0_VALID]

/-- Counting events writes the counters of the counter unit alone. -/
theorem State.pmc_keeps (s : State) (bank code : Nat) (ten : Option Nat) (n : Nat) : Keeps State.noRegs pmcFields s (s.pmc bank code ten n) := by
  refine .ite _ (.refl ..) (.foldl (.refl ..) _ fun u k _ hu => .ite _ hu ?_)
  exact .ite _ (hu.wr _ _ _) ((hu.wr _ _ _).wr _ _ _)

/-- An event changes the admin queue of its slot, three of its fields, and what leaves the block. -/
theorem State.event_keeps (s : State) (t code detail arg0 arg1 : Nat) :
    Keeps State.noEvent eventFields s (s.event t code detail arg0 arg1) := by
  have same := Keeps.refl State.noEvent eventFields s
  exact .ite _ same.of_eq (.ite _ (same.of_eq.wr _ _ _) ((same.of_eq.wr _ _ _).wr _ _ _))

theorem State.violation_keeps (s : State) (kind ten ctx cluster addr : Nat) :
    Keeps State.noRegs violationFields s (s.violation kind ten ctx cluster addr) := by
  have counted : Keeps State.noRegs violationFields s (s.inc Reg.XLT_VIOL_COUNT_COUNT) := (Keeps.refl ..).wr _ _ _
  exact .ite _ counted ((((((counted.wr _ _ _).wr _ _ _).wr _ _ _).wr _ _ _).wr _ _ _).wr _ _ _)

end Sys2Proof.Machine
end

section
/-! Sending on a near link (R60 to R62, R449), and what an accelerator's requests to GDDR7 do (R65, R66, R70, R72, R97, R486). -/

namespace Sys2Proof.Machine

open Sys2Proof Sys2Proof.Safety

/-! Sending. -/

theorem State.countFlit_keeps (s : State) (m : NearMsg) : Keeps State.noRegs pmcFields s (s.countFlit m) := by
  have flit := s.pmc_keeps 15 0x70 none 1
  exact .ite _ (flit.trans (State.pmc_keeps ..)) (.ite _ (flit.trans (State.pmc_keeps ..)) (.ite _ (flit.trans (State.pmc_keeps ..)) flit))

/-- What a port's link state becomes when a posted message or a completion goes out (R60, R62). -/
def Near.launched (n : Near) (m : NearMsg) (u : Option User) : Near :=
  { n with
    txSeq := (n.txSeq + 1) % 4096, replay := n.replay ++ [(n.txSeq, m, u)],
    crdP := if m.op = 5 ∨ m.op = 6 then n.crdP else n.crdP - 1,
    crdD := if m.op = 5 ∨ m.op = 6 then n.crdD else n.crdD - unitsOf m,
    unflushed := n.unflushed || m.op == 1 }

theorem State.launchP_eq (s : State) (p : Nat) (m : NearMsg) (u : Option User) :
    s.launchP p m u = ((s.setNear p ((s.nearOf p).launched m u)).countFlit m).emit (.near p m) := rfl

theorem State.launchP_keeps (s : State) (p : Nat) (m : NearMsg) (u : Option User) : Keeps State.noLink pmcFields s (s.launchP p m u) := by
  have placed : Keeps State.noLink pmcFields s (s.setNear p ((s.nearOf p).launched m u)) := (Keeps.refl ..).of_eq
  have counted := placed.trans ((State.countFlit_keeps _ m).part State.noLink)
  rw [State.launchP_eq]
  exact counted.of_eq

theorem State.near_launchP (s : State) (p : Nat) (m : NearMsg) (u : Option User) :
    (s.launchP p m u).near = (s.setNear p ((s.nearOf p).launched m u)).near :=
  (congrArg State.near (State.countFlit_keeps _ m).frame :)

theorem State.nearOf_launchP (s : State) (p : Nat) (m : NearMsg) (u : Option User) :
    (s.launchP p m u).nearOf p = (s.nearOf p).launched m u := by
  rw [State.nearOf, State.near_launchP]
  exact State.nearOf_setNear ..

theorem State.out_launchP (s : State) (p : Nat) (m : NearMsg) (u : Option User) : (s.launchP p m u).out = s.out ++ [Out.near p m] :=
  congrArg (· ++ [Out.near p m]) (congrArg State.out (State.countFlit_keeps _ m).frame :)

/-- A message that has room, behind no other, goes out at once. -/
theorem State.sendP_of_room {s : State} {p : Nat} {m : NearMsg} (u : Option User) (first : (s.nearOf p).waitP = [])
    (room : (s.nearOf p).roomP m = true) : s.sendP p m u = s.launchP p m u := by
  simp [State.sendP, first, room]

/-- A completion takes no credit (R62). -/
theorem Near.roomP_of_cpl {n : Near} {m : NearMsg} (cpl : isCpl m = true) (kept : n.replay.length < 512) (up : n.resting = false) :
    n.roomP m = true := by
  simp [Near.roomP, cpl, kept, up]

theorem Near.roomP_of_credit {n : Near} {m : NearMsg} (header : 1 ≤ n.crdP) (data : unitsOf m ≤ n.crdD) (kept : n.replay.length < 512)
    (up : n.resting = false) : n.roomP m = true := by
  simp [Near.roomP, header, data, kept, up]

/-! Answers (R66). -/

/-- The completion of a request with STATUS 0: a CPLD with data, else a CPL. -/
def cplOf (m : NearMsg) (data : List Byte) : NearMsg :=
  { op := if data = [] then 5 else 6, last := decide (data ≠ []), len := data.length, tag := m.tag, tenant := m.tenant, ctx := m.ctx, data := data }

theorem isCpl_cplOf (m : NearMsg) (data : List Byte) : isCpl (cplOf m data) = true := by
  by_cases h : data = [] <;> simp [isCpl, cplOf, h]

/-- A port sends completions at once: nothing waits on it, its replay buffer has room, and it does not rest. -/
structure Near.Open (n : Near) : Prop where
  first : n.waitP = []
  room : n.replay.length < 512
  up : n.resting = false

/-- The completion of a request that is no write goes out at once on an open port. -/
theorem State.cpl_of_open {s : State} {r : WinReq} (h : (s.nearOf r.p).Open) (asks : r.m.op ≠ 1) (data : List Byte) :
    s.cpl r 0 data = s.launchP r.p (cplOf r.m data) none := by
  rw [State.cpl, if_neg asks]
  exact State.sendP_of_room none h.first (Near.roomP_of_cpl (isCpl_cplOf r.m data) h.room h.up)

/-- The completion changes the port, the counters of the counter unit and what has left the block. -/
theorem State.cpl_does {s t : State} {r : WinReq} (before : Keeps State.noRegs pmcFields s t) (h : (s.nearOf r.p).Open) (asks : r.m.op ≠ 1)
    (data : List Byte) : Keeps State.noLink pmcFields s (t.cpl r 0 data) ∧ (t.cpl r 0 data).out = s.out ++ [Out.near r.p (cplOf r.m data)] := by
  have same : t.nearOf r.p = s.nearOf r.p := (congrArg (fun u : State => u.nearOf r.p) before.frame :)
  have out : t.out = s.out := (congrArg State.out before.frame :)
  rw [State.cpl_of_open (same ▸ h) asks, State.out_launchP, out]
  exact ⟨(before.part State.noLink).trans (State.launchP_keeps ..), rfl⟩

/-! The window (R5, R65, R70). -/

theorem pageOf_of_lt {off : Nat} (h : off < gddrEnd) : pageOf off = .gddr := if_pos h

/-- The offset of a message in the window of the endpoint on its path. -/
def State.winOff (s : State) (p : Nat) (m : NearMsg) : Nat := m.addr - (s.epOf (s.nearOf p).slot).windowBase

/-- May the endpoint on a path present the tenant of a message (R70)? -/
def State.presents (s : State) (p : Nat) (m : NearMsg) : Bool := s.permitted (s.epOf (s.nearOf p).slot).epid m.tenant

/-- A well-formed request to GDDR7 on a path that is up. -/
structure ToGddr (s : State) (p : Nat) (m : NearMsg) : Prop where
  up : s.pathIsUp p = true
  above : (s.epOf (s.nearOf p).slot).windowBase ≤ m.addr
  inside : s.winOff p m + reqSpan m ≤ gddrEnd
  formed : nearBad m = false

/-- A request to GDDR7 reaches the window at its offset; one of a tenant that the endpoint may not present is counted. -/
theorem ToGddr.nearReq {s : State} {p : Nat} {m : NearMsg} (h : ToGddr s p m) (k : State → WinReq → Bool → State) :
    s.nearReq p m k =
      k (if s.presents p m then s else s.count Reg.MAC_NEAR_DENIED_COUNT p) { p, m, off := s.winOff p m } (s.presents p m) := by
  obtain ⟨-, above, inside, formed⟩ := h
  have small : gddrEnd ≤ 2 ^ 36 := by decide
  unfold State.winOff at inside ⊢
  have off : (m.addr + 2 ^ 64 - (s.epOf (s.nearOf p).slot).windowBase) % 2 ^ 64 = m.addr - (s.epOf (s.nearOf p).slot).windowBase := by omega
  have bounds : ¬(m.addr < (s.epOf (s.nearOf p).slot).windowBase ∨
      (s.epOf (s.nearOf p).slot).windowBase + 2 ^ 36 < m.addr + reqSpan m) := by omega
  simp only [State.nearReq, off, formed, if_neg bounds]
  rfl

theorem reqSpan_pos (m : NearMsg) : 0 < reqSpan m := by
  unfold reqSpan
  split <;> omega

theorem ToGddr.page {s : State} {p : Nat} {m : NearMsg} (h : ToGddr s p m) : pageOf (s.winOff p m) = .gddr :=
  pageOf_of_lt (by have := h.inside; have := reqSpan_pos m; omega)

theorem State.winAccess_of_gddr {s : State} {r : WinReq} (h : pageOf r.off = .gddr) :
    s.winAccess r true = if r.m.op = 1 then s.gddrWrite r (nearBytes r.m) else s.gddrRead r := by
  rw [State.winAccess, h]
  rfl

theorem State.winAccess_of_denied {s : State} {r : WinReq} (h : pageOf r.off = .gddr) : s.winAccess r false = s.denyExtent r := by
  rw [State.winAccess, h]
  rfl

theorem State.winAtomic_of_gddr {s : State} {r : WinReq} (h : pageOf r.off = .gddr) (f : Nat → Nat) : s.winAtomic r true f = s.gddrAtomic r f := by
  rw [State.winAtomic, h]
  rfl

theorem length_nearBytes (m : NearMsg) : (nearBytes m).length = m.len := by simp [nearBytes, padTo]

theorem getElem_nearBytes (m : NearMsg) {k : Nat} (h : k < (nearBytes m).length) : (nearBytes m)[k] = m.data.getD k 0 := by
  simp only [nearBytes, padTo, List.getElem_take, List.getElem_append, List.getElem_replicate, List.getD_eq_getElem?_getD]
  split <;> simp [*]

/-! Writes (R72). -/

/-- A write that the controller passes stores its bytes and answers nothing. -/
theorem State.gddrWrite_does {s : State} {r : WinReq} {b : List Byte} (pass : s.gddrPassAll r.m.tenant r.m.ctx .write r.off b.length = true)
    (thawed : s.frozen r.m.tenant = false) : Keeps State.noRegs pmcFields (s.gddrStore r.off b) (s.gddrWrite r b) := by
  have runs : s.gddrWrite r b =
      ((s.gddrStore r.off b).pmc 13 0x51 (some r.m.tenant) (linesOf r.off b.length)).pmc 15 0x75 (some r.m.tenant) b.length := by
    simp [State.gddrWrite, pass, State.gddrFrozen, thawed]
  rw [runs]
  exact (State.pmc_keeps ..).trans (State.pmc_keeps ..)

/-! Reads (R66). -/

theorem State.gddrBytes_of_le {s : State} {a : Nat} (n : Nat) (h : unitBytes ≤ a) : s.gddrBytes a n = Mem.bytes s.gddr a n := if_pos h

theorem State.gddrRead_does {s : State} {r : WinReq} (port : (s.nearOf r.p).Open) (read : r.m.op = 2) (some_ : r.m.len ≠ 0)
    (pass : s.gddrPassAll r.m.tenant r.m.ctx .read r.off r.m.len = true) (good : s.gddrPoisoned r.off r.m.len = false) (above : unitBytes ≤ r.off) :
    Keeps State.noLink pmcFields s (s.gddrRead r) ∧ (s.gddrRead r).out = s.out ++ [Out.near r.p (cplOf r.m (Mem.bytes s.gddr r.off r.m.len))] := by
  have lines := s.pmc_keeps 13 0x50 (some r.m.tenant) (linesOf r.off r.m.len)
  have poison : (s.pmc 13 0x50 (some r.m.tenant) (linesOf r.off r.m.len)).gddrPoisoned r.off r.m.len = false :=
    (congrArg (fun u : State => u.board.res.poison.any (touchesLine r.off r.m.len)) lines.frame :).trans good
  simp only [State.gddrRead, if_neg some_, pass, good, State.gddrBytes_of_le _ above, Bool.not_true, Bool.false_eq_true, if_false]
  exact State.cpl_does (lines.trans (State.pmc_keeps ..)) port (by simp [read]) _

theorem State.gddrRead_of_len_zero {s : State} {r : WinReq} (port : (s.nearOf r.p).Open) (read : r.m.op = 2) (none_ : r.m.len = 0) :
    Keeps State.noLink pmcFields s (s.gddrRead r) ∧ (s.gddrRead r).out = s.out ++ [Out.near r.p (cplOf r.m [])] := by
  rw [State.gddrRead, if_pos none_]
  exact State.cpl_does (.refl ..) port (by simp [read]) []

/-! Atomics (R486). -/

/-- An atomic that the controller passes replaces 8 bytes and answers the old ones. -/
theorem State.gddrAtomic_does {s : State} {r : WinReq} {f : Nat → Nat} (port : (s.nearOf r.p).Open) (asks : r.m.op ≠ 1)
    (pass : s.gddrPassAll r.m.tenant r.m.ctx .atomic r.off 8 = true) (thawed : s.frozen r.m.tenant = false)
    (good : s.gddrPoisoned r.off 8 = false) :
    Keeps State.noLink pmcFields (s.gddrStore r.off (leBytes 8 (f (Mem.nat s.gddr r.off 8)))) (s.gddrAtomic r f) ∧
      (s.gddrAtomic r f).out = s.out ++ [Out.near r.p (cplOf r.m (leBytes 8 (Mem.nat s.gddr r.off 8)))] := by
  generalize ht : (s.pmc 13 0x50 (some r.m.tenant)).pmc 13 0x51 (some r.m.tenant) = t
  have counted : Keeps State.noRegs pmcFields s t := ht ▸ (s.pmc_keeps ..).trans (State.pmc_keeps ..)
  have stored : Keeps State.noRegs pmcFields (s.gddrStore r.off (leBytes 8 (f (Mem.nat s.gddr r.off 8))))
      (t.gddrStore r.off (leBytes 8 (f (Mem.nat s.gddr r.off 8)))) :=
    ⟨congrArg (fun u : State => u.gddrStore r.off (leBytes 8 (f (Mem.nat s.gddr r.off 8)))) counted.frame, counted.regs⟩
  simp only [State.gddrAtomic, pass, State.gddrFrozen, thawed, good, ht, Bool.not_true, Bool.false_eq_true, if_false]
  exact State.cpl_does stored port asks _

/-! Denied requests (R6, R97). -/

/-- A write that is denied has no answer; it is counted and reported. -/
theorem State.deny_of_write (s : State) {r : WinReq} (write : r.m.op = 1) (obj detail : Nat) :
    Keeps State.gddr eventFields (s.count Reg.ADM_WIN_DENIED_COUNT) (s.deny r obj detail) := by
  rw [State.deny, State.cplZero, State.cpl, if_pos write]
  exact (State.event_keeps ..).part State.gddr

theorem State.denyExtent_of_write (s : State) {r : WinReq} (write : r.m.op = 1) :
    Keeps State.gddr eventFields ((s.violation Kind.extent r.m.tenant r.m.ctx 0xF r.off).count Reg.ADM_WIN_DENIED_COUNT) (s.denyExtent r) := by
  unfold State.denyExtent
  dsimp only
  split
  · exact (State.deny_of_write _ write _ _).of_eq
  · have denied := State.deny_of_write (s.violation Kind.extent r.m.tenant r.m.ctx 0xF r.off) write (evObj 6 ‹Nat›) Kind.extent
    exact .ite _ denied (denied.trans ((State.event_keeps ..).part State.gddr))

/-- A write of a tenant that its endpoint may not present is counted at its port and in the window, and stores nothing. -/
theorem State.denyExtent_counts (s : State) {r : WinReq} (write : r.m.op = 1) (p : Nat) :
    ((s.count Reg.MAC_NEAR_DENIED_COUNT p).denyExtent r).gddr = s.gddr ∧
      ((s.count Reg.MAC_NEAR_DENIED_COUNT p).denyExtent r).rd Reg.MAC_NEAR_DENIED_COUNT p = satAdd 64 (s.rd Reg.MAC_NEAR_DENIED_COUNT p) 1 ∧
      ((s.count Reg.MAC_NEAR_DENIED_COUNT p).denyExtent r).rd Reg.ADM_WIN_DENIED_COUNT 0 = satAdd 64 (s.rd Reg.ADM_WIN_DENIED_COUNT 0) 1 := by
  have denied := (s.count Reg.MAC_NEAR_DENIED_COUNT p).denyExtent_of_write write
  have logged := (s.count Reg.MAC_NEAR_DENIED_COUNT p).violation_keeps Kind.extent r.m.tenant r.m.ctx 0xF r.off
  refine ⟨denied.frame.trans (congrArg State.gddr logged.frame :), ?_, ?_⟩
  · rw [denied.rd Reg.MAC_NEAR_DENIED_COUNT, State.count_eq, State.rd_wr_of_key _ _ _ _ _ _ (by decide), logged.rd Reg.MAC_NEAR_DENIED_COUNT,
      State.count_eq, State.rd_wr_self]
    exact Nat.mod_eq_of_lt (satAdd_lt ..)
  · rw [denied.rd Reg.ADM_WIN_DENIED_COUNT, State.count_eq, State.rd_wr_self, logged.rd Reg.ADM_WIN_DENIED_COUNT, State.count_eq,
      State.rd_wr_of_key _ _ _ _ _ _ (by decide)]
    exact Nat.mod_eq_of_lt (satAdd_lt ..)

/-! The commands. -/

section Commands

variable {s : State} {p : Nat} {m : NearMsg}

variable (h : ToGddr s p m)
include h

theorem does_nearWr (mine : s.presents p m = true) (write : m.op = 1) (thawed : s.frozen m.tenant = false)
    (pass : s.gddrPassAll m.tenant m.ctx .write (s.winOff p m) m.len = true) : Does (.nearWr p m) s fun t =>
      (∀ k < m.len, Mem.rd t.gddr (s.winOff p m + k) = m.data.getD k 0) ∧ SameGddrBut (s.winOff p m) m.len s t ∧ SameFieldsBut pmcFields s t ∧
        t.out = s.out := by
  let r : WinReq := { p, m, off := s.winOff p m }
  have runs : exec (.nearWr p m) s = .next (s.gddrWrite r (nearBytes m)) := by
    show Host.Outcome.next (if s.pathIsUp p = true ∧ m.op = 1 then s.rxWr p m else s) = _
    rw [if_pos ⟨h.up, write⟩, State.rxWr, h.nearReq, mine, if_pos rfl, State.winAccess_of_gddr h.page, if_pos write]
  have wrote : Keeps State.noRegs pmcFields (s.gddrStore r.off (nearBytes m)) (s.gddrWrite r (nearBytes m)) :=
    State.gddrWrite_does (by rwa [length_nearBytes]) thawed
  have gddr : (s.gddrWrite r (nearBytes m)).gddr = Mem.store s.gddr r.off (nearBytes m) := (congrArg State.gddr wrote.frame :)
  refine ⟨_, runs, fun k hk => ?_, fun x hx => ?_, wrote.regs, (congrArg State.out wrote.frame :)⟩
  · have hk' : k < (nearBytes m).length := (length_nearBytes m).symm ▸ hk
    rw [gddr, Mem.rd_store_of_mem _ _ _ _ hk', getElem_nearBytes m hk']
  · rw [gddr]
    exact Mem.rd_store_of_lt _ _ _ _ (by rwa [length_nearBytes])

theorem does_nearWr_of_denied (foreign : s.presents p m = false) (write : m.op = 1) : Does (.nearWr p m) s fun t => t.gddr = s.gddr ∧
    t.rd Reg.MAC_NEAR_DENIED_COUNT p = satAdd 64 (s.rd Reg.MAC_NEAR_DENIED_COUNT p) 1 ∧
    t.rd Reg.ADM_WIN_DENIED_COUNT 0 = satAdd 64 (s.rd Reg.ADM_WIN_DENIED_COUNT 0) 1 := by
  refine ⟨_, ?_, s.denyExtent_counts (r := { p, m, off := s.winOff p m }) write p⟩
  show Host.Outcome.next (if s.pathIsUp p = true ∧ m.op = 1 then s.rxWr p m else s) = _
  rw [if_pos ⟨h.up, write⟩, State.rxWr, h.nearReq, foreign, if_neg Bool.false_ne_true, State.winAccess_of_denied h.page]

theorem does_nearRd (mine : s.presents p m = true) (port : (s.nearOf p).Open) (read : m.op = 2) (some_ : m.len ≠ 0)
    (pass : s.gddrPassAll m.tenant m.ctx .read (s.winOff p m) m.len = true) (good : s.gddrPoisoned (s.winOff p m) m.len = false)
    (data : unitBytes ≤ s.winOff p m) : Does (.nearRd p m) s fun t => t.gddr = s.gddr ∧ SameFieldsBut pmcFields s t ∧
      t.out = s.out ++ [Out.near p (cplOf m (Mem.bytes s.gddr (s.winOff p m) m.len))] := by
  let r : WinReq := { p, m, off := s.winOff p m }
  have runs : exec (.nearRd p m) s = .next (s.gddrRead r) := by
    show Host.Outcome.next (if s.pathIsUp p = true ∧ m.op = 2 ∧ m.len ≠ 0 then s.rxRd p m else s) = _
    rw [if_pos ⟨h.up, read, some_⟩, State.rxRd, h.nearReq, mine, if_pos rfl, State.winAccess_of_gddr h.page, if_neg (by simp [read])]
  obtain ⟨kept, out⟩ := State.gddrRead_does (r := r) port read some_ pass good data
  exact ⟨_, runs, (congrArg State.gddr kept.frame :), kept.regs, out⟩

theorem does_nearFlushRd (mine : s.presents p m = true) (port : (s.nearOf p).Open) (read : m.op = 2) (none_ : m.len = 0) :
    Does (.nearFlushRd p m) s fun t => t.gddr = s.gddr ∧ SameFieldsBut pmcFields s t ∧ t.out = s.out ++ [Out.near p (cplOf m [])] := by
  let r : WinReq := { p, m, off := s.winOff p m }
  have runs : exec (.nearFlushRd p m) s = .next (s.gddrRead r) := by
    show Host.Outcome.next (if s.pathIsUp p = true ∧ m.op = 2 ∧ m.len = 0 then s.rxRd p m else s) = _
    rw [if_pos ⟨h.up, read, none_⟩, State.rxRd, h.nearReq, mine, if_pos rfl, State.winAccess_of_gddr h.page, if_neg (by simp [read])]
  obtain ⟨kept, out⟩ := State.gddrRead_of_len_zero (r := r) port read none_
  exact ⟨_, runs, (congrArg State.gddr kept.frame :), kept.regs, out⟩

/-- An atomic command that runs `f` on the 8 bytes it names leaves the new value there, and answers the old one. -/
theorem does_atomic {k : Instr} {f : Nat → Nat} (mine : s.presents p m = true) (port : (s.nearOf p).Open) (asks : m.op ≠ 1)
    (thawed : s.frozen m.tenant = false) (runs : exec k s = .next (s.nearReq p m fun s r ok => s.winAtomic r ok f))
    (small : f (Mem.nat s.gddr (s.winOff p m) 8) < 2 ^ 64) (pass : s.gddrPassAll m.tenant m.ctx .atomic (s.winOff p m) 8 = true)
    (good : s.gddrPoisoned (s.winOff p m) 8 = false) : Does k s fun t =>
      Mem.nat t.gddr (s.winOff p m) 8 = f (Mem.nat s.gddr (s.winOff p m) 8) ∧ SameGddrBut (s.winOff p m) 8 s t ∧ SameFieldsBut pmcFields s t ∧
        t.out = s.out ++ [Out.near p (cplOf m (leBytes 8 (Mem.nat s.gddr (s.winOff p m) 8)))] := by
  let r : WinReq := { p, m, off := s.winOff p m }
  rw [h.nearReq, mine, if_pos rfl, State.winAtomic_of_gddr h.page] at runs
  obtain ⟨kept, out⟩ := State.gddrAtomic_does (r := r) (f := f) port asks pass thawed good
  have gddr : (s.gddrAtomic r f).gddr = Mem.store s.gddr r.off (leBytes 8 (f (Mem.nat s.gddr r.off 8))) := (congrArg State.gddr kept.frame :)
  refine ⟨_, runs, ?_, fun x hx => ?_, kept.regs, out⟩
  · show Mem.nat (s.gddrAtomic r f).gddr r.off 8 = _
    rw [gddr, Mem.nat_store_leBytes]
    exact Nat.mod_eq_of_lt small
  · show Mem.rd (s.gddrAtomic r f).gddr x = _
    rw [gddr]
    exact Mem.rd_store_of_lt _ _ _ _ (by rwa [length_leBytes])

end Commands

end Sys2Proof.Machine

open Sys2Proof Sys2Proof.Machine Sys2Proof.Safety

/-- Settles O24: a request inside the window reaches GDDR7 at its offset, where each kind has one lemma; what is not permitted goes to the
denial of a write, which has no answer. -/
theorem windowMemory : Obligations.WindowMemory := by
  intro s p m ep off cpl old swaps up above inside formed thawed waitP replay resting
  have req : ToGddr s p m := ⟨up, above, inside, formed⟩
  have port : (s.nearOf p).Open := ⟨waitP, replay, resting⟩
  refine ⟨fun mine => ⟨fun write pass => does_nearWr req mine write thawed pass,
    fun read some_ pass good data => does_nearRd req mine port read some_ pass good data,
    fun read none_ => does_nearFlushRd req mine port read none_, fun fadd pass good => ?_, fun cswap pass good => ?_⟩,
    fun foreign write => does_nearWr_of_denied req foreign write⟩
  · refine does_atomic (f := fun v => (v + leAt m.data 0 8) % 2 ^ 64) req mine port (by simp [fadd]) thawed ?_ (Nat.mod_lt _ (by decide)) pass good
    show Host.Outcome.next (if s.pathIsUp p = true ∧ m.op = 3 then s.rxFadd p m else s) = _
    rw [if_pos ⟨up, fadd⟩, State.rxFadd]
  · refine does_atomic (f := fun v => if v = leAt m.data 0 8 then leAt m.data 8 8 else v) req mine port (by simp [cswap]) thawed ?_ ?_ pass good
    · show Host.Outcome.next (if s.pathIsUp p = true ∧ m.op = 4 then s.rxCswap p m else s) = _
      rw [if_pos ⟨up, cswap⟩, State.rxCswap]
    · split
      exacts [leAt_lt m.data 8 8, Mem.nat_lt ..]
end

section
/-! The near link layer (R60, R62, R66, R69, R82, R436): flits received, replay, credits, the end of a flush, lock and rest. -/

namespace Sys2Proof.Machine

open Sys2Proof Sys2Proof.Safety

/-! What waits on a path (R62). -/

/-- Where nothing waits, nothing is sent. -/
theorem State.drainPath_of_idle {s : State} {p : Nat} (posted : (s.nearOf p).waitP = []) (other : (s.nearOf p).waitNp = []) :
    s.drainPath p = s := by
  simp [State.drainPath, posted, other, State.drainP, State.drainNp]

/-- The only message that waits goes out where it has room. -/
theorem State.drainPath_of_one {s : State} {p : Nat} {m : NearMsg} {u : Option User} (posted : (s.nearOf p).waitP = [(m, u)])
    (other : (s.nearOf p).waitNp = []) (room : (s.nearOf p).roomP m = true) :
    s.drainPath p = (s.setNear p { s.nearOf p with waitP := [] }).launchP p m u := by
  have none_ : (((s.setNear p { s.nearOf p with waitP := [] }).launchP p m u).nearOf p).waitNp = [] := by
    rw [State.nearOf_launchP, State.nearOf_setNear]
    exact other
  simp [State.drainPath, posted, State.drainP, room, none_, State.drainNp]

section Port

variable {s : State} {p : Nat}

/-! Flits (R60). -/

/-- A good flit on a locked port that is awake is counted. -/
theorem State.goodFlit_of_locked (awake : (s.nearOf p).resting = false) (lock : s.on Reg.MAC_NEAR_STATUS_FLIT_LOCK p = true) :
    s.goodFlit p = (s.pmc 15 0x71 none).setNear p { s.nearOf p with goodFlits := (s.nearOf p).goodFlits + 1, wakes := 0 } := by
  have locked : (s.pmc 15 0x71 none).rd Reg.MAC_NEAR_STATUS_FLIT_LOCK p = 1 :=
    ((s.pmc_keeps ..).rd Reg.MAC_NEAR_STATUS_FLIT_LOCK p).trans (by simpa using lock)
  have stays : { s.nearOf p with goodFlits := (s.nearOf p).goodFlits + 1, resting := false, wakes := 0 } =
      { s.nearOf p with goodFlits := (s.nearOf p).goodFlits + 1, wakes := 0 } := by rw [← awake]
  rw [← stays]
  simp [State.goodFlit, awake, locked]

/-- An ACK of a flit in the replay buffer takes it and what is before it away. -/
theorem State.linkAck_of_mem {l1 l2 : List (Nat × NearMsg × Option User)} {ack : Nat} {m : NearMsg} {u : Option User}
    (posted : (s.nearOf p).waitP = []) (other : (s.nearOf p).waitNp = []) (buffer : (s.nearOf p).replay = l1 ++ (ack, m, u) :: l2)
    (first : ∀ e ∈ l1, e.1 ≠ ack) : s.linkAck p ack = s.setNear p { s.nearOf p with replay := l2, replays := 0 } := by
  have rest : ((s.nearOf p).replay.dropWhile (fun x => x.1 != ack)).tail = l2 := by
    rw [buffer, List.dropWhile_append_of_pos (by simpa using first)]
    simp
  have found : (s.nearOf p).replay.any (fun x => x.1 == ack) = true := by simp [buffer]
  simp only [State.linkAck, found, Bool.not_true, Bool.false_eq_true, if_false, rest]
  exact State.drainPath_of_idle ((congrArg Near.waitP (State.nearOf_setNear ..)).trans posted)
    ((congrArg Near.waitNp (State.nearOf_setNear ..)).trans other)

/-- A PROTOCOL flit in sequence, without messages, acknowledges and is taken. -/
theorem does_nearFlitReceive {f : Flit} {m : NearMsg} {u : Option User} {l1 l2 : List (Nat × NearMsg × Option User)} (hp : p < 8)
    (awake : (s.nearOf p).resting = false) (posted : (s.nearOf p).waitP = []) (other : (s.nearOf p).waitNp = []) (good : f.fcrcOk = true)
    (protocol : f.kind = 1) (empty : f.msgs = []) (next : f.fseq % 4096 = ((s.nearOf p).rxSeq + 1) % 4096)
    (lock : s.on Reg.MAC_NEAR_STATUS_FLIT_LOCK p = true) (buffer : (s.nearOf p).replay = l1 ++ (f.ack % 4096, m, u) :: l2)
    (first : ∀ e ∈ l1, e.1 ≠ f.ack % 4096) : Does (.nearFlitReceive p f) s fun t =>
      t.nearOf p = { s.nearOf p with goodFlits := (s.nearOf p).goodFlits + 1, wakes := 0, replay := l2, replays := 0, rxSeq := f.fseq % 4096,
                                     retryAsked := false } ∧ t.out = s.out := by
  let n : Near := { s.nearOf p with goodFlits := (s.nearOf p).goodFlits + 1, wakes := 0 }
  let counted := (s.pmc 15 0x71 none).setNear p n
  have here : counted.nearOf p = n := State.nearOf_setNear ..
  let acked := counted.setNear p { n with replay := l2, replays := 0 }
  have ack : (s.goodFlit p).linkAck p (f.ack % 4096) = acked := by
    rw [State.goodFlit_of_locked awake lock, State.linkAck_of_mem (l1 := l1) (l2 := l2) (m := m) (u := u) (by rw [here]; exact posted)
      (by rw [here]; exact other) (by rw [here]; exact buffer) first, here]
  have there : acked.nearOf p = { n with replay := l2, replays := 0 } := State.nearOf_setNear ..
  have takes : acked.rxProtocol p f = acked.setNear p { n with replay := l2, replays := 0, rxSeq := f.fseq % 4096, retryAsked := false } := by
    simp only [State.rxProtocol, there, empty]
    exact if_pos (Or.inl next)
  have runs : exec (.nearFlitReceive p f) s = .next (acked.rxProtocol p f) := by
    show execNearFlitReceive p f s = _
    simp [execNearFlitReceive, Nat.not_le.2 hp, good, protocol, ack]
  rw [takes] at runs
  exact ⟨_, runs, State.nearOf_setNear .., (congrArg State.out (s.pmc_keeps 15 0x71 none 1).frame :)⟩

/-- A flit whose FCRC is bad is counted, and asked for again where that has not been done yet. -/
theorem does_nearFlitReceive_of_bad_fcrc {f : Flit} (hp : p < 8) (bad : f.fcrcOk = false) (lock : s.on Reg.MAC_NEAR_STATUS_FLIT_LOCK p = true)
    (unasked : (s.nearOf p).retryAsked = false) : Does (.nearFlitReceive p f) s fun t =>
      t.rd Reg.MAC_NEAR_FCRC_ERR_COUNT p = satAdd 64 (s.rd Reg.MAC_NEAR_FCRC_ERR_COUNT p) 1 ∧ t.out = s.out ++ [Out.retryReq p] ∧
      t.nearOf p = { s.nearOf p with goodFlits := 0, retryAsked := true } := by
  have runs : exec (.nearFlitReceive p f) s =
      .next (((s.count Reg.MAC_NEAR_FCRC_ERR_COUNT p).setNear p { s.nearOf p with goodFlits := 0, retryAsked := true }).emit (.retryReq p)) := by
    show execNearFlitReceive p f s = _
    simp [execNearFlitReceive, Nat.not_le.2 hp, bad, State.badFlit, unasked, show s.rd Reg.MAC_NEAR_STATUS_FLIT_LOCK p = 1 by simpa using lock]
  exact ⟨_, runs, (State.rd_wr_self ..).trans (Nat.mod_eq_of_lt (satAdd_lt ..)), rfl, State.nearOf_setNear ..⟩

/-- A RETRY_REQ acknowledges, and what follows is replayed from its first flit on. -/
theorem does_nearRetryReq {ack k : Nat} {m x : NearMsg} {u v : Option User} {l1 l2 : List (Nat × NearMsg × Option User)} (hp : p < 8)
    (posted : (s.nearOf p).waitP = []) (other : (s.nearOf p).waitNp = []) (buffer : (s.nearOf p).replay = l1 ++ (ack, m, u) :: (k, x, v) :: l2)
    (first : ∀ e ∈ l1, e.1 ≠ ack) : Does (.nearRetryReq p ack) s fun t =>
      (t.nearOf p).replay = (k, x, v) :: l2 ∧ (t.nearOf p).replays = 1 ∧ (t.nearOf p).replayHead = k ∧
      t.rd Reg.MAC_NEAR_REPLAY_COUNT p = satAdd 64 (s.rd Reg.MAC_NEAR_REPLAY_COUNT p) 1 := by
  let n : Near := { s.nearOf p with replay := (k, x, v) :: l2, replays := 0 }
  let acked := s.setNear p n
  have here : acked.nearOf p = n := State.nearOf_setNear ..
  have counted := (acked.count Reg.MAC_NEAR_REPLAY_COUNT p).pmc_keeps 15 0x72 none n.replay.length
  have runs : exec (.nearRetryReq p ack) s =
      .next (((acked.count Reg.MAC_NEAR_REPLAY_COUNT p).pmc 15 0x72 none n.replay.length).setNear p { n with replayHead := k, replays := 1 }) := by
    show Host.Outcome.next (if p < 8 then s.retryReq p ack else s) = _
    rw [if_pos hp, State.retryReq, State.linkAck_of_mem posted other buffer first]
    simp only [here, acked, n]
    rfl
  refine ⟨_, runs, ?_, ?_, ?_, ?_⟩
  · rw [State.nearOf_setNear]
  · rw [State.nearOf_setNear]
  · rw [State.nearOf_setNear]
  · exact (counted.rd Reg.MAC_NEAR_REPLAY_COUNT p).trans ((State.rd_wr_self ..).trans (Nat.mod_eq_of_lt (satAdd_lt ..)))

/-! Credits (R62). -/

/-- The link state of a port after a CREDIT. -/
def Near.credited (n : Near) (h d c : Nat) : Near := { n with crdP := n.crdP + h, crdD := n.crdD + d, crdNp := n.crdNp + c }

theorem exec_nearCredit (hp : p < 8) (lock : s.on Reg.MAC_NEAR_STATUS_FLIT_LOCK p = true) (h d c : Nat) :
    exec (.nearCredit p h d c) s = .next ((s.setNear p ((s.nearOf p).credited h d c)).drainPath p) :=
  congrArg Host.Outcome.next (if_pos ⟨hp, lock⟩)

theorem does_nearCredit_of_idle (hp : p < 8) (posted : (s.nearOf p).waitP = []) (other : (s.nearOf p).waitNp = [])
    (lock : s.on Reg.MAC_NEAR_STATUS_FLIT_LOCK p = true) (h d c : Nat) :
    Does (.nearCredit p h d c) s fun t => t = s.setNear p ((s.nearOf p).credited h d c) := by
  refine ⟨_, exec_nearCredit hp lock h d c, State.drainPath_of_idle ?_ ?_⟩
  · rw [State.nearOf_setNear]; exact posted
  · rw [State.nearOf_setNear]; exact other

/-- A write that waits goes out once the credits suffice, and takes its own. -/
theorem does_nearCredit_of_waiting {m : NearMsg} {u : Option User} {h d : Nat} (hp : p < 8) (lock : s.on Reg.MAC_NEAR_STATUS_FLIT_LOCK p = true)
    (posted : (s.nearOf p).waitP = [(m, u)]) (other : (s.nearOf p).waitNp = []) (write : m.op = 1) (header : 1 ≤ (s.nearOf p).crdP + h)
    (data : unitsOf m ≤ (s.nearOf p).crdD + d) (kept : (s.nearOf p).replay.length < 512) (up : (s.nearOf p).resting = false) (c : Nat) :
    Does (.nearCredit p h d c) s fun t => t.out = s.out ++ [Out.near p m] ∧ (t.nearOf p).waitP = [] ∧
      (t.nearOf p).crdP = (s.nearOf p).crdP + h - 1 ∧ (t.nearOf p).crdD = (s.nearOf p).crdD + d - unitsOf m ∧
      (t.nearOf p).replay = (s.nearOf p).replay ++ [((s.nearOf p).txSeq, m, u)] := by
  let n := (s.nearOf p).credited h d c
  have here : (s.setNear p n).nearOf p = n := State.nearOf_setNear ..
  have room : n.roomP m = true := Near.roomP_of_credit header data kept up
  have sends := State.drainPath_of_one (s := s.setNear p n) (p := p) (m := m) (u := u) (by rw [here]; exact posted) (by rw [here]; exact other)
    (by rw [here]; exact room)
  have port : (((s.setNear p n).drainPath p).nearOf p) = Near.launched { n with waitP := [] } m u := by
    rw [sends, State.nearOf_launchP, State.nearOf_setNear, here]
  refine ⟨_, exec_nearCredit hp lock h d c, ?_, ?_, ?_, ?_, ?_⟩
  · rw [sends, State.out_launchP]; rfl
  · rw [port]; rfl
  · rw [port]; simp [Near.launched, write, n, Near.credited]
  · rw [port]; simp [Near.launched, write, n, Near.credited]
  · rw [port]; rfl

/-! The end of a flush (R66). -/

/-- A flush of a thread that does not wait in a fence is dropped from what the thread has out. -/
theorem State.flushBack_of_calm {t : State} {c i : Nat} (pt : Nat × Nat) (calm : (t.thrOf c i).wait = .none) :
    t.flushBack (.vis c i) pt = t.setThr c i { t.thrOf c i with flush := (t.thrOf c i).flush.filter (· ≠ pt) } := by
  have waits : ((t.setThr c i { t.thrOf c i with flush := (t.thrOf c i).flush.filter (· ≠ pt) }).thrOf c i).wait = .none := by
    rw [State.thrOf_setThr]
    exact calm
  simp only [State.flushBack]
  rw [waits]

/-- A CPL with STATUS 0 ends the flush of a thread that does not wait in a fence. -/
theorem does_nearCplReceive_of_flush {m : NearMsg} {r : NpReq} {c i : Nat} (up : s.pathIsUp p = true) (cpl : m.op = 5) (ok : m.status = 0)
    (asked : s.npOf p m.tag = some r) (flush : r.kind = .flush) (user : r.user = .vis c i) (calm : (s.thrOf c i).wait = .none) :
    Does (.nearCplReceive p m) s fun t => (t.nearOf p).np = dropFirst (·.tag == m.tag) (s.nearOf p).np ∧
      (t.thrOf c i).flush = (s.thrOf c i).flush.filter (· ≠ (p, r.tag)) ∧ t.regs = s.regs ∧ t.gddr = s.gddr := by
  let ended := s.setNear p { s.nearOf p with np := dropFirst (·.tag == m.tag) (s.nearOf p).np }
  have back := State.flushBack_of_calm (t := ended) (c := c) (i := i) (p, r.tag) calm
  have runs : exec (.nearCplReceive p m) s = .next (ended.flushBack (.vis c i) (p, r.tag)) := by
    show Host.Outcome.next (if s.pathIsUp p = true ∧ (m.op = 5 ∨ m.op = 6) then s.completion p m else s) = _
    rw [if_pos ⟨up, Or.inl cpl⟩]
    simp [State.completion, asked, cpl, ok, State.npBack, flush, user, ended]
  rw [back] at runs
  refine ⟨_, runs, ?_, ?_, rfl, rfl⟩
  · exact congrArg Near.np (State.nearOf_setNear s p { s.nearOf p with np := dropFirst (·.tag == m.tag) (s.nearOf p).np })
  · rw [State.thrOf_setThr]
    rfl

/-! Lock and rest (R69, R82, R436). -/

theorem does_nearFecLock (hp : p < 8) (unlocked : s.on Reg.MAC_NEAR_STATUS_FEC_LOCK p = false) : Does (.nearFecLock p) s fun t =>
    t.rd Reg.MAC_NEAR_STATUS_FEC_LOCK p = 1 ∧ t.out = s.out ++ [Out.idleFlits p] ∧ t.nearOf p = { s.nearOf p with goodFlits := 0 } := by
  refine ⟨((s.setNear p { s.nearOf p with goodFlits := 0 }).wr Reg.MAC_NEAR_STATUS_FEC_LOCK p 1).emit (.idleFlits p), ?_, State.rd_wr_self .., rfl,
    State.nearOf_setNear ..⟩
  exact congrArg Host.Outcome.next (if_neg (by rw [unlocked]; simp [hp]))

theorem does_nearPortRest (hp : p < 8) (up : s.rd Reg.MAC_NEAR_STATUS_PATH_UP p = 1) (kept : (s.nearOf p).replay = []) (none_ : (s.nearOf p).np = []) :
    Does (.nearPortRest p) s fun t => t = s.setNear p { s.nearOf p with resting := true, wakes := 0 } := by
  refine ⟨_, congrArg Host.Outcome.next (if_pos hp), ?_⟩
  simp [State.restPort, up, kept, none_]

theorem does_nearWakePattern (hp : p < 8) (rests : (s.nearOf p).resting = true) (runs : s.rd Reg.PWR_STATUS_STATE 0 < 2)
    (posted : (s.nearOf p).waitP = []) (other : (s.nearOf p).waitNp = []) :
    Does (.nearWakePattern p) s fun t => t = s.setNear p { s.nearOf p with resting := false, wakes := 0 } := by
  refine ⟨s.wakePort p, ?_, ?_⟩
  · show execNearWakePattern p s = _
    simp [execNearWakePattern, Nat.not_le.2 hp, rests, State.power, show s.rd Reg.PWR_STATUS_STATE 0 ≠ 2 by omega,
      show s.rd Reg.PWR_STATUS_STATE 0 ≠ 3 by omega]
  · rw [State.wakePort, rests, if_pos rfl]
    exact State.drainPath_of_idle ((congrArg Near.waitP (State.nearOf_setNear ..)).trans posted)
      ((congrArg Near.waitNp (State.nearOf_setNear ..)).trans other)

theorem does_nearWakeRetry (driven : 1 ≤ (s.nearOf p).wakes) (left : (s.nearOf p).wakes ≤ 3) : Does (.nearWakeRetry p) s fun t =>
    t.nearOf p = { s.nearOf p with wakes := (s.nearOf p).wakes + 1 } ∧ t.out = s.out ++ [Out.wake p] ∧ t.regs = s.regs := by
  refine ⟨(s.setNear p { s.nearOf p with wakes := (s.nearOf p).wakes + 1 }).emit (.wake p), ?_, State.nearOf_setNear .., rfl, rfl⟩
  exact congrArg Host.Outcome.next ((if_neg (by omega)).trans (if_pos left))

end Port

end Sys2Proof.Machine

open Sys2Proof Sys2Proof.Machine Sys2Proof.Safety

/-- Settles O25: one lemma for each command of the link layer; what waits on a path stays empty, or is the one message that the new credits
let go. -/
theorem nearLinkLayer : Obligations.NearLinkLayer := by
  intro s p h d n ack c i f m x u v l1 l2 k hp y
  refine ⟨fun awake posted other => ⟨?_, ?_, ?_, ?_⟩, ?_, ?_, ?_, ?_, ?_, ?_⟩
  · exact fun good protocol empty next lock buffer first =>
      does_nearFlitReceive hp awake posted other good protocol empty next lock buffer first
  · exact fun bad lock unasked => does_nearFlitReceive_of_bad_fcrc hp bad lock unasked
  · exact fun buffer first => does_nearRetryReq hp posted other buffer first
  · exact fun lock => does_nearCredit_of_idle hp posted other lock h d n
  · exact fun lock posted other write header data kept up => does_nearCredit_of_waiting hp lock posted other write header data kept up n
  · exact fun r up cpl ok asked flush user calm => does_nearCplReceive_of_flush up cpl ok asked flush user calm
  · exact does_nearFecLock hp
  · exact does_nearPortRest hp
  · exact does_nearWakePattern hp
  · exact does_nearWakeRetry
end

section
/-! How a mailbox command answers (R373, R374, R378, R395), attachments and the binding of admin queues (R79, R332, R379 to R381). -/

namespace Sys2Proof.Machine

open Sys2Proof Sys2Proof.Safety

/-! The response (R373, R374). -/

@[simp] theorem State.mbxOf_setMbx (s : State) (ch : Nat) (v : Mbx) : (s.setMbx ch v).mbxOf ch = v := Tbl.get_set_self ..

theorem State.mbxOf_wr (s : State) (f : Fld) (i v ch : Nat) : (s.wr f i v).mbxOf ch = s.mbxOf ch := rfl

/-- The state but for its registers and the management processor. -/
def State.noMgmt (s : State) : State := { s with regs := [], mgmt := {} }

/-- What a response writes. -/
def respondFields : List Fld :=
  [Reg.MBX_CMD_COUNT_COUNT, Reg.MBX_SLOT_STATUS_SEQ_DONE, Reg.MBX_SLOT_STATUS_LAST_STATUS, Reg.MBX_SLOT_STATUS_LAST_CMD,
    Reg.MBX_SLOT_STATUS_DONE, Reg.MBX_SLOT_STATUS_BUSY]

theorem length_respHeader (seq status detail cmd len : Nat) : (respHeader seq status detail cmd len).length = 64 := by simp [respHeader]

/-- The page of a mailbox with its response. -/
def respPage (page : Mem) (header data : List Byte) : Mem :=
  Mem.store (Mem.store (Mem.wipe page 0x800 0x1000) 0x800 header) 0x840 (data.take 1984)

theorem bytes_respPage_header (page : Mem) {header : List Byte} (data : List Byte) (h : header.length = 64) :
    Mem.bytes (respPage page header data) 0x800 64 = header := by
  have back := Mem.bytes_store_self (Mem.wipe page 0x800 0x1000) 0x800 header
  rw [h] at back
  rw [respPage, Mem.bytes_store_of_disjoint _ _ _ _ _ (by omega), back]

theorem bytes_respPage_data (page : Mem) (header : List Byte) {data : List Byte} (h : data.length ≤ 1984) :
    Mem.bytes (respPage page header data) 0x840 data.length = data := by
  rw [respPage, List.take_of_length_le h, Mem.bytes_store_self]

section Respond

variable {s : State} {ch : Nat} (page : ch < 1024) (status detail : Nat) (data : List Byte)
include page

/-- The response of a page as writes. -/
theorem State.respond_of_page : s.respond ch status detail data =
    ((((((s.count Reg.MBX_CMD_COUNT_COUNT).setMbx ch { s.mbxOf ch with
        later := none, waiting := false,
        page := respPage (s.mbxOf ch).page (respHeader (s.mbxOf ch).seq status detail (hdrCmd (s.header ch)) data.length) data }).wr
      Reg.MBX_SLOT_STATUS_SEQ_DONE ch (s.mbxOf ch).seq).wr Reg.MBX_SLOT_STATUS_LAST_STATUS ch status).wr
      Reg.MBX_SLOT_STATUS_LAST_CMD ch (hdrCmd (s.header ch))).wr Reg.MBX_SLOT_STATUS_DONE ch 1).wr Reg.MBX_SLOT_STATUS_BUSY ch 0 :=
  if_pos page

theorem State.respond_keeps : Keeps State.noMgmt respondFields s (s.respond ch status detail data) := by
  have counted : Keeps State.noMgmt respondFields s (s.count Reg.MBX_CMD_COUNT_COUNT) := (Keeps.refl ..).wr _ _ _
  rw [State.respond_of_page page]
  exact ((((counted.of_eq.wr _ _ _).wr _ _ _).wr _ _ _).wr _ _ _).wr _ _ _

theorem State.respond_says : MbxSays s (s.respond ch status detail data) ch status detail data := by
  have written : ((s.respond ch status detail data).mbxOf ch).page =
      respPage (s.mbxOf ch).page (respHeader (s.mbxOf ch).seq status detail (hdrCmd (s.header ch)) data.length) data := by
    simp only [State.respond_of_page page, State.mbxOf_wr, State.mbxOf_setMbx]
  refine ⟨?_, fun small => ?_, ?_⟩
  · rw [written, bytes_respPage_header _ _ (length_respHeader ..)]
  · rw [written, bytes_respPage_data _ _ small]
  · simp (disch := decide) only [State.respond_of_page page, State.rd_wr_self, State.rd_wr_of_key]
    exact ⟨rfl, rfl, rfl, rfl⟩

end Respond

/-- What a response says of a command is said of the state in which it was taken up, where the command left the mailboxes alone. -/
theorem mbxSays_of_mgmt {s u t : State} {ch status detail : Nat} {data : List Byte} (h : MbxSays u t ch status detail data)
    (mgmt : u.mgmt = s.mgmt) : MbxSays s t ch status detail data := by
  have box : u.mbxOf ch = s.mbxOf ch := congrArg (fun m : Mgmt => Tbl.get ({} : Mbx) ch m.mbx) mgmt
  obtain ⟨header, result, done⟩ := h
  rw [State.header, box] at header
  rw [box] at done
  exact ⟨header, result, done⟩

/-- A command whose turn has come runs, and its SUCCESS is answered. -/
theorem State.mbxRun_ok {s u : State} {ch cmd : Nat} {data : List Byte} {body : State → MbxRes} (touch : Bool) (h : MbxOpen s ch cmd)
    (ok : body s = .ok u data) : s.mbxRun ch cmd touch body = u.respond ch 0 0 data := by
  obtain ⟨-, ⟨ready, isCmd⟩, check, awake, powered⟩ := h
  simp [State.mbxRun, ready, isCmd, check, awake, powered, ok]

/-- A command that succeeds in a state `u`, with the mailboxes as before, answers its result; what holds after the response of `u` holds. -/
theorem answers_of_ok {s u : State} {ch cmd : Nat} {touch : Bool} {data : List Byte} {k : Instr} {body : State → MbxRes} {P : State → Prop}
    (runs : exec k s = .next (s.mbxRun ch cmd touch body)) (ok : body s = .ok u data) (mgmt : u.mgmt = s.mgmt)
    (after : ∀ t, Keeps State.noMgmt respondFields u t → P t) : Answers k s ch cmd data P := fun open_ =>
  ⟨_, runs.trans (congrArg Host.Outcome.next (State.mbxRun_ok touch open_ ok)), mbxSays_of_mgmt (State.respond_says open_.page 0 0 data) mgmt,
    after _ (State.respond_keeps open_.page 0 0 data)⟩

namespace Keeps

variable {s u t : State} (h : Keeps State.noMgmt respondFields u t)
include h

theorem mbx_attOf (a : Nat) : t.attOf a = u.attOf a := (congrArg (fun x : State => x.attOf a) h.frame :)
theorem mbx_sliceOf (n : Nat) : t.sliceOf n = u.sliceOf n := (congrArg (fun x : State => x.sliceOf n) h.frame :)
theorem mbx_admOf (n : Nat) : t.admOf n = u.admOf n := (congrArg (fun x : State => x.admOf n) h.frame :)
theorem mbx_adms : t.adms = u.adms := (congrArg State.adms h.frame :)
theorem mbx_gddr : t.gddr = u.gddr := (congrArg State.gddr h.frame :)
theorem mbx_out : t.out = u.out := (congrArg State.out h.frame :)

end Keeps

/-! Measurements (R395). -/

/-- M_SLICE of slot `ch` in `t` is that of `s`, extended by the digest of the command. -/
def SliceGrown (s : State) (ch : Nat) (t : State) : Prop :=
  (t.sliceOf ch).mSlice = extend (s.sliceOf ch).measure (s.digest (some ch))

theorem State.sliceOf_extendSlice (s : State) (t : Nat) (d : List Byte) :
    (s.extendSlice t d).sliceOf t = { s.sliceOf t with mSlice := extend (s.sliceOf t).measure d } := State.sliceOf_setSlice ..

theorem State.attOf_extendSlice (s : State) (t : Nat) (d : List Byte) (a : Nat) : (s.extendSlice t d).attOf a = s.attOf a := rfl
theorem State.mgmt_extendSlice (s : State) (t : Nat) (d : List Byte) : (s.extendSlice t d).mgmt = s.mgmt := rfl

/-! Making an attachment (R380). -/

/-- The attachment that `makeAtt` makes where none stands. -/
def State.newAtt (s : State) (t e : Nat) : Attach :=
  { s.attOf (attNo t e) with
    st := if (s.upPaths e).isEmpty then .absent else .attached, epid := (s.epOf e).epid, token := some (s.free 64) }

/-- No attachment stands at a number. -/
def State.attIdle (s : State) (a : Nat) : Prop := (s.attOf a).st ≠ .attached ∧ (s.attOf a).st ≠ .absent

theorem State.makeAtt_of_idle {s : State} {t e : Nat} (idle : s.attIdle (attNo t e)) :
    s.makeAtt t e = (s.setAtt (attNo t e) (s.newAtt t e)).bump := by
  have dead : ((s.attOf (attNo t e)).st == .attached || (s.attOf (attNo t e)).st == .absent) = false := by simpa [State.attIdle] using idle
  simp only [State.makeAtt, dead]
  rfl

/-- Making an attachment changes the attachment alone, and takes a free value. -/
theorem State.makeAtt_does {s : State} {t e : Nat} (idle : s.attIdle (attNo t e)) : (s.makeAtt t e).attOf (attNo t e) = s.newAtt t e ∧
    (s.makeAtt t e).mgmt = s.mgmt ∧ (s.makeAtt t e).ten = s.ten := by
  rw [State.makeAtt_of_idle idle]
  exact ⟨State.attOf_setAtt .., rfl, rfl⟩

theorem State.sliceOf_of_ten {s u : State} (h : u.ten = s.ten) (t : Nat) : u.sliceOf t = s.sliceOf t := by rw [State.sliceOf, h]; rfl

/-- The digest of a command is that of its page. -/
theorem State.digest_of_mgmt {s u : State} (h : u.mgmt = s.mgmt) (ch : Nat) : u.digest (some ch) = s.digest (some ch) := by
  have box : u.mbxOf ch = s.mbxOf ch := congrArg (fun m : Mgmt => Tbl.get ({} : Mbx) ch m.mbx) h
  simp only [State.digest, State.header, State.params, box]

theorem State.attBytes_of_newAtt {s u : State} {ch e : Nat} (h : u.attOf (attNo ch e) = s.newAtt ch e) :
    u.attBytes ch e = leBytes 8 e ++ leBytes 8 (s.free 64) := by rw [State.attBytes, h]; rfl

/-- The slot of the caller is one of eight. -/
theorem State.callerSlot_lt {s : State} {ch e : Nat} (h : s.callerSlot ch = some e) : e < 8 := by
  unfold State.callerSlot at h
  split at h
  · cases h
  · exact List.mem_range.1 (List.mem_of_find?_eq_some h)

/-! ATTACH (R380). -/

section Commands

variable {s : State} {ch e : Nat} (tenant : ch < 512) (caller : s.callerSlot ch = some e)

/-- The state that ATTACH leaves. -/
def State.attached (s : State) (ch e : Nat) : State := (s.makeAtt ch e).extendSlice ch (s.digest (some ch))

include caller in
theorem answers_attach (idle : s.attIdle (attNo ch e)) : Answers (.attach ch) s ch 0x10 (leBytes 8 e ++ leBytes 8 (s.free 64)) fun t =>
    t.attOf (attNo ch e) = s.newAtt ch e ∧ SliceGrown s ch t := by
  obtain ⟨made, mgmt, ten⟩ := State.makeAtt_does idle
  have att : (s.attached ch e).attOf (attNo ch e) = s.newAtt ch e := (State.attOf_extendSlice ..).trans made
  have slice : SliceGrown s ch (s.attached ch e) := by
    rw [SliceGrown, State.attached, State.sliceOf_extendSlice, State.sliceOf_of_ten ten]
  refine answers_of_ok (u := s.attached ch e) (touch := true) rfl ?_ ((State.mgmt_extendSlice ..).trans mgmt) fun t h => ?_
  · rw [← State.attBytes_of_newAtt att]
    simp only [State.cmdAttach, caller, if_neg (not_or.2 idle), State.attached]
  · rw [SliceGrown, h.mbx_attOf, h.mbx_sliceOf]
    exact ⟨att, slice⟩

/-! REATTACH (R332, R379). -/

end Commands

theorem State.rd_wr (s : State) (f : Fld) (i j v : Nat) : (s.wr f i v).rd f j = if j = i then v % 2 ^ f.w else s.rd f j := by
  by_cases h : j = i
  · rw [h, State.rd_wr_self, if_pos rfl]
  · rw [State.rd_wr_of_index _ _ _ _ _ _ h, if_neg h]

/-- The state but for its registers and the records of the extents. -/
def State.noExts (s : State) : State := { s with regs := [], ten := { s.ten with exts := [] } }

theorem State.rebind_keeps (s : State) (l : List Nat) (e : Nat) :
    Keeps State.noExts [Reg.TEN_EXT0_STATE, Reg.TEN_EXT0_ATTACH] s (s.rebind l e) :=
  (Keeps.refl ..).foldl _ fun _ n _ hu => ((hu.wr Reg.TEN_EXT0_STATE n Xs.bound).wr Reg.TEN_EXT0_ATTACH n e).of_eq

/-- The extents that are bound again are BOUND, at the slot named. -/
theorem State.rd_rebind (s : State) (l : List Nat) {e : Nat} (small : e < 8) (n : Nat) :
    (s.rebind l e).rd Reg.TEN_EXT0_STATE n = (if n ∈ l then Xs.bound else s.rd Reg.TEN_EXT0_STATE n) ∧
      (s.rebind l e).rd Reg.TEN_EXT0_ATTACH n = (if n ∈ l then e else s.rd Reg.TEN_EXT0_ATTACH n) := by
  induction l generalizing s with
  | nil => simp [State.rebind]
  | cons x l ih =>
    obtain ⟨state, attach⟩ := ih (((s.wr Reg.TEN_EXT0_STATE x Xs.bound).wr Reg.TEN_EXT0_ATTACH x e).setExt x { epid := (s.epOf e).epid })
    have bound : Xs.bound % 2 ^ Reg.TEN_EXT0_STATE.w = Xs.bound := by decide
    have slot : e % 2 ^ Reg.TEN_EXT0_ATTACH.w = e := Nat.mod_eq_of_lt small
    rw [State.setExt_rd, State.rd_wr_of_key _ _ _ _ _ _ (by decide), State.rd_wr, bound] at state
    rw [State.setExt_rd, State.rd_wr, State.rd_wr_of_key _ _ _ _ _ _ (by decide), slot] at attach
    refine ⟨state.trans ?_, attach.trans ?_⟩
    · by_cases hl : n ∈ l <;> by_cases hx : n = x <;> simp [hl, hx]
    · by_cases hl : n ∈ l <;> by_cases hx : n = x <;> simp [hl, hx]

/-- The end of both forms: no wrong token is counted, and M_SLICE is extended. -/
theorem State.sliceOf_reattached (s : State) (t : Nat) : (s.reattached t).sliceOf t =
    { s.sliceOf t with wrong := 0, mSlice := extend (s.sliceOf t).measure (s.digest (some t)) } := by
  rw [State.reattached, State.sliceOf_extendSlice, State.sliceOf_setSlice]
  rfl

theorem State.attOf_reattached (s : State) (t a : Nat) : (s.reattached t).attOf a = s.attOf a := rfl
theorem State.mgmt_reattached (s : State) (t : Nat) : (s.reattached t).mgmt = s.mgmt := rfl
theorem State.rd_reattached (s : State) (t : Nat) (f : Fld) (i : Nat) : (s.reattached t).rd f i = s.rd f i := rfl

section Commands

variable {s : State} {ch e : Nat} (tenant : ch < 512) (caller : s.callerSlot ch = some e)

/-- The extents that a GONE attachment preserved. -/
def State.preservedBy (s : State) (a : Nat) : List Nat := s.extList.filter fun n => s.xst n == Xs.preserved && (s.extOf n).att == some a

/-- The state that REATTACH leaves of GONE attachment `a`. -/
def State.tookOver (s : State) (ch e a : Nat) : State :=
  (((s.makeAtt ch e).rebind (s.preservedBy a) e).setAtt a {}).reattached ch

/-- A preserved extent of an attachment is bound again with it. -/
theorem State.mem_preservedBy {s : State} {a n : Nat} (att : (s.extOf n).att = some a) (state : s.rd Reg.TEN_EXT0_STATE n = Xs.preserved) :
    n ∈ s.preservedBy a := by
  have used : n ∈ s.extList := (s.mem_extList n).2 (by rw [state]; decide)
  simp [State.preservedBy, used, State.xst, state, att]

include tenant caller in
theorem answers_reattachOrdinary {a : Nat} (idle : s.attIdle (attNo ch e)) (form : byteAt (s.params ch) 8 = 0)
    (noList : leAt (s.params ch) 16 8 = 0) (dead : 8192 ≤ a)
    (named : (s.attsOf ch).find? (fun x => (s.attOf x).st == .gone && (s.attOf x).token == some (leAt (s.params ch) 0 8)) = some a) :
    Answers (.reattachOrdinary ch) s ch 0x11
      (leBytes 8 e ++ leBytes 8 (s.free 64) ++ leBytes 4 (s.attOf a).retired.length ++ leBytes 4 0) fun t =>
      t.attOf (attNo ch e) = s.newAtt ch e ∧ t.attOf a = {} ∧ SliceGrown s ch t ∧ (t.sliceOf ch).wrong = 0 ∧
      ∀ n, (s.extOf n).att = some a → s.rd Reg.TEN_EXT0_STATE n = Xs.preserved →
        t.rd Reg.TEN_EXT0_STATE n = Xs.bound ∧ t.rd Reg.TEN_EXT0_ATTACH n = e := by
  have small := State.callerSlot_lt caller
  have other : attNo ch e ≠ a := by unfold attNo; omega
  obtain ⟨made, mgmt, ten⟩ := State.makeAtt_does idle
  have bound := (s.makeAtt ch e).rebind_keeps (s.preservedBy a) e
  have rebound := (s.makeAtt ch e).rd_rebind (s.preservedBy a) small
  have took : s.tookOver ch e a = (((s.makeAtt ch e).rebind (s.preservedBy a) e).setAtt a {}).reattached ch := rfl
  generalize (s.makeAtt ch e).rebind (s.preservedBy a) e = v at bound rebound took
  have mgmt' : v.mgmt = s.mgmt := (congrArg State.mgmt bound.frame :).trans mgmt
  have att : (s.tookOver ch e a).attOf (attNo ch e) = s.newAtt ch e := by
    rw [took, State.attOf_reattached, State.attOf_setAtt_ne _ _ other, ← made]
    exact (congrArg (fun u : State => u.attOf (attNo ch e)) bound.frame :)
  have gone : (s.tookOver ch e a).attOf a = {} := by rw [took, State.attOf_reattached, State.attOf_setAtt]
  have slice : (s.tookOver ch e a).sliceOf ch = { s.sliceOf ch with wrong := 0, mSlice := extend (s.sliceOf ch).measure (s.digest (some ch)) } := by
    have same : (v.setAtt a {}).sliceOf ch = s.sliceOf ch :=
      (congrArg (fun u : State => u.sliceOf ch) bound.frame :).trans (State.sliceOf_of_ten ten ch)
    rw [took, State.sliceOf_reattached, same, State.digest_of_mgmt (u := v.setAtt a {}) mgmt']
  refine answers_of_ok (u := s.tookOver ch e a) (touch := true) (body := fun s => s.cmdReattach ch) ?_ ?_ ?_ fun t h => ?_
  · exact congrArg Host.Outcome.next (if_neg (by simp [form]))
  · rw [← State.attBytes_of_newAtt att]
    simp only [State.cmdReattach, form, noList, caller, named]
    rfl
  · rw [took]
    exact (State.mgmt_reattached ..).trans mgmt'
  · rw [SliceGrown, h.mbx_attOf, h.mbx_attOf, h.mbx_sliceOf, slice]
    refine ⟨att, gone, rfl, rfl, fun n hn hp => ?_⟩
    obtain ⟨state, attach⟩ := rebound n
    rw [h.rd Reg.TEN_EXT0_STATE, h.rd Reg.TEN_EXT0_ATTACH, took, State.rd_reattached, State.rd_reattached, State.setAtt_rd, State.setAtt_rd, state,
      attach, if_pos (State.mem_preservedBy hn hp), if_pos (State.mem_preservedBy hn hp)]
    exact ⟨rfl, rfl⟩

/-- The state that the migration form of REATTACH leaves of saved attachment `k`, where the image carried no context. -/
def State.migrated (s : State) (ch k e : Nat) : State :=
  let u := s.makeAtt ch e
  let v := u.rebind (u.extList.filter fun n => u.xst n == Xs.bound && u.rd Reg.TEN_EXT0_TENANT n == ch && u.rd Reg.TEN_EXT0_ATTACH n == k &&
    (u.extOf n).epid == 0) e
  (v.setSlice ch { v.sliceOf ch with migs := [] }).reattached ch

include caller in
theorem answers_reattachMigration {k : Nat} (idle : s.attIdle (attNo ch e)) (form : byteAt (s.params ch) 8 = 1)
    (saved : (s.sliceOf ch).migs = [(k, leAt (s.params ch) 0 8)]) (bare : (s.sliceOf ch).ctxs = []) (recs : List (Nat × Nat)) :
    Answers (.reattachMigration ch recs) s ch 0x11 (leBytes 8 e ++ leBytes 8 (s.free 64) ++ leBytes 8 0) fun t =>
      t.attOf (attNo ch e) = s.newAtt ch e ∧ (t.sliceOf ch).migs = [] ∧ SliceGrown s ch t := by
  obtain ⟨made, mgmt, ten⟩ := State.makeAtt_does idle
  generalize hl : ((s.makeAtt ch e).extList.filter fun n => (s.makeAtt ch e).xst n == Xs.bound &&
    (s.makeAtt ch e).rd Reg.TEN_EXT0_TENANT n == ch && (s.makeAtt ch e).rd Reg.TEN_EXT0_ATTACH n == k && ((s.makeAtt ch e).extOf n).epid == 0) = l
  have bound := (s.makeAtt ch e).rebind_keeps l e
  generalize hv : (s.makeAtt ch e).rebind l e = v at bound
  have after : s.migrated ch k e = (v.setSlice ch { v.sliceOf ch with migs := [] }).reattached ch := by rw [State.migrated, hl, hv]
  have mgmt' : v.mgmt = s.mgmt := (congrArg State.mgmt bound.frame :).trans mgmt
  have same : v.sliceOf ch = s.sliceOf ch := (congrArg (fun u : State => u.sliceOf ch) bound.frame :).trans (State.sliceOf_of_ten ten ch)
  have att : (s.migrated ch k e).attOf (attNo ch e) = s.newAtt ch e := by
    rw [after, State.attOf_reattached, ← made]
    exact (congrArg (fun u : State => u.attOf (attNo ch e)) bound.frame :)
  have slice : (s.migrated ch k e).sliceOf ch =
      { s.sliceOf ch with migs := [], wrong := 0, mSlice := extend (s.sliceOf ch).measure (s.digest (some ch)) } := by
    rw [after, State.sliceOf_reattached, State.sliceOf_setSlice, same,
      State.digest_of_mgmt (u := v.setSlice ch { s.sliceOf ch with migs := [] }) mgmt']
    rfl
  refine answers_of_ok (u := s.migrated ch k e) (touch := true) (body := fun s => s.cmdMigrate ch recs) ?_ ?_ ?_ fun t h => ?_
  · exact congrArg Host.Outcome.next (if_pos form)
  · have ctxs : ((s.makeAtt ch e).sliceOf ch).ctxs = [] := (congrArg Slice.ctxs (State.sliceOf_of_ten ten ch)).trans bare
    have migrates : (s.makeAtt ch e).migrate ch k e (recs.take (leAt (s.params ch) 24 4)) = some v := by
      simp [State.migrate, ctxs, hl, hv]
    rw [← State.attBytes_of_newAtt att, after]
    simp [State.cmdMigrate, caller, saved, bare, migrates, same]
  · rw [after]
    exact (State.mgmt_reattached ..).trans mgmt'
  · rw [SliceGrown, h.mbx_attOf, h.mbx_sliceOf, slice]
    exact ⟨att, rfl, rfl⟩

/-! RELEASE (R79). -/

include tenant in
/-- RELEASE of a GONE attachment that preserved no extent drops it. -/
theorem answers_release {a : Nat} (mine : (s.attsOf ch).filter
      (fun x => ((s.attOf x).st == .gone || (s.attOf x).st == .locked) && (s.attOf x).epid == leAt (s.params ch) 0 8) = [a])
    (exists_ : s.slice ch ≠ 0) (bare : ∀ x ∈ s.extList, (s.extOf x).att ≠ some a) : Answers (.release ch) s ch 0x12 [] fun t =>
      t.attOf a = {} ∧ SliceGrown s ch t ∧ t.gddr = s.gddr := by
  have none_ : s.extList.filter (fun n => s.xst n == Xs.preserved && [a].any (fun x => (s.extOf n).att == some x)) = [] :=
    List.filter_eq_nil_iff.2 fun n hn => by simp [bare n hn]
  refine answers_of_ok (u := (s.setAtt a {}).extendSlice ch (s.digest (some ch))) (touch := true) rfl ?_ rfl fun t h => ?_
  · simp only [State.cmdRelease, if_pos tenant, mine, none_]
    exact congrArg (MbxRes.ok · []) (if_pos ⟨exists_, tenant⟩)
  · rw [SliceGrown, h.mbx_attOf, h.mbx_sliceOf]
    rw [State.attOf_extendSlice, State.attOf_setAtt, State.sliceOf_extendSlice]
    exact ⟨rfl, rfl, h.mbx_gddr⟩

/-! The binding of admin queues (R381). -/

/-- Where nothing is held and nothing was lost, settling an admin queue shows that it holds no event. -/
theorem State.settleAdm_of_empty {s : State} {t : Nat} (held : (s.admOf t).held = []) (lost : (s.admOf t).lost = 0) :
    s.settleAdm t = s.wr Reg.ADM_STATUS_EVENTS_HELD t 0 := by
  simp [State.settleAdm, held, State.drainAdm, State.reportLost, lost, State.showHeld, Adm.events]

/-- The addresses of the rings and of the index block that BIND_ADMIN takes from its parameters. -/
def State.ringAddrs (s : State) (t : Nat) (b : List Byte) : State :=
  ((s.wr Reg.ADM_SQ_ADDR_ADDR t (leAt b 0 8 / 2 ^ Reg.ADM_SQ_ADDR_ADDR.lo)).wr Reg.ADM_CQ_ADDR_ADDR t (leAt b 8 8 / 2 ^ Reg.ADM_CQ_ADDR_ADDR.lo)).wr
    Reg.ADM_INDEX_ADDR_ADDR t (leAt b 16 8 / 2 ^ Reg.ADM_INDEX_ADDR_ADDR.lo)

/-- The registers of the rings that BIND_ADMIN gives slot `t`. -/
def State.ringRegs (s : State) (t e : Nat) (b : List Byte) : State :=
  (((((s.ringAddrs t b).wr Reg.ADM_DESC0_ATTACH t e).wr Reg.ADM_DESC0_CONTEXT t (leAt b 24 2)).wr Reg.ADM_DESC0_SQ_LOG2 t (byteAt b 26)).wr
    Reg.ADM_DESC0_CQ_LOG2 t (byteAt b 27)).wr Reg.ADM_DESC0_BOUND t 1

/-- The admin queue of slot `t` from position 0. -/
def State.ringsBound (s : State) (t e : Nat) (b : List Byte) : State :=
  ((s.ringRegs t e b).setAdm t { s.admOf t with written := 0, headSeen := 0, sqHead := 0 }).wr Reg.ADM_STATUS_EVENTS_HELD t 0

theorem State.admOf_wr (s : State) (f : Fld) (i v t : Nat) : (s.wr f i v).admOf t = s.admOf t := rfl

theorem State.admOf_ringRegs (s : State) (t e : Nat) (b : List Byte) (n : Nat) : (s.ringRegs t e b).admOf n = s.admOf n := by
  simp only [State.ringRegs, State.ringAddrs, State.admOf_wr]

theorem State.ringsBound_keeps (s : State) (t e : Nat) (b : List Byte) : (s.ringsBound t e b).out = s.out ∧ (s.ringsBound t e b).mgmt = s.mgmt := by
  simp only [State.ringsBound, State.ringRegs, State.ringAddrs, State.wr_out, State.wr_mgmt, State.setAdm_out, State.setAdm_mgmt, and_self]

theorem State.admOf_ringsBound (s : State) (t e : Nat) (b : List Byte) :
    (s.ringsBound t e b).admOf t = { s.admOf t with written := 0, headSeen := 0, sqHead := 0 } := by
  rw [State.ringsBound, State.admOf_wr, State.admOf_setAdm]

theorem State.rd_ringsBound (s : State) (t e : Nat) (b : List Byte) : (s.ringsBound t e b).rd Reg.ADM_DESC0_BOUND t = 1 ∧
    (s.ringsBound t e b).rd Reg.ADM_DESC0_ATTACH t = e % 2 ^ 3 ∧
    (s.ringsBound t e b).rd Reg.ADM_DESC0_CONTEXT t = leAt b 24 2 % 2 ^ 16 ∧
    (s.ringsBound t e b).rd Reg.ADM_DESC0_SQ_LOG2 t = byteAt b 26 % 2 ^ 4 ∧ (s.ringsBound t e b).rd Reg.ADM_DESC0_CQ_LOG2 t = byteAt b 27 % 2 ^ 4 := by
  simp (disch := decide) only [State.ringsBound, State.ringRegs, State.setAdm_rd, State.rd_wr_of_key, State.rd_wr_self]
  exact ⟨rfl, rfl, rfl, rfl, rfl⟩

/-- The addresses and sizes of a BIND_ADMIN are good (R108, R381). -/
structure RingsOk (b : List Byte) : Prop where
  sq : addrOk (leAt b 0 8) (2 ^ Reg.ADM_SQ_ADDR_ADDR.lo) = true
  cq : addrOk (leAt b 8 8) (2 ^ Reg.ADM_CQ_ADDR_ADDR.lo) = true
  index : addrOk (leAt b 16 8) (2 ^ Reg.ADM_INDEX_ADDR_ADDR.lo) = true
  sqLog2 : 6 ≤ byteAt b 26 ∧ byteAt b 26 ≤ 10
  cqLog2 : 6 ≤ byteAt b 27 ∧ byteAt b 27 ≤ 10

include tenant caller in
theorem answers_bindAdmin (live : s.attLive ch e = true) (ctx : s.ctxSlot ch (leAt (s.params ch) 24 2) = some e) (rings : RingsOk (s.params ch))
    (unbound : s.rd Reg.ADM_DESC0_BOUND ch = 0) (held : (s.admOf ch).held = []) (lost : (s.admOf ch).lost = 0) :
    Answers (.bindAdmin ch) s ch 0x13 [] fun t => t.rd Reg.ADM_DESC0_BOUND ch = 1 ∧ t.rd Reg.ADM_DESC0_ATTACH ch = e ∧
      t.rd Reg.ADM_DESC0_CONTEXT ch = leAt (s.params ch) 24 2 % 2 ^ Reg.ADM_DESC0_CONTEXT.w ∧
      t.rd Reg.ADM_DESC0_SQ_LOG2 ch = byteAt (s.params ch) 26 ∧ t.rd Reg.ADM_DESC0_CQ_LOG2 ch = byteAt (s.params ch) 27 ∧
      t.admOf ch = { s.admOf ch with written := 0, headSeen := 0, sqHead := 0 } ∧ t.out = s.out := by
  obtain ⟨sq, cq, index, ⟨sqLow, sqHigh⟩, ⟨cqLow, cqHigh⟩⟩ := rings
  have settled : ((s.ringRegs ch e (s.params ch)).setAdm ch { s.admOf ch with written := 0, headSeen := 0, sqHead := 0 }).settleAdm ch =
      s.ringsBound ch e (s.params ch) :=
    State.settleAdm_of_empty (by rw [State.admOf_setAdm]; exact held) (by rw [State.admOf_setAdm]; exact lost)
  have binds : s.cmdBindAdmin ch = .ok (((s.ringRegs ch e (s.params ch)).setAdm ch
      { (s.ringRegs ch e (s.params ch)).admOf ch with written := 0, headSeen := 0, sqHead := 0 }).settleAdm ch) [] := by
    simp [State.cmdBindAdmin, chSlot, tenant, sq, cq, index, sqLow, sqHigh, cqLow, cqHigh, caller, live, ctx, unbound, State.ringRegs, State.ringAddrs]
  rw [State.admOf_ringRegs, settled] at binds
  obtain ⟨out, mgmt⟩ := s.ringsBound_keeps ch e (s.params ch)
  refine answers_of_ok (u := s.ringsBound ch e (s.params ch)) (touch := true) rfl binds mgmt fun t h => ?_
  obtain ⟨bound, attach, context, sqSize, cqSize⟩ := s.rd_ringsBound ch e (s.params ch)
  rw [h.rd Reg.ADM_DESC0_BOUND, h.rd Reg.ADM_DESC0_ATTACH, h.rd Reg.ADM_DESC0_CONTEXT, h.rd Reg.ADM_DESC0_SQ_LOG2, h.rd Reg.ADM_DESC0_CQ_LOG2,
    h.mbx_admOf, attach, sqSize, cqSize, Nat.mod_eq_of_lt (show e < 2 ^ 3 from State.callerSlot_lt caller),
    Nat.mod_eq_of_lt (show byteAt (s.params ch) 26 < 2 ^ 4 by omega), Nat.mod_eq_of_lt (show byteAt (s.params ch) 27 < 2 ^ 4 by omega)]
  exact ⟨bound, rfl, context, rfl, rfl, s.admOf_ringsBound .., h.mbx_out.trans out⟩

include tenant in
theorem answers_unbindAdmin (bound : s.rd Reg.ADM_DESC0_BOUND ch = 1) : Answers (.unbindAdmin ch) s ch 0x14 [] fun t =>
    t.rd Reg.ADM_DESC0_BOUND ch = 0 ∧ t.adms = s.adms ∧ t.out = s.out := by
  refine answers_of_ok (u := s.wr Reg.ADM_DESC0_BOUND ch 0) (touch := true) rfl ?_ rfl fun t h => ?_
  · simp [State.cmdUnbindAdmin, chSlot, tenant, bound]
  · exact ⟨(h.rd Reg.ADM_DESC0_BOUND ch).trans (State.rd_wr_self ..), h.mbx_adms, h.mbx_out⟩

end Commands

end Sys2Proof.Machine

open Sys2Proof Sys2Proof.Machine Sys2Proof.Safety

/-- Settles O41: each command succeeds in a state that its own lemma names, and the response leaves attachments, slices and rings as they
are. -/
theorem mailboxAttach : Obligations.MailboxAttach := by
  intro s ch e a n k ctx recs tenant b no made idle grown token
  refine ⟨fun caller idle => ⟨answers_attach caller idle, fun form noList dead named => ?_, fun form saved bare => ?_⟩, ?_, ?_, ?_⟩
  · intro open_
    obtain ⟨t, runs, answer, att, gone, slice, wrong, exts⟩ := answers_reattachOrdinary tenant caller idle form noList dead named open_
    exact ⟨t, runs, answer, att, gone, slice, wrong, exts n⟩
  · exact answers_reattachMigration caller idle form saved bare recs
  · exact fun mine exists_ bare => answers_release tenant mine exists_ bare
  · rintro caller live rfl slot sq cq index sqLow sqHigh cqLow cqHigh unbound held lost
    exact answers_bindAdmin tenant caller live slot ⟨sq, cq, index, ⟨sqLow, sqHigh⟩, ⟨cqLow, cqHigh⟩⟩ unbound held lost
  · exact fun bound => answers_unbindAdmin tenant bound
end

section
/-! Completion rings and the doorbells of admin rings (R76, R117, R120 to R126, R488). -/

namespace Sys2Proof.Machine

open Sys2Proof Sys2Proof.Safety

/-! What is released with a completion (R118). -/

/-- The state but for its registers and the submission side of its queue pairs. -/
def State.noOps (s : State) : State := { s with regs := [], sqs := [] }

/-- The counts of outstanding operations (R118). -/
def outFields : List Fld := [Reg.QP_OUT_COUNT, Reg.QP_MODULE_OUT_COUNT]

theorem dropFirst_of_none {α : Type} {p : α → Bool} {l : List α} (h : l.find? p = none) : dropFirst p l = l := by
  induction l with
  | nil => rfl
  | cons x l ih =>
    obtain ⟨hx, hl⟩ : p x = false ∧ l.find? p = none := by
      simp only [List.find?_cons] at h
      split at h <;> simp_all
    rw [dropFirst, hx, ih hl]
    rfl

theorem State.releaseOp_keeps (s : State) (q n : Nat) : Keeps State.noOps outFields s (s.releaseOp q n) := by
  have same := Keeps.refl State.noOps outFields s
  unfold State.releaseOp
  dsimp only
  split
  · exact same
  · exact .ite _ same.of_eq ((same.of_eq.wr _ _ _).wr _ _ _)

theorem State.ops_releaseOp (s : State) (q n : Nat) : ((s.releaseOp q n).sqOf q).ops = dropFirst (·.serial == n) (s.sqOf q).ops := by
  unfold State.releaseOp
  dsimp only
  split
  next none_ => exact (dropFirst_of_none none_).symm
  next o _ => split <;> exact congrArg Sq.ops (State.sqOf_setSq ..)

theorem State.afterCqe_keeps (s : State) (e : Cqe) : Keeps State.noOps outFields s (s.afterCqe e) := by
  unfold State.afterCqe
  split
  · exact .refl ..
  · exact s.releaseOp_keeps ..

theorem State.ops_afterCqe (s : State) {e : Cqe} {n : Nat} (h : e.serial = some n) :
    ((s.afterCqe e).sqOf e.qp).ops = dropFirst (·.serial == n) (s.sqOf e.qp).ops := by
  simp only [State.afterCqe, h, State.ops_releaseOp]

theorem State.cqShow_keeps (s : State) (cq : Nat) : Keeps State.noRegs [Reg.CQ_PEND_PENDING, Reg.CQ_PEND_FULL] s (s.cqShow cq) := by
  have shown : Keeps State.noRegs [Reg.CQ_PEND_PENDING, Reg.CQ_PEND_FULL] s (s.wr Reg.CQ_PEND_PENDING cq (s.cqOf cq).waiting.length) :=
    (Keeps.refl ..).wr _ _ _
  exact .ite _ (shown.wr _ _ _) shown

/-! A ring that serves. -/

/-- A ring that exists, is not broken and is not fenced. -/
structure CqServes (s : State) (cq : Nat) : Prop where
  valid : s.rd Reg.CQ_DESC0_VALID cq = 1
  whole : s.rd Reg.CQ_DESC0_BROKEN cq = 0
  open_ : (s.cqOf cq).fenced = false

section Ring

variable {s : State} {cq : Nat}

theorem CqServes.cqRead (h : CqServes s cq) : s.cqRead cq = s.emit (.cqHeadRead cq) := by
  simp [State.cqRead, State.cqValid, State.on, h.valid, h.whole, h.open_]

theorem does_cqHeadPoll (h : CqServes s cq) (full : s.rd Reg.CQ_PEND_FULL cq = 1) :
    Does (.cqHeadPoll cq) s fun t => t = s.emit (.cqHeadRead cq) := by
  have polled : s.on Reg.CQ_PEND_FULL cq = true := by simpa [State.on] using full
  exact ⟨_, congrArg Host.Outcome.next (if_pos polled), h.cqRead⟩

/-- Arming arms the ring and reads its head (R123). -/
theorem does_cqArm (h : CqServes s cq) (addr : s.rd Reg.CQ_DESC3_NOTIFY_ADDR cq ≠ 0) : Does (.cqArm cq 1) s fun t =>
    t.rd Reg.CQ_DESC0_ARMED cq = 1 ∧ (t.cqOf cq).armRead = true ∧ t.out = s.out ++ [Out.cqHeadRead cq] := by
  let armed : State := (s.wr Reg.CQ_DESC0_ARMED cq 1).setCq cq { s.cqOf cq with armRead := true }
  have regs : Keeps State.out [Reg.CQ_DESC0_ARMED] s armed := ((Keeps.refl State.out _ s).wr Reg.CQ_DESC0_ARMED cq 1).of_eq
  have serves : CqServes armed cq :=
    ⟨(regs.rd Reg.CQ_DESC0_VALID cq).trans h.valid, (regs.rd Reg.CQ_DESC0_BROKEN cq).trans h.whole,
      (congrArg Cq.fenced (State.cqOf_setCq ..)).trans h.open_⟩
  have arms : s.cqArm cq 1 = armed.cqRead cq :=
    if_neg (by simp [State.cqValid, State.on, h.valid, h.whole, h.open_, addr, bit])
  rw [serves.cqRead] at arms
  exact ⟨_, congrArg Host.Outcome.next arms, State.rd_wr_self .., congrArg Cq.armRead (State.cqOf_setCq ..), rfl⟩

/-! The head has been read (R122, R123). -/

/-- A head read that follows no arming is kept. -/
theorem does_cqHeadReadDone (h : CqServes s cq) (unarmed : (s.cqOf cq).armRead = false) (head : Nat) :
    Does (.cqHeadReadDone cq head) s (Writes [(Reg.CQ_POS_HEAD_SEEN, cq, head % 2 ^ 32)] s) := by
  refine ⟨s.wr Reg.CQ_POS_HEAD_SEEN cq head, ?_, ?_, s.sameRegsBut_wr Reg.CQ_POS_HEAD_SEEN cq head, rfl⟩
  · show execCqHeadReadDone cq head s = _
    simp [execCqHeadReadDone, State.cqValid, State.on, h.valid, h.whole, h.open_, unarmed]
  · simp [State.rd_wr_self, show Reg.CQ_POS_HEAD_SEEN.w = 32 from rfl]

/-- After arming, a head that leaves entries not yet notified notifies at once. -/
theorem does_cqHeadReadDone_of_armed (h : CqServes s cq) {head : Nat} (read : (s.cqOf cq).armRead = true)
    (armed : s.rd Reg.CQ_DESC0_ARMED cq = 1) (left : d32 (s.rd Reg.CQ_POS_WRITTEN cq) head ≠ 0)
    (new : d32 (s.rd Reg.CQ_POS_WRITTEN cq) (s.cqOf cq).notified ≠ 0) : Does (.cqHeadReadDone cq head) s fun t =>
      t.rd Reg.CQ_POS_HEAD_SEEN cq = head % 2 ^ 32 ∧ t.rd Reg.CQ_DESC0_ARMED cq = 0 ∧ t.out = s.out ++ [Out.notify cq (s.rd Reg.CQ_POS_WRITTEN cq)] := by
  let seen : State := (s.wr Reg.CQ_POS_HEAD_SEEN cq head).setCq cq { s.cqOf cq with armRead := false }
  have runs : exec (.cqHeadReadDone cq head) s = .next (seen.cqNotify cq) := by
    show execCqHeadReadDone cq head s = _
    simp only [execCqHeadReadDone, State.cqValid, State.on, h.valid, h.whole, h.open_, read, armed]
    exact congrArg Host.Outcome.next (if_pos (And.intro rfl (And.intro left new)))
  have written : seen.rd Reg.CQ_POS_WRITTEN cq = s.rd Reg.CQ_POS_WRITTEN cq := State.rd_wr_of_key _ _ _ _ _ _ (by decide)
  refine ⟨_, runs, ?_, State.rd_wr_self .., congrArg (fun w => s.out ++ [Out.notify cq w]) written⟩
  exact (State.rd_wr_of_key _ _ _ _ _ _ (by decide)).trans (State.rd_wr_self ..)

/-! A failure (R488). -/

theorem State.mem_qpList (s : State) (q : Nat) : q ∈ s.qpList ↔ s.rd Reg.QP_DESC0_VALID q = 1 := by
  have listed : s.rd Reg.QP_DESC0_VALID q = 1 → q ∈ s.listed Reg.QP_DESC0_VALID := fun h =>
    Tbl.mem_of_get_ne (d := Reg.QP_DESC0_VALID.rst q) (h.trans_ne Nat.one_ne_zero)
  simp only [State.qpList, List.mem_filter, State.qpValid, State.on, beq_iff_eq]
  exact and_iff_right_of_imp listed

/-- The ring `cq`, on which nothing waits, as a failure leaves it. -/
def State.cqDead (s : State) (cq : Nat) : State :=
  (((s.wr Reg.CQ_DESC0_BROKEN cq 1).setCq cq { s.cqOf cq with waiting := [] }).wr Reg.CQ_PEND_PENDING cq 0).wr Reg.CQ_PEND_FULL cq 0

theorem does_cqBroken (h : CqServes s cq) {code : Nat} (isCode : code ∈ [Code.accessViolation, Code.pageTimeout, Code.hostDataError])
    (idle : (s.cqOf cq).waiting = []) (alone : ∀ q ∈ s.qpList, s.rd Reg.QP_DESC0_CQ q ≠ cq) (addr : Nat) :
    Does (.cqBroken cq code addr) s fun t => t.rd Reg.CQ_DESC0_BROKEN cq = 1 ∧ t.rd Reg.CQ_PEND_FULL cq = 0 := by
  have dead : Keeps (fun _ : State => ()) [Reg.CQ_DESC0_BROKEN, Reg.CQ_PEND_PENDING, Reg.CQ_PEND_FULL] s (s.cqDead cq) :=
    ((((Keeps.refl _ _ s).wr Reg.CQ_DESC0_BROKEN cq 1).of_eq).wr Reg.CQ_PEND_PENDING cq 0).wr Reg.CQ_PEND_FULL cq 0
  have discards : (s.wr Reg.CQ_DESC0_BROKEN cq 1).cqDiscard cq = s.cqDead cq := by
    have none_ : ((s.wr Reg.CQ_DESC0_BROKEN cq 1).cqOf cq).waiting = [] := idle
    simp only [State.cqDiscard, none_]
    rfl
  have noQp : (s.cqDead cq).qpList.filter
      (fun q => (s.cqDead cq).rd Reg.QP_DESC0_CQ q == cq && !(s.cqDead cq).legacy q && ((s.cqDead cq).linkPel q).isNone) = [] := by
    refine List.filter_eq_nil_iff.2 fun q hq => ?_
    rw [State.mem_qpList, dead.rd Reg.QP_DESC0_VALID, ← State.mem_qpList] at hq
    simp [dead.rd Reg.QP_DESC0_CQ, alone q hq]
  have runs : exec (.cqBroken cq code addr) s = .next ((s.cqDead cq).event (s.rd Reg.CQ_DESC0_TENANT cq) code 0 (evObj 1 cq) addr) := by
    have known : (code == Code.accessViolation || code == Code.pageTimeout || code == Code.hostDataError) = true := by simpa [or_assoc] using isCode
    show execCqBroken cq code addr s = _
    simp only [execCqBroken, State.cqValid, State.on, h.valid, h.whole, h.open_, known, discards, noQp]
    rfl
  have event := (s.cqDead cq).event_keeps (s.rd Reg.CQ_DESC0_TENANT cq) code 0 (evObj 1 cq) addr
  refine ⟨_, runs, ?_, ?_⟩
  · rw [event.rd Reg.CQ_DESC0_BROKEN, State.cqDead, State.rd_wr_of_key _ _ _ _ _ _ (by decide), State.rd_wr_of_key _ _ _ _ _ _ (by decide),
      State.setCq_rd, State.rd_wr_self]
    rfl
  · rw [event.rd Reg.CQ_PEND_FULL, State.cqDead, State.rd_wr_self]
    rfl

/-! Writing the oldest completion (R76, R120 to R122). -/

@[simp] theorem length_cqeBytes (e : Cqe) (path head log2 pos : Nat) : (cqeBytes e path head log2 pos).length = 32 := by simp [cqeBytes]

/-- The write of a completion entry to `pa`. -/
def State.cqeMsg (s : State) (cq pa : Nat) (e : Cqe) (p : Nat) : NearMsg :=
  { op := 1, len := 32, tenant := s.rd Reg.CQ_DESC0_TENANT cq, ctx := s.rd Reg.CQ_DESC0_CONTEXT cq, addr := pa,
    data := cqeBytes e p (s.rd Reg.QP_HEAD_HEAD e.qp) (s.rd Reg.CQ_DESC0_LOG2_SIZE cq) (s.rd Reg.CQ_POS_WRITTEN cq) }

theorem unitsOf_cqeMsg (s : State) (cq pa : Nat) (e : Cqe) (p : Nat) : unitsOf (s.cqeMsg cq pa e p) = 1 := by
  simp [unitsOf, State.cqeMsg, ceilDiv]

/-- A port sends a message of one data unit at once. -/
structure Near.Ready (n : Near) : Prop extends n.Open where
  header : 1 ≤ n.crdP
  data : 1 ≤ n.crdD

/-- The ring `cq` when its oldest entry has gone out, with `rest` behind it. -/
def State.cqAdvanced (s : State) (cq pa : Nat) (e : Cqe) (rest : List Cqe) (p : Nat) : State :=
  let s1 := s.launchP p (s.cqeMsg cq pa e p) (some (.cqe cq))
  ((s1.setCq cq { s1.cqOf cq with waiting := rest }).wr Reg.CQ_POS_WRITTEN cq (s.rd Reg.CQ_POS_WRITTEN cq + 1)).pmc 10 0x29
    (some (s.rd Reg.CQ_DESC0_TENANT cq))

theorem State.cqAdvanced_keeps (s : State) (cq pa : Nat) (e : Cqe) (rest : List Cqe) (p : Nat) :
    Keeps State.sqs (Reg.CQ_POS_WRITTEN :: pmcFields) s (s.cqAdvanced cq pa e rest p) := by
  have launched := ((s.launchP_keeps p (s.cqeMsg cq pa e p) (some (.cqe cq))).part State.sqs).mono (m := Reg.CQ_POS_WRITTEN :: pmcFields)
    fun f hf => List.mem_cons_of_mem _ hf
  unfold State.cqAdvanced
  dsimp only
  generalize s.launchP p (s.cqeMsg cq pa e p) (some (.cqe cq)) = u at launched
  have moved : Keeps State.sqs (Reg.CQ_POS_WRITTEN :: pmcFields) s (u.setCq cq { u.cqOf cq with waiting := rest }) := launched.of_eq
  exact (moved.wr Reg.CQ_POS_WRITTEN cq _).trans (((State.pmc_keeps ..).part State.sqs).mono fun f hf => List.mem_cons_of_mem _ hf)

theorem State.cqAdvanced_does (s : State) (cq pa : Nat) (e : Cqe) (rest : List Cqe) (p : Nat) :
    (s.cqAdvanced cq pa e rest p).out = s.out ++ [Out.near p (s.cqeMsg cq pa e p)] ∧
    (s.cqAdvanced cq pa e rest p).rd Reg.CQ_POS_WRITTEN cq = (s.rd Reg.CQ_POS_WRITTEN cq + 1) % 2 ^ 32 ∧
    ((s.cqAdvanced cq pa e rest p).cqOf cq).waiting = rest := by
  unfold State.cqAdvanced
  dsimp only
  generalize hu : (s.launchP p (s.cqeMsg cq pa e p) (some (.cqe cq))) = u
  have counted := ((u.setCq cq { u.cqOf cq with waiting := rest }).wr Reg.CQ_POS_WRITTEN cq (s.rd Reg.CQ_POS_WRITTEN cq + 1)).pmc_keeps 10 0x29
    (some (s.rd Reg.CQ_DESC0_TENANT cq)) 1
  refine ⟨(congrArg State.out counted.frame :).trans ?_, (counted.rd Reg.CQ_POS_WRITTEN cq).trans (State.rd_wr_self ..),
    (congrArg (fun v : State => (v.cqOf cq).waiting) counted.frame :).trans (congrArg Cq.waiting (State.cqOf_setCq ..))⟩
  rw [← State.out_launchP, hu]
  rfl

/-- Where there is room the oldest entry, all of its flushes back, goes out. -/
theorem State.cqWriteFront_of_room (h : CqServes s cq) {pa p : Nat} {e : Cqe} {rest : List Cqe} (oldest : (s.cqOf cq).waiting = e :: rest)
    (flushed : e.wait = []) (room : s.cqRoom cq = true) (head : (s.sqOf e.qp).headWritten = s.rd Reg.QP_HEAD_HEAD e.qp)
    (unarmed : s.rd Reg.CQ_DESC0_ARMED cq = 0) (path : s.pathFor (s.rd Reg.CQ_DESC0_ATTACH cq) pa = some p) (port : (s.nearOf p).Ready) :
    s.cqWriteFront cq pa = (((s.cqAdvanced cq pa e rest p).afterCqe e).cqShow cq, some e) := by
  have fits : (s.nearOf p).roomP (s.cqeMsg cq pa e p) = true :=
    Near.roomP_of_credit port.header ((unitsOf_cqeMsg ..).trans_le port.data) port.room port.up
  have sends : ((s.hostWrite (s.rd Reg.CQ_DESC0_ATTACH cq) (s.rd Reg.CQ_DESC0_TENANT cq) (s.rd Reg.CQ_DESC0_CONTEXT cq) pa
      (cqeBytes e p (s.rd Reg.QP_HEAD_HEAD e.qp) (s.rd Reg.CQ_DESC0_LOG2_SIZE cq) (s.rd Reg.CQ_POS_WRITTEN cq)) (some (.cqe cq))).1) =
        s.launchP p (s.cqeMsg cq pa e p) (some (.cqe cq)) := by
    rw [State.hostWrite, path, length_cqeBytes]
    exact State.sendP_of_room _ port.first fits
  have still : (s.cqAdvanced cq pa e rest p).on Reg.CQ_DESC0_ARMED cq = false := by
    simp [State.on, (s.cqAdvanced_keeps cq pa e rest p).rd Reg.CQ_DESC0_ARMED, unarmed]
  have whole : s.on Reg.CQ_DESC0_BROKEN cq = false := by simp [State.on, h.whole]
  simp only [State.cqWriteFront, oldest, whole, h.open_, flushed, room, head, bne_self_eq_false, Bool.or_self, Bool.not_true, ne_eq, not_true_eq_false,
    Bool.false_eq_true, if_false, path, Option.getD_some, sends]
  exact congrArg (fun u : State => ((u.afterCqe e).cqShow cq, some e)) (if_neg (ne_true_of_eq_false still))

theorem does_cqeWrite (h : CqServes s cq) {pa p : Nat} {e : Cqe} {rest : List Cqe} (oldest : (s.cqOf cq).waiting = e :: rest)
    (flushed : e.wait = []) (room : s.cqRoom cq = true) (head : (s.sqOf e.qp).headWritten = s.rd Reg.QP_HEAD_HEAD e.qp) (ordinary : e.msn = none)
    (unarmed : s.rd Reg.CQ_DESC0_ARMED cq = 0) (path : s.pathFor (s.rd Reg.CQ_DESC0_ATTACH cq) pa = some p) (port : (s.nearOf p).Ready) :
    Does (.cqeWrite cq pa) s fun t => t.out = s.out ++ [Out.near p (s.cqeMsg cq pa e p)] ∧
      t.rd Reg.CQ_POS_WRITTEN cq = (s.rd Reg.CQ_POS_WRITTEN cq + 1) % 2 ^ 32 ∧ (t.cqOf cq).waiting = rest ∧
      ∀ k, e.serial = some k → (t.sqOf e.qp).ops = dropFirst (·.serial == k) (s.sqOf e.qp).ops := by
  obtain ⟨out, pos, waiting⟩ := s.cqAdvanced_does cq pa e rest p
  have sqs : (s.cqAdvanced cq pa e rest p).sqs = s.sqs := (s.cqAdvanced_keeps cq pa e rest p).frame
  have runs : exec (.cqeWrite cq pa) s = .next (((s.cqAdvanced cq pa e rest p).afterCqe e).cqShow cq) := by
    show execCqeWrite cq pa s = _
    simp only [execCqeWrite, State.cqWriteFront_of_room h oldest flushed room head unarmed path port, State.respWritten, ordinary]
  generalize s.cqAdvanced cq pa e rest p = u at out pos waiting sqs runs
  have released := u.afterCqe_keeps e
  have shown := (u.afterCqe e).cqShow_keeps cq
  refine ⟨_, runs, ?_, ?_, ?_, fun k hk => ?_⟩
  · exact ((congrArg State.out shown.frame :).trans (congrArg State.out released.frame :)).trans out
  · rw [shown.rd Reg.CQ_POS_WRITTEN, released.rd Reg.CQ_POS_WRITTEN, pos]
  · exact ((congrArg (fun v : State => (v.cqOf cq).waiting) shown.frame :).trans
      (congrArg (fun v : State => (v.cqOf cq).waiting) released.frame :)).trans waiting
  · calc ((((u.afterCqe e).cqShow cq).sqOf e.qp).ops)
        = ((u.afterCqe e).sqOf e.qp).ops := (congrArg (fun v : State => (v.sqOf e.qp).ops) shown.frame :)
      _ = dropFirst (·.serial == k) (u.sqOf e.qp).ops := u.ops_afterCqe hk
      _ = dropFirst (·.serial == k) (s.sqOf e.qp).ops := by rw [State.sqOf, sqs]; rfl

/-- Where there is no room a full episode begins, and nothing goes out (R122). -/
theorem does_cqeWrite_of_full (h : CqServes s cq) {pa : Nat} {e : Cqe} {rest : List Cqe} (oldest : (s.cqOf cq).waiting = e :: rest)
    (flushed : e.wait = []) (noRoom : s.cqRoom cq = false) (notFull : s.rd Reg.CQ_PEND_FULL cq = 0) : Does (.cqeWrite cq pa) s fun t =>
      t.rd Reg.CQ_PEND_FULL cq = 1 ∧ t.rd Reg.CQ_PEND_FULL_EVENTS cq = (s.rd Reg.CQ_PEND_FULL_EVENTS cq + 1) % 2 ^ Reg.CQ_PEND_FULL_EVENTS.w ∧
      t.cqs = s.cqs := by
  have begins : s.cqBeginFull cq =
      (((s.wr Reg.CQ_PEND_FULL cq 1).inc Reg.CQ_PEND_FULL_EVENTS cq).event (s.rd Reg.CQ_DESC0_TENANT cq) Code.cqFull 0 (evObj 1 cq)
        (((s.wr Reg.CQ_PEND_FULL cq 1).inc Reg.CQ_PEND_FULL_EVENTS cq).free 64)).bump := if_neg (by simp [State.on, notFull])
  have runs : exec (.cqeWrite cq pa) s = .next (s.cqBeginFull cq) := by
    show execCqeWrite cq pa s = _
    simp [execCqeWrite, State.cqWriteFront, oldest, h.whole, h.open_, flushed, noRoom]
  rw [begins] at runs
  refine ⟨_, runs, ?_, ?_, (congrArg State.cqs (State.event_keeps ..).frame :)⟩
  · rw [State.bump_rd, (State.event_keeps ..).rd Reg.CQ_PEND_FULL, State.inc_eq, State.rd_wr_of_key _ _ _ _ _ _ (by decide), State.rd_wr_self]
    rfl
  · rw [State.bump_rd, (State.event_keeps ..).rd Reg.CQ_PEND_FULL_EVENTS, State.inc_eq, State.rd_wr_self,
      State.rd_wr_of_key _ _ _ _ _ _ (by decide)]

end Ring

/-! Admin rings (R125, R126). -/

section Admin

variable {s : State} {t : Nat} (bound : s.rd Reg.ADM_DESC0_BOUND t = 1)
include bound

theorem does_admSqDoorbell : Does (.admSqDoorbell t) s fun u => u = s.emit (.admRead t) :=
  ⟨_, congrArg Host.Outcome.next (if_pos (by simpa [State.on] using bound)), rfl⟩

/-- The head of the completion ring lets the response that waits be written. -/
theorem does_admCqDoorbell {head : Nat} {a : AdmEnt} (waits : (s.admOf t).held = [a]) (response : a.event = false) (lost : (s.admOf t).lost = 0)
    (room : ((s.admOf t).written + 2 ^ 32 - head % 2 ^ 32) % 2 ^ 32 < 2 ^ s.rd Reg.ADM_DESC0_CQ_LOG2 t) : Does (.admCqDoorbell t head) s fun u =>
      u.out = s.out ++ [Out.adm t (s.admOf t).written a] ∧ (u.admOf t).held = [] ∧ (u.admOf t).headSeen = head % 2 ^ 32 ∧
      (u.admOf t).written = ((s.admOf t).written + 1) % 2 ^ 32 := by
  let seen : State := s.setAdm t { s.admOf t with headSeen := head % 2 ^ 32 }
  let x : Adm := { s.admOf t with headSeen := head % 2 ^ 32, held := [], written := ((s.admOf t).written + 1) % 2 ^ 32 }
  let sent : State := (seen.setAdm t x).emit (.adm t (s.admOf t).written a)
  have here : seen.admOf t = { s.admOf t with headSeen := head % 2 ^ 32 } := State.admOf_setAdm ..
  have there : sent.admOf t = x := State.admOf_setAdm ..
  have fits : seen.admRoom t = true := by
    have on : seen.on Reg.ADM_DESC0_BOUND t = true := by simpa [State.on, seen] using bound
    simp only [State.admRoom, on, here, Bool.true_and, decide_eq_true_eq]
    exact room
  have drains : State.drainAdm t 1 seen = sent := by
    simp only [State.drainAdm, here, waits, fits, List.find?_cons, response, dropFirst, Bool.not_false, Bool.true_or, if_true]
    rfl
  have settles : seen.settleAdm t = sent.showHeld t := by
    have one : (seen.admOf t).held.length = 1 := by rw [here]; exact congrArg List.length waits
    have noLoss : sent.reportLost t = sent := if_neg (by rw [there]; exact fun h => h.1 lost)
    rw [State.settleAdm, one, drains, noLoss, there]
    rfl
  have runs : exec (.admCqDoorbell t head) s = .next (sent.showHeld t) :=
    congrArg Host.Outcome.next ((if_pos (by simpa [State.on] using bound)).trans settles)
  refine ⟨_, runs, rfl, ?_, ?_, ?_⟩ <;> rw [State.showHeld, State.admOf_wr, there]

end Admin

end Sys2Proof.Machine
end

section
/-! Legacy queue pairs (R137 to R144): entries accepted, the slots read, the doorbell and the write-back. -/

namespace Sys2Proof.Machine

open Sys2Proof Sys2Proof.Safety

/-! The opcode of a slot. -/

/-- The slot `b` with opcode `o`. -/
def slotWith (o : Nat) (b : List Byte) : List Byte := (setOpcode o [b]).headD []

theorem setOpcode_eq (o : Nat) (b : List Byte) : setOpcode o [b] = [slotWith o b] := rfl

theorem byteAt_cons_zero (x : Byte) (l : List Byte) : byteAt (x :: l) 0 = x.toNat := by simp [byteAt, leAt]

theorem opcode_slotWith {o : Nat} (h : o < 256) (b : List Byte) : (parseLegacy (slotWith o b)).opcode = o := by
  show byteAt (BitVec.ofNat 8 o :: b.drop 1) 0 = o
  rw [byteAt_cons_zero, BitVec.toNat_ofNat, Nat.mod_eq_of_lt h]

/-- A slot has its own opcode. -/
theorem slotWith_byteAt {b : List Byte} (h : b ≠ []) : slotWith (byteAt b 0) b = b := by
  cases b with
  | nil => exact absurd rfl h
  | cons x l => simp [slotWith, setOpcode, byteAt_cons_zero]

/-! Acceptance (R118, R137, R144). -/

/-- The operation that entry `e` of queue pair `q` becomes. -/
def State.newOp (s : State) (q : Nat) (e : Sqe) : Op := { serial := (s.sqOf q).serial, sqe := { e with pos := s.rd Reg.QP_HEAD_HEAD q } }

/-- The head of a legacy queue pair has passed entry `e`, which is an operation now. -/
def State.passed (s : State) (q : Nat) (e : Sqe) : State :=
  ((s.wr Reg.QP_HEAD_HEAD q ((s.rd Reg.QP_HEAD_HEAD q + 1) % (2 * s.ringSize q))).modSq q (fun (x : Sq) => { x with took := true })).addOp q
    (s.newOp q e)

section Queue

variable {s : State} {q : Nat}

@[simp] theorem State.sqOf_modSq (s : State) (q : Nat) (f : Sq → Sq) : (s.modSq q f).sqOf q = f (s.sqOf q) := State.sqOf_setSq ..
theorem State.sqOf_wr (s : State) (f : Fld) (i v q : Nat) : (s.wr f i v).sqOf q = s.sqOf q := rfl
theorem State.modSq_rd (s : State) (q : Nat) (f : Sq → Sq) (g : Fld) (i : Nat) : (s.modSq q f).rd g i = s.rd g i := rfl

theorem State.addOp_keeps (s : State) (q : Nat) (o : Op) : Keeps State.noOps outFields s (s.addOp q o) := by
  have same := Keeps.refl State.noOps outFields s
  exact .ite _ same.of_eq ((same.of_eq.wr _ _ _).wr _ _ _)

theorem State.sqOf_addOp (s : State) (q : Nat) (o : Op) :
    (s.addOp q o).sqOf q = { s.sqOf q with serial := (s.sqOf q).serial + 1, ops := (s.sqOf q).ops ++ [o] } := by
  unfold State.addOp
  dsimp only
  split
  · rw [State.sqOf_modSq]
  · rw [State.inc_eq, State.inc_eq, State.sqOf_wr, State.sqOf_wr, State.sqOf_modSq]

theorem State.passed_keeps (s : State) (q : Nat) (e : Sqe) : Keeps State.noOps (Reg.QP_HEAD_HEAD :: outFields) s (s.passed q e) := by
  have moved := (Keeps.refl State.noOps (Reg.QP_HEAD_HEAD :: outFields) s).wr Reg.QP_HEAD_HEAD q ((s.rd Reg.QP_HEAD_HEAD q + 1) % (2 * s.ringSize q))
  have took := moved.of_eq (u := (s.wr Reg.QP_HEAD_HEAD q _).modSq q fun x => { x with took := true })
  exact took.trans ((State.addOp_keeps ..).mono fun f hf => List.mem_cons_of_mem _ hf)

theorem State.sqOf_passed (s : State) (q : Nat) (e : Sqe) : (s.passed q e).sqOf q =
    { s.sqOf q with took := true, serial := (s.sqOf q).serial + 1, ops := (s.sqOf q).ops ++ [s.newOp q e] } := by
  rw [State.passed, State.sqOf_addOp, State.sqOf_modSq, State.sqOf_wr]

theorem State.head_passed (s : State) (q : Nat) (e : Sqe) :
    (s.passed q e).rd Reg.QP_HEAD_HEAD q = (s.rd Reg.QP_HEAD_HEAD q + 1) % (2 * s.ringSize q) % 2 ^ 32 := by
  rw [State.passed, (State.addOp_keeps ..).rd Reg.QP_HEAD_HEAD, State.modSq_rd, State.rd_wr_self]
  rfl

/-- A legacy queue pair takes entry `b` at its head (R118, R137, R144). -/
structure Takes (s : State) (q : Nat) (b : List Byte) : Prop where
  legacy : s.legacy q = true
  thawed : s.frozen (s.qpTenant q) = false
  left : s.legacyLeft q ≠ 0
  own : legacyOwn b = true
  capacity : s.capacity q (parseLegacy b) = true

/-- What accepting an entry does, where the entry is good and where it is bad. -/
theorem Takes.acceptNext {b : List Byte} (h : Takes s q b) (more : List (List Byte)) : s.acceptNext q (b :: more) =
    match s.entryBad q (parseLegacy b) with
    | some d => ((s.passed q (parseLegacy b)).qpError q Code.badEntry d (some (s.sqOf q).serial), .bad)
    | none => ((s.passed q (parseLegacy b)).startEntry q (s.sqOf q).serial (parseLegacy b), .yes) := by
  obtain ⟨legacy, thawed, left, own, capacity⟩ := h
  simp only [State.acceptNext, thawed, legacy, left, own, State.accept, capacity, Bool.not_true, Bool.false_eq_true, Bool.false_and, or_self, if_false,
    if_true]
  rfl

/-- What one legacy entry with opcode `o` does where the slots have been read and it is good. -/
theorem State.legacyEntry_of_good {o : Nat} {b : List Byte} (phase : (s.sqOf q).phase = .slots) (h : Takes s q (slotWith o b))
    (good : s.entryBad q (parseLegacy (slotWith o b)) = none) : s.legacyEntry q o b =
      (s.passed q (parseLegacy (slotWith o b))).startEntry q (s.sqOf q).serial (parseLegacy (slotWith o b)) := by
  rw [State.legacyEntry, if_pos ⟨phase, h.legacy⟩, setOpcode_eq, h.acceptNext, good]

/-! What an accepted entry starts (R111, R175, R253, R306). -/

/-- What the posting of a work item may write (R253, R260). -/
def workFields : List Fld := [Reg.CLU_STATUS_WORK_OCC, Reg.CLU_STATUS_HUB_USED, Reg.CLU_STEER_HOLD_COUNT]

theorem State.giveHub_keeps (s : State) (c : Nat) (w : Work) : Keeps State.sqs workFields s (s.giveHub c w).1 := by
  have same := Keeps.refl State.sqs workFields s
  unfold State.giveHub
  split
  · exact same
  · split
    · exact same
    · exact same.of_eq

theorem State.postItem_keeps (s : State) (kind q serial ctx addr len xform xarg : Nat) :
    Keeps State.sqs workFields s (s.postItem kind q serial ctx addr len xform xarg) := by
  unfold State.postItem
  dsimp only
  split
  next c _ => exact (((s.giveHub_keeps c _).of_eq.wr _ _ _).wr _ _ _)
  next => exact ((Keeps.refl State.sqs workFields s).of_eq.wr _ _ _)

/-- An entry of a message, a READ or an atomic starts its work item, or nothing. -/
theorem State.startEntry_keeps (s : State) (q serial : Nat) {e : Sqe} (low : 1 ≤ e.opcode) (high : e.opcode ≤ 5) :
    Keeps State.sqs workFields s (s.startEntry q serial e) := by
  rw [State.startEntry, if_neg (by omega), if_neg (by omega), if_neg (by omega)]
  exact .ite _ (State.postItem_keeps ..) (.refl ..)

/-- Entries of messages, READs and atomics join the operations, and the head passes them. -/
theorem legacyEntry_queued {o : Nat} {b : List Byte} (low : 1 ≤ o) (high : o ≤ 5) (phase : (s.sqOf q).phase = .slots) (h : Takes s q (slotWith o b))
    (good : s.entryBad q (parseLegacy (slotWith o b)) = none) :
    (s.legacyEntry q o b).rd Reg.QP_HEAD_HEAD q = (s.rd Reg.QP_HEAD_HEAD q + 1) % (2 * s.ringSize q) % 2 ^ 32 ∧
      ((s.legacyEntry q o b).sqOf q).ops = (s.sqOf q).ops ++ [s.newOp q (parseLegacy (slotWith o b))] := by
  have opcode := opcode_slotWith (show o < 256 by omega) b
  rw [State.legacyEntry_of_good phase h good]
  generalize parseLegacy (slotWith o b) = e at opcode
  have started := (s.passed q e).startEntry_keeps q (s.sqOf q).serial (opcode.symm ▸ low) (opcode.symm ▸ high)
  refine ⟨(started.rd Reg.QP_HEAD_HEAD q).trans (s.head_passed q e), ?_⟩
  rw [State.sqOf, started.frame, ← State.sqOf, State.sqOf_passed]

/-- The end of an operation of a legacy queue pair that has no other (R140). -/
theorem State.finishOp_of_legacy {o : Op} (legacy : s.legacy q = true) (only : (s.sqOf q).ops = [o]) (open_ : o.st ≠ .done) (status detail : Nat) :
    ((s.finishOp q o.serial status detail).sqOf q).ops = [{ o with st := .done, status, detail }] ∧
      Keeps State.noOps [Reg.QP_BAD_ENTRY_COUNT] s (s.finishOp q o.serial status detail) := by
  have runs : s.finishOp q o.serial status detail =
      if status = Code.badEntry then (s.setSq q { s.sqOf q with ops := [{ o with st := .done, status, detail }] }).inc Reg.QP_BAD_ENTRY_COUNT
      else s.setSq q { s.sqOf q with ops := [{ o with st := .done, status, detail }] } := by
    have isLegacy : s.on Reg.QP_DESC0_LEGACY q = true := legacy
    simp only [State.finishOp, only, List.find?_cons, beq_self_eq_true, open_, if_false, isLegacy, if_true, replaceFirst]
  have same := Keeps.refl State.noOps [Reg.QP_BAD_ENTRY_COUNT] s
  rw [runs]
  refine ⟨?_, .ite _ (same.of_eq.wr _ _ _) same.of_eq⟩
  split
  · rw [State.inc_eq, State.sqOf_wr, State.sqOf_setSq]
  · rw [State.sqOf_setSq]

/-- A NOP that is the only operation is done at once (R111). -/
theorem State.settleNops_of_one {o : Op} (up : s.cst q = Cst.connected) (only : (s.sqOf q).ops = [o]) (nop : o.sqe.opcode = 0)
    (queued : o.st = .queued) : s.settleNops q = s.finishOp q o.serial Code.success 0 := by
  have first : (s.sqOf q).earlierDone o.serial = true := by simp [Sq.earlierDone, only]
  simp [State.settleNops, up, only, nop, queued, first]

theorem legacyEntry_nop {b : List Byte} (phase : (s.sqOf q).phase = .slots) (h : Takes s q (slotWith 0 b))
    (good : s.entryBad q (parseLegacy (slotWith 0 b)) = none) (up : s.cst q = Cst.connected) (none_ : (s.sqOf q).ops = []) :
    (s.legacyEntry q 0 b).rd Reg.QP_HEAD_HEAD q = (s.rd Reg.QP_HEAD_HEAD q + 1) % (2 * s.ringSize q) % 2 ^ 32 ∧
      ((s.legacyEntry q 0 b).sqOf q).ops = [{ s.newOp q (parseLegacy (slotWith 0 b)) with st := .done, status := Code.success }] := by
  have opcode := opcode_slotWith (show 0 < 256 by decide) b
  rw [State.legacyEntry_of_good phase h good]
  generalize parseLegacy (slotWith 0 b) = e at opcode
  have passed := s.passed_keeps q e
  have only : ((s.passed q e).sqOf q).ops = [s.newOp q e] := by rw [State.sqOf_passed, none_]; rfl
  have starts : (s.passed q e).startEntry q (s.sqOf q).serial e = (s.passed q e).finishOp q (s.newOp q e).serial Code.success 0 := by
    rw [State.startEntry, if_neg (by omega), if_neg (by omega), if_pos opcode]
    exact State.settleNops_of_one ((passed.rd Reg.TRN_QP_T0_STATE q).trans up) only opcode rfl
  have legacy : (s.passed q e).legacy q = true := (congrArg (· == 1) (passed.rd Reg.QP_DESC0_LEGACY q)).trans h.legacy
  obtain ⟨ops, kept⟩ := State.finishOp_of_legacy legacy only (show (s.newOp q e).st ≠ .done by simp [State.newOp]) Code.success 0
  rw [starts]
  exact ⟨(kept.rd Reg.QP_HEAD_HEAD q).trans (s.head_passed q e), ops⟩

theorem legacyEntry_postRecv {b : List Byte} (phase : (s.sqOf q).phase = .slots) (h : Takes s q (slotWith 0x10 b))
    (good : s.entryBad q (parseLegacy (slotWith 0x10 b)) = none) :
    (s.legacyEntry q 0x10 b).rd Reg.QP_HEAD_HEAD q = (s.rd Reg.QP_HEAD_HEAD q + 1) % (2 * s.ringSize q) % 2 ^ 32 ∧
      ((s.legacyEntry q 0x10 b).sqOf q).ops = (s.sqOf q).ops ++ [s.newOp q (parseLegacy (slotWith 0x10 b))] ∧
      ((s.legacyEntry q 0x10 b).connOf q).recvs = (s.connOf q).recvs ++
        [{ ssn := s.rd Reg.TRN_QP_T4_RECV_POSTED q, serial := (s.sqOf q).serial, tag := 0, laddr := (parseLegacy (slotWith 0x10 b)).laddr,
           len := (parseLegacy (slotWith 0x10 b)).len }] := by
  have opcode := opcode_slotWith (show 0x10 < 256 by decide) b
  have tag : (parseLegacy (slotWith 0x10 b)).tag = 0 := rfl
  have win : (parseLegacy (slotWith 0x10 b)).localWin = false := rfl
  rw [State.legacyEntry_of_good phase h good]
  generalize parseLegacy (slotWith 0x10 b) = e at opcode tag win
  have passed := s.passed_keeps q e
  have conn : (s.passed q e).connOf q = s.connOf q := (congrArg (fun u : State => u.connOf q) passed.frame :)
  rw [State.startEntry, if_pos opcode, conn, passed.rd Reg.TRN_QP_T4_RECV_POSTED, tag, win]
  refine ⟨?_, congrArg Sq.ops (s.sqOf_passed q e), congrArg Conn.recvs (State.connOf_setConn ..)⟩
  rw [State.inc_eq, State.rd_wr_of_key _ _ _ _ _ _ (by decide), State.setConn_rd, State.head_passed]

/-- A legacy collective arms its peloton, which is ready, at once (R306). -/
theorem legacyEntry_collective {b : List Byte} {p : Nat} (phase : (s.sqOf q).phase = .slots) (h : Takes s q (slotWith 8 b))
    (good : s.entryBad q (parseLegacy (slotWith 8 b)) = none) (isPel : p = colPel true (parseLegacy (slotWith 8 b)))
    (ready : (s.pelOf p).st = .ready) (idle : (s.pelOf p).op = none) :
    (s.legacyEntry q 8 b).rd Reg.QP_HEAD_HEAD q = (s.rd Reg.QP_HEAD_HEAD q + 1) % (2 * s.ringSize q) % 2 ^ 32 ∧
      (s.legacyEntry q 8 b).pelOf p =
        { s.pelOf p with op := some (colFields true q (s.sqOf q).serial (parseLegacy (slotWith 8 b))), st := .armed } := by
  have opcode := opcode_slotWith (show 8 < 256 by decide) b
  rw [State.legacyEntry_of_good phase h good]
  generalize parseLegacy (slotWith 8 b) = e at opcode isPel
  have passed := s.passed_keeps q e
  have pel : (s.passed q e).pelOf p = s.pelOf p := (congrArg (fun u : State => u.pelOf p) passed.frame :)
  have legacy : (s.passed q e).legacy q = true := (congrArg (· == 1) (passed.rd Reg.QP_DESC0_LEGACY q)).trans h.legacy
  have starts : (s.passed q e).startEntry q (s.sqOf q).serial e =
      (s.passed q e).setPel p { s.pelOf p with op := some (colFields true q (s.sqOf q).serial e), st := .armed } := by
    have now_ : (colFields true q (s.sqOf q).serial e).launchAt = 0 := rfl
    rw [State.startEntry, if_neg (by omega), if_pos opcode, legacy, ← isPel]
    simp [State.acceptCollective, pel, ready, idle, now_]
  rw [starts]
  exact ⟨s.head_passed q e, State.pelOf_setPel ..⟩

end Queue

end Sys2Proof.Machine
end

section
/-! Legacy queue pairs: bad entries, the doorbell, the end of a read of slots and the write-back (R138, R140 to R144, R160). -/

namespace Sys2Proof.Machine

open Sys2Proof Sys2Proof.Safety

section Queue

variable {s : State} {q : Nat}

/-! The error state (R160). -/

/-- The registers of a queue pair that enters ERROR. -/
def errorFields : List Fld := [Reg.TRN_QP_T0_STATE, Reg.TRN_QP_T5_ERR_SYNDROME, Reg.TRN_QP_T5_ERR_DETAIL, Reg.QP_DESC3_SCHED_STATE]

/-- Queue pair `q` as it enters ERROR, before its operations end. -/
def State.stopped (s : State) (q code detail : Nat) : State :=
  ((((s.wr Reg.TRN_QP_T0_STATE q Cst.error).wr Reg.TRN_QP_T5_ERR_SYNDROME q code).wr Reg.TRN_QP_T5_ERR_DETAIL q detail).setSched q Sched.error).setSq q
    { s.sqOf q with phase := .none, bell := false, again := false, held := false }

theorem State.stopped_keeps (s : State) (q code detail : Nat) : Keeps State.noOps errorFields s (s.stopped q code detail) := by
  have same := Keeps.refl State.noOps errorFields s
  exact ((((same.wr Reg.TRN_QP_T0_STATE q Cst.error).wr Reg.TRN_QP_T5_ERR_SYNDROME q code).wr Reg.TRN_QP_T5_ERR_DETAIL q detail).wr
    Reg.QP_DESC3_SCHED_STATE q Sched.error).of_eq

theorem State.cst_stopped (s : State) (q code detail : Nat) : (s.stopped q code detail).cst q = Cst.error := by
  rw [State.cst, State.stopped, State.setSq_rd, State.setSched]
  simp only [State.rd_wr_of_key _ Reg.QP_DESC3_SCHED_STATE Reg.TRN_QP_T0_STATE _ _ _ (by decide),
    State.rd_wr_of_key _ Reg.TRN_QP_T5_ERR_DETAIL Reg.TRN_QP_T0_STATE _ _ _ (by decide),
    State.rd_wr_of_key _ Reg.TRN_QP_T5_ERR_SYNDROME Reg.TRN_QP_T0_STATE _ _ _ (by decide), State.rd_wr_self]
  rfl

theorem State.ops_stopped (s : State) (q code detail : Nat) : ((s.stopped q code detail).sqOf q).ops = (s.sqOf q).ops :=
  (congrArg Sq.ops (State.sqOf_setSq ..) :)

/-- Where there is no peloton no operation of one ends, and no link queue pair stalls one (R160, R316). -/
theorem State.dropPelOps_of_noPel (h : s.pels = []) : s.dropPelOps q = s := by rw [State.dropPelOps, h]; rfl
theorem State.linkError_of_noPel (h : s.pels = []) (code : Nat) (fromPeer : Bool) : s.linkError q code fromPeer = s := by
  rw [State.linkError, State.linkPel, h]; rfl

/-- The operations of a queue pair that entered ERROR end in the order of R160. -/
def State.opsEnded (s : State) (q code detail : Nat) (cause : Option Nat) : State :=
  let ops := (s.sqOf q).ops
  let first := ops.filter (fun o => cause == some o.serial)
  let acked := ops.filter (fun o => cause != some o.serial && (s.connOf q).allAcked o)
  let started := ops.filter (fun o => cause != some o.serial && !(s.connOf q).allAcked o && o.st == .started)
  let rest := ops.filter (fun o => cause != some o.serial && o.st == .queued)
  (first ++ acked ++ started ++ rest).foldl (State.endOne q code detail cause) s

/-- The message records of a queue pair are released (R160). -/
def State.recsDropped (s : State) (q : Nat) : State :=
  (s.dec Reg.TRN_RESP_REC_IN_USE 0 (s.connOf q).recs.length).setConn q (s.connOf q).dropWindows

/-- A queue pair that is not connected enters ERROR without a NAK. -/
theorem State.qpError_of_reset (reset : s.cst q = Cst.reset) (code detail : Nat) (cause : Option Nat) : s.qpError q code detail cause =
    ((((s.stopped q code detail).opsEnded q code detail cause).recsDropped q).dropPelOps q).linkError q code false := by
  have notError : ¬(s.cst q = Cst.error ∨ s.cst q = Cst.fenced) := by rw [reset]; decide
  have notUp : ¬((s.cst q = Cst.connected ∨ s.cst q = Cst.suspended) ∧ (!false) = true) := by rw [reset]; decide
  exact (if_neg notError).trans
    (congrArg (fun u : State => (((u.opsEnded q code detail cause).recsDropped q).dropPelOps q).linkError q code false) (if_neg notUp))

/-- The only operation, which is the cause, ends with the code. -/
theorem State.opsEnded_of_cause {o : Op} (only : (s.sqOf q).ops = [o]) (open_ : o.st ≠ .done) (code detail : Nat) :
    s.opsEnded q code detail (some o.serial) = s.finishOp q o.serial code detail := by
  have ends : State.endOne q code detail (some o.serial) s o = s.finishOp q o.serial code detail := by
    rw [State.endOne, if_neg open_, if_pos rfl]
  simp [State.opsEnded, only, ends]

/-- A legacy queue pair in RESET whose only operation fails: the operation is done with the code, and the queue pair is in ERROR. -/
theorem State.qpError_of_only {o : Op} (legacy : s.legacy q = true) (reset : s.cst q = Cst.reset) (only : (s.sqOf q).ops = [o]) (open_ : o.st ≠ .done)
    (noPel : s.pels = []) (code detail : Nat) :
    (s.qpError q code detail (some o.serial)).cst q = Cst.error ∧
      (s.qpError q code detail (some o.serial)).rd Reg.QP_HEAD_HEAD q = s.rd Reg.QP_HEAD_HEAD q ∧
      ((s.qpError q code detail (some o.serial)).sqOf q).ops = [{ o with st := .done, status := code, detail }] := by
  have stopped := s.stopped_keeps q code detail
  have still := (s.ops_stopped q code detail).trans only
  have cst := s.cst_stopped q code detail
  rw [State.qpError_of_reset reset]
  generalize s.stopped q code detail = v at stopped still cst
  have isLegacy : v.legacy q = true := (congrArg (· == 1) (stopped.rd Reg.QP_DESC0_LEGACY q)).trans legacy
  obtain ⟨ops, ended⟩ := State.finishOp_of_legacy isLegacy still open_ code detail
  rw [State.opsEnded_of_cause still open_]
  generalize v.finishOp q o.serial code detail = w at ops ended
  have noPelW : (w.recsDropped q).pels = [] :=
    ((congrArg State.pels ended.frame :).trans (congrArg State.pels stopped.frame :)).trans noPel
  rw [State.dropPelOps_of_noPel noPelW, State.linkError_of_noPel noPelW, State.recsDropped]
  refine ⟨?_, ?_, ops⟩
  · rw [State.cst, State.setConn_rd, State.dec_eq, State.rd_wr_of_key _ _ _ _ _ _ (by decide), ended.rd Reg.TRN_QP_T0_STATE]
    exact cst
  · rw [State.setConn_rd, State.dec_eq, State.rd_wr_of_key _ _ _ _ _ _ (by decide), ended.rd Reg.QP_HEAD_HEAD, stopped.rd Reg.QP_HEAD_HEAD]

/-- A bad entry of a queue pair in RESET is done with BAD_ENTRY, and the queue pair is in ERROR (R138). -/
theorem legacyEntry_bad {b : List Byte} (phase : (s.sqOf q).phase = .slots) (h : Takes s q b) (full : b ≠ [])
    (bad : (s.entryBad q (parseLegacy b)).isSome = true) (reset : s.cst q = Cst.reset) (none_ : (s.sqOf q).ops = []) (noPel : s.pels = []) :
    (s.legacyEntry q (byteAt b 0) b).rd Reg.QP_HEAD_HEAD q = (s.rd Reg.QP_HEAD_HEAD q + 1) % (2 * s.ringSize q) % 2 ^ 32 ∧
      (s.legacyEntry q (byteAt b 0) b).cst q = Cst.error ∧
      ∃ y, ((s.legacyEntry q (byteAt b 0) b).sqOf q).ops = [y] ∧ y.st = .done ∧ y.status = Code.badEntry := by
  obtain ⟨d, detail⟩ := Option.isSome_iff_exists.1 bad
  rw [State.legacyEntry, if_pos ⟨phase, h.legacy⟩, setOpcode_eq, slotWith_byteAt full, h.acceptNext, detail]
  generalize parseLegacy b = e
  have passed := s.passed_keeps q e
  have only : ((s.passed q e).sqOf q).ops = [s.newOp q e] := by rw [State.sqOf_passed, none_]; rfl
  have legacy : (s.passed q e).legacy q = true := (congrArg (· == 1) (passed.rd Reg.QP_DESC0_LEGACY q)).trans h.legacy
  have noPelP : (s.passed q e).pels = [] := (congrArg State.pels passed.frame :).trans noPel
  obtain ⟨cst, head, ops⟩ := State.qpError_of_only legacy ((passed.rd Reg.TRN_QP_T0_STATE q).trans reset) only
    (show (s.newOp q e).st ≠ .done by simp [State.newOp]) noPelP Code.badEntry d
  exact ⟨head.trans (s.head_passed q e), cst, _, ops, rfl, rfl⟩

/-! The doorbell and the read of slots (R142, R144). -/

theorem State.sqOf_emit (s : State) (o : Out) (q : Nat) : (s.emit o).sqOf q = s.sqOf q := rfl

/-- The scheduler fetches where it did, and a ring has its size, in a state that differs in its queue pairs and in fields of other registers. -/
theorem Keeps.mayFetch {l : List Fld} {u : State} (h : Keeps State.noOps l s u) (hs : ∀ g ∈ l, Reg.PWR_STATUS_STATE.key ≠ g.key := by decide)
    (hd : ∀ g ∈ l, Reg.PWR_STATUS_DIP_ACTIVE.key ≠ g.key := by decide) : u.mayFetch = s.mayFetch := by
  have board : u.board = s.board := (congrArg State.board h.frame :)
  rw [State.mayFetch, State.mayFetch, State.awake, State.awake, State.power, State.power, State.on, State.on, board, h.rd _ _ hs, h.rd _ _ hd]

theorem Keeps.ringSize {α : Type} {F : State → α} {l : List Fld} {u : State} (h : Keeps F l s u)
    (hz : ∀ g ∈ l, Reg.QP_DESC0_LOG2_SIZE.key ≠ g.key := by decide) : u.ringSize q = s.ringSize q := by
  rw [State.ringSize, State.ringSize, h.rd _ _ hz]

theorem Keeps.legacy {α : Type} {F : State → α} {l : List Fld} {u : State} (h : Keeps F l s u)
    (hl : ∀ g ∈ l, Reg.QP_DESC0_LEGACY.key ≠ g.key := by decide) : u.legacy q = s.legacy q := by
  rw [State.legacy, State.legacy, State.on, State.on, h.rd _ _ hl]

/-- The tail of a legacy queue pair is read as `v`, and a fetch begins. -/
def State.fetching (s : State) (q v : Nat) : State :=
  ((s.wr Reg.QP_HEAD_TAIL_SEEN q v).modSq q (fun (x : Sq) => { x with bell := false, again := false, held := false, took := false, refetches := 0 })).setSched
    q Sched.fetch

theorem State.fetching_keeps (s : State) (q v : Nat) : Keeps State.noOps [Reg.QP_HEAD_TAIL_SEEN, Reg.QP_DESC3_SCHED_STATE] s (s.fetching q v) := by
  have seen := (Keeps.refl State.noOps [Reg.QP_HEAD_TAIL_SEEN, Reg.QP_DESC3_SCHED_STATE] s).wr Reg.QP_HEAD_TAIL_SEEN q v
  exact seen.of_eq.wr Reg.QP_DESC3_SCHED_STATE q Sched.fetch

theorem does_legacyDoorbell {v : Nat} (legacy : s.legacy q = true) (valid : s.qpValid q = true) (on : s.bellOff q = false)
    (thawed : s.frozen (s.qpTenant q) = false) (fetch : s.mayFetch = true) (idle : (s.sqOf q).phase = .none) (small : v < 2 * s.ringSize q)
    (word : v < 2 ^ 32) (fits : (v + 2 * s.ringSize q - s.rd Reg.QP_HEAD_HEAD q) % (2 * s.ringSize q) ≤ s.ringSize q)
    (ahead : s.legacyLeft q ≤ (v + 2 * s.ringSize q - s.rd Reg.QP_HEAD_HEAD q) % (2 * s.ringSize q))
    (some_ : (v + 2 * s.ringSize q - s.rd Reg.QP_HEAD_HEAD q) % (2 * s.ringSize q) ≠ 0) : Does (.legacyDoorbell q v false) s fun t =>
      t.rd Reg.QP_HEAD_TAIL_SEEN q = v ∧ (t.sqOf q).phase = .slots ∧ t.sched q = Sched.fetch ∧
      t.out = s.out ++ [Out.slotsRead q (s.rd Reg.QP_HEAD_HEAD q) ((v + 2 * s.ringSize q - s.rd Reg.QP_HEAD_HEAD q) % (2 * s.ringSize q))] := by
  generalize hn : (v + 2 * s.ringSize q - s.rd Reg.QP_HEAD_HEAD q) % (2 * s.ringSize q) = n at fits ahead some_
  let seen : State := s.wr Reg.QP_HEAD_TAIL_SEEN q v
  have seenKeeps : Keeps State.noOps [Reg.QP_HEAD_TAIL_SEEN] s seen := (Keeps.refl ..).wr _ _ _
  have tailSeen : seen.rd Reg.QP_HEAD_TAIL_SEEN q = v := (State.rd_wr_self ..).trans (Nat.mod_eq_of_lt word)
  have leftSeen : seen.legacyLeft q = n := by rw [State.legacyLeft, tailSeen, seenKeeps.ringSize, seenKeeps.rd Reg.QP_HEAD_HEAD, hn]
  have kept := s.fetching_keeps q v
  have tail : (s.fetching q v).rd Reg.QP_HEAD_TAIL_SEEN q = v := by
    rw [State.fetching, State.setSched, State.rd_wr_of_key _ _ _ _ _ _ (by decide), State.modSq_rd]
    exact tailSeen
  have left : (s.fetching q v).legacyLeft q = n := by rw [State.legacyLeft, tail, kept.ringSize, kept.rd Reg.QP_HEAD_HEAD, hn]
  have asks : (s.fetching q v).readRing q = ((s.fetching q v).modSq q
      (fun (x : Sq) => { x with phase := .slots, start := s.rd Reg.QP_HEAD_HEAD q })).emit (.slotsRead q (s.rd Reg.QP_HEAD_HEAD q) n) := by
    simp [State.readRing, State.askSlots, kept.mayFetch, fetch, kept.legacy, legacy, left, kept.rd Reg.QP_HEAD_HEAD]
  have rings : seen.ring q = (s.fetching q v).readRing q := by
    have phase : (seen.sqOf q).phase = .none := idle
    simp only [State.ring, phase, State.beginFetch, leftSeen, some_, and_false, if_false]
    rfl
  have bell : s.legacyBell q v = seen.ring q := by
    have good : ¬(2 * s.ringSize q ≤ v ∨ s.ringSize q < n) := by omega
    simp only [State.legacyBell, valid, on, Nat.mod_eq_of_lt word, hn, good, Nat.not_lt.2 ahead, thawed, Bool.not_true, Bool.false_eq_true, if_false]
    rfl
  have runs : exec (.legacyDoorbell q v false) s = .next (seen.ring q) :=
    congrArg Host.Outcome.next ((if_neg (by simp [legacy])).trans bell)
  rw [rings, asks] at runs
  refine ⟨_, runs, tail, ?_, ?_, ?_⟩
  · rw [State.sqOf_emit, State.sqOf_modSq]
  · exact State.rd_wr_self ..
  · exact congrArg (· ++ [Out.slotsRead q (s.rd Reg.QP_HEAD_HEAD q) n]) (congrArg State.out kept.frame :)

theorem State.acceptNext_nil (s : State) (q : Nat) : s.acceptNext q [] = (s, .stop) := rfl

/-- Where one entry was left, none is left behind it. -/
theorem left_of_last {t h m : Nat} (below : h < m) (two : 2 ≤ m) (one : (t + m - h) % m = 1) : (t + m - (h + 1) % m) % m = 0 := by
  have split := Nat.div_add_mod (t + m - h) m
  rw [one] at split
  obtain last | more : h + 1 = m ∨ h + 1 < m := by omega
  · rw [last, Nat.mod_self]
    have : t + m - 0 = m * ((t + m - h) / m + 1) := by rw [Nat.mul_add]; omega
    rw [this, Nat.mul_mod_right]
  · rw [Nat.mod_eq_of_lt more]
    have : t + m - (h + 1) = m * ((t + m - h) / m) := by omega
    rw [this, Nat.mul_mod_right]

theorem does_legacySlotsReadDone {b : List Byte} (low : 1 ≤ (parseLegacy b).opcode) (high : (parseLegacy b).opcode ≤ 5)
    (phase : (s.sqOf q).phase = .slots) (h : Takes s q b) (one : s.legacyLeft q = 1) (good : s.entryBad q (parseLegacy b) = none)
    (below : s.rd Reg.QP_HEAD_HEAD q < 2 * s.ringSize q) (word : 2 * s.ringSize q ≤ 2 ^ 32) (noBell : (s.sqOf q).bell = false)
    (noAgain : (s.sqOf q).again = false) : Does (.legacySlotsReadDone q [b]) s fun t =>
      t.rd Reg.QP_HEAD_HEAD q = (s.rd Reg.QP_HEAD_HEAD q + 1) % (2 * s.ringSize q) ∧
      (t.sqOf q).ops = (s.sqOf q).ops ++ [s.newOp q (parseLegacy b)] ∧ t.sched q = Sched.idle ∧ (t.sqOf q).phase = .none := by
  have accepts : s.acceptNext q [b] = ((s.passed q (parseLegacy b)).startEntry q (s.sqOf q).serial (parseLegacy b), .yes) :=
    (h.acceptNext []).trans (by rw [good])
  generalize parseLegacy b = e at low high accepts
  have passed := s.passed_keeps q e
  have sq := s.sqOf_passed q e
  have head := s.head_passed q e
  have two : 2 ≤ 2 * s.ringSize q := by have := Nat.two_pow_pos (s.rd Reg.QP_DESC0_LOG2_SIZE q); rw [State.ringSize]; omega
  rw [Nat.mod_eq_of_lt (show (s.rd Reg.QP_HEAD_HEAD q + 1) % (2 * s.ringSize q) < 2 ^ 32 from
    (Nat.mod_lt _ (by omega)).trans_le word)] at head
  have started := (s.passed q e).startEntry_keeps q (s.sqOf q).serial low high
  generalize hu : (s.passed q e).startEntry q (s.sqOf q).serial e = u at accepts started
  generalize s.passed q e = v at passed sq head started
  have sqU : u.sqOf q = v.sqOf q := by rw [State.sqOf, started.frame]; rfl
  have headU : u.rd Reg.QP_HEAD_HEAD q = (s.rd Reg.QP_HEAD_HEAD q + 1) % (2 * s.ringSize q) := (started.rd Reg.QP_HEAD_HEAD q).trans head
  have left : u.legacyLeft q = 0 := by
    rw [State.legacyLeft, headU, started.rd Reg.QP_HEAD_TAIL_SEEN, passed.rd Reg.QP_HEAD_TAIL_SEEN, started.ringSize, passed.ringSize]
    exact left_of_last below two one
  have legacy : u.legacy q = true := (started.legacy.trans passed.legacy).trans h.legacy
  have all : State.acceptAll q 2 [b] s = (u, .stop) := by
    simp only [State.acceptAll, accepts, h.legacy, if_true, List.drop_succ_cons, List.drop_zero, State.acceptNext_nil]
  have ends : u.endRead q .stop = (u.modSq q (fun (x : Sq) => { x with phase := .none })).setSched q Sched.idle := by
    simp [State.endRead, State.reached, legacy, left, State.showHead, sqU, sq, noBell, noAgain]
  have runs : exec (.legacySlotsReadDone q [b]) s = .next (u.endRead q .stop) := by
    refine congrArg Host.Outcome.next ((if_pos ⟨phase, h.legacy⟩).trans ?_)
    exact congrArg (fun r : State × Took => r.1.endRead q r.2) all
  rw [ends] at runs
  refine ⟨_, runs, ?_, ?_, ?_, ?_⟩
  · rw [State.setSched, State.rd_wr_of_key _ _ _ _ _ _ (by decide), State.modSq_rd, headU]
  · rw [State.setSched, State.sqOf_wr, State.sqOf_modSq, sqU, sq]
  · exact State.rd_wr_self ..
  · rw [State.setSched, State.sqOf_wr, State.sqOf_modSq]

/-! The write-back (R140, R141). -/

/-- The oldest operation, done, with no flush to wait for, is written back at its place and released. -/
theorem does_legacyWriteback {a : Op} {rest : List Op} (legacy : s.legacy q = true) (oldest : (s.sqOf q).ops = a :: rest) (done : a.st = .done)
    (serves : s.sched q ≠ Sched.fenced) (unflushed : (s.sqOf q).wbFlush = none) (noPath : a.paths = 0) (noRec : (s.connOf q).recs = []) :
    Does (.legacyWriteback q) s fun t => t.out = s.out ++ [Out.writeBack q a.sqe.pos (legacyBytes a (legacyImm a))] ∧ (t.sqOf q).ops = rest := by
  let shown : State := (s.modSq q (fun (x : Sq) => { x with wbFlush := none })).emit (.writeBack q a.sqe.pos (legacyBytes a (legacyImm a)))
  have released := shown.releaseOp_keeps q a.serial
  have recs : ((shown.releaseOp q a.serial).connOf q).recs = [] := (congrArg (fun u : State => (u.connOf q).recs) released.frame :).trans noRec
  have writes : s.writeBackFront q a = shown.releaseOp q a.serial := by
    simp only [State.writeBackFront, show ((((s.modSq q (fun (x : Sq) => { x with wbFlush := none })).emit
      (.writeBack q a.sqe.pos (legacyBytes a (legacyImm a)))).releaseOp q a.serial).connOf q).recs = [] from recs, List.find?_nil]
    rfl
  have noPort : portsOf 0 = [] := by decide
  have runs : exec (.legacyWriteback q) s = .next (s.writeBackFront q a) := by
    show execLegacyWriteback q s = _
    simp [execLegacyWriteback, legacy, oldest, done, serves, unflushed, noPath, noPort]
  have before : (shown.sqOf q).ops = a :: rest := by rw [State.sqOf_emit, State.sqOf_modSq]; exact oldest
  rw [writes] at runs
  refine ⟨_, runs, (congrArg State.out released.frame :), ?_⟩
  rw [State.ops_releaseOp, before]
  simp [dropFirst]

end Queue

end Sys2Proof.Machine

open Sys2Proof Sys2Proof.Machine Sys2Proof.Safety

/-- Settles O31: a ring that serves for the first part; for the second, what taking one entry of a legacy queue pair does, by its opcode. -/
theorem completionAndLegacyRings : Obligations.CompletionAndLegacyRings := by
  refine ⟨fun s cq h pa p code addr ten e rest a => ⟨fun valid whole open_ => ?_, fun bound => ?_⟩, fun s q v b a rest legacy full => ?_⟩
  · have serves : CqServes s cq := ⟨valid, whole, open_⟩
    refine ⟨⟨_, rfl, serves.cqRead⟩, does_cqHeadPoll serves, does_cqArm serves, fun unarmed => does_cqHeadReadDone serves unarmed h,
      does_cqHeadReadDone_of_armed serves, fun isCode idle alone => does_cqBroken serves isCode idle alone addr, fun oldest flushed => ⟨?_, ?_⟩⟩
    · intro room head ordinary unarmed path first header data replay up
      exact does_cqeWrite serves oldest flushed room head ordinary unarmed path ⟨⟨first, replay, up⟩, header, data⟩
    · exact does_cqeWrite_of_full serves oldest flushed
  · exact ⟨does_admSqDoorbell bound, does_admCqDoorbell bound⟩
  · intro x h m e new ready taken queued
    have takes : ∀ o, ready o → Takes s q (slotWith o b) := fun _ ⟨_, thawed, left, own, capacity⟩ => ⟨legacy, thawed, left, own, capacity⟩
    have joins (o : Nat) (low : 1 ≤ o) (high : o ≤ 5) (k : Instr) (runs : exec k s = .next (s.legacyEntry q o b)) : queued k o := fun good r =>
      ⟨_, runs, legacyEntry_queued low high r.1 (takes o r) good⟩
    refine ⟨⟨?_, ?_, ?_, ?_, ?_⟩, ?_, ?_, ?_, ?_, ?_, ?_, ?_⟩
    · exact joins 1 (by decide) (by decide) _ rfl
    · exact joins 2 (by decide) (by decide) _ rfl
    · exact joins 3 (by decide) (by decide) _ rfl
    · exact joins 4 (by decide) (by decide) _ rfl
    · exact joins 5 (by decide) (by decide) _ rfl
    · exact fun good up none_ r => ⟨_, rfl, legacyEntry_nop r.1 (takes 0 r) good up none_⟩
    · exact fun good r => ⟨_, rfl, legacyEntry_postRecv r.1 (takes 0x10 r) good⟩
    · rintro p _ isPel rfl good pelReady idle r
      exact ⟨_, rfl, legacyEntry_collective r.1 (takes 8 r) good isPel pelReady idle⟩
    · intro bad reset none_ noPel r
      have own := takes (byteAt b 0) r
      rw [slotWith_byteAt full] at own
      exact ⟨_, congrArg Host.Outcome.next (if_pos bad), legacyEntry_bad r.1 own full bad reset none_ noPel⟩
    · exact fun valid on thawed fetch idle small word fits ahead some_ =>
        does_legacyDoorbell legacy valid on thawed fetch idle small word fits ahead some_
    · intro low high phase thawed one own capacity good below word noBell noAgain
      exact does_legacySlotsReadDone low high phase ⟨legacy, thawed, by rw [one]; decide, own, capacity⟩ one good below word noBell noAgain
    · exact fun oldest done serves unflushed noPath noRec => does_legacyWriteback legacy oldest done serves unflushed noPath noRec
end

section
/-! Requests to an accelerator (R57, R60), invalidations (R93, R94), and the completions of a walk's table reads and CSWAPs (R89, R91). -/

namespace Sys2Proof.Machine

open Sys2Proof Sys2Proof.Safety

/-! Requests to an accelerator (R57, R60): they write the near link and the counters of the counter unit. -/

theorem State.rouse_keeps_xlt (s : State) (p : Nat) : Keeps State.xlt pmcFields s (s.rouse p) := .ite _ (Keeps.refl ..).of_eq (.refl ..)

theorem State.sendP_keeps_xlt (s : State) (p : Nat) (m : NearMsg) (u : Option User) : Keeps State.xlt pmcFields s (s.sendP p m u) :=
  .ite _ ((s.launchP_keeps p m u).part State.xlt) ((Keeps.refl ..).of_eq.trans (State.rouse_keeps_xlt ..))

theorem State.launchNp_keeps_xlt (s : State) (p : Nat) (r : NpReq) : Keeps State.xlt pmcFields s (s.launchNp p r) := by
  have placed (n : Near) : Keeps State.xlt pmcFields s (s.setNear p n) := (Keeps.refl ..).of_eq
  exact ((placed _).trans ((State.countFlit_keeps ..).part State.xlt)).of_eq

theorem State.sendNp_keeps_xlt (s : State) (p : Nat) (kind : NpKind) (user : User) (m : NearMsg) :
    Keeps State.xlt pmcFields s (s.sendNp p kind user m) := by
  have placed (n : Near) : Keeps State.xlt pmcFields s (s.setNear p n) := (Keeps.refl ..).of_eq
  exact .ite _ ((placed _).trans (State.launchNp_keeps_xlt ..)) (((Keeps.refl ..).of_eq).trans (State.rouse_keeps_xlt ..))

theorem State.hostRequest_keeps_xlt (s : State) (e : Nat) (kind : NpKind) (user : User) (m : NearMsg) :
    Keeps State.xlt pmcFields s (s.hostRequest e kind user m) := by
  unfold State.hostRequest
  split
  · exact State.sendNp_keeps_xlt ..
  · exact (Keeps.refl ..).of_eq

theorem State.readTable_keeps_xlt (s : State) (w : Walk) : Keeps State.xlt pmcFields s (s.readTable w) := State.hostRequest_keeps_xlt ..

/-! Cached translations (R93). -/

/-- What a table of lists holds under a number is in one of its lists. -/
theorem Tbl.mem_of_mem_get {α : Type} {k : Nat} {x : α} {m : Tbl (List α)} (h : x ∈ Tbl.get [] k m) : ∃ e ∈ m, x ∈ e.2 := by
  induction m with
  | nil => cases h
  | cons e m ih =>
    rw [Tbl.get] at h
    split at h
    · exact ⟨e, List.mem_cons_self, h⟩
    · obtain ⟨a, ha, hx⟩ := ih h
      exact ⟨a, List.mem_cons_of_mem _ ha, hx⟩

/-- Does an invalidation cover a cached translation? -/
def Inval.coversTlb (v : Inval) (x : Tlb) : Bool := v.covers x.tenant x.ctx (x.vpn * 2 ^ x.shift) x.shift

theorem State.marked_of_markInval {s : State} {v : Inval} {c : Nat} {x : Tlb} (h : x ∈ (s.markInval v).tlbOf c)
    (covered : v.coversTlb x = true) : x.marked = true := by
  obtain ⟨l, hl, hx⟩ := Tbl.mem_of_mem_get h
  obtain ⟨l, -, rfl⟩ := List.mem_map.1 hl
  obtain ⟨y, -, rfl⟩ := List.mem_map.1 hx
  by_cases hy : v.coversTlb y = true
  · exact congrArg Tlb.marked (if_pos hy)
  · have stays : (if v.coversTlb y = true then { y with marked := true } else y) = y := if_neg hy
    exact absurd (stays ▸ covered) hy

theorem State.unmarked_of_sweepInval {s : State} {v : Inval} {c : Nat} {x : Tlb} (h : x ∈ (s.sweepInval v).tlbOf c)
    (covered : v.coversTlb x = true) : x.marked = false := by
  obtain ⟨l, hl, hx⟩ := Tbl.mem_of_mem_get h
  obtain ⟨l, -, rfl⟩ := List.mem_map.1 (List.mem_filter.1 hl).1
  have kept : (!(x.marked && v.coversTlb x)) = true := (List.mem_filter.1 hx).2
  simpa [covered] using kept

/-! INVAL (R93, R94). -/

/-- Where no path has carried a write that is not flushed, an invalidation sends no flush: it only marks. -/
theorem State.startInval_of_flushed {s : State} (v : Inval)
    (flushed : ∀ q < 8, (s.nearOf q).unflushed = false ∧ ∀ x ∈ (s.nearOf q).np, x.kind ≠ .flush) : s.startInval v = s.markInval v := by
  refine List.foldlRecOn (motive := (· = s.markInval v)) _ _ rfl fun u hu q hq => ?_
  obtain ⟨clean, none_⟩ := flushed q (List.mem_range.1 hq)
  have noFlush : ¬(((s.nearOf q).unflushed = true) ∨ (s.nearOf q).np.any (fun r => r.kind == .flush) = true) := by simpa [clean] using none_
  subst hu
  exact if_neg fun sends => noFlush sends.2

/-- The number of an INVAL is noted for its slot, and a gap before it counted (R94). -/
def State.noteSeq (s : State) (e seq : Nat) : State :=
  let s1 := if (s.epOf e).invAny ∧ seq ≠ (s.rd Reg.XLT_INV_SEQ_LAST_RCVD e + 1) % 2 ^ 32 then s.inc Reg.XLT_INV_SEQ_GAP_COUNT else s
  (s1.setEp e { s1.epOf e with invAny := true }).wr Reg.XLT_INV_SEQ_LAST_RCVD e seq

theorem State.noteSeq_keeps (s : State) (e seq : Nat) :
    Keeps (fun t => (t.near, t.xlt)) [Reg.XLT_INV_SEQ_GAP_COUNT, Reg.XLT_INV_SEQ_LAST_RCVD] s (s.noteSeq e seq) := by
  have same := Keeps.refl (fun t : State => (t.near, t.xlt)) [Reg.XLT_INV_SEQ_GAP_COUNT, Reg.XLT_INV_SEQ_LAST_RCVD] s
  have counted := Keeps.ite ((s.epOf e).invAny = true ∧ seq ≠ (s.rd Reg.XLT_INV_SEQ_LAST_RCVD e + 1) % 2 ^ 32)
    (same.wr Reg.XLT_INV_SEQ_GAP_COUNT 0 (s.rd Reg.XLT_INV_SEQ_GAP_COUNT + 1)) same
  exact counted.of_eq.wr _ _ _

/-- Adds an invalidation to those in progress. -/
def State.addInval (s : State) (v : Inval) : State := { s with xlt := { s.xlt with invals := s.xlt.invals ++ [v] } }

/-- Adds an invalidation, which starts within the limit of 256 and else is held back (R94). -/
def State.admitInval (s : State) (v : Inval) : State :=
  let v' := { v with marked := decide (s.activeInvals v.slot < 256) }
  if v'.marked then (s.addInval v').startInval v' else s.addInval v'

theorem State.admitInval_of_room {s : State} {v : Inval} (marks : v.marked = true) (room : s.activeInvals v.slot < 256) :
    s.admitInval v = (s.addInval v).startInval v := by
  have same : { v with marked := decide (s.activeInvals v.slot < 256) } = v := by rw [decide_eq_true room, ← marks]
  rw [State.admitInval, same]
  exact if_pos marks

/-- The invalidation that an INVAL of slot `e` on path `p` asks for: of the page range at its address, of a context or of a tenant. -/
def invalOf (e p : Nat) (m : NearMsg) (size : Nat) (wholeCtx wholeTen : Bool) : Inval :=
  { seq := m.opspec % 2 ^ 32, slot := e, path := p, tenant := m.tenant, ctx := m.ctx, base := m.addr, size, wholeCtx, wholeTen }

/-- Is the SIZE of an INVAL none that a range may have (R93)? -/
def oddRange (body : Nat) : Bool := !(bit body 6 || bit body 7) && (decide (bits body 0 6 < 12) || decide (57 < bits body 0 6))

theorem State.rxInval_eq (s : State) (p : Nat) (m : NearMsg) (body : Nat) (hb : leAt m.data 0 8 = body) : s.rxInval p m =
    ((if oddRange body then s.protocolError p 0 m.op m.tag else s).noteSeq (s.nearOf p).slot (m.opspec % 2 ^ 32)).admitInval
      (invalOf (s.nearOf p).slot p m (max 12 (bits body 0 6)) (bit body 6 || (oddRange body && decide (57 < bits body 0 6))) (bit body 7)) := by
  subst hb
  rfl

/-- An INVAL of a range of 4 KiB to 2^57 bytes, within the limit of 256, is noted and starts. -/
theorem State.rxInval_of_range {s : State} {p n : Nat} {m : NearMsg} (size : leAt m.data 0 8 = n) (low : 12 ≤ n) (high : n ≤ 57)
    (room : s.activeInvals (s.nearOf p).slot < 256) :
    let v := invalOf (s.nearOf p).slot p m n false false
    s.rxInval p m = ((s.noteSeq v.slot v.seq).addInval v).startInval v := by
  have size6 : bits n 0 6 = n := by unfold bits; omega
  have noCtx : bit n 6 = false := by unfold bit; simp; omega
  have noTen : bit n 7 = false := by unfold bit; simp; omega
  have even : oddRange n = false := by simp [oddRange, size6, low, high]
  have same : (s.noteSeq (s.nearOf p).slot (m.opspec % 2 ^ 32)).xlt = s.xlt := (congrArg Prod.snd (s.noteSeq_keeps _ _).frame :)
  rw [State.rxInval_eq s p m n size, even, size6, noCtx, noTen, max_eq_right low]
  refine State.admitInval_of_room rfl ?_
  show ((s.noteSeq (s.nearOf p).slot (m.opspec % 2 ^ 32)).xlt.invals.filter _).length < 256
  rw [same]
  exact room

theorem does_inval {s : State} {p n : Nat} {m : NearMsg} (up : s.pathIsUp p = true) (size : leAt m.data 0 8 = n) (low : 12 ≤ n) (high : n ≤ 57)
    (room : s.activeInvals (s.nearOf p).slot < 256)
    (flushed : ∀ q < 8, (s.nearOf q).unflushed = false ∧ ∀ x ∈ (s.nearOf q).np, x.kind ≠ .flush) :
    let v := invalOf (s.nearOf p).slot p m n false false
    Does (.inval p m) s fun t => t.xlt.invals = s.xlt.invals ++ [v] ∧ t.rd Reg.XLT_INV_SEQ_LAST_RCVD v.slot = v.seq ∧
      ∀ c, ∀ x ∈ t.tlbOf c, v.coversTlb x = true → x.marked = true := by
  intro v
  let noted := s.noteSeq v.slot v.seq
  have kept := (s.noteSeq_keeps v.slot v.seq).frame
  have near : noted.near = s.near := congrArg Prod.fst kept
  have invals : noted.xlt.invals = s.xlt.invals := congrArg (fun x : Tbl Near × Xlt => x.2.invals) kept
  have marks : (noted.addInval v).startInval v = (noted.addInval v).markInval v := by
    refine State.startInval_of_flushed v fun q hq => ?_
    show (Tbl.get _ q noted.near).unflushed = false ∧ ∀ x ∈ (Tbl.get _ q noted.near).np, _
    rw [near]
    exact flushed q hq
  have runs : exec (.inval p m) s = .next ((noted.addInval v).markInval v) := by
    show Host.Outcome.next (if s.pathIsUp p = true then s.rxInval p m else s) = _
    rw [if_pos up, State.rxInval_of_range size low high room, marks]
  refine ⟨_, runs, congrArg (· ++ [v]) invals, ?_, fun c x hx => State.marked_of_markInval hx⟩
  exact (State.rd_wr_self ..).trans (Nat.mod_eq_of_lt (Nat.mod_lt _ (by decide)))

/-! INVAL_DRAINED (R93, R94). -/

/-- The INVAL_ACK of an invalidation. -/
def Inval.ack (v : Inval) : NearMsg := { op := 0x09, tenant := v.tenant, ctx := v.ctx, opspec := v.seq }

/-- The state with these invalidations in progress. -/
def State.setInvals (s : State) (l : List Inval) : State := { s with xlt := { s.xlt with invals := l } }

theorem State.nextInval_of_nil {s : State} (e : Nat) (none_ : s.xlt.invals = []) : s.nextInval e = s := by
  simp [State.nextInval, none_]

/-- The only invalidation, whose uses have drained, is acknowledged on the path it came on. -/
theorem State.ackInvals_of_drained {s : State} {v : Inval} (alone : s.xlt.invals = [v]) (drained : v.drained = true)
    (up : v.path ∈ s.upPaths v.slot) : State.ackInvals v.slot 1 s =
      (((s.setInvals []).pmc 11 0x34 (some v.tenant)).wr Reg.XLT_INV_SEQ_LAST_ACKED v.slot v.seq).sendP v.path v.ack none := by
  have idle : ((s.setInvals []).pmc 11 0x34 (some v.tenant)).nextInval v.slot = (s.setInvals []).pmc 11 0x34 (some v.tenant) :=
    State.nextInval_of_nil _ (congrArg (fun t : State => t.xlt.invals) (State.pmc_keeps ..).frame :)
  simp only [State.setInvals] at idle
  simp [State.ackInvals, alone, drained, up, dropFirst, idle, State.setInvals, Inval.ack]

theorem does_invalDrained {s : State} {v : Inval} (alone : s.xlt.invals = [v]) (word : v.seq < 2 ^ 32) (marked : v.marked = true)
    (uses : v.drained = false) (calm : s.invalBusy v.slot v.seq = false) (up : v.path ∈ s.upPaths v.slot) (first : (s.nearOf v.path).waitP = [])
    (header : 1 ≤ (s.nearOf v.path).crdP) (replay : (s.nearOf v.path).replay.length < 512) (awake : (s.nearOf v.path).resting = false) :
    Does (.invalDrained v.slot v.seq) s fun t => t.xlt.invals = [] ∧ t.rd Reg.XLT_INV_SEQ_LAST_ACKED v.slot = v.seq ∧
      t.out = s.out ++ [.near v.path v.ack] ∧ ∀ c, ∀ x ∈ t.tlbOf c, v.coversTlb x = true → x.marked = false := by
  let v' : Inval := { v with drained := true }
  let swept := (s.sweepInval v).setInvals []
  let acked := (swept.pmc 11 0x34 (some v.tenant)).wr Reg.XLT_INV_SEQ_LAST_ACKED v.slot v.seq
  have counted := swept.pmc_keeps 11 0x34 (some v.tenant) 1
  have runs : exec (.invalDrained v.slot v.seq) s = .next (State.ackInvals v.slot 1 ((s.sweepInval v).setInvals [v'])) := by
    show execInvalDrained v.slot v.seq s = _
    have left : (s.sweepInval v).xlt.invals = [v] := alone
    simp [execInvalDrained, alone, marked, uses, calm, left, replaceFirst, State.setInvals, v']
  have port : acked.nearOf v.path = s.nearOf v.path := (congrArg (fun t : State => t.nearOf v.path) counted.frame :)
  have room : (acked.nearOf v.path).roomP v.ack = true := by
    have noData : unitsOf v.ack = 0 := by simp [unitsOf, Inval.ack, ceilDiv]
    rw [port]
    exact Near.roomP_of_credit header (noData ▸ Nat.zero_le _) replay awake
  have acks : State.ackInvals v.slot 1 ((s.sweepInval v).setInvals [v']) = acked.sendP v.path v.ack none :=
    State.ackInvals_of_drained (s := (s.sweepInval v).setInvals [v']) (v := v') rfl rfl up
  have sent := acked.launchP_keeps v.path v.ack none
  have xlt : (acked.launchP v.path v.ack none).xlt = swept.xlt := (congrArg State.xlt sent.frame).trans (congrArg State.xlt counted.frame :)
  rw [acks, State.sendP_of_room none (by rw [port]; exact first) room] at runs
  refine ⟨_, runs, congrArg Xlt.invals xlt, ?_, ?_, fun c x hx => State.unmarked_of_sweepInval (s := s) (c := c) ?_⟩
  · rw [sent.rd Reg.XLT_INV_SEQ_LAST_ACKED, State.rd_wr_self]
    exact Nat.mod_eq_of_lt word
  · rw [State.out_launchP]
    exact congrArg (· ++ _) (congrArg State.out counted.frame :)
  · rw [State.tlbOf, xlt] at hx
    exact hx

/-! Walks (R89, R91). -/

theorem find?_replaceFirst {α : Type} {p : α → Bool} {l : List α} {x : α} (h : (l.find? p).isSome) (hx : p x = true) :
    (replaceFirst p (fun _ => x) l).find? p = some x := by
  induction l with
  | nil => cases h
  | cons a l ih =>
    rw [replaceFirst]
    split
    · exact List.find?_cons_of_pos hx
    · next ha =>
      rw [List.find?_cons_of_neg ha] at h ⊢
      exact ih h

theorem State.walkOf_id {s : State} {id : Nat} {w : Walk} (h : s.walkOf id = some w) : w.id = id := by
  simpa using List.find?_some h

/-- A walk that moves on to read a table is the one in progress under its number. -/
theorem State.walkOf_readTable_putWalk {s : State} {id : Nat} {w x : Walk} (there : s.walkOf id = some w) (same : x.id = w.id) :
    ((s.putWalk x).readTable x).walkOf id = some x := by
  obtain rfl := same.trans (State.walkOf_id there)
  have xlt := (State.readTable_keeps_xlt (s.putWalk x) x).frame
  rw [State.walkOf, xlt]
  exact find?_replaceFirst (by rw [show s.xlt.walks.find? (·.id == x.id) = some w from there]; rfl) (beq_self_eq_true _)

/-- The request with a tag on a port has been answered. -/
def State.answered (s : State) (p tag : Nat) : State := s.setNear p { s.nearOf p with np := dropFirst (·.tag == tag) (s.nearOf p).np }

/-- A completion with data that is the last of its request ends it. -/
theorem State.completion_of_data {s : State} {p tag : Nat} {r : NpReq} (asked : s.npOf p tag = some r) (data : List Byte) :
    s.completion p { op := 6, tag, data } = (s.answered p tag).npBack p r 0 0 data true := by
  simp [State.completion, asked, State.answered]

theorem exec_walkReadDone {s : State} {p tag value id : Nat} {r : NpReq} (up : s.pathIsUp p = true) (asked : s.npOf p tag = some r)
    (user : r.user = .walk id) (table : r.kind = .table) (word : value < 2 ^ 64) :
    exec (.walkReadDone p tag 0 value) s = .next ((s.answered p tag).walkRead id 0 value) := by
  have back : leNat ((leBytes 8 value).take 8) = value := by
    rw [List.take_of_length_le (by simp), leNat_leBytes]
    exact Nat.mod_eq_of_lt word
  show execWalkReadDone p tag 0 value s = _
  simp [execWalkReadDone, asked, table, up, State.completion_of_data asked, State.npBack, user, back]

theorem exec_adUpdateDone {s : State} {p tag id : Nat} {r : NpReq} (up : s.pathIsUp p = true) (asked : s.npOf p tag = some r)
    (user : r.user = .walk id) (update : r.kind = .adUpdate) (value : Nat) :
    exec (.adUpdateDone p tag 0 value) s = .next ((s.answered p tag).walkAd id 0 (leBytes 8 value == r.msg.data.take 8)) := by
  have whole : (leBytes 8 value).take 8 = leBytes 8 value := List.take_of_length_le (by simp)
  show execAdUpdateDone p tag 0 value s = _
  simp [execAdUpdateDone, asked, update, up, State.completion_of_data asked, State.npBack, user, whole]

/-- An entry that names a table takes the walk one level down. -/
theorem State.walkEntry_of_table {s : State} {w : Walk} {pte pfn id : Nat} (there : s.walkOf id = some w)
    (table : pteCheck w.tenant w.level (s.epOf w.att).paBits pte = .table pfn) :
    (State.applyFx (s.walkEntry w pte)).walkOf id = some { w with level := w.level - 1, table := pfn, wOk := w.wOk && bit pte 1 } := by
  simp only [State.walkEntry, table]
  refine State.walkOf_readTable_putWalk (w := w) ?_ rfl
  split <;> exact there

@[simp] theorem State.tlbOf_setTlb (s : State) (c : Nat) (l : List Tlb) : (s.setTlb c l).tlbOf c = l := Tbl.get_set_self ..

/-- A translation enters an empty cache. -/
theorem State.tlbFill_of_empty {s : State} {c : Nat} (empty : s.tlbOf c = []) (e : Tlb) : s.tlbFill c e = s.setTlb c [e] := by
  cases h : s.tlbQuota e.tenant <;> simp [State.tlbFill, empty, h]

/-- The translation that a walk installs (R90). -/
def Walk.entry (w : Walk) (wOk : Bool) (shift pfn : Nat) (d : Bool) : Tlb :=
  { tenant := w.tenant, ctx := w.ctx, shift, vpn := w.va / 2 ^ shift, pfn, w := wOk, d, att := w.att }

/-- The only walk, for which nobody waits, ends at a leaf: its translation enters the empty cache. -/
theorem State.walkLeaf_of_alone {s : State} {w : Walk} (alone : s.xlt.walks = [w]) (nobody : w.waiters = []) (noFault : w.fault = none)
    (empty : s.tlbOf w.cluster = []) (wOk : Bool) (shift pfn : Nat) (d : Bool) : s.walkLeaf w wOk shift pfn d =
      (((s.setWalks []).setTlb w.cluster [w.entry wOk shift pfn d]).inc Reg.XLT_WALK_COUNT_COUNT, {}) := by
  have ended : s.dropWalk w.id = s.setWalks [] := by simp [State.dropWalk, alone, dropFirst]
  have fills := State.tlbFill_of_empty (s := s.setWalks []) empty (w.entry wOk shift pfn d)
  have ends : (s.dropWalk w.id).tlbFill w.cluster (w.entry wOk shift pfn d) = (s.setWalks []).setTlb w.cluster [w.entry wOk shift pfn d] := by
    rw [ended, fills]
  have noWalk (c : Nat) (l : List Tlb) (u : State) : State.serveWalks ((s.setWalks []).setTlb c l).xlt.walks u = u := rfl
  simp only [Walk.entry] at ends ⊢
  simp [State.walkLeaf, noFault, ends, noWalk, nobody, State.walkWaiters]

/-! What the completions of a walk do where no invalidation covers it. -/

theorem State.walkRead_of_valid {s : State} {id : Nat} {w : Walk} (there : s.walkOf id = some w) (valid : w.restart = false) (pte : Nat) :
    s.walkRead id 0 pte = State.applyFx (s.walkEntry w pte) := by
  simp [State.walkRead, there, valid]

theorem State.walkAd_of_changed {s : State} {id : Nat} {w : Walk} (there : s.walkOf id = some w) :
    s.walkAd id 0 false = s.restartWalk w := by
  simp [State.walkAd, there]

theorem State.walkAd_of_same {s : State} {id shift pte : Nat} {w : Walk} (there : s.walkOf id = some w) (valid : w.restart = false)
    (leaf : w.leaf = some (shift, pte)) :
    s.walkAd id 0 true = State.applyFx (s.walkLeaf w w.wOk shift (bits pte 12 44) (bit pte 4)) := by
  simp [State.walkAd, there, valid, leaf]

/-! The commands of a walk. -/

section Walks

variable {s : State} {p tag value id : Nat} {w : Walk} {r : NpReq}

variable (up : s.pathIsUp p = true) (asked : s.npOf p tag = some r) (user : r.user = .walk id) (there : s.walkOf id = some w)
include up asked user there

theorem does_walkReadDone_of_table {pfn : Nat} (valid : w.restart = false) (word : value < 2 ^ 64) (kind : r.kind = .table)
    (table : pteCheck w.tenant w.level (s.epOf w.att).paBits value = .table pfn) : Does (.walkReadDone p tag 0 value) s fun t =>
      t.walkOf id = some { w with level := w.level - 1, table := pfn, wOk := w.wOk && bit value 1 } := by
  have there' : (s.answered p tag).walkOf id = some w := there
  refine ⟨_, exec_walkReadDone up asked user kind word, ?_⟩
  rw [State.walkRead_of_valid there' valid]
  exact State.walkEntry_of_table there' table

/-- The entry was changed by another agent: the walk begins again at level 5. -/
theorem does_adUpdateDone_of_changed {d : Nat} (update : r.kind = .adUpdate) (desc : s.descOf w.tenant w.ctx = some d)
    (changed : r.msg.data.take 8 ≠ leBytes 8 value) : Does (.adUpdateDone p tag 0 value) s fun t =>
      t.walkOf id = some { w with level := 5, table := s.rd Reg.XLT_CTX_DESC0_ROOT_PFN d, wOk := true, leaf := none, restart := false } := by
  have there' : (s.answered p tag).walkOf id = some w := there
  have desc' : (s.answered p tag).descOf w.tenant w.ctx = some d := desc
  have changed' : (leBytes 8 value == r.msg.data.take 8) = false := beq_false_of_ne changed.symm
  refine ⟨_, exec_adUpdateDone up asked user update value, ?_⟩
  rw [changed', State.walkAd_of_changed there']
  simp only [State.restartWalk, desc']
  exact State.walkOf_readTable_putWalk there' rfl

/-- The entry stood as it was read: the walk, which is the only one and serves nobody, installs its translation. -/
theorem does_adUpdateDone_of_same {shift pte : Nat} (valid : w.restart = false) (update : r.kind = .adUpdate)
    (same : r.msg.data.take 8 = leBytes 8 value)
    (leaf : w.leaf = some (shift, pte)) (alone : s.xlt.walks = [w]) (nobody : w.waiters = []) (noFault : w.fault = none)
    (empty : s.tlbOf w.cluster = []) : Does (.adUpdateDone p tag 0 value) s fun t =>
      t.xlt.walks = [] ∧ t.tlbOf w.cluster = [w.entry w.wOk shift (bits pte 12 44) (bit pte 4)] := by
  have there' : (s.answered p tag).walkOf id = some w := there
  have ends := State.walkLeaf_of_alone (s := s.answered p tag) alone nobody noFault empty w.wOk shift (bits pte 12 44) (bit pte 4)
  refine ⟨_, exec_adUpdateDone up asked user update value, ?_⟩
  rw [same, beq_self_eq_true, State.walkAd_of_same there' valid leaf, ends]
  exact ⟨rfl, State.tlbOf_setTlb ((s.answered p tag).setWalks []) w.cluster _⟩

end Walks

end Sys2Proof.Machine

open Sys2Proof Sys2Proof.Machine Sys2Proof.Safety

/-- Settles O27: one lemma for each of the four commands; the CSWAP that sets A and D has two ends, by whether the entry stood as it was read. -/
theorem translationWalks : Obligations.TranslationWalks := by
  intro s p n tag value pfn id m v w r up e
  refine ⟨fun size low high room flushed => does_inval up size low high room flushed, ?_, fun asked user there valid word =>
    ⟨fun kind table => does_walkReadDone_of_table up asked user there valid word kind table, fun kind =>
      ⟨fun d desc changed => does_adUpdateDone_of_changed up asked user there kind desc changed,
        fun shift pte same leaf alone nobody noFault empty =>
          does_adUpdateDone_of_same up asked user there valid kind same leaf alone nobody noFault empty⟩⟩⟩
  rintro alone rfl slot word marked uses calm path first header replay awake
  rw [← slot] at calm path ⊢
  exact does_invalDrained alone word marked uses calm path first header replay awake
end

section
/-! On-demand paging (R98 to R103): what a page response, the wait after a retry, the stall of a local waiter and the page timer do to a fault
record. -/

namespace Sys2Proof.Machine

open Sys2Proof Sys2Proof.Safety

/-! Fault records. -/

@[simp] theorem State.faultOf_setFault (s : State) (ten i : Nat) (f : FaultR) : (s.setFault ten i f).faultOf ten i = f := Tbl.get_set_self ..

theorem State.faultOf_of_xlt {s t : State} (h : t.xlt = s.xlt) (ten i : Nat) : t.faultOf ten i = s.faultOf ten i := by
  rw [State.faultOf, h, State.faultOf]

/-- A field that counts modulo its width takes the sum, and nothing else changes. -/
theorem State.writes_inc (s : State) (f : Fld) (i n : Nat) : Writes [(f, i, (s.rd f i + n) % 2 ^ f.w)] s (s.inc f i n) := by
  refine ⟨fun e he => ?_, State.sameRegsBut_wr s f i _, rfl⟩
  obtain rfl := List.mem_singleton.1 he
  exact State.rd_wr_self ..

/-! Walks leave the fault records (R91). -/

theorem State.serveWalks_faults (l : List Walk) (s : State) : (State.serveWalks l s).xlt.faults = s.xlt.faults := by
  induction l generalizing s with
  | nil => rfl
  | cons w l ih =>
    rw [State.serveWalks]
    split
    · rw [ih, (State.readTable_keeps_xlt ..).frame]
      rfl
    · exact ih s

theorem State.startWalk_faults (s : State) (c ten ctx va : Nat) (acc : AccK) (ws : List Waiter) (fault : Option Nat) :
    (s.startWalk c ten ctx va acc ws fault).xlt.faults = s.xlt.faults := by
  unfold State.startWalk
  split
  · rfl
  · split
    · rfl
    · exact State.serveWalks_faults ..

theorem State.faultOf_startWalk (s : State) (c ten ctx va : Nat) (acc : AccK) (ws : List Waiter) (fault : Option Nat) (t i : Nat) :
    (s.startWalk c ten ctx va acc ws fault).faultOf t i = s.faultOf t i := by
  rw [State.faultOf, State.startWalk_faults, State.faultOf]

/-! Page responses (R101, R102). -/

section Response

variable {s : State} {p ten i : Nat} {m : NearMsg}

theorem exec_pageResp (up : s.pathIsUp p = true) : exec (.pageResp p m) s = .next (s.rxPageResp p m) := congrArg Host.Outcome.next (if_pos up)

/-- A response that names an open record, from its endpoint. -/
structure Answers (s : State) (p : Nat) (m : NearMsg) (ten i : Nat) : Prop where
  tenant : m.tenant = ten
  index : m.opspec % 256 = i
  state : (s.faultOf ten i).st = .open
  endpoint : (s.faultOf ten i).att = (s.nearOf p).slot

/-- A response for a free record is counted as stray. -/
theorem State.rxPageResp_of_free (known : m.status < 3) (free : (s.faultOf m.tenant (m.opspec % 256)).st = .free) :
    s.rxPageResp p m = s.inc Reg.XLT_STRAY_RESP_COUNT := by
  simp [State.rxPageResp, Nat.not_le.2 known, free]

/-- RETRY puts the record in RETRY_WAIT while attempts are left. -/
theorem State.rxPageResp_of_retry (h : Answers s p m ten i) (retry : m.status = 2) (left : (s.faultOf ten i).attempts < s.retryMax) :
    s.rxPageResp p m = s.setFault ten i { s.faultOf ten i with st := .retryWait } := by
  obtain ⟨rfl, rfl, state, endpoint⟩ := h
  simp [State.rxPageResp, retry, state, endpoint, left]

/-- SERVED starts the walk of the page again, with the waiters of the record. -/
theorem State.faultOf_rxPageResp_of_served (h : Answers s p m ten i) (served : m.status = 0) :
    (s.rxPageResp p m).faultOf ten i = { s.faultOf ten i with st := .rewalk, waiters := [] } := by
  obtain ⟨rfl, rfl, state, endpoint⟩ := h
  simp [State.rxPageResp, served, state, endpoint, State.faultOf_startWalk]

end Response

/-! Waits and timers (R99, R102). -/

/-- PAGE_REQ for record `i`, with the access that its waiters need (R101). -/
def pageReqMsg (ten i : Nat) (f : FaultR) (acc : AccK) : NearMsg :=
  { op := 0x0A, tenant := ten, ctx := f.ctx, addr := f.page * 4096, opspec := i + 256 * accCode acc }

/-- The record while its next PAGE_REQ is out. -/
def FaultR.asked (f : FaultR) : FaultR := { f with st := .open, attempts := f.attempts + 1, acc := strongestOf f.waiters }

/-- While attempts are left, a record asks again for those that wait for it. -/
theorem State.faultAgain_of_left {s : State} {ten i : Nat} (left : (s.faultOf ten i).attempts < s.retryMax) :
    s.faultAgain ten i (s.faultOf ten i).waiters = ((s.setFault ten i (s.faultOf ten i).asked).pageReq ten i (s.faultOf ten i).asked, {}) :=
  if_pos left

theorem State.setSlot_xlt (s : State) (c u k : Nat) (v : Slot) : (s.setSlot c u k v).xlt = s.xlt := rfl

theorem State.pmc_xlt (s : State) (bank code : Nat) (ten : Option Nat) (n : Nat) : (s.pmc bank code ten n).xlt = s.xlt :=
  (congrArg State.xlt (s.pmc_keeps bank code ten n).frame :)

theorem State.parkUser_xlt (s : State) (w : Waiter) : (s.parkUser w).xlt = s.xlt := by
  unfold State.parkUser
  split
  · rw [State.pmc_xlt, State.setSlot_xlt]
  · rfl

/-- Where no fault waits for a record, one that is given back stays free. -/
theorem State.freeFault_of_nil {s : State} (none_ : s.xlt.queued = []) (ten i : Nat) :
    s.freeFault ten i = (s.setFault ten i {}).dec Reg.XLT_FQ_STATUS_OPEN ten := by
  have none' : ((s.setFault ten i {}).dec Reg.XLT_FQ_STATUS_OPEN ten).xlt.queued = [] := none_
  simp only [State.freeFault, none', List.find?_nil]

section Timers

variable {s : State} {ten i : Nat} (index : i < 256)
include index

/-- After the wait PAGE_REQ goes out again, on the first path of the endpoint that is up. -/
theorem does_pageRetryWaitExpire {q : Nat} {rest : List Nat} (waits : (s.faultOf ten i).st = .retryWait)
    (left : (s.faultOf ten i).attempts < s.retryMax) (paths : s.upPaths (s.faultOf ten i).att = q :: rest) (first : (s.nearOf q).waitP = [])
    (header : 1 ≤ (s.nearOf q).crdP) (replay : (s.nearOf q).replay.length < 512) (awake : (s.nearOf q).resting = false) :
    Does (.pageRetryWaitExpire ten i) s fun t => t.faultOf ten i = (s.faultOf ten i).asked ∧
      t.out = s.out ++ [.near q (pageReqMsg ten i (s.faultOf ten i) (strongestOf (s.faultOf ten i).waiters))] := by
  let f := s.faultOf ten i
  let msg := pageReqMsg ten i f (strongestOf f.waiters)
  let put := s.setFault ten i f.asked
  have room : (put.nearOf q).roomP msg = true := by
    have noData : unitsOf msg = 0 := by simp [unitsOf, msg, pageReqMsg, ceilDiv]
    exact Near.roomP_of_credit header (noData ▸ Nat.zero_le _) replay awake
  have sends : put.pageReq ten i f.asked = put.launchP q msg none := by
    have paths' : put.upPaths f.asked.att = q :: rest := paths
    rw [State.pageReq, paths']
    exact State.sendP_of_room none first room
  have runs : exec (.pageRetryWaitExpire ten i) s = .next (put.pageReq ten i f.asked) := by
    have again : s.faultAgain ten i f.waiters = (put.pageReq ten i f.asked, {}) := State.faultAgain_of_left left
    show execPageRetryWaitExpire ten i s = _
    rw [execPageRetryWaitExpire, if_pos ⟨index, waits⟩, again]
    rfl
  rw [sends] at runs
  refine ⟨_, runs, ?_, State.out_launchP ..⟩
  exact (State.faultOf_of_xlt (congrArg State.xlt (State.launchP_keeps ..).frame :) ten i).trans (State.faultOf_setFault ..)

/-- The stall of a local waiter parks it. -/
theorem does_faultStallExpire_of_local {k : Nat} {w : Waiter} (used : (s.faultOf ten i).st ≠ .free)
    (waiter : (s.faultOf ten i).waiters[k]? = some w) (here : w.remote = false) : Does (.faultStallExpire ten i k) s fun t =>
      t.faultOf ten i = { s.faultOf ten i with waiters := (s.faultOf ten i).waiters.set k { w with parked := true } } := by
  refine ⟨s.stallEnd ten i k, congrArg Host.Outcome.next ((if_pos index).trans (if_neg used)), ?_⟩
  simp only [State.stallEnd, waiter, here]
  exact (State.faultOf_of_xlt (State.parkUser_xlt ..) ten i).trans (State.faultOf_setFault ..)

theorem does_pageTimerExpire_of_rewalk (rewalks : (s.faultOf ten i).st = .rewalk) : Does (.pageTimerExpire ten i) s fun t =>
    t = s.setFault ten i { s.faultOf ten i with expired := true } := by
  refine ⟨_, ?_, rfl⟩
  show execPageTimerExpire ten i s = _
  simp [execPageTimerExpire, Nat.not_le.2 index, rewalks]

/-- The page timer ends an open record, for which nobody waits. -/
theorem does_pageTimerExpire_of_open (waits : (s.faultOf ten i).st = .open) (nobody : (s.faultOf ten i).waiters = [])
    (none_ : s.xlt.queued = []) : Does (.pageTimerExpire ten i) s fun t =>
      t.faultOf ten i = {} ∧ t.rd Reg.XLT_FQ_STATUS_OPEN ten = (s.rd Reg.XLT_FQ_STATUS_OPEN ten - 1) % 2 ^ 9 := by
  refine ⟨s.freeFault ten i, ?_, ?_⟩
  · show execPageTimerExpire ten i s = _
    simp [execPageTimerExpire, Nat.not_le.2 index, waits, State.failFault, nobody, State.applyFx]
  · rw [State.freeFault_of_nil none_]
    exact ⟨State.faultOf_setFault .., State.rd_wr_self ..⟩

end Timers

end Sys2Proof.Machine

open Sys2Proof Sys2Proof.Machine Sys2Proof.Safety

/-- Settles O28: one lemma for each command and each of its ends. -/
theorem onDemandPaging : Obligations.OnDemandPaging := by
  intro s p q ten i k m w rest index f
  refine ⟨?_, does_pageRetryWaitExpire index, does_faultStallExpire_of_local index, does_pageTimerExpire_of_rewalk index,
    does_pageTimerExpire_of_open index⟩
  intro up tenant at_ known
  refine ⟨fun free => ⟨_, exec_pageResp up, ?_⟩, fun state endpoint => ?_⟩
  · rw [State.rxPageResp_of_free known (by rw [tenant, at_]; exact free)]
    exact State.writes_inc ..
  · have answers : Answers s p m ten i := ⟨tenant, at_, state, endpoint⟩
    exact ⟨fun retry left => ⟨_, exec_pageResp up, State.rxPageResp_of_retry answers retry left⟩,
      fun served => ⟨_, exec_pageResp up, State.faultOf_rxPageResp_of_served answers served⟩⟩
end

section
/-! What is written of an admin queue, and events written, held and lost (R126). -/

namespace Sys2Proof.Machine

open Sys2Proof Sys2Proof.Safety

/-! Writing what is held. -/

/-- The state once entry `e`, all that is held for slot `t`, is written to its completion ring. -/
def State.admSent (s : State) (t : Nat) (e : AdmEnt) : State :=
  (s.setAdm t { s.admOf t with held := [], written := ((s.admOf t).written + 1) % 2 ^ 32 }).emit (.adm t (s.admOf t).written e)

theorem State.admOf_admSent (s : State) (t : Nat) (e : AdmEnt) :
    (s.admSent t e).admOf t = { s.admOf t with held := [], written := ((s.admOf t).written + 1) % 2 ^ 32 } := State.admOf_setAdm ..

theorem State.out_admSent (s : State) (t : Nat) (e : AdmEnt) : (s.admSent t e).out = s.out ++ [Out.adm t (s.admOf t).written e] := rfl

section Ring

variable {s : State} {t : Nat}

theorem State.drainAdm_of_one {e : AdmEnt} (held : (s.admOf t).held = [e]) (goes : (!e.event || !s.frozen t) = true) (room : s.admRoom t = true) :
    State.drainAdm t 1 s = s.admSent t e := by
  simp only [State.drainAdm, held, room, List.find?_cons, goes, dropFirst, if_true]
  rfl

/-- The one entry that is held goes out, and where nothing was lost that is all. -/
theorem State.settleAdm_of_one {e : AdmEnt} (held : (s.admOf t).held = [e]) (goes : (!e.event || !s.frozen t) = true) (room : s.admRoom t = true)
    (lost : (s.admOf t).lost = 0) : s.settleAdm t = (s.admSent t e).showHeld t := by
  have one : (s.admOf t).held.length = 1 := congrArg List.length held
  have noLoss : (s.admSent t e).reportLost t = s.admSent t e := if_neg fun h => h.1 (by rw [State.admOf_admSent]; exact lost)
  rw [State.settleAdm, one, State.drainAdm_of_one held goes room, noLoss, State.admOf_admSent]
  rfl

/-! Events. -/

/-- The event that is posted now. -/
def State.eventEnt (s : State) (code detail arg0 arg1 : Nat) : AdmEnt := { event := true, code, detail, arg0, arg1, arg2 := s.now % 2 ^ 56 }

variable (thawed : s.frozen t = false)

include thawed in
theorem State.event_of_room (room : s.admRoom t = true) (held : (s.admOf t).held = []) (lost : (s.admOf t).lost = 0) (code detail arg0 arg1 : Nat) :
    s.event t code detail arg0 arg1 = (s.setAdm t { s.admOf t with written := ((s.admOf t).written + 1) % 2 ^ 32 }).emit
      (.adm t (s.admOf t).written (s.eventEnt code detail arg0 arg1)) :=
  if_pos ⟨room, held, lost, by rw [thawed]; rfl⟩

/-- The completion ring of slot `t` takes no event: it has no room, or an earlier entry waits for it. -/
def State.admFull (s : State) (t : Nat) : Prop := s.admRoom t = false ∨ (s.admOf t).held ≠ []

theorem State.not_admRoom_of_full (full : s.admFull t) : ¬(s.admRoom t = true ∧ (s.admOf t).held = []) := by
  rcases full with noRoom | waits
  · simp [noRoom]
  · simp [waits]

theorem State.event_of_full (full : s.admFull t) (lost : (s.admOf t).lost = 0) (few : (s.admOf t).events < 256) (code detail arg0 arg1 : Nat) :
    s.event t code detail arg0 arg1 =
      (s.setAdm t { s.admOf t with held := (s.admOf t).held ++ [s.eventEnt code detail arg0 arg1] }).showHeld t :=
  (if_neg fun h => State.not_admRoom_of_full full ⟨h.1, h.2.1⟩).trans (if_pos ⟨few, lost⟩)

theorem State.event_of_over (full : s.admFull t) (beyond : 256 ≤ (s.admOf t).events ∨ (s.admOf t).lost ≠ 0) (code detail arg0 arg1 : Nat) :
    s.event t code detail arg0 arg1 =
      ((s.setAdm t { s.admOf t with lost := (s.admOf t).lost + 1 }).inc Reg.ADM_EVENT_LOST_COUNT_COUNT t).wr Reg.ADM_SLICE_STATUS_EVENT_LOST t 1 :=
  (if_neg fun h => State.not_admRoom_of_full full ⟨h.1, h.2.1⟩).trans (if_neg (by omega))

/-! Losses reported (R126). -/

/-- The EVENT_LOST event of slot `t`. -/
def State.lostEnt (s : State) (t : Nat) : AdmEnt :=
  { event := true, code := Code.eventLost, arg0 := evObj 5 t, arg1 := (s.admOf t).lost, arg2 := s.now % 2 ^ 56 }

include thawed in
theorem State.reportLost_of_lost (lost : (s.admOf t).lost ≠ 0) (held : (s.admOf t).held = []) :
    s.reportLost t = s.setAdm t { s.admOf t with lost := 0, held := [s.lostEnt t] } := by
  have none_ : (s.admOf t).events = 0 := by simp [Adm.events, held]
  refine (if_pos ⟨lost, by rw [none_]; decide, by rw [thawed]; rfl⟩).trans ?_
  rw [held]
  rfl

/-- An empty ring of at least two entries has room for the first and for one behind it. -/
theorem State.admRoom_of_next {u : State} (bound : u.rd Reg.ADM_DESC0_BOUND t = 1) (size : 1 ≤ u.rd Reg.ADM_DESC0_CQ_LOG2 t) {n head : Nat}
    (written : (u.admOf t).written = (head + n) % 2 ^ 32) (seen : (u.admOf t).headSeen = head) (small : head < 2 ^ 32) (next : n ≤ 1) :
    u.admRoom t = true := by
  have two : 2 ^ 1 ≤ 2 ^ u.rd Reg.ADM_DESC0_CQ_LOG2 t := Nat.pow_le_pow_right (by decide) size
  have ahead : ((u.admOf t).written + 2 ^ 32 - (u.admOf t).headSeen) % 2 ^ 32 = n := by rw [written, seen]; omega
  simp only [State.admRoom, State.on, bound, ahead, beq_self_eq_true, Bool.true_and, decide_eq_true_eq]
  omega

include thawed in
/-- What is held goes out, and the report of the loss behind it. -/
theorem State.settleAdm_of_lost {x : AdmEnt} (bound : s.rd Reg.ADM_DESC0_BOUND t = 1) (size : 1 ≤ s.rd Reg.ADM_DESC0_CQ_LOG2 t)
    (empty : (s.admOf t).written = (s.admOf t).headSeen) (small : (s.admOf t).written < 2 ^ 32) (lost : (s.admOf t).lost ≠ 0)
    (held : (s.admOf t).held = [x]) : s.settleAdm t =
      ((((s.admSent t x).setAdm t { (s.admSent t x).admOf t with lost := 0, held := [s.lostEnt t] }).admSent t (s.lostEnt t)).showHeld t) := by
  let first : State := s.admSent t x
  let last : State := first.setAdm t { first.admOf t with lost := 0, held := [s.lostEnt t] }
  have firstAdm : first.admOf t = { s.admOf t with held := [], written := ((s.admOf t).written + 1) % 2 ^ 32 } := s.admOf_admSent t x
  have lastAdm : last.admOf t = { first.admOf t with lost := 0, held := [s.lostEnt t] } := State.admOf_setAdm ..
  have room : s.admRoom t = true := State.admRoom_of_next (n := 0) bound size (Nat.mod_eq_of_lt small).symm empty.symm small (by decide)
  have room' : last.admRoom t = true :=
    State.admRoom_of_next (u := last) (n := 1) bound size (by rw [lastAdm, firstAdm]) (by rw [lastAdm, firstAdm]; exact empty.symm) small le_rfl
  have one : (s.admOf t).held.length = 1 := congrArg List.length held
  have sent : State.drainAdm t 1 s = first := State.drainAdm_of_one held (by simp [thawed]) room
  have reports : first.reportLost t = last := by
    rw [State.reportLost_of_lost (s := first) thawed (by rw [firstAdm]; exact lost) (by rw [firstAdm])]
    simp only [last, State.lostEnt, firstAdm]
    rfl
  have ends : State.drainAdm t 1 last = last.admSent t (s.lostEnt t) :=
    State.drainAdm_of_one (by rw [lastAdm]) (show (!true || !last.frozen t) = true by rw [show last.frozen t = false from thawed]; rfl) room'
  have lastOne : (last.admOf t).held.length = 1 := by rw [lastAdm]; rfl
  rw [State.settleAdm, one, sent, reports, lastOne, ends]

end Ring

end Sys2Proof.Machine

open Sys2Proof Sys2Proof.Machine Sys2Proof.Safety

/-- Settles O57: an event is written, held or lost by the branch of `State.event`; the report of a loss is the second drain of `State.settleAdm`. -/
theorem adminEvents : Obligations.AdminEvents := by
  intro s t code detail arg0 arg1 thawed a e u full
  refine ⟨fun room held lost => ?_, fun full lost few => ?_, fun full beyond => ?_, fun x bound empty small size lost _ held => ?_⟩
  · have runs : u = _ := State.event_of_room thawed room held lost code detail arg0 arg1
    rw [runs]
    exact ⟨rfl, State.admOf_setAdm ..⟩
  · have runs : u = _ := State.event_of_full full lost few code detail arg0 arg1
    rw [runs]
    exact ⟨State.admOf_setAdm .., rfl⟩
  · have runs : u = _ := State.event_of_over full beyond code detail arg0 arg1
    rw [runs]
    refine ⟨State.admOf_setAdm .., rfl, ?_, State.rd_wr_self ..⟩
    exact (State.rd_wr_of_key _ _ _ _ _ _ (by decide)).trans (State.rd_wr_self ..)
  · rw [State.settleAdm_of_lost thawed bound size empty small lost held]
    refine ⟨?_, ?_, ?_⟩
    · have object : evObj 5 t = 5 * 2 ^ 16 + t % 2 ^ 16 := Nat.add_comm ..
      rw [State.showHeld, State.wr_out, State.out_admSent, State.setAdm_out, State.out_admSent, State.admOf_setAdm, State.admOf_admSent, State.lostEnt,
        object, List.append_assoc]
      rfl
    · rw [State.showHeld, State.admOf_wr, State.admOf_admSent]
    · rw [State.showHeld, State.admOf_wr, State.admOf_admSent, State.admOf_setAdm]
end

section
/-! Native queue pairs: the entry at the head (R109 to R113, R117, R118), what it starts (R111, R175, R253), and completions made ready (R121). -/

namespace Sys2Proof.Machine

open Sys2Proof Sys2Proof.Safety

/-- The state but for its registers, the submission side of its queue pairs and what has left it. -/
def State.noFetch (s : State) : State := { s with regs := [], sqs := [], out := [] }

/-- The state but for its registers and the clusters. -/
def State.noClus (s : State) : State := { s with regs := [], clus := [] }

/-- The state but for its registers, the submission side of its queue pairs and the completion rings. -/
def State.noRings (s : State) : State := { s with regs := [], sqs := [], cqs := [] }

/-- The state but for its registers and its connections. -/
def State.noConns (s : State) : State := { s with regs := [], conns := [] }

/-! The opcode of an entry (R109, R111 to R113). -/

theorem byteAt_lt (b : List Byte) (i : Nat) : byteAt b i < 256 := leAt_lt b i 1

theorem byteAt_usable_zero (b : List Byte) (rest : List (List Byte)) : byteAt (usable (b :: rest)) 0 = byteAt b 0 := by
  obtain ⟨tail, cons⟩ : ∃ tail, usable (b :: rest) = BitVec.ofNat 8 (byteAt b 0) :: tail := ⟨_, rfl⟩
  rw [cons, byteAt_cons_zero, BitVec.toNat_ofNat, Nat.mod_eq_of_lt (byteAt_lt b 0)]

theorem opcode_parseInline (slots : List (List Byte)) : (parseInline slots).opcode = byteAt (usable slots) 0 := by
  simp only [parseInline]
  split
  · split
    · split <;> rfl
    · rfl
  · split <;> rfl

/-- The opcode of an entry is its first byte. -/
theorem opcode_parseEntry (b : List Byte) (rest : List (List Byte)) : (parseEntry (b :: rest)).opcode = byteAt b 0 := by
  rw [parseEntry]
  split
  next cont => exact cont.symm
  next =>
    split
    · rw [opcode_parseInline, byteAt_usable_zero]
    · rfl

/-- An inline entry has one of the opcodes that may be inline. -/
theorem bad_parseInline {slots : List (List Byte)} (h : inlineOpcode (byteAt (usable slots) 0) = false) : (parseInline slots).bad = true := by
  simp only [parseInline, h, Bool.false_and, Bool.false_eq_true, false_and, if_false]
  split
  · split <;> rfl
  · rfl

theorem inlineOpcode_of_not_native {o : Nat} (h : nativeOpcode o = false) : inlineOpcode o = false := by
  simp only [nativeOpcode, Bool.or_eq_false_iff, decide_eq_false_iff_not, beq_eq_false_iff_ne] at h
  simp only [inlineOpcode, Bool.or_eq_false_iff, beq_eq_false_iff_ne]
  omega

/-- A CONT outside a chain and an opcode that R111 does not list break their form. -/
theorem bad_parseEntry {b : List Byte} (rest : List (List Byte)) (h : byteAt b 0 = 0x1F ∨ nativeOpcode (byteAt b 0) = false) :
    (parseEntry (b :: rest)).bad = true := by
  rw [parseEntry]
  split
  next => rfl
  next single =>
    have unknown := h.resolve_left single
    split
    · exact bad_parseInline (by rw [byteAt_usable_zero]; exact inlineOpcode_of_not_native unknown)
    · simp [parseShort, unknown]

/-- The first slot of slots whose opcode is set. -/
theorem byteAt_slotWith (o : Nat) (b : List Byte) : byteAt (slotWith o b) 0 = o % 256 := by
  show byteAt (BitVec.ofNat 8 o :: b.drop 1) 0 = o % 256
  rw [byteAt_cons_zero, BitVec.toNat_ofNat]

/-- How many slots the entry at the head takes. -/
def slotsAt (slots : List (List Byte)) : Nat := slotsOf (slots.headD [])

/-- The entry at the head. -/
def entryAt (slots : List (List Byte)) : Sqe := parseEntry (slots.take (slotsAt slots))

theorem slotsOf_pos (b : List Byte) : 1 ≤ slotsOf b := by
  unfold slotsOf
  split
  · decide
  · split
    · split <;> omega
    · decide

theorem take_slotsAt (b : List Byte) (rest : List (List Byte)) : ∃ more, (b :: rest).take (slotsAt (b :: rest)) = b :: more := by
  obtain ⟨n, hn⟩ : ∃ n, slotsAt (b :: rest) = n + 1 := ⟨_, (Nat.sub_add_cancel (slotsOf_pos b)).symm⟩
  exact ⟨rest.take n, by rw [hn]; rfl⟩

theorem opcode_entryAt {slots : List (List Byte)} (some_ : slots ≠ []) (o : Nat) : (entryAt (setOpcode o slots)).opcode = o % 256 := by
  obtain ⟨b, rest, rfl⟩ := List.exists_cons_of_ne_nil some_
  obtain ⟨more, first⟩ := take_slotsAt (slotWith o b) rest
  rw [entryAt, show setOpcode o (b :: rest) = slotWith o b :: rest from rfl, first, opcode_parseEntry, byteAt_slotWith]

theorem bad_entryAt {slots : List (List Byte)} (some_ : slots ≠ []) {o : Nat} (h : o % 256 = 0x1F ∨ nativeOpcode (o % 256) = false) :
    (entryAt (setOpcode o slots)).bad = true := by
  obtain ⟨b, rest, rfl⟩ := List.exists_cons_of_ne_nil some_
  obtain ⟨more, first⟩ := take_slotsAt (slotWith o b) rest
  rw [entryAt, show setOpcode o (b :: rest) = slotWith o b :: rest from rfl, first]
  exact bad_parseEntry more (by rw [byteAt_slotWith]; exact h)

section Queue

variable {s : State} {q : Nat}

/-! The head passes an entry (R109, R117, R118). -/

/-- What the passing of an entry may write. -/
def takeFields : List Fld := [Reg.QP_HEAD_HEAD, Reg.QP_SPEC_HIT_COUNT, Reg.QP_OUT_COUNT, Reg.QP_MODULE_OUT_COUNT]

/-- Entry `e` of `k` slots is an operation, and the head behind it. -/
def State.entered (s : State) (q k : Nat) (e : Sqe) : State :=
  let s1 := ((s.wr Reg.QP_HEAD_HEAD q ((s.rd Reg.QP_HEAD_HEAD q + k) % 2 ^ 32)).modSq q (fun (x : Sq) => { x with took := true })).addOp q (s.newOp q e)
  if d32 (s.rd Reg.QP_HEAD_HEAD q) (s.rd Reg.QP_HEAD_TAIL_SEEN q) < 2 ^ 31 then s1.inc Reg.QP_SPEC_HIT_COUNT else s1

/-- The same, with the head written where it is 16 slots behind. -/
def State.taken (s : State) (q k : Nat) (e : Sqe) : State :=
  if 16 ≤ d32 ((s.rd Reg.QP_HEAD_HEAD q + k) % 2 ^ 32) (s.sqOf q).headWritten then (s.entered q k e).writeHead q else s.entered q k e

theorem State.entered_keeps (s : State) (q k : Nat) (e : Sqe) : Keeps State.noOps takeFields s (s.entered q k e) := by
  have moved := (Keeps.refl State.noOps takeFields s).wr Reg.QP_HEAD_HEAD q ((s.rd Reg.QP_HEAD_HEAD q + k) % 2 ^ 32)
  have took := moved.of_eq (u := (s.wr Reg.QP_HEAD_HEAD q _).modSq q fun x => { x with took := true })
  have added := took.trans ((State.addOp_keeps _ q (s.newOp q e)).mono (m := takeFields) fun f hf => List.mem_cons_of_mem _ (List.mem_cons_of_mem _ hf))
  exact .ite _ (added.wr _ _ _) added

theorem State.sqOf_entered (s : State) (q k : Nat) (e : Sqe) : (s.entered q k e).sqOf q =
    { s.sqOf q with took := true, serial := (s.sqOf q).serial + 1, ops := (s.sqOf q).ops ++ [s.newOp q e] } := by
  unfold State.entered
  dsimp only
  split
  · rw [State.inc_eq, State.sqOf_wr, State.sqOf_addOp, State.sqOf_modSq, State.sqOf_wr]
  · rw [State.sqOf_addOp, State.sqOf_modSq, State.sqOf_wr]

theorem State.rd_entered (s : State) (q k : Nat) (e : Sqe) :
    (s.entered q k e).rd Reg.QP_HEAD_HEAD q = (s.rd Reg.QP_HEAD_HEAD q + k) % 2 ^ 32 ∧
      (s.entered q k e).rd Reg.QP_OUT_COUNT q =
        if e.opcode = 0x10 then s.rd Reg.QP_OUT_COUNT q else (s.rd Reg.QP_OUT_COUNT q + 1) % 2 ^ Reg.QP_OUT_COUNT.w := by
  have head : (s.rd Reg.QP_HEAD_HEAD q + k) % 2 ^ 32 % 2 ^ Reg.QP_HEAD_HEAD.w = (s.rd Reg.QP_HEAD_HEAD q + k) % 2 ^ 32 := Nat.mod_mod _ _
  have opcode : (s.newOp q e).sqe.opcode = e.opcode := rfl
  unfold State.entered State.addOp
  simp only [opcode]
  split <;> split <;> simp (disch := decide) only [State.inc_eq, State.rd_wr_of_key, State.modSq_rd, State.rd_wr_self, head, and_self]

theorem State.writeHead_keeps (s : State) (q : Nat) (l : List Fld) : Keeps State.noFetch l s (s.writeHead q) := (Keeps.refl ..).of_eq

theorem State.taken_keeps (s : State) (q k : Nat) (e : Sqe) : Keeps State.noFetch takeFields s (s.taken q k e) := by
  have entered := (s.entered_keeps q k e).part State.noFetch
  exact .ite _ (entered.trans (State.writeHead_keeps ..)) entered

theorem State.rd_taken (s : State) (q k : Nat) (e : Sqe) (f : Fld) (i : Nat) : (s.taken q k e).rd f i = (s.entered q k e).rd f i := by
  unfold State.taken
  split <;> rfl

/-- The operations, their count and the fetch of a queue pair whose head has passed an entry. -/
theorem State.sqOf_taken (s : State) (q k : Nat) (e : Sqe) : ∃ w, (s.taken q k e).sqOf q =
    { s.sqOf q with took := true, serial := (s.sqOf q).serial + 1, ops := (s.sqOf q).ops ++ [s.newOp q e], headWritten := w } := by
  unfold State.taken
  split
  · exact ⟨_, (State.sqOf_setSq ..).trans (by rw [State.sqOf_entered])⟩
  · exact ⟨_, State.sqOf_entered ..⟩

/-! Acceptance (R109, R115 step 3, R118). -/

/-- A native queue pair takes the entry that `slots` begin with. -/
structure TakesEntry (s : State) (q : Nat) (slots : List (List Byte)) : Prop where
  native : s.legacy q = false
  thawed : s.frozen (s.qpTenant q) = false
  some_ : slots ≠ []
  whole : slotsAt slots ≤ slots.length
  room : slotsAt slots ≤ (s.rd Reg.QP_HEAD_TAIL_SEEN q + 16 + 2 ^ 32 - s.rd Reg.QP_HEAD_HEAD q) % 2 ^ 32
  phases : phasesOk (s.rd Reg.QP_DESC0_LOG2_SIZE q) (s.rd Reg.QP_HEAD_HEAD q) (slots.take (slotsAt slots)) = true
  capacity : s.capacity q (entryAt slots) = true

/-- What accepting an entry does, where the entry is good and where it is bad. -/
theorem TakesEntry.acceptNext {slots : List (List Byte)} (h : TakesEntry s q slots) : s.acceptNext q slots =
    match s.entryBad q (entryAt slots) with
    | some d => ((s.taken q (slotsAt slots) (entryAt slots)).qpError q Code.badEntry d (some (s.sqOf q).serial), .bad)
    | none => ((s.taken q (slotsAt slots) (entryAt slots)).startEntry q (s.sqOf q).serial (entryAt slots), .yes) := by
  obtain ⟨native, thawed, some_, whole, room, phases, capacity⟩ := h
  obtain ⟨b, rest, rfl⟩ := List.exists_cons_of_ne_nil some_
  have length : ((b :: rest).take (slotsOf b)).length = slotsOf b := List.length_take_of_le whole
  have taken : s.acceptNext q (b :: rest) = s.accept q (slotsOf b) (entryAt (b :: rest)) := by
    have goes : ¬(((b :: rest).take (slotsOf b)).length < slotsOf b ∨
        (s.rd Reg.QP_HEAD_TAIL_SEEN q + 16 + 2 ^ 32 - s.rd Reg.QP_HEAD_HEAD q) % 2 ^ 32 < slotsOf b ∨
        (!phasesOk (s.rd Reg.QP_DESC0_LOG2_SIZE q) (s.rd Reg.QP_HEAD_HEAD q) ((b :: rest).take (slotsOf b))) = true) := by
      rw [length]
      have current : phasesOk (s.rd Reg.QP_DESC0_LOG2_SIZE q) (s.rd Reg.QP_HEAD_HEAD q) ((b :: rest).take (slotsOf b)) = true := phases
      rw [current]
      have := show slotsOf b ≤ _ from room
      simp only [Bool.not_true, Bool.false_eq_true, or_false]
      omega
    simp only [State.acceptNext, thawed, native, Bool.false_eq_true, if_false]
    exact if_neg goes
  rw [taken]
  simp only [State.accept, capacity, native, Bool.not_true, Bool.not_false, Bool.true_and, decide_eq_true_eq, Bool.false_eq_true, if_false]
  rfl

end Queue

end Sys2Proof.Machine
end

section
/-! What an entry taken by a native queue pair starts (R111, R175, R253, R306), and how one that breaks its form ends (R110, R160). -/

namespace Sys2Proof.Machine

open Sys2Proof Sys2Proof.Safety

section Queue

variable {s : State} {q : Nat}

/-! Messages, READs and atomics (R253). -/

theorem State.postItem_keeps_noClus (s : State) (kind q serial ctx addr len xform xarg : Nat) :
    Keeps State.noClus workFields s (s.postItem kind q serial ctx addr len xform xarg) := by
  have gives (c : Nat) (w : Work) : Keeps State.noClus workFields s (s.giveHub c w).1 := by
    have same := Keeps.refl State.noClus workFields s
    unfold State.giveHub
    split
    · exact same
    · split
      · exact same
      · exact same.of_eq
  unfold State.postItem
  dsimp only
  split
  next c _ => exact (((gives c _).of_eq.wr _ _ _).wr _ _ _)
  next => exact ((Keeps.refl State.noClus workFields s).of_eq.wr _ _ _)

/-- An entry of a message, a READ or an atomic starts its work item, or nothing. -/
theorem State.startEntry_keeps_noClus (s : State) (q serial : Nat) {e : Sqe} (low : 1 ≤ e.opcode) (high : e.opcode ≤ 7) :
    Keeps State.noClus workFields s (s.startEntry q serial e) := by
  rw [State.startEntry, if_neg (by omega), if_neg (by omega), if_neg (by omega)]
  exact .ite _ (State.postItem_keeps_noClus ..) (.refl ..)

/-! Completions made ready (R121). -/

/-- A completion ring takes completions: it is not broken, and not fenced (R80, R488). -/
structure CqTakes (s : State) (cq : Nat) : Prop where
  whole : s.rd Reg.CQ_DESC0_BROKEN cq = 0
  open_ : (s.cqOf cq).fenced = false

/-- Ring `cq` with one more completion ready, whose bytes touched no path. -/
def State.cqReady (s : State) (cq : Nat) (e : Cqe) : State :=
  (s.setCq cq { s.cqOf cq with waiting := (s.cqOf cq).waiting ++ [{ e with wait := [], flushed := true }] }).wr Reg.CQ_PEND_PENDING cq
    ((s.cqOf cq).waiting.length + 1)

theorem State.pushCqe_of_takes {cq : Nat} (h : CqTakes s cq) {e : Cqe} (noPath : e.paths = 0) : s.pushCqe cq e = s.cqReady cq e := by
  have whole : ¬s.on Reg.CQ_DESC0_BROKEN cq = true := by simp [State.on, h.whole]
  have unflushed : (if s.on Reg.CQ_DESC0_RELAXED cq = true then (s, []) else State.issueFlushes cq 0 (portsOf e.paths) s) = (s, []) := by
    rw [noPath, show portsOf 0 = [] from by decide]
    exact ite_self _
  have unfenced : ¬(s.cqOf cq).fenced = true := by simp [h.open_]
  simp only [State.pushCqe, if_neg whole, if_neg unfenced, unflushed]
  rfl

theorem State.cqReady_keeps (s : State) (cq : Nat) (e : Cqe) : Keeps State.noRings [Reg.CQ_PEND_PENDING] s (s.cqReady cq e) :=
  ((Keeps.refl State.noRings [Reg.CQ_PEND_PENDING] s).of_eq).wr _ _ _

theorem State.waiting_cqReady (s : State) (cq : Nat) (e : Cqe) :
    ((s.cqReady cq e).cqOf cq).waiting = (s.cqOf cq).waiting ++ [{ e with wait := [], flushed := true }] := congrArg Cq.waiting (State.cqOf_setCq ..)

/-- The completion of an operation of queue pair `q`. -/
def opCqe (q : Nat) (o : Op) (status detail : Nat) : Cqe :=
  { tag := o.sqe.tag, qp := q, status, opcode := o.sqe.opcode, aux := o.aux, bytes := o.bytes, paths := o.paths, detail, serial := some o.serial }

/-- What the end of an operation of a native queue pair writes. -/
def endFields : List Fld := [Reg.QP_BAD_ENTRY_COUNT, Reg.CQ_PEND_PENDING]

/-- The only operation of a native queue pair ends: its completion is ready, behind those before it. -/
theorem State.finishOp_of_native {o : Op} (native : s.legacy q = false) (only : (s.sqOf q).ops = [o]) (open_ : o.st ≠ .done) (noPath : o.paths = 0)
    (ring : CqTakes s (s.rd Reg.QP_DESC0_CQ q)) (status detail : Nat) :
    Keeps State.noRings endFields s (s.finishOp q o.serial status detail) ∧
      ((s.finishOp q o.serial status detail).cqOf (s.rd Reg.QP_DESC0_CQ q)).waiting =
        (s.cqOf (s.rd Reg.QP_DESC0_CQ q)).waiting ++ [{ opCqe q o status detail with wait := [], flushed := true }] := by
  let done : State := s.setSq q { s.sqOf q with ops := [{ o with st := .done, status, detail }] }
  let counted : State := if status = Code.badEntry then done.inc Reg.QP_BAD_ENTRY_COUNT else done
  have ended : Keeps State.noRings endFields s done := (Keeps.refl ..).of_eq
  have kept : Keeps State.noRings endFields s counted := .ite _ (ended.wr _ _ _) ended
  have cqs : counted.cqs = s.cqs := by
    show (if status = Code.badEntry then done.inc Reg.QP_BAD_ENTRY_COUNT else done).cqs = s.cqs
    split <;> rfl
  have same : counted.cqOf (s.rd Reg.QP_DESC0_CQ q) = s.cqOf (s.rd Reg.QP_DESC0_CQ q) := by rw [State.cqOf, cqs]; rfl
  have takes : CqTakes counted (s.rd Reg.QP_DESC0_CQ q) := ⟨(kept.rd Reg.CQ_DESC0_BROKEN _).trans ring.whole, same ▸ ring.open_⟩
  have runs : s.finishOp q o.serial status detail = counted.cqReady (s.rd Reg.QP_DESC0_CQ q) (opCqe q o status detail) := by
    have isNative : s.on Reg.QP_DESC0_LEGACY q = false := native
    rw [← State.pushCqe_of_takes takes (e := opCqe q o status detail) noPath]
    simp only [State.finishOp, only, List.find?_cons, beq_self_eq_true, open_, if_false, isNative, Bool.false_eq_true, replaceFirst, if_true]
    rfl
  rw [runs, State.waiting_cqReady, same]
  exact ⟨kept.trans ((State.cqReady_keeps ..).mono fun f hf => List.mem_cons_of_mem _ hf), rfl⟩

/-! The error state (R160). -/

theorem State.rd_stopped (s : State) (q code detail : Nat) : (s.stopped q code detail).sched q = Sched.error ∧
    (s.stopped q code detail).rd Reg.TRN_QP_T5_ERR_SYNDROME q = code % 2 ^ 8 := by
  simp (disch := decide) only [State.stopped, State.sched, State.setSched, State.setSq_rd, State.rd_wr_self, State.rd_wr_of_key]
  exact ⟨rfl, rfl⟩

theorem State.recsDropped_keeps (s : State) (q : Nat) : Keeps State.noConns [Reg.TRN_RESP_REC_IN_USE] s (s.recsDropped q) :=
  ((Keeps.refl State.noConns [Reg.TRN_RESP_REC_IN_USE] s).wr Reg.TRN_RESP_REC_IN_USE 0 _).of_eq

/-- A queue pair that is not connected enters ERROR, where there is no peloton, once its operations have ended. -/
theorem State.qpError_of_ended {v : State} {code detail : Nat} {cause : Option Nat} (reset : s.cst q = Cst.reset)
    (ended : (s.stopped q code detail).opsEnded q code detail cause = v) (noPel : v.pels = []) : s.qpError q code detail cause = v.recsDropped q := by
  have none_ : (v.recsDropped q).pels = [] := noPel
  rw [State.qpError_of_reset reset, ended, State.dropPelOps_of_noPel none_, State.linkError_of_noPel none_]

theorem State.opsEnded_of_nil (none_ : (s.sqOf q).ops = []) (code detail : Nat) (cause : Option Nat) : s.opsEnded q code detail cause = s := by
  simp [State.opsEnded, none_]

/-- A native queue pair in RESET whose only operation breaks its form: it is in ERROR, and the completion of the operation is ready. -/
theorem State.qpError_of_badEntry {o : Op} (native : s.legacy q = false) (reset : s.cst q = Cst.reset) (only : (s.sqOf q).ops = [o])
    (open_ : o.st ≠ .done) (noPath : o.paths = 0) (noPel : s.pels = []) (ring : CqTakes s (s.rd Reg.QP_DESC0_CQ q)) (detail : Nat) :
    let t := s.qpError q Code.badEntry detail (some o.serial)
    t.cst q = Cst.error ∧ t.rd Reg.TRN_QP_T5_ERR_SYNDROME q = Code.badEntry ∧ t.rd Reg.QP_HEAD_HEAD q = s.rd Reg.QP_HEAD_HEAD q ∧
      (t.cqOf (s.rd Reg.QP_DESC0_CQ q)).waiting =
        (s.cqOf (s.rd Reg.QP_DESC0_CQ q)).waiting ++ [{ opCqe q o Code.badEntry detail with wait := [], flushed := true }] := by
  have stopped := s.stopped_keeps q Code.badEntry detail
  have still := (s.ops_stopped q Code.badEntry detail).trans only
  have cst := s.cst_stopped q Code.badEntry detail
  obtain ⟨-, syndrome⟩ := s.rd_stopped q Code.badEntry detail
  have error (v : State) := State.qpError_of_ended (v := v) (detail := detail) (cause := some o.serial) (code := Code.badEntry) reset
  generalize s.stopped q Code.badEntry detail = v at stopped still cst syndrome error
  have cqs : v.cqs = s.cqs := (congrArg State.cqs stopped.frame :)
  have isNative : v.legacy q = false := stopped.legacy.trans native
  have same : v.rd Reg.QP_DESC0_CQ q = s.rd Reg.QP_DESC0_CQ q := stopped.rd Reg.QP_DESC0_CQ q
  have ringV : CqTakes v (v.rd Reg.QP_DESC0_CQ q) := by
    rw [same]
    exact ⟨(stopped.rd Reg.CQ_DESC0_BROKEN _).trans ring.whole, by rw [State.cqOf, cqs]; exact ring.open_⟩
  obtain ⟨ended, waiting⟩ := State.finishOp_of_native isNative still open_ noPath ringV Code.badEntry detail
  have noPelW : (v.finishOp q o.serial Code.badEntry detail).pels = [] :=
    ((congrArg State.pels ended.frame :).trans (congrArg State.pels stopped.frame :)).trans noPel
  rw [error _ (State.opsEnded_of_cause still open_ ..) noPelW]
  generalize v.finishOp q o.serial Code.badEntry detail = w at ended waiting
  have dropped := w.recsDropped_keeps q
  refine ⟨?_, ?_, ?_, ?_⟩
  · rw [State.cst, dropped.rd Reg.TRN_QP_T0_STATE, ended.rd Reg.TRN_QP_T0_STATE]
    exact cst
  · rw [dropped.rd Reg.TRN_QP_T5_ERR_SYNDROME, ended.rd Reg.TRN_QP_T5_ERR_SYNDROME, syndrome]
    rfl
  · rw [dropped.rd Reg.QP_HEAD_HEAD, ended.rd Reg.QP_HEAD_HEAD, stopped.rd Reg.QP_HEAD_HEAD]
  · rw [same] at waiting
    rw [State.cqOf, show (w.recsDropped q).cqs = w.cqs from rfl, ← State.cqOf, waiting, State.cqOf, State.cqOf, cqs]

end Queue

end Sys2Proof.Machine
end

section
/-! What each submission entry does (R109 to R113, R118, R175, R305). -/

namespace Sys2Proof.Machine

open Sys2Proof Sys2Proof.Safety

section Queue

variable {s : State} {q o : Nat} {slots : List (List Byte)}

theorem setOpcode_ne_nil (h : slots ≠ []) : setOpcode o slots ≠ [] := by
  obtain ⟨b, rest, rfl⟩ := List.exists_cons_of_ne_nil h
  exact List.cons_ne_nil _ _

theorem length_setOpcode (o : Nat) (slots : List (List Byte)) : (setOpcode o slots).length = slots.length := by
  cases slots with
  | nil => rfl
  | cons b rest => rfl

theorem State.rd_taken_head (s : State) (q k : Nat) (e : Sqe) : (s.taken q k e).rd Reg.QP_HEAD_HEAD q = (s.rd Reg.QP_HEAD_HEAD q + k) % 2 ^ 32 :=
  (s.rd_taken q k e ..).trans (s.rd_entered q k e).1

theorem State.ops_taken (s : State) (q k : Nat) (e : Sqe) : ((s.taken q k e).sqOf q).ops = (s.sqOf q).ops ++ [s.newOp q e] := by
  obtain ⟨w, taken⟩ := s.sqOf_taken q k e
  rw [taken]

/-- A completion ring of a queue pair whose head has passed an entry is as it was. -/
theorem CqTakes.taken {cq : Nat} (h : CqTakes s cq) (k : Nat) (e : Sqe) : CqTakes (s.taken q k e) cq := by
  have kept := s.taken_keeps q k e
  have same : (s.taken q k e).cqOf cq = s.cqOf cq := (congrArg (fun u : State => u.cqOf cq) kept.frame :)
  exact ⟨(kept.rd Reg.CQ_DESC0_BROKEN cq).trans h.whole, same ▸ h.open_⟩

/-- What one entry with opcode `o` does where the slots have been read and it is good. -/
theorem State.sqe_of_good (phase : (s.sqOf q).phase = .slots) (h : TakesEntry s q (setOpcode o slots))
    (good : s.entryBad q (entryAt (setOpcode o slots)) = none) : s.sqe q o slots =
      (s.taken q (slotsAt (setOpcode o slots)) (entryAt (setOpcode o slots))).startEntry q (s.sqOf q).serial (entryAt (setOpcode o slots)) := by
  rw [State.sqe, if_pos ⟨phase, by rw [h.native]; rfl⟩, h.acceptNext, good]

/-- Entries of messages, READs, atomics and reductions join the operations, are counted, and the head passes them. -/
theorem sqe_queued (low : 1 ≤ o) (high : o ≤ 7) (phase : (s.sqOf q).phase = .slots) (some_ : slots ≠ []) (h : TakesEntry s q (setOpcode o slots))
    (good : s.entryBad q (entryAt (setOpcode o slots)) = none) :
    (s.sqe q o slots).rd Reg.QP_HEAD_HEAD q = (s.rd Reg.QP_HEAD_HEAD q + slotsAt (setOpcode o slots)) % 2 ^ 32 ∧
      ((s.sqe q o slots).sqOf q).ops = (s.sqOf q).ops ++ [s.newOp q (entryAt (setOpcode o slots))] ∧
      (s.sqe q o slots).rd Reg.QP_OUT_COUNT q = (s.rd Reg.QP_OUT_COUNT q + 1) % 2 ^ Reg.QP_OUT_COUNT.w := by
  have opcode : (entryAt (setOpcode o slots)).opcode = o := (opcode_entryAt some_ o).trans (Nat.mod_eq_of_lt (by omega))
  rw [State.sqe_of_good phase h good]
  generalize entryAt (setOpcode o slots) = e, slotsAt (setOpcode o slots) = k at opcode
  have started := (s.taken q k e).startEntry_keeps_noClus q (s.sqOf q).serial (opcode.symm ▸ low) (opcode.symm ▸ high)
  have count : (s.entered q k e).rd Reg.QP_OUT_COUNT q = (s.rd Reg.QP_OUT_COUNT q + 1) % 2 ^ Reg.QP_OUT_COUNT.w := by
    rw [(s.rd_entered q k e).2, if_neg (by omega)]
  refine ⟨(started.rd Reg.QP_HEAD_HEAD q).trans (s.rd_taken_head q k e), ?_, ?_⟩
  · rw [← s.ops_taken q k e]
    exact (congrArg (fun u : State => (u.sqOf q).ops) started.frame :)
  · rw [started.rd Reg.QP_OUT_COUNT, s.rd_taken, count]

/-- A NOP that is the only operation of a connected queue pair completes (R111). -/
theorem sqe_nop (phase : (s.sqOf q).phase = .slots) (some_ : slots ≠ []) (h : TakesEntry s q (setOpcode 0 slots))
    (good : s.entryBad q (entryAt (setOpcode 0 slots)) = none) (up : s.cst q = Cst.connected) (none_ : (s.sqOf q).ops = [])
    (ring : CqTakes s (s.rd Reg.QP_DESC0_CQ q)) :
    (s.sqe q 0 slots).rd Reg.QP_HEAD_HEAD q = (s.rd Reg.QP_HEAD_HEAD q + slotsAt (setOpcode 0 slots)) % 2 ^ 32 ∧
      ((s.sqe q 0 slots).cqOf (s.rd Reg.QP_DESC0_CQ q)).waiting = (s.cqOf (s.rd Reg.QP_DESC0_CQ q)).waiting ++
        [{ opCqe q (s.newOp q (entryAt (setOpcode 0 slots))) Code.success 0 with wait := [], flushed := true }] := by
  have opcode : (entryAt (setOpcode 0 slots)).opcode = 0 := opcode_entryAt some_ 0
  rw [State.sqe_of_good phase h good]
  generalize entryAt (setOpcode 0 slots) = e, slotsAt (setOpcode 0 slots) = k at opcode
  have kept := s.taken_keeps q k e
  have only : ((s.taken q k e).sqOf q).ops = [s.newOp q e] := by rw [s.ops_taken, none_]; rfl
  have native : (s.taken q k e).legacy q = false := kept.legacy.trans h.native
  have starts : (s.taken q k e).startEntry q (s.sqOf q).serial e = (s.taken q k e).finishOp q (s.newOp q e).serial Code.success 0 := by
    rw [State.startEntry, if_neg (by omega), if_neg (by omega), if_pos opcode]
    exact State.settleNops_of_one ((kept.rd Reg.TRN_QP_T0_STATE q).trans up) only opcode rfl
  have cq : (s.taken q k e).rd Reg.QP_DESC0_CQ q = s.rd Reg.QP_DESC0_CQ q := kept.rd Reg.QP_DESC0_CQ q
  have open_ : (s.newOp q e).st ≠ .done := by simp [State.newOp]
  have ends := State.finishOp_of_native native only open_ rfl (cq.symm ▸ ring.taken k e) Code.success 0
  rw [cq] at ends
  obtain ⟨ended, waiting⟩ := ends
  have same : (s.taken q k e).cqOf (s.rd Reg.QP_DESC0_CQ q) = s.cqOf (s.rd Reg.QP_DESC0_CQ q) :=
    (congrArg (fun u : State => u.cqOf (s.rd Reg.QP_DESC0_CQ q)) kept.frame :)
  rw [starts]
  exact ⟨(ended.rd Reg.QP_HEAD_HEAD q).trans (s.rd_taken_head q k e), same ▸ waiting⟩

/-- A receive is posted, and counts toward no outstanding limit (R118, R175). -/
theorem sqe_postRecv (phase : (s.sqOf q).phase = .slots) (some_ : slots ≠ []) (h : TakesEntry s q (setOpcode 0x10 slots))
    (good : s.entryBad q (entryAt (setOpcode 0x10 slots)) = none) :
    (s.sqe q 0x10 slots).rd Reg.QP_HEAD_HEAD q = (s.rd Reg.QP_HEAD_HEAD q + slotsAt (setOpcode 0x10 slots)) % 2 ^ 32 ∧
      ((s.sqe q 0x10 slots).sqOf q).ops = (s.sqOf q).ops ++ [s.newOp q (entryAt (setOpcode 0x10 slots))] ∧
      ((s.sqe q 0x10 slots).connOf q).recvs = (s.connOf q).recvs ++
        [{ ssn := s.rd Reg.TRN_QP_T4_RECV_POSTED q, serial := (s.sqOf q).serial, tag := (entryAt (setOpcode 0x10 slots)).tag,
           laddr := (entryAt (setOpcode 0x10 slots)).laddr, len := (entryAt (setOpcode 0x10 slots)).len,
           localWin := (entryAt (setOpcode 0x10 slots)).localWin }] ∧
      (s.sqe q 0x10 slots).rd Reg.QP_OUT_COUNT q = s.rd Reg.QP_OUT_COUNT q := by
  have opcode : (entryAt (setOpcode 0x10 slots)).opcode = 0x10 := opcode_entryAt some_ 0x10
  rw [State.sqe_of_good phase h good]
  generalize entryAt (setOpcode 0x10 slots) = e, slotsAt (setOpcode 0x10 slots) = k at opcode
  have kept := s.taken_keeps q k e
  have conn : (s.taken q k e).connOf q = s.connOf q := (congrArg (fun u : State => u.connOf q) kept.frame :)
  have count : (s.taken q k e).rd Reg.QP_OUT_COUNT q = s.rd Reg.QP_OUT_COUNT q := by
    rw [s.rd_taken, (s.rd_entered q k e).2, if_pos opcode]
  rw [State.startEntry, if_pos opcode, conn, kept.rd Reg.TRN_QP_T4_RECV_POSTED, State.inc_eq]
  refine ⟨?_, s.ops_taken q k e, congrArg Conn.recvs (State.connOf_setConn ..), ?_⟩
  · rw [State.rd_wr_of_key _ _ _ _ _ _ (by decide), State.setConn_rd, s.rd_taken_head]
  · rw [State.rd_wr_of_key _ _ _ _ _ _ (by decide), State.setConn_rd, count]

/-- A COLLECTIVE that begins at once arms its peloton, which is ready (R305, R307). -/
theorem sqe_collective {p : Nat} (phase : (s.sqOf q).phase = .slots) (some_ : slots ≠ []) (h : TakesEntry s q (setOpcode 8 slots))
    (good : s.entryBad q (entryAt (setOpcode 8 slots)) = none) (isPel : p = colPel false (entryAt (setOpcode 8 slots)))
    (ready : (s.pelOf p).st = .ready) (idle : (s.pelOf p).op = none)
    (now_ : (colFields false q (s.sqOf q).serial (entryAt (setOpcode 8 slots))).launchAt = 0) :
    (s.sqe q 8 slots).rd Reg.QP_HEAD_HEAD q = (s.rd Reg.QP_HEAD_HEAD q + slotsAt (setOpcode 8 slots)) % 2 ^ 32 ∧
      (s.sqe q 8 slots).pelOf p =
        { s.pelOf p with op := some (colFields false q (s.sqOf q).serial (entryAt (setOpcode 8 slots))), st := .armed } ∧
      ((s.sqe q 8 slots).sqOf q).ops = (s.sqOf q).ops ++ [s.newOp q (entryAt (setOpcode 8 slots))] := by
  have opcode : (entryAt (setOpcode 8 slots)).opcode = 8 := opcode_entryAt some_ 8
  rw [State.sqe_of_good phase h good]
  generalize entryAt (setOpcode 8 slots) = e, slotsAt (setOpcode 8 slots) = k at opcode isPel now_
  have kept := s.taken_keeps q k e
  have pel : (s.taken q k e).pelOf p = s.pelOf p := (congrArg (fun u : State => u.pelOf p) kept.frame :)
  have native : (s.taken q k e).legacy q = false := kept.legacy.trans h.native
  have starts : (s.taken q k e).startEntry q (s.sqOf q).serial e =
      (s.taken q k e).setPel p { s.pelOf p with op := some (colFields false q (s.sqOf q).serial e), st := .armed } := by
    rw [State.startEntry, if_neg (by omega), if_pos opcode, native, ← isPel]
    simp [State.acceptCollective, pel, ready, idle, now_]
  rw [starts]
  exact ⟨s.rd_taken_head q k e, State.pelOf_setPel .., s.ops_taken q k e⟩

/-- An entry that breaks its form completes with BAD_ENTRY, and the queue pair is in ERROR (R110 to R113, R160). -/
theorem sqe_broken (phase : (s.sqOf q).phase = .slots) (some_ : slots ≠ []) (h : TakesEntry s q (setOpcode o slots))
    (form : o % 256 = 0x1F ∨ nativeOpcode (o % 256) = false) (reset : s.cst q = Cst.reset) (none_ : (s.sqOf q).ops = []) (noPel : s.pels = [])
    (ring : CqTakes s (s.rd Reg.QP_DESC0_CQ q)) :
    (s.sqe q o slots).rd Reg.QP_HEAD_HEAD q = (s.rd Reg.QP_HEAD_HEAD q + slotsAt (setOpcode o slots)) % 2 ^ 32 ∧
      (s.sqe q o slots).cst q = Cst.error ∧ (s.sqe q o slots).rd Reg.TRN_QP_T5_ERR_SYNDROME q = Code.badEntry ∧
      ((s.sqe q o slots).cqOf (s.rd Reg.QP_DESC0_CQ q)).waiting = (s.cqOf (s.rd Reg.QP_DESC0_CQ q)).waiting ++
        [{ opCqe q (s.newOp q (entryAt (setOpcode o slots))) Code.badEntry 0 with wait := [], flushed := true }] := by
  have bad : s.entryBad q (entryAt (setOpcode o slots)) = some 0 := if_pos (bad_entryAt some_ form)
  rw [State.sqe, if_pos ⟨phase, by rw [h.native]; rfl⟩, h.acceptNext, bad]
  generalize entryAt (setOpcode o slots) = e, slotsAt (setOpcode o slots) = k
  have kept := s.taken_keeps q k e
  have only : ((s.taken q k e).sqOf q).ops = [s.newOp q e] := by rw [s.ops_taken, none_]; rfl
  have native : (s.taken q k e).legacy q = false := kept.legacy.trans h.native
  have cq : (s.taken q k e).rd Reg.QP_DESC0_CQ q = s.rd Reg.QP_DESC0_CQ q := kept.rd Reg.QP_DESC0_CQ q
  have same : (s.taken q k e).cqOf (s.rd Reg.QP_DESC0_CQ q) = s.cqOf (s.rd Reg.QP_DESC0_CQ q) :=
    (congrArg (fun u : State => u.cqOf (s.rd Reg.QP_DESC0_CQ q)) kept.frame :)
  have open_ : (s.newOp q e).st ≠ .done := by simp [State.newOp]
  obtain ⟨error, syndrome, head, waiting⟩ := State.qpError_of_badEntry native ((kept.rd Reg.TRN_QP_T0_STATE q).trans reset) only open_ rfl
    ((congrArg State.pels kept.frame :).trans noPel) (cq.symm ▸ ring.taken k e) 0
  rw [cq, same] at waiting
  exact ⟨head.trans (s.rd_taken_head q k e), error, syndrome, waiting⟩

end Queue

end Sys2Proof.Machine

open Sys2Proof Sys2Proof.Machine Sys2Proof.Safety

/-- Settles O30: an entry that is taken becomes an operation behind the head (`TakesEntry.acceptNext`), and then starts by its opcode or ends the
queue pair in ERROR. -/
theorem submissionEntries : Obligations.SubmissionEntries := by
  intro s q o slots x h cq n e new ready taken queued broken phase native thawed _
  have takes (o : Nat) : ready o → TakesEntry s q (setOpcode o slots) := fun ⟨some_, whole, room, phases, capacity⟩ =>
    ⟨native, thawed, setOpcode_ne_nil some_, (length_setOpcode o slots).symm ▸ whole, room, phases, capacity⟩
  have joins (o : Nat) (low : 1 ≤ o) (high : o ≤ 7) (k : Instr) (runs : exec k s = .next (s.sqe q o slots)) : queued k o := fun good r =>
    ⟨_, runs, sqe_queued low high phase r.1 (takes o r) good⟩
  have breaks (o : Nat) (form : o % 256 = 0x1F ∨ nativeOpcode (o % 256) = false) (k : Instr) (runs : exec k s = .next (s.sqe q o slots)) :
      broken k o := by
    intro reset none_ noPel whole open_ r
    obtain ⟨head, error, syndrome, waiting⟩ := sqe_broken phase r.1 (takes o r) form reset none_ noPel ⟨whole, open_⟩
    exact ⟨_, runs, head, error, syndrome, _, waiting, rfl, rfl, rfl⟩
  refine ⟨⟨?_, ?_, ?_, ?_, ?_, ?_, ?_⟩, ?_, ?_, ?_, ?_, ?_⟩
  · exact joins 1 (by decide) (by decide) _ rfl
  · exact joins 2 (by decide) (by decide) _ rfl
  · exact joins 3 (by decide) (by decide) _ rfl
  · exact joins 4 (by decide) (by decide) _ rfl
  · exact joins 5 (by decide) (by decide) _ rfl
  · exact joins 6 (by decide) (by decide) _ rfl
  · exact joins 7 (by decide) (by decide) _ rfl
  · intro good up none_ whole open_ r
    obtain ⟨head, waiting⟩ := sqe_nop phase r.1 (takes 0 r) good up none_ ⟨whole, open_⟩
    exact ⟨_, rfl, head, _, waiting, rfl, rfl, rfl, rfl⟩
  · exact fun good r => ⟨_, rfl, sqe_postRecv phase r.1 (takes 0x10 r) good⟩
  · rintro p _ isPel rfl good pelReady idle now_ r
    exact ⟨_, rfl, sqe_collective phase r.1 (takes 8 r) good isPel pelReady idle now_⟩
  · exact breaks 0x1F (.inl rfl) _ rfl
  · intro unknown
    exact breaks o (.inr unknown) _ (congrArg Host.Outcome.next (if_neg (by simp [unknown])))
end

section
/-! The submission side of a native queue pair: doorbells, the reads of a fetch, the head and a failed read (R109, R115 to R119). -/

namespace Sys2Proof.Machine

open Sys2Proof Sys2Proof.Safety

section Queue

variable {s : State} {q : Nat} (native : s.legacy q = false)

/-! The index block is read (R115). -/

/-- The index block of queue pair `q` is read, and its operations and its head are as in `s`. -/
def ReadsIndex (s : State) (q : Nat) (t : State) : Prop :=
  (t.sqOf q).phase = .index ∧ t.out = s.out ++ [.indexRead q] ∧ (t.sqOf q).ops = (s.sqOf q).ops ∧
    t.rd Reg.QP_HEAD_HEAD q = s.rd Reg.QP_HEAD_HEAD q

include native

/-- Where the scheduler fetches, the reading of the ring begins with its index block. -/
theorem State.readsIndex_readRing {u : State} (fetch : s.mayFetch = true) (kept : Keeps State.noOps [Reg.QP_DESC3_SCHED_STATE] s u)
    (ops : (u.sqOf q).ops = (s.sqOf q).ops) : ReadsIndex s q (u.readRing q) := by
  have runs : u.readRing q = (u.modSq q (fun (x : Sq) => { x with phase := .index })).emit (.indexRead q) := by
    simp [State.readRing, kept.mayFetch, fetch, kept.legacy, native]
  rw [runs, ReadsIndex, State.sqOf_emit, State.sqOf_modSq]
  exact ⟨rfl, congrArg (· ++ [Out.indexRead q]) (congrArg State.out kept.frame :), ops, kept.rd Reg.QP_HEAD_HEAD q⟩

theorem State.readsIndex_beginFetch (fetch : s.mayFetch = true) : ReadsIndex s q (s.beginFetch q) := by
  let fresh : State := s.modSq q (fun (x : Sq) => { x with bell := false, again := false, held := false, took := false, refetches := 0 })
  have ops : (fresh.sqOf q).ops = (s.sqOf q).ops := by rw [show fresh.sqOf q = _ from State.sqOf_modSq ..]
  have runs : s.beginFetch q = (fresh.setSched q Sched.fetch).readRing q := if_neg (by simp [native])
  have kept : Keeps State.noOps [Reg.QP_DESC3_SCHED_STATE] s (fresh.setSched q Sched.fetch) := (Keeps.refl ..).of_eq.wr Reg.QP_DESC3_SCHED_STATE q _
  rw [runs]
  exact State.readsIndex_readRing native fetch kept ops

/-! Doorbells (R115, R116, R119). -/

theorem does_qpDoorbell_of_off (valid : s.qpValid q = true) (off : s.bellOff q = true) (v : Nat) :
    Does (.qpDoorbell q v) s fun t => t = s.wr Reg.QP_DB_DISCARD_COUNT 0 (s.rd Reg.QP_DB_DISCARD_COUNT 0 + 1) := by
  refine ⟨_, rfl, ?_⟩
  rw [State.bell, if_neg (by simp [native]), State.doorbell, if_neg (by simp [valid]), if_pos off]
  rfl

theorem does_qpDoorbell (valid : s.qpValid q = true) (fetch : s.mayFetch = true) (thawed : s.frozen (s.qpTenant q) = false)
    (idle : (s.sqOf q).phase = .none) (on : s.bellOff q = false) (v : Nat) : Does (.qpDoorbell q v) s (ReadsIndex s q) := by
  refine ⟨_, rfl, ?_⟩
  rw [State.bell, if_neg (by simp [native]), State.doorbell, if_neg (by simp [valid]), if_neg (by simp [on]), if_neg (by simp [thawed]), State.ring]
  simp only [idle]
  exact State.readsIndex_beginFetch native fetch

theorem does_sqAcceptResume (fetch : s.mayFetch = true) (thawed : s.frozen (s.qpTenant q) = false) (idle : (s.sqOf q).phase = .none)
    (held : (s.sqOf q).held = true) (capacity : s.capacity q {} = true) : Does (.sqAcceptResume q) s (ReadsIndex s q) :=
  ⟨_, congrArg Host.Outcome.next (if_pos ⟨held, idle, by rw [thawed]; rfl, capacity⟩), State.readsIndex_beginFetch native fetch⟩

theorem does_refetchWaitExpire (fetch : s.mayFetch = true) (waits : (s.sqOf q).phase = .wait) : Does (.refetchWaitExpire q) s (ReadsIndex s q) :=
  ⟨_, congrArg Host.Outcome.next (if_pos waits), State.readsIndex_readRing native fetch (.refl ..) rfl⟩

/-! The tail, and the slots (R115 steps 1 to 4). -/

theorem does_sqIndexReadDone {t : Nat} (fetch : s.mayFetch = true) (phase : (s.sqOf q).phase = .index)
    (fits : d32 (t % 2 ^ 32) (s.rd Reg.QP_HEAD_HEAD q) ≤ s.ringSize q) : Does (.sqIndexReadDone q t) s fun u =>
      u.rd Reg.QP_HEAD_TAIL_SEEN q = t % 2 ^ 32 ∧ (u.sqOf q).phase = .slots ∧
      u.out = s.out ++ [.slotsRead q (s.rd Reg.QP_HEAD_HEAD q) (min (d32 (t % 2 ^ 32) (s.rd Reg.QP_HEAD_HEAD q) + 16) (s.ringSize q))] := by
  refine ⟨_, congrArg Host.Outcome.next (if_pos ⟨phase, by rw [native]; rfl⟩), ?_⟩
  have seen : Keeps State.noOps [Reg.QP_HEAD_TAIL_SEEN] s (s.wr Reg.QP_HEAD_TAIL_SEEN q (t % 2 ^ 32)) := (Keeps.refl ..).wr _ _ _
  have tail : (s.wr Reg.QP_HEAD_TAIL_SEEN q (t % 2 ^ 32)).rd Reg.QP_HEAD_TAIL_SEEN q = t % 2 ^ 32 := (State.rd_wr_self ..).trans (Nat.mod_mod ..)
  have fetches : ¬(!(s.wr Reg.QP_HEAD_TAIL_SEEN q (t % 2 ^ 32)).mayFetch) = true := by rw [seen.mayFetch, fetch]; decide
  rw [State.indexRead, if_pos fits, State.askSlots, if_neg fetches, seen.rd Reg.QP_HEAD_HEAD]
  exact ⟨tail, by rw [State.sqOf_emit, State.sqOf_modSq], rfl⟩

omit native in
/-- A read of slots that reached the tail, with no doorbell behind it: the head is written, and the queue pair is idle (R115 step 4, R117). -/
theorem State.endRead_of_reached (reached : s.reached q = true) (native : s.legacy q = false)
    (moved : (s.sqOf q).headWritten ≠ s.rd Reg.QP_HEAD_HEAD q) (noBell : (s.sqOf q).bell = false) (noAgain : (s.sqOf q).again = false) :
    s.endRead q .stop = ((s.writeHead q).modSq q (fun (x : Sq) => { x with phase := .none })).setSched q Sched.idle := by
  have writes : s.showHead q = s.writeHead q := if_neg (by simp [native, moved])
  simp [State.endRead, reached, writes, noBell, noAgain]

/-- The one entry up to the tail becomes an operation, and the head behind it is written. -/
theorem does_sqSlotsReadDone {b : List Byte} (thawed : s.frozen (s.qpTenant q) = false) (phase : (s.sqOf q).phase = .slots) (one : slotsOf b = 1)
    (last : s.rd Reg.QP_HEAD_TAIL_SEEN q = (s.rd Reg.QP_HEAD_HEAD q + 1) % 2 ^ 32) (word : s.rd Reg.QP_HEAD_HEAD q < 2 ^ 32)
    (current : phasesOk (s.rd Reg.QP_DESC0_LOG2_SIZE q) (s.rd Reg.QP_HEAD_HEAD q) [b] = true) (capacity : s.capacity q (parseEntry [b]) = true)
    (good : s.entryBad q (parseEntry [b]) = none) (low : 1 ≤ (parseEntry [b]).opcode) (high : (parseEntry [b]).opcode ≤ 7)
    (written : (s.sqOf q).headWritten = s.rd Reg.QP_HEAD_HEAD q) (noBell : (s.sqOf q).bell = false) (noAgain : (s.sqOf q).again = false) :
    Does (.sqSlotsReadDone q [b]) s fun u => u.rd Reg.QP_HEAD_HEAD q = (s.rd Reg.QP_HEAD_HEAD q + 1) % 2 ^ 32 ∧
      (u.sqOf q).headWritten = (s.rd Reg.QP_HEAD_HEAD q + 1) % 2 ^ 32 ∧ (u.sqOf q).ops = (s.sqOf q).ops ++ [s.newOp q (parseEntry [b])] ∧
      u.sched q = Sched.idle ∧ (u.sqOf q).phase = .none ∧ u.out = s.out ++ [.sqHead q ((s.rd Reg.QP_HEAD_HEAD q + 1) % 2 ^ 32)] := by
  have slots : slotsAt [b] = 1 := one
  have entry : entryAt [b] = parseEntry [b] := by rw [entryAt, slots]; rfl
  have takes : TakesEntry s q [b] := by
    refine ⟨native, thawed, List.cons_ne_nil _ _, slots.le, ?_, ?_, entry.symm ▸ capacity⟩
    · rw [slots, last]
      omega
    · rw [slots]
      exact current
  have accepts := takes.acceptNext
  rw [entry, good, slots] at accepts
  generalize parseEntry [b] = e at low high accepts
  have near : ¬16 ≤ d32 ((s.rd Reg.QP_HEAD_HEAD q + 1) % 2 ^ 32) (s.sqOf q).headWritten := by
    rw [written, d32]
    omega
  have taken : s.taken q 1 e = s.entered q 1 e := if_neg near
  have kept := s.entered_keeps q 1 e
  have sq := s.sqOf_entered q 1 e
  obtain ⟨head, -⟩ := s.rd_entered q 1 e
  dsimp only at accepts
  rw [taken] at accepts
  have started := (s.entered q 1 e).startEntry_keeps_noClus q (s.sqOf q).serial low high
  generalize (s.entered q 1 e).startEntry q (s.sqOf q).serial e = u at accepts started
  generalize s.entered q 1 e = v at kept sq head started
  have sqU : u.sqOf q = v.sqOf q := (congrArg (fun w : State => w.sqOf q) started.frame :)
  have headU : u.rd Reg.QP_HEAD_HEAD q = (s.rd Reg.QP_HEAD_HEAD q + 1) % 2 ^ 32 := (started.rd Reg.QP_HEAD_HEAD q).trans head
  have tailU : u.rd Reg.QP_HEAD_TAIL_SEEN q = (s.rd Reg.QP_HEAD_HEAD q + 1) % 2 ^ 32 :=
    ((started.rd Reg.QP_HEAD_TAIL_SEEN q).trans (kept.rd Reg.QP_HEAD_TAIL_SEEN q)).trans last
  have nativeU : u.legacy q = false := (started.legacy.trans kept.legacy).trans native
  have outU : u.out = s.out := (congrArg State.out started.frame :).trans (congrArg State.out kept.frame :)
  have reached : u.reached q = true := by
    rw [State.reached, nativeU, sqU, sq, headU, tailU, d32]
    simp
    omega
  have moved : (u.sqOf q).headWritten ≠ u.rd Reg.QP_HEAD_HEAD q := by
    rw [sqU, sq, headU]
    dsimp only
    rw [written]
    omega
  have ends := State.endRead_of_reached reached nativeU moved (by rw [sqU, sq]; exact noBell) (by rw [sqU, sq]; exact noAgain)
  have all : State.acceptAll q 2 [b] s = (u, .stop) := by
    simp only [State.acceptAll, accepts, native, List.headD_cons, one, Bool.false_eq_true, if_false]
    rfl
  have runs : exec (.sqSlotsReadDone q [b]) s = .next (u.endRead q .stop) := by
    refine congrArg Host.Outcome.next ((if_pos ⟨phase, by rw [native]; rfl⟩).trans ?_)
    rw [show [b].length + 1 = 2 from rfl, all]
  have sqW : ((u.writeHead q).sqOf q) = { u.sqOf q with headWritten := u.rd Reg.QP_HEAD_HEAD q } := State.sqOf_setSq ..
  rw [ends] at runs
  refine ⟨_, runs, ?_, ?_, ?_, State.rd_wr_self .., ?_, ?_⟩
  · rw [State.setSched, State.rd_wr_of_key _ _ _ _ _ _ (by decide), State.modSq_rd]
    exact headU
  · rw [State.setSched, State.sqOf_wr, State.sqOf_modSq, sqW]
    exact headU
  · rw [State.setSched, State.sqOf_wr, State.sqOf_modSq, sqW, sqU, sq]
  · rw [State.setSched, State.sqOf_wr, State.sqOf_modSq]
  · exact (congrArg (· ++ [Out.sqHead q (u.rd Reg.QP_HEAD_HEAD q)]) outU).trans (by rw [headU])

/-! The head, written (R117). -/

theorem does_sqHeadWriteback (valid : s.qpValid q = true) (moved : (s.sqOf q).headWritten ≠ s.rd Reg.QP_HEAD_HEAD q) :
    Does (.sqHeadWriteback q) s fun t => t = { s.setSq q { s.sqOf q with headWritten := s.rd Reg.QP_HEAD_HEAD q } with
      out := s.out ++ [.sqHead q (s.rd Reg.QP_HEAD_HEAD q)] } :=
  ⟨_, congrArg Host.Outcome.next ((if_pos valid).trans (if_neg (by simp [native, moved]))), rfl⟩

/-! A read that failed (R115 step 7, R160). -/

/-- The completion of a failed read. -/
def failCqe (q code detail : Nat) : Cqe := { qp := q, status := code, detail, flushed := true }

/-- A read that failed: a completion of no entry is ready, and the queue pair, which has no operation, is in ERROR. -/
theorem does_sqFetchFailed {code : Nat} (phase : (s.sqOf q).phase = .index ∨ (s.sqOf q).phase = .slots)
    (isCode : code ∈ [Code.accessViolation, Code.pageTimeout, Code.hostDataError]) (reset : s.cst q = Cst.reset) (none_ : (s.sqOf q).ops = [])
    (noPel : s.pels = []) (ring : CqTakes s (s.rd Reg.QP_DESC0_CQ q)) (detail addr : Nat) : Does (.sqFetchFailed q code detail addr) s fun t =>
      t.cst q = Cst.error ∧ t.sched q = Sched.error ∧ t.rd Reg.TRN_QP_T5_ERR_SYNDROME q = code ∧
      (t.cqOf (s.rd Reg.QP_DESC0_CQ q)).waiting = (s.cqOf (s.rd Reg.QP_DESC0_CQ q)).waiting ++ [failCqe q code detail] := by
  have codes : code = Code.accessViolation ∨ code = Code.pageTimeout ∨ code = Code.hostDataError := by simpa using isCode
  have small : code % 2 ^ 8 = code := by rcases codes with rfl | rfl | rfl <;> rfl
  refine ⟨_, congrArg Host.Outcome.next (if_pos ⟨phase, codes⟩), ?_⟩
  have ready := s.cqReady_keeps (s.rd Reg.QP_DESC0_CQ q) (failCqe q code detail)
  have waiting := s.waiting_cqReady (s.rd Reg.QP_DESC0_CQ q) (failCqe q code detail)
  have pushes : s.pushCqe (s.rd Reg.QP_DESC0_CQ q) { qp := q, status := code, detail } = s.cqReady (s.rd Reg.QP_DESC0_CQ q) (failCqe q code detail) :=
    State.pushCqe_of_takes ring rfl
  have sqsReady : (s.cqReady (s.rd Reg.QP_DESC0_CQ q) (failCqe q code detail)).sqs = s.sqs := rfl
  rw [State.sqFail, if_neg (by simp [native]), pushes]
  generalize s.cqReady (s.rd Reg.QP_DESC0_CQ q) (failCqe q code detail) = r at ready waiting sqsReady
  have told := r.event_keeps (s.qpTenant q) code detail (evObj 0 q) addr
  generalize r.event (s.qpTenant q) code detail (evObj 0 q) addr = u at told
  have resetU : u.cst q = Cst.reset := ((told.rd Reg.TRN_QP_T0_STATE q).trans (ready.rd Reg.TRN_QP_T0_STATE q)).trans reset
  have noneU : (u.sqOf q).ops = [] := by
    have sqs : u.sqs = s.sqs := (congrArg State.sqs told.frame :).trans sqsReady
    rw [State.sqOf, sqs]
    exact none_
  have noPelU : u.pels = [] := ((congrArg State.pels told.frame :).trans (congrArg State.pels ready.frame :)).trans noPel
  have stopped := u.stopped_keeps q code detail
  obtain ⟨sched, syndrome⟩ := u.rd_stopped q code detail
  have cst := u.cst_stopped q code detail
  rw [State.qpError_of_ended resetU (State.opsEnded_of_nil ((u.ops_stopped q code detail).trans noneU) ..)
    ((congrArg State.pels stopped.frame :).trans noPelU)]
  generalize u.stopped q code detail = v at stopped sched syndrome cst
  have dropped := v.recsDropped_keeps q
  have cqs : (v.recsDropped q).cqs = r.cqs :=
    ((congrArg State.cqs dropped.frame :).trans (congrArg State.cqs stopped.frame :)).trans (congrArg State.cqs told.frame :)
  refine ⟨(dropped.rd Reg.TRN_QP_T0_STATE q).trans cst, (dropped.rd Reg.QP_DESC3_SCHED_STATE q).trans sched, ?_, ?_⟩
  · rw [dropped.rd Reg.TRN_QP_T5_ERR_SYNDROME, syndrome, small]
  · rw [State.cqOf, cqs]
    exact waiting

end Queue

end Sys2Proof.Machine

open Sys2Proof Sys2Proof.Machine Sys2Proof.Safety

/-- Settles O29: a fetch reads the index block, then the slots up to the tail; an entry that is taken whole moves the head, which is written at the
end of the read. -/
theorem submissionFetch : Obligations.SubmissionFetch := by
  intro s q v t code detail addr b valid native x h cq reads
  refine ⟨fun off => does_qpDoorbell_of_off native valid off v, fun fetch thawed => ⟨fun idle on => ?_, fun idle held capacity => ?_, fun waits => ?_,
    fun phase fits => ?_, ?_⟩, fun moved => ?_, ?_⟩
  · exact does_qpDoorbell native valid fetch thawed idle on v
  · exact does_sqAcceptResume native fetch thawed idle held capacity
  · exact does_refetchWaitExpire native fetch waits
  · exact does_sqIndexReadDone native fetch phase fits
  · exact does_sqSlotsReadDone native thawed
  · exact does_sqHeadWriteback native valid moved
  · intro phase isCode reset none_ noPel whole open_
    obtain ⟨u, runs, error, sched, syndrome, waiting⟩ := does_sqFetchFailed native phase isCode reset none_ noPel ⟨whole, open_⟩ detail addr
    exact ⟨u, runs, error, sched, syndrome, _, waiting, rfl, rfl, rfl⟩
end

section
/-! Mailbox commands that change the management processor, and the key commands (R353, R356 to R359, R365, R373). -/

namespace Sys2Proof.Machine

open Sys2Proof Sys2Proof.Safety

/-! Answers beside the mailboxes (R373, R374). -/

/-- The state but for its registers and its mailboxes. -/
def State.noMbx (s : State) : State := { s with regs := [], mgmt := { s.mgmt with mbx := [] } }

theorem State.respond_keeps_noMbx {s : State} {ch : Nat} (page : ch < 1024) (status detail : Nat) (data : List Byte) :
    Keeps State.noMbx respondFields s (s.respond ch status detail data) := by
  have counted : Keeps State.noMbx respondFields s (s.count Reg.MBX_CMD_COUNT_COUNT) := (Keeps.refl ..).wr _ _ _
  rw [State.respond_of_page page]
  exact ((((counted.of_eq.wr _ _ _).wr _ _ _).wr _ _ _).wr _ _ _).wr _ _ _

/-- What a response says of a command is said of the state in which it was taken up, where its number and its header are the same. -/
theorem mbxSays_of_header {s u t : State} {ch status detail : Nat} {data : List Byte} (h : MbxSays u t ch status detail data)
    (seq : (u.mbxOf ch).seq = (s.mbxOf ch).seq) (header : u.header ch = s.header ch) : MbxSays s t ch status detail data := by
  obtain ⟨head, result, done⟩ := h
  rw [header, seq] at head
  rw [seq] at done
  exact ⟨head, result, done⟩

theorem State.mbxOf_of_mbx {s u : State} (h : u.mgmt.mbx = s.mgmt.mbx) (ch : Nat) : u.mbxOf ch = s.mbxOf ch := by rw [State.mbxOf, h]; rfl
theorem State.header_of_mbxOf {s u : State} {ch : Nat} (h : u.mbxOf ch = s.mbxOf ch) : u.header ch = s.header ch := by simp only [State.header, h]

/-- The digest of a command is that of its mailbox. -/
theorem State.digest_of_mbxOf {s u : State} {ch : Nat} (h : u.mbxOf ch = s.mbxOf ch) : u.digest (some ch) = s.digest (some ch) := by
  simp only [State.digest, State.header, State.params, h]

/-- A command that succeeds in a state `u` with the mailboxes as before answers its result; what holds after the response of `u` holds. -/
theorem answers_of_mbx {s u : State} {ch cmd : Nat} {touch : Bool} {data : List Byte} {k : Instr} {body : State → MbxRes} {P : State → Prop}
    (runs : exec k s = .next (s.mbxRun ch cmd touch body)) (ok : body s = .ok u data) (mbx : u.mgmt.mbx = s.mgmt.mbx)
    (after : ∀ t, Keeps State.noMbx respondFields u t → P t) : Safety.Answers k s ch cmd data P := fun open_ => by
  have box := State.mbxOf_of_mbx mbx ch
  exact ⟨_, runs.trans (congrArg Host.Outcome.next (State.mbxRun_ok touch open_ ok)),
    mbxSays_of_header (State.respond_says open_.page 0 0 data) (congrArg Mbx.seq box) (State.header_of_mbxOf box),
    after _ (State.respond_keeps_noMbx open_.page 0 0 data)⟩

namespace Keeps

variable {l : List Fld} {s u : State} (h : Keeps State.noMbx l s u)
include h

theorem box_cip : u.cip = s.cip := (congrArg State.cip h.frame :)
theorem box_out : u.out = s.out := (congrArg State.out h.frame :)
theorem box_gddr : u.gddr = s.gddr := (congrArg State.gddr h.frame :)
theorem box_conns : u.conns = s.conns := (congrArg State.conns h.frame :)
theorem box_ten : u.ten = s.ten := (congrArg State.ten h.frame :)
theorem box_admOf (t : Nat) : u.admOf t = s.admOf t := (congrArg (fun x : State => x.admOf t) h.frame :)
theorem box_chals : u.mgmt.chals = s.mgmt.chals := (congrArg (fun x : State => x.mgmt.chals) h.frame :)
theorem box_stage : u.mgmt.stage = s.mgmt.stage := (congrArg (fun x : State => x.mgmt.stage) h.frame :)
theorem box_flash : u.mgmt.flash = s.mgmt.flash := (congrArg (fun x : State => x.mgmt.flash) h.frame :)
theorem box_xforms : u.mgmt.xforms = s.mgmt.xforms := (congrArg (fun x : State => x.mgmt.xforms) h.frame :)
theorem box_log : u.mgmt.log = s.mgmt.log := (congrArg (fun x : State => x.mgmt.log) h.frame :)

end Keeps

/-! Key slots (R356, R359). -/

theorem slot_ne_respondFields (p : Nat) : (∀ g ∈ respondFields, (slotValid p).key ≠ g.key) ∧ (∀ g ∈ respondFields, (slotUsed p).key ≠ g.key) ∧
    (∀ g ∈ respondFields, (slotKeyId p).key ≠ g.key) := by
  unfold slotValid slotUsed slotKeyId
  split <;> decide

/-- The three fields of a key slot are apart from each other and from TX_PHASE, REKEY_REQ, EXHAUSTED and the counter of their context. -/
theorem slot_keys (p : Nat) : (slotValid p).key ≠ (slotUsed p).key ∧ (slotValid p).key ≠ (slotKeyId p).key ∧ (slotUsed p).key ≠ (slotKeyId p).key ∧
    ∀ g ∈ [Reg.CIP_CTX0_TX_PHASE, Reg.CIP_CTX_CTR_COUNTER, Reg.CIP_CTX0_REKEY_REQ, Reg.CIP_CTX0_EXHAUSTED], (slotUsed p).key ≠ g.key := by
  unfold slotValid slotUsed slotKeyId
  split <;> decide

theorem slot_width (p : Nat) : (slotValid p).w = 1 ∧ (slotUsed p).w = 1 ∧ (slotKeyId p).w = 16 := by
  unfold slotValid slotUsed slotKeyId
  split <;> decide

/-- Key slot `p` of context `c` holds a key with identity `id`, not yet used. -/
def State.keyPut (s : State) (c p id key : Nat) : State :=
  let s1 := ((s.wr (slotKeyId p) c id).wr (slotValid p) c 1).wr (slotUsed p) c 0
  { s1 with cip := { s1.cip with keys := Tbl.set 0 (2 * c + p) (key % 2 ^ 256) s1.cip.keys } }

section Slots

variable (s : State) (c p : Nat)

theorem State.rd_keyPut (id key : Nat) : (s.keyPut c p id key).rd (slotValid p) c = 1 ∧ (s.keyPut c p id key).rd (slotUsed p) c = 0 ∧
    (s.keyPut c p id key).rd (slotKeyId p) c = id % 2 ^ 16 := by
  obtain ⟨used, keyId, usedKey, -⟩ := slot_keys p
  obtain ⟨validW, usedW, keyW⟩ := slot_width p
  have regs (f : Fld) : (s.keyPut c p id key).rd f c = (((s.wr (slotKeyId p) c id).wr (slotValid p) c 1).wr (slotUsed p) c 0).rd f c := rfl
  refine ⟨?_, ?_, ?_⟩
  · rw [regs, State.rd_wr_of_key _ _ _ _ _ _ used, State.rd_wr_self, validW]; rfl
  · rw [regs, State.rd_wr_self, usedW]; rfl
  · rw [regs, State.rd_wr_of_key _ _ _ _ _ _ usedKey.symm, State.rd_wr_of_key _ _ _ _ _ _ keyId.symm, State.rd_wr_self, keyW]

theorem State.key_keyPut (id key : Nat) : Tbl.get 0 (2 * c + p) (s.keyPut c p id key).cip.keys = key % 2 ^ 256 := Tbl.get_set_self ..

theorem State.rd_clearKey : (s.clearKey c p).rd (slotValid p) c = 0 ∧ (s.clearKey c p).rd (slotUsed p) c = 0 := by
  obtain ⟨used, keyId, usedKey, -⟩ := slot_keys p
  have regs (f : Fld) : (s.clearKey c p).rd f c = (((s.wr (slotValid p) c 0).wr (slotUsed p) c 0).wr (slotKeyId p) c 0).rd f c := rfl
  refine ⟨?_, ?_⟩
  · rw [regs, State.rd_wr_of_key _ _ _ _ _ _ keyId, State.rd_wr_of_key _ _ _ _ _ _ used, State.rd_wr_self]; exact Nat.zero_mod _
  · rw [regs, State.rd_wr_of_key _ _ _ _ _ _ usedKey, State.rd_wr_self]; exact Nat.zero_mod _

theorem State.key_clearKey : Tbl.get 0 (2 * c + p) (s.clearKey c p).cip.keys = 0 := Tbl.get_set_self 0 (2 * c + p) 0 s.cip.keys

/-- Context `c` transmits with the key of slot `p` from here on, and counts from `start` (R356, R358). -/
def State.keyUsed (s : State) (c p start : Nat) : State :=
  ((((s.wr Reg.CIP_CTX0_TX_PHASE c p).wr Reg.CIP_CTX_CTR_COUNTER c start).wr (slotUsed p) c 1).wr Reg.CIP_CTX0_REKEY_REQ c 0).wr
    Reg.CIP_CTX0_EXHAUSTED c 0

theorem State.keyUsed_rest (start : Nat) : (s.keyUsed c p start).mgmt.mbx = s.mgmt.mbx ∧ (s.keyUsed c p start).cip = s.cip := ⟨rfl, rfl⟩

theorem State.rd_keyUsed (start : Nat) : (s.keyUsed c p start).rd Reg.CIP_CTX0_TX_PHASE c = p % 2 ^ 1 ∧
    (s.keyUsed c p start).rd Reg.CIP_CTX_CTR_COUNTER c = start % 2 ^ 64 ∧ (s.keyUsed c p start).rd (slotUsed p) c = 1 ∧
    (s.keyUsed c p start).rd Reg.CIP_CTX0_REKEY_REQ c = 0 ∧ (s.keyUsed c p start).rd Reg.CIP_CTX0_EXHAUSTED c = 0 := by
  obtain ⟨-, -, -, apart⟩ := slot_keys p
  obtain ⟨-, usedW, -⟩ := slot_width p
  obtain ⟨txPhase, counter, rekey, exhausted⟩ : (slotUsed p).key ≠ Reg.CIP_CTX0_TX_PHASE.key ∧ (slotUsed p).key ≠ Reg.CIP_CTX_CTR_COUNTER.key ∧
      (slotUsed p).key ≠ Reg.CIP_CTX0_REKEY_REQ.key ∧ (slotUsed p).key ≠ Reg.CIP_CTX0_EXHAUSTED.key := by simpa using apart
  unfold State.keyUsed
  refine ⟨?_, ?_, ?_, ?_, State.rd_wr_self ..⟩
  · rw [State.rd_wr_of_key _ _ _ _ _ _ (by decide), State.rd_wr_of_key _ _ _ _ _ _ (by decide), State.rd_wr_of_key _ _ _ _ _ _ txPhase.symm,
      State.rd_wr_of_key _ _ _ _ _ _ (by decide), State.rd_wr_self]
    rfl
  · rw [State.rd_wr_of_key _ _ _ _ _ _ (by decide), State.rd_wr_of_key _ _ _ _ _ _ (by decide), State.rd_wr_of_key _ _ _ _ _ _ counter.symm,
      State.rd_wr_self]
    rfl
  · rw [State.rd_wr_of_key _ _ _ _ _ _ exhausted, State.rd_wr_of_key _ _ _ _ _ _ rekey, State.rd_wr_self, usedW]; rfl
  · rw [State.rd_wr_of_key _ _ _ _ _ _ (by decide), State.rd_wr_self]; exact Nat.zero_mod _

end Slots

/-! The key commands. -/

/-- A big-endian value of `n` bytes has `n` bytes. -/
theorem beAt_lt (b : List Byte) (o n : Nat) : beAt b o n < 256 ^ n := by
  have grows (l : List Byte) : ∀ a, l.foldl (fun acc x => 256 * acc + x.toNat) a < 256 ^ l.length * (a + 1) := by
    induction l with
    | nil => intro a; simp
    | cons x l ih =>
      intro a
      have byte : x.toNat < 256 := x.isLt
      calc (x :: l).foldl (fun acc y => 256 * acc + y.toNat) a < 256 ^ l.length * (256 * a + x.toNat + 1) := ih _
        _ ≤ 256 ^ l.length * (256 * (a + 1)) := Nat.mul_le_mul_left _ (by omega)
        _ = 256 ^ (x :: l).length * (a + 1) := by rw [List.length_cons, Nat.pow_succ, Nat.mul_assoc]
  calc beAt b o n < 256 ^ ((b.drop o).take n).length * (0 + 1) := grows _ 0
    _ = 256 ^ ((b.drop o).take n).length := by simp
    _ ≤ 256 ^ n := Nat.pow_le_pow_right (by decide) (List.length_take_le ..)

section Keys

variable {s : State} {ch c : Nat} (tenant : ch < 512)
include tenant

theorem answers_keyAgree (few : (s.openChals ch).length < 4) : Safety.Answers (.keyAgree ch) s ch 0x20 (leBytes 16 (s.free 128)) fun t =>
    Tbl.get [] ch t.mgmt.chals = s.openChals ch ++ [(s.free 128, s.now)] := by
  refine answers_of_mbx (u := (s.setChals ch (s.openChals ch ++ [(s.free 128, s.now)])).bump) (touch := true) rfl ?_ rfl fun t h => ?_
  · simp [State.keyAgree, chSlot, tenant, Nat.not_le.2 few]
  · rw [h.box_chals]
    exact Tbl.get_set_self ..

/-- A tenant mailbox is no open request. -/
theorem State.isOpen_of_tenant : s.isOpen ch = false := by simp [State.isOpen, show ¬1024 ≤ ch by omega]

theorem answers_keyInstall {owner key : Nat} (context : s.cipMap ch (beAt (s.params ch) 0 2) = some c) (phase : byteAt (s.params ch) 2 ≤ 1)
    (empty : s.rd (slotValid (byteAt (s.params ch) 2)) c = 0) (known : (s.openChals ch).any (fun x => x.1 == leAt (s.params ch) 8 16) = true)
    (fresh : s.keyIdTaken ch c (beAt (s.params ch) 4 2) = false) : Safety.Answers (.keyInstall ch owner true true key) s ch 0x21 [] fun t =>
      t.rd (slotValid (byteAt (s.params ch) 2)) c = 1 ∧ t.rd (slotUsed (byteAt (s.params ch) 2)) c = 0 ∧
      t.rd (slotKeyId (byteAt (s.params ch) 2)) c = beAt (s.params ch) 4 2 ∧
      Tbl.get 0 (2 * c + byteAt (s.params ch) 2) t.cip.keys = key % 2 ^ 256 ∧
      Tbl.get [] ch t.mgmt.chals = (Tbl.get [] ch s.mgmt.chals).filter (fun x => x.1 != leAt (s.params ch) 8 16) := by
  let spent : State := s.setChals ch ((Tbl.get [] ch s.mgmt.chals).filter (fun x => x.1 != leAt (s.params ch) 8 16))
  generalize hp : byteAt (s.params ch) 2 = p at phase empty
  refine answers_of_mbx (u := spent.keyPut c p (beAt (s.params ch) 4 2) key) (touch := true) rfl ?_ rfl fun t h => ?_
  · simp [State.keyInstall, chSlot, tenant, State.isOpen_of_tenant tenant, hp, Nat.not_lt.2 phase, context, State.on, empty, known, fresh]
    rfl
  · obtain ⟨valid, used, keyId⟩ := spent.rd_keyPut c p (beAt (s.params ch) 4 2) key
    obtain ⟨apartValid, apartUsed, apartKey⟩ := slot_ne_respondFields p
    refine ⟨(h.rd _ c apartValid).trans valid, (h.rd _ c apartUsed).trans used, ?_, ?_, ?_⟩
    · rw [h.rd _ c apartKey, keyId]
      exact Nat.mod_eq_of_lt (beAt_lt ..)
    · rw [h.box_cip]
      exact State.key_keyPut ..
    · rw [h.box_chals]
      exact Tbl.get_set_self ..

theorem answers_keyActivate (context : s.cipMap ch (leAt (s.params ch) 0 2) = some c) (phase : byteAt (s.params ch) 2 ≤ 1)
    (valid : s.rd (slotValid (byteAt (s.params ch) 2)) c = 1) (unused : s.rd (slotUsed (byteAt (s.params ch) 2)) c = 0) :
    Safety.Answers (.keyActivate ch) s ch 0x22 (leBytes 8 (byteAt (s.params ch) 2 * 2 ^ 63)) fun t =>
      t.rd Reg.CIP_CTX0_TX_PHASE c = byteAt (s.params ch) 2 ∧ t.rd Reg.CIP_CTX_CTR_COUNTER c = byteAt (s.params ch) 2 * 2 ^ 63 ∧
      t.rd (slotUsed (byteAt (s.params ch) 2)) c = 1 ∧ t.rd Reg.CIP_CTX0_REKEY_REQ c = 0 ∧ t.rd Reg.CIP_CTX0_EXHAUSTED c = 0 ∧ t.cip = s.cip := by
  generalize hp : byteAt (s.params ch) 2 = p at phase valid unused
  obtain ⟨mbx, cip⟩ := s.keyUsed_rest c p (p * 2 ^ 63)
  refine answers_of_mbx (u := s.keyUsed c p (p * 2 ^ 63)) (touch := true) rfl ?_ mbx fun t h => ?_
  · have on : s.on (slotValid p) c = true := by rw [State.on, valid]; rfl
    have off : s.on (slotUsed p) c = false := by rw [State.on, unused]; rfl
    simp only [State.keyActivate, chSlot, tenant, if_true, hp, if_neg (Nat.not_lt.2 phase), context, on, off, Bool.not_true, Bool.false_eq_true, if_false]
    rfl
  · obtain ⟨txPhase, counter, used, rekey, exhausted⟩ := s.rd_keyUsed c p (p * 2 ^ 63)
    obtain ⟨-, apartUsed, -⟩ := slot_ne_respondFields p
    exact ⟨(h.rd Reg.CIP_CTX0_TX_PHASE c).trans (txPhase.trans (Nat.mod_eq_of_lt (show p < 2 ^ 1 by omega))),
      (h.rd Reg.CIP_CTX_CTR_COUNTER c).trans (counter.trans (Nat.mod_eq_of_lt (show p * 2 ^ 63 < 2 ^ 64 by omega))), (h.rd _ c apartUsed).trans used,
      (h.rd Reg.CIP_CTX0_REKEY_REQ c).trans rekey, (h.rd Reg.CIP_CTX0_EXHAUSTED c).trans exhausted, h.box_cip.trans cip⟩

theorem answers_keyRetire (context : s.cipMap ch (leAt (s.params ch) 0 2) = some c) (phase : byteAt (s.params ch) 2 ≤ 1)
    (idle : s.rd Reg.CIP_CTX0_TX_PHASE c ≠ byteAt (s.params ch) 2) : Safety.Answers (.keyRetire ch) s ch 0x23 [] fun t =>
      t.rd (slotValid (byteAt (s.params ch) 2)) c = 0 ∧ t.rd (slotUsed (byteAt (s.params ch) 2)) c = 0 ∧
      Tbl.get 0 (2 * c + byteAt (s.params ch) 2) t.cip.keys = 0 := by
  generalize hp : byteAt (s.params ch) 2 = p at phase idle
  refine answers_of_mbx (u := s.clearKey c p) (touch := true) rfl ?_ rfl fun t h => ?_
  · simp [State.keyRetire, chSlot, tenant, hp, Nat.not_lt.2 phase, context, idle]
  · obtain ⟨valid, used⟩ := s.rd_clearKey c p
    obtain ⟨apartValid, apartUsed, -⟩ := slot_ne_respondFields p
    exact ⟨(h.rd _ c apartValid).trans valid, (h.rd _ c apartUsed).trans used, h.box_cip.symm ▸ s.key_clearKey c p⟩

theorem answers_keyQuery (context : s.cipMap ch (leAt (s.params ch) 0 2) = some c) : Safety.Answers (.keyQuery ch) s ch 0x24
    (leBytes 1 (s.rd Reg.CIP_CTX0_TX_PHASE c) ++ leBytes 1 (s.rd (slotValid 0) c + 2 * s.rd (slotValid 1) c) ++ leBytes 2 (s.rd (slotKeyId 0) c) ++
      leBytes 2 (s.rd (slotKeyId 1) c) ++ leBytes 2 0 ++ leBytes 8 (s.keyCount c)) fun t => t.cip = s.cip ∧ t.out = s.out := by
  refine answers_of_mbx (u := s) (touch := true) rfl ?_ rfl fun t h => ⟨h.box_cip, h.box_out⟩
  simp only [State.keyQuery, chSlot, tenant, if_true, context]

theorem answers_ctxBindQp (context : s.cipMap ch (leAt (s.params ch) 2 2) = some c) (small : c < 1024) (word : leAt (s.params ch) 0 2 < 16384)
    (valid : s.qpValid (leAt (s.params ch) 0 2) = true) (own : s.qpTenant (leAt (s.params ch) 0 2) = ch)
    (reset : s.cst (leAt (s.params ch) 0 2) = Cst.reset) : Safety.Answers (.ctxBindQp ch) s ch 0x25 [] fun t => t.qpCtx (leAt (s.params ch) 0 2) = some c := by
  generalize hq : leAt (s.params ch) 0 2 = q at word valid own reset
  let bound : State := (s.wr Reg.CIP_QP_CTX_CONTEXT q c).wr Reg.CIP_QP_CTX_VALID q 1
  refine answers_of_mbx (u := bound) (touch := true) rfl ?_ rfl fun t h => ?_
  · simp [State.ctxBindQp, chSlot, tenant, hq, context, Nat.not_le.2 word, valid, own, reset, bound]
  · have isBound : bound.rd Reg.CIP_QP_CTX_VALID q = 1 := State.rd_wr_self ..
    have context : bound.rd Reg.CIP_QP_CTX_CONTEXT q = c := (State.rd_wr_of_key _ _ _ _ _ _ (by decide)).trans
      ((State.rd_wr_self ..).trans (Nat.mod_eq_of_lt (show c < 2 ^ 11 by omega)))
    rw [State.qpCtx, State.on, h.rd Reg.CIP_QP_CTX_VALID, h.rd Reg.CIP_QP_CTX_CONTEXT, isBound, context]
    rfl

omit tenant in
theorem does_keyChallengeExpire (s : State) (ch : Nat) : Does (.keyChallengeExpire ch) s fun t =>
    Tbl.get [] ch t.mgmt.chals = (Tbl.get [] ch s.mgmt.chals).drop 1 ∧ t.regs = s.regs ∧ t.cip = s.cip :=
  ⟨_, rfl, Tbl.get_set_self .., rfl, rfl⟩

end Keys

end Sys2Proof.Machine
end

section
/-! Measurements (R395): SHA-256 gives 32 bytes, which four registers of 64 bits hold, and a command that changes the configuration extends them. -/

namespace Sys2Proof.Machine

open Sys2Proof Sys2Proof.Safety

/-! The length of a digest. -/

theorem length_shaRound {v : List Nat} (kw : Nat × Nat) (h : v.length = 8) : (shaRound v kw).length = 8 := by
  unfold shaRound
  split
  · rfl
  · exact h

theorem length_foldl_shaRound (l : List (Nat × Nat)) : ∀ v : List Nat, v.length = 8 → (l.foldl shaRound v).length = 8 := by
  induction l with
  | nil => exact fun v h => h
  | cons kw l ih => exact fun v h => ih _ (length_shaRound kw h)

theorem length_shaBlock {h : List Nat} (b : List Byte) (hh : h.length = 8) : (shaBlock h b).length = 8 := by
  rw [shaBlock, List.length_map, List.length_zip, length_foldl_shaRound _ h hh, hh, Nat.min_self]

theorem length_shaBlocks (n : Nat) : ∀ (b : List Byte) (h : List Nat), h.length = 8 → (shaBlocks n b h).length = 8 := by
  induction n with
  | zero => exact fun _ _ hh => hh
  | succ n ih => exact fun b h hh => ih _ _ (length_shaBlock b hh)

theorem length_flatMap_beBytes (l : List Nat) : (l.flatMap (beBytes 4)).length = 4 * l.length := by
  induction l with
  | nil => rfl
  | cons x l ih => rw [List.flatMap_cons, List.length_append, ih, beBytes, List.length_reverse, length_leBytes, List.length_cons]; omega

theorem length_sha256 (b : List Byte) : (sha256 b).length = 32 := by rw [sha256, length_flatMap_beBytes, length_shaBlocks _ _ _ rfl]

/-! Four registers hold 32 bytes. -/

theorem leBytes_leNat (l : List Byte) : leBytes l.length (leNat l) = l := by
  induction l with
  | nil => rfl
  | cons x l ih =>
    have byte : x.toNat < 256 := x.isLt
    have low : BitVec.ofNat 8 (x.toNat + 256 * leNat l) = x := BitVec.eq_of_toNat_eq (by rw [BitVec.toNat_ofNat]; omega)
    rw [List.length_cons, leBytes, leNat, low, show (x.toNat + 256 * leNat l) / 256 = leNat l by omega, ih]

theorem leBytes_leAt {b : List Byte} {o n : Nat} (h : o + n ≤ b.length) : leBytes n (leAt b o n) = (b.drop o).take n := by
  have length : ((b.drop o).take n).length = n := by rw [List.length_take, List.length_drop]; omega
  have back := leBytes_leNat ((b.drop o).take n)
  rwa [length, ← leAt_eq_leNat] at back

/-- Cut into words, bytes are the same bytes. -/
theorem flatMap_words (b : List Byte) (n : Nat) : (List.range n).flatMap (fun k => (b.drop (8 * k)).take 8) = b.take (8 * n) := by
  induction n with
  | zero => simp
  | succ n ih => rw [List.range_succ, List.flatMap_append, ih, Nat.mul_succ, List.take_add]; simp

theorem State.rd_foldl_wr (f : Fld) (v : Nat → Nat) (n : Nat) (s : State) :
    (∀ i < n, ((List.range n).foldl (fun s k => s.wr f k (v k)) s).rd f i = v i % 2 ^ f.w) := by
  induction n with
  | zero => exact fun i h => absurd h (Nat.not_lt_zero i)
  | succ n ih =>
    intro i h
    rw [List.range_succ, List.foldl_append, List.foldl_cons, List.foldl_nil, State.rd_wr]
    split
    next last => rw [last]
    next other => exact ih i (by omega)

theorem State.quad_setQuad {b : List Byte} (length : b.length = 32) (s : State) (f : Fld) (wide : f.w = 64) : (s.setQuad f b).quad f = b := by
  have word (k : Nat) (h : k ∈ List.range 4) : leBytes 8 ((s.setQuad f b).rd f k) = (b.drop (8 * k)).take 8 := by
    have below := List.mem_range.1 h
    have small : leAt b (8 * k) 8 < 2 ^ 64 := leAt_lt b (8 * k) 8
    rw [State.setQuad, State.rd_foldl_wr f (fun k => leAt b (8 * k) 8) 4 s k below, wide, Nat.mod_eq_of_lt small]
    exact leBytes_leAt (by omega)
  calc (s.setQuad f b).quad f = (List.range 4).flatMap (fun k => (b.drop (8 * k)).take 8) := List.flatMap_congr word
    _ = b := by rw [flatMap_words, List.take_of_length_le (by omega)]

/-! M_CONFIG. -/

/-- The state but for its registers and the log of configuration commands. -/
def State.noLog (s : State) : State := { s with regs := [], mgmt := { s.mgmt with log := [], wrapped := false } }

theorem State.setQuad_keeps (s : State) (f : Fld) (b : List Byte) : Keeps State.noLog [f] s (s.setQuad f b) :=
  .foldl (.refl ..) _ fun _ _ _ h => h.wr f _ _ (List.mem_singleton.2 rfl)

/-- The state with another log of configuration commands. -/
def State.logged (s : State) (log : List (List Byte × Nat × Nat)) (wrapped : Bool) : State := { s with mgmt := { s.mgmt with log, wrapped } }

theorem State.logged_keeps (s : State) (log : List (List Byte × Nat × Nat)) (wrapped : Bool) :
    Keeps State.noLog [Reg.LCS_M_CONFIG] s (s.logged log wrapped) := (Keeps.refl ..).of_eq

theorem State.quad_logged (s : State) (log : List (List Byte × Nat × Nat)) (wrapped : Bool) (f : Fld) : (s.logged log wrapped).quad f = s.quad f := rfl

theorem State.extendConfig_eq (s : State) (cmd : Nat) (d : List Byte) :
    ∃ log wrapped, s.extendConfig cmd d = (s.setQuad Reg.LCS_M_CONFIG (extend (s.quad Reg.LCS_M_CONFIG) d)).logged log wrapped := ⟨_, _, rfl⟩

theorem State.extendConfig_keeps (s : State) (cmd : Nat) (d : List Byte) : Keeps State.noLog [Reg.LCS_M_CONFIG] s (s.extendConfig cmd d) := by
  obtain ⟨log, wrapped, extends_⟩ := s.extendConfig_eq cmd d
  rw [extends_]
  exact (s.setQuad_keeps Reg.LCS_M_CONFIG _).trans (State.logged_keeps ..)

theorem State.quad_extendConfig (s : State) (cmd : Nat) (d : List Byte) :
    (s.extendConfig cmd d).quad Reg.LCS_M_CONFIG = extend (s.quad Reg.LCS_M_CONFIG) d := by
  obtain ⟨log, wrapped, extends_⟩ := s.extendConfig_eq cmd d
  rw [extends_, State.quad_logged]
  exact State.quad_setQuad (length_sha256 _) s _ rfl

theorem Keeps.quad {α : Type} {F : State → α} {l : List Fld} {s u : State} (h : Keeps F l s u) (f : Fld)
    (hf : ∀ g ∈ l, f.key ≠ g.key := by decide) : u.quad f = s.quad f := by simp only [State.quad, h.rd f _ hf]

/-- M_CONFIG in `t` is that of `u`, extended by the digest of the command of channel `ch` (R395). -/
def ConfigGrown (s : State) (ch : Nat) (u t : State) : Prop :=
  t.quad Reg.LCS_M_CONFIG = extend (u.quad Reg.LCS_M_CONFIG) (s.digest (some ch))

theorem State.quad_of_regs {s u : State} (h : u.regs = s.regs) (f : Fld) : u.quad f = s.quad f := by simp only [State.quad, State.rd_of_regs h f]

theorem configGrown_of_extend {s u t : State} {ch cmd : Nat} (h : Keeps State.noMbx respondFields (u.extendConfig cmd (s.digest (some ch))) t) :
    ConfigGrown s ch u t := (h.quad Reg.LCS_M_CONFIG).trans (u.quad_extendConfig cmd _)

namespace Keeps

variable {l : List Fld} {s u : State} (h : Keeps State.noLog l s u)
include h

theorem log_mbx : u.mgmt.mbx = s.mgmt.mbx := (congrArg (fun x : State => x.mgmt.mbx) h.frame :)
theorem log_flash : u.mgmt.flash = s.mgmt.flash := (congrArg (fun x : State => x.mgmt.flash) h.frame :)
theorem log_xforms : u.mgmt.xforms = s.mgmt.xforms := (congrArg (fun x : State => x.mgmt.xforms) h.frame :)
theorem log_ten : u.ten = s.ten := (congrArg State.ten h.frame :)
theorem log_adms : u.adms = s.adms := (congrArg State.adms h.frame :)

end Keeps

end Sys2Proof.Machine
end
section
/-! The provider's commands on its page (R127, R255, R382, R383, R395). -/

namespace Sys2Proof.Machine

open Sys2Proof Sys2Proof.Safety

section Provider

variable {s : State}

/-! ADMIN and EVENT_READ (R382). -/

/-- What QUERY_QP of queue pair `q` tells in ARG0 (R129). -/
def State.queryArg (s : State) (q : Nat) : Nat := s.rd Reg.QP_HEAD_HEAD q + 2 ^ 32 * s.rd Reg.QP_OUT_COUNT q + 2 ^ 48 * s.sched q

/-- A response as the completion of an admin command (R382). -/
def adminData (tag code cmd detail a0 a1 : Nat) : List Byte :=
  leBytes 4 tag ++ leBytes 1 0 ++ leBytes 1 code ++ leBytes 1 cmd ++ leBytes 1 detail ++ leBytes 8 a0 ++ leBytes 8 a1 ++ leBytes 8 0

theorem State.runAdmin_queryQp {o : Origin} {e : List Byte} (x : AdmX) (isCmd : o.cmd = 6) (slot : o.slot = provider)
    (own : s.ownsQp provider (leAt e 8 2) = true) : State.runAdmin o e x s =
      s.answer o Code.success 0 (s.queryArg (leAt e 8 2)) (s.rd Reg.QP_EARLY_DB_COUNT_COUNT (leAt e 8 2)) := by
  have thawed : s.frozen provider = false := rfl
  have runs : s.runCmd o e x = .ok s (s.queryArg (leAt e 8 2)) (s.rd Reg.QP_EARLY_DB_COUNT_COUNT (leAt e 8 2)) := by
    rw [State.runCmd, isCmd]
    simp [thawed, cmdQueryQp, slot, own, State.queryArg]
  simp [State.runAdmin, runs, State.admOk, State.measure, isCmd]

theorem answers_admin {x : AdmX} (query : byteAt ((s.params 1023).take 64) 0 = 6)
    (own : s.ownsQp provider (leAt ((s.params 1023).take 64) 8 2) = true) : Safety.Answers (.admin 1023 x) s 1023 0x100
      (adminData (leAt ((s.params 1023).take 64) 4 4) 0 6 0 (s.queryArg (leAt ((s.params 1023).take 64) 8 2))
        (s.rd Reg.QP_EARLY_DB_COUNT_COUNT (leAt ((s.params 1023).take 64) 8 2)))
      fun t => t.gddr = s.gddr ∧ t.out = s.out ∧ t.conns = s.conns := by
  intro open_
  obtain ⟨page, ⟨ready, isCmd⟩, check, resting, powered⟩ := open_
  have free : (s.admOf provider).busy = false := by
    simp only [State.mbxReady, Bool.and_eq_true] at ready
    obtain ⟨-, turn⟩ := ready
    have idle : (s.admOf provider).busy = false ∧ ∀ x ∈ providerChannels, (s.mbxOf x).waiting = false := by simpa using turn
    exact idle.1
  generalize he : (s.params 1023).take 64 = e at query own
  let w : State := s.setMbx 1023 { s.mbxOf 1023 with waiting := true }
  let u : State := w.inc Reg.ADM_STATUS_CMDS_DONE provider
  let data : List Byte := adminData (leAt e 4 4) 0 6 0 (s.queryArg (leAt e 8 2)) (s.rd Reg.QP_EARLY_DB_COUNT_COUNT (leAt e 8 2))
  have answers : w.answer (originOf provider (some 1023) e) Code.success 0 (s.queryArg (leAt e 8 2)) (s.rd Reg.QP_EARLY_DB_COUNT_COUNT (leAt e 8 2)) =
      u.respond 1023 0 0 data := by
    simp only [State.answer, originOf, query]
    rfl
  have command : s.cmdAdmin 1023 x = .done (u.respond 1023 0 0 data) := by
    have idle : ¬(w.admOf provider).busy = true := by rw [show (w.admOf provider).busy = false from free]; decide
    have ran := State.runAdmin_queryQp (s := w) (o := originOf provider (some 1023) e) (e := e) x query rfl own
    rw [State.cmdAdmin, he, State.submit, ← answers]
    exact congrArg MbxRes.done ((if_neg idle).trans ran)
  have runs : exec (.admin 1023 x) s = .next (u.respond 1023 0 0 data) := by
    refine congrArg Host.Outcome.next ?_
    simp [State.mbxRun, ready, isCmd, check, resting, powered, command]
  have box : u.mbxOf 1023 = { s.mbxOf 1023 with waiting := true } := State.mbxOf_setMbx ..
  have kept := u.respond_keeps_noMbx page 0 0 data
  refine ⟨_, runs, mbxSays_of_header (State.respond_says page 0 0 data) (by rw [box]) ?_, kept.box_gddr, kept.box_out, kept.box_conns⟩
  simp only [State.header, box]

theorem answers_eventRead {ev : AdmEnt} (held : (s.admOf provider).held = [ev]) (event : ev.event = true) (lost : (s.admOf provider).lost = 0)
    (some_ : 1 ≤ byteAt (s.params 1023) 0) (few : byteAt (s.params 1023) 0 ≤ 61) : Safety.Answers (.eventRead 1023) s 1023 0x101
      (leBytes 4 1 ++ List.replicate 12 0 ++ ((admBytes ev 0 0).take 31 ++ [0])) fun t => (t.admOf provider).held = [] ∧ t.out = s.out := by
  let read : State := s.setAdm provider { s.admOf provider with held := [] }
  have settled : read.settleAdm provider = read.wr Reg.ADM_STATUS_EVENTS_HELD provider 0 :=
    State.settleAdm_of_empty (by rw [State.admOf_setAdm]) (by rw [State.admOf_setAdm]; exact lost)
  refine answers_of_mbx (u := read.settleAdm provider) (touch := true) rfl ?_ ?_ fun t h => ?_
  · have all : ((s.admOf provider).held.filter (·.event)).take (byteAt (s.params 1023) 0) = [ev] := by
      rw [held, List.filter_cons_of_pos event, List.filter_nil, List.take_of_length_le (by simpa using some_)]
    have range : ¬(byteAt (s.params 1023) 0 = 0 ∨ 61 < byteAt (s.params 1023) 0) := by omega
    have left : [ev].foldl (fun h _ => dropFirst (·.event) h) (s.admOf provider).held = [] := by
      rw [held]
      simp [dropFirst, event]
    simp only [State.eventRead, if_neg range, all, left, List.flatMap_singleton, List.length_singleton]
    rfl
  · rw [settled]
    rfl
  · rw [h.box_admOf, h.box_out, settled, State.admOf_wr, State.admOf_setAdm]
    exact ⟨rfl, rfl⟩

/-! Registers (R382). -/

theorem answers_regRead {o n : Nat} (offset : blockOff (leAt (s.params 1023) 0 8) n = some o) (count : leAt (s.params 1023) 8 2 = n) (some_ : 1 ≤ n)
    (few : n ≤ 240) : Safety.Answers (.regRead 1023) s 1023 0x102 ((List.range n).flatMap (fun k => leBytes 8 (s.readReg (o + 8 * k)))) fun t =>
      t.gddr = s.gddr ∧ t.out = s.out := by
  refine answers_of_mbx (u := s) (touch := s.touches 1023) rfl ?_ rfl fun t h => ⟨h.box_gddr, h.box_out⟩
  simp [State.regRead, count, offset, show n ≠ 0 by omega, Nat.not_lt.2 few]

/-- The registers that a command of a configuration and its response write. -/
def saidFields : List Fld := Reg.LCS_M_CONFIG :: Reg.MBX_CMD_COUNT_COUNT :: [Reg.MBX_SLOT_STATUS_SEQ_DONE, Reg.MBX_SLOT_STATUS_LAST_STATUS,
  Reg.MBX_SLOT_STATUS_LAST_CMD, Reg.MBX_SLOT_STATUS_DONE, Reg.MBX_SLOT_STATUS_BUSY]

theorem answers_regWrite {o v : Nat} (offset : blockOff (leAt (s.params 1023) 0 8) 1 = some o) (count : leAt (s.params 1023) 8 2 = 1)
    (value : v = leAt (s.params 1023) 16 8) (may : s.mayWrite o v = true) (mgmt : (s.mbxWrite o v).mgmt = s.mgmt) :
    Safety.Answers (.regWrite 1023) s 1023 0x103 [] fun t => SameFieldsBut saidFields (s.mbxWrite o v) t ∧ ConfigGrown s 1023 (s.mbxWrite o v) t := by
  subst value
  have grown := (s.mbxWrite o (leAt (s.params 1023) 16 8)).extendConfig_keeps 0x103 (s.digest (some 1023))
  refine answers_of_mbx (u := (s.mbxWrite o (leAt (s.params 1023) 16 8)).extendConfig 0x103 (s.digest (some 1023))) (touch := s.touches 1023) rfl ?_
    (grown.log_mbx.trans (congrArg Mgmt.mbx mgmt)) fun t h => ⟨?_, configGrown_of_extend h⟩
  · simp [State.regWrite, count, offset, List.range_succ, may]
  · have first := grown.mono (m := saidFields) fun f hf => List.mem_cons.2 (.inl (List.mem_singleton.1 hf))
    exact first.regs.trans (h.mono fun f hf => List.mem_cons_of_mem _ hf).regs

/-! The staging buffer and the image in flash (R382, R383). -/

theorem answers_stage {n : Nat} (aligned : leAt (s.params 1023) 0 4 % 8 = 0) (count : leAt (s.params 1023) 4 4 = n) (words : n % 8 = 0) (some_ : 8 ≤ n)
    (few : n ≤ 1888) (fits : leAt (s.params 1023) 0 4 + n ≤ stageBytes) : Safety.Answers (.stage 1023) s 1023 0x104 [] fun t =>
      (∀ k < n, Mem.rd t.mgmt.stage (leAt (s.params 1023) 0 4 + k) = (s.params 1023).getD (32 + k) 0) ∧ t.gddr = s.gddr := by
  have length : (s.params 1023).length = 1920 := Mem.length_bytes ..
  generalize hb : s.params 1023 = b at aligned count fits length
  let filled : Mem := Mem.store s.mgmt.stage (leAt b 0 4) ((b.drop 32).take n)
  refine answers_of_mbx (u := s.modMgmt fun m => { m with stage := filled }) (touch := false) rfl ?_ rfl fun t h => ⟨fun k below => ?_, h.box_gddr⟩
  · have good : ¬(leAt b 0 4 % 8 ≠ 0 ∨ n % 8 ≠ 0 ∨ n < 8 ∨ 1888 < n ∨ stageBytes < leAt b 0 4 + n) := by omega
    simp only [State.stageCmd, hb, count, if_neg good]
    rfl
  · have inside : k < ((b.drop 32).take n).length := by rw [List.length_take, List.length_drop]; omega
    rw [h.box_stage]
    exact (Mem.rd_store_of_mem _ _ _ _ inside).trans (by simp [List.getD_eq_getElem?_getD, List.getElem?_eq_getElem (show 32 + k < b.length by omega)])

theorem answers_fwCommit {sg : Option Nat} (fits : leAt (s.params 1023) 0 4 ≤ stageBytes)
    (good : s.imageFault (Mem.bytes s.mgmt.stage 0 (leAt (s.params 1023) 0 4)) sg true = 0) : Safety.Answers (.fwCommit 1023 sg true) s 1023 0x105 []
      fun t => t.mgmt.flash = some (Mem.bytes s.mgmt.stage 0 (leAt (s.params 1023) 0 4)) ∧ ConfigGrown s 1023 s t := by
  generalize hn : leAt (s.params 1023) 0 4 = n at fits good
  let stored : State := s.modMgmt fun m => { m with flash := some (Mem.bytes s.mgmt.stage 0 n) }
  have grown := stored.extendConfig_keeps 0x105 (s.digest (some 1023))
  refine answers_of_mbx (u := stored.extendConfig 0x105 (s.digest (some 1023))) (touch := false) rfl ?_ grown.log_mbx fun t h =>
    ⟨h.box_flash.trans grown.log_flash, configGrown_of_extend (u := stored) h⟩
  simp only [State.fwCommit, hn, if_neg (Nat.not_lt.2 fits), good, ne_eq, not_true_eq_false, if_false]
  rfl

/-! Transforms (R255, R382). -/

theorem State.loadCode_keeps_mgmt (s : State) (c a : Nat) (b : List Byte) : Keeps State.mgmt [] s (s.loadCode c a b) := by
  have loaded : Keeps State.mgmt [] s ((List.range (b.length / 4)).foldl (fun s k =>
      s.setClu c { s.cluOf c with pstore := Tbl.set 0 (a + k) (leAt b (4 * k) 4) (s.cluOf c).pstore }) s) :=
    .foldl (.refl ..) _ fun _ _ _ h => h.of_eq
  exact loaded.of_eq

/-- Code loaded into the program store of every cluster. -/
def State.loadedAll (s : State) (a : Nat) (code : List Byte) : State := (List.range 10).foldl (fun s c => s.loadCode c a code) s

theorem State.loadedAll_keeps (s : State) (a : Nat) (code : List Byte) : Keeps State.mgmt [] s (s.loadedAll a code) :=
  .foldl (.refl ..) _ fun u c _ h => h.trans (u.loadCode_keeps_mgmt c a code)

/-- Transform `i` of `n` words from `a` on, whose code is in the program stores, with its first instruction at `pc`. -/
def State.xformPut (s : State) (i a n pc : Nat) : State :=
  ((s.wr Reg.CLU_XFORM_ENT_ENTRY_PC i pc).wr Reg.CLU_XFORM_ENT_VALID i 1).modMgmt fun m => { m with xforms := Tbl.put i (a, n) m.xforms }

theorem State.xformPut_does (s : State) (i a n pc : Nat) : (s.xformPut i a n pc).rd Reg.CLU_XFORM_ENT_VALID i = 1 ∧
    (s.xformPut i a n pc).rd Reg.CLU_XFORM_ENT_ENTRY_PC i = pc % 2 ^ Reg.CLU_XFORM_ENT_ENTRY_PC.w ∧
    Tbl.get (0, 0) i (s.xformPut i a n pc).mgmt.xforms = (a, n) ∧ (s.xformPut i a n pc).mgmt.mbx = s.mgmt.mbx ∧
    (s.xformPut i a n pc).quad Reg.LCS_M_CONFIG = s.quad Reg.LCS_M_CONFIG := by
  have regs (f : Fld) : (s.xformPut i a n pc).rd f i = ((s.wr Reg.CLU_XFORM_ENT_ENTRY_PC i pc).wr Reg.CLU_XFORM_ENT_VALID i 1).rd f i := rfl
  have kept : Keeps State.ten [Reg.CLU_XFORM_ENT_ENTRY_PC, Reg.CLU_XFORM_ENT_VALID] s (s.xformPut i a n pc) :=
    (((Keeps.refl State.ten [Reg.CLU_XFORM_ENT_ENTRY_PC, Reg.CLU_XFORM_ENT_VALID] s).wr Reg.CLU_XFORM_ENT_ENTRY_PC i pc).wr
      Reg.CLU_XFORM_ENT_VALID i 1).of_eq
  refine ⟨?_, ?_, (Tbl.get_put ..).trans (if_pos rfl), rfl, kept.quad Reg.LCS_M_CONFIG⟩
  · rw [regs, State.rd_wr_self]; rfl
  · rw [regs, State.rd_wr_of_key _ _ _ _ _ _ (by decide), State.rd_wr_self]

/-- The size, the first instruction and the checksum of an XFORM_INSTALL are good (R382). -/
structure XformOk (b : List Byte) (code : List Byte) : Prop where
  index : byteAt b 0 ≠ 0
  some_ : leAt b 4 4 ≠ 0
  words : leAt b 4 4 % 4 = 0
  fits : leAt b 4 4 ≤ stageBytes
  entry : leAt b 8 4 % 4 = 0 ∧ leAt b 8 4 < leAt b 4 4
  crc : crc32c code = leAt b 12 4

theorem answers_xformInstall {a : Nat} (good : XformOk (s.params 1023) (Mem.bytes s.mgmt.stage 0 (leAt (s.params 1023) 4 4)))
    (place : s.mgmt.xformPlace (leAt (s.params 1023) 4 4 / 4) = some a) : Safety.Answers (.xformInstall 1023) s 1023 0x106 [] fun t =>
      t.rd Reg.CLU_XFORM_ENT_VALID (byteAt (s.params 1023) 0) = 1 ∧
      t.rd Reg.CLU_XFORM_ENT_ENTRY_PC (byteAt (s.params 1023) 0) = (a + leAt (s.params 1023) 8 4 / 4) % 2 ^ Reg.CLU_XFORM_ENT_ENTRY_PC.w ∧
      Tbl.get (0, 0) (byteAt (s.params 1023) 0) t.mgmt.xforms = (a, leAt (s.params 1023) 4 4 / 4) ∧ ConfigGrown s 1023 s t := by
  obtain ⟨index, some_, words, fits, ⟨aligned, inside⟩, crc⟩ := good
  generalize hb : s.params 1023 = b at *
  have loaded := s.loadedAll_keeps a (Mem.bytes s.mgmt.stage 0 (leAt b 4 4))
  have runs : s.xformInstall 1023 = .ok (((s.loadedAll a (Mem.bytes s.mgmt.stage 0 (leAt b 4 4))).xformPut (byteAt b 0) a (leAt b 4 4 / 4)
      (a + leAt b 8 4 / 4)).extendConfig 0x106 (s.digest (some 1023))) [] := by
    have sized : ¬(byteAt b 0 = 0 ∨ leAt b 4 4 = 0 ∨ leAt b 4 4 % 4 ≠ 0 ∨ stageBytes < leAt b 4 4 ∨ leAt b 8 4 % 4 ≠ 0 ∨ leAt b 4 4 ≤ leAt b 8 4) := by
      omega
    simp only [State.xformInstall, hb, if_neg sized, crc, ne_eq, not_true_eq_false, if_false, place]
    rfl
  generalize s.loadedAll a (Mem.bytes s.mgmt.stage 0 (leAt b 4 4)) = w at loaded runs
  obtain ⟨valid, pc, xform, mbx, quad⟩ := w.xformPut_does (byteAt b 0) a (leAt b 4 4 / 4) (a + leAt b 8 4 / 4)
  generalize w.xformPut (byteAt b 0) a (leAt b 4 4 / 4) (a + leAt b 8 4 / 4) = v at runs valid pc xform mbx quad
  have grown := v.extendConfig_keeps 0x106 (s.digest (some 1023))
  refine answers_of_mbx (touch := true) rfl runs (grown.log_mbx.trans (mbx.trans (congrArg Mgmt.mbx loaded.frame))) fun t h => ⟨?_, ?_, ?_, ?_⟩
  · rw [h.rd Reg.CLU_XFORM_ENT_VALID, grown.rd Reg.CLU_XFORM_ENT_VALID, valid]
  · rw [h.rd Reg.CLU_XFORM_ENT_ENTRY_PC, grown.rd Reg.CLU_XFORM_ENT_ENTRY_PC, pc]
  · rw [h.box_xforms, grown.log_xforms, xform]
  · exact (configGrown_of_extend h).trans (by rw [quad, loaded.quad Reg.LCS_M_CONFIG])

theorem does_xformRemove (index : byteAt (s.params 1023) 0 ≠ 0) (valid : s.rd Reg.CLU_XFORM_ENT_VALID (byteAt (s.params 1023) 0) = 1)
    (open_ : MbxOpen s 1023 0x107) : Does (.xformRemove 1023) s fun t => t.rd Reg.CLU_XFORM_ENT_VALID (byteAt (s.params 1023) 0) = 0 ∧
      (t.mbxOf 1023).waiting = true ∧ t.ten.jobs = s.ten.jobs ++ [.unxform (byteAt (s.params 1023) 0)] ∧ (t.admOf provider).busy = true := by
  obtain ⟨page, ⟨ready, isCmd⟩, check, resting, powered⟩ := open_
  generalize hi : byteAt (s.params 1023) 0 = i at index valid
  let cleared : State := (s.wr Reg.CLU_XFORM_ENT_VALID i 0).setAdm provider { s.admOf provider with busy := true }
  let u : State := { cleared with ten := { cleared.ten with jobs := cleared.ten.jobs ++ [.unxform i] } }
  have waits : s.xformRemove 1023 = .wait u := by
    have on : s.on Reg.CLU_XFORM_ENT_VALID i = true := by rw [State.on, valid]; rfl
    simp only [State.xformRemove, hi, index, if_false, on, Bool.not_true, Bool.false_eq_true]
    rfl
  refine ⟨u.setMbx 1023 { u.mbxOf 1023 with waiting := true }, congrArg Host.Outcome.next ?_, ?_, ?_, rfl, ?_⟩
  · simp [State.mbxRun, ready, isCmd, check, resting, powered, waits]
  · exact (State.rd_wr_self ..).trans (Nat.zero_mod _)
  · rw [State.mbxOf_setMbx]
  · exact congrArg Adm.busy (State.admOf_setAdm ..)

/-- The runs of a transform that was removed have ended: its words are free, and the command that waited answers. -/
theorem does_xformRemoveDone {i : Nat} (ended : s.xformRuns i = false) (jobs : s.ten.jobs = [.unxform i]) (waits : (s.mbxOf 1023).waiting = true)
    (isCmd : hdrCmd (s.header 1023) = 0x107) (none_ : (s.admOf provider).queue = []) : Does (.xformRemoveDone i) s fun t =>
      MbxSays s t 1023 0 0 [] ∧ t.ten.jobs = [] ∧ Tbl.get (0, 0) i t.mgmt.xforms = (0, 0) ∧ (t.admOf provider).busy = false ∧
      ConfigGrown s 1023 s t := by
  let u : State := ({ s with ten := { s.ten with jobs := [] } } : State).modMgmt fun m => { m with xforms := Tbl.del i m.xforms }
  have taken : s.takeJob (fun j => j == .unxform i) = some (.unxform i, { s with ten := { s.ten with jobs := [] } }) := by
    simp [State.takeJob, jobs, dropFirst]
  have first : providerChannels.find? (fun ch => (u.mbxOf ch).waiting && hdrCmd (u.header ch) == 0x107) = some 1023 := by
    have calls : ((u.mbxOf 1023).waiting && hdrCmd (u.header 1023) == 0x107) = true := by
      rw [show (u.mbxOf 1023).waiting = true from waits, show hdrCmd (u.header 1023) = 0x107 from isCmd]; rfl
    exact List.find?_cons_of_pos calls
  have digest : u.digest (some 1023) = s.digest (some 1023) := State.digest_of_mbxOf rfl
  have runs : exec (.xformRemoveDone i) s = .next (((u.extendConfig 0x107 (u.digest (some 1023))).respond 1023 0 0 []).admFree provider) := by
    refine congrArg Host.Outcome.next ((if_neg (by simp [ended])).trans ?_)
    rw [taken]
    dsimp only
    rw [show providerChannels.find? _ = some 1023 from first]
  rw [digest] at runs
  have grown := u.extendConfig_keeps 0x107 (s.digest (some 1023))
  have quad := u.quad_extendConfig 0x107 (s.digest (some 1023))
  generalize u.extendConfig 0x107 (s.digest (some 1023)) = v at runs grown quad
  have page : 1023 < 1024 := by decide
  have box : v.mbxOf 1023 = s.mbxOf 1023 := State.mbxOf_of_mbx grown.log_mbx 1023
  have response := mbxSays_of_header (v.respond_says page 0 0 []) (congrArg Mbx.seq box) (State.header_of_mbxOf box)
  have kept := v.respond_keeps_noMbx page 0 0 []
  generalize v.respond 1023 0 0 [] = t at runs response kept
  have adm : t.admOf provider = s.admOf provider := (kept.box_admOf provider).trans (congrArg (Tbl.get ({} : Adm) provider) grown.log_adms)
  have frees : t.admFree provider = t.setAdm provider { s.admOf provider with busy := false } := by
    rw [State.admFree, adm, none_]
    rfl
  rw [frees] at runs
  obtain ⟨header, result, done⟩ := response
  refine ⟨_, runs, ⟨header, result, done⟩, ?_, ?_, congrArg Adm.busy (State.admOf_setAdm ..), ?_⟩
  · exact congrArg Ten.jobs (kept.box_ten.trans grown.log_ten)
  · have gone : Tbl.get (0, 0) i u.mgmt.xforms = (0, 0) := (Tbl.get_del ..).trans (if_pos rfl)
    exact (congrArg (Tbl.get (0, 0) i) (kept.box_xforms.trans grown.log_xforms)).trans gone
  · exact (State.quad_of_regs rfl _).trans ((kept.quad Reg.LCS_M_CONFIG).trans quad)

theorem answers_configLog : Safety.Answers (.configLog 1023) s 1023 0x108
    (leBytes 4 ((s.mgmt.log.drop (leAt (s.params 1023) 0 4)).take 41).length ++ List.replicate 12 0 ++
      ((s.mgmt.log.drop (leAt (s.params 1023) 0 4)).take 41).flatMap (fun x =>
        padTo 32 x.1 ++ leBytes 2 x.2.1 ++ List.replicate 6 0 ++ leBytes 8 x.2.2)) fun t => t.mgmt.log = s.mgmt.log ∧ t.out = s.out :=
  answers_of_mbx (u := s) (touch := false) rfl rfl rfl fun _ h => ⟨h.box_log, h.box_out⟩

end Provider

end Sys2Proof.Machine

open Sys2Proof Sys2Proof.Machine Sys2Proof.Safety

/-- Settles O42: each command succeeds in a state that differs from the one it was taken up in by what it did, and the response leaves that in
place (`answers_of_mbx`). -/
theorem mailboxKeysAndProvider : Obligations.MailboxKeysAndProvider := by
  constructor
  · intro s ch c owner key tenant b ph chals start
    refine ⟨?_, ?_, ?_, ?_, ?_, does_keyChallengeExpire s ch⟩
    · exact answers_keyAgree tenant
    · exact fun context phase empty known fresh => answers_keyInstall tenant context phase empty known fresh
    · exact fun context phase => ⟨answers_keyActivate tenant context phase, answers_keyRetire tenant context phase⟩
    · exact answers_keyQuery tenant
    · exact fun context small word valid own reset => answers_ctxBindQp tenant context small word valid own reset
  · intro s o n v a i x ev sg ch b e grown img code log said
    refine ⟨answers_admin, ?_, ?_, answers_stage, answers_fwCommit, ?_, does_xformRemoveDone, answers_configLog⟩
    · exact fun held event lost some_ few => answers_eventRead held event lost some_ few
    · intro offset count
      refine ⟨answers_regRead offset count, ?_⟩
      rintro rfl value may mgmt
      exact answers_regWrite offset count value may mgmt
    · rintro rfl index
      refine ⟨fun some_ words fits aligned inside crc place => ?_, does_xformRemove index⟩
      exact answers_xformInstall ⟨index, some_, words, fits, ⟨aligned, inside⟩, crc⟩ place
end

section
/-! How an admin command ends (R124, R125): its entry passes SQ_HEAD, and its completion is written, or the queue stays busy. -/

namespace Sys2Proof.Machine

open Sys2Proof Sys2Proof.Safety

/-! Entries with a byte set. -/

theorem byteAt_eq (b : List Byte) (i : Nat) : byteAt b i = (b.getD i 0).toNat := by
  rw [byteAt, leAt, List.getD_eq_getElem?_getD]
  by_cases h : i < b.length
  · rw [List.drop_eq_getElem_cons h, List.take_succ_cons, List.take_zero, List.getElem?_eq_getElem h]
    rfl
  · rw [List.drop_eq_nil_of_le (Nat.not_lt.1 h), List.getElem?_eq_none (Nat.not_lt.1 h)]
    rfl

theorem byteAt_withByte_self {i : Nat} (h : i < 64) (v : Nat) (e : List Byte) : byteAt (withByte i v e) i = v % 256 := by
  have inside : i < (e ++ List.replicate (64 - e.length) 0).length := by rw [List.length_append, List.length_replicate]; omega
  rw [byteAt_eq, withByte, List.getD_eq_getElem?_getD, List.getElem?_set_self inside]
  exact BitVec.toNat_ofNat ..

theorem byteAt_withByte_ne {i j : Nat} (h : i ≠ j) (v : Nat) (e : List Byte) : byteAt (withByte i v e) j = byteAt e j := by
  rw [byteAt_eq, byteAt_eq, withByte, List.getD_eq_getElem?_getD, List.getD_eq_getElem?_getD, List.getElem?_set_ne h]
  by_cases inside : j < e.length
  · rw [List.getElem?_append_left inside]
  · rw [List.getElem?_append_right (Nat.not_lt.1 inside), List.getElem?_eq_none (Nat.not_lt.1 inside), List.getElem?_replicate]
    split <;> rfl

/-! The entry passes SQ_HEAD. -/

/-- The admin queue of slot `t`, and what has left the block. -/
def State.admSide (t : Nat) (s : State) : Adm × List Out := (s.admOf t, s.out)

/-- The state once the head of the submission ring of slot `t` has passed an entry. -/
def State.admHeaded (s : State) (t : Nat) : State :=
  (s.setAdm t { s.admOf t with sqHead := ((s.admOf t).sqHead + 1) % 2 ^ 32 }).emit (.admHead t (((s.admOf t).sqHead + 1) % 2 ^ 32))

section Slot

variable {s u v : State} {t : Nat}

theorem State.admOf_emit (s : State) (o : Out) (t : Nat) : (s.emit o).admOf t = s.admOf t := rfl

theorem State.admOf_admHeaded (s : State) (t : Nat) :
    (s.admHeaded t).admOf t = { s.admOf t with sqHead := ((s.admOf t).sqHead + 1) % 2 ^ 32 } := State.admOf_setAdm ..

theorem State.out_admHeaded (s : State) (t : Nat) : (s.admHeaded t).out = s.out ++ [Out.admHead t (((s.admOf t).sqHead + 1) % 2 ^ 32)] := rfl

/-- Where the queue is idle an entry runs at once. -/
theorem State.admEntry_of_open (open_ : AdmOpen s t) (idle : (s.admOf t).busy = false) (e : List Byte) (x : AdmX) :
    s.admEntry t e x = State.runAdmin (originOf t none e) e x (s.admHeaded t) := by
  obtain ⟨bound, -, -, -, ⟨-, here⟩⟩ := open_
  have runs : ¬((!s.on Reg.ADM_DESC0_BOUND t) = true ∨ (t ≠ provider ∧ s.slice t = 6)) := by
    rw [State.on, bound]
    rcases here with isProvider | notGone
    · simp [isProvider]
    · simp [notGone]
  have free : ¬((s.admHeaded t).admOf t).busy = true := by rw [State.admOf_admHeaded, idle]; decide
  exact (if_neg runs).trans (if_neg free)

/-! The completion is written. -/

/-- The completion ring of slot `t` has room, and nothing waits for it. -/
structure AdmReady (s : State) (t : Nat) : Prop where
  room : s.admRoom t = true
  held : (s.admOf t).held = []
  lost : (s.admOf t).lost = 0

theorem AdmReady.of_open (h : AdmOpen s t) : AdmReady s t := ⟨h.room, h.held.1, h.held.2⟩

theorem AdmReady.headed (h : AdmReady s t) : AdmReady (s.admHeaded t) t := by
  obtain ⟨room, held, lost⟩ := h
  refine ⟨?_, ?_, ?_⟩
  · rw [State.admRoom, State.admOf_admHeaded]
    exact room
  · rw [State.admOf_admHeaded]
    exact held
  · rw [State.admOf_admHeaded]
    exact lost

theorem Keeps.admOf {l : List Fld} (h : Keeps (State.admSide t) l s u) : u.admOf t = s.admOf t := (congrArg Prod.fst h.frame :)
theorem Keeps.admOut {l : List Fld} (h : Keeps (State.admSide t) l s u) : u.out = s.out := (congrArg Prod.snd h.frame :)

theorem AdmReady.keeps {l : List Fld} (h : AdmReady s t) (k : Keeps (State.admSide t) l s u) (hb : ∀ g ∈ l, Reg.ADM_DESC0_BOUND.key ≠ g.key)
    (hc : ∀ g ∈ l, Reg.ADM_DESC0_CQ_LOG2.key ≠ g.key) : AdmReady u t := by
  obtain ⟨room, held, lost⟩ := h
  refine ⟨?_, k.admOf ▸ held, k.admOf ▸ lost⟩
  rw [State.admRoom, State.on, k.rd _ _ hb, k.rd _ _ hc, k.admOf]
  exact room

/-- What a completion writes. -/
def doneFields : List Fld := [Reg.ADM_STATUS_CMDS_DONE, Reg.ADM_STATUS_EVENTS_HELD]

/-- The completion of a command goes out at once where there is room and nothing waits. -/
theorem State.admDone_of_ready (h : AdmReady s t) (tag cmd code detail a0 a1 : Nat) :
    Keeps State.noEvent doneFields s (s.admDone t tag cmd code detail a0 a1) ∧
      (s.admDone t tag cmd code detail a0 a1).out = s.out ++ [.adm t (s.admOf t).written { tag, code, cmd, detail, arg0 := a0, arg1 := a1 }] ∧
      (s.admDone t tag cmd code detail a0 a1).admOf t = { s.admOf t with held := [], written := ((s.admOf t).written + 1) % 2 ^ 32 } := by
  obtain ⟨room, held, lost⟩ := h
  let e : AdmEnt := { tag, code, cmd, detail, arg0 := a0, arg1 := a1 }
  let v : State := (s.setAdm t { s.admOf t with held := [e] }).inc Reg.ADM_STATUS_CMDS_DONE t
  have adm : v.admOf t = { s.admOf t with held := [e] } := s.admOf_setAdm t { s.admOf t with held := [e] }
  have counted : Keeps State.noEvent doneFields s v := (Keeps.refl State.noEvent doneFields s).of_eq.wr Reg.ADM_STATUS_CMDS_DONE t _
  have roomV : v.admRoom t = true := by
    rw [State.admRoom, State.on, counted.rd Reg.ADM_DESC0_BOUND, counted.rd Reg.ADM_DESC0_CQ_LOG2, adm]
    exact room
  have runs : s.admDone t tag cmd code detail a0 a1 = (v.admSent t e).showHeld t := by
    have first : s.admDone t tag cmd code detail a0 a1 = v.settleAdm t := by
      rw [State.admDone, held, List.nil_append]
    rw [first]
    exact State.settleAdm_of_one (by rw [adm]) rfl roomV (by rw [adm]; exact lost)
  rw [runs]
  refine ⟨counted.trans ((Keeps.refl State.noEvent doneFields v).of_eq.wr Reg.ADM_STATUS_EVENTS_HELD t _), ?_, ?_⟩
  · rw [State.showHeld, State.wr_out, State.out_admSent, adm]
    rfl
  · rw [State.showHeld, State.admOf_wr, State.admOf_admSent, adm]

namespace Keeps

variable {l : List Fld} (h : Keeps State.noEvent l s u)
include h

theorem done_cqOf (n : Nat) : u.cqOf n = s.cqOf n := (congrArg (fun v : State => v.cqOf n) h.frame :)
theorem done_sqOf (q : Nat) : u.sqOf q = s.sqOf q := (congrArg (fun v : State => v.sqOf q) h.frame :)
theorem done_connOf (q : Nat) : u.connOf q = s.connOf q := (congrArg (fun v : State => v.connOf q) h.frame :)
theorem done_pelOf (p : Nat) : u.pelOf p = s.pelOf p := (congrArg (fun v : State => v.pelOf p) h.frame :)
theorem done_cluOf (c : Nat) : u.cluOf c = s.cluOf c := (congrArg (fun v : State => v.cluOf c) h.frame :)
theorem done_ten : u.ten = s.ten := (congrArg State.ten h.frame :)
theorem done_gddr : u.gddr = s.gddr := (congrArg State.gddr h.frame :)
theorem done_sqs : u.sqs = s.sqs := (congrArg State.sqs h.frame :)
theorem done_cqs : u.cqs = s.cqs := (congrArg State.cqs h.frame :)
theorem done_conns : u.conns = s.conns := (congrArg State.conns h.frame :)

end Keeps

/-! How a command of a ring ends. -/

variable {k : Instr} {e : List Byte} {x : AdmX} {a0 a1 : State → Nat} {P : State → Prop} {l : List Fld}

/-- A command whose run leaves the admin queue alone in a state `v` completes with what it answers. -/
theorem completes_of_done {code b0 b1 : Nat} (runs : exec k s = .next (s.admEntry t e x))
    (ends : AdmOpen s t → State.runAdmin (originOf t none e) e x (s.admHeaded t) = v.admDone t (leAt e 4 4) (byteAt e 0) code 0 b0 b1)
    (kept : Keeps (State.admSide t) l (s.admHeaded t) v) (hb : ∀ g ∈ l, Reg.ADM_DESC0_BOUND.key ≠ g.key)
    (hc : ∀ g ∈ l, Reg.ADM_DESC0_CQ_LOG2.key ≠ g.key) (after : ∀ u, Keeps State.noEvent doneFields v u → P u ∧ a0 u = b0 ∧ a1 u = b1) :
    Completes k s t e code a0 a1 P := by
  intro open_ idle
  obtain ⟨done, out, -⟩ := State.admDone_of_ready ((AdmReady.of_open open_).headed.keeps kept hb hc) (leAt e 4 4) (byteAt e 0) code 0 b0 b1
  rw [State.admEntry_of_open open_ idle, ends open_] at runs
  obtain ⟨holds, first, second⟩ := after _ done
  refine ⟨_, runs, holds, ?_⟩
  rw [out, kept.admOut, kept.admOf, State.out_admHeaded, State.admOf_admHeaded, first, second, List.append_assoc]
  rfl

/-- A command of a ring that extends no measurement answers as it is. -/
theorem State.admOk_of_low {o : Origin} (low : o.cmd < 0x40) (ring : o.mbx = none) (b0 b1 : Nat) :
    s.admOk o b0 b1 = s.admDone o.slot o.tag o.cmd Code.success 0 b0 b1 := by
  have unmeasured : s.measure o = s := if_neg (by omega)
  rw [State.admOk, unmeasured, State.answer, ring]

/-- A command that succeeds completes with SUCCESS. -/
theorem completes_of_ok {b0 b1 : Nat} (runs : exec k s = .next (s.admEntry t e x)) (low : byteAt e 0 < 0x40)
    (ok : AdmOpen s t → (s.admHeaded t).runCmd (originOf t none e) e x = .ok v b0 b1) (kept : Keeps (State.admSide t) l (s.admHeaded t) v)
    (after : ∀ u, Keeps State.noEvent doneFields v u → P u ∧ a0 u = b0 ∧ a1 u = b1)
    (hb : ∀ g ∈ l, Reg.ADM_DESC0_BOUND.key ≠ g.key := by decide) (hc : ∀ g ∈ l, Reg.ADM_DESC0_CQ_LOG2.key ≠ g.key := by decide) :
    Completes k s t e 0 a0 a1 P := by
  refine completes_of_done (v := v) runs (fun open_ => ?_) kept hb hc after
  rw [State.runAdmin, ok open_]
  exact State.admOk_of_low low rfl b0 b1

/-- A command that does not end yet keeps its queue busy. -/
theorem waits_of_wait (runs : exec k s = .next (s.admEntry t e x))
    (waits : AdmOpen s t → (s.admHeaded t).runCmd (originOf t none e) e x = .wait v) (kept : Keeps (State.admSide t) l (s.admHeaded t) v)
    (after : P (v.setAdm t { v.admOf t with busy := true })) : Waits k s t P := by
  intro open_ idle
  have stays : State.runAdmin (originOf t none e) e x (s.admHeaded t) = v.setAdm t { v.admOf t with busy := true } := by
    rw [State.runAdmin, waits open_]
    rfl
  rw [State.admEntry_of_open open_ idle, stays] at runs
  exact ⟨_, runs, after, congrArg Adm.busy (State.admOf_setAdm ..), kept.admOut.trans (State.out_admHeaded ..)⟩

/-- A command that waited ends in a state `v`, with the admin queue as before. -/
theorem ends_of_ok {o : Origin} {b0 : Nat} (low : o.cmd < 0x40) (runs : o.mbx = none → exec k s = .next ((v.admOk o b0 0).admFree o.slot))
    (kept : Keeps (State.admSide o.slot) l s v) (after : ∀ u, Keeps State.noEvent doneFields v u → P u)
    (hb : ∀ g ∈ l, Reg.ADM_DESC0_BOUND.key ≠ g.key := by decide) (hc : ∀ g ∈ l, Reg.ADM_DESC0_CQ_LOG2.key ≠ g.key := by decide) :
    Ends k s o b0 P := by
  intro open_ ring
  obtain ⟨done, out, adm⟩ := State.admDone_of_ready ((AdmReady.of_open open_).keeps kept hb hc) o.tag o.cmd Code.success 0 b0 0
  replace runs := runs ring
  rw [State.admOk_of_low low ring] at runs
  generalize v.admDone o.slot o.tag o.cmd Code.success 0 b0 0 = w at done out adm runs
  have none_ : (w.admOf o.slot).queue = [] := by rw [adm, kept.admOf]; exact open_.queue
  have frees : w.admFree o.slot = w.setAdm o.slot { w.admOf o.slot with busy := false } := by rw [State.admFree, none_]; rfl
  rw [frees] at runs
  refine ⟨_, runs, after _ done.of_eq, congrArg Adm.busy (State.admOf_setAdm ..), ?_⟩
  rw [State.setAdm_out, out, kept.admOut, kept.admOf]
  rfl

/-! Which command runs (R127). -/

/-- The command of origin `o` is `c`, one that any owner may give, and its slice is not frozen. -/
structure CmdIs (s : State) (o : Origin) (c : Nat) : Prop where
  cmd : o.cmd = c
  low : c < 0x40
  thawed : s.frozen o.slot = false

theorem CmdIs.of_open {c : Nat} (open_ : AdmOpen s t) (cmd : byteAt e 0 = c) (low : c < 0x40) : CmdIs (s.admHeaded t) (originOf t none e) c :=
  ⟨cmd, low, open_.thawed.1⟩

end Slot

end Sys2Proof.Machine
end

section
/-! Objects of registers (R129, R326), and which admin command runs (R127). -/

namespace Sys2Proof.Machine

open Sys2Proof Sys2Proof.Safety

/-! An object put back to its reset values. -/

section Clear

variable {s : State} {l : List Fld} {n : Nat}

theorem State.clearObj_keeps {α : Type} {F : State → α} {m : List Fld} {u : State} (h : Keeps F m s u) (l : List Fld) (n : Nat)
    (hl : ∀ f ∈ l, f.key ∈ m.map Fld.key) (hF : ∀ u r, F { u with regs := r } = F u := by intros; rfl) : Keeps F m s (u.clearObj l n) :=
  .foldl h l fun _ f hf h => h.wr f n _ (hl f hf) hF

/-- The writes that make a field read as it does are those of the field itself. -/
theorem State.rd_clearObj_filter (g : Fld) (l : List Fld) (n : Nat) (same : ∀ f ∈ l, f.key = g.key → f = g) :
    ∀ s u : State, s.rd g n = u.rd g n → (s.clearObj l n).rd g n = (u.clearObj (l.filter (fun f => f.key == g.key)) n).rd g n := by
  induction l with
  | nil => exact fun _ _ h => h
  | cons f l ih =>
    intro s u h
    have rest := ih fun f hf => same f (List.mem_cons_of_mem _ hf)
    by_cases key : f.key = g.key
    · obtain rfl := same f List.mem_cons_self key
      rw [List.filter_cons_of_pos (by simp)]
      exact rest (s.wr f n (f.rst n)) (u.wr f n (f.rst n)) (by rw [State.rd_wr_self, State.rd_wr_self])
    · rw [List.filter_cons_of_neg (by simp [key])]
      exact rest (s.wr f n (f.rst n)) u ((State.rd_wr_of_key _ _ _ _ _ _ (Ne.symm key)).trans h)

/-- A field of the object reads its reset value. -/
theorem State.rd_clearObj {g : Fld} (only : l.filter (fun f => f.key == g.key) = [g]) : (s.clearObj l n).rd g n = g.rst n % 2 ^ g.w := by
  have same (f : Fld) (hf : f ∈ l) (key : f.key = g.key) : f = g := by
    have mem : f ∈ l.filter (fun f => f.key == g.key) := List.mem_filter.2 ⟨hf, by simp [key]⟩
    rwa [only, List.mem_singleton] at mem
  rw [State.rd_clearObj_filter g l n same s s rfl, only]
  exact State.rd_wr_self ..

end Clear

/-! The commands. -/

section Commands

variable {s : State} {o : Origin} {e : List Byte} {x : AdmX}

theorem CmdIs.runs_createCq (h : CmdIs s o 1) : s.runCmd o e x = cmdCreateCq o.slot e s := by simp [State.runCmd, h.cmd, h.thawed]
theorem CmdIs.runs_destroyCq (h : CmdIs s o 2) : s.runCmd o e x = cmdDestroyCq o.slot e s := by simp [State.runCmd, h.cmd, h.thawed]
theorem CmdIs.runs_createQp (h : CmdIs s o 3) : s.runCmd o e x = cmdCreateQp o.slot e s := by simp [State.runCmd, h.cmd, h.thawed]
theorem CmdIs.runs_destroyQp (h : CmdIs s o 4) : s.runCmd o e x = cmdDestroyQp o e s := by simp [State.runCmd, h.cmd, h.thawed]
theorem CmdIs.runs_qpReset (h : CmdIs s o 5) (action : byteAt e 10 = 0) : s.runCmd o e x = cmdQpReset o.slot e s := by
  simp [State.runCmd, h.cmd, h.thawed, action]
theorem CmdIs.runs_qpConnect (h : CmdIs s o 5) (action : byteAt e 10 = 2) : s.runCmd o e x = cmdQpConnect o.slot e s := by
  simp [State.runCmd, h.cmd, h.thawed, action]
theorem CmdIs.runs_qpRepath (h : CmdIs s o 5) (action : byteAt e 10 = 3) : s.runCmd o e x = cmdQpRepath o.slot e s := by
  simp [State.runCmd, h.cmd, h.thawed, action]
theorem CmdIs.runs_qpSetError (h : CmdIs s o 5) (action : byteAt e 10 = 4) : s.runCmd o e x = cmdQpSetError o.slot e s := by
  simp [State.runCmd, h.cmd, h.thawed, action]
theorem CmdIs.runs_queryQp (h : CmdIs s o 6) : s.runCmd o e x = cmdQueryQp o.slot e s := by simp [State.runCmd, h.cmd, h.thawed]
theorem CmdIs.runs_createLegacyQp (h : CmdIs s o 7) : s.runCmd o e x = cmdCreateLegacyQp o.slot e s := by simp [State.runCmd, h.cmd, h.thawed]
theorem CmdIs.runs_registerContext (h : CmdIs s o 8) : s.runCmd o e x = cmdRegisterContext o.slot e s := by simp [State.runCmd, h.cmd, h.thawed]
theorem CmdIs.runs_unregisterContext (h : CmdIs s o 9) : s.runCmd o e x = cmdUnregisterContext o e s := by simp [State.runCmd, h.cmd, h.thawed]
theorem CmdIs.runs_registerRegion (h : CmdIs s o 0xA) : s.runCmd o e x = cmdRegisterRegion o.slot e s := by simp [State.runCmd, h.cmd, h.thawed]
theorem CmdIs.runs_deregisterRegion (h : CmdIs s o 0xB) : s.runCmd o e x = cmdDeregisterRegion o e s := by simp [State.runCmd, h.cmd, h.thawed]
theorem CmdIs.runs_pelReserve (h : CmdIs s o 0xC) (action : byteAt e 8 = 0) : s.runCmd o e x = cmdPelReserve o.slot e x s := by
  simp [State.runCmd, h.cmd, h.thawed, action]
theorem CmdIs.runs_pelBind (h : CmdIs s o 0xC) (action : byteAt e 8 = 1) : s.runCmd o e x = cmdPelBind o.slot e x s := by
  simp [State.runCmd, h.cmd, h.thawed, action]
theorem CmdIs.runs_destroyPeloton (h : CmdIs s o 0xD) : s.runCmd o e x = cmdDestroyPeloton o.slot e s := by simp [State.runCmd, h.cmd, h.thawed]
theorem CmdIs.runs_claimExtent (h : CmdIs s o 0xE) (claim : bit (byteAt e 18) 1 = true) : s.runCmd o e x = cmdClaimExtent o e s := by
  simp [State.runCmd, h.cmd, h.thawed, claim]
theorem CmdIs.runs_allocExtent (h : CmdIs s o 0xE) (claim : bit (byteAt e 18) 1 = false) : s.runCmd o e x = cmdAllocExtent o e s := by
  simp [State.runCmd, h.cmd, h.thawed, claim]
theorem CmdIs.runs_freeExtent (h : CmdIs s o 0xF) : s.runCmd o e x = cmdFreeExtent o e s := by simp [State.runCmd, h.cmd, h.thawed]

/-- A CMD that names no command is refused. -/
theorem CmdIs.refused {c : Nat} (h : CmdIs s o c) (unknown : c = 0 ∨ 0x0F < c) : s.runCmd o e x = bad Code.invalidCommand := by
  obtain ⟨cmd, low, thawed⟩ := h
  rw [State.runCmd, if_neg (by omega), if_neg (by simp [thawed])]
  split
  case h_24 => rfl
  all_goals omega

end Commands

end Sys2Proof.Machine
end

section
/-! Admin commands of rings, and the making of queue pairs (R128, R129, R135, R136). -/

namespace Sys2Proof.Machine

open Sys2Proof Sys2Proof.Safety

section Slot

variable {s : State} {t : Nat} {e : List Byte}

theorem byteAt_withByte_zero {c : Nat} (small : c < 256) (e : List Byte) : byteAt (withByte 0 c e) 0 = c :=
  (byteAt_withByte_self (by decide) c e).trans (Nat.mod_eq_of_lt small)

theorem completes_unknownCmd (unknown : byteAt e 0 = 0 ∨ (0x0F < byteAt e 0 ∧ byteAt e 0 < 0x40)) :
    Completes (.adminUnknownCmd t e) s t e Code.invalidCommand (fun _ => 0) (fun _ => 0) fun u => u.gddr = s.gddr ∧ u.sqs = s.sqs ∧ u.cqs = s.cqs := by
  have runs : exec (.adminUnknownCmd t e) s = .next (s.admEntry t e {}) := congrArg Host.Outcome.next (if_pos (by omega))
  refine completes_of_done (v := s.admHeaded t) (b0 := 0) (b1 := 0) runs (fun open_ => ?_) (.refl _ [] _) (by decide) (by decide) fun u h => ?_
  · rw [State.runAdmin, (CmdIs.of_open open_ rfl (by omega)).refused (by omega)]
    rfl
  · exact ⟨⟨h.done_gddr, h.done_sqs, h.done_cqs⟩, rfl, rfl⟩

/-! Completion rings (R129). -/

/-- Completion ring `n`, whose registers are at their reset values, as entry `e` makes it for owner `t`, at attachment slot `slot`. -/
def State.cqFilled (s : State) (n t slot : Nat) (e : List Byte) : State :=
  let s1 := (((((s.setCq n {}).wr Reg.CQ_DESC0_VALID n 1).wr Reg.CQ_DESC0_RELAXED n (byteAt e 35)).wr
    Reg.CQ_DESC0_ATTACH n slot).wr Reg.CQ_DESC0_LOG2_SIZE n (byteAt e 34)).wr Reg.CQ_DESC0_TENANT n t
  (((s1.wr Reg.CQ_DESC0_CONTEXT n (leAt e 32 2)).wr Reg.CQ_DESC1_RING_ADDR n (leAt e 8 8 / 4096)).wr
    Reg.CQ_DESC2_INDEX_ADDR n (leAt e 16 8 / 64)).wr Reg.CQ_DESC3_NOTIFY_ADDR n (leAt e 24 8 / 8)

theorem State.cqFilled_keeps (s : State) (n t slot : Nat) (e : List Byte) (m : Nat) : Keeps (State.admSide m) cqRegs s (s.cqFilled n t slot e) := by
  have empty : Keeps (State.admSide m) cqRegs s (s.setCq n {}) := (Keeps.refl ..).of_eq
  exact ((((((((empty.wr _ _ _).wr _ _ _).wr _ _ _).wr _ _ _).wr _ _ _).wr _ _ _).wr _ _ _).wr _ _ _).wr _ _ _

theorem State.cqOf_cqFilled (s : State) (n t slot : Nat) (e : List Byte) : (s.cqFilled n t slot e).cqOf n = {} := s.cqOf_setCq n {}

theorem State.rd_cqFilled (s : State) (n t slot : Nat) (e : List Byte) : (s.cqFilled n t slot e).rd Reg.CQ_DESC0_VALID n = 1 ∧
    (s.cqFilled n t slot e).rd Reg.CQ_DESC0_TENANT n = t % 2 ^ 10 ∧ (s.cqFilled n t slot e).rd Reg.CQ_DESC0_CONTEXT n = leAt e 32 2 % 2 ^ 16 ∧
    (s.cqFilled n t slot e).rd Reg.CQ_DESC0_LOG2_SIZE n = byteAt e 34 % 2 ^ 5 ∧
    (s.cqFilled n t slot e).rd Reg.CQ_POS_WRITTEN n = s.rd Reg.CQ_POS_WRITTEN n ∧
    (s.cqFilled n t slot e).rd Reg.CQ_DESC1_RING_ADDR n = leAt e 8 8 / 4096 % 2 ^ 45 := by
  simp (disch := decide) only [State.cqFilled, State.rd_wr_of_key, State.rd_wr_self, State.setCq_rd]
  exact ⟨rfl, rfl, rfl, rfl, True.intro, rfl⟩

theorem State.clearCq_keeps (s : State) (n m : Nat) : Keeps (State.admSide m) cqRegs s (s.clearObj cqRegs n) :=
  State.clearObj_keeps (.refl ..) cqRegs n fun _ hf => List.mem_map_of_mem hf

theorem completes_createCq {n slot : Nat} (owner : t < 1024) (ring : addrOk (leAt (withByte 0 1 e) 8 8) 4096 = true)
    (index : addrOk (leAt (withByte 0 1 e) 16 8) 64 = true) (note : addrOk (leAt (withByte 0 1 e) 24 8) 8 = true)
    (low : 6 ≤ byteAt (withByte 0 1 e) 34) (high : byteAt (withByte 0 1 e) 34 ≤ 16)
    (context : s.ctxSlot t (leAt (withByte 0 1 e) 32 2) = some slot) (pick : s.pickCq t = some n) :
    Completes (.createCq t e) s t (withByte 0 1 e) 0 (fun _ => n) (fun _ => 0) fun u => u.rd Reg.CQ_DESC0_VALID n = 1 ∧ u.rd Reg.CQ_DESC0_TENANT n = t ∧
      u.rd Reg.CQ_DESC0_CONTEXT n = leAt (withByte 0 1 e) 32 2 ∧ u.rd Reg.CQ_DESC0_LOG2_SIZE n = byteAt (withByte 0 1 e) 34 ∧
      u.rd Reg.CQ_POS_WRITTEN n = 0 ∧ u.cqOf n = {} ∧ u.rd Reg.CQ_DESC1_RING_ADDR n = leAt (withByte 0 1 e) 8 8 / 4096 % 2 ^ 45 := by
  have cmd := byteAt_withByte_zero (show 1 < 256 by decide) e
  have word : leAt (withByte 0 1 e) 32 2 < 2 ^ 16 := leAt_lt ..
  have runs : exec (.createCq t e) s = .next (s.admEntry t (withByte 0 1 e) {}) := rfl
  generalize withByte 0 1 e = y at *
  have cleared := (s.admHeaded t).clearCq_keeps n t
  have pos : ((s.admHeaded t).clearObj cqRegs n).rd Reg.CQ_POS_WRITTEN n = 0 := State.rd_clearObj rfl
  have made : AdmOpen s t → (s.admHeaded t).runCmd (originOf t none y) y {} = .ok (((s.admHeaded t).clearObj cqRegs n).cqFilled n t slot y) n 0 := by
    intro open_
    rw [(CmdIs.of_open open_ cmd (by decide)).runs_createCq, cmdCreateCq]
    have context' : (s.admHeaded t).ctxSlot (originOf t none y).slot (leAt y 32 2) = some slot := context
    have pick' : (s.admHeaded t).pickCq (originOf t none y).slot = some n := pick
    simp only [ring, index, note, Nat.not_lt.2 low, Nat.not_lt.2 high, Bool.not_true, decide_false, Bool.or_self, Bool.false_eq_true, if_false, context',
      pick']
    rfl
  generalize (s.admHeaded t).clearObj cqRegs n = w at cleared pos made
  refine completes_of_ok (b0 := n) (b1 := 0) runs (by omega) made (cleared.trans (w.cqFilled_keeps n t slot y t)) fun u h => ?_
  obtain ⟨valid, tenant, ctx, size, written, addr⟩ := w.rd_cqFilled n t slot y
  rw [h.rd Reg.CQ_DESC0_VALID, h.rd Reg.CQ_DESC0_TENANT, h.rd Reg.CQ_DESC0_CONTEXT, h.rd Reg.CQ_DESC0_LOG2_SIZE, h.rd Reg.CQ_POS_WRITTEN,
    h.rd Reg.CQ_DESC1_RING_ADDR, valid, tenant, ctx, size, written, pos, addr, h.done_cqOf, Nat.mod_eq_of_lt (show t < 2 ^ 10 from owner), Nat.mod_eq_of_lt word,
    Nat.mod_eq_of_lt (show byteAt y 34 < 2 ^ 5 by omega)]
  exact ⟨⟨rfl, rfl, rfl, rfl, rfl, State.cqOf_cqFilled .., rfl⟩, rfl, rfl⟩

theorem completes_destroyCq {cq : Nat} (ring : leAt (withByte 0 2 e) 8 2 = cq) (own : s.ownsCq t cq = true)
    (unused : ∀ q ∈ s.qpList, s.rd Reg.QP_DESC0_CQ q ≠ cq) (empty : (s.cqOf cq).waiting = []) :
    Completes (.destroyCq t e) s t (withByte 0 2 e) 0 (fun _ => 0) (fun _ => 0) fun u => u.rd Reg.CQ_DESC0_VALID cq = 0 ∧ u.cqOf cq = {} := by
  have cmd := byteAt_withByte_zero (show 2 < 256 by decide) e
  have runs : exec (.destroyCq t e) s = .next (s.admEntry t (withByte 0 2 e) {}) := rfl
  generalize withByte 0 2 e = y at *
  have cleared := (s.admHeaded t).clearCq_keeps cq t
  have valid : ((s.admHeaded t).clearObj cqRegs cq).rd Reg.CQ_DESC0_VALID cq = 0 := State.rd_clearObj rfl
  have gone : AdmOpen s t → (s.admHeaded t).runCmd (originOf t none y) y {} = .ok (((s.admHeaded t).clearObj cqRegs cq).setCq cq {}) 0 0 := by
    intro open_
    rw [(CmdIs.of_open open_ cmd (by decide)).runs_destroyCq, cmdDestroyCq, ring]
    have own' : (s.admHeaded t).ownsCq (originOf t none y).slot cq = true := own
    have none_ : (s.admHeaded t).qpList.any (fun q => (s.admHeaded t).rd Reg.QP_DESC0_CQ q == cq && !(s.admHeaded t).on Reg.QP_DESC0_LEGACY q &&
        !(s.admHeaded t).isLink q) = false := by
      refine List.any_eq_false.2 fun q hq => ?_
      have other : (s.admHeaded t).rd Reg.QP_DESC0_CQ q ≠ cq := unused q hq
      simp [other]
    have drained : ((s.admHeaded t).cqOf cq).waiting.isEmpty = true := List.isEmpty_iff.2 empty
    simp only [own', none_, drained, Bool.not_true, Bool.and_false, Bool.or_self, Bool.false_eq_true, if_false]
  generalize (s.admHeaded t).clearObj cqRegs cq = w at cleared valid gone
  refine completes_of_ok (b0 := 0) (b1 := 0) runs (by omega) gone (cleared.trans (Keeps.refl ..).of_eq) fun u h => ⟨⟨?_, ?_⟩, rfl, rfl⟩
  · exact (h.rd Reg.CQ_DESC0_VALID cq).trans valid
  · exact (h.done_cqOf cq).trans (State.cqOf_setCq ..)

/-! Queue pairs (R129, R136). -/

/-- What the steering entry and the cipher context of a queue pair write (R252, R353). -/
def steerFields : List Fld := [Reg.CLU_STEER_ENT_CLUSTER, Reg.CLU_STEER_ENT_VALID, Reg.CLU_STEER_ENT_CLUSTER_ACT, Reg.CLU_STEER_ENT_VALID_ACT,
  Reg.CIP_QP_CTX_CONTEXT, Reg.CIP_QP_CTX_VALID]

/-- What the making of a queue pair writes. -/
def makeFields : List Fld := qpRegs ++ trnRegs ++ steerFields

theorem State.setSteer_keeps (s : State) (q : Nat) (c : Option Nat) : Keeps State.noRegs steerFields s (s.setSteer q c) :=
  ((((Keeps.refl State.noRegs steerFields s).wr Reg.CLU_STEER_ENT_CLUSTER q _).wr Reg.CLU_STEER_ENT_VALID q _).wr
    Reg.CLU_STEER_ENT_CLUSTER_ACT q _).wr Reg.CLU_STEER_ENT_VALID_ACT q _

theorem State.bindCip_keeps (s : State) (q t : Nat) : Keeps State.noRegs steerFields s (s.bindCip q t) := by
  have same := Keeps.refl State.noRegs steerFields s
  unfold State.bindCip
  split
  · exact (same.wr _ _ _).wr _ _ _
  · exact same.wr _ _ _

/-- Queue pair `q` of owner `t`, whose registers are at their reset values, before it is steered. -/
def State.qpOwned (s : State) (q t ctx slot tc cluster : Nat) : State :=
  (((((s.wr Reg.QP_DESC0_VALID q 1).wr Reg.QP_DESC0_TENANT q t).wr Reg.QP_DESC0_CONTEXT q ctx).wr Reg.QP_DESC0_ATTACH q slot).wr
    Reg.QP_DESC0_TC q tc).wr Reg.QP_DESC3_CLUSTER q cluster

/-- The same, steered to its cluster and bound to slice context 0 of its owner. -/
def State.qpFilled (s : State) (q t ctx slot tc cluster : Nat) : State :=
  (((s.qpOwned q t ctx slot tc cluster).setSteer q (some cluster)).bindCip q t).setSq q {}

theorem State.makeQp_eq (s : State) (q t ctx slot tc cluster : Nat) :
    s.makeQp q t ctx slot tc cluster = ((s.clearObj qpRegs q).clearObj trnRegs q).qpFilled q t ctx slot tc cluster := rfl

theorem State.qpFilled_keeps_owned (s : State) (q t ctx slot tc cluster : Nat) :
    Keeps State.noOps steerFields (s.qpOwned q t ctx slot tc cluster) (s.qpFilled q t ctx slot tc cluster) := by
  have steered := ((s.qpOwned q t ctx slot tc cluster).setSteer_keeps q (some cluster)).trans (State.bindCip_keeps _ q t)
  exact (steered.part State.noOps).of_eq

theorem State.qpOwned_keeps (s : State) (q t ctx slot tc cluster : Nat) : Keeps State.noRegs makeFields s (s.qpOwned q t ctx slot tc cluster) :=
  ((((((Keeps.refl State.noRegs makeFields s).wr _ _ _).wr _ _ _).wr _ _ _).wr _ _ _).wr _ _ _).wr _ _ _

/-- The registers of queue pair `q` put back to their reset values. -/
def State.qpCleared (s : State) (q : Nat) : State := (s.clearObj qpRegs q).clearObj trnRegs q

theorem State.qpCleared_keeps (s : State) (q : Nat) : Keeps State.noRegs makeFields s (s.qpCleared q) := by
  have first := State.clearObj_keeps (Keeps.refl State.noRegs makeFields s) qpRegs q fun f hf =>
    List.mem_map_of_mem (List.mem_append_left _ (List.mem_append_left _ hf))
  exact State.clearObj_keeps first trnRegs q fun f hf => List.mem_map_of_mem (List.mem_append_left _ (List.mem_append_right _ hf))

theorem State.rd_qpCleared (s : State) (q : Nat) : (s.qpCleared q).rd Reg.QP_DESC0_LEGACY q = 0 ∧ (s.qpCleared q).rd Reg.QP_HEAD_HEAD q = 0 ∧
    (s.qpCleared q).rd Reg.TRN_QP_T0_STATE q = 0 := by
  have other := State.clearObj_keeps (Keeps.refl State.noRegs trnRegs (s.clearObj qpRegs q)) trnRegs q fun f hf => List.mem_map_of_mem hf
  exact ⟨(other.rd Reg.QP_DESC0_LEGACY q).trans (State.rd_clearObj rfl), (other.rd Reg.QP_HEAD_HEAD q).trans (State.rd_clearObj rfl),
    State.rd_clearObj rfl⟩

/-- The queue pair that CREATE_QP and CREATE_LEGACY_QP make, before what each adds. -/
def State.qpMade (s : State) (q t ctx slot lg tc maxOut sq cluster : Nat) : State :=
  (((s.qpFilled q t ctx slot tc cluster).wr Reg.QP_DESC0_LOG2_SIZE q lg).wr Reg.QP_DESC3_MAX_OUTSTANDING q maxOut).wr
    Reg.QP_DESC1_SQ_ADDR q (sq / 4096)

theorem State.createQp_of_pick {q c : Nat} (pick : s.pickQps t 1 = some q) (cluster : s.chooseCluster = some c) (ctx slot lg tc maxOut sq : Nat)
    (f : Nat → State → State) :
    s.createQp t ctx slot lg tc maxOut sq f = .ok (f q ((s.bump.qpCleared q).qpMade q t ctx slot lg tc maxOut sq c)) q 0 := by
  simp only [State.createQp, pick, cluster, State.makeQp_eq]
  rfl

section Made

variable (q ctx slot lg tc maxOut sq cluster : Nat)

theorem State.qpMade_keeps (m : Nat) : Keeps (State.admSide m) makeFields s (s.qpMade q t ctx slot lg tc maxOut sq cluster) := by
  have owned := (s.qpOwned_keeps q t ctx slot tc cluster).part (State.admSide m)
  have filled := ((s.qpFilled_keeps_owned q t ctx slot tc cluster).part (State.admSide m)).mono (m := makeFields) fun f hf => List.mem_append_right _ hf
  exact (((owned.trans filled).wr _ _ _).wr _ _ _).wr _ _ _

theorem State.sqOf_qpMade : (s.qpMade q t ctx slot lg tc maxOut sq cluster).sqOf q = {} := by
  unfold State.qpMade State.qpFilled
  rw [State.sqOf_wr, State.sqOf_wr, State.sqOf_wr, State.sqOf_setSq]

theorem State.rd_qpMade : (s.qpMade q t ctx slot lg tc maxOut sq cluster).rd Reg.QP_DESC0_VALID q = 1 ∧
    (s.qpMade q t ctx slot lg tc maxOut sq cluster).rd Reg.QP_DESC0_TENANT q = t % 2 ^ 10 ∧
    (s.qpMade q t ctx slot lg tc maxOut sq cluster).rd Reg.QP_DESC0_CONTEXT q = ctx % 2 ^ 16 ∧
    (s.qpMade q t ctx slot lg tc maxOut sq cluster).rd Reg.QP_DESC3_MAX_OUTSTANDING q = maxOut % 2 ^ 11 ∧
    (s.qpMade q t ctx slot lg tc maxOut sq cluster).rd Reg.QP_DESC0_LEGACY q = s.rd Reg.QP_DESC0_LEGACY q ∧
    (s.qpMade q t ctx slot lg tc maxOut sq cluster).rd Reg.QP_HEAD_HEAD q = s.rd Reg.QP_HEAD_HEAD q ∧
    (s.qpMade q t ctx slot lg tc maxOut sq cluster).rd Reg.TRN_QP_T0_STATE q = s.rd Reg.TRN_QP_T0_STATE q := by
  have filled := s.qpFilled_keeps_owned q t ctx slot tc cluster
  unfold State.qpMade
  simp (disch := decide) only [State.rd_wr_of_key, State.rd_wr_self]
  rw [filled.rd Reg.QP_DESC0_VALID, filled.rd Reg.QP_DESC0_TENANT, filled.rd Reg.QP_DESC0_CONTEXT, filled.rd Reg.QP_DESC0_LEGACY,
    filled.rd Reg.QP_HEAD_HEAD, filled.rd Reg.TRN_QP_T0_STATE]
  unfold State.qpOwned
  simp (disch := decide) only [State.rd_wr_of_key, State.rd_wr_self]
  exact ⟨rfl, rfl, rfl, rfl, True.intro, True.intro, True.intro⟩

end Made

/-- Queue pair `q` as both commands make it for owner `t` (R129). -/
structure QpFresh (s : State) (q t ctx maxOut : Nat) : Prop where
  valid : s.rd Reg.QP_DESC0_VALID q = 1
  tenant : s.rd Reg.QP_DESC0_TENANT q = t
  context : s.rd Reg.QP_DESC0_CONTEXT q = ctx
  outstanding : s.rd Reg.QP_DESC3_MAX_OUTSTANDING q = maxOut
  legacy : s.rd Reg.QP_DESC0_LEGACY q = 0
  head : s.rd Reg.QP_HEAD_HEAD q = 0
  state : s.rd Reg.TRN_QP_T0_STATE q = 0
  sq : s.sqOf q = {}

/-- Where a number is free, the maker of queue pairs leaves a fresh one, beside the admin queues, and what the command adds to it. -/
theorem State.createQp_does {q c ctx maxOut : Nat} (owner : t < 1024) (word : ctx < 2 ^ 16) (few : maxOut ≤ 1024) (pick : s.pickQps t 1 = some q)
    (cluster : s.chooseCluster = some c) (slot lg tc sq : Nat) : ∃ v, Keeps (State.admSide t) makeFields s v ∧ QpFresh v q t ctx maxOut ∧
      ∀ f : Nat → State → State, s.createQp t ctx slot lg tc maxOut sq f = .ok (f q v) q 0 := by
  have cleared := s.bump.qpCleared_keeps q
  obtain ⟨legacy0, head0, state0⟩ := s.bump.rd_qpCleared q
  have makes := State.createQp_of_pick pick cluster ctx slot lg tc maxOut sq
  generalize s.bump.qpCleared q = w at cleared legacy0 head0 state0 makes
  obtain ⟨valid, tenant, context, outstanding, legacy, head, state⟩ := w.rd_qpMade (t := t) q ctx slot lg tc maxOut sq c
  refine ⟨_, ((Keeps.refl ..).of_eq.trans (cleared.part (State.admSide t))).trans (w.qpMade_keeps (t := t) q ctx slot lg tc maxOut sq c t), ?_, makes⟩
  exact ⟨valid, tenant.trans (Nat.mod_eq_of_lt owner), context.trans (Nat.mod_eq_of_lt word), outstanding.trans (Nat.mod_eq_of_lt (by omega)),
    legacy.trans legacy0, head.trans head0, state.trans state0, State.sqOf_qpMade ..⟩

/-- The parameters that both makers of queue pairs take are in range, with rings of at most 2^`most` entries (R128, R136). -/
structure QpParams (e : List Byte) (most bound : Nat) : Prop where
  ring : addrOk (leAt e 8 8) 4096 = true
  low : 6 ≤ byteAt e 28
  high : byteAt e 28 ≤ most
  class_ : byteAt e 29 ≤ 15
  some_ : 1 ≤ leAt e 30 2
  few : leAt e 30 2 ≤ bound

theorem completes_createQp {q c slot : Nat} (owner : t < 1024) (pick : s.pickQps t 1 = some q) (cluster : s.chooseCluster = some c)
    (context : s.ctxSlot t (leAt (withByte 0 3 e) 24 2) = some slot) (good : QpParams (withByte 0 3 e) 16 1024)
    (index : addrOk (leAt (withByte 0 3 e) 16 8) 64 = true) (own : s.ownsCq t (leAt (withByte 0 3 e) 26 2) = true)
    (ring : leAt (withByte 0 3 e) 26 2 < 4096) : Completes (.createQp t e) s t (withByte 0 3 e) 0 (fun _ => q) (fun _ => 0) fun u =>
      u.rd Reg.QP_DESC0_VALID q = 1 ∧ u.rd Reg.QP_DESC0_TENANT q = t ∧ u.rd Reg.QP_DESC0_CONTEXT q = leAt (withByte 0 3 e) 24 2 ∧
      u.rd Reg.QP_DESC0_CQ q = leAt (withByte 0 3 e) 26 2 ∧ u.rd Reg.QP_DESC0_LEGACY q = 0 ∧ u.rd Reg.QP_HEAD_HEAD q = 0 ∧ u.cst q = Cst.reset ∧
      u.rd Reg.QP_DESC3_MAX_OUTSTANDING q = leAt (withByte 0 3 e) 30 2 ∧ u.sqOf q = {} := by
  have cmd := byteAt_withByte_zero (show 3 < 256 by decide) e
  have runs : exec (.createQp t e) s = .next (s.admEntry t (withByte 0 3 e) {}) := rfl
  generalize withByte 0 3 e = y at *
  obtain ⟨sq, low, high, class_, some_, few⟩ := good
  have pick' : (s.admHeaded t).pickQps t 1 = some q := pick
  have cluster' : (s.admHeaded t).chooseCluster = some c := cluster
  obtain ⟨v, kept, ⟨valid, tenant, ctx, most, legacy, head, state, sqOf⟩, makes⟩ :=
    State.createQp_does owner (leAt_lt y 24 2) few pick' cluster' slot (byteAt y 28) (byteAt y 29) (leAt y 8 8)
  have made : AdmOpen s t → (s.admHeaded t).runCmd (originOf t none y) y {} =
      .ok ((v.wr Reg.QP_DESC0_CQ q (leAt y 26 2)).wr Reg.QP_DESC2_INDEX_ADDR q (leAt y 16 8 / 64)) q 0 := by
    intro open_
    have context' : (s.admHeaded t).ctxSlot t (leAt y 24 2) = some slot := context
    have own' : (s.admHeaded t).ownsCq t (leAt y 26 2) = true := own
    have outstanding : (leAt y 30 2 == 0) = false := by simp; omega
    rw [(CmdIs.of_open open_ cmd (by decide)).runs_createQp, show (originOf t none y).slot = t from rfl, cmdCreateQp]
    simp only [sq, index, Nat.not_lt.2 low, Nat.not_lt.2 high, Nat.not_lt.2 class_, Nat.not_lt.2 few, outstanding, Bool.not_true, decide_false,
      Bool.or_self, Bool.false_eq_true, if_false, context', own', makes]
  have ringed := (kept.wr Reg.QP_DESC0_CQ q (leAt y 26 2)).wr Reg.QP_DESC2_INDEX_ADDR q (leAt y 16 8 / 64)
  refine completes_of_ok (b0 := q) (b1 := 0) runs (by omega) made ringed fun u h => ⟨?_, rfl, rfl⟩
  have added := ((Keeps.refl State.noRegs [Reg.QP_DESC0_CQ, Reg.QP_DESC2_INDEX_ADDR] v).wr Reg.QP_DESC0_CQ q (leAt y 26 2)).wr
    Reg.QP_DESC2_INDEX_ADDR q (leAt y 16 8 / 64)
  have cq : u.rd Reg.QP_DESC0_CQ q = leAt y 26 2 := by
    rw [h.rd Reg.QP_DESC0_CQ, State.rd_wr_of_key _ _ _ _ _ _ (by decide), State.rd_wr_self]
    exact Nat.mod_eq_of_lt ring
  have sqU : u.sqOf q = v.sqOf q := h.done_sqOf q
  refine ⟨?_, ?_, ?_, cq, ?_, ?_, ?_, ?_, sqU.trans sqOf⟩
  · exact (h.rd _ q).trans ((added.rd Reg.QP_DESC0_VALID q).trans valid)
  · exact (h.rd _ q).trans ((added.rd Reg.QP_DESC0_TENANT q).trans tenant)
  · exact (h.rd _ q).trans ((added.rd Reg.QP_DESC0_CONTEXT q).trans ctx)
  · exact (h.rd _ q).trans ((added.rd Reg.QP_DESC0_LEGACY q).trans legacy)
  · exact (h.rd _ q).trans ((added.rd Reg.QP_HEAD_HEAD q).trans head)
  · exact (h.rd _ q).trans ((added.rd Reg.TRN_QP_T0_STATE q).trans state)
  · exact (h.rd _ q).trans ((added.rd Reg.QP_DESC3_MAX_OUTSTANDING q).trans most)

theorem completes_createLegacyQp {q c slot : Nat} (owner : t < 64) (pick : s.pickQps t 1 = some q) (cluster : s.chooseCluster = some c)
    (context : s.ctxSlot t (leAt (withByte 0 7 e) 24 2) = some slot) (good : QpParams (withByte 0 7 e) 12 (min 1024 (2 ^ byteAt (withByte 0 7 e) 28)))
    (all : s.legacyCount (fun _ => true) < 128) (mine : s.legacyCount (fun q => s.qpTenant q == t) < s.rd Reg.TEN_SLICE5_LEGACY t) :
    Completes (.createLegacyQp t e) s t (withByte 0 7 e) 0 (fun _ => q) (fun _ => 0) fun u => u.rd Reg.QP_DESC0_VALID q = 1 ∧
      u.rd Reg.QP_DESC0_TENANT q = t ∧ u.rd Reg.QP_DESC0_LEGACY q = 1 ∧ u.rd Reg.QP_HEAD_HEAD q = 0 ∧ u.cst q = Cst.reset := by
  have cmd := byteAt_withByte_zero (show 7 < 256 by decide) e
  have runs : exec (.createLegacyQp t e) s = .next (s.admEntry t (withByte 0 7 e) {}) := rfl
  generalize withByte 0 7 e = y at *
  obtain ⟨sq, low, high, class_, some_, few⟩ := good
  have pick' : (s.admHeaded t).pickQps t 1 = some q := pick
  have cluster' : (s.admHeaded t).chooseCluster = some c := cluster
  obtain ⟨v, kept, ⟨valid, tenant, -, -, -, head, state, -⟩, makes⟩ :=
    State.createQp_does (by omega) (leAt_lt y 24 2) (few.trans (Nat.min_le_left ..)) pick' cluster' slot (byteAt y 28) (byteAt y 29) (leAt y 8 8)
  have made : AdmOpen s t → (s.admHeaded t).runCmd (originOf t none y) y {} = .ok (v.wr Reg.QP_DESC0_LEGACY q 1) q 0 := by
    intro open_
    have context' : (s.admHeaded t).ctxSlot t (leAt y 24 2) = some slot := context
    have outstanding : (leAt y 30 2 == 0) = false := by simp; omega
    have room : ¬(128 ≤ (s.admHeaded t).legacyCount (fun _ => true) ∨
        (s.admHeaded t).rd Reg.TEN_SLICE5_LEGACY t ≤ (s.admHeaded t).legacyCount (fun q => (s.admHeaded t).qpTenant q == t)) :=
      not_or.2 ⟨Nat.not_le.2 all, Nat.not_le.2 mine⟩
    rw [(CmdIs.of_open open_ cmd (by decide)).runs_createLegacyQp, show (originOf t none y).slot = t from rfl, cmdCreateLegacyQp]
    simp only [sq, Nat.not_lt.2 low, Nat.not_lt.2 high, Nat.not_lt.2 class_, Nat.not_lt.2 few, Nat.not_le.2 owner, outstanding, Bool.not_true,
      decide_false, Bool.or_self, Bool.false_eq_true, if_false, context', room, makes]
  have legacy := kept.wr Reg.QP_DESC0_LEGACY q 1
  refine completes_of_ok (b0 := q) (b1 := 0) runs (by omega) made legacy fun u h => ⟨⟨?_, ?_, ?_, ?_, ?_⟩, rfl, rfl⟩
  · rw [h.rd Reg.QP_DESC0_VALID, State.rd_wr_of_key _ _ _ _ _ _ (by decide), valid]
  · rw [h.rd Reg.QP_DESC0_TENANT, State.rd_wr_of_key _ _ _ _ _ _ (by decide), tenant]
  · exact (h.rd _ q).trans (State.rd_wr_self ..)
  · rw [h.rd Reg.QP_HEAD_HEAD, State.rd_wr_of_key _ _ _ _ _ _ (by decide), head]
  · rw [State.cst, h.rd Reg.TRN_QP_T0_STATE, State.rd_wr_of_key _ _ _ _ _ _ (by decide), state]
    rfl

end Slot

end Sys2Proof.Machine
end

section
/-! Admin commands that end, reset, connect and query queue pairs (R119, R128, R129, R158, R159). -/

namespace Sys2Proof.Machine

open Sys2Proof Sys2Proof.Safety

section Slot

variable {s : State} {t q : Nat} {e : List Byte}

namespace Keeps

variable {l : List Fld} {u : State} (h : Keeps (State.admSide t) l s u)
include h

theorem side_setSq (q : Nat) (x : Sq) : Keeps (State.admSide t) l s (u.setSq q x) := h.of_eq
theorem side_setConn (q : Nat) (c : Conn) : Keeps (State.admSide t) l s (u.setConn q c) := h.of_eq

end Keeps

/-! DESTROY_QP (R129). -/

theorem waits_destroyQp (queue : leAt (withByte 0 4 e) 8 2 = q) (own : s.ownsQp t q = true) (plain : s.isLink q = false)
    (none_ : (s.sqOf q).ops = []) (noPel : s.pels = []) : Waits (.destroyQp t e) s t fun u =>
      (u.sqOf q).destroying = some (originOf t none (withByte 0 4 e), 0) ∧ (u.sqOf q).phase = .none := by
  have cmd := byteAt_withByte_zero (show 4 < 256 by decide) e
  have runs : exec (.destroyQp t e) s = .next (s.admEntry t (withByte 0 4 e) {}) := rfl
  generalize withByte 0 4 e = y at *
  let v : State := (s.admHeaded t).modSq q fun (x : Sq) =>
    { x with phase := .none, bell := false, again := false, held := false, destroying := some (originOf t none y, 0) }
  have sq : v.sqOf q = _ := State.sqOf_modSq ..
  refine waits_of_wait (v := v) (l := []) runs (fun open_ => ?_) ((Keeps.refl ..).of_eq) ?_
  · have own' : (s.admHeaded t).ownsQp (originOf t none y).slot q = true := own
    have plain' : (s.admHeaded t).isLink q = false := plain
    have queued : ((s.admHeaded t).sqOf q).ops.filter (fun x => x.st == .queued) = [] := by
      rw [show ((s.admHeaded t).sqOf q).ops = [] from none_]; rfl
    have dropped : v.dropPelOps q = v := State.dropPelOps_of_noPel noPel
    rw [(CmdIs.of_open open_ cmd (by decide)).runs_destroyQp, cmdDestroyQp, queue]
    simp only [own', plain', queued, Bool.not_true, Bool.false_eq_true, if_false, List.foldl_nil, List.length_nil]
    exact congrArg AdmRes.wait dropped
  · have same : (v.setAdm t { v.admOf t with busy := true }).sqOf q = v.sqOf q := rfl
    rw [same, sq]
    exact ⟨rfl, rfl⟩

/-- What the freeing of a queue pair writes. -/
def freeFields : List Fld := [Reg.QP_MODULE_OUT_COUNT, Reg.TRN_RESP_REC_IN_USE] ++ qpRegs ++ trnRegs ++ ccqRegs ++ steerFields

theorem State.clearQp_keeps (s : State) (q : Nat) (m : List Fld) (hq : ∀ f ∈ qpRegs, f ∈ m) (ht : ∀ f ∈ trnRegs, f ∈ m) (hc : ∀ f ∈ ccqRegs, f ∈ m) :
    Keeps State.noRegs m s (((s.clearObj qpRegs q).clearObj trnRegs q).clearObj ccqRegs q) :=
  State.clearObj_keeps (State.clearObj_keeps (State.clearObj_keeps (.refl ..) qpRegs q fun f hf => List.mem_map_of_mem (hq f hf)) trnRegs q fun f hf =>
    List.mem_map_of_mem (ht f hf)) ccqRegs q fun f hf => List.mem_map_of_mem (hc f hf)

/-- Nothing is left of a queue pair that is freed. -/
theorem State.freeQp_does (s : State) (q t : Nat) : Keeps (State.admSide t) freeFields s (s.freeQp q) ∧ (s.freeQp q).rd Reg.QP_DESC0_VALID q = 0 ∧
    (s.freeQp q).sqOf q = {} ∧ (s.freeQp q).connOf q = {} := by
  let counted : State := (s.dec Reg.QP_MODULE_OUT_COUNT 0 (((s.sqOf q).ops.filter (fun o => o.sqe.opcode ≠ 0x10 ∧ o.sqe.opcode < 0x18)).length)).dec
    Reg.TRN_RESP_REC_IN_USE 0 (s.connOf q).recs.length
  let empty : State := (counted.setSq q {}).setConn q {}
  have first : Keeps (State.admSide t) freeFields s counted :=
    ((Keeps.refl (State.admSide t) freeFields s).wr Reg.QP_MODULE_OUT_COUNT 0 _).wr Reg.TRN_RESP_REC_IN_USE 0 _
  have start : Keeps (State.admSide t) freeFields s empty := first.of_eq
  have sq : empty.sqOf q = {} := counted.sqOf_setSq q {}
  have conn : empty.connOf q = {} := State.connOf_setConn ..
  have cleared := empty.clearQp_keeps q freeFields (fun f hf => by simp [freeFields, hf]) (fun f hf => by simp [freeFields, hf])
    fun f hf => by simp [freeFields, hf]
  have valid : (((empty.clearObj qpRegs q).clearObj trnRegs q).clearObj ccqRegs q).rd Reg.QP_DESC0_VALID q = 0 := by
    have trn := State.clearObj_keeps (Keeps.refl State.noRegs trnRegs (empty.clearObj qpRegs q)) trnRegs q fun f hf => List.mem_map_of_mem hf
    have ccq := State.clearObj_keeps (Keeps.refl State.noRegs ccqRegs ((empty.clearObj qpRegs q).clearObj trnRegs q)) ccqRegs q
      fun f hf => List.mem_map_of_mem hf
    rw [ccq.rd Reg.QP_DESC0_VALID, trn.rd Reg.QP_DESC0_VALID]
    exact State.rd_clearObj rfl
  have frees : s.freeQp q = (((((empty.clearObj qpRegs q).clearObj trnRegs q).clearObj ccqRegs q).wr Reg.CIP_QP_CTX_VALID q 0).wr
    Reg.CIP_QP_CTX_CONTEXT q 0).setSteer q none := rfl
  generalize s.freeQp q = v at frees ⊢
  generalize ((empty.clearObj qpRegs q).clearObj trnRegs q).clearObj ccqRegs q = w at cleared valid frees
  have unbound : Keeps State.noRegs steerFields w ((w.wr Reg.CIP_QP_CTX_VALID q 0).wr Reg.CIP_QP_CTX_CONTEXT q 0) :=
    ((Keeps.refl ..).wr Reg.CIP_QP_CTX_VALID q 0).wr Reg.CIP_QP_CTX_CONTEXT q 0
  have steered := unbound.trans (State.setSteer_keeps _ q none)
  rw [← frees] at steered
  have all := cleared.trans (steered.mono fun f hf => by simp [freeFields, hf])
  refine ⟨start.trans (all.part (State.admSide t)), ?_, ?_, ?_⟩
  · rw [steered.rd Reg.QP_DESC0_VALID, valid]
  · exact (congrArg (fun u : State => u.sqOf q) all.frame :).trans sq
  · exact (congrArg (fun u : State => u.connOf q) all.frame :).trans conn

theorem ends_destroyQpDone {o : Origin} {n : Nat} (waits : (s.sqOf q).destroying = some (o, n)) (written : s.cqesLeft q = false) (low : o.cmd < 0x40) :
    Ends (.destroyQpDone q) s o n fun u => u.rd Reg.QP_DESC0_VALID q = 0 ∧ u.sqOf q = {} ∧ u.connOf q = {} := by
  obtain ⟨kept, valid, sq, conn⟩ := s.freeQp_does q o.slot
  have runs : exec (.destroyQpDone q) s = .next (((s.freeQp q).admOk o n 0).admFree o.slot) := by
    refine congrArg Host.Outcome.next ?_
    rw [waits]
    exact if_neg (by simp [written])
  exact ends_of_ok low (fun _ => runs) kept fun u h =>
    ⟨(h.rd Reg.QP_DESC0_VALID q).trans valid, (h.done_sqOf q).trans sq, (h.done_connOf q).trans conn⟩

/-! MODIFY_QP (R158, R159). -/

/-- An action of MODIFY_QP with entry `e`. -/
def modifyEntry (act : Nat) (e : List Byte) : List Byte := withByte 10 act (withByte 0 5 e)

theorem byteAt_modifyEntry {act : Nat} (small : act < 256) (e : List Byte) : byteAt (modifyEntry act e) 0 = 5 ∧ byteAt (modifyEntry act e) 10 = act :=
  ⟨(byteAt_withByte_ne (by decide) act _).trans (byteAt_withByte_zero (by decide) e),
    (byteAt_withByte_self (by decide) act _).trans (Nat.mod_eq_of_lt small)⟩

/-- A queue pair of the owner that is no link takes an action that its state allows. -/
theorem State.modifyQp_of_mine {allowed : Nat → Bool} {f : AdmRes} (own : s.ownsQp t q = true) (plain : s.isLink q = false)
    (up : s.cst q ≠ Cst.fenced) (allows : allowed (s.cst q) = true) : s.modifyQp t q allowed f = f := by
  simp [State.modifyQp, own, plain, up, allows]

/-- Queue pair `q` after a RESET with SQ_HEAD at `h`. -/
def State.qpReset (s : State) (q h tail : Nat) : State :=
  let s1 := ((((s.resetConn q).wr Reg.TRN_QP_T4_RECV_POSTED q 0).wr Reg.QP_HEAD_HEAD q h).wr Reg.QP_HEAD_TAIL_SEEN q tail).setSched q Sched.idle
  s1.setSq q { serial := (s1.sqOf q).serial, headWritten := (s1.sqOf q).headWritten }

/-- What a RESET writes. -/
def qpResetFields : List Fld := [Reg.TRN_RESP_REC_IN_USE, Reg.TRN_QP_T0_STATE, Reg.TRN_QP_T4_RECV_POSTED, Reg.QP_HEAD_HEAD, Reg.QP_HEAD_TAIL_SEEN,
  Reg.QP_DESC3_SCHED_STATE]

theorem State.qpReset_does (s : State) (q t h tail : Nat) : Keeps (State.admSide t) qpResetFields s (s.qpReset q h tail) ∧
    (s.qpReset q h tail).cst q = Cst.reset ∧ (s.qpReset q h tail).sched q = Sched.idle ∧ (s.qpReset q h tail).rd Reg.QP_HEAD_HEAD q = h % 2 ^ 32 ∧
    (s.qpReset q h tail).connOf q = { lastEpoch := (s.connOf q).lastEpoch } := by
  have cleared := ((Keeps.refl (State.admSide t) qpResetFields s).wr Reg.TRN_RESP_REC_IN_USE 0
    (s.rd Reg.TRN_RESP_REC_IN_USE 0 - (s.connOf q).recs.length)).side_setConn q { lastEpoch := (s.connOf q).lastEpoch }
  refine ⟨(((((cleared.wr Reg.TRN_QP_T0_STATE q _).wr Reg.TRN_QP_T4_RECV_POSTED q _).wr Reg.QP_HEAD_HEAD q _).wr Reg.QP_HEAD_TAIL_SEEN q _).wr
    Reg.QP_DESC3_SCHED_STATE q _).side_setSq q _, ?_, State.rd_wr_self .., ?_, ?_⟩
  · simp (disch := decide) only [State.cst, State.qpReset, State.setSq_rd, State.setSched, State.rd_wr_of_key, State.resetConn, State.rd_wr_self]
    rfl
  · simp (disch := decide) only [State.qpReset, State.setSq_rd, State.setSched, State.rd_wr_of_key, State.rd_wr_self]
    rfl
  · exact (s.dec Reg.TRN_RESP_REC_IN_USE 0 (s.connOf q).recs.length).connOf_setConn q { lastEpoch := (s.connOf q).lastEpoch }

theorem completes_modifyQpReset (queue : leAt (modifyEntry 0 e) 8 2 = q) (own : s.ownsQp t q = true) (plain : s.isLink q = false)
    (error : s.cst q = Cst.error) (written : s.cqesLeft q = false) (native : s.legacy q = false) :
    Completes (.modifyQpReset t e) s t (modifyEntry 0 e) 0 (fun _ => 0) (fun _ => 0) fun u => u.cst q = Cst.reset ∧ u.sched q = Sched.idle ∧
      u.rd Reg.QP_HEAD_HEAD q = leAt (modifyEntry 0 e) 32 4 ∧ (u.connOf q).seen = [] ∧ (u.connOf q).lastEpoch = (s.connOf q).lastEpoch := by
  obtain ⟨cmd, action⟩ := byteAt_modifyEntry (show 0 < 256 by decide) e
  have runs : exec (.modifyQpReset t e) s = .next (s.admEntry t (modifyEntry 0 e) {}) := rfl
  generalize modifyEntry 0 e = y at *
  have word : leAt y 32 4 < 2 ^ 32 := leAt_lt ..
  obtain ⟨kept, state, sched, head, conn⟩ := (s.admHeaded t).qpReset_does q t (leAt y 32 4) (s.rd Reg.QP_HEAD_TAIL_SEEN q)
  refine completes_of_ok (b0 := 0) (b1 := 0) runs (by omega) (fun open_ => ?_) kept fun u h => ⟨⟨?_, ?_, ?_, ?_, ?_⟩, rfl, rfl⟩
  · have native' : (s.admHeaded t).legacy q = false := native
    have written' : (s.admHeaded t).cqesLeft q = false := written
    rw [(CmdIs.of_open open_ cmd (by decide)).runs_qpReset action, show (originOf t none y).slot = t from rfl, cmdQpReset, queue,
      State.modifyQp_of_mine (s := s.admHeaded t) own plain (show s.cst q ≠ Cst.fenced by rw [error]; decide)
        (show (s.cst q == Cst.error) = true by rw [error]; rfl)]
    simp only [native', written', Bool.false_eq_true, if_false]
    rfl
  · exact (h.rd Reg.TRN_QP_T0_STATE q).trans state
  · exact (h.rd Reg.QP_DESC3_SCHED_STATE q).trans sched
  · rw [h.rd Reg.QP_HEAD_HEAD, head, Nat.mod_eq_of_lt word]
  · rw [h.done_connOf, conn]
  · rw [h.done_connOf, conn]
    rfl

theorem completes_queryQp (queue : leAt (withByte 0 6 e) 8 2 = q) (own : s.ownsQp t q = true) :
    Completes (.queryQp t e) s t (withByte 0 6 e) 0 (fun _ => s.queryArg q) (fun _ => s.rd Reg.QP_EARLY_DB_COUNT_COUNT q)
      fun u => u.sqs = s.sqs ∧ u.conns = s.conns := by
  have cmd := byteAt_withByte_zero (show 6 < 256 by decide) e
  have runs : exec (.queryQp t e) s = .next (s.admEntry t (withByte 0 6 e) {}) := rfl
  generalize withByte 0 6 e = y at *
  refine completes_of_ok (v := s.admHeaded t) (b0 := s.queryArg q) (b1 := s.rd Reg.QP_EARLY_DB_COUNT_COUNT q) runs (by omega) (fun open_ => ?_)
    (.refl _ [] _) fun u h => ⟨⟨h.done_sqs, h.done_conns⟩, rfl, rfl⟩
  have own' : (s.admHeaded t).ownsQp (originOf t none y).slot q = true := own
  rw [(CmdIs.of_open open_ cmd (by decide)).runs_queryQp, cmdQueryQp, queue]
  simp only [own', Bool.not_true, Bool.false_eq_true, if_false]
  rfl

end Slot

end Sys2Proof.Machine
end

section
/-! Connections of queue pairs (R158, R159), and a queue pair that enters ERROR while it is connected (R160, R182). -/

namespace Sys2Proof.Machine

open Sys2Proof Sys2Proof.Safety

/-! CONNECT and REPATH (R158, R159). -/

/-- What a CONNECT writes. -/
def connectFields : List Fld := [Reg.TRN_QP_T0_EPOCH, Reg.TRN_QP_T0_MTU, Reg.TRN_QP_T0_RETRY_MAX, Reg.TRN_QP_T1_SND_NXT, Reg.TRN_QP_T1_SND_UNA,
  Reg.TRN_QP_T2_RCV_BASE, Reg.TRN_QP_T2_ACK_BASE, Reg.TRN_QP_T4_MSN_NEXT, Reg.TRN_QP_T3_SRTT_NS, Reg.TRN_QP_T3_RTO_NS, Reg.TRN_QP_T0_PEER_MODULE,
  Reg.TRN_QP_T0_PEER_QP, Reg.TRN_QP_T0_NUM_PATHS, Reg.TRN_QP_T0_STATE, Reg.TRN_CCQ_RATE_RATE]

section Queue

variable {s : State} {q : Nat}

/-- A change of a connection alone. -/
theorem State.setConn_keeps (s : State) (q : Nat) (c : Conn) (l : List Fld) : Keeps State.noConns l s (s.setConn q c) := (Keeps.refl ..).of_eq

theorem State.setPeer_keeps (s : State) (q : Nat) (p : Peer) : Keeps State.noConns connectFields s (s.setPeer q p) :=
  ((((Keeps.refl State.noConns connectFields s).wr _ _ _).wr _ _ _).wr _ _ _).trans (State.setConn_keeps ..)

theorem State.setRate_keeps (s : State) (q r : Nat) : Keeps State.noConns connectFields s (s.setRate q r) :=
  (s.setConn_keeps q _ connectFields).wr Reg.TRN_CCQ_RATE_RATE q _

theorem State.settleNops_of_nil (none_ : (s.sqOf q).ops = []) : s.settleNops q = s := by
  rw [State.settleNops, none_]
  exact ite_self _

/-- The parameters of a CONNECT, and both windows at their first PSNs (R159). -/
def State.connStart (s : State) (q epoch sqPsn rqPsn mtu retry : Nat) : State :=
  let s0 := s.setConn q { recvs := (s.connOf q).recvs, lastEpoch := some epoch, nextTx := s.now }
  let s1 := (((((s0.wr Reg.TRN_QP_T0_EPOCH q epoch).wr Reg.TRN_QP_T0_MTU q mtu).wr Reg.TRN_QP_T0_RETRY_MAX q retry).wr
    Reg.TRN_QP_T1_SND_NXT q sqPsn).wr Reg.TRN_QP_T1_SND_UNA q sqPsn).wr Reg.TRN_QP_T2_RCV_BASE q rqPsn
  (((s1.wr Reg.TRN_QP_T2_ACK_BASE q rqPsn).wr Reg.TRN_QP_T4_MSN_NEXT q 0).wr Reg.TRN_QP_T3_SRTT_NS q 0).wr Reg.TRN_QP_T3_RTO_NS q 0

theorem State.connStart_keeps (s : State) (q epoch sqPsn rqPsn mtu retry : Nat) :
    Keeps State.noConns connectFields s (s.connStart q epoch sqPsn rqPsn mtu retry) :=
  ((((((((((s.setConn_keeps q _ connectFields).wr _ _ _).wr _ _ _).wr _ _ _).wr _ _ _).wr _ _ _).wr _ _ _).wr _ _ _).wr _ _ _).wr _ _ _).wr _ _ _

theorem State.rd_connStart (s : State) (q epoch sqPsn rqPsn mtu retry : Nat) :
    (s.connStart q epoch sqPsn rqPsn mtu retry).rd Reg.TRN_QP_T0_EPOCH q = epoch % 2 ^ 8 ∧
      (s.connStart q epoch sqPsn rqPsn mtu retry).rd Reg.TRN_QP_T1_SND_NXT q = sqPsn % 2 ^ 32 ∧
      (s.connStart q epoch sqPsn rqPsn mtu retry).rd Reg.TRN_QP_T2_RCV_BASE q = rqPsn % 2 ^ 32 ∧
      (s.connStart q epoch sqPsn rqPsn mtu retry).rd Reg.TRN_QP_T4_MSN_NEXT q = 0 := by
  simp (disch := decide) only [State.connStart, State.rd_wr_of_key, State.rd_wr_self]
  exact ⟨rfl, rfl, rfl, rfl⟩

/-- The connection of a CONNECT, before what waited starts (R159). -/
def State.connUp (s : State) (q epoch sqPsn rqPsn mtu retry : Nat) (p : Peer) : State :=
  (((s.connStart q epoch sqPsn rqPsn mtu retry).setPeer q p).wr Reg.TRN_QP_T0_STATE q Cst.connected).setRate q
    (65536 * s.rd Reg.TRN_CC_TC1_INIT_RATE (s.rd Reg.QP_DESC0_TC q))

theorem State.connUp_keeps (s : State) (q epoch sqPsn rqPsn mtu retry : Nat) (p : Peer) :
    Keeps State.noConns connectFields s (s.connUp q epoch sqPsn rqPsn mtu retry p) :=
  (((s.connStart_keeps q epoch sqPsn rqPsn mtu retry).trans (State.setPeer_keeps ..)).wr Reg.TRN_QP_T0_STATE q _).trans (State.setRate_keeps ..)

theorem State.connect_eq (s : State) (q epoch sqPsn rqPsn mtu retry : Nat) (p : Peer) :
    s.connect q epoch sqPsn rqPsn mtu retry p = (s.connUp q epoch sqPsn rqPsn mtu retry p).settleNops q := rfl

/-- A queue pair without operations connects: only its connection and its registers change. -/
theorem State.connect_of_nil (none_ : (s.sqOf q).ops = []) (epoch sqPsn rqPsn mtu retry : Nat) (p : Peer) :
    s.connect q epoch sqPsn rqPsn mtu retry p = s.connUp q epoch sqPsn rqPsn mtu retry p := by
  have kept := s.connUp_keeps q epoch sqPsn rqPsn mtu retry p
  rw [State.connect_eq]
  generalize s.connUp q epoch sqPsn rqPsn mtu retry p = v at kept
  have same : v.sqOf q = s.sqOf q := (congrArg (fun u : State => u.sqOf q) kept.frame :)
  exact State.settleNops_of_nil (by rw [same, none_])

theorem State.rd_setPeer (s : State) (q : Nat) (p : Peer) : (s.setPeer q p).rd Reg.TRN_QP_T0_PEER_MODULE q = p.module % 2 ^ 16 := by
  simp (disch := decide) only [State.setPeer, State.setConn_rd, State.rd_wr_of_key, State.rd_wr_self]
  rfl

/-- What a CONNECT of a queue pair without operations leaves (R159). -/
structure Connected (s : State) (q epoch sqPsn rqPsn module : Nat) : Prop where
  state : s.cst q = Cst.connected
  epoch : s.rd Reg.TRN_QP_T0_EPOCH q = epoch
  next : s.rd Reg.TRN_QP_T1_SND_NXT q = sqPsn
  base : s.rd Reg.TRN_QP_T2_RCV_BASE q = rqPsn
  msn : s.rd Reg.TRN_QP_T4_MSN_NEXT q = 0
  peer : s.rd Reg.TRN_QP_T0_PEER_MODULE q = module

theorem State.connect_keeps (none_ : (s.sqOf q).ops = []) (epoch sqPsn rqPsn mtu retry : Nat) (p : Peer) :
    Keeps State.noConns connectFields s (s.connect q epoch sqPsn rqPsn mtu retry p) := by
  rw [State.connect_of_nil none_]
  exact State.connUp_keeps ..

theorem State.connected_connect (none_ : (s.sqOf q).ops = []) {epoch sqPsn rqPsn : Nat} (mtu retry : Nat) {p : Peer} (e8 : epoch < 2 ^ 8)
    (s32 : sqPsn < 2 ^ 32) (r32 : rqPsn < 2 ^ 32) (m16 : p.module < 2 ^ 16) :
    Connected (s.connect q epoch sqPsn rqPsn mtu retry p) q epoch sqPsn rqPsn p.module := by
  rw [State.connect_of_nil none_, State.connUp]
  obtain ⟨epochV, next, base, msn⟩ := s.rd_connStart q epoch sqPsn rqPsn mtu retry
  generalize s.connStart q epoch sqPsn rqPsn mtu retry = v at *
  have module := v.rd_setPeer q p
  have peered : Keeps State.noConns [Reg.TRN_QP_T0_PEER_MODULE, Reg.TRN_QP_T0_PEER_QP, Reg.TRN_QP_T0_NUM_PATHS] v (v.setPeer q p) :=
    ((((Keeps.refl State.noConns [Reg.TRN_QP_T0_PEER_MODULE, Reg.TRN_QP_T0_PEER_QP, Reg.TRN_QP_T0_NUM_PATHS] v).wr _ _ _).wr _ _ _).wr _ _ _).trans
      (State.setConn_keeps ..)
  generalize v.setPeer q p = w at *
  have same (f : Fld) (hr : f.key ≠ Reg.TRN_CCQ_RATE_RATE.key) (hs : f.key ≠ Reg.TRN_QP_T0_STATE.key) (r : Nat) :
      ((w.wr Reg.TRN_QP_T0_STATE q Cst.connected).setRate q r).rd f q = w.rd f q := by
    rw [State.setRate, State.rd_wr_of_key _ _ _ _ _ _ hr, State.setConn_rd, State.rd_wr_of_key _ _ _ _ _ _ hs]
  refine ⟨?_, ?_, ?_, ?_, ?_, ?_⟩
  · rw [State.cst, State.setRate, State.rd_wr_of_key _ _ _ _ _ _ (by decide), State.setConn_rd, State.rd_wr_self]
    rfl
  · rw [same _ (by decide) (by decide), peered.rd Reg.TRN_QP_T0_EPOCH, epochV, Nat.mod_eq_of_lt e8]
  · rw [same _ (by decide) (by decide), peered.rd Reg.TRN_QP_T1_SND_NXT, next, Nat.mod_eq_of_lt s32]
  · rw [same _ (by decide) (by decide), peered.rd Reg.TRN_QP_T2_RCV_BASE, base, Nat.mod_eq_of_lt r32]
  · rw [same _ (by decide) (by decide), peered.rd Reg.TRN_QP_T4_MSN_NEXT, msn]
  · rw [same _ (by decide) (by decide), module, Nat.mod_eq_of_lt m16]

section Slot

variable {t : Nat} {e : List Byte}

theorem completes_modifyQpConnect (queue : leAt (modifyEntry 2 e) 8 2 = q) (own : s.ownsQp t q = true) (plain : s.isLink q = false)
    (reset : s.cst q = Cst.reset) (peer : s.peerOk q (peerAt (modifyEntry 2 e)) = true)
    (newEpoch : (s.connOf q).lastEpoch ≠ some (byteAt (modifyEntry 2 e) 11)) (mtu : byteAt (modifyEntry 2 e) 40 ≤ 3)
    (retries : byteAt (modifyEntry 2 e) 42 % 16 ≠ 0) (key : s.cipReady q = true) (none_ : (s.sqOf q).ops = []) :
    Completes (.modifyQpConnect t e) s t (modifyEntry 2 e) 0 (fun _ => 0) (fun _ => 0) fun u =>
      Connected u q (byteAt (modifyEntry 2 e) 11) (leAt (modifyEntry 2 e) 32 4) (leAt (modifyEntry 2 e) 36 4) (peerAt (modifyEntry 2 e)).module := by
  obtain ⟨cmd, action⟩ := byteAt_modifyEntry (show 2 < 256 by decide) e
  have runs : exec (.modifyQpConnect t e) s = .next (s.admEntry t (modifyEntry 2 e) {}) := rfl
  generalize modifyEntry 2 e = y at *
  have noOps : ((s.admHeaded t).sqOf q).ops = [] := none_
  have made := State.connect_keeps noOps (byteAt y 11) (leAt y 32 4) (leAt y 36 4) (byteAt y 40) (byteAt y 42 % 16) (peerAt y)
  have up := State.connected_connect noOps (byteAt y 40) (byteAt y 42 % 16) (byteAt_lt y 11) (leAt_lt y 32 4) (leAt_lt y 36 4)
    (show (peerAt y).module < 2 ^ 16 from leAt_lt y 12 2)
  have connects : AdmOpen s t → (s.admHeaded t).runCmd (originOf t none y) y {} =
      .ok ((s.admHeaded t).connect q (byteAt y 11) (leAt y 32 4) (leAt y 36 4) (byteAt y 40) (byteAt y 42 % 16) (peerAt y)) 0 0 := by
    intro open_
    have peer' : (s.admHeaded t).peerOk q (peerAt y) = true := peer
    have key' : (s.admHeaded t).cipReady q = true := key
    have epoch' : (((s.admHeaded t).connOf q).lastEpoch == some (byteAt y 11)) = false := beq_false_of_ne newEpoch
    have retries' : (byteAt y 42 % 16 == 0) = false := beq_false_of_ne retries
    rw [(CmdIs.of_open open_ cmd (by decide)).runs_qpConnect action, show (originOf t none y).slot = t from rfl, cmdQpConnect, queue,
      State.modifyQp_of_mine (s := s.admHeaded t) own plain (show s.cst q ≠ Cst.fenced by rw [reset]; decide)
        (show (s.cst q == Cst.reset) = true by rw [reset]; rfl)]
    simp only [peer', key', epoch', retries', Nat.not_lt.2 mtu, Bool.not_true, decide_false, Bool.or_self, Bool.false_eq_true, if_false]
  generalize (s.admHeaded t).connect q (byteAt y 11) (leAt y 32 4) (leAt y 36 4) (byteAt y 40) (byteAt y 42 % 16) (peerAt y) = v at *
  refine completes_of_ok (b0 := 0) (b1 := 0) runs (by omega) connects (made.part (State.admSide t)) fun u h => ⟨⟨?_, ?_, ?_, ?_, ?_, ?_⟩, rfl, rfl⟩
  · exact (h.rd Reg.TRN_QP_T0_STATE q).trans up.state
  · exact (h.rd Reg.TRN_QP_T0_EPOCH q).trans up.epoch
  · exact (h.rd Reg.TRN_QP_T1_SND_NXT q).trans up.next
  · exact (h.rd Reg.TRN_QP_T2_RCV_BASE q).trans up.base
  · exact (h.rd Reg.TRN_QP_T4_MSN_NEXT q).trans up.msn
  · exact (h.rd Reg.TRN_QP_T0_PEER_MODULE q).trans up.peer

theorem completes_modifyQpRepath (queue : leAt (modifyEntry 3 e) 8 2 = q) (own : s.ownsQp t q = true) (plain : s.isLink q = false)
    (up : s.cst q = Cst.connected) (peer : s.peerOk q (peerAt (modifyEntry 3 e)) = true) :
    Completes (.modifyQpRepath t e) s t (modifyEntry 3 e) 0 (fun _ => 0) (fun _ => 0) fun u => u.cst q = Cst.connected ∧
      u.rd Reg.TRN_QP_T0_PEER_MODULE q = (peerAt (modifyEntry 3 e)).module ∧ ∀ v ∈ (u.connOf q).sent, v.resend = true ∧ v.sends = 1 := by
  obtain ⟨cmd, action⟩ := byteAt_modifyEntry (show 3 < 256 by decide) e
  have runs : exec (.modifyQpRepath t e) s = .next (s.admEntry t (modifyEntry 3 e) {}) := rfl
  generalize modifyEntry 3 e = y at *
  have module : ((s.admHeaded t).setPeer q (peerAt y)).rd Reg.TRN_QP_T0_PEER_MODULE q = (peerAt y).module :=
    (State.rd_setPeer ..).trans (Nat.mod_eq_of_lt (leAt_lt y 12 2))
  have fields : Keeps State.noConns [Reg.TRN_QP_T0_PEER_MODULE, Reg.TRN_QP_T0_PEER_QP, Reg.TRN_QP_T0_NUM_PATHS] (s.admHeaded t)
      ((s.admHeaded t).setPeer q (peerAt y)) :=
    ((((Keeps.refl State.noConns [Reg.TRN_QP_T0_PEER_MODULE, Reg.TRN_QP_T0_PEER_QP, Reg.TRN_QP_T0_NUM_PATHS] (s.admHeaded t)).wr _ _ _).wr _ _ _).wr
      _ _ _).trans (State.setConn_keeps ..)
  have repaths : AdmOpen s t → (s.admHeaded t).runCmd (originOf t none y) y {} = .ok (((s.admHeaded t).setPeer q (peerAt y)).resendAll q true) 0 0 := by
    intro open_
    have peer' : (s.admHeaded t).peerOk q (peerAt y) = true := peer
    rw [(CmdIs.of_open open_ cmd (by decide)).runs_qpRepath action, show (originOf t none y).slot = t from rfl, cmdQpRepath, queue,
      State.modifyQp_of_mine (s := s.admHeaded t) own plain (show s.cst q ≠ Cst.fenced by rw [up]; decide)
        (show (s.cst q == Cst.connected) = true by rw [up]; rfl)]
    simp only [peer', Bool.not_true, Bool.false_eq_true, if_false]
  generalize (s.admHeaded t).setPeer q (peerAt y) = v at *
  have resent := v.setConn_keeps q { v.connOf q with sent := (v.connOf q).sent.map fun x => { x with resend := true, hold := false, uncounted := true, sends := 1 } }
    [Reg.TRN_QP_T0_PEER_MODULE, Reg.TRN_QP_T0_PEER_QP, Reg.TRN_QP_T0_NUM_PATHS]
  refine completes_of_ok (b0 := 0) (b1 := 0) runs (by omega) repaths ((fields.trans resent).part (State.admSide t)) fun u h => ⟨⟨?_, ?_, ?_⟩, rfl, rfl⟩
  · exact (h.rd Reg.TRN_QP_T0_STATE q).trans ((fields.rd Reg.TRN_QP_T0_STATE q).trans up)
  · exact (h.rd Reg.TRN_QP_T0_PEER_MODULE q).trans module
  · intro x hx
    rw [h.done_connOf, State.resendAll, State.connOf_setConn] at hx
    obtain ⟨y, -, rfl⟩ := List.mem_map.1 hx
    exact ⟨rfl, rfl⟩

end Slot

end Queue

end Sys2Proof.Machine
end

section
/-! MODIFY_QP SET_ERROR (R159, R160): a connected queue pair sends a FATAL NAK as it enters ERROR (R182). -/

namespace Sys2Proof.Machine

open Sys2Proof Sys2Proof.Safety

section Queue

variable {s : State} {q : Nat}

/-! What a NAK changes (R156, R182, R204, R354). -/

/-- The submission side of the queue pairs, and the pelotons. -/
def State.opsAndPels (s : State) : Tbl Sq × Tbl Pel := (s.sqs, s.pels)

/-- What the sending of a control packet may write. -/
def nakFields : List Fld := [Reg.TRN_NAK_TX_COUNT, Reg.TRN_TX_PKTS_COUNT, Reg.TRN_ECN_MARKED_COUNT, Reg.CIP_CTX_CTR_COUNTER, Reg.CIP_CTX_SEALED_COUNT,
  Reg.CIP_SEALED_COUNT, Reg.CIP_SEAL_REFUSED_COUNT, Reg.CIP_CTX0_REKEY_REQ, Reg.CIP_CTX0_EXHAUSTED] ++ eventFields ++ pmcFields

theorem State.pmc_keeps_ops (s : State) (bank code : Nat) (ten : Option Nat) (n : Nat) : Keeps State.opsAndPels nakFields s (s.pmc bank code ten n) :=
  ((s.pmc_keeps bank code ten n).part State.opsAndPels).mono fun _ hf => List.mem_append_right _ hf

theorem State.event_keeps_ops (s : State) (t code detail arg0 arg1 : Nat) : Keeps State.opsAndPels nakFields s (s.event t code detail arg0 arg1) :=
  ((s.event_keeps t code detail arg0 arg1).part State.opsAndPels).mono fun _ hf => List.mem_append_left _ (List.mem_append_right _ hf)

theorem State.takeNonce_keeps (s : State) (c : Nat) : Keeps State.opsAndPels nakFields s (s.takeNonce c) := by
  have counted : Keeps State.opsAndPels nakFields s (((s.inc Reg.CIP_CTX_CTR_COUNTER c).count Reg.CIP_CTX_SEALED_COUNT c).count Reg.CIP_SEALED_COUNT) :=
    (((Keeps.refl State.opsAndPels nakFields s).wr Reg.CIP_CTX_CTR_COUNTER c _).wr Reg.CIP_CTX_SEALED_COUNT c _).wr Reg.CIP_SEALED_COUNT 0 _
  have sealed_ := counted.trans (State.pmc_keeps_ops _ 12 0x40 (some (s.cipOwner c)) 1)
  unfold State.takeNonce
  dsimp only
  generalize (((s.inc Reg.CIP_CTX_CTR_COUNTER c).count Reg.CIP_CTX_SEALED_COUNT c).count Reg.CIP_SEALED_COUNT).pmc 12 0x40 (some (s.cipOwner c)) = u at *
  split
  · exact (sealed_.wr _ _ _).trans (State.event_keeps_ops ..)
  · split
    · exact (sealed_.wr _ _ _).trans (State.event_keeps_ops ..)
    · exact sealed_

theorem State.sealCtx_keeps (s : State) (c : Nat) (last : Bool) : Keeps State.opsAndPels nakFields s (s.sealCtx c last).1 := by
  have same := Keeps.refl State.opsAndPels nakFields s
  unfold State.sealCtx
  dsimp only
  generalize s.keyCount c = k
  split
  · exact same
  · split
    · dsimp only
      exact s.takeNonce_keeps c
    · split
      · exact same
      · exact same.wr _ _ _

theorem State.sealQp_keeps (s : State) (q : Nat) (last : Bool) : Keeps State.opsAndPels nakFields s (s.sealQp q last).1 := by
  unfold State.sealQp
  split
  · exact .refl ..
  · exact State.sealCtx_keeps ..

theorem State.handOver_keeps (s : State) (n q : Nat) (p : Pkt) : Keeps State.opsAndPels nakFields s (s.handOver n q p) := by
  have queued (f : Frame) : Keeps State.opsAndPels nakFields s (s.enqueue n f) := by
    have placed (x : Far) : Keeps State.opsAndPels nakFields s (s.setFar n x) := (Keeps.refl ..).of_eq
    exact .ite _ ((placed _).wr _ _ _) (placed _)
  have counted (u : State) : Keeps State.opsAndPels nakFields u (u.countTx q p) := by
    have sent : Keeps State.opsAndPels nakFields u (u.inc Reg.TRN_TX_PKTS_COUNT) := (Keeps.refl ..).wr _ _ _
    exact ((Keeps.ite _ (sent.trans (State.pmc_keeps_ops ..)) sent).trans (State.pmc_keeps_ops ..)).trans (State.pmc_keeps_ops ..)
  exact (queued _).trans (counted _)

theorem State.sendCtl_keeps (s : State) (q : Nat) (p : Pkt) (last : Bool) : Keeps State.opsAndPels nakFields s (s.sendCtl q p last).1 := by
  have start : Keeps State.opsAndPels nakFields s (if s.numPaths q = 1 then s else s.bump) := .ite _ (.refl ..) (Keeps.refl ..).of_eq
  unfold State.sendCtl
  dsimp only
  generalize (if s.numPaths q = 1 then s else s.bump) = u at start ⊢
  split
  · exact start
  · have closed := start.trans (u.sealQp_keeps q last)
    split
    next seals => rw [seals] at closed; exact closed.trans (State.handOver_keeps ..)
    next seals => rw [seals] at closed; exact closed
    next seals => rw [seals] at closed; exact closed

theorem State.sendNak_keeps (s : State) (q psn msn kind syndrome reason detail backoff : Nat) :
    Keeps State.opsAndPels nakFields s (s.sendNak q psn msn kind syndrome reason detail backoff).1 := by
  have counted (u : State) (m : Keeps State.opsAndPels nakFields s u) : Keeps State.opsAndPels nakFields s
      ((u.inc Reg.TRN_NAK_TX_COUNT).pmc 10 0x24 (some (s.qpTenant q))) := (m.wr _ _ _).trans (State.pmc_keeps_ops ..)
  have marked : Keeps State.opsAndPels nakFields s (s.setConn q { s.connOf q with exhNak := true }) := (Keeps.refl ..).of_eq
  unfold State.sendNak
  dsimp only
  split
  · exact .refl ..
  · exact (counted _ (.ite _ marked (.refl ..))).trans (State.sendCtl_keeps ..)

/-! ERROR (R160). -/

/-- The FATAL NAK of a queue pair that enters ERROR. -/
def State.fatalNak (s : State) (q code detail : Nat) : State := ((s.stopped q code detail).sendNak q 0 0 3 code 0 detail 0).1

/-- A connected queue pair enters ERROR with a NAK. -/
theorem State.qpError_of_connected (up : s.cst q = Cst.connected) (code detail : Nat) (cause : Option Nat) : s.qpError q code detail cause =
    ((((s.fatalNak q code detail).opsEnded q code detail cause).recsDropped q).dropPelOps q).linkError q code false := by
  have notError : ¬(s.cst q = Cst.error ∨ s.cst q = Cst.fenced) := by rw [up]; decide
  have wasUp : (s.cst q = Cst.connected ∨ s.cst q = Cst.suspended) ∧ (!false) = true := ⟨.inl up, rfl⟩
  exact (if_neg notError).trans
    (congrArg (fun u : State => (((u.opsEnded q code detail cause).recsDropped q).dropPelOps q).linkError q code false) (if_pos wasUp))

/-- A connected queue pair without operations, where there is no peloton, is in ERROR (R160). -/
theorem State.qpError_of_idle (up : s.cst q = Cst.connected) (none_ : (s.sqOf q).ops = []) (noPel : s.pels = []) (code detail : Nat) :
    (s.qpError q code detail none).cst q = Cst.error ∧ (s.qpError q code detail none).sched q = Sched.error ∧
      (s.qpError q code detail none).rd Reg.TRN_QP_T5_ERR_SYNDROME q = code % 2 ^ 8 := by
  have stopped := s.stopped_keeps q code detail
  have still := (s.ops_stopped q code detail).trans none_
  have cst := s.cst_stopped q code detail
  obtain ⟨sched, syndrome⟩ := s.rd_stopped q code detail
  have sent : Keeps State.opsAndPels nakFields (s.stopped q code detail) (s.fatalNak q code detail) := State.sendNak_keeps ..
  have error := State.qpError_of_connected up code detail none
  generalize s.stopped q code detail = v at stopped still cst sched syndrome sent
  generalize s.fatalNak q code detail = w at sent error
  have noOps : (w.sqOf q).ops = [] := (congrArg (fun x : Tbl Sq × Tbl Pel => (Tbl.get ({} : Sq) q x.1).ops) sent.frame :).trans still
  have noPelW : (w.recsDropped q).pels = [] := ((congrArg Prod.snd sent.frame :).trans (congrArg State.pels stopped.frame :)).trans noPel
  rw [State.opsEnded_of_nil noOps, State.dropPelOps_of_noPel noPelW, State.linkError_of_noPel noPelW] at error
  have dropped := w.recsDropped_keeps q
  rw [error]
  refine ⟨?_, ?_, ?_⟩
  · exact ((dropped.rd Reg.TRN_QP_T0_STATE q).trans (sent.rd Reg.TRN_QP_T0_STATE q)).trans cst
  · exact ((dropped.rd Reg.QP_DESC3_SCHED_STATE q).trans (sent.rd Reg.QP_DESC3_SCHED_STATE q)).trans sched
  · exact ((dropped.rd Reg.TRN_QP_T5_ERR_SYNDROME q).trans (sent.rd Reg.TRN_QP_T5_ERR_SYNDROME q)).trans syndrome

/-! The completion of a command in any state of its ring (R125, R126). -/

theorem State.drainAdm_keeps (t n : Nat) (l : List Fld) : ∀ s : State, Keeps State.noEvent l s (State.drainAdm t n s) := by
  induction n with
  | zero => exact fun s => .refl ..
  | succ n ih =>
    intro s
    unfold State.drainAdm
    dsimp only
    split
    · exact .refl ..
    · split
      · exact ((Keeps.refl State.noEvent l s).of_eq).trans (ih _)
      · exact .refl ..

theorem State.settleAdm_keeps (s : State) (t : Nat) : Keeps State.noEvent doneFields s (s.settleAdm t) := by
  have first := State.drainAdm_keeps t (s.admOf t).held.length doneFields s
  have reports (u : State) : Keeps State.noEvent doneFields u (u.reportLost t) := .ite _ (Keeps.refl ..).of_eq (.refl ..)
  exact ((first.trans (reports _)).trans (State.drainAdm_keeps ..)).wr Reg.ADM_STATUS_EVENTS_HELD t _

theorem State.admDone_keeps (s : State) (t tag cmd code detail a0 a1 : Nat) :
    Keeps State.noEvent doneFields s (s.admDone t tag cmd code detail a0 a1) := by
  have held : Keeps State.noEvent doneFields s (s.setAdm t { s.admOf t with held := (s.admOf t).held ++ [{ tag, code, cmd, detail, arg0 := a0, arg1 := a1 }] }) :=
    (Keeps.refl ..).of_eq
  exact (held.wr Reg.ADM_STATUS_CMDS_DONE t _).trans (State.settleAdm_keeps ..)

section Slot

variable {t : Nat} {e : List Byte}

theorem does_modifyQpSetError (up : s.cst q = Cst.connected) (queue : leAt (modifyEntry 4 e) 8 2 = q) (own : s.ownsQp t q = true)
    (plain : s.isLink q = false) (none_ : (s.sqOf q).ops = []) (noPel : s.pels = []) (open_ : AdmOpen s t) (idle : (s.admOf t).busy = false) :
    Does (.modifyQpSetError t e) s fun u => u.cst q = Cst.error ∧ u.sched q = Sched.error ∧ u.rd Reg.TRN_QP_T5_ERR_SYNDROME q = s.free 8 := by
  obtain ⟨cmd, action⟩ := byteAt_modifyEntry (show 4 < 256 by decide) e
  have runs : exec (.modifyQpSetError t e) s = .next (s.admEntry t (modifyEntry 4 e) {}) := rfl
  generalize modifyEntry 4 e = y at *
  obtain ⟨cst, sched, syndrome⟩ := State.qpError_of_idle (s := (s.admHeaded t).bump) (q := q) up none_ noPel (s.free 8) 0
  have ends : (s.admHeaded t).runCmd (originOf t none y) y {} = .ok ((s.admHeaded t).bump.qpError q (s.free 8) 0 none) 0 0 := by
    rw [(CmdIs.of_open open_ cmd (by decide)).runs_qpSetError action, show (originOf t none y).slot = t from rfl, cmdQpSetError, queue,
      State.modifyQp_of_mine (s := s.admHeaded t) own plain (show s.cst q ≠ Cst.fenced by rw [up]; decide)
        (show (s.cst q == Cst.connected) = true by rw [up]; rfl)]
    rfl
  generalize (s.admHeaded t).bump.qpError q (s.free 8) 0 none = v at *
  have done : State.runAdmin (originOf t none y) y {} (s.admHeaded t) = v.admDone t (leAt y 4 4) (byteAt y 0) Code.success 0 0 0 := by
    rw [State.runAdmin, ends]
    exact State.admOk_of_low (show byteAt y 0 < 0x40 by omega) rfl 0 0
  have kept := v.admDone_keeps t (leAt y 4 4) (byteAt y 0) Code.success 0 0 0
  rw [State.admEntry_of_open open_ idle, done] at runs
  refine ⟨_, runs, ?_, ?_, ?_⟩
  · exact (kept.rd Reg.TRN_QP_T0_STATE q).trans cst
  · exact (kept.rd Reg.QP_DESC3_SCHED_STATE q).trans sched
  · exact ((kept.rd Reg.TRN_QP_T5_ERR_SYNDROME q).trans syndrome).trans (Nat.mod_eq_of_lt (Nat.mod_lt _ (by decide)))

end Slot

end Queue

end Sys2Proof.Machine

open Sys2Proof Sys2Proof.Machine Sys2Proof.Safety

/-- Settles O32: a command runs in the state whose SQ_HEAD has passed its entry and leaves the admin queues alone, so that its completion goes out at
once (`completes_of_ok`). -/
theorem queuePairCommands : Obligations.QueuePairCommands := by
  intro s t q n c slot ctx cq e o owner z x y mine
  refine ⟨completes_unknownCmd, ?_, ?_, fun pick cluster context => ⟨?_, ?_⟩, ?_, ?_, ?_, ?_, fun up => ⟨?_, ?_⟩, ?_⟩
  · rintro rfl ring index note low high context pick
    exact completes_createCq owner ring index note low high context pick
  · exact fun ring own unused empty => completes_destroyCq ring own unused empty
  · rintro rfl rfl sq index low high class_ some_ few own ring
    exact completes_createQp owner pick cluster context ⟨sq, low, high, class_, some_, few⟩ index own ring
  · rintro small rfl sq low high class_ some_ few all held
    exact completes_createLegacyQp small pick cluster context ⟨sq, low, high, class_, some_, few⟩ all held
  · exact fun queue ⟨own, plain⟩ none_ noPel => waits_destroyQp queue own plain none_ noPel
  · exact ends_destroyQpDone
  · exact fun queue ⟨own, plain⟩ error written native => completes_modifyQpReset queue own plain error written native
  · intro queue ⟨own, plain⟩ reset peer epoch mtu retries key none_ open_ idle
    obtain ⟨u, runs, ⟨state, epoch, next, base, msn, peer⟩, out⟩ :=
      completes_modifyQpConnect queue own plain reset peer epoch mtu retries key none_ open_ idle
    exact ⟨u, runs, ⟨state, epoch, next, base, msn, peer⟩, out⟩
  · exact fun queue ⟨own, plain⟩ peer => completes_modifyQpRepath queue own plain up peer
  · exact fun queue ⟨own, plain⟩ none_ noPel open_ idle => does_modifyQpSetError up queue own plain none_ noPel open_ idle
  · exact completes_queryQp
end

section
/-! Admin commands of contexts and regions (R129, R179, R181). -/

namespace Sys2Proof.Machine

open Sys2Proof Sys2Proof.Safety

section Slot

variable {s : State} {t : Nat} {e : List Byte}

/-! Contexts (R129). -/

/-- What a context descriptor holds. -/
def ctxFields : List Fld := [Reg.XLT_CTX_DESC0_ENDPOINT, Reg.XLT_CTX_DESC0_ROOT_PFN, Reg.XLT_CTX_DESC1_TENANT, Reg.XLT_CTX_DESC1_CONTEXT,
  Reg.XLT_CTX_DESC0_VALID]

/-- Descriptor `d` of context `ctx` of owner `t`, with its root table at `pa` behind attachment slot `slot`. -/
def State.ctxFilled (s : State) (d t slot pa ctx : Nat) : State :=
  ((((s.wr Reg.XLT_CTX_DESC0_ENDPOINT d slot).wr Reg.XLT_CTX_DESC0_ROOT_PFN d (pa / 4096)).wr Reg.XLT_CTX_DESC1_TENANT d t).wr
    Reg.XLT_CTX_DESC1_CONTEXT d ctx).wr Reg.XLT_CTX_DESC0_VALID d 1

theorem State.ctxFilled_keeps (s : State) (d t slot pa ctx m : Nat) : Keeps (State.admSide m) ctxFields s (s.ctxFilled d t slot pa ctx) :=
  (((((Keeps.refl ..).wr _ _ _).wr _ _ _).wr _ _ _).wr _ _ _).wr _ _ _

theorem State.rd_ctxFilled (s : State) (d t slot pa ctx : Nat) : (s.ctxFilled d t slot pa ctx).rd Reg.XLT_CTX_DESC0_VALID d = 1 ∧
    (s.ctxFilled d t slot pa ctx).rd Reg.XLT_CTX_DESC0_ENDPOINT d = slot % 2 ^ 3 ∧
    (s.ctxFilled d t slot pa ctx).rd Reg.XLT_CTX_DESC0_ROOT_PFN d = pa / 4096 % 2 ^ 44 ∧
    (s.ctxFilled d t slot pa ctx).rd Reg.XLT_CTX_DESC1_TENANT d = t % 2 ^ 10 ∧
    (s.ctxFilled d t slot pa ctx).rd Reg.XLT_CTX_DESC1_CONTEXT d = ctx % 2 ^ 16 := by
  simp (disch := decide) only [State.ctxFilled, State.rd_wr_of_key, State.rd_wr_self]
  exact ⟨rfl, rfl, rfl, rfl, rfl⟩

/-- Where no removal waits, the numbers in use are those of the valid objects. -/
theorem State.pickIndex_of_idle {lo total quota : Nat} {valid ten : Fld} {waits : Nat → Job → Bool} (idle : s.ten.jobs = []) :
    s.pickIndex t lo total quota valid ten (fun n => s.on valid n || s.ten.jobs.any (waits n)) =
      s.pickIndex t lo total quota valid ten (fun n => s.on valid n) := by
  refine congrArg _ (funext fun n => ?_)
  rw [idle, List.any_nil, Bool.or_false]

theorem completes_registerContext {d slot ctx pa : Nat} (owner : t < 1024) (idle : s.ten.jobs = []) (hctx : leAt (withByte 0 8 e) 8 2 = ctx)
    (hslot : byteAt (withByte 0 8 e) 10 = slot) (hpa : leAt (withByte 0 8 e) 16 8 = pa) (low : slot ≤ 7) (page : pa % 4096 = 0) (wide : pa < 2 ^ 56)
    (live : s.attLive t slot = true) (new : s.descOf t ctx = none)
    (pick : s.pickIndex t 0 16384 (s.rd Reg.TEN_SLICE3_CONTEXTS t) Reg.XLT_CTX_DESC0_VALID Reg.XLT_CTX_DESC1_TENANT
      (fun n => s.on Reg.XLT_CTX_DESC0_VALID n) = some d) :
    Completes (.registerContext t e) s t (withByte 0 8 e) 0 (fun _ => d) (fun _ => 0) fun v => v.rd Reg.XLT_CTX_DESC0_VALID d = 1 ∧
      v.rd Reg.XLT_CTX_DESC0_ENDPOINT d = slot ∧ v.rd Reg.XLT_CTX_DESC0_ROOT_PFN d = pa / 4096 ∧ v.rd Reg.XLT_CTX_DESC1_TENANT d = t ∧
      v.rd Reg.XLT_CTX_DESC1_CONTEXT d = ctx := by
  have cmd := byteAt_withByte_zero (show 8 < 256 by decide) e
  have runs : exec (.registerContext t e) s = .next (s.admEntry t (withByte 0 8 e) {}) := rfl
  generalize withByte 0 8 e = y at *
  have word : ctx < 2 ^ 16 := hctx ▸ leAt_lt y 8 2
  have made : AdmOpen s t → (s.admHeaded t).runCmd (originOf t none y) y {} = .ok ((s.admHeaded t).ctxFilled d t slot pa ctx) d 0 := by
    intro open_
    have live' : (s.admHeaded t).attLive t slot = true := live
    have new' : (s.admHeaded t).descOf t ctx = none := new
    have inForm : ¬(7 < slot ∨ pa % 4096 ≠ 0 ∨ 2 ^ 56 ≤ pa) := by omega
    have pick' : (s.admHeaded t).pickIndex t 0 16384 ((s.admHeaded t).rd Reg.TEN_SLICE3_CONTEXTS t) Reg.XLT_CTX_DESC0_VALID
      Reg.XLT_CTX_DESC1_TENANT (fun n => (s.admHeaded t).on Reg.XLT_CTX_DESC0_VALID n) = some d := pick
    rw [(CmdIs.of_open open_ cmd (by decide)).runs_registerContext, show (originOf t none y).slot = t from rfl, cmdRegisterContext,
      State.pickIndex_of_idle (s := s.admHeaded t) idle, pick']
    simp only [hctx, hslot, hpa, if_neg inForm, live', new', Option.isSome_none, Bool.not_true, Bool.false_eq_true, if_false]
    rfl
  refine completes_of_ok (b0 := d) (b1 := 0) runs (by omega) made (State.ctxFilled_keeps _ d t slot pa ctx t) fun u h => ⟨?_, rfl, rfl⟩
  obtain ⟨valid, endpoint, root, tenant, context⟩ := (s.admHeaded t).rd_ctxFilled d t slot pa ctx
  rw [h.rd Reg.XLT_CTX_DESC0_VALID, h.rd Reg.XLT_CTX_DESC0_ENDPOINT, h.rd Reg.XLT_CTX_DESC0_ROOT_PFN, h.rd Reg.XLT_CTX_DESC1_TENANT,
    h.rd Reg.XLT_CTX_DESC1_CONTEXT, valid, endpoint, root, tenant, context]
  exact ⟨rfl, Nat.mod_eq_of_lt (by omega), Nat.mod_eq_of_lt (by omega), Nat.mod_eq_of_lt owner, Nat.mod_eq_of_lt word⟩

theorem waits_unregisterContext {d ctx : Nat} (hctx : leAt (withByte 0 9 e) 8 2 = ctx) (desc : s.descOf t ctx = some d)
    (unused : s.ctxUsed t ctx = false) : Waits (.unregisterContext t e) s t fun v =>
      v.rd Reg.XLT_CTX_DESC0_VALID d = 0 ∧ v.ten.jobs = s.ten.jobs ++ [.unreg (originOf t none (withByte 0 9 e)) d] := by
  have cmd := byteAt_withByte_zero (show 9 < 256 by decide) e
  have runs : exec (.unregisterContext t e) s = .next (s.admEntry t (withByte 0 9 e) {}) := rfl
  generalize withByte 0 9 e = y at *
  let ended : State := (s.admHeaded t).wr Reg.XLT_CTX_DESC0_VALID d 0
  let marked : State := ended.markInval { seq := 0, slot := 0, path := 0, tenant := t, ctx, base := 0, size := 57, wholeCtx := true, wholeTen := false }
  have kept : Keeps (State.admSide t) [Reg.XLT_CTX_DESC0_VALID] (s.admHeaded t) (marked.addJob (.unreg (originOf t none y) d)) :=
    ((Keeps.refl ..).wr Reg.XLT_CTX_DESC0_VALID d 0).of_eq
  refine waits_of_wait (v := marked.addJob (.unreg (originOf t none y) d)) runs (fun open_ => ?_) kept ⟨?_, rfl⟩
  · have desc' : (s.admHeaded t).descOf t ctx = some d := desc
    have unused' : (s.admHeaded t).ctxUsed t ctx = false := unused
    rw [(CmdIs.of_open open_ cmd (by decide)).runs_unregisterContext, cmdUnregisterContext, show (originOf t none y).slot = t from rfl, hctx]
    simp only [desc', unused', Bool.false_eq_true, if_false]
    rfl
  · exact State.rd_wr_self ..

/-- The one job that waits is taken where it is of the kind asked for. -/
theorem State.takeJob_of_one {j : Job} {p : Job → Bool} (job : s.ten.jobs = [j]) (mine : p j = true) :
    s.takeJob p = some (j, { s with ten := { s.ten with jobs := [] } }) := by
  rw [State.takeJob, job, List.find?_cons_of_pos mine, dropFirst, if_pos mine, Option.map_some]

theorem ends_unregisterContextDone {o : Origin} {d : Nat} (here : o.slot = t) (low : o.cmd < 0x40) (job : s.ten.jobs = [.unreg o d]) :
    Ends (.unregisterContextDone t) s o 0 fun v => v.ten.jobs = [] ∧ v.rd Reg.XLT_CTX_DESC0_VALID d = 0 := by
  let idle : State := { s with ten := { s.ten with jobs := [] } }
  let dropped : State := idle.dropContext o.slot (idle.rd Reg.XLT_CTX_DESC1_CONTEXT d)
  have start : Keeps (State.admSide o.slot) (fieldsOf Reg.XLT_CTX_SEL_INDEX) s dropped := (Keeps.refl ..).of_eq
  have valid : (dropped.clearObj (fieldsOf Reg.XLT_CTX_SEL_INDEX) d).rd Reg.XLT_CTX_DESC0_VALID d = 0 := State.rd_clearObj rfl
  have cleared := State.clearObj_keeps (Keeps.refl State.noRegs (fieldsOf Reg.XLT_CTX_SEL_INDEX) dropped) (fieldsOf Reg.XLT_CTX_SEL_INDEX) d
    fun f hf => List.mem_map_of_mem hf
  have runs : exec (.unregisterContextDone t) s =
      .next (((dropped.clearObj (fieldsOf Reg.XLT_CTX_SEL_INDEX) d).admOk o 0 0).admFree o.slot) := by
    refine congrArg Host.Outcome.next ?_
    rw [State.takeJob_of_one job ?_]
    exact beq_iff_eq.2 here
  generalize dropped.clearObj (fieldsOf Reg.XLT_CTX_SEL_INDEX) d = w at valid cleared runs
  refine ends_of_ok low (fun _ => runs) (start.trans (cleared.part (State.admSide o.slot))) fun u h => ⟨?_, (h.rd Reg.XLT_CTX_DESC0_VALID d).trans valid⟩
  have ten : w.ten = dropped.ten := (congrArg State.ten cleared.frame :)
  rw [h.done_ten, ten]
  rfl

/-! Regions (R179, R181). -/

/-- What a region holds. -/
def regionFields : List Fld := [Reg.TRN_REG_D0_GENERATION, Reg.TRN_REG_D0_REVOKED, Reg.TRN_REG_D0_RIGHTS, Reg.TRN_REG_D0_TENANT, Reg.TRN_REG_D0_CONTEXT,
  Reg.TRN_REG_D1_BASE, Reg.TRN_REG_D2_LENGTH, Reg.TRN_REG_D2_QP_BIND, Reg.TRN_REG_D2_QP_BIND_EN, Reg.TRN_REG_D0_VALID]

/-- Region `i`, whose generation is set, before it is valid. -/
def State.regionFilled (s : State) (i t base len ctx rights qb : Nat) : State :=
  let s2 := ((((s.wr Reg.TRN_REG_D0_REVOKED i 0).wr Reg.TRN_REG_D0_RIGHTS i rights).wr Reg.TRN_REG_D0_TENANT i t).wr
    Reg.TRN_REG_D0_CONTEXT i ctx).wr Reg.TRN_REG_D1_BASE i base
  ((s2.wr Reg.TRN_REG_D2_LENGTH i len).wr Reg.TRN_REG_D2_QP_BIND i qb).put Reg.TRN_REG_D2_QP_BIND_EN i (qb != 0xFFFF)

theorem State.regionFilled_keeps (s : State) (i t base len ctx rights qb m : Nat) :
    Keeps (State.admSide m) regionFields s (s.regionFilled i t base len ctx rights qb) :=
  ((((((((Keeps.refl ..).wr _ _ _).wr _ _ _).wr _ _ _).wr _ _ _).wr _ _ _).wr _ _ _).wr _ _ _).wr _ _ _

theorem State.rd_regionFilled (s : State) (i t base len ctx rights : Nat) :
    (s.regionFilled i t base len ctx rights 0xFFFF).rd Reg.TRN_REG_D0_REVOKED i = 0 ∧
    (s.regionFilled i t base len ctx rights 0xFFFF).rd Reg.TRN_REG_D1_BASE i = base % 2 ^ 64 ∧
    (s.regionFilled i t base len ctx rights 0xFFFF).rd Reg.TRN_REG_D2_LENGTH i = len % 2 ^ 47 ∧
    (s.regionFilled i t base len ctx rights 0xFFFF).rd Reg.TRN_REG_D0_RIGHTS i = rights % 2 ^ 5 ∧
    (s.regionFilled i t base len ctx rights 0xFFFF).rd Reg.TRN_REG_D0_TENANT i = t % 2 ^ 10 ∧
    (s.regionFilled i t base len ctx rights 0xFFFF).rd Reg.TRN_REG_D2_QP_BIND_EN i = 0 := by
  simp (disch := decide) only [State.regionFilled, State.put, State.rd_wr_of_key, State.rd_wr_self]
  exact ⟨rfl, rfl, rfl, rfl, rfl, rfl⟩

theorem completes_registerRegion {i base len ctx rights : Nat} (owner : t < 1024) (idle : s.ten.jobs = []) (hbase : leAt (withByte 0 0xA e) 8 8 = base)
    (hlen : leAt (withByte 0 0xA e) 16 8 = len) (hctx : leAt (withByte 0 0xA e) 24 2 = ctx) (hrights : byteAt (withByte 0 0xA e) 26 = rights)
    (unbound : leAt (withByte 0 0xA e) 28 2 = 0xFFFF) (some_ : 1 ≤ len) (small : len ≤ 2 ^ 46) (canon : canonical base = true)
    (desc : (s.descOf t ctx).isSome = true)
    (pick : s.pickIndex t 1 131072 (s.rd Reg.TEN_SLICE2_REGIONS t) Reg.TRN_REG_D0_VALID Reg.TRN_REG_D0_TENANT
      (fun n => s.on Reg.TRN_REG_D0_VALID n) = some i) :
    Completes (.registerRegion t e) s t (withByte 0 0xA e) 0 (fun v => v.regKey i) (fun _ => 0) fun v => v.rd Reg.TRN_REG_D0_VALID i = 1 ∧
      v.rd Reg.TRN_REG_D0_REVOKED i = 0 ∧ v.rd Reg.TRN_REG_D1_BASE i = base ∧ v.rd Reg.TRN_REG_D2_LENGTH i = len ∧
      v.rd Reg.TRN_REG_D0_RIGHTS i = rights % 2 ^ 5 ∧ v.rd Reg.TRN_REG_D0_TENANT i = t ∧ v.rd Reg.TRN_REG_D2_QP_BIND_EN i = 0 := by
  have cmd := byteAt_withByte_zero (show 0xA < 256 by decide) e
  have runs : exec (.registerRegion t e) s = .next (s.admEntry t (withByte 0 0xA e) {}) := rfl
  generalize withByte 0 0xA e = y at *
  have word : base < 2 ^ 64 := hbase ▸ leAt_lt y 8 8
  let aged : State := if (s.admHeaded t).rd Reg.TRN_REG_D2_LENGTH i = 0 then s.admHeaded t else (s.admHeaded t).inc Reg.TRN_REG_D0_GENERATION i
  have start : Keeps (State.admSide t) regionFields (s.admHeaded t) aged := .ite _ (.refl ..) ((Keeps.refl ..).wr Reg.TRN_REG_D0_GENERATION i _)
  let filled : State := aged.regionFilled i t base len ctx rights 0xFFFF
  have made : AdmOpen s t → (s.admHeaded t).runCmd (originOf t none y) y {} = .ok (filled.wr Reg.TRN_REG_D0_VALID i 1) (filled.regKey i) 0 := by
    intro open_
    have known : ((s.admHeaded t).descOf t ctx).isNone = false := by
      rw [← Option.not_isSome]
      exact congrArg Bool.not desc
    have inForm : ¬(len = 0 ∨ 2 ^ 46 < len) := by omega
    have pick' : (s.admHeaded t).pickIndex t 1 131072 ((s.admHeaded t).rd Reg.TEN_SLICE2_REGIONS t) Reg.TRN_REG_D0_VALID
      Reg.TRN_REG_D0_TENANT (fun n => (s.admHeaded t).on Reg.TRN_REG_D0_VALID n) = some i := pick
    rw [(CmdIs.of_open open_ cmd (by decide)).runs_registerRegion, show (originOf t none y).slot = t from rfl, cmdRegisterRegion,
      State.pickIndex_of_idle (s := s.admHeaded t) idle, pick']
    simp only [hbase, hlen, hctx, hrights, unbound, known, canon, ne_eq, not_true_eq_false, false_and, and_false, Bool.not_true, Bool.false_eq_true, or_self,
      or_false, if_neg inForm, if_false]
    rfl
  have kept : Keeps (State.admSide t) regionFields (s.admHeaded t) (filled.wr Reg.TRN_REG_D0_VALID i 1) :=
    (start.trans (State.regionFilled_keeps _ i t base len ctx rights 0xFFFF t)).wr Reg.TRN_REG_D0_VALID i 1
  obtain ⟨revoked, baseV, lenV, rightsV, tenant, bound⟩ := aged.rd_regionFilled i t base len ctx rights
  change filled.rd _ _ = _ at revoked baseV lenV rightsV tenant bound
  generalize filled = w at *
  refine completes_of_ok (b0 := w.regKey i) (b1 := 0) runs (by omega) made kept fun u h => ⟨?_, ?_, rfl⟩
  · have same (f : Fld) (hv : f.key ≠ Reg.TRN_REG_D0_VALID.key) (hd : ∀ g ∈ doneFields, f.key ≠ g.key) : u.rd f i = w.rd f i :=
      (h.rd f i hd).trans (State.rd_wr_of_key _ _ _ _ _ _ hv)
    rw [same Reg.TRN_REG_D0_REVOKED (by decide) (by decide), same Reg.TRN_REG_D1_BASE (by decide) (by decide),
      same Reg.TRN_REG_D2_LENGTH (by decide) (by decide), same Reg.TRN_REG_D0_RIGHTS (by decide) (by decide),
      same Reg.TRN_REG_D0_TENANT (by decide) (by decide), same Reg.TRN_REG_D2_QP_BIND_EN (by decide) (by decide), revoked, baseV, lenV, rightsV, tenant, bound]
    exact ⟨(h.rd Reg.TRN_REG_D0_VALID i).trans (State.rd_wr_self ..), rfl, Nat.mod_eq_of_lt word, Nat.mod_eq_of_lt (by omega), rfl,
      Nat.mod_eq_of_lt owner, rfl⟩
  · rw [State.regKey, State.regKey, h.rd Reg.TRN_REG_D0_GENERATION, State.rd_wr_of_key _ _ _ _ _ _ (by decide)]

theorem waits_deregisterRegion {i : Nat} (key : leAt (withByte 0 0xB e) 8 4 = s.regKey i) (small : i < 2 ^ 17) (real : i ≠ 0)
    (valid : s.rd Reg.TRN_REG_D0_VALID i = 1) (own : s.rd Reg.TRN_REG_D0_TENANT i = t) : Waits (.deregisterRegion t e) s t fun v =>
      v.rd Reg.TRN_REG_D0_VALID i = 0 ∧ v.ten.jobs = s.ten.jobs ++ [.dereg (originOf t none (withByte 0 0xB e)) i] := by
  have cmd := byteAt_withByte_zero (show 0xB < 256 by decide) e
  have runs : exec (.deregisterRegion t e) s = .next (s.admEntry t (withByte 0 0xB e) {}) := rfl
  generalize withByte 0 0xB e = y at *
  have index : leAt y 8 4 % 2 ^ 17 = i := by
    rw [key, State.regKey]
    omega
  let ended : State := (s.admHeaded t).wr Reg.TRN_REG_D0_VALID i 0
  have kept : Keeps (State.admSide t) [Reg.TRN_REG_D0_VALID] (s.admHeaded t) (ended.addJob (.dereg (originOf t none y) i)) :=
    ((Keeps.refl ..).wr Reg.TRN_REG_D0_VALID i 0).of_eq
  refine waits_of_wait (v := ended.addJob (.dereg (originOf t none y) i)) runs (fun open_ => ?_) kept ⟨State.rd_wr_self .., rfl⟩
  have on : (s.admHeaded t).on Reg.TRN_REG_D0_VALID i = true := beq_iff_eq.2 valid
  have found : ¬(i = 0 ∨ (!(s.admHeaded t).on Reg.TRN_REG_D0_VALID i) = true ∨ (s.admHeaded t).regKey i ≠ leAt y 8 4 ∨
      (s.admHeaded t).rd Reg.TRN_REG_D0_TENANT i ≠ (originOf t none y).slot) := by
    rw [on]
    rintro (zero | off | other | foreign)
    · exact real zero
    · exact Bool.noConfusion off
    · exact other key.symm
    · exact foreign own
  rw [(CmdIs.of_open open_ cmd (by decide)).runs_deregisterRegion, cmdDeregisterRegion, index]
  exact if_neg found

theorem ends_deregisterRegionDone {o : Origin} {i : Nat} (here : o.slot = t) (low : o.cmd < 0x40) (job : s.ten.jobs = [.dereg o i]) :
    Ends (.deregisterRegionDone t) s o 0 fun v => v.ten.jobs = [] := by
  let idle : State := { s with ten := { s.ten with jobs := [] } }
  have runs : exec (.deregisterRegionDone t) s = .next ((idle.admOk o 0 0).admFree o.slot) := by
    refine congrArg Host.Outcome.next ?_
    rw [State.takeJob_of_one job ?_]
    exact beq_iff_eq.2 here
  have kept : Keeps (State.admSide o.slot) [] s idle := (Keeps.refl ..).of_eq
  refine ends_of_ok low (fun _ => runs) kept fun u h => ?_
  rw [h.done_ten]

end Slot

end Sys2Proof.Machine
end

section
/-! Admin commands of extents (R331, R332). -/

namespace Sys2Proof.Machine

open Sys2Proof Sys2Proof.Safety

/-! Ranges of memory that read as 0. -/

theorem Mem.rd_wipe (m : Mem) (lo hi a : Nat) : Mem.rd (Mem.wipe m lo hi) a = if lo ≤ a ∧ a < hi then 0 else Mem.rd m a := by
  have filtered : Mem.rd (Mem.wipe m lo hi) a = if (!(decide (lo ≤ a) && decide (a < hi))) = true then Mem.rd m a else 0 :=
    Tbl.get_filter (0 : Byte) (fun k => !(decide (lo ≤ k) && decide (k < hi))) a m
  rw [filtered]
  by_cases inside : lo ≤ a ∧ a < hi
  · rw [if_pos inside]
    exact if_neg (by simp [inside])
  · rw [if_neg inside]
    refine if_pos ?_
    rw [← Bool.decide_and, decide_eq_false inside]
    rfl

/-! Numbers that are picked (R326, R483). -/

theorem firstFrom_lt {p : Nat → Bool} {j : Nat} (n : Nat) : ∀ k, firstFrom p n k = some j → j < k + n := by
  induction n with
  | zero => exact fun k h => absurd h (by simp [firstFrom])
  | succ n ih =>
    intro k h
    rw [firstFrom] at h
    split at h
    · cases h
      omega
    · have := ih (k + 1) h
      omega

theorem lastBelow_lt {p : Nat → Bool} {j : Nat} (n : Nat) (h : lastBelow p n = some j) : j < n := by
  induction n with
  | zero => exact absurd h (by simp [lastBelow])
  | succ n ih =>
    rw [lastBelow] at h
    split at h
    · cases h
      exact Nat.lt_succ_self _
    · exact Nat.lt_succ_of_lt (ih h)

theorem State.pickUnits_lt {s : State} {t n u : Nat} (h : s.pickUnits t n = some u) : u < 23040 := by
  rw [State.pickUnits] at h
  split at h
  · exact lastBelow_lt _ h
  · exact firstFrom_lt _ _ h

/-- The state but for its registers and what Kilurn holds of the tenants. -/
def State.noTen (s : State) : State := { s with regs := [], ten := {} }

theorem State.setExt_keeps (s : State) (n : Nat) (x : Ext) (l : List Fld) : Keeps State.noTen l s (s.setExt n x) := (Keeps.refl ..).of_eq

/-- The extent of an ALLOC_EXTENT, its bit CLAIM apart. -/
def allocEntry (e : List Byte) (flags : Nat) : List Byte := withByte 18 flags (withByte 0 0xE e)

theorem byteAt_allocEntry (e : List Byte) {flags : Nat} (small : flags < 256) :
    byteAt (allocEntry e flags) 0 = 0xE ∧ byteAt (allocEntry e flags) 18 = flags :=
  ⟨(byteAt_withByte_ne (by decide) flags _).trans (byteAt_withByte_zero (by decide) e),
    (byteAt_withByte_self (by decide) flags _).trans (Nat.mod_eq_of_lt small)⟩

/-- Bit 1 of a byte that was cleared, and of one that was set. -/
theorem bit_clrBit_one {v : Nat} (h : v < 256) : bit (clrBit v 1) 1 = false ∧ clrBit v 1 < 256 := by
  by_cases on : v / 2 ^ 1 % 2 = 1
  · rw [clrBit, bit, bit, if_pos (decide_eq_true on), decide_eq_false_iff_not]
    omega
  · rw [clrBit, bit, bit, if_neg (by rw [decide_eq_true_eq]; exact on)]
    exact ⟨decide_eq_false on, h⟩

theorem bit_setBit_one {v : Nat} (h : v < 256) : bit (setBit v 1) 1 = true ∧ setBit v 1 < 256 := by
  by_cases on : v / 2 ^ 1 % 2 = 1
  · rw [setBit, bit, bit, if_pos (decide_eq_true on)]
    exact ⟨decide_eq_true on, h⟩
  · rw [setBit, bit, bit, if_neg (by rw [decide_eq_true_eq]; exact on), decide_eq_true_eq]
    omega

section Slot

variable {s : State} {t : Nat} {e : List Byte}

/-! ALLOC_EXTENT (R331). -/

/-- What the binding of an extent writes. -/
def bindFields : List Fld := [Reg.TEN_EXT0_STATE, Reg.TEN_EXT0_KEEP, Reg.TEN_EXT0_ANY_CONTEXT, Reg.TEN_EXT0_CONTEXT, Reg.TEN_EXT0_ATTACH]

theorem State.bindExt_keeps (s : State) (n ctx keep : Nat) (a : Nat × Nat) : Keeps State.noTen bindFields s (s.bindExt n ctx keep a) :=
  ((((((Keeps.refl State.noTen bindFields s).wr Reg.TEN_EXT0_STATE n _).wr Reg.TEN_EXT0_KEEP n _).wr Reg.TEN_EXT0_ANY_CONTEXT n _).wr
    Reg.TEN_EXT0_CONTEXT n _).wr Reg.TEN_EXT0_ATTACH n _).trans (State.setExt_keeps ..)

theorem State.xst_bindExt (s : State) (n ctx keep : Nat) (a : Nat × Nat) : (s.bindExt n ctx keep a).xst n = Xs.bound := by
  have regs (f : Fld) (x : Ext) (u : State) : (u.setExt n x).rd f n = u.rd f n := rfl
  rw [State.xst, State.bindExt, regs]
  simp (disch := decide) only [State.put, State.rd_wr_of_key, State.rd_wr_self]
  rfl

/-- What the making of an extent writes. -/
def extentFields : List Fld := [Reg.TEN_EXT0_TENANT, Reg.TEN_EXT1_BASE_UNIT, Reg.TEN_EXT1_UNITS, Reg.TEN_SLICE2_UNITS_USED] ++ bindFields

theorem State.makeExt_keeps (s : State) (k t u n ctx keep : Nat) (a : Nat × Nat) : Keeps State.noTen extentFields s (s.makeExt k t u n ctx keep a) := by
  have sized := (((Keeps.refl State.noTen extentFields s).wr Reg.TEN_EXT0_TENANT k t).wr Reg.TEN_EXT1_BASE_UNIT k u).wr Reg.TEN_EXT1_UNITS k n
  have bound := sized.trans ((State.bindExt_keeps _ k ctx keep a).mono fun _ hf => List.mem_append_right _ hf)
  exact .ite _ bound (bound.wr Reg.TEN_SLICE2_UNITS_USED t _)

theorem State.rd_makeExt (s : State) (k t u n ctx keep : Nat) (a : Nat × Nat) : (s.makeExt k t u n ctx keep a).xst k = Xs.bound ∧
    (s.makeExt k t u n ctx keep a).rd Reg.TEN_EXT0_TENANT k = t % 2 ^ 10 ∧
    (s.makeExt k t u n ctx keep a).rd Reg.TEN_EXT1_BASE_UNIT k = u % 2 ^ 15 ∧ (s.makeExt k t u n ctx keep a).rd Reg.TEN_EXT1_UNITS k = n % 2 ^ 15 := by
  let sized : State := ((s.wr Reg.TEN_EXT0_TENANT k t).wr Reg.TEN_EXT1_BASE_UNIT k u).wr Reg.TEN_EXT1_UNITS k n
  have read : sized.rd Reg.TEN_EXT0_TENANT k = t % 2 ^ 10 ∧ sized.rd Reg.TEN_EXT1_BASE_UNIT k = u % 2 ^ 15 ∧ sized.rd Reg.TEN_EXT1_UNITS k = n % 2 ^ 15 := by
    simp (disch := decide) only [sized, State.rd_wr_of_key, State.rd_wr_self]
    exact ⟨rfl, rfl, rfl⟩
  have bound := sized.bindExt_keeps k ctx keep a
  have state := sized.xst_bindExt k ctx keep a
  have makes : s.makeExt k t u n ctx keep a =
    if t = provider then sized.bindExt k ctx keep a else (sized.bindExt k ctx keep a).inc Reg.TEN_SLICE2_UNITS_USED t n := rfl
  generalize sized.bindExt k ctx keep a = v at bound state makes
  have counted : Keeps State.noTen [Reg.TEN_SLICE2_UNITS_USED] v (s.makeExt k t u n ctx keep a) := by
    rw [makes]
    exact .ite _ (.refl ..) ((Keeps.refl ..).wr Reg.TEN_SLICE2_UNITS_USED t _)
  obtain ⟨tenant, unit, units⟩ := read
  exact ⟨(counted.rd Reg.TEN_EXT0_STATE k).trans state, ((counted.rd Reg.TEN_EXT0_TENANT k).trans (bound.rd Reg.TEN_EXT0_TENANT k)).trans tenant,
    ((counted.rd Reg.TEN_EXT1_BASE_UNIT k).trans (bound.rd Reg.TEN_EXT1_BASE_UNIT k)).trans unit,
    ((counted.rd Reg.TEN_EXT1_UNITS k).trans (bound.rd Reg.TEN_EXT1_UNITS k)).trans units⟩

theorem completes_allocExtent {k n u : Nat} (owner : t < 1024)
    (len : leAt (allocEntry e (clrBit (byteAt (withByte 0 0xE e) 18) 1)) 8 8 = n * unitBytes) (some_ : 1 ≤ n) (few : n ≤ 23039)
    (left : s.unitsLeft t n = true) (ext : s.pickExt t = some k) (units : s.pickUnits t n = some u) :
    Completes (.allocExtent t e) s t (allocEntry e (clrBit (byteAt (withByte 0 0xE e) 18) 1)) 0 (fun _ => k) (fun _ => u * unitBytes) fun v =>
      v.xst k = Xs.bound ∧ v.rd Reg.TEN_EXT0_TENANT k = t ∧ v.rd Reg.TEN_EXT1_BASE_UNIT k = u ∧ v.rd Reg.TEN_EXT1_UNITS k = n ∧ v.gddr = s.gddr := by
  obtain ⟨clear, small⟩ := bit_clrBit_one (byteAt_lt (withByte 0 0xE e) 18)
  obtain ⟨cmd, flags⟩ := byteAt_allocEntry e small
  rw [← flags] at clear
  have runs : exec (.allocExtent t e) s = .next (s.admEntry t (allocEntry e (clrBit (byteAt (withByte 0 0xE e) 18) 1)) {}) := by
    rw [byteAt_withByte_ne (by decide)]
    rfl
  generalize allocEntry e (clrBit (byteAt (withByte 0 0xE e) 18) 1) = y at *
  have low := State.pickUnits_lt units
  let made : State := (s.admHeaded t).makeExt k t u n (leAt y 16 2) (byteAt y 18 % 2) ((s.admHeaded t).admAttach (originOf t none y))
  have allocs : AdmOpen s t → (s.admHeaded t).runCmd (originOf t none y) y {} = .ok made k (u * unitBytes) := by
    intro open_
    have left' : (s.admHeaded t).unitsLeft t n = true := left
    have ext' : (s.admHeaded t).pickExt t = some k := ext
    have units' : (s.admHeaded t).pickUnits t n = some u := units
    have whole : n * unitBytes % unitBytes = 0 := Nat.mul_mod_left ..
    have count : n * unitBytes / unitBytes = n := Nat.mul_div_cancel _ (by decide)
    have inForm : ¬(n = 0) := by omega
    rw [(CmdIs.of_open open_ cmd (by decide)).runs_allocExtent clear, cmdAllocExtent, show (originOf t none y).slot = t from rfl]
    simp only [len, whole, count, ne_eq, not_true_eq_false, inForm, or_self, left', ext', units', if_pos few, Bool.not_true, Bool.false_eq_true, if_false]
    rfl
  have kept := (s.admHeaded t).makeExt_keeps k t u n (leAt y 16 2) (byteAt y 18 % 2) ((s.admHeaded t).admAttach (originOf t none y))
  obtain ⟨state, tenant, unit, size⟩ := (s.admHeaded t).rd_makeExt k t u n (leAt y 16 2) (byteAt y 18 % 2) ((s.admHeaded t).admAttach (originOf t none y))
  change Keeps _ _ _ made at kept
  change made.xst k = _ at state
  change made.rd _ _ = _ at tenant unit size
  generalize made = v at *
  refine completes_of_ok (b0 := k) (b1 := u * unitBytes) runs (by omega) allocs (kept.part (State.admSide t)) fun w h => ⟨⟨?_, ?_, ?_, ?_, ?_⟩, rfl, rfl⟩
  · exact (h.rd Reg.TEN_EXT0_STATE k).trans state
  · rw [h.rd Reg.TEN_EXT0_TENANT, tenant, Nat.mod_eq_of_lt (show t < 2 ^ 10 from owner)]
  · rw [h.rd Reg.TEN_EXT1_BASE_UNIT, unit, Nat.mod_eq_of_lt (by omega)]
  · rw [h.rd Reg.TEN_EXT1_UNITS, size, Nat.mod_eq_of_lt (by omega)]
  · exact h.done_gddr.trans (congrArg State.gddr kept.frame :)

theorem completes_allocExtentClaim {k : Nat} (ext : leAt (allocEntry e (setBit (byteAt (withByte 0 0xE e) 18) 1)) 20 2 = k) (below : k < 4096)
    (kept_ : s.xst k = Xs.kept) (own : s.rd Reg.TEN_EXT0_TENANT k = t) (adopted : k ∈ (s.sliceOf t).adopted) :
    Completes (.allocExtentClaim t e) s t (allocEntry e (setBit (byteAt (withByte 0 0xE e) 18) 1)) 0 (fun _ => k)
      (fun _ => s.rd Reg.TEN_EXT1_BASE_UNIT k * unitBytes) fun v => v.xst k = Xs.bound ∧ v.gddr = s.gddr := by
  obtain ⟨claim, small⟩ := bit_setBit_one (byteAt_lt (withByte 0 0xE e) 18)
  obtain ⟨cmd, flags⟩ := byteAt_allocEntry e small
  rw [← flags] at claim
  have runs : exec (.allocExtentClaim t e) s = .next (s.admEntry t (allocEntry e (setBit (byteAt (withByte 0 0xE e) 18) 1)) {}) := by
    rw [byteAt_withByte_ne (by decide)]
    rfl
  generalize allocEntry e (setBit (byteAt (withByte 0 0xE e) 18) 1) = y at *
  let made : State := (s.admHeaded t).bindExt k (leAt y 16 2) (byteAt y 18 % 2) ((s.admHeaded t).admAttach (originOf t none y))
  have claims : AdmOpen s t → (s.admHeaded t).runCmd (originOf t none y) y {} = .ok made k (s.rd Reg.TEN_EXT1_BASE_UNIT k * unitBytes) := by
    intro open_
    have found : ¬(4096 ≤ k ∨ (s.admHeaded t).xst k ≠ Xs.kept ∨ (s.admHeaded t).rd Reg.TEN_EXT0_TENANT k ≠ t ∨
        (!((s.admHeaded t).sliceOf t).adopted.contains k) = true) := by
      rintro (high | other | foreign | unknown)
      · omega
      · exact other kept_
      · exact foreign own
      · rw [show ((s.admHeaded t).sliceOf t).adopted.contains k = true from List.contains_iff_mem.2 adopted] at unknown
        exact Bool.noConfusion unknown
    rw [(CmdIs.of_open open_ cmd (by decide)).runs_claimExtent claim, cmdClaimExtent, show (originOf t none y).slot = t from rfl, ext]
    exact if_neg found
  have kept := (s.admHeaded t).bindExt_keeps k (leAt y 16 2) (byteAt y 18 % 2) ((s.admHeaded t).admAttach (originOf t none y))
  have state := (s.admHeaded t).xst_bindExt k (leAt y 16 2) (byteAt y 18 % 2) ((s.admHeaded t).admAttach (originOf t none y))
  change Keeps _ _ _ made at kept
  change made.xst k = _ at state
  generalize made = v at *
  refine completes_of_ok (b0 := k) (b1 := s.rd Reg.TEN_EXT1_BASE_UNIT k * unitBytes) runs (by omega) claims (kept.part (State.admSide t)) fun w h =>
    ⟨⟨?_, ?_⟩, rfl, rfl⟩
  · exact (h.rd Reg.TEN_EXT0_STATE k).trans state
  · exact h.done_gddr.trans (congrArg State.gddr kept.frame :)

/-! FREE_EXTENT and its wipe (R332). -/

/-- What shows the wipes, and the end of the dumps into an extent that is gone. -/
def wipeFields : List Fld := [Reg.TEN_WIPE_STATUS_BUSY, Reg.TEN_WIPE_STATUS_UNITS_LEFT, Reg.PMC_DUMP_STATUS_BAD_DEST, Reg.PMC_DUMP_CFG_DUMP_EN]

theorem State.showWipe_keeps (s : State) : Keeps State.noRegs wipeFields s s.showWipe :=
  ((Keeps.refl State.noRegs wipeFields s).wr Reg.TEN_WIPE_STATUS_BUSY 0 _).wr Reg.TEN_WIPE_STATUS_UNITS_LEFT 0 _

theorem State.stopDump_keeps (s : State) : Keeps State.noRegs wipeFields s s.stopDump :=
  ((Keeps.refl State.noRegs wipeFields s).wr Reg.PMC_DUMP_STATUS_BAD_DEST 0 _).wr Reg.PMC_DUMP_CFG_DUMP_EN 0 _

/-- An extent whose wipe begins is in state WIPING, and every byte of it reads as 0. -/
theorem State.beginWipe_does (s : State) (n t : Nat) : Keeps (State.admSide t) (Reg.TEN_EXT0_STATE :: wipeFields) s (s.beginWipe n) ∧
    (s.beginWipe n).xst n = Xs.wiping ∧ (s.beginWipe n).gddr = Mem.wipe s.gddr (s.rd Reg.TEN_EXT1_BASE_UNIT n * unitBytes)
      (s.rd Reg.TEN_EXT1_BASE_UNIT n * unitBytes + s.rd Reg.TEN_EXT1_UNITS n * unitBytes) := by
  let lo := s.rd Reg.TEN_EXT1_BASE_UNIT n * unitBytes
  let hi := lo + s.rd Reg.TEN_EXT1_UNITS n * unitBytes
  let empty : State := { s with
    gddr := Mem.wipe s.gddr lo hi
    board := { s.board with res := { s.board.res with
      poison := s.board.res.poison.filter (fun l => decide (64 * l < lo) || decide (hi ≤ 64 * l)) } } }
  let freed : State := (empty.wr Reg.TEN_EXT0_STATE n Xs.wiping).setExt n {}
  have start : Keeps (State.admSide t) (Reg.TEN_EXT0_STATE :: wipeFields) s freed :=
    ((Keeps.refl (State.admSide t) (Reg.TEN_EXT0_STATE :: wipeFields) s).of_eq (u := empty)).wr Reg.TEN_EXT0_STATE n Xs.wiping |>.of_eq
  have state : freed.xst n = Xs.wiping := empty.rd_wr_self Reg.TEN_EXT0_STATE n Xs.wiping
  have gddr : freed.gddr = Mem.wipe s.gddr lo hi := rfl
  have wipes : s.beginWipe n =
    if freed.showWipe.on Reg.PMC_DUMP_CFG_DUMP_EN ∧ !freed.showWipe.dumpDest then freed.showWipe.stopDump else freed.showWipe := rfl
  generalize freed = v at *
  have shown := v.showWipe_keeps
  have kept : Keeps State.noRegs wipeFields v (s.beginWipe n) := by
    rw [wipes]
    exact .ite _ (shown.trans (State.stopDump_keeps _)) shown
  refine ⟨start.trans ((kept.part (State.admSide t)).mono fun _ hf => List.mem_cons_of_mem _ hf), (kept.rd Reg.TEN_EXT0_STATE n).trans state, ?_⟩
  exact (congrArg State.gddr kept.frame :).trans gddr

theorem completes_freeExtent {n : Nat} (ext : leAt (withByte 0 0xF e) 8 2 = n) (below : n < 4096) (mapped : s.xst n = Xs.bound ∨ s.xst n = Xs.preserved)
    (own : s.rd Reg.TEN_EXT0_TENANT n = t) (clear : s.winRegion n = false) :
    Completes (.freeExtent t e) s t (withByte 0 0xF e) 0 (fun _ => 0) (fun _ => 0) fun v => v.xst n = Xs.wiping ∧
      (∀ b, s.rd Reg.TEN_EXT1_BASE_UNIT n * unitBytes ≤ b →
        b < s.rd Reg.TEN_EXT1_BASE_UNIT n * unitBytes + s.rd Reg.TEN_EXT1_UNITS n * unitBytes → Mem.rd v.gddr b = 0) ∧
      SameGddrBut (s.rd Reg.TEN_EXT1_BASE_UNIT n * unitBytes) (s.rd Reg.TEN_EXT1_UNITS n * unitBytes) s v := by
  have cmd := byteAt_withByte_zero (show 0xF < 256 by decide) e
  have runs : exec (.freeExtent t e) s = .next (s.admEntry t (withByte 0 0xF e) {}) := rfl
  generalize withByte 0 0xF e = y at *
  obtain ⟨kept, state, gddr⟩ := (s.admHeaded t).beginWipe_does n t
  have frees : AdmOpen s t → (s.admHeaded t).runCmd (originOf t none y) y {} = .ok ((s.admHeaded t).beginWipe n) 0 0 := by
    intro open_
    have found : ¬(4096 ≤ n ∨ ((s.admHeaded t).xst n ≠ Xs.bound ∧ (s.admHeaded t).xst n ≠ Xs.preserved) ∨
        (s.admHeaded t).rd Reg.TEN_EXT0_TENANT n ≠ t) := by
      rintro (high | ⟨unbound, fresh⟩ | foreign)
      · omega
      · exact mapped.elim unbound fresh
      · exact foreign own
    have clear' : ¬((s.admHeaded t).winRegion n = true) := by
      rw [show (s.admHeaded t).winRegion n = false from clear]
      exact Bool.false_ne_true
    rw [(CmdIs.of_open open_ cmd (by decide)).runs_freeExtent, cmdFreeExtent, show (originOf t none y).slot = t from rfl, ext]
    exact (if_neg found).trans (if_neg clear')
  generalize (s.admHeaded t).beginWipe n = v at *
  refine completes_of_ok (b0 := 0) (b1 := 0) runs (by omega) frees kept fun u h => ⟨⟨(h.rd Reg.TEN_EXT0_STATE n).trans state, ?_, ?_⟩, rfl, rfl⟩
  · intro b low high
    rw [h.done_gddr, gddr, Mem.rd_wipe]
    exact if_pos ⟨low, high⟩
  · intro b outside
    rw [h.done_gddr, gddr, Mem.rd_wipe]
    refine if_neg fun ⟨low, high⟩ => outside.elim (Nat.not_lt.2 low) (Nat.not_le.2 high)

theorem does_extentWipeDone {n : Nat} (wiping : s.xst n = Xs.wiping) : Does (.extentWipeDone n) s fun v => v.xst n = Xs.free ∧
    v.rd Reg.TEN_WIPES_COUNT 0 = satAdd 64 (s.rd Reg.TEN_WIPES_COUNT 0) 1 ∧ v.gddr = s.gddr := by
  have runs : exec (.extentWipeDone n) s = .next (s.endWipe n) := congrArg Host.Outcome.next (if_pos wiping)
  let left : State := if s.slice (s.rd Reg.TEN_EXT0_TENANT n) ≠ 0 ∧ s.rd Reg.TEN_EXT0_TENANT n ≠ provider then
    s.dec Reg.TEN_SLICE2_UNITS_USED (s.rd Reg.TEN_EXT0_TENANT n) (s.rd Reg.TEN_EXT1_UNITS n) else s
  have units : Keeps State.noRegs [Reg.TEN_SLICE2_UNITS_USED] s left := .ite _ ((Keeps.refl ..).wr Reg.TEN_SLICE2_UNITS_USED _ _) (.refl ..)
  have cleared := State.clearObj_keeps (Keeps.refl State.noRegs extRegs left) extRegs n fun f hf => List.mem_map_of_mem hf
  have free_ : (left.clearObj extRegs n).rd Reg.TEN_EXT0_STATE n = 0 := State.rd_clearObj rfl
  have ends : s.endWipe n = (((left.clearObj extRegs n).setExt n {}).count Reg.TEN_WIPES_COUNT).showWipe := rfl
  generalize left.clearObj extRegs n = w at cleared free_ ends
  have same (f : Fld) (i : Nat) : (w.setExt n {}).rd f i = w.rd f i := rfl
  have before : (w.setExt n {}).rd Reg.TEN_WIPES_COUNT 0 = s.rd Reg.TEN_WIPES_COUNT 0 :=
    (cleared.rd Reg.TEN_WIPES_COUNT 0).trans (units.rd Reg.TEN_WIPES_COUNT 0)
  have kept := ((w.setExt n {}).count Reg.TEN_WIPES_COUNT).showWipe_keeps
  have gddr : w.gddr = s.gddr := ((congrArg State.gddr cleared.frame :)).trans (congrArg State.gddr units.frame :)
  rw [ends] at runs
  refine ⟨_, runs, ?_, ?_, (congrArg State.gddr kept.frame :).trans gddr⟩
  · rw [State.xst, kept.rd Reg.TEN_EXT0_STATE n, State.count, State.rd_wr_of_key _ _ _ _ _ _ (by decide), same, free_]
    rfl
  · rw [kept.rd Reg.TEN_WIPES_COUNT 0, State.count, State.rd_wr_self, before]
    have wide : Reg.TEN_WIPES_COUNT.w = 64 := rfl
    rw [wide, Nat.mod_eq_of_lt]
    rw [satAdd]
    omega

end Slot

end Sys2Proof.Machine
end

section
/-! Admin commands of pelotons (R298 to R302, R323). -/

namespace Sys2Proof.Machine

open Sys2Proof Sys2Proof.Safety

section Slot

variable {s : State} {t p : Nat} {e : List Byte} {x : AdmX}

/-! RESERVE (R298, R299, R302). -/

theorem State.makeQp_keeps (s : State) (q t ctx slot tc cluster : Nat) : Keeps State.noOps makeFields s (s.makeQp q t ctx slot tc cluster) := by
  have cleared := (s.qpCleared_keeps q).part State.noOps
  have makes : s.makeQp q t ctx slot tc cluster = (s.qpCleared q).qpFilled q t ctx slot tc cluster := s.makeQp_eq q t ctx slot tc cluster
  rw [makes]
  generalize s.qpCleared q = w at cleared ⊢
  exact (cleared.trans ((w.qpOwned_keeps q t ctx slot tc cluster).part State.noOps)).trans
    ((w.qpFilled_keeps_owned q t ctx slot tc cluster).mono fun _ hf => List.mem_append_right _ hf)

/-- Words of code written into a cluster's program store from `a` on. -/
def State.wordsLoaded (s : State) (c a : Nat) (b : List Byte) (n : Nat) : State :=
  (List.range n).foldl (fun s k => s.setClu c { s.cluOf c with pstore := Tbl.set 0 (a + k) (leAt b (4 * k) 4) (s.cluOf c).pstore }) s

theorem State.pstore_wordsLoaded (s : State) (c a : Nat) (b : List Byte) (n : Nat) :
    ∀ j < n, Tbl.get 0 (a + j) ((s.wordsLoaded c a b n).cluOf c).pstore = leAt b (4 * j) 4 := by
  induction n with
  | zero => exact fun j h => absurd h (Nat.not_lt_zero j)
  | succ n ih =>
    intro j h
    have last : s.wordsLoaded c a b (n + 1) = (s.wordsLoaded c a b n).setClu c { (s.wordsLoaded c a b n).cluOf c with
        pstore := Tbl.set 0 (a + n) (leAt b (4 * n) 4) ((s.wordsLoaded c a b n).cluOf c).pstore } := by
      rw [State.wordsLoaded, List.range_succ, List.foldl_append]
      rfl
    rw [last, State.cluOf_setClu, Tbl.get_set]
    by_cases here : j = n
    · rw [here, if_pos rfl]
    · rw [if_neg (by omega)]
      exact ih j (by omega)

theorem State.pstore_loadCode (s : State) (c a : Nat) (b : List Byte) {j : Nat} (inside : j < b.length / 4) :
    Tbl.get 0 (a + j) ((s.loadCode c a b).cluOf c).pstore = leAt b (4 * j) 4 :=
  s.pstore_wordsLoaded c a b (b.length / 4) j inside

theorem State.loadCode_keeps_side (s : State) (c a t : Nat) (b : List Byte) (l : List Fld) : Keeps (State.admSide t) l s (s.loadCode c a b) := by
  have loaded : Keeps (State.admSide t) l s (s.wordsLoaded c a b (b.length / 4)) := .foldl (.refl ..) _ fun _ _ _ h => h.of_eq
  exact loaded.of_eq

theorem length_imgCode {b : List Byte} (whole : 64 + leAt b 8 4 ≤ b.length) : (imgCode b).length = leAt b 8 4 := by
  rw [imgCode, List.length_take, List.length_drop]
  omega

/-- The peloton that a RESERVE makes. -/
def pelReserved (t c q n a : Nat) (e b : List Byte) : Pel :=
  { st := .reserved, tenant := t, ctx := leAt e 10 2, group := leAt e 12 4, cluster := c, baseQp := q, slots := n, sched := byteAt b 6, modes := byteAt b 7,
    cops := byteAt b 20, cores := byteAt b 19 % 16, banks := byteAt b 18, entry := leAt b 12 4 / 4, codeAt := a, codeLen := leAt b 8 4 / 4 }

/-- The state with the links and the code of a peloton that is reserved. -/
def State.linksMade (s : State) (t slot c q n : Nat) (e : List Byte) : State :=
  (List.range n).foldl (fun s k => s.makeQp (q + k) t (leAt e 10 2) slot 0 c) s

def State.pelMade (s : State) (t p slot c q n a : Nat) (e b : List Byte) : State :=
  (((s.linksMade t slot c q n e).loadCode c a (imgCode b)).setPel p (pelReserved t c q n a e b)).wr Reg.CAD_TDC_VAL_COUNT p 0

theorem State.pelMade_does (s : State) (t p slot c q n a : Nat) (e : List Byte) {b : List Byte} (whole : 64 + leAt b 8 4 ≤ b.length) :
    Keeps (State.admSide t) (Reg.CAD_TDC_VAL_COUNT :: makeFields) s (s.pelMade t p slot c q n a e b) ∧
      (s.pelMade t p slot c q n a e b).pelOf p = pelReserved t c q n a e b ∧
      ∀ j < leAt b 8 4 / 4, Tbl.get 0 (a + j) ((s.pelMade t p slot c q n a e b).cluOf c).pstore = leAt (imgCode b) (4 * j) 4 := by
  have linked : Keeps State.noOps makeFields s (s.linksMade t slot c q n e) := .foldl (.refl ..) _ fun _ _ _ h => h.trans (State.makeQp_keeps ..)
  unfold State.pelMade
  generalize s.linksMade t slot c q n e = v at linked ⊢
  have loaded := v.loadCode_keeps_side c a t (imgCode b) (Reg.CAD_TDC_VAL_COUNT :: makeFields)
  have code (j : Nat) (h : j < leAt b 8 4 / 4) := v.pstore_loadCode c a (imgCode b) (j := j) (by rw [length_imgCode whole]; exact h)
  generalize v.loadCode c a (imgCode b) = w at loaded code ⊢
  have placed : Keeps (State.admSide t) (Reg.CAD_TDC_VAL_COUNT :: makeFields) w (w.setPel p (pelReserved t c q n a e b)) := (Keeps.refl ..).of_eq
  refine ⟨((((linked.part (State.admSide t)).mono fun _ hf => List.mem_cons_of_mem _ hf).trans loaded).trans placed).wr Reg.CAD_TDC_VAL_COUNT p 0
    (List.mem_cons_self ..), ?_, code⟩
  exact w.pelOf_setPel p (pelReserved t c q n a e b)

theorem completes_createPelotonReserve {slot c q n a : Nat} (image : imgOk x.mem (leAt (withByte 8 0 (withByte 0 0xC e)) 24 4) = true)
    (context : s.ctxSlot t (leAt (withByte 8 0 (withByte 0 0xC e)) 10 2) = some slot)
    (new : (s.pels.any fun v => v.2.st != .free && v.2.group == leAt (withByte 8 0 (withByte 0 0xC e)) 12 4) = false)
    (pick : s.pickPel t = some p) (slots : leAt x.mem 16 2 = n) (links : s.pickQps t n = some q) (cluster : s.chooseCluster = some c)
    (place : s.codePlace c (leAt x.mem 8 4 / 4) = some a) (whole : 64 + leAt x.mem 8 4 ≤ x.mem.length) :
    Completes (.createPelotonReserve t e x) s t (withByte 8 0 (withByte 0 0xC e)) 0 (fun _ => p + 2 ^ 12 * c + 2 ^ 16 * q + 2 ^ 32 * n) (fun _ => 0)
      fun v => (v.pelOf p).st = .reserved ∧ (v.pelOf p).tenant = t ∧ (v.pelOf p).baseQp = q ∧ (v.pelOf p).slots = n ∧ (v.pelOf p).cluster = c ∧
        ∀ j < leAt x.mem 8 4 / 4, Tbl.get 0 (a + j) (v.cluOf c).pstore = leAt (imgCode x.mem) (4 * j) 4 := by
  have cmd := (byteAt_withByte_ne (i := 8) (j := 0) (by decide) 0 (withByte 0 0xC e)).trans (byteAt_withByte_zero (show 0xC < 256 by decide) e)
  have action : byteAt (withByte 8 0 (withByte 0 0xC e)) 8 = 0 := byteAt_withByte_self (by decide) 0 _
  have runs : exec (.createPelotonReserve t e x) s = .next (s.admEntry t (withByte 8 0 (withByte 0 0xC e)) x) := rfl
  generalize withByte 8 0 (withByte 0 0xC e) = y at *
  have makes : AdmOpen s t → (s.admHeaded t).runCmd (originOf t none y) y x =
      .ok ((s.admHeaded t).bump.pelMade t p slot c q n a y x.mem) (p + 2 ^ 12 * c + 2 ^ 16 * q + 2 ^ 32 * n) 0 := by
    intro open_
    have context' : (s.admHeaded t).ctxSlot t (leAt y 10 2) = some slot := context
    have new' : ((s.admHeaded t).pels.any fun v => v.2.st != .free && v.2.group == leAt y 12 4) = false := new
    have pick' : (s.admHeaded t).pickPel t = some p := pick
    have links' : (s.admHeaded t).pickQps t n = some q := links
    have cluster' : (s.admHeaded t).chooseCluster = some c := cluster
    have place' : (s.admHeaded t).codePlace c (leAt x.mem 8 4 / 4) = some a := place
    rw [(CmdIs.of_open open_ cmd (by decide)).runs_pelReserve action, cmdPelReserve, show (originOf t none y).slot = t from rfl]
    simp only [image, context', new', pick', slots, links', cluster', place', Bool.not_true, Bool.false_eq_true, if_false]
    rfl
  have start : Keeps (State.admSide t) (Reg.CAD_TDC_VAL_COUNT :: makeFields) (s.admHeaded t) (s.admHeaded t).bump := (Keeps.refl ..).of_eq
  obtain ⟨kept, pel, code⟩ := (s.admHeaded t).bump.pelMade_does t p slot c q n a y whole
  generalize (s.admHeaded t).bump.pelMade t p slot c q n a y x.mem = v at *
  refine completes_of_ok (b0 := p + 2 ^ 12 * c + 2 ^ 16 * q + 2 ^ 32 * n) (b1 := 0) runs (by omega) makes (start.trans kept) fun u h => ⟨?_, rfl, rfl⟩
  rw [h.done_pelOf, h.done_cluOf, pel]
  exact ⟨rfl, rfl, rfl, rfl, rfl, code⟩

/-! BIND (R298, R300). -/

/-- The state but for its registers, its connections and its submission queues. -/
def State.noLinks (s : State) : State := { s with regs := [], conns := [], sqs := [] }

/-- What the connecting of a link writes. -/
def linkFields : List Fld := [Reg.TRN_RESP_REC_IN_USE, Reg.QP_DESC3_SCHED_STATE, Reg.QP_DESC0_TC] ++ connectFields

theorem State.resetLink_keeps (s : State) (q : Nat) : Keeps State.noLinks linkFields s (s.resetLink q) := by
  have freed : Keeps State.noLinks linkFields s (s.dec Reg.TRN_RESP_REC_IN_USE 0 (s.connOf q).recs.length) := (Keeps.refl ..).wr _ _ _
  have cleared : Keeps State.noLinks linkFields s ((s.dec Reg.TRN_RESP_REC_IN_USE 0 (s.connOf q).recs.length).setConn q
    { lastEpoch := (s.connOf q).lastEpoch }) := freed.of_eq
  exact (cleared.wr Reg.TRN_QP_T0_STATE q _).of_eq

theorem State.ops_resetLink (s : State) (q : Nat) : ((s.resetLink q).sqOf q).ops = [] := by
  rw [State.resetLink, State.sqOf_setSq]

theorem State.connectLinks_keeps (s : State) (p : Nat) : Keeps State.noLinks linkFields s (s.connectLinks p) := by
  refine .foldl (.refl ..) _ fun u sl _ h => ?_
  dsimp only
  have clean := u.resetLink_keeps ((u.pelOf p).baseQp + sl)
  have none_ := u.ops_resetLink ((u.pelOf p).baseQp + sl)
  generalize u.resetLink ((u.pelOf p).baseQp + sl) = v at clean none_ ⊢
  split
  · exact h.trans clean
  · have idle : Keeps State.noLinks linkFields v (v.setSched ((u.pelOf p).baseQp + sl) Sched.idle) := (Keeps.refl ..).wr Reg.QP_DESC3_SCHED_STATE _ _
    have still : ((v.setSched ((u.pelOf p).baseQp + sl) Sched.idle).sqOf ((u.pelOf p).baseQp + sl)).ops = [] := none_
    have up := State.connect_keeps still
    exact ((h.trans clean).trans idle).trans (((up ..).part State.noLinks).mono fun _ hf => List.mem_append_right _ hf)

/-- A peloton that may be bound is reserved. -/
theorem State.reserved_of_bindOk {pl : Pel} {ms : List Member} (h : s.bindOk pl e ms = true) : pl.st = .reserved := by
  by_contra other
  have off : (pl.st == PelSt.reserved) = false := beq_false_of_ne other
  simp only [State.bindOk, off, Bool.false_and, Bool.false_eq_true] at h

/-- A peloton that is bound as `pl`, with the traffic class of its links. -/
def State.pelBound (s : State) (p tc : Nat) (pl : Pel) : State :=
  (List.range pl.slots).foldl (fun s k => s.wr Reg.QP_DESC0_TC (pl.baseQp + k) tc) (s.setPel p pl)

theorem completes_createPelotonBind (number : leAt (withByte 8 1 (withByte 0 0xC e)) 10 2 = p) (below : p < 4096) (own : (s.pelOf p).tenant = t)
    (fits : s.bindOk (s.pelOf p) (withByte 8 1 (withByte 0 0xC e)) (memberTable x.mem (leAt (withByte 8 1 (withByte 0 0xC e)) 12 4)) = true)
    (key : s.cipReady (s.pelOf p).baseQp = true) :
    Completes (.createPelotonBind t e x) s t (withByte 8 1 (withByte 0 0xC e)) 0 (fun _ => 0) (fun _ => 0) fun v =>
      v.pelOf p = bindPel (s.pelOf p) (withByte 8 1 (withByte 0 0xC e)) (memberTable x.mem (leAt (withByte 8 1 (withByte 0 0xC e)) 12 4)) ∧
        (v.pelOf p).st = .ready := by
  have cmd := (byteAt_withByte_ne (i := 8) (j := 0) (by decide) 1 (withByte 0 0xC e)).trans (byteAt_withByte_zero (show 0xC < 256 by decide) e)
  have action : byteAt (withByte 8 1 (withByte 0 0xC e)) 8 = 1 := byteAt_withByte_self (by decide) 1 _
  have runs : exec (.createPelotonBind t e x) s = .next (s.admEntry t (withByte 8 1 (withByte 0 0xC e)) x) := rfl
  generalize withByte 8 1 (withByte 0 0xC e) = y at *
  let pl := bindPel (s.pelOf p) y (memberTable x.mem (leAt y 12 4))
  let bound : State := (s.admHeaded t).pelBound p (byteAt y 30) pl
  have binds : AdmOpen s t → (s.admHeaded t).runCmd (originOf t none y) y x = .ok (bound.connectLinks p) 0 0 := by
    intro open_
    have found : ¬(4096 ≤ p ∨ ((s.admHeaded t).pelOf p).st = .free ∨ ((s.admHeaded t).pelOf p).tenant ≠ t) := by
      rintro (high | gone | foreign)
      · omega
      · exact PelSt.noConfusion ((State.reserved_of_bindOk fits).symm.trans gone)
      · exact foreign own
    have fits' : (s.admHeaded t).bindOk ((s.admHeaded t).pelOf p) y (memberTable x.mem (leAt y 12 4)) = true := fits
    have key' : (s.admHeaded t).cipReady ((s.admHeaded t).pelOf p).baseQp = true := key
    rw [(CmdIs.of_open open_ cmd (by decide)).runs_pelBind action, cmdPelBind, show (originOf t none y).slot = t from rfl, number]
    simp only [if_neg found, fits', key', Bool.not_true, Bool.false_eq_true, if_false]
    rfl
  have placed : Keeps (State.admSide t) linkFields (s.admHeaded t) ((s.admHeaded t).setPel p pl) := (Keeps.refl ..).of_eq
  have classed : Keeps State.noLinks linkFields ((s.admHeaded t).setPel p pl) bound := .foldl (.refl ..) _ fun _ _ _ h => h.wr Reg.QP_DESC0_TC _ _
  have kept := classed.trans (bound.connectLinks_keeps p)
  generalize bound.connectLinks p = v at *
  have pel : v.pelOf p = pl := (congrArg (fun u : State => u.pelOf p) kept.frame :).trans ((s.admHeaded t).pelOf_setPel p pl)
  refine completes_of_ok (b0 := 0) (b1 := 0) runs (by omega) binds (placed.trans (kept.part (State.admSide t))) fun u h => ⟨?_, rfl, rfl⟩
  rw [h.done_pelOf, pel]
  exact ⟨rfl, rfl⟩

/-! DESTROY_PELOTON (R323). -/

/-- The state with the links of a peloton freed. -/
def State.linksFreed (s : State) (p : Nat) : State := (List.range (s.pelOf p).slots).foldl (fun u k => u.freeQp ((s.pelOf p).baseQp + k)) s

/-- The state without the code of peloton `pl`, without its timers and without itself. -/
def State.pelRemoved (s : State) (p : Nat) (pl : Pel) : State :=
  let s2 := s.setClu pl.cluster { s.cluOf pl.cluster with
    pstore := (s.cluOf pl.cluster).pstore.filter (fun w => !(decide (pl.codeAt ≤ w.1) && decide (w.1 < pl.codeAt + pl.codeLen))) }
  { s2 with pels := Tbl.set {} p {} s2.pels, armed := s2.armed.filter (fun e => match e.kind with
      | .launch p' _ => p' ≠ p
      | .deadline p' _ => p' ≠ p
      | _ => true) }

/-- Nothing is left of a peloton that is freed. -/
theorem State.freePel_does (s : State) (p t : Nat) : Keeps (State.admSide t) freeFields s (s.freePel p) ∧ (s.freePel p).pelOf p = {} := by
  have freed : Keeps (State.admSide t) freeFields s (s.linksFreed p) := .foldl (.refl ..) _ fun u k _ h => h.trans (u.freeQp_does _ t).1
  have frees : s.freePel p = (s.linksFreed p).pelRemoved p (s.pelOf p) := rfl
  rw [frees]
  generalize s.linksFreed p = v at freed ⊢
  exact ⟨freed.of_eq, Tbl.get_set_self ({} : Pel) p {} v.pels⟩

theorem completes_destroyPeloton (number : leAt (withByte 0 0xD e) 8 2 = p) (below : p < 4096) (own : (s.pelOf p).tenant = t)
    (rests : (s.pelOf p).st ∈ [PelSt.reserved, .excluded, .error]) :
    Completes (.destroyPeloton t e) s t (withByte 0 0xD e) 0 (fun _ => 0) (fun _ => 0) fun v => v.pelOf p = {} := by
  have cmd := byteAt_withByte_zero (show 0xD < 256 by decide) e
  have runs : exec (.destroyPeloton t e) s = .next (s.admEntry t (withByte 0 0xD e) {}) := rfl
  generalize withByte 0 0xD e = y at *
  have frees : AdmOpen s t → (s.admHeaded t).runCmd (originOf t none y) y {} = .ok ((s.admHeaded t).freePel p) 0 0 := by
    intro open_
    have found : ¬(4096 ≤ p ∨ ((s.admHeaded t).pelOf p).st = .free ∨ ((s.admHeaded t).pelOf p).tenant ≠ t) := by
      rintro (high | gone | foreign)
      · omega
      · rw [show (s.pelOf p).st = .free from gone] at rests
        exact absurd rests (by decide)
      · exact foreign own
    have state : ((s.admHeaded t).pelOf p).st ∈ [PelSt.reserved, .excluded, .error] := rests
    rw [(CmdIs.of_open open_ cmd (by decide)).runs_destroyPeloton, cmdDestroyPeloton, show (originOf t none y).slot = t from rfl, number]
    refine (if_neg found).trans ?_
    simp only [List.mem_cons, List.not_mem_nil, or_false] at state
    rcases state with st | st | st <;> rw [st]
  obtain ⟨kept, gone⟩ := (s.admHeaded t).freePel_does p t
  generalize (s.admHeaded t).freePel p = v at *
  exact completes_of_ok (b0 := 0) (b1 := 0) runs (by omega) frees kept fun u h => ⟨(h.done_pelOf p).trans gone, rfl, rfl⟩

/-- A peloton that is READY leaves first (R317). -/
theorem does_destroyPeloton (number : leAt (withByte 0 0xD e) 8 2 = p) (below : p < 4096) (own : (s.pelOf p).tenant = t)
    (ready : (s.pelOf p).st = .ready) (open_ : AdmOpen s t) (idle : (s.admOf t).busy = false) :
    Does (.destroyPeloton t e) s fun v => v.pelOf p = {} := by
  have cmd := byteAt_withByte_zero (show 0xD < 256 by decide) e
  have runs : exec (.destroyPeloton t e) s = .next (s.admEntry t (withByte 0 0xD e) {}) := rfl
  generalize withByte 0 0xD e = y at *
  have ends : (s.admHeaded t).runCmd (originOf t none y) y {} = .ok ((((s.admHeaded t).pelLeave p Code.success).sendLinks p).freePel p) 0 0 := by
    have found : ¬(4096 ≤ p ∨ ((s.admHeaded t).pelOf p).st = .free ∨ ((s.admHeaded t).pelOf p).tenant ≠ t) := by
      rintro (high | gone | foreign)
      · omega
      · exact PelSt.noConfusion (ready.symm.trans gone)
      · exact foreign own
    have state : ((s.admHeaded t).pelOf p).st = .ready := ready
    rw [(CmdIs.of_open open_ cmd (by decide)).runs_destroyPeloton, cmdDestroyPeloton, show (originOf t none y).slot = t from rfl, number]
    refine (if_neg found).trans ?_
    rw [state]
  obtain ⟨-, gone⟩ := (((s.admHeaded t).pelLeave p Code.success).sendLinks p).freePel_does p t
  generalize (((s.admHeaded t).pelLeave p Code.success).sendLinks p).freePel p = v at *
  have done : State.runAdmin (originOf t none y) y {} (s.admHeaded t) = v.admDone t (leAt y 4 4) (byteAt y 0) Code.success 0 0 0 := by
    rw [State.runAdmin, ends]
    exact State.admOk_of_low (show byteAt y 0 < 0x40 by omega) rfl 0 0
  have kept := v.admDone_keeps t (leAt y 4 4) (byteAt y 0) Code.success 0 0 0
  rw [State.admEntry_of_open open_ idle, done] at runs
  exact ⟨_, runs, (kept.done_pelOf p).trans gone⟩

end Slot

end Sys2Proof.Machine

open Sys2Proof Sys2Proof.Machine Sys2Proof.Safety

/-- Settles O33: each command of objects leaves the admin queues alone, so that it completes, waits or ends as those of queue pairs do
(`completes_of_ok`, `waits_of_wait`, `ends_of_ok`). -/
theorem objectCommands : Obligations.ObjectCommands := by
  intro s t d i p q c a n k u slot ctx pa base len rights e x o owner z w pick
  refine ⟨fun idle => ⟨?_, ?_⟩, ?_, ?_, fun here low => ⟨?_, ?_⟩, ?_, ?_, fun number below own => ⟨?_, ?_⟩, ?_, ?_, ?_, ?_⟩
  · exact fun hctx hslot hpa small page wide live new found => completes_registerContext owner idle hctx hslot hpa small page wide live new found
  · exact fun hbase hlen hctx hrights unbound some_ small canon desc found =>
      completes_registerRegion owner idle hbase hlen hctx hrights unbound some_ small canon desc found
  · exact waits_unregisterContext
  · exact fun key small real _ valid own => waits_deregisterRegion key small real valid own
  · exact ends_deregisterRegionDone here low
  · exact ends_unregisterContextDone here low
  · exact completes_createPelotonReserve
  · exact completes_createPelotonBind
  · exact completes_destroyPeloton number below own
  · exact does_destroyPeloton number below own
  · exact completes_allocExtent owner
  · exact completes_allocExtentClaim
  · exact completes_freeExtent
  · exact does_extentWipeDone
end

section
/-! Packets that the transport sends (R166, R187, R197, R204, R354): what a queue pair that can send changes by it. -/

namespace Sys2Proof.Machine

open Sys2Proof Sys2Proof.Safety

/-- The state but for its registers and its far ports. -/
def State.noFar (s : State) : State := { s with regs := [], far := [] }

/-- What counts a sealed packet (R356, R449). -/
def sealCounts : List Fld := [Reg.CIP_CTX_SEALED_COUNT, Reg.CIP_SEALED_COUNT] ++ pmcFields

/-- What the sending of a packet writes (R190, R204, R354). -/
def sendFields : List Fld := [Reg.TRN_TX_PKTS_COUNT, Reg.TRN_ECN_MARKED_COUNT, Reg.CIP_CTX_CTR_COUNTER] ++ sealCounts

/-- The fields that tell whether a queue pair can seal and send a control packet. -/
def pathFields : List Fld := [Reg.QP_DESC0_LEGACY, Reg.TRN_QP_T0_NUM_PATHS, Reg.TRN_SPRAY_MAP_PORTS, Reg.MAC_PORT_CFG_ENABLE, Reg.MAC_PORT_CFG_WIDTH,
  Reg.MAC_PORT_STATUS_LINK_UP, Reg.CIP_CTRL_ENABLE, Reg.CIP_QP_CTX_VALID, Reg.CIP_QP_CTX_CONTEXT, Reg.CIP_CTX0_SLOT0_VALID, Reg.CIP_CTX0_SLOT1_VALID,
  Reg.CIP_CTX0_TX_PHASE, Reg.CIP_CTX_CTR_COUNTER]

/-- A packet goes out: it is sealed, counted and put into a class queue. -/
structure Sends (s t : State) : Prop where
  kept : Keeps State.noFar sendFields s t
  counted : t.rd Reg.TRN_TX_PKTS_COUNT 0 = (s.rd Reg.TRN_TX_PKTS_COUNT 0 + 1) % 2 ^ 64

theorem Keeps.pmc {α : Type} {F : State → α} {l : List Fld} {s t : State} (h : Keeps F l s t) (bank code : Nat) (ten : Option Nat) (n : Nat)
    (hl : ∀ f ∈ pmcFields, f ∈ l := by simp +contextual [sealCounts, sendFields])
    (hF : ∀ u, F u.noRegs = F u := by intro; rfl) : Keeps F l s (t.pmc bank code ten n) := by
  have counted := (t.pmc_keeps bank code ten n).mono hl
  exact h.trans ⟨(hF _).symm.trans ((congrArg F counted.frame).trans (hF t)), counted.regs⟩

theorem Keeps.connOf {F : State → State} {l : List Fld} {s t : State} (h : Keeps F l s t) (q : Nat)
    (hF : ∀ u, (F u).connOf q = u.connOf q := by intro; rfl) : t.connOf q = s.connOf q := (h.part (fun u => u.connOf q) hF).frame

theorem Keeps.sqOf {F : State → State} {l : List Fld} {s t : State} (h : Keeps F l s t) (q : Nat)
    (hF : ∀ u, (F u).sqOf q = u.sqOf q := by intro; rfl) : t.sqOf q = s.sqOf q := (h.part (fun u => u.sqOf q) hF).frame

theorem Keeps.setConn {l : List Fld} {s t : State} (h : Keeps State.noConns l s t) (q : Nat) (c : Conn) :
    Keeps State.noConns l s (t.setConn q c) := h.trans (t.setConn_keeps q c l)

section Queue

variable {s : State} {q port : Nat}

/-- A queue pair can still send after an operation that leaves the fields that tell so. -/
theorem canSend_of_keeps {α : Type} {F : State → α} {l : List Fld} {t : State} (h : CanSend s q port) (kept : Keeps F l s t)
    (apart : ∀ f ∈ pathFields, ∀ g ∈ l, f.key ≠ g.key := by decide) : CanSend t q port := by
  have same (f : Fld) (i : Nat) (hf : f.key ∈ pathFields.map Fld.key) : t.rd f i = s.rd f i := by
    obtain ⟨x, hx, hk⟩ := List.mem_map.1 hf
    exact kept.regs f i fun g hg => hk ▸ apart x hx g hg
  obtain ⟨⟨one, egress⟩, on, c, ctx, valid, below, ctr⟩ := h
  have phase : t.rd Reg.CIP_CTX0_TX_PHASE c = s.rd Reg.CIP_CTX0_TX_PHASE c := same _ _ (by decide)
  have counter : t.rd Reg.CIP_CTX_CTR_COUNTER c = s.rd Reg.CIP_CTX_CTR_COUNTER c := same _ _ (by decide)
  refine ⟨⟨Eq.trans ?_ one, Eq.trans ?_ egress⟩, (same _ _ (by decide)).trans on, c, Eq.trans ?_ ctx, ?_, ?_, counter.symm ▸ ctr⟩
  · rw [State.numPaths, State.numPaths, State.on, State.on, same Reg.QP_DESC0_LEGACY _ (by decide), same Reg.TRN_QP_T0_NUM_PATHS _ (by decide)]
  · simp (disch := decide) only [State.egressPort, State.sprayEntry, State.portUp, State.on_eq, same]
  · rw [State.qpCtx, State.qpCtx, State.on, State.on, same Reg.CIP_QP_CTX_VALID _ (by decide), same Reg.CIP_QP_CTX_CONTEXT _ (by decide)]
  · rw [phase, same _ _ (by unfold slotValid; split <;> decide)]
    exact valid
  · rw [State.keyCount, phase, counter]
    exact below

/-! The seal (R354, R356). -/

/-- A key below its limits gives its next counter value, and no event is due. -/
theorem State.takeNonce_of_below {c : Nat} (below : s.keyCount c + 1 < 2 ^ 47) (ctr : s.rd Reg.CIP_CTX_CTR_COUNTER c + 1 < 2 ^ 64) :
    Keeps State.noRegs (Reg.CIP_CTX_CTR_COUNTER :: sealCounts) s (s.takeNonce c) := by
  have counted : Keeps State.noRegs sealCounts (s.inc Reg.CIP_CTX_CTR_COUNTER c) ((((s.inc Reg.CIP_CTX_CTR_COUNTER c).count Reg.CIP_CTX_SEALED_COUNT
      c).count Reg.CIP_SEALED_COUNT).pmc 12 0x40 (some (s.cipOwner c))) :=
    (((Keeps.refl ..).wr _ _ _).wr _ _ _).pmc ..
  have counter : (s.inc Reg.CIP_CTX_CTR_COUNTER c).rd Reg.CIP_CTX_CTR_COUNTER c = s.rd Reg.CIP_CTX_CTR_COUNTER c + 1 :=
    (State.rd_wr_self ..).trans (Nat.mod_eq_of_lt ctr)
  have phase : (s.inc Reg.CIP_CTX_CTR_COUNTER c).rd Reg.CIP_CTX0_TX_PHASE c = s.rd Reg.CIP_CTX0_TX_PHASE c := State.rd_wr_of_key _ _ _ _ _ _ (by decide)
  have kept : Keeps State.noRegs (Reg.CIP_CTX_CTR_COUNTER :: sealCounts) s ((((s.inc Reg.CIP_CTX_CTR_COUNTER c).count Reg.CIP_CTX_SEALED_COUNT
      c).count Reg.CIP_SEALED_COUNT).pmc 12 0x40 (some (s.cipOwner c))) :=
    ((Keeps.refl State.noRegs _ s).wr Reg.CIP_CTX_CTR_COUNTER c _).trans (counted.mono fun f hf => List.mem_cons_of_mem _ hf)
  unfold State.takeNonce
  dsimp only
  generalize (((s.inc Reg.CIP_CTX_CTR_COUNTER c).count Reg.CIP_CTX_SEALED_COUNT c).count Reg.CIP_SEALED_COUNT).pmc 12 0x40 (some (s.cipOwner c)) = u at *
  have count : u.keyCount c < 2 ^ 47 := by
    rw [State.keyCount, counted.rd Reg.CIP_CTX_CTR_COUNTER, counted.rd Reg.CIP_CTX0_TX_PHASE, counter, phase]
    unfold State.keyCount at below
    omega
  rw [if_neg (by omega), if_neg (by omega)]
  exact kept

theorem State.sealQp_of_canSend (h : CanSend s q port) (last : Bool) :
    ∃ t n, s.sealQp q last = (t, .ok n) ∧ Keeps State.noRegs (Reg.CIP_CTX_CTR_COUNTER :: sealCounts) s t := by
  obtain ⟨-, on, c, ctx, valid, below, ctr⟩ := h
  refine ⟨s.takeNonce c, s.rd Reg.CIP_CTX_CTR_COUNTER c, ?_, State.takeNonce_of_below below ctr⟩
  have limit : s.keyCount c < 2 ^ 48 := by omega
  simp only [State.sealQp, ctx, State.sealCtx, State.on_eq, on, valid, limit, beq_self_eq_true, Bool.not_true, Bool.or_self, Bool.false_eq_true, if_false,
    true_or, if_true]

/-! The class queue (R190, R204). -/

theorem State.enqueue_keeps (s : State) (n : Nat) (f : Frame) : Keeps State.noFar [Reg.TRN_ECN_MARKED_COUNT] s (s.enqueue n f) := by
  have placed (x : Far) : Keeps State.noFar [Reg.TRN_ECN_MARKED_COUNT] s (s.setFar n x) := (Keeps.refl ..).of_eq
  exact .ite _ ((placed _).wr _ _ _) (placed _)

/-- A packet that is counted as sent (R204, R449). -/
theorem State.countTx_keeps (s : State) (q : Nat) (p : Pkt) : Keeps State.noRegs pmcFields (s.inc Reg.TRN_TX_PKTS_COUNT) (s.countTx q p) :=
  ((Keeps.ite _ ((Keeps.refl ..).pmc ..) (.refl ..)).pmc ..).pmc ..

theorem State.handOver_sends (s : State) (n q : Nat) (p : Pkt) : Sends s (s.handOver n q p) := by
  suffices sends : ∀ f, Sends s ((s.enqueue n f).countTx q p) from sends _
  intro f
  have queued := s.enqueue_keeps n f
  generalize s.enqueue n f = u at queued ⊢
  have counted := u.countTx_keeps q p
  refine ⟨?_, ?_⟩
  · have sent : Keeps State.noFar sendFields s (u.inc Reg.TRN_TX_PKTS_COUNT) := (queued.mono (by simp [sendFields])).wr _ _ _
    exact sent.trans ((counted.part State.noFar).mono (by simp +contextual [sendFields, sealCounts]))
  · rw [counted.rd Reg.TRN_TX_PKTS_COUNT, State.inc_eq, State.rd_wr_self, queued.rd Reg.TRN_TX_PKTS_COUNT]
    rfl

/-- A seal, then the sending. -/
theorem Sends.of_sealed {t u : State} (sealed_ : Keeps State.noRegs (Reg.CIP_CTX_CTR_COUNTER :: sealCounts) s t) (sent : Sends t u) : Sends s u where
  kept := ((sealed_.part State.noFar).mono (by simp +contextual [sendFields])).trans sent.kept
  counted := by rw [sent.counted, sealed_.rd Reg.TRN_TX_PKTS_COUNT]

/-! Control packets (R166, R204). -/

/-- A queue pair that can send sends a control packet, and its key is not exhausted. -/
theorem State.sendCtl_of_canSend (h : CanSend s q port) (p : Pkt) (last : Bool) : ∃ t, s.sendCtl q p last = (t, false) ∧ Sends s t := by
  obtain ⟨u, n, seals, sealed_⟩ := State.sealQp_of_canSend h last
  obtain ⟨⟨one, egress⟩, -⟩ := h
  refine ⟨u.handOver port q { p with entropy := 0, nonce := n }, ?_, Sends.of_sealed sealed_ (u.handOver_sends ..)⟩
  simp only [State.sendCtl, one, if_true, egress, seals]

theorem State.ctlSent_of_canSend (h : CanSend s q port) (p : Pkt) (last : Bool) : Sends s (ctlSent q (s.sendCtl q p last)) := by
  obtain ⟨t, runs, sends⟩ := State.sendCtl_of_canSend h p last
  rw [runs]
  exact sends

/-- The connection after an ACK: nothing waits to be acknowledged (R166). -/
def Conn.acked (c : Conn) : Conn := { c with ce := 0, sinceAck := 0, ackTimer := false }

theorem State.ackNow_of_canSend (h : CanSend s q port) (psn echo rcvd : Nat) : Sends (s.setConn q (s.connOf q).acked) (s.ackNow q psn echo rcvd) :=
  State.ctlSent_of_canSend (canSend_of_keeps h ((Keeps.refl State.noConns [] s).of_eq (u := s.setConn q (s.connOf q).acked))) ..

theorem Sends.connOf {t : State} (h : Sends s t) (q : Nat) : t.connOf q = s.connOf q := (congrArg (fun u : State => u.connOf q) h.kept.frame :)

end Queue

end Sys2Proof.Machine
end


section
/-! Steps 1 to 8 of R164: a packet that is admitted and the next in order is taken; one with a bad checksum is counted. -/

namespace Sys2Proof.Machine

open Sys2Proof Sys2Proof.Safety

/-! What is listed of a register. A search of the extents runs over what is listed, which is more than what the registers read as. -/

/-- Every field but those of `l` lists what it listed. -/
def SameCells (l : List Fld) (s t : State) : Prop := ∀ k ∉ l.map Fld.key, Tbl.get [] k t.regs = Tbl.get [] k s.regs

namespace SameCells

variable {l : List Fld} {s t u : State}

theorem refl (l : List Fld) (s : State) : SameCells l s s := fun _ _ => rfl

theorem trans (a : SameCells l s t) (b : SameCells l t u) : SameCells l s u := fun k h => (b k h).trans (a k h)

theorem wr (h : SameCells l s t) (f : Fld) (i v : Nat) (hf : f.key ∈ l.map Fld.key := by decide) : SameCells l s (t.wr f i v) :=
  fun k hk => (Tbl.get_set_ne [] _ _ fun e : k = f.key => hk (e ▸ hf)).trans (h k hk)

theorem of_regs (h : SameCells l s t) (e : u.regs = t.regs) : SameCells l s u := fun k hk => (congrArg _ e).trans (h k hk)

theorem pmc (h : SameCells l s t) (bank code : Nat) (ten : Option Nat) (n : Nat) (hl : ∀ f ∈ pmcFields, f ∈ l := by simp +contextual) :
    SameCells l s (t.pmc bank code ten n) := by
  have value : Reg.PMC_CNT_VAL_VALUE.key ∈ l.map Fld.key := List.mem_map_of_mem (hl _ (by simp [pmcFields]))
  have ovf : Reg.PMC_CNT_VAL_OVF.key ∈ l.map Fld.key := List.mem_map_of_mem (hl _ (by simp [pmcFields]))
  unfold State.pmc
  split
  · exact h
  · refine List.foldlRecOn _ _ h fun u hu k _ => ?_
    dsimp only
    split
    · exact hu
    · split
      · exact hu.wr _ _ _ value
      · exact (hu.wr _ _ _ value).wr _ _ _ ovf

theorem keeps {α : Type} {F : State → α} (h : SameCells l s t) (frame : F t = F s) : Keeps F l s t := by
  refine ⟨frame, fun f i hf => ?_⟩
  have apart : f.key ∉ l.map Fld.key := fun hm => by
    obtain ⟨x, hx, hk⟩ := List.mem_map.1 hm
    exact hf x hx hk.symm
  rw [State.rd, State.rd, h _ apart]

/-- The fields of the extents, which the GDDR7 controller reads (R332). -/
def extentKeys : List Nat := [Reg.TEN_EXT0_STATE.key, Reg.TEN_EXT1_BASE_UNIT.key, Reg.TEN_EXT1_UNITS.key, Reg.TEN_EXT0_TENANT.key,
  Reg.TEN_EXT0_ANY_CONTEXT.key, Reg.TEN_EXT0_CONTEXT.key]

/-- The GDDR7 controller passes what it passed. -/
theorem gddrPassAll (h : SameCells l s t) (ten ctx : Nat) (acc : AccK) (a n : Nat) (apart : ∀ k ∈ extentKeys, k ∉ l.map Fld.key := by decide) :
    t.gddrPassAll ten ctx acc a n = s.gddrPassAll ten ctx acc a n := by
  have same (f : Fld) (hf : f.key ∈ extentKeys) : Tbl.get [] f.key t.regs = Tbl.get [] f.key s.regs := h _ (apart _ hf)
  have read (f : Fld) (i : Nat) (hf : f.key ∈ extentKeys) : t.rd f i = s.rd f i := by rw [State.rd, State.rd, same f hf]
  have holds (b : Nat) : t.extentAt b = s.extentAt b := by
    simp (disch := decide) only [State.extentAt, State.listed, same, read]
  have passes : t.gddrPass ten ctx acc = s.gddrPass ten ctx acc := by
    funext b
    simp (disch := decide) only [State.gddrPass, State.on_eq, holds, read]
  rw [State.gddrPassAll, State.gddrPassAll, passes]

end SameCells

/-! Steps 1 to 6 (R164, R355). -/

/-- What the steps before the window write. -/
def headFields : List Fld := [Reg.TRN_RX_PKTS_COUNT, Reg.CIP_CTX_OPENED_COUNT, Reg.CIP_OPENED_COUNT] ++ pmcFields

/-- The state once the packets received are counted. -/
def State.heard (s : State) : State := s.count Reg.TRN_RX_PKTS_COUNT

/-- A packet of `n` bytes opens under context `c` (R355, R449). -/
def State.opened (s : State) (c n : Nat) : State :=
  (((s.count Reg.CIP_CTX_OPENED_COUNT c).count Reg.CIP_OPENED_COUNT).pmc 12 0x41 (some (s.cipOwner c))).pmc 12 0x43 (some (s.cipOwner c)) n

/-- The state in which an admitted packet of queue pair `q` reaches its window. -/
structure Entered (s : State) (q : Nat) (t : State) : Prop where
  cells : SameCells headFields s t
  frame : t.noConns = s.noConns
  conn : t.connOf q = { s.connOf q with authFails := 0 }
  heard : t.rd Reg.TRN_RX_PKTS_COUNT 0 = satAdd 64 (s.rd Reg.TRN_RX_PKTS_COUNT 0) 1

theorem Entered.kept {s t : State} {q : Nat} (h : Entered s q t) : Keeps State.noConns headFields s t := h.cells.keeps h.frame

section Packet

variable {s : State} {p : Pkt} {r : Rx}

theorem State.rd_heard (s : State) : s.heard.rd Reg.TRN_RX_PKTS_COUNT 0 = satAdd 64 (s.rd Reg.TRN_RX_PKTS_COUNT 0) 1 :=
  (State.rd_wr_self ..).trans (Nat.mod_eq_of_lt (satAdd_lt ..))

theorem State.localIp_heard (s : State) (ip : List Byte) : s.heard.localIp ip = s.localIp ip := by
  simp (disch := decide) only [State.heard, State.count_eq, State.localIp, State.on_eq, State.rd_wr_of_key]

theorem State.openCtx_of_good {c : Nat} (on : s.rd Reg.CIP_CTRL_ENABLE 0 = 1) (valid : s.rd (slotValid (rxPhase p.nonce)) c = 1)
    (auth : r.authOk = true) (tandem : r.tandemOk = true) : s.openCtx c p r = (s.opened c p.payload.length, .ok) := by
  simp [State.openCtx, on, valid, auth, tandem, State.opened]

theorem State.opened_cells (s : State) (c n : Nat) : SameCells headFields s (s.opened c n) :=
  (((((SameCells.refl headFields s).wr _ _ _).wr _ _ _).pmc _ _ _ _ (by simp +contextual [headFields])).pmc _ _ _ _ (by simp +contextual [headFields]))

theorem State.opened_keeps (s : State) (c n : Nat) :
    Keeps State.noRegs ([Reg.CIP_CTX_OPENED_COUNT, Reg.CIP_OPENED_COUNT] ++ pmcFields) s (s.opened c n) :=
  (((((Keeps.refl State.noRegs _ s).wr _ _ _).wr _ _ _).pmc _ _ _ _ (by simp +contextual)).pmc _ _ _ _ (by simp +contextual))

/-- The state after steps 1 to 6 for a packet that opens under context `c`. -/
def State.headPassed (s : State) (p : Pkt) (c : Nat) : State :=
  let u := s.heard.opened c p.payload.length
  u.setConn p.dstQp { u.connOf p.dstQp with authFails := 0 }

theorem State.entered_headPassed (s : State) (p : Pkt) (c : Nat) : Entered s p.dstQp (s.headPassed p c) := by
  have opened := s.heard.opened_keeps c p.payload.length
  have cells := ((SameCells.refl headFields s).wr Reg.TRN_RX_PKTS_COUNT 0 (satAdd 64 (s.rd Reg.TRN_RX_PKTS_COUNT 0) 1)).trans
    (s.heard.opened_cells c p.payload.length)
  unfold State.headPassed
  dsimp only
  generalize s.heard.opened c p.payload.length = u at opened cells ⊢
  have conns : u.connOf p.dstQp = s.connOf p.dstQp := opened.connOf _
  refine ⟨cells.of_regs rfl, (congrArg State.noConns opened.frame :), ?_, (opened.rd Reg.TRN_RX_PKTS_COUNT 0).trans s.rd_heard⟩
  rw [State.connOf_setConn, conns]

theorem State.peerMember_of_unicast {q : Nat} (uni : (s.connOf q).mcast = none) (src : p.srcMod = s.rd Reg.TRN_QP_T0_PEER_MODULE q)
    (srcQp : p.srcQp = s.rd Reg.TRN_QP_T0_PEER_QP q) : s.peerMember q p = some 0 := by
  rw [State.peerMember, uni]
  exact if_pos ⟨src, srcQp⟩

/-- The state in which an admitted packet reaches its window still knows it as its peer's, of its epoch and in time. -/
theorem peer_of_entered {t : State} (h : Admitted s p r) (enter : Entered s p.dstQp t) :
    t.peerMember p.dstQp p = some 0 ∧ p.epoch = t.rd Reg.TRN_QP_T0_EPOCH p.dstQp ∧ ¬p.txTime + t.maxLife < t.now := by
  obtain ⟨-, -, -, uni, src, srcQp, epoch, age⟩ := h
  have same (f : Fld) (i : Nat) (hf : ∀ g ∈ headFields, f.key ≠ g.key) : t.rd f i = s.rd f i := enter.kept.regs f i hf
  have clock : t.now = s.now := same _ _ (by decide)
  have life : t.maxLife = s.maxLife := by rw [State.maxLife, State.maxLife, same _ _ (by decide)]
  refine ⟨?_, epoch.trans (same _ _ (by decide)).symm, by omega⟩
  exact State.peerMember_of_unicast (by rw [enter.conn]; exact uni) (src.trans (same _ _ (by decide)).symm) (srcQp.trans (same _ _ (by decide)).symm)

/-- Steps 1 to 6 (R164). -/
theorem State.rxHead_of_admitted (h : Admitted s p r) (known : knownOpc p.opc = true) :
    ∃ t, s.rxHead p r = (t, true) ∧ Entered s p.dstQp t := by
  obtain ⟨⟨enabled, ip, port, sum, ver, module⟩, ⟨valid, up, slice, unmetered⟩, ⟨ce, auth, tandem, on, c, ctx, key⟩, -⟩ := id h
  have enter := s.entered_headPassed p c
  obtain ⟨peer, epoch, age⟩ := peer_of_entered h enter
  refine ⟨s.headPassed p c, ?_, enter⟩
  have same (f : Fld) (i : Nat) (hf : f.key ≠ Reg.TRN_RX_PKTS_COUNT.key) : s.heard.rd f i = s.rd f i := State.rd_wr_of_key _ _ _ _ _ _ hf
  have metered : s.meter (s.qpTenant p.dstQp) p = (s, true) := by rw [State.meter, unmetered]
  have opens : s.heard.openCtx c p r = (s.heard.opened c p.payload.length, .ok) :=
    State.openCtx_of_good ((same _ _ (by decide)).trans on) ((same _ _ (by unfold slotValid; split <;> decide)).trans key) auth tandem
  have context : s.heard.qpCtx p.dstQp = some c := by
    rw [← ctx, State.qpCtx, State.qpCtx, State.on, State.on, same _ _ (by decide), same _ _ (by decide)]
  have ready : s.heard.qpValid p.dstQp = true ∧ s.heard.cst p.dstQp = 1 ∧ s.heard.slice (s.heard.qpTenant p.dstQp) ≠ 4 := by
    rw [State.qpValid, State.on_eq, State.cst, State.slice, State.qpTenant, same _ _ (by decide), same _ _ (by decide), same _ _ (by decide),
      same _ _ (by decide)]
    exact ⟨by simp [valid], up, slice⟩
  obtain ⟨valid, up, slice⟩ := ready
  unfold State.rxHead
  simp only [metered, ite_self, ← State.heard.eq_1, ce, Bool.false_eq_true, if_false, context, opens, ← State.headPassed.eq_1]
  rw [if_neg (by simp), if_neg, if_neg (by simp [valid, up, Cst.reset]), if_neg (fun bad => slice bad.1), if_neg (by simp [peer]),
    if_neg (not_not_intro epoch), if_neg age]
  simp (disch := decide) [same, enabled, State.localIp_heard, ip, port, sum, ver, known, module]

/-! Steps 7 and 8 (R159, R165). -/

/-- The fields that tell which cluster serves a queue pair (R252). -/
def servedFields : List Fld := [Reg.CLU_STEER_ENT_CLUSTER_ACT, Reg.CLU_STEER_ENT_VALID_ACT, Reg.CLU_STATUS_STATE]

theorem State.steer_of_keeps {α : Type} {F : State → α} {l : List Fld} {t : State} {q : Nat} (kept : Keeps F l s t)
    (apart : ∀ f ∈ servedFields, ∀ g ∈ l, f.key ≠ g.key := by decide) : t.steer q = s.steer q := by
  unfold State.steer State.on
  dsimp only
  rw [kept.rd Reg.CLU_STEER_ENT_CLUSTER_ACT _ (apart _ (by simp [servedFields])), kept.rd Reg.CLU_STEER_ENT_VALID_ACT _ (apart _ (by simp [servedFields])),
    kept.rd Reg.CLU_STATUS_STATE _ (apart _ (by simp [servedFields]))]

theorem inOrder_of_entered {t : State} (h : InOrder s p) (enter : Entered s p.dstQp t) : InOrder t p := by
  obtain ⟨⟨next, below, seen, held, unack⟩, ⟨req, since⟩, ⟨room, fresh⟩, c, served⟩ := h
  have same (f : Fld) (i : Nat) (hf : ∀ g ∈ headFields, f.key ≠ g.key) : t.rd f i = s.rd f i := enter.kept.regs f i hf
  refine ⟨⟨next.trans (same _ _ (by decide)).symm, below, ?_, ?_, ?_⟩, ⟨req, ?_⟩, ⟨?_, ?_⟩, c, ?_⟩
  · rwa [enter.conn]
  · rwa [enter.conn]
  · rwa [enter.conn]
  · rwa [enter.conn, same _ _ (by decide)]
  · rwa [same _ _ (by decide)]
  · rwa [State.recOf, enter.conn]
  · rw [State.steer_of_keeps enter.kept, served]

/-- A packet that is the next in order is new. -/
theorem State.rxSeq_of_inOrder (h : InOrder s p) (up : s.cst p.dstQp = 1) (ce : r.ce = false) : s.rxSeq p r = (s, true) := by
  obtain ⟨⟨next, -, seen, held, -⟩, -⟩ := h
  have first : d32 p.psn (s.rcvBase p.dstQp) = 0 := by
    rw [next, d32]
    omega
  simp [State.rxSeq, State.noteCe, ce, up, Cst.suspended, Cst.error, Cst.fenced, first, seen, held]

/-- An admitted packet that is the next in order goes on to the steps of its opcode. -/
theorem State.rxPacket_of_inOrder (h : Admitted s p r) (ord : InOrder s p) (known : knownOpc p.opc = true) :
    ∃ t, s.rxPacket p r = t.newPacket p r ∧ Entered s p.dstQp t ∧ InOrder t p := by
  obtain ⟨t, passes, enter⟩ := State.rxHead_of_admitted h known
  have ordered := inOrder_of_entered ord enter
  have up : t.cst p.dstQp = 1 := (enter.kept.rd Reg.TRN_QP_T0_STATE p.dstQp).trans h.open_.2.1
  refine ⟨t, ?_, enter, ordered⟩
  simp [State.rxPacket, passes, State.rxSeq_of_inOrder ordered up h.auth.1]

/-- A packet of a queue pair that a cluster serves is not held (R252). -/
theorem State.steer_isNone_of_inOrder (h : InOrder s p) : (s.steer p.dstQp).isNone = false := by
  obtain ⟨-, -, -, c, served⟩ := h
  rw [served]
  rfl

end Packet

end Sys2Proof.Machine
end

section
/-! Steps 8 to 12 of R164: the window takes the next packet in order (R165), no ACK is due with it (R166), and a message of one packet is placed
and complete (R170, R171). -/

namespace Sys2Proof.Machine

open Sys2Proof Sys2Proof.Safety

/-! The window (R165, R166). -/

/-- The connection but for what it has accepted and is to acknowledge. -/
def Conn.unwindowed (c : Conn) : Conn :=
  { c with seen := [], unackable := [], sinceAck := 0, ackTimer := false, ackEcho := 0, ackRcvd := 0, ackPsn := 0 }

/-- The packet is the next in order of queue pair `q`, and no ACK is due with it. -/
structure NextUp (s : State) (q : Nat) (p : Pkt) : Prop where
  next : p.psn = s.rcvBase q ∧ p.psn < 2 ^ 32
  seen : (s.connOf q).seen = []
  quiet : p.ackReq = false ∧ (s.connOf q).sinceAck + 1 < s.rd Reg.TRN_TIMERS1_ACK_COALESCE 0

/-- What the acceptance of a packet writes. -/
def windowFields : List Fld := [Reg.TRN_QP_T2_RCV_BASE, Reg.TRN_QP_T2_ACK_BASE] ++ pmcFields

/-- A packet of queue pair `q` is accepted, and all else of its connection stays. -/
structure WindowTakes (s : State) (q psn : Nat) (t : State) : Prop where
  kept : Keeps State.noConns windowFields s t
  base : t.rd Reg.TRN_QP_T2_RCV_BASE q = (psn + 1) % 2 ^ 32
  conn : (t.connOf q).unwindowed = (s.connOf q).unwindowed

section Window

variable {s t : State} {q : Nat} {p : Pkt}

theorem NextUp.of_keeps {α : Type} {F : State → α} {l : List Fld} (h : NextUp s q p) (kept : Keeps F l s t)
    (seen : (t.connOf q).seen = (s.connOf q).seen) (since : (t.connOf q).sinceAck = (s.connOf q).sinceAck)
    (apart : ∀ f ∈ [Reg.TRN_QP_T2_RCV_BASE, Reg.TRN_TIMERS1_ACK_COALESCE], ∀ g ∈ l, f.key ≠ g.key := by decide) : NextUp t q p where
  next := ⟨h.next.1.trans (kept.rd Reg.TRN_QP_T2_RCV_BASE q (apart _ (by simp))).symm, h.next.2⟩
  seen := seen.trans h.seen
  quiet := ⟨h.quiet.1, by rw [since, kept.rd Reg.TRN_TIMERS1_ACK_COALESCE 0 (apart _ (by simp))]; exact h.quiet.2⟩

/-- The connection once the next packet in order is accepted; its message `wait`s to be acknowledgeable (R166). -/
def Conn.taking (c : Conn) (psn : Nat) (wait : Bool) : Conn :=
  { c with seen := [], unackable := if wait then psn :: c.unackable else c.unackable }

/-- RCV_BASE moves past the next packet in order, and no other is accepted beyond it. -/
theorem State.markPsn_of_next (h : NextUp s q p) (wait : Bool) :
    WindowTakes s q p.psn (s.markPsn q p.psn wait) ∧ (s.markPsn q p.psn wait).connOf q = (s.connOf q).taking p.psn wait := by
  obtain ⟨⟨next, -⟩, seen, -⟩ := h
  have moves : advanceBase 1025 (s.rcvBase q) (p.psn :: (s.connOf q).seen) = ((p.psn + 1) % 2 ^ 32, []) := by
    rw [seen, ← next]
    simp [advanceBase]
  have runs : s.markPsn q p.psn wait = (((s.setConn q ((s.connOf q).taking p.psn wait)).wr Reg.TRN_QP_T2_RCV_BASE q ((p.psn + 1) % 2 ^ 32)).pmc
      10 0x21 (some (s.qpTenant q))).settleAck q := by
    rw [State.markPsn]
    simp only [moves]
    rfl
  have based : Keeps State.noConns windowFields s ((s.setConn q ((s.connOf q).taking p.psn wait)).wr Reg.TRN_QP_T2_RCV_BASE q ((p.psn + 1) % 2 ^ 32)) :=
    ((Keeps.refl State.noConns windowFields s).of_eq (u := s.setConn q _)).wr _ _ _
  have base : ((s.setConn q ((s.connOf q).taking p.psn wait)).wr Reg.TRN_QP_T2_RCV_BASE q ((p.psn + 1) % 2 ^ 32)).rd Reg.TRN_QP_T2_RCV_BASE q =
      (p.psn + 1) % 2 ^ 32 := (State.rd_wr_self ..).trans (Nat.mod_mod ..)
  have conn : ((s.setConn q ((s.connOf q).taking p.psn wait)).wr Reg.TRN_QP_T2_RCV_BASE q ((p.psn + 1) % 2 ^ 32)).connOf q =
      (s.connOf q).taking p.psn wait := s.connOf_setConn ..
  rw [runs]
  generalize (s.setConn q ((s.connOf q).taking p.psn wait)).wr Reg.TRN_QP_T2_RCV_BASE q ((p.psn + 1) % 2 ^ 32) = u at based base conn ⊢
  have settles : Keeps State.noRegs (Reg.TRN_QP_T2_ACK_BASE :: pmcFields) u ((u.pmc 10 0x21 (some (s.qpTenant q))).settleAck q) :=
    ((Keeps.refl State.noRegs _ u).pmc 10 0x21 (some (s.qpTenant q)) 1 (by simp +contextual)).wr _ _ _
  have took := (settles.connOf q).trans conn
  refine ⟨⟨based.trans ((settles.part State.noConns).mono (by simp +contextual [windowFields])), ?_, ?_⟩, took⟩
  · rw [settles.rd Reg.TRN_QP_T2_RCV_BASE, base]
  · rw [took]
    rfl

/-- No ACK is due: the packet waits for the delay or the count. -/
theorem State.ackAfter_of_quiet (seen : p.psn ∉ (s.connOf q).seen)
    (quiet : p.ackReq = false ∧ (s.connOf q).sinceAck + 1 < s.rd Reg.TRN_TIMERS1_ACK_COALESCE 0) :
    ∃ c, s.ackAfter q p = s.setConn q c ∧ c.unwindowed = (s.connOf q).unwindowed := by
  obtain ⟨req, since⟩ := quiet
  have due : ¬max 1 (s.rd Reg.TRN_TIMERS1_ACK_COALESCE) ≤ (s.connOf q).sinceAck + 1 := by omega
  unfold State.ackAfter
  simp only [req, List.contains_eq_mem, seen, due, decide_false, Bool.or_self, Bool.false_eq_true, if_false]
  split <;> exact ⟨_, rfl, rfl⟩

/-! Message records (R170, R171). -/

variable {m : MsgRec}

theorem State.recOf_putRec (h : (s.recOf q m.msn).isSome) : (s.putRec q m).recOf q m.msn = some m := by
  rw [State.recOf, State.putRec, State.connOf_setConn]
  exact find?_replaceFirst h (by simp)

theorem State.recOf_of_recs {n : Nat} (h : (t.connOf q).recs = (s.connOf q).recs) : t.recOf q n = s.recOf q n := by rw [State.recOf, h, State.recOf]

/-- A message that no near port carried waits for no flush. -/
theorem State.msgComplete_of_noPaths (h : m.paths = 0) : s.msgComplete q m = s.putRec q { m with complete := true, flush := [] } := by
  rw [State.msgComplete, h]
  rfl

/-- The record once the last packet of its message is in. -/
def MsgRec.whole (m : MsgRec) (p : Pkt) : MsgRec :=
  { m with got := m.got + p.payload.length, psns := p.psn :: m.psns, lastPsn := p.psn, complete := true, flush := [] }

/-- The last packet of a message is accepted, and the message is complete. -/
structure Finishes (s : State) (q : Nat) (m : MsgRec) (p : Pkt) (t : State) : Prop where
  kept : Keeps State.noConns windowFields s t
  base : t.rd Reg.TRN_QP_T2_RCV_BASE q = (p.psn + 1) % 2 ^ 32
  record : t.recOf q m.msn = some (m.whole p)
  recvs : (t.connOf q).recvs = (s.connOf q).recvs

theorem State.finishes_msgGot (h : NextUp s q p) (opened : (s.recOf q m.msn).isSome) (full : m.len ≤ m.got + p.payload.length)
    (paths : m.paths = 0) : Finishes s q m p (s.msgGot q m p 0) := by
  have counted := s.pmc_keeps 10 0x27 (some (s.qpTenant q)) p.payload.length
  have same := counted.connOf q
  have next := h.of_keeps counted (by rw [same]) (by rw [same])
  unfold State.msgGot
  simp only [full, decide_true, if_true, Nat.or_zero]
  generalize s.pmc 10 0x27 (some (s.qpTenant q)) p.payload.length = u at counted same next ⊢
  obtain ⟨⟨kept, base, -⟩, conn⟩ := State.markPsn_of_next next true
  generalize u.markPsn q p.psn true = v at kept base conn ⊢
  rw [same] at conn
  generalize hm : ({ m with got := m.got + p.payload.length, paths := m.paths, psns := p.psn :: m.psns, lastPsn := p.psn } : MsgRec) = m'
  have msn : m'.msn = m.msn := hm ▸ rfl
  have known : (v.recOf q m'.msn).isSome := by
    rw [msn, State.recOf_of_recs (s := s) (by rw [conn]; rfl)]
    exact opened
  have putConn : (v.putRec q m').connOf q = { v.connOf q with recs := replaceFirst (·.msn == m'.msn) (fun _ => m') (v.connOf q).recs } :=
    v.connOf_setConn ..
  have quiet : p.ackReq = false ∧ ((v.putRec q m').connOf q).sinceAck + 1 < (v.putRec q m').rd Reg.TRN_TIMERS1_ACK_COALESCE 0 := by
    rw [putConn, State.rd_of_regs (t := v.putRec q m') (s := v) rfl, kept.rd Reg.TRN_TIMERS1_ACK_COALESCE, conn]
    exact next.quiet.imp_right fun since => by rwa [same] at since
  obtain ⟨c, waits, rest⟩ := State.ackAfter_of_quiet (s := v.putRec q m') (q := q) (p := p) (by simp [putConn, conn, Conn.taking]) quiet
  rw [putConn] at rest
  have recs : c.recs = replaceFirst (·.msn == m'.msn) (fun _ => m') (v.connOf q).recs := congrArg Conn.recs rest
  have recvs : c.recvs = (s.connOf q).recvs := (congrArg Conn.recvs rest :).trans (congrArg Conn.recvs conn :)
  have all : Keeps State.noConns windowFields s v := ((counted.part State.noConns).mono (by simp +contextual [windowFields])).trans kept
  rw [waits, State.msgComplete_of_noPaths (by rw [← hm]; exact paths), State.connOf_setConn]
  refine ⟨(((all.setConn ..).setConn ..).setConn ..).setConn .., ?_, ?_, ?_⟩
  · simpa only [State.putRec, State.setConn_rd] using base
  · rw [← msn]
    refine (State.recOf_putRec (m := { m' with complete := true, flush := [] }) ?_).trans ?_
    · rw [State.recOf, State.connOf_setConn, recs, find?_replaceFirst known (by simp)]
      rfl
    · subst hm
      rfl
  · rw [State.putRec, State.connOf_setConn, State.connOf_setConn]
    exact recvs

end Window

end Sys2Proof.Machine
end

section
/-! Steps 11 and 12 of R164: the bytes of a message of one packet go to GDDR7, and its message is complete (R171, R174, R178). -/

namespace Sys2Proof.Machine

open Sys2Proof Sys2Proof.Safety

/-- What the placement of a packet's bytes writes: its work item, its count of overflowed images and the counters of the counter unit. -/
def storeFields : List Fld := [Reg.SPK_RW_OVF_COUNT] ++ workFields ++ pmcFields

/-- The bytes that a packet writes at `a` of GDDR7 (R174, R178). -/
def State.placedBytes (s : State) (p : Pkt) (a : Nat) : List Byte :=
  if p.opc = 8 then (reduceBytes p.format (reduceSize p.format) (p.payload.length + 1) (s.gddrBytes a p.payload.length) p.payload).1 else p.payload

/-- The packet of a whole message is accepted, its bytes stand at `a` of GDDR7, and its message is complete. -/
structure Places (s : State) (q : Nat) (m : MsgRec) (p : Pkt) (a : Nat) (b : List Byte) (t : State) : Prop where
  gddr : t.gddr = Mem.store s.gddr a b
  regs : SameFieldsBut (Reg.TRN_RESP_REC_IN_USE :: storeFields ++ windowFields) s t
  base : t.rd Reg.TRN_QP_T2_RCV_BASE q = (p.psn + 1) % 2 ^ 32
  record : t.recOf q m.msn = some (m.whole p)

section Placement

variable {s : State} {q ctx a : Nat} {m : MsgRec} {p : Pkt} {r : Rx}

theorem State.range_of_pass {acc : AccK} {n : Nat} (some_ : n ≠ 0) (pass : s.gddrPassAll (s.qpTenant q) ctx acc a n = true) :
    s.range q ctx true acc a n = (s, .ok [(.gddr a, a, n)]) := by
  simp [State.range, some_, pass]

/-- Bytes that go to GDDR7, whatever work item carries them. -/
theorem State.writeRange_gddr {u : User} {b : List Byte} {n : Nat} (len : b.length = n) :
    State.writeRange q ctx u [(.gddr a, a, n)] b s = ((s.gddrStore a b).pmc 13 0x51 (some (s.qpTenant q)) (linesOf a n), 0) := by
  rw [State.writeRange, State.writeRange, List.take_of_length_le len.le]

theorem State.places_placePkt (next : NextUp s q p) (opened : (s.recOf q m.msn).isSome) (full : m.len ≤ m.got + p.payload.length)
    (paths : m.paths = 0) (some_ : p.payload ≠ []) (pass : s.gddrPassAll (s.qpTenant q) ctx .write a p.payload.length = true)
    (good : p.opc = 8 → s.gddrPoisoned a p.payload.length = false) (len : (s.placedBytes p a).length = p.payload.length) :
    Places s q m p a (s.placedBytes p a) (s.placePkt q m p r ctx a true) ∧
      ((s.placePkt q m p r ctx a true).connOf q).recvs = (s.connOf q).recvs := by
  have sound : ¬(p.opc = 8 ∧ s.rangePoisoned [(.gddr a, a, p.payload.length)] = true) := by
    simpa [State.rangePoisoned] using good
  have reads : s.readRange [(.gddr a, a, p.payload.length)] r.data = s.gddrBytes a p.payload.length := by
    simp [State.readRange]
  unfold State.placePkt
  simp only [State.range_of_pass (by simpa using some_) pass, if_neg sound, reads, if_neg some_]
  have bytes : (if p.opc = 8 then reduceBytes p.format (reduceSize p.format) (p.payload.length + 1) (s.gddrBytes a p.payload.length) p.payload
      else (p.payload, 0)).1 = s.placedBytes p a := by
    rw [State.placedBytes]
    split <;> rfl
  generalize (if p.opc = 8 then reduceBytes p.format (reduceSize p.format) (p.payload.length + 1) (s.gddrBytes a p.payload.length) p.payload
    else (p.payload, 0)) = z at bytes ⊢
  have overflow : Keeps State.noClus storeFields s (if z.2 = 0 then s else s.count Reg.SPK_RW_OVF_COUNT (s.rd Reg.QP_DESC3_CLUSTER q) z.2) :=
    .ite _ (.refl ..) ((Keeps.refl State.noClus storeFields s).wr _ _ _)
  generalize (if z.2 = 0 then s else s.count Reg.SPK_RW_OVF_COUNT (s.rd Reg.QP_DESC3_CLUSTER q) z.2) = v at overflow ⊢
  have posted := overflow.trans ((v.postItem_keeps_noClus 1 q p.psn ctx a p.payload.length 0 0).mono (by simp +contextual [storeFields]))
  generalize v.postItem 1 q p.psn ctx a p.payload.length 0 0 = u at posted ⊢
  rw [bytes, State.writeRange_gddr len]
  have stored : Keeps State.conns storeFields s (u.gddrStore a (s.placedBytes p a)) :=
    (posted.part State.conns).of_eq
  have counted := (u.gddrStore a (s.placedBytes p a)).pmc_keeps 13 0x51 (some (u.qpTenant q)) (linesOf a p.payload.length)
  have gddr : (u.gddrStore a (s.placedBytes p a)).gddr = Mem.store s.gddr a (s.placedBytes p a) :=
    congrArg (Mem.store · a (s.placedBytes p a)) (posted.part State.gddr).frame
  generalize u.gddrStore a (s.placedBytes p a) = w at stored counted gddr ⊢
  have placed := stored.trans ((counted.part _).mono (by simp +contextual [storeFields]))
  have memory := (counted.part State.gddr).frame.trans gddr
  generalize w.pmc 13 0x51 (some (u.qpTenant q)) (linesOf a p.payload.length) = x at placed memory ⊢
  have same : x.connOf q = s.connOf q := congrArg (Tbl.get ({} : Conn) q) placed.frame
  obtain ⟨kept, base, record, recvs⟩ := State.finishes_msgGot (m := m) (next.of_keeps placed (by rw [same]) (by rw [same]))
    (by rwa [State.recOf, same]) full paths
  refine ⟨⟨(kept.part State.gddr).frame.trans memory, ?_, base, record⟩, recvs.trans (by rw [same])⟩
  exact SameFieldsBut.trans (placed.mono (by simp +contextual)).regs (kept.mono (by simp +contextual)).regs

/-! The record of a message of one packet (R161, R170). -/

/-- The packet is a whole message of data. -/
structure Whole (s : State) (q : Nat) (p : Pkt) : Prop where
  start : p.pktOffset = 0
  len : p.msgLen = p.payload.length
  some_ : 0 < p.payload.length
  fits : p.payload.length ≤ s.fullPkt q p.opc p.format

/-- The record that a message opens with (R170). -/
def newRecord (p : Pkt) : MsgRec :=
  { msn := p.msn, opc := p.opc, len := p.msgLen, target := p.target, rkey := p.rkey, format := p.format, imm := if p.immValid then some p.imm else none }

/-- The record `m` of the packet's message is open in `u`, which holds what `s` holds in GDDR7 and passes to it what `s` passes. -/
structure OpensRec (s : State) (q : Nat) (p : Pkt) (m : MsgRec) (u : State) : Prop where
  cells : SameCells [Reg.TRN_RESP_REC_IN_USE] s u
  gddr : u.gddr = s.gddr
  board : u.board = s.board
  next : NextUp u q p
  record : u.recOf q m.msn = some m

theorem OpensRec.kept {u : State} (h : OpensRec s q p m u) : Keeps State.gddr [Reg.TRN_RESP_REC_IN_USE] s u := h.cells.keeps h.gddr

/-- The state with the record open. -/
def State.opensRec (s : State) (q : Nat) (p : Pkt) : State :=
  (s.setConn q { s.connOf q with recs := (s.connOf q).recs ++ [newRecord p] }).inc Reg.TRN_RESP_REC_IN_USE

theorem State.msgRecord_of_whole (whole : Whole s q p) (room : s.rd Reg.TRN_RESP_REC_IN_USE 0 < 65535) (fresh : s.recOf q p.msn = none) :
    s.msgRecord q p = .opened (s.opensRec q p) (newRecord p) := by
  obtain ⟨start, len, some_, fits⟩ := whole
  have placed : s.placeOk q p = true := by simp [State.placeOk, start, len, some_, fits]
  rw [State.msgRecord, fresh]
  simp only
  rw [if_neg (by omega), if_neg (by simp [placed])]
  rfl

theorem State.opensRec_opens (next : NextUp s q p) (fresh : s.recOf q p.msn = none) : OpensRec s q p (newRecord p) (s.opensRec q p) := by
  have cells : SameCells [Reg.TRN_RESP_REC_IN_USE] s (s.opensRec q p) := by
    unfold State.opensRec
    exact ((SameCells.refl _ s).of_regs rfl).wr _ _ _
  have conn : (s.opensRec q p).connOf q = { s.connOf q with recs := (s.connOf q).recs ++ [newRecord p] } := s.connOf_setConn ..
  refine ⟨cells, rfl, rfl, next.of_keeps (cells.keeps (F := State.gddr) rfl) (by rw [conn]) (by rw [conn]), ?_⟩
  rw [State.recOf] at fresh
  rw [State.recOf, conn, List.find?_append]
  simp [newRecord, fresh]

theorem State.placedBytes_of_gddr {u : State} (same : u.gddr = s.gddr) (above : p.opc = 8 → unitBytes ≤ a) :
    u.placedBytes p a = s.placedBytes p a := by
  unfold State.placedBytes
  split
  · next opc => rw [State.gddrBytes_of_le _ (above opc), State.gddrBytes_of_le _ (above opc), same]
  · rfl

/-- The one packet of a message with an open record goes to GDDR7. -/
theorem OpensRec.places {u : State} (h : OpensRec s q p m u) (len : m.len = p.payload.length) (got : m.got = 0) (paths : m.paths = 0)
    (some_ : 0 < p.payload.length) (pass : s.gddrPassAll (s.qpTenant q) ctx .write a p.payload.length = true)
    (good : p.opc = 8 → s.gddrPoisoned a p.payload.length = false ∧ unitBytes ≤ a) (bytes : (s.placedBytes p a).length = p.payload.length) :
    Places s q m p a (s.placedBytes p a) (u.placePkt q m p r ctx a true) ∧
      ((u.placePkt q m p r ctx a true).connOf q).recvs = (u.connOf q).recvs := by
  have tenant : u.qpTenant q = s.qpTenant q := h.kept.rd Reg.QP_DESC0_TENANT q
  have same : u.placedBytes p a = s.placedBytes p a := State.placedBytes_of_gddr h.gddr fun opc => (good opc).2
  obtain ⟨⟨gddr, regs, base, record⟩, recvs⟩ := State.places_placePkt (r := r) (ctx := ctx) (a := a) h.next (by rw [h.record]; rfl) (by omega) paths
    (List.ne_nil_of_length_pos some_) (by rw [tenant, h.cells.gddrPassAll]; exact pass)
    (fun opc => by rw [State.gddrPoisoned, h.board]; exact (good opc).1) (by rw [same]; exact bytes)
  rw [same, h.gddr] at gddr
  exact ⟨⟨gddr, SameFieldsBut.trans (h.kept.mono (by simp)).regs regs, base, record⟩, recvs⟩

/-! WRITE, WRITE_IMM and REDUCE_WRITE (R174, R178, R180). -/

/-- The fields that the region check reads (R179, R180). -/
def checkFields : List Fld := [Reg.TRN_REG_D0_VALID, Reg.TRN_REG_D0_GENERATION, Reg.TRN_REG_D0_REVOKED, Reg.TRN_REG_D0_TENANT, Reg.TRN_REG_D2_QP_BIND_EN,
  Reg.TRN_REG_D2_QP_BIND, Reg.TRN_REG_D0_RIGHTS, Reg.TRN_REG_D2_LENGTH, Reg.TRN_REG_D1_BASE, Reg.TRN_REG_D0_CONTEXT, Reg.QP_DESC0_TENANT]

theorem State.regionCheck_of_keeps {α : Type} {F : State → α} {l : List Fld} {t : State} {rkey target len right : Nat} {aligned : Bool}
    (kept : Keeps F l s t) (apart : ∀ f ∈ checkFields, ∀ g ∈ l, f.key ≠ g.key := by decide) :
    t.regionCheck q rkey target len right aligned = s.regionCheck q rkey target len right aligned := by
  have same (f : Fld) (i : Nat) (hf : f ∈ checkFields) : t.rd f i = s.rd f i := kept.regs f i (apart f hf)
  unfold State.regionCheck State.on State.qpTenant
  dsimp only
  rw [same Reg.TRN_REG_D0_VALID _ (by simp [checkFields]), same Reg.TRN_REG_D0_GENERATION _ (by simp [checkFields]),
    same Reg.TRN_REG_D0_REVOKED _ (by simp [checkFields]), same Reg.TRN_REG_D0_TENANT _ (by simp [checkFields]),
    same Reg.TRN_REG_D2_QP_BIND_EN _ (by simp [checkFields]), same Reg.TRN_REG_D2_QP_BIND _ (by simp [checkFields]),
    same Reg.TRN_REG_D0_RIGHTS _ (by simp [checkFields]), same Reg.TRN_REG_D2_LENGTH _ (by simp [checkFields]),
    same Reg.TRN_REG_D1_BASE _ (by simp [checkFields]), same Reg.TRN_REG_D0_CONTEXT _ (by simp [checkFields]),
    same Reg.QP_DESC0_TENANT _ (by simp [checkFields])]

theorem nextUp_of_inOrder (h : InOrder s p) : NextUp s p.dstQp p := ⟨⟨h.psn.1, h.psn.2.1⟩, h.psn.2.2.1, h.quiet⟩

/-- A WRITE of one packet goes to its region. -/
theorem State.places_newWrite {right : Nat} (ord : InOrder s p) (whole : Whole s p.dstQp p)
    (region : s.regionCheck p.dstQp p.rkey p.target p.msgLen right (p.opc != 8 || reduceAligned p.format p.target p.msgLen) = .ok a ctx true)
    (pass : s.gddrPassAll (s.qpTenant p.dstQp) ctx .write a p.payload.length = true)
    (good : p.opc = 8 → s.gddrPoisoned a p.payload.length = false ∧ unitBytes ≤ a) (bytes : (s.placedBytes p a).length = p.payload.length) :
    Places s p.dstQp (newRecord p) p a (s.placedBytes p a) (s.newWrite right p r) := by
  have opens := State.opensRec_opens (nextUp_of_inOrder ord) ord.room.2
  have runs : s.newWrite right p r = (s.opensRec p.dstQp p).placePkt p.dstQp (newRecord p) p r ctx a true := by
    unfold State.newWrite
    simp only [State.msgRecord_of_whole whole ord.room.1 ord.room.2]
    rw [State.regionCheck_of_keeps opens.kept, region]
    simp only [whole.start, Nat.add_zero]
  rw [runs]
  exact (opens.places whole.len rfl rfl whole.some_ pass good bytes).1

/-! SEND (R175). -/

theorem State.opens_takeRecv {u : State} {rv : Recv} (h : OpensRec s q p m u) :
    OpensRec s q p { m with recv := some rv } (u.takeRecv q m rv).1 ∧
      ((u.takeRecv q m rv).1.connOf q).recvs = dropFirst (·.ssn == rv.ssn) (u.connOf q).recvs := by
  obtain ⟨cells, gddr, board, next, record⟩ := h
  have put : (u.putRec q { m with recv := some rv }).recOf q m.msn = some { m with recv := some rv } :=
    State.recOf_putRec (m := { m with recv := some rv }) (by rw [record]; rfl)
  have conn : (u.takeRecv q m rv).1.connOf q = { (u.putRec q { m with recv := some rv }).connOf q with
      recvs := dropFirst (·.ssn == rv.ssn) ((u.putRec q { m with recv := some rv }).connOf q).recvs } := State.connOf_setConn ..
  have putConn : (u.putRec q { m with recv := some rv }).connOf q = { u.connOf q with
      recs := replaceFirst (·.msn == m.msn) (fun _ => { m with recv := some rv }) (u.connOf q).recs } := State.connOf_setConn ..
  refine ⟨⟨cells.of_regs rfl, gddr, board, ?_, ?_⟩, ?_⟩
  · exact next.of_keeps (F := State.gddr) (l := []) ((Keeps.refl ..).of_eq rfl rfl) (by rw [conn, putConn]) (by rw [conn, putConn])
  · rw [← put]
    exact State.recOf_of_recs (by rw [conn])
  · rw [conn, putConn]

/-- A SEND of one packet goes to the receive that its SSN names, and takes it. -/
theorem State.places_newSend {rv : Recv} (ord : InOrder s p) (opc : p.opc = 1) (whole : Whole s p.dstQp p) (recvs : (s.connOf p.dstQp).recvs = [rv])
    (ssn : rv.ssn = p.target % 2 ^ 32) (fits : p.payload.length ≤ rv.len) (win : rv.localWin = true)
    (pass : s.gddrPassAll (s.qpTenant p.dstQp) (s.rd Reg.QP_DESC0_CONTEXT p.dstQp) .write rv.laddr p.payload.length = true) :
    Places s p.dstQp { newRecord p with recv := some rv } p rv.laddr p.payload (s.newSend p r) ∧ ((s.newSend p r).connOf p.dstQp).recvs = [] := by
  have opens := State.opensRec_opens (nextUp_of_inOrder ord) ord.room.2
  have conn : ((s.opensRec p.dstQp p).connOf p.dstQp).recvs = [rv] := (congrArg Conn.recvs (s.connOf_setConn ..)).trans recvs
  obtain ⟨taken, left⟩ := State.opens_takeRecv (rv := rv) opens
  have runs : s.newSend p r = ((s.opensRec p.dstQp p).takeRecv p.dstQp (newRecord p) rv).1.placePkt p.dstQp { newRecord p with recv := some rv } p r
      (s.rd Reg.QP_DESC0_CONTEXT p.dstQp) rv.laddr true := by
    have unmatched : (newRecord p).recv = none := rfl
    unfold State.newSend
    simp only [State.msgRecord_of_whole whole ord.room.1 ord.room.2, recvs, unmatched]
    rw [List.find?_cons_of_pos (by simpa using ssn)]
    simp only
    rw [if_neg (by rw [whole.len]; omega), win, whole.start, taken.kept.rd Reg.QP_DESC0_CONTEXT]
    rfl
  have bytes : s.placedBytes p rv.laddr = p.payload := by rw [State.placedBytes, if_neg (by omega)]
  obtain ⟨places, rest⟩ := taken.places (r := r) whole.len rfl rfl whole.some_ pass (by omega) (congrArg List.length bytes)
  rw [runs]
  refine ⟨bytes ▸ places, rest.trans (left.trans ?_)⟩
  rw [conn]
  simp [dropFirst]

end Placement

end Sys2Proof.Machine
end

section
/-! Steps 9 to 12 of R164 for a READ_REQ (R176), an atomic (R177) and the elements of a REDUCE_WRITE (R178). -/

namespace Sys2Proof.Machine

open Sys2Proof Sys2Proof.Safety

/-! The elements of a REDUCE_WRITE (R178). -/

/-- Whole elements are written over what they are added to. -/
theorem length_reduceBytes (fmt k n : Nat) (old add : List Byte) (div : k ∣ add.length) (enough : add.length ≤ k * n) :
    (reduceBytes fmt k n old add).1.length = add.length := by
  induction n generalizing old add with
  | zero => simpa [reduceBytes, eq_comm] using enough
  | succ n ih =>
    rw [reduceBytes]
    split
    · next none_ => rw [none_]
    · next some_ =>
      have fits : k ≤ add.length := Nat.le_of_dvd (List.length_pos_iff.2 some_) div
      have rest := ih (old.drop k) (add.drop k) (by rw [List.length_drop]; exact Nat.dvd_sub div (dvd_refl k))
        (by rw [List.length_drop]; rw [Nat.mul_succ] at enough; omega)
      simp only [List.length_append, length_leBytes, rest, List.length_drop]
      omega

/-- A region check that passes has found its operands aligned. -/
theorem State.aligned_of_regionCheck {s : State} {q rkey target len right a ctx : Nat} {aligned win : Bool}
    (h : s.regionCheck q rkey target len right aligned = .ok a ctx win) : aligned = true := by
  cases aligned with
  | true => rfl
  | false =>
    unfold State.regionCheck at h
    dsimp only at h
    repeat' split at h
    all_goals simp_all

theorem length_placedBytes {s : State} {p : Pkt} {a : Nat} (aligned : p.opc = 8 → reduceAligned p.format p.target p.payload.length = true) :
    (s.placedBytes p a).length = p.payload.length := by
  unfold State.placedBytes
  split
  · next opc =>
    obtain ⟨⟨pos, div⟩, -⟩ : (reduceSize p.format ≠ 0 ∧ p.payload.length % reduceSize p.format = 0) ∧ _ := by
      simpa [reduceAligned] using aligned opc
    refine length_reduceBytes _ _ _ _ _ (Nat.dvd_of_mod_eq_zero div) ?_
    exact (Nat.le_succ _).trans (Nat.le_mul_of_pos_left _ (Nat.pos_of_ne_zero pos))
  · rfl

section Requests

variable {s : State} {p : Pkt} {r : Rx} {g ctx port : Nat}

/-! READ_REQ (R176). -/

/-- The range of a READ_REQ as it waits to be read and sent. -/
def rangeOf (p : Pkt) (g ctx : Nat) : Pkt := { p with target := g, op0 := ctx, op1 := 1, pktOffset := p.rangeOffset }

/-- A READ_REQ is accepted, and its range waits to be read and sent. -/
theorem State.newReadReq_of_inOrder (ord : InOrder s p) (region : s.regionCheck p.dstQp p.rkey p.target p.msgLen 0 true = .ok g ctx true)
    (within : p.rangeOffset + p.rangeLen ≤ p.msgLen) (some_ : p.rangeLen ≠ 0) :
    let t := s.newReadReq p
    SameFieldsBut (windowFields ++ workFields) s t ∧ t.rd Reg.TRN_QP_T2_RCV_BASE p.dstQp = (p.psn + 1) % 2 ^ 32 ∧ t.gddr = s.gddr ∧
      (t.connOf p.dstQp).respQ = (s.connOf p.dstQp).respQ ++ [rangeOf p g ctx] := by
  have next := nextUp_of_inOrder ord
  obtain ⟨⟨kept, base, -⟩, conn⟩ := State.markPsn_of_next next false
  have room := ord.room.1
  unfold State.newReadReq
  dsimp only
  rw [if_neg (by omega), if_neg (by omega), region]
  simp only [if_neg some_]
  generalize s.markPsn p.dstQp p.psn false = u at kept base conn ⊢
  generalize hc : ({ u.connOf p.dstQp with
    respQ := (u.connOf p.dstQp).respQ ++ [{ p with target := g, op0 := ctx, op1 := b2n true, pktOffset := p.rangeOffset }] } : Conn) = c
  have posted := (u.setConn p.dstQp c).postItem_keeps_noClus 2 p.dstQp p.psn ctx (g + p.rangeOffset) p.rangeLen 0 0
  generalize (u.setConn p.dstQp c).postItem 2 p.dstQp p.psn ctx (g + p.rangeOffset) p.rangeLen 0 0 = v at posted ⊢
  have conn' : v.connOf p.dstQp = c := (posted.connOf _).trans (State.connOf_setConn ..)
  have all : Keeps State.gddr (windowFields ++ workFields) s v := ((kept.setConn p.dstQp c).part State.gddr).mono (by simp +contextual) |>.trans
    ((posted.part State.gddr).mono (by simp +contextual))
  have since : p.ackReq = false ∧ (v.connOf p.dstQp).sinceAck + 1 < v.rd Reg.TRN_TIMERS1_ACK_COALESCE 0 := by
    rw [conn', ← hc, all.rd Reg.TRN_TIMERS1_ACK_COALESCE, conn]
    exact next.quiet
  obtain ⟨d, waits, rest⟩ := State.ackAfter_of_quiet (s := v) (q := p.dstQp) (p := p) (by rw [conn', ← hc, conn]; simp [Conn.taking]) since
  rw [waits]
  refine ⟨(all.of_eq (u := v.setConn p.dstQp d)).regs, ?_, all.frame, ?_⟩
  · rw [State.setConn_rd, posted.rd Reg.TRN_QP_T2_RCV_BASE, State.setConn_rd, base]
  · rw [State.connOf_setConn]
    refine (congrArg Conn.respQ rest :).trans ?_
    rw [conn', ← hc, conn]
    rfl

/-! Atomics (R177). -/

/-- What an atomic at the GDDR7 controller writes. -/
def atomicFields : List Fld := windowFields ++ sendFields

/-- An atomic of the window replaces its 8 bytes of GDDR7, keeps the old ones and returns them. -/
theorem State.newAtomic_of_inOrder (ord : InOrder s p) (region : s.regionCheck p.dstQp p.rkey p.target 8 2 (p.target % 8 == 0) = .ok g ctx true)
    (pass : s.gddrPassAll (s.qpTenant p.dstQp) ctx .atomic g 8 = true) (good : s.gddrPoisoned g 8 = false)
    (kept16 : (s.connOf p.dstQp).atomics.length < 16) (send : CanSend s p.dstQp port) :
    let t := s.newAtomic p r
    SameFieldsBut atomicFields s t ∧ t.rd Reg.TRN_QP_T2_RCV_BASE p.dstQp = (p.psn + 1) % 2 ^ 32 ∧
      t.gddr = Mem.store s.gddr g (leBytes 8 (atomicNew p.opc (Mem.nat s.gddr g 8) p.op0 p.op1)) ∧
      (t.connOf p.dstQp).atomics = (s.connOf p.dstQp).atomics ++ [(p.psn, Mem.nat s.gddr g 8)] := by
  have next := nextUp_of_inOrder ord
  have room := ord.room.1
  unfold State.newAtomic
  dsimp only
  rw [if_neg (by omega), region]
  simp only [State.range_of_pass (by decide) pass, good, Bool.false_eq_true, if_false]
  generalize Mem.nat s.gddr g 8 = old
  generalize leBytes 8 (atomicNew p.opc old p.op0 p.op1) = b
  have stored : Keeps State.conns pmcFields s (((s.gddrStore g b).pmc 13 0x50 (some (s.qpTenant p.dstQp))).pmc 13 0x51 (some (s.qpTenant p.dstQp))) :=
    (((Keeps.refl State.conns pmcFields s).of_eq (u := s.gddrStore g b)).pmc _ _ _ _ (by simp)).pmc _ _ _ _ (by simp)
  have memory : Keeps State.gddr pmcFields (s.gddrStore g b)
      (((s.gddrStore g b).pmc 13 0x50 (some (s.qpTenant p.dstQp))).pmc 13 0x51 (some (s.qpTenant p.dstQp))) :=
    ((Keeps.refl ..).pmc _ _ _ _ (by simp)).pmc _ _ _ _ (by simp)
  generalize ((s.gddrStore g b).pmc 13 0x50 (some (s.qpTenant p.dstQp))).pmc 13 0x51 (some (s.qpTenant p.dstQp)) = u at stored memory ⊢
  have same : u.connOf p.dstQp = s.connOf p.dstQp := congrArg (Tbl.get ({} : Conn) p.dstQp) stored.frame
  have next := next.of_keeps stored (by rw [same]) (by rw [same])
  obtain ⟨⟨kept, base, -⟩, conn⟩ := State.markPsn_of_next next false
  generalize u.markPsn p.dstQp p.psn false = v at kept base conn ⊢
  have since : p.ackReq = false ∧ (v.connOf p.dstQp).sinceAck + 1 < v.rd Reg.TRN_TIMERS1_ACK_COALESCE 0 := by
    rw [kept.rd Reg.TRN_TIMERS1_ACK_COALESCE, conn]
    exact next.quiet
  obtain ⟨c, waits, rest⟩ := State.ackAfter_of_quiet (s := v) (q := p.dstQp) (p := p) (by rw [conn]; simp [Conn.taking]) since
  have atomics : c.atomics = (s.connOf p.dstQp).atomics := by
    rw [← same]
    exact (congrArg Conn.atomics rest :).trans (congrArg Conn.atomics conn :)
  rw [waits, State.atomicDone, State.connOf_setConn]
  simp only [atomics, List.length_append, List.length_singleton]
  rw [if_neg (by omega)]
  generalize hd : ({ c with atomics := (s.connOf p.dstQp).atomics ++ [(p.psn, old)] } : Conn) = d
  have taken : Keeps State.conns windowFields s u := stored.mono (by simp +contextual [windowFields])
  have window : SameFieldsBut windowFields s ((v.setConn p.dstQp c).setConn p.dstQp d) :=
    SameFieldsBut.trans taken.regs ((kept.setConn p.dstQp c).setConn p.dstQp d).regs
  have sends := State.ctlSent_of_canSend (canSend_of_keeps (F := fun _ => ()) send ⟨rfl, window⟩)
    { ((v.setConn p.dstQp c).setConn p.dstQp d).hdr p.dstQp 0x12 p.psn p.msn with old } false
  have conn' : ((v.setConn p.dstQp c).setConn p.dstQp d).connOf p.dstQp = d := State.connOf_setConn ..
  refine ⟨?_, ?_, ?_, ?_⟩
  · have before := Keeps.mono (m := atomicFields) ⟨rfl, window⟩ (F := fun _ => ()) (by simp +contextual [atomicFields])
    exact SameFieldsBut.trans before.regs (sends.kept.mono (by simp +contextual [atomicFields])).regs
  · rw [sends.kept.rd Reg.TRN_QP_T2_RCV_BASE, State.setConn_rd, State.setConn_rd, base]
  · exact (sends.kept.part State.gddr).frame.trans ((kept.part State.gddr).frame.trans memory.frame)
  · rw [sends.connOf, conn', ← hd]

end Requests

end Sys2Proof.Machine
end

section
/-! Packets that the transport takes (R164 to R180). -/

namespace Sys2Proof.Machine

open Sys2Proof Sys2Proof.Safety

/-- The packet is taken: RCV_BASE goes past it, and it is counted (R164, R165). -/
def PktTaken (s : State) (p : Pkt) (t : State) : Prop :=
  t.rd Reg.TRN_QP_T2_RCV_BASE p.dstQp = (p.psn + 1) % 2 ^ 32 ∧ t.rd Reg.TRN_RX_PKTS_COUNT 0 = satAdd 64 (s.rd Reg.TRN_RX_PKTS_COUNT 0) 1

/-- The packet's bytes stand at `a` and nothing else of GDDR7 changes; its message is complete, with no flush to wait for (R164, R171). -/
def Landed (s : State) (p : Pkt) (a : Nat) (b : List Byte) (t : State) : Prop :=
  (∀ k < p.payload.length, Mem.rd t.gddr (a + k) = b.getD k 0) ∧ SameGddrBut a p.payload.length s t ∧
    ∃ m, t.recOf p.dstQp p.msn = some m ∧ m.complete = true ∧ m.flush = [] ∧ m.got = p.payload.length ∧ m.lastPsn = p.psn

theorem Mem.rd_store_getD (m : Mem) (a k : Nat) (b : List Byte) (h : k < b.length) : Mem.rd (Mem.store m a b) (a + k) = b.getD k 0 := by
  rw [Mem.rd_store_of_mem _ _ _ _ h]
  simp [h]

section Taken

variable {s u t : State} {p : Pkt} {r : Rx} {m : MsgRec} {a ctx port : Nat} {b : List Byte}

/-- A state that follows on an entered one counts the packet, where the fields of the window's steps stay apart from the count. -/
theorem Entered.took {l : List Fld} (enter : Entered s p.dstQp u) (base : t.rd Reg.TRN_QP_T2_RCV_BASE p.dstQp = (p.psn + 1) % 2 ^ 32)
    (regs : SameFieldsBut l u t) (apart : ∀ g ∈ l, Reg.TRN_RX_PKTS_COUNT.key ≠ g.key := by decide) : PktTaken s p t :=
  ⟨base, (regs _ 0 apart).trans enter.heard⟩

theorem Entered.gddr (enter : Entered s p.dstQp u) : u.gddr = s.gddr := (enter.kept.part State.gddr).frame

theorem Entered.board (enter : Entered s p.dstQp u) : u.board = s.board := (enter.kept.part State.board).frame

theorem Entered.whole (enter : Entered s p.dstQp u) (whole : Whole s p.dstQp p) : Whole u p.dstQp p := by
  obtain ⟨start, len, some_, fits⟩ := whole
  refine ⟨start, len, some_, ?_⟩
  rwa [State.fullPkt, State.mtu, enter.kept.rd Reg.TRN_QP_T0_MTU]

theorem Places.landed (h : Places u p.dstQp m p a b t) (enter : Entered s p.dstQp u) (msn : m.msn = p.msn) (got : m.got = 0)
    (len : b.length = p.payload.length) : Landed s p a b t := by
  have memory := h.gddr
  rw [enter.gddr] at memory
  refine ⟨fun k hk => ?_, fun x hx => ?_, m.whole p, msn ▸ h.record, rfl, rfl, ?_, rfl⟩
  · rw [memory, Mem.rd_store_getD _ _ _ _ (len ▸ hk)]
  · rw [memory, Mem.rd_store_of_lt _ _ _ _ (len ▸ hx)]
  · rw [MsgRec.whole, got, Nat.zero_add]

/-- A WRITE, WRITE_IMM or REDUCE_WRITE of one packet lands in its region. -/
theorem Entered.newWrite {right : Nat} (enter : Entered s p.dstQp u) (ord : InOrder u p) (whole : Whole s p.dstQp p)
    (region : s.regionCheck p.dstQp p.rkey p.target p.payload.length right (p.opc != 8 || reduceAligned p.format p.target p.payload.length) =
      .ok a ctx true)
    (pass : s.gddrPassAll (s.qpTenant p.dstQp) ctx .write a p.payload.length = true)
    (good : p.opc = 8 → s.gddrPoisoned a p.payload.length = false ∧ unitBytes ≤ a) :
    PktTaken s p (u.newWrite right p r) ∧ Landed s p a (s.placedBytes p a) (u.newWrite right p r) ∧
      (u.newWrite right p r).recOf p.dstQp p.msn = some ((newRecord p).whole p) := by
  have aligned : p.opc = 8 → reduceAligned p.format p.target p.payload.length = true := fun opc => by
    simpa [opc] using State.aligned_of_regionCheck region
  have len : (s.placedBytes p a).length = p.payload.length := length_placedBytes aligned
  have same : u.placedBytes p a = s.placedBytes p a := State.placedBytes_of_gddr enter.gddr fun opc => (good opc).2
  have places := State.places_newWrite (r := r) (right := right) (a := a) (ctx := ctx) ord (enter.whole whole)
    (by rw [State.regionCheck_of_keeps enter.kept, whole.len]; exact region)
    (by rw [enter.cells.gddrPassAll, State.qpTenant, enter.kept.rd Reg.QP_DESC0_TENANT]; exact pass)
    (fun opc => by rw [State.gddrPoisoned, enter.board]; exact good opc) (same ▸ len)
  rw [same] at places
  exact ⟨enter.took places.base places.regs, places.landed enter rfl rfl len, places.record⟩

/-- A SEND of one packet lands in the receive that its SSN names, and takes it. -/
theorem Entered.newSend {rv : Recv} (enter : Entered s p.dstQp u) (ord : InOrder u p) (opc : p.opc = 1) (whole : Whole s p.dstQp p)
    (recvs : (s.connOf p.dstQp).recvs = [rv]) (ssn : rv.ssn = p.target % 2 ^ 32) (fits : p.payload.length ≤ rv.len) (win : rv.localWin = true)
    (pass : s.gddrPassAll (s.qpTenant p.dstQp) (s.rd Reg.QP_DESC0_CONTEXT p.dstQp) .write rv.laddr p.payload.length = true) :
    PktTaken s p (u.newSend p r) ∧ Landed s p rv.laddr p.payload (u.newSend p r) ∧ ((u.newSend p r).connOf p.dstQp).recvs = [] := by
  obtain ⟨places, taken⟩ := State.places_newSend (r := r) ord opc (enter.whole whole) (by rw [enter.conn]; exact recvs) ssn fits win
    (by rw [enter.cells.gddrPassAll, State.qpTenant, enter.kept.rd Reg.QP_DESC0_TENANT, enter.kept.rd Reg.QP_DESC0_CONTEXT]; exact pass)
  exact ⟨enter.took places.base places.regs, places.landed enter rfl rfl rfl, taken⟩

theorem Entered.newReadReq (enter : Entered s p.dstQp u) (ord : InOrder u p)
    (region : s.regionCheck p.dstQp p.rkey p.target p.msgLen 0 true = .ok a ctx true) (within : p.rangeOffset + p.rangeLen ≤ p.msgLen)
    (some_ : p.rangeLen ≠ 0) :
    PktTaken s p (u.newReadReq p) ∧ SameGddr s (u.newReadReq p) ∧
      ((u.newReadReq p).connOf p.dstQp).respQ = (s.connOf p.dstQp).respQ ++ [rangeOf p a ctx] := by
  obtain ⟨regs, base, gddr, waits⟩ := State.newReadReq_of_inOrder ord (by rw [State.regionCheck_of_keeps enter.kept]; exact region) within some_
  refine ⟨enter.took base regs, fun x => by rw [gddr, enter.gddr], ?_⟩
  rw [waits, enter.conn]

/-- An atomic at the GDDR7 controller replaces its 8 bytes. -/
theorem Entered.newAtomic {new : Nat} (enter : Entered s p.dstQp u) (ord : InOrder u p)
    (region : s.regionCheck p.dstQp p.rkey p.target 8 2 (p.target % 8 == 0) = .ok a ctx true)
    (pass : s.gddrPassAll (s.qpTenant p.dstQp) ctx .atomic a 8 = true) (good : s.gddrPoisoned a 8 = false)
    (kept16 : (s.connOf p.dstQp).atomics.length < 16) (send : CanSend s p.dstQp port)
    (stores : atomicNew p.opc (Mem.nat s.gddr a 8) p.op0 p.op1 % 2 ^ 64 = new) :
    PktTaken s p (u.newAtomic p r) ∧ Mem.nat (u.newAtomic p r).gddr a 8 = new ∧ SameGddrBut a 8 s (u.newAtomic p r) ∧
      ((u.newAtomic p r).connOf p.dstQp).atomics = (s.connOf p.dstQp).atomics ++ [(p.psn, Mem.nat s.gddr a 8)] := by
  obtain ⟨regs, base, gddr, keeps⟩ := State.newAtomic_of_inOrder (r := r) (port := port) ord
    (by rw [State.regionCheck_of_keeps enter.kept]; exact region)
    (by rw [enter.cells.gddrPassAll, State.qpTenant, enter.kept.rd Reg.QP_DESC0_TENANT]; exact pass)
    (by rw [State.gddrPoisoned, enter.board]; exact good) (by rw [enter.conn]; exact kept16) (canSend_of_keeps send enter.kept)
  rw [enter.gddr] at gddr keeps
  refine ⟨enter.took base regs, ?_, fun x hx => ?_, by rw [keeps, enter.conn]⟩
  · rw [gddr, Mem.nat_store_leBytes, ← stores, show 256 ^ 8 = 2 ^ 64 by norm_num]
  · rw [gddr, Mem.rd_store_of_lt _ _ _ _ (by simpa using hx)]

/-! A packet with a bad checksum (R164 step 1). -/

theorem State.writes_badHdr (bad : r.csumOk = false) (unmetered : s.meterFor (s.qpTenant p.dstQp) p.tc = none) :
    Writes [(Reg.TRN_RX_PKTS_COUNT, 0, satAdd 64 (s.rd Reg.TRN_RX_PKTS_COUNT 0) 1),
      (Reg.TRN_BAD_HDR_COUNT, 0, satAdd 64 (s.rd Reg.TRN_BAD_HDR_COUNT 0) 1)] s (s.rxPacket p r) := by
  have metered : s.meter (s.qpTenant p.dstQp) p = (s, true) := by rw [State.meter, unmetered]
  have runs : s.rxPacket p r = s.heard.count Reg.TRN_BAD_HDR_COUNT := by
    have head : s.rxHead p r = (s.heard.count Reg.TRN_BAD_HDR_COUNT, false) := by
      unfold State.rxHead
      simp [metered, State.heard, bad]
    rw [State.rxPacket, head]
    rfl
  have same : s.heard.rd Reg.TRN_BAD_HDR_COUNT 0 = s.rd Reg.TRN_BAD_HDR_COUNT 0 := State.rd_wr_of_key _ _ _ _ _ _ (by decide)
  rw [runs]
  refine ⟨?_, ?_, rfl⟩
  · simp only [List.forall_mem_cons]
    refine ⟨(State.rd_wr_of_key _ _ _ _ _ _ (by decide)).trans s.rd_heard, ?_, by simp⟩
    rw [State.count_eq, State.rd_wr_self, same]
    exact Nat.mod_eq_of_lt (satAdd_lt ..)
  · exact ((SameRegsBut.refl _ s).wr _ _ _ (by simp)).wr _ _ _ (by simp)

/-! The commands. -/

/-- The steps of an opcode, for a packet that passes those before. -/
theorem does_of_rxPacket {k : Instr} {P : State → Prop} (runs : exec k s = .next (s.rxPacket p r)) (adm : Admitted s p r) (ord : InOrder s p)
    (known : knownOpc p.opc = true) (takes : ∀ u, Entered s p.dstQp u → InOrder u p → P (u.newPacket p r)) : Does k s P := by
  obtain ⟨u, same, enter, next⟩ := State.rxPacket_of_inOrder adm ord known
  exact ⟨_, runs, same ▸ takes u enter next⟩

theorem State.newPacket_of_inOrder (ord : InOrder s p) : s.newPacket p r = match p.opc with
    | 1 => s.newSend p r
    | 2 => s.newWrite 1 p r
    | 3 => s.newWrite 1 p r
    | 4 => s.newReadReq p
    | 6 => s.newAtomic p r
    | 7 => s.newAtomic p r
    | 8 => s.newWrite 3 p r
    | _ => s := by
  rw [State.newPacket, State.steer_isNone_of_inOrder ord]
  rfl

/-- A packet keeps what admits it and its place in order under another opcode. -/
theorem admitted_as (h : Admitted s p r) (k : Nat) (v : Bool) : Admitted s { p with opc := k, immValid := v } r := ⟨h.head, h.open_, h.auth, h.peer⟩

theorem inOrder_as (h : InOrder s p) (k : Nat) (v : Bool) : InOrder s { p with opc := k, immValid := v } := ⟨h.psn, h.quiet, h.room, h.served⟩

theorem atomicNew_add (old op0 op1 : Nat) : atomicNew 6 old op0 op1 % 2 ^ 64 = (old + op0) % 2 ^ 64 := by simp [atomicNew]

theorem atomicNew_swap {old : Nat} (h : old < 256 ^ 8) (op0 op1 : Nat) :
    atomicNew 7 old op0 op1 % 2 ^ 64 = if old = op0 then op1 % 2 ^ 64 else old := by
  have fits : old % 2 ^ 64 = old := Nat.mod_eq_of_lt h
  rw [atomicNew, if_neg (by decide), apply_ite (· % 2 ^ 64), fits]

end Taken

end Sys2Proof.Machine

open Sys2Proof Sys2Proof.Machine Sys2Proof.Safety

/-- Settles O38: an admitted packet that is the next in order takes the steps of its opcode. -/
theorem transportReceives : Obligations.TransportReceives := by
  unfold Obligations.TransportReceives
  intro s p r rv g ctx port q n ten took placed whole region atomic
  refine ⟨fun adm ord => ⟨?send, ?write, ?writeImm, ?reduce, ?read, ?fetchAdd, ?compareSwap⟩, fun bad unmetered => ?badSum⟩
  case send =>
    rintro ⟨start, len, some_, fits⟩ recvs ssn room win pass
    refine does_of_rxPacket (p := { p with opc := 1 }) rfl (admitted_as adm 1 _) (inOrder_as ord 1 _) rfl fun u enter next => ?_
    rw [State.newPacket_of_inOrder next]
    exact enter.newSend next rfl ⟨start, len, some_, fits⟩ recvs ssn room win pass
  case write =>
    rintro ⟨start, len, some_, fits⟩ ⟨region, pass⟩
    refine does_of_rxPacket (p := { p with opc := 2 }) rfl (admitted_as adm 2 _) (inOrder_as ord 2 _) rfl fun u enter next => ?_
    rw [State.newPacket_of_inOrder next]
    obtain ⟨taken, landed, -⟩ := enter.newWrite (r := r) (right := 1) next ⟨start, len, some_, fits⟩ region (pass (by decide)) (fun e => nomatch e)
    exact ⟨taken, landed⟩
  case writeImm =>
    rintro ⟨start, len, some_, fits⟩ ⟨region, pass⟩
    refine does_of_rxPacket (p := { p with opc := 3, immValid := true }) rfl (admitted_as adm 3 true) (inOrder_as ord 3 true) rfl fun u enter next => ?_
    rw [State.newPacket_of_inOrder next]
    obtain ⟨taken, landed, record⟩ :=
      enter.newWrite (r := r) (right := 1) next ⟨start, len, some_, fits⟩ region (pass (by decide)) (fun e => nomatch e)
    exact ⟨taken, landed, _, record, rfl⟩
  case reduce =>
    rintro ⟨start, len, some_, fits⟩ ⟨region, pass⟩ good above
    refine does_of_rxPacket (p := { p with opc := 8 }) rfl (admitted_as adm 8 _) (inOrder_as ord 8 _) rfl fun u enter next => ?_
    rw [State.newPacket_of_inOrder next]
    obtain ⟨taken, landed, -⟩ :=
      enter.newWrite (r := r) (right := 3) next ⟨start, len, some_, fits⟩ region (pass (by decide)) (fun _ => ⟨good, above⟩)
    rw [State.placedBytes, if_pos rfl, State.gddrBytes_of_le _ above] at landed
    exact ⟨taken, landed⟩
  case read =>
    rintro ⟨region, -⟩ within some_
    refine does_of_rxPacket (p := { p with opc := 4 }) rfl (admitted_as adm 4 _) (inOrder_as ord 4 _) rfl fun u enter next => ?_
    rw [State.newPacket_of_inOrder next]
    exact enter.newReadReq next region within some_
  case fetchAdd =>
    rintro ⟨region, pass⟩ good kept16 send
    refine does_of_rxPacket (p := { p with opc := 6 }) rfl (admitted_as adm 6 _) (inOrder_as ord 6 _) rfl fun u enter next => ?_
    rw [State.newPacket_of_inOrder next]
    exact enter.newAtomic next region (pass (by decide)) good kept16 send (atomicNew_add ..)
  case compareSwap =>
    rintro ⟨region, pass⟩ good kept16 send
    refine does_of_rxPacket (p := { p with opc := 7 }) rfl (admitted_as adm 7 _) (inOrder_as ord 7 _) rfl fun u enter next => ?_
    rw [State.newPacket_of_inOrder next]
    exact enter.newAtomic next region (pass (by decide)) good kept16 send (atomicNew_swap (Mem.nat_lt ..) ..)
  case badSum => exact ⟨_, rfl, State.writes_badHdr (p := { p with opc := 1 }) bad unmetered⟩
end

section
/-! The end of an operation (R76, R118, R121, R160): what it changes, whatever ring it goes to, and how the only operation of a queue pair ends. -/

namespace Sys2Proof.Machine

open Sys2Proof Sys2Proof.Safety

/-- The state but for its registers, its near ports, what has left it, the submission side of its queue pairs and its completion rings. -/
def State.noEnds (s : State) : State := { s with regs := [], near := [], out := [], sqs := [], cqs := [] }

/-- What the flushes of a completion write (R76). -/
def flushFields : List Fld := Reg.CQ_FLUSH_COUNT_COUNT :: pmcFields

/-- What the end of an operation writes. -/
def closeFields : List Fld := [Reg.QP_BAD_ENTRY_COUNT, Reg.CQ_PEND_PENDING, Reg.CQ_POS_WRITTEN] ++ outFields ++ flushFields

section Ends

variable {s : State} {q : Nat}

/-! A request on a near link (R60, R71). -/

theorem State.rouse_keeps (s : State) (p : Nat) : Keeps State.noLink pmcFields s (s.rouse p) := .ite _ (Keeps.refl ..).of_eq (.refl ..)

theorem State.launchNp_keeps (s : State) (p : Nat) (r : NpReq) : Keeps State.noLink pmcFields s (s.launchNp p r) := by
  have placed (n : Near) : Keeps State.noLink pmcFields s (s.setNear p n) := (Keeps.refl ..).of_eq
  exact ((placed _).trans ((State.countFlit_keeps ..).part State.noLink)).of_eq

theorem State.sendNp_keeps (s : State) (p : Nat) (kind : NpKind) (user : User) (m : NearMsg) :
    Keeps State.noLink pmcFields s (s.sendNp p kind user m) := by
  have placed (u : State) (n : Near) : Keeps State.noLink pmcFields u (u.setNear p n) := (Keeps.refl ..).of_eq
  exact .ite _ ((placed ..).trans (State.launchNp_keeps ..)) (((placed ..).trans (placed ..)).trans (State.rouse_keeps ..))

/-! Completions (R76, R121, R488). -/

theorem State.issueFlushes_keeps (cq e : Nat) (ports : List Nat) : ∀ s : State, Keeps State.noLink flushFields s (State.issueFlushes cq e ports s).1 := by
  induction ports with
  | nil => exact fun s => .refl ..
  | cons p rest ih =>
    intro s
    rw [State.issueFlushes]
    split
    · exact ((((s.sendNp_keeps p _ _ _).mono (by simp +contextual [flushFields])).wr _ _ _)).trans (ih _)
    · exact ih s

theorem State.pushCqe_keeps (s : State) (cq : Nat) (e : Cqe) : Keeps State.noEnds closeFields s (s.pushCqe cq e) := by
  have released (q n : Nat) : Keeps State.noEnds closeFields s (s.releaseOp q n) :=
    ((s.releaseOp_keeps q n).part State.noEnds).mono (by simp +contextual [closeFields])
  have flushed (l : List Nat) : Keeps State.noEnds closeFields s (State.issueFlushes cq 0 l s).1 :=
    ((State.issueFlushes_keeps cq 0 l s).part State.noEnds).mono (by simp +contextual [closeFields])
  unfold State.pushCqe
  dsimp only
  split
  · split
    · exact (Keeps.refl ..).wr _ _ _
    · exact (released ..).wr _ _ _
  · split
    · exact .refl ..
    · split
      · exact ((Keeps.refl State.noEnds closeFields s).of_eq).wr _ _ _
      · exact ((flushed _).of_eq).wr _ _ _

/-- A ring that takes completions leaves the operations. -/
theorem State.sqs_pushCqe {cq : Nat} (h : CqTakes s cq) (e : Cqe) : (s.pushCqe cq e).sqs = s.sqs := by
  have flushed (l : List Nat) : (State.issueFlushes cq 0 l s).1.sqs = s.sqs := ((State.issueFlushes_keeps cq 0 l s).part State.sqs).frame
  unfold State.pushCqe
  dsimp only
  rw [if_neg (by simp [h.whole]), if_neg (by simp [h.open_])]
  generalize hr : (if s.on Reg.CQ_DESC0_RELAXED cq = true then (s, []) else State.issueFlushes cq 0 (portsOf e.paths) s) = r
  show r.1.sqs = s.sqs
  rw [← hr]
  split
  · rfl
  · exact flushed _

/-! Operations (R118, R121, R160). -/

theorem State.updOp_keeps (s : State) (q n : Nat) (f : Op → Op) (l : List Fld) : Keeps State.noOps l s (s.updOp q n f) := (Keeps.refl ..).of_eq

theorem State.finishOp_keeps (s : State) (q n status detail : Nat) : Keeps State.noEnds closeFields s (s.finishOp q n status detail) := by
  unfold State.finishOp
  dsimp only
  split
  · exact .refl ..
  · split
    · exact .refl ..
    · next o _ _ =>
      generalize hs : (if status = Code.badEntry then _ else _ : State) = u
      have kept : Keeps State.noEnds closeFields s u := by
        rw [← hs]
        exact .ite _ (((Keeps.refl State.noEnds closeFields s).of_eq).wr _ _ _) ((Keeps.refl ..).of_eq)
      exact .ite _ kept (kept.trans (State.pushCqe_keeps ..))

/-- The only operation of a native queue pair ends, whatever paths its data took. -/
theorem State.ops_finishOp {o : Op} (native : s.rd Reg.QP_DESC0_LEGACY q = 0) (only : (s.sqOf q).ops = [o]) (open_ : o.st ≠ .done)
    (ring : CqTakes s (s.rd Reg.QP_DESC0_CQ q)) {status : Nat} (form : status ≠ Code.badEntry) (detail : Nat) :
    ((s.finishOp q o.serial status detail).sqOf q).ops = [{ o with st := .done, status, detail }] := by
  have takes (w : Sq) : CqTakes (s.setSq q w) (s.rd Reg.QP_DESC0_CQ q) := ⟨ring.whole, ring.open_⟩
  unfold State.finishOp
  simp only [only, List.find?_cons, beq_self_eq_true, replaceFirst, if_true]
  rw [if_neg open_, if_neg form, if_neg (by simp [native]), State.sqOf, State.sqs_pushCqe (takes _), ← State.sqOf, State.sqOf_setSq]

theorem State.endOne_keeps (s : State) (q code detail : Nat) (cause : Option Nat) (o : Op) :
    Keeps State.noEnds closeFields s (State.endOne q code detail cause s o) := by
  have finished (u : State) (status detail : Nat) := u.finishOp_keeps q o.serial status detail
  have released : Keeps State.noEnds closeFields s (s.releaseOp q o.serial) :=
    ((s.releaseOp_keeps q o.serial).part State.noEnds).mono (by simp +contextual [closeFields])
  refine .ite _ (.refl ..) (.ite _ (finished ..) (.ite _ ?_ (.ite _ (.ite _ released (finished ..)) (finished ..))))
  exact ((s.updOp_keeps q o.serial _ closeFields).part State.noEnds).trans (finished ..)

theorem State.opsEnded_keeps (s : State) (q code detail : Nat) (cause : Option Nat) : Keeps State.noEnds closeFields s (s.opsEnded q code detail cause) :=
  .foldl (.refl ..) _ fun _ _ _ h => h.trans (State.endOne_keeps ..)

/-! The error state (R160). -/

/-- Where there is no peloton, a queue pair that has stopped is in ERROR with its code once its operations have ended, and nothing is in flight. -/
theorem State.errs_of_stopped {w : State} {code detail : Nat} (nak : Keeps State.pels nakFields (s.stopped q code detail) w) (noPel : s.pels = [])
    (cause : Option Nat) (fromPeer : Bool) :
    let t := (((w.opsEnded q code detail cause).recsDropped q).dropPelOps q).linkError q code fromPeer
    t.rd Reg.TRN_QP_T0_STATE q = 3 ∧ t.rd Reg.TRN_QP_T5_ERR_SYNDROME q = code % 2 ^ 8 ∧ (t.connOf q).sent = [] := by
  have stopped : Keeps State.pels _ s (s.stopped q code detail) := (s.stopped_keeps q code detail).part State.pels
  have state : (s.stopped q code detail).rd Reg.TRN_QP_T0_STATE q = 3 := s.cst_stopped q code detail
  obtain ⟨-, syndrome⟩ := s.rd_stopped q code detail
  generalize s.stopped q code detail = v at nak stopped state syndrome
  have ended := w.opsEnded_keeps q code detail cause
  generalize w.opsEnded q code detail cause = u at ended ⊢
  have dropped := u.recsDropped_keeps q
  have noPelU : (u.recsDropped q).pels = [] :=
    (((dropped.part State.pels).frame.trans (ended.part State.pels).frame).trans nak.frame).trans (stopped.frame.trans noPel)
  rw [State.dropPelOps_of_noPel noPelU, State.linkError_of_noPel noPelU]
  refine ⟨?_, ?_, ?_⟩
  · rw [dropped.rd Reg.TRN_QP_T0_STATE, ended.rd Reg.TRN_QP_T0_STATE, nak.rd Reg.TRN_QP_T0_STATE, state]
  · rw [dropped.rd Reg.TRN_QP_T5_ERR_SYNDROME, ended.rd Reg.TRN_QP_T5_ERR_SYNDROME, nak.rd Reg.TRN_QP_T5_ERR_SYNDROME, syndrome]
  · exact (congrArg Conn.sent (State.connOf_setConn ..) :)

/-- A connected queue pair enters ERROR for its peer's NAK, and sends none. -/
theorem State.qpError_of_peer (up : s.cst q = Cst.connected) (code detail : Nat) (cause : Option Nat) : s.qpError q code detail cause true =
    ((((s.stopped q code detail).opsEnded q code detail cause).recsDropped q).dropPelOps q).linkError q code true := by
  have notError : ¬(s.cst q = Cst.error ∨ s.cst q = Cst.fenced) := by rw [up]; decide
  have unanswered : ¬((s.cst q = Cst.connected ∨ s.cst q = Cst.suspended) ∧ (!true) = true) := by simp
  exact (if_neg notError).trans
    (congrArg (fun u : State => (((u.opsEnded q code detail cause).recsDropped q).dropPelOps q).linkError q code true) (if_neg unanswered))

end Ends

end Sys2Proof.Machine
end

section
/-! Answers to a requester (R155, R160, R167, R171, R172, R182). -/

namespace Sys2Proof.Machine

open Sys2Proof Sys2Proof.Safety

section Answers

variable {s t u : State} {p : Pkt} {r : Rx} {q : Nat} {o : Op} {x : Sent}

/-- An admitted answer goes on to its own handling. -/
theorem State.rxUnseq_of_admitted (h : Admitted s p r) (known : knownOpc p.opc = true) :
    ∃ t, (∀ f, s.rxUnseq p r f = f t) ∧ Entered s p.dstQp t ∧ t.peerMember p.dstQp p = some 0 := by
  obtain ⟨t, passes, enter⟩ := State.rxHead_of_admitted h known
  refine ⟨t, fun f => ?_, enter, (peer_of_entered h enter).1⟩
  rw [State.rxUnseq, passes]
  rfl

/-- The handling of an answer, for one that passes the steps before. -/
theorem does_of_rxUnseq {k : Instr} {P : State → Prop} {f : State → State} (runs : exec k s = .next (s.rxUnseq p r f)) (h : Admitted s p r)
    (known : knownOpc p.opc = true) (takes : ∀ t, Entered s p.dstQp t → t.peerMember p.dstQp p = some 0 → P (f t)) : Does k s P := by
  obtain ⟨t, same, enter, peer⟩ := State.rxUnseq_of_admitted h known
  exact ⟨_, runs, same f ▸ takes t enter peer⟩

/-! SND_UNA and the operations that are left (R162, R172). -/

/-- With nothing outstanding SND_UNA is SND_NXT. -/
theorem State.settleUna_of_nil (none_ : (s.connOf q).sent = []) :
    s.settleUna q = s.wr Reg.TRN_QP_T1_SND_UNA q (s.rd Reg.TRN_QP_T1_SND_NXT q) := by
  rw [State.settleUna, none_]
  rfl

theorem State.settleUna_keeps (s : State) (q : Nat) : Keeps State.noRegs [Reg.TRN_QP_T1_SND_UNA] s (s.settleUna q) := (Keeps.refl ..).wr _ _ _

theorem State.endAcked_of_nil (none_ : (s.sqOf q).ops = []) : s.endAcked q = s := by simp [State.endAcked, none_]

/-- An operation that is done is no NOP that waits. -/
theorem State.settleNops_of_done (only : (s.sqOf q).ops = [o]) (done : o.st = .done) : s.settleNops q = s := by
  simp [State.settleNops, only, done]

/-! An ACK (R155, R167). -/

/-- The first sample of the round trip (R167). -/
theorem State.rttSample_of_first (first : (s.connOf q).rttAny = false) (rtt ce n : Nat) :
    Keeps State.noConns [Reg.TRN_QP_T3_SRTT_NS, Reg.TRN_CCQ_STAT_CE_SEEN] s (s.rttSample q rtt ce n) ∧
      (s.rttSample q rtt ce n).rd Reg.TRN_QP_T3_SRTT_NS q = rtt % 2 ^ 32 ∧ ((s.rttSample q rtt ce n).connOf q).rttAny = true ∧
      ((s.rttSample q rtt ce n).connOf q).sent = (s.connOf q).sent := by
  have runs : ∃ c : Conn, c.rttAny = true ∧ c.sent = (s.connOf q).sent ∧
      s.rttSample q rtt ce n = ((s.setConn q c).wr Reg.TRN_QP_T3_SRTT_NS q rtt).count Reg.TRN_CCQ_STAT_CE_SEEN q ce := by
    unfold State.rttSample
    simp only [first, Bool.false_eq_true, if_false]
    refine ⟨_, ?_, ?_, rfl⟩ <;> rfl
  obtain ⟨c, any_, sent, runs⟩ := runs
  have conn : (((s.setConn q c).wr Reg.TRN_QP_T3_SRTT_NS q rtt).count Reg.TRN_CCQ_STAT_CE_SEEN q ce).connOf q = c := s.connOf_setConn ..
  rw [runs, conn]
  refine ⟨(((s.setConn_keeps q c _).wr _ _ _).wr _ _ _), ?_, any_, sent⟩
  rw [State.count_eq, State.rd_wr_of_key _ _ _ _ _ _ (by decide), State.rd_wr_self]
  rfl

/-- The connection once every packet outstanding is acknowledged, with its first sample of the round trip. -/
theorem State.rxAck_of_all (peer : s.peerMember p.dstQp p = some 0)
    (all : ∀ y ∈ (s.connOf p.dstQp).sent, y.mem = 0 ∧ pktAcks p y.psn = true ∧ y.atomic = false) (none_ : (s.sqOf p.dstQp).ops = [])
    (first : (s.connOf p.dstQp).rttAny = false) (below : s.rd Reg.TRN_QP_T1_SND_NXT p.dstQp < 2 ^ 32) :
    let t := s.rxAck p
    (t.connOf p.dstQp).sent = [] ∧ t.rd Reg.TRN_QP_T1_SND_UNA p.dstQp = s.rd Reg.TRN_QP_T1_SND_NXT p.dstQp ∧
      (t.connOf p.dstQp).rttAny = true ∧ t.rd Reg.TRN_QP_T3_SRTT_NS p.dstQp = (s.now - p.tsEcho - p.ackDelay) % 2 ^ 32 := by
  have acked : (s.connOf p.dstQp).sent.filter (fun x => x.mem == 0 && pktAcks p x.psn && !x.atomic) = (s.connOf p.dstQp).sent :=
    List.filter_eq_self.2 fun y hy => by obtain ⟨mem, acks, plain⟩ := all y hy; simp [mem, acks, plain]
  have kept : (s.connOf p.dstQp).sent.filter (fun x => !(x.mem == 0 && pktAcks p x.psn && !x.atomic)) = [] :=
    List.filter_eq_nil_iff.2 fun y hy => by obtain ⟨mem, acks, plain⟩ := all y hy; simp [mem, acks, plain]
  unfold State.rxAck
  simp only [peer, acked, kept, List.filter_nil, List.foldl_nil]
  rw [State.settleUna_of_nil (by rw [State.connOf_setConn])]
  generalize hc : ({ s.connOf p.dstQp with sent := [] } : Conn) = c
  have una : ((s.setConn p.dstQp c).wr Reg.TRN_QP_T1_SND_UNA p.dstQp ((s.setConn p.dstQp c).rd Reg.TRN_QP_T1_SND_NXT p.dstQp)).rd
      Reg.TRN_QP_T1_SND_UNA p.dstQp = s.rd Reg.TRN_QP_T1_SND_NXT p.dstQp := (State.rd_wr_self ..).trans (Nat.mod_eq_of_lt below)
  have conn : ((s.setConn p.dstQp c).wr Reg.TRN_QP_T1_SND_UNA p.dstQp ((s.setConn p.dstQp c).rd Reg.TRN_QP_T1_SND_NXT p.dstQp)).connOf p.dstQp = c :=
    s.connOf_setConn ..
  have ops : ((s.setConn p.dstQp c).wr Reg.TRN_QP_T1_SND_UNA p.dstQp ((s.setConn p.dstQp c).rd Reg.TRN_QP_T1_SND_NXT p.dstQp)).sqOf p.dstQp =
    s.sqOf p.dstQp := rfl
  generalize (s.setConn p.dstQp c).wr Reg.TRN_QP_T1_SND_UNA p.dstQp ((s.setConn p.dstQp c).rd Reg.TRN_QP_T1_SND_NXT p.dstQp) = u at una conn ops ⊢
  obtain ⟨kept, srtt, any_, sent⟩ := State.rttSample_of_first (s := u) (q := p.dstQp) (by rw [conn, ← hc]; exact first)
    (s.now - p.tsEcho - p.ackDelay) p.ceCount (s.connOf p.dstQp).sent.length
  generalize u.rttSample p.dstQp (s.now - p.tsEcho - p.ackDelay) p.ceCount (s.connOf p.dstQp).sent.length = v at kept srtt any_ sent ⊢
  have timed : Keeps State.noRegs [Reg.TRN_QP_T3_RTO_NS] v (if (s.connOf p.dstQp).sent = [] then v else
      v.wr Reg.TRN_QP_T3_RTO_NS p.dstQp (v.baseRto p.dstQp)) := .ite _ (.refl ..) ((Keeps.refl State.noRegs _ v).wr _ _ _)
  generalize (if (s.connOf p.dstQp).sent = [] then v else v.wr Reg.TRN_QP_T3_RTO_NS p.dstQp (v.baseRto p.dstQp)) = w at timed ⊢
  have left : (w.sqOf p.dstQp).ops = [] := by rw [timed.sqOf, kept.sqOf, ops, none_]
  rw [State.endAcked_of_nil left, State.settleNops_of_nil left, timed.connOf]
  refine ⟨?_, ?_, any_, ?_⟩
  · rw [sent, conn, ← hc]
  · rw [timed.rd Reg.TRN_QP_T1_SND_UNA, kept.rd Reg.TRN_QP_T1_SND_UNA, una]
  · rw [timed.rd Reg.TRN_QP_T3_SRTT_NS, srtt]

/-! NAKs that hold a copy or end its operation (R182, R183), and ATOMIC_ACK (R172). -/

/-- `o` is the only operation of a native queue pair, and not done; the completion ring takes its completion. -/
structure Endable (s : State) (q : Nat) (o : Op) : Prop where
  native : s.rd Reg.QP_DESC0_LEGACY q = 0
  ring : CqTakes s (s.rd Reg.QP_DESC0_CQ q)
  only : (s.sqOf q).ops = [o]
  open_ : o.st ≠ .done

/-- The fields that tell where a completion goes. -/
def ringFields : List Fld := [Reg.QP_DESC0_LEGACY, Reg.QP_DESC0_CQ, Reg.CQ_DESC0_BROKEN]

theorem Endable.of_keeps {α : Type} {F : State → α} {l : List Fld} (h : Endable s q o) (kept : Keeps F l s t) (ops : (t.sqOf q).ops = [o])
    (cqs : t.cqs = s.cqs) (apart : ∀ f ∈ ringFields, ∀ g ∈ l, f.key ≠ g.key := by decide) : Endable t q o := by
  have ring : t.rd Reg.QP_DESC0_CQ q = s.rd Reg.QP_DESC0_CQ q := kept.regs _ q (apart _ (by simp [ringFields]))
  refine ⟨(kept.regs _ q (apart _ (by simp [ringFields]))).trans h.native, ?_, ops, h.open_⟩
  rw [ring]
  exact ⟨(kept.regs _ _ (apart _ (by simp [ringFields]))).trans h.ring.whole, by rw [State.cqOf, cqs]; exact h.ring.open_⟩

/-- The only operation ends with a status; its connection stays, and no NOP is left to end. -/
theorem Endable.finishes (h : Endable s q o) {n status : Nat} (serial : o.serial = n) (form : status ≠ Code.badEntry) (detail : Nat) :
    (((s.finishOp q n status detail).settleNops q).sqOf q).ops = [{ o with st := .done, status, detail }] ∧
      ((s.finishOp q n status detail).settleNops q).connOf q = s.connOf q := by
  subst serial
  have ops := State.ops_finishOp h.native h.only h.open_ h.ring form detail
  rw [State.settleNops_of_done ops rfl]
  exact ⟨ops, (s.finishOp_keeps q o.serial status detail).connOf q⟩

/-- The queue pair with no packet outstanding. -/
def State.unsent (s : State) (q : Nat) : State := (s.setConn q { s.connOf q with sent := [] }).settleUna q

theorem State.unsent_keeps (s : State) (q : Nat) : Keeps State.noConns [Reg.TRN_QP_T1_SND_UNA] s (s.unsent q) :=
  (s.setConn_keeps q _ _).trans ((State.settleUna_keeps ..).part State.noConns)

theorem State.sent_unsent (s : State) (q : Nat) : ((s.unsent q).connOf q).sent = [] := by
  rw [State.unsent, (State.settleUna_keeps _ q).connOf, State.connOf_setConn]

theorem Endable.unsent (h : Endable s q o) : Endable (s.unsent q) q o :=
  h.of_keeps (s.unsent_keeps q) (by rw [(s.unsent_keeps q).sqOf, h.only]) ((s.unsent_keeps q).part State.cqs).frame

theorem State.peerMember_nakRx (s : State) : (s.inc Reg.TRN_NAK_RX_COUNT).peerMember q p = s.peerMember q p := by
  have same (f : Fld) (hf : f.key ≠ Reg.TRN_NAK_RX_COUNT.key) : (s.inc Reg.TRN_NAK_RX_COUNT).rd f q = s.rd f q := State.rd_wr_of_key _ _ _ _ _ _ hf
  unfold State.peerMember
  rw [same _ (by decide), same _ (by decide)]
  rfl

theorem State.rxNakResend_keeps (s : State) (p : Pkt) : Keeps State.noConns [] s (s.rxNakResend p) := by
  unfold State.rxNakResend
  dsimp only
  split
  · exact .refl ..
  · exact s.setConn_keeps ..

/-- A RESEND_AFTER holds its copy, at the time of its first NAK. -/
theorem State.sent_rxNakResend (peer : s.peerMember p.dstQp p = some 0) (only : (s.connOf p.dstQp).sent = [x]) (psn : x.psn = p.psn)
    (mem : x.mem = 0) (first : x.nakAt = none) : ((s.rxNakResend p).connOf p.dstQp).sent =
      [{ x with hold := true, resend := false, nakAt := some s.now, nakReason := p.reason }] := by
  unfold State.rxNakResend
  simp [peer, only, psn, mem, first]

theorem State.rxNakFail_of_one (h : Endable s p.dstQp o) (only : (s.connOf p.dstQp).sent = [x]) (psn : x.psn = p.psn) (serial : x.serial = o.serial) :
    ((s.rxNakFail p).connOf p.dstQp).sent = [] ∧
      ((s.rxNakFail p).sqOf p.dstQp).ops = [{ o with st := .done, status := Code.remoteError, detail := p.detail }] := by
  have runs : s.rxNakFail p = ((s.unsent p.dstQp).finishOp p.dstQp o.serial Code.remoteError p.detail).settleNops p.dstQp := by
    simp [State.rxNakFail, only, psn, serial, State.unsent]
  obtain ⟨ops, conn⟩ := h.unsent.finishes (status := Code.remoteError) rfl (by decide) p.detail
  rw [runs, conn]
  exact ⟨s.sent_unsent _, ops⟩

/-- The old value of an atomic goes to its operation. -/
def Op.gives (old : Nat) (o : Op) : Op := { o with aux := old, bytes := 8 }

theorem State.ops_updOp (only : (s.sqOf q).ops = [o]) (f : Op → Op) : ((s.updOp q o.serial f).sqOf q).ops = [f o] := by
  rw [State.updOp, State.sqOf_setSq, only]
  simp [replaceFirst]

theorem Endable.upd (h : Endable s q o) (f : Op → Op) (st : (f o).st = o.st) : Endable (s.updOp q o.serial f) q (f o) :=
  ⟨h.native, ⟨h.ring.whole, h.ring.open_⟩, State.ops_updOp h.only f, st ▸ h.open_⟩

theorem State.rxAtomicAck_of_one (h : Endable s p.dstQp o) (only : (s.connOf p.dstQp).sent = [x]) (psn : x.psn = p.psn) (serial : x.serial = o.serial)
    (atomic : x.atomic = true) : ((s.rxAtomicAck p).connOf p.dstQp).sent = [] ∧
      ((s.rxAtomicAck p).sqOf p.dstQp).ops = [{ o with st := .done, status := Code.success, detail := 0, aux := p.old, bytes := 8 }] := by
  have runs : s.rxAtomicAck p = (((s.unsent p.dstQp).updOp p.dstQp o.serial (Op.gives p.old)).finishOp p.dstQp o.serial Code.success 0).settleNops p.dstQp := by
    simp only [State.rxAtomicAck, only, psn, serial, atomic, State.unsent, List.find?_cons, beq_self_eq_true, Bool.and_self]
    simp [psn]
    rfl
  obtain ⟨ops, conn⟩ := (h.unsent.upd (Op.gives p.old) rfl).finishes (n := o.serial) (status := Code.success) rfl (by decide) 0
  rw [runs, conn]
  exact ⟨s.sent_unsent _, ops⟩

/-- A FATAL puts the queue pair in ERROR with the peer's syndrome (R160, R182). -/
theorem State.rxNakFatal_of_connected (up : s.cst p.dstQp = Cst.connected) (noPel : s.pels = []) :
    (s.rxNakFatal p).rd Reg.TRN_QP_T0_STATE p.dstQp = 3 ∧ (s.rxNakFatal p).rd Reg.TRN_QP_T5_ERR_SYNDROME p.dstQp = p.syndrome % 2 ^ 8 ∧
      ((s.rxNakFatal p).connOf p.dstQp).sent = [] := by
  rw [State.rxNakFatal, State.qpError_of_peer up]
  exact State.errs_of_stopped (.refl ..) noPel _ _

/-! A READ_RESP that completes its READ (R172, R176). -/

/-- One part that holds every byte covers them. -/
theorem covers_one {n : Nat} (h : n ≠ 0) : covers n [(0, n)] = true := by
  have pos : 0 < n := Nat.pos_of_ne_zero h
  simp [covers, coversFrom, pos, h]

/-- The operation of a READ once its one part is placed. -/
def Op.reads (o : Op) (n : Nat) : Op := { o with got := o.got ++ [(0, n)], paths := o.paths ||| 0, resps := o.resps + 1 }

theorem Endable.reads_end {m : Mem} (h : Endable s q o) (memory : s.gddr = m) {n b : Nat} (serial : o.serial = n := by rfl) :
    let t := (s.updOp q n (fun y => { y with bytes := b })).finishOp q n Code.success 0
    t.gddr = m ∧ (t.sqOf q).ops = [{ o with bytes := b, st := .done, status := Code.success, detail := 0 }] := by
  subst serial
  have counted := h.upd (fun y => { y with bytes := b }) rfl
  have finished := (s.updOp q o.serial (fun y => { y with bytes := b })).finishOp_keeps q o.serial Code.success 0
  exact ⟨((finished.part State.gddr).frame).trans memory,
    State.ops_finishOp (o := { o with bytes := b }) counted.native counted.only counted.open_ counted.ring (by decide) 0⟩

theorem State.placeResp_of_whole (h : Endable s q o) (start : p.pktOffset = 0) (len : p.payload.length = o.sqe.len) (some_ : p.payload ≠ [])
    (win : o.sqe.localWin = true) (got : o.got = []) (clean : r.ce = false) (coalesce : 1 < s.rd Reg.TRN_TIMERS1_ACK_COALESCE 0) (first : o.resps = 0)
    (pass : s.gddrPassAll (s.qpTenant q) (s.rd Reg.QP_DESC0_CONTEXT q) .write o.sqe.laddr o.sqe.len = true) :
    (s.placeResp q o p r).gddr = Mem.store s.gddr o.sqe.laddr p.payload ∧
      ((s.placeResp q o p r).sqOf q).ops = [{ o.reads o.sqe.len with bytes := o.sqe.len, st := .done, status := Code.success, detail := 0 }] := by
  have nonempty : p.payload.length ≠ 0 := by simpa using some_
  unfold State.placeResp
  simp only [win, start, Nat.add_zero]
  rw [State.range_of_pass nonempty (by rw [len]; exact pass)]
  simp only [if_neg some_]
  have posted := s.postItem_keeps_noClus 1 q p.psn (s.rd Reg.QP_DESC0_CONTEXT q) o.sqe.laddr p.payload.length 0 0
  generalize s.postItem 1 q p.psn (s.rd Reg.QP_DESC0_CONTEXT q) o.sqe.laddr p.payload.length 0 0 = u at posted ⊢
  rw [State.writeRange_gddr rfl]
  have stored : Keeps (fun t : State => (t.sqs, t.cqs)) (workFields ++ pmcFields) s (u.gddrStore o.sqe.laddr p.payload) :=
    ((posted.part (fun t => (t.sqs, t.cqs))).mono (by simp +contextual)).of_eq
  have memory : (u.gddrStore o.sqe.laddr p.payload).gddr = Mem.store s.gddr o.sqe.laddr p.payload :=
    congrArg (Mem.store · o.sqe.laddr p.payload) (posted.part State.gddr).frame
  have counted := (u.gddrStore o.sqe.laddr p.payload).pmc_keeps 13 0x51 (some (u.qpTenant q)) (linesOf o.sqe.laddr p.payload.length)
  generalize u.gddrStore o.sqe.laddr p.payload = v at stored memory counted ⊢
  have placed := stored.trans ((counted.part (fun t => (t.sqs, t.cqs))).mono (by simp +contextual))
  have memory := (counted.part State.gddr).frame.trans memory
  generalize v.pmc 13 0x51 (some (u.qpTenant q)) (linesOf o.sqe.laddr p.payload.length) = w at placed memory ⊢
  have ops : (w.sqOf q).ops = [o] := (congrArg (fun z : Tbl Sq × Tbl Cq => (Tbl.get ({} : Sq) q z.1).ops) placed.frame :).trans h.only
  have taken := (h.of_keeps placed ops (congrArg Prod.snd placed.frame)).upd (fun _ => o.reads o.sqe.len) rfl
  have due : (r.ce || (o.resps + 1) % max 1 (s.rd Reg.TRN_TIMERS1_ACK_COALESCE) == 0) = false := by
    rw [clean, first, Nat.zero_add, Nat.max_eq_right (by omega), Nat.mod_eq_of_lt coalesce]
    rfl
  have held : (w.updOp q o.serial fun _ => o.reads o.sqe.len).gddr = Mem.store s.gddr o.sqe.laddr p.payload := memory
  simp only [len, due, ← Op.reads.eq_1, Bool.false_eq_true, if_false]
  rw [if_pos (by rw [got]; exact covers_one (by omega))]
  generalize w.updOp q o.serial (fun _ => o.reads o.sqe.len) = x at taken held ⊢
  exact (taken.of_keeps (x.setConn_keeps q _ []) taken.only rfl).reads_end held

theorem State.rxReadResp_of_one (only : (s.sqOf p.dstQp).ops = [o]) (opcode : o.sqe.opcode = 4) (started : o.st = .started) (msn : o.msn = p.msn)
    (served : ∃ k, s.steer p.dstQp = some k) (start : p.pktOffset = 0) (len : p.payload.length = o.sqe.len) :
    s.rxReadResp p r = s.placeResp p.dstQp o p r := by
  obtain ⟨k, served⟩ := served
  simp [State.rxReadResp, only, opcode, started, msn, served, start, len]

/-! A message that is placed (R171). -/

/-- The record of a placed message is released, and its last packet may be acknowledged. -/
def State.msgReleased (s : State) (q : Nat) (m : MsgRec) : State :=
  ((s.setConn q { s.connOf q with unackable := (s.connOf q).unackable.filter (· ≠ m.lastPsn) }).dropRec q m.msn).settleAck q

theorem State.msgAck_eq (s : State) (q : Nat) (m : MsgRec) :
    s.msgAck q m = (s.msgReleased q m).ackNow q m.lastPsn (s.connOf q).ackEcho (s.connOf q).ackRcvd := rfl

theorem State.msgReleased_keeps (s : State) (q : Nat) (m : MsgRec) :
    Keeps State.noConns [Reg.TRN_RESP_REC_IN_USE, Reg.TRN_QP_T2_ACK_BASE] s (s.msgReleased q m) :=
  (((s.setConn_keeps q _ _).setConn q _).wr _ _ _).wr _ _ _

theorem State.conn_msgReleased (s : State) (q : Nat) (m : MsgRec) : (s.msgReleased q m).connOf q =
    { s.connOf q with unackable := (s.connOf q).unackable.filter (· ≠ m.lastPsn), recs := dropFirst (·.msn == m.msn) (s.connOf q).recs } := by
  unfold State.msgReleased State.dropRec
  rw [State.connOf_setConn]
  exact State.connOf_setConn ..

theorem State.rd_msgReleased (s : State) (q : Nat) (m : MsgRec) : (s.msgReleased q m).rd Reg.TRN_RESP_REC_IN_USE 0 =
    (s.rd Reg.TRN_RESP_REC_IN_USE 0 - 1) % 2 ^ Reg.TRN_RESP_REC_IN_USE.w := by
  unfold State.msgReleased State.dropRec State.settleAck
  rw [State.rd_wr_of_key _ _ _ _ _ _ (by decide), State.dec_eq, State.rd_wr_self, State.setConn_rd, State.setConn_rd]

/-- A placed WRITE is acknowledged and its record released. -/
theorem State.msgAck_of_canSend {m : MsgRec} {port : Nat} (only : (s.connOf q).recs = [m]) (send : CanSend s q port) :
    ((s.msgAck q m).connOf q).recs = [] ∧ ((s.msgAck q m).connOf q).unackable = (s.connOf q).unackable.filter (· ≠ m.lastPsn) ∧
      (s.msgAck q m).rd Reg.TRN_RESP_REC_IN_USE 0 = (s.rd Reg.TRN_RESP_REC_IN_USE 0 - 1) % 2 ^ Reg.TRN_RESP_REC_IN_USE.w ∧
      (s.msgAck q m).rd Reg.TRN_TX_PKTS_COUNT 0 = (s.rd Reg.TRN_TX_PKTS_COUNT 0 + 1) % 2 ^ 64 := by
  have recs : dropFirst (·.msn == m.msn) (s.connOf q).recs = [] := by simp [only, dropFirst]
  have kept := s.msgReleased_keeps q m
  have conn : (s.msgReleased q m).connOf q = { s.connOf q with unackable := (s.connOf q).unackable.filter (· ≠ m.lastPsn), recs := [] } := by
    rw [← recs]
    exact s.conn_msgReleased q m
  have count := s.rd_msgReleased q m
  have sends := State.ackNow_of_canSend (canSend_of_keeps send kept) m.lastPsn (s.connOf q).ackEcho (s.connOf q).ackRcvd
  rw [← State.msgAck_eq] at sends
  generalize s.msgReleased q m = u at kept conn count sends
  have acked : (s.msgAck q m).connOf q = (u.connOf q).acked := (sends.connOf q).trans (State.connOf_setConn ..)
  rw [acked, conn, sends.counted, sends.kept.rd Reg.TRN_RESP_REC_IN_USE, State.setConn_rd, State.setConn_rd, count, kept.rd Reg.TRN_TX_PKTS_COUNT]
  exact ⟨rfl, rfl, rfl, rfl⟩

/-! The commands. -/

/-- An answer keeps what admits it under another opcode. -/
theorem answer_as (h : Admitted s p r) (k : Nat) : Admitted s { p with opc := k } r := ⟨h.head, h.open_, h.auth, h.peer⟩

/-- An operation that can end still can once its answer has passed the steps before its own. -/
theorem Endable.entered (h : Endable s p.dstQp o) (enter : Entered s p.dstQp t) : Endable t p.dstQp o :=
  h.of_keeps enter.kept (by rw [enter.kept.sqOf, h.only]) (enter.kept.part State.cqs).frame

/-- A NAK received is counted. -/
theorem Endable.counted (h : Endable s q o) : Endable (s.inc Reg.TRN_NAK_RX_COUNT) q o :=
  have counted : Keeps State.noRegs [Reg.TRN_NAK_RX_COUNT] s (s.inc Reg.TRN_NAK_RX_COUNT) := (Keeps.refl ..).wr _ _ _
  h.of_keeps counted h.only rfl

theorem Entered.now (enter : Entered s q t) : t.now = s.now := enter.kept.rd Reg.CAD_COUNT_COUNT 0

theorem Entered.sent (enter : Entered s q t) : (t.connOf q).sent = (s.connOf q).sent := by rw [enter.conn]

end Answers

end Sys2Proof.Machine

open Sys2Proof Sys2Proof.Machine Sys2Proof.Safety

/-- Settles O39: an admitted answer does what its kind says, and a placed message is acknowledged. -/
theorem transportAnswers : Obligations.TransportAnswers := by
  unfold Obligations.TransportAnswers
  intro s p r o x m port q c nxt cq open_
  refine ⟨fun adm => ⟨?ack, ?resend, ?ends, ?fatal, ?read⟩, ?placed⟩
  case ack =>
    intro all none_ first below
    refine does_of_rxUnseq (p := { p with opc := 0x10 }) rfl (answer_as adm 0x10) rfl fun t enter peer => ?_
    have same : t.rd Reg.TRN_QP_T1_SND_NXT q = nxt := enter.kept.rd Reg.TRN_QP_T1_SND_NXT q
    obtain ⟨sent, una, any_, srtt⟩ := State.rxAck_of_all (p := p) peer (by rw [enter.sent]; exact all) (by rw [enter.kept.sqOf]; exact none_)
      (by rw [enter.conn]; exact first) (same ▸ below)
    exact ⟨sent, una.trans same, any_, by rw [srtt, enter.now]⟩
  case resend =>
    intro only psn mem first
    refine does_of_rxUnseq (p := { p with opc := 0x11 }) rfl (answer_as adm 0x11) rfl fun t enter peer => ?_
    have now : (t.inc Reg.TRN_NAK_RX_COUNT).now = s.now := (State.now_wr_of_key _ _ _ _ (by decide)).trans enter.now
    rw [← t.peerMember_nakRx] at peer
    refine ⟨?_, ?_⟩
    · rw [State.sent_rxNakResend (p := p) peer (enter.sent.trans only) psn mem first, now]
    · rw [(State.rxNakResend_keeps _ p).rd Reg.TRN_NAK_RX_COUNT, State.inc_eq, State.rd_wr_self, enter.kept.rd Reg.TRN_NAK_RX_COUNT]
      rfl
  case ends =>
    rintro only psn serial ops started ⟨whole, unfenced, native⟩
    have ending : Endable s q o := ⟨native, ⟨whole, unfenced⟩, ops, by rw [started]; decide⟩
    refine ⟨?_, fun atomic => ?_⟩
    · refine does_of_rxUnseq (p := { p with opc := 0x11 }) rfl (answer_as adm 0x11) rfl fun t enter _ => ?_
      exact State.rxNakFail_of_one (p := p) (ending.entered enter).counted (enter.sent.trans only) psn serial
    · refine does_of_rxUnseq (p := { p with opc := 0x12 }) rfl (answer_as adm 0x12) rfl fun t enter _ => ?_
      exact State.rxAtomicAck_of_one (p := p) (ending.entered enter) (enter.sent.trans only) psn serial atomic
  case fatal =>
    intro noPel
    refine does_of_rxUnseq (p := { p with opc := 0x11 }) rfl (answer_as adm 0x11) rfl fun t enter _ => ?_
    refine State.rxNakFatal_of_connected (p := p) (s := t.inc Reg.TRN_NAK_RX_COUNT) ?_ ?_
    · exact (State.rd_wr_of_key _ _ _ _ _ _ (by decide)).trans ((enter.kept.rd Reg.TRN_QP_T0_STATE q).trans adm.open_.2.1)
    · exact (enter.kept.part State.pels).frame.trans noPel
  case read =>
    rintro ops opcode started msn served some_ start len win got ⟨whole, unfenced, native⟩ coalesce first pass
    have ending : Endable s q o := ⟨native, ⟨whole, unfenced⟩, ops, by rw [started]; decide⟩
    refine does_of_rxUnseq (p := { p with opc := 5 }) rfl (answer_as adm 5) rfl fun t enter _ => ?_
    rw [State.rxReadResp_of_one (p := { p with opc := 5 }) ((enter.kept.sqOf _).symm ▸ ops) opcode started msn
      ((State.steer_of_keeps enter.kept).symm ▸ served) start len]
    obtain ⟨gddr, done⟩ := State.placeResp_of_whole (p := { p with opc := 5 }) (r := r) (ending.entered (p := { p with opc := 5 }) enter) start len some_
      win got adm.auth.1 ((enter.kept.rd Reg.TRN_TIMERS1_ACK_COALESCE 0).symm ▸ coalesce) first
      (by rw [enter.cells.gddrPassAll, State.qpTenant, enter.kept.rd Reg.QP_DESC0_TENANT, enter.kept.rd Reg.QP_DESC0_CONTEXT]; exact pass)
    have memory : t.gddr = s.gddr := (enter.kept.part State.gddr).frame
    rw [memory] at gddr
    refine ⟨fun k hk => ?_, fun a ha => ?_, _, done, rfl, rfl, rfl⟩
    · rw [gddr, Mem.rd_store_getD _ _ _ _ (by rw [len]; exact hk)]
    · rw [gddr, Mem.rd_store_of_lt _ _ _ _ (by rw [len]; exact ha)]
  case placed =>
    intro only complete unentered unflushed opc send
    have record : s.recOf q m.msn = some m := by simp [State.recOf, show (s.connOf q).recs = [m] from only]
    have entry : s.msgEntry q m = s.msgAck q m := if_pos (by simp [opc])
    refine ⟨s.msgAck q m, ?_, State.msgAck_of_canSend only send⟩
    show Host.Outcome.next (match s.recOf q m.msn with
      | none => s
      | some m => if m.complete ∧ !m.entered ∧ m.flush = [] then s.msgEntry q m else s) = _
    rw [record]
    simp only [complete, unentered, unflushed, Bool.not_false, and_self, if_true, entry]
end

section
/-! Timers of a queue pair (R166 to R169, R176, R182, R183, R188). -/

namespace Sys2Proof.Machine

open Sys2Proof Sys2Proof.Safety

section Timers

variable {s : State} {q psn mem : Nat} {x : Sent} {o : Op}

/-! The copies that are kept until they are acknowledged (R162). -/

theorem Conn.sentOf_sent {c : Conn} (h : c.sentOf psn mem = some x) : x.psn = psn ∧ x.mem = mem := by
  have found := List.find?_some h
  simpa using found

/-- A change of copies that leaves PSNs and members changes the one copy of each. -/
theorem Conn.sentOf_map {c d : Conn} {f : Sent → Sent} (h : c.sentOf psn mem = some x) (hd : d.sent = c.sent.map f)
    (hf : ∀ y, (f y).psn = y.psn ∧ (f y).mem = y.mem) : d.sentOf psn mem = some (f x) := by
  have same : (fun y : Sent => y.psn == psn && y.mem == mem) ∘ f = fun y => y.psn == psn && y.mem == mem := by
    funext y
    simp [hf]
  rw [Conn.sentOf, hd, List.find?_map, same, ← Conn.sentOf, h]
  rfl

/-- A lost copy with sends left is to be sent again (R167, R168). -/
theorem State.sentOf_lost (up : s.cst q = Cst.connected) (sent : (s.connOf q).sentOf psn mem = some x)
    (left : x.sends ≤ s.rd Reg.TRN_QP_T0_RETRY_MAX q) :
    ((State.lost q s x).connOf q).sentOf psn mem = some { x with resend := true } ∧ Keeps State.noConns [] s (State.lost q s x) ∧
      ((State.lost q s x).connOf q).holds = (s.connOf q).holds := by
  have runs : State.lost q s x = s.setConn q { s.connOf q with
      sent := (s.connOf q).sent.map (fun y => if y.psn == x.psn && y.mem == x.mem then { y with resend := true } else y) } := by
    rw [State.lost, if_neg (by simp [up]), if_neg (by omega)]
  rw [runs, State.connOf_setConn]
  refine ⟨?_, s.setConn_keeps .., rfl⟩
  have marks := Conn.sentOf_map sent (d := { s.connOf q with
    sent := (s.connOf q).sent.map (fun y => if y.psn == x.psn && y.mem == x.mem then { y with resend := true } else y) }) rfl
    (fun y => by split <;> exact ⟨rfl, rfl⟩)
  simpa using marks

/-- With the rate control off an RTO leaves the rate (R188). -/
theorem State.halveRate_of_off (off : s.rd Reg.TRN_CC_CTRL_ENABLE 0 = 0) : s.halveRate q = s := if_neg (by simp [off])

/-- An RTO: the copy is to be sent again, the RTO doubles and the entropy value rests (R167, R169). -/
theorem State.rtoExpire_of_sent (up : s.cst q = Cst.connected) (sent : (s.connOf q).sentOf psn mem = some x) (free : x.hold = false)
    (waits : x.resend = false) (left : x.sends ≤ s.rd Reg.TRN_QP_T0_RETRY_MAX q) (off : s.rd Reg.TRN_CC_CTRL_ENABLE 0 = 0) :
    let t := s.rtoExpire q psn mem
    (t.connOf q).sentOf psn mem = some { x with resend := true } ∧
      t.rd Reg.TRN_QP_T3_RTO_NS q = min s.rtoMax (2 * s.rd Reg.TRN_QP_T3_RTO_NS q) % 2 ^ 32 ∧
      (t.connOf q).holds = (s.connOf q).holds.filter (·.1 ≠ x.entropy) ++ [(x.entropy, s.now + 8 * s.rd Reg.TRN_QP_T3_SRTT_NS q)] := by
  generalize hc : ({ s.connOf q with
    holds := (s.connOf q).holds.filter (·.1 ≠ x.entropy) ++ [(x.entropy, s.now + 8 * s.rd Reg.TRN_QP_T3_SRTT_NS q)] } : Conn) = c
  have runs : s.rtoExpire q psn mem =
      State.lost q (((s.setConn q c).wr Reg.TRN_QP_T3_RTO_NS q (min s.rtoMax (2 * s.rd Reg.TRN_QP_T3_RTO_NS q))).halveRate q) x := by
    rw [State.rtoExpire, if_neg (by simp [up]), sent]
    simp only
    rw [if_neg (by simp [free, waits]), hc]
  rw [runs]
  generalize min s.rtoMax (2 * s.rd Reg.TRN_QP_T3_RTO_NS q) = rto
  have kept : Keeps State.noConns [Reg.TRN_QP_T3_RTO_NS] s ((s.setConn q c).wr Reg.TRN_QP_T3_RTO_NS q rto) := (s.setConn_keeps q c _).wr _ _ _
  have doubled : ((s.setConn q c).wr Reg.TRN_QP_T3_RTO_NS q rto).rd Reg.TRN_QP_T3_RTO_NS q = rto % 2 ^ 32 := State.rd_wr_self ..
  have conn : ((s.setConn q c).wr Reg.TRN_QP_T3_RTO_NS q rto).connOf q = c := s.connOf_setConn q c
  generalize (s.setConn q c).wr Reg.TRN_QP_T3_RTO_NS q rto = u at kept doubled conn ⊢
  rw [State.halveRate_of_off ((kept.rd Reg.TRN_CC_CTRL_ENABLE 0).trans off)]
  obtain ⟨copy, lost, holds⟩ := State.sentOf_lost (s := u) (x := x) (psn := psn) (mem := mem) ((kept.rd Reg.TRN_QP_T0_STATE q).trans up)
    (by rw [conn, ← hc]; exact sent) (by rw [kept.rd Reg.TRN_QP_T0_RETRY_MAX]; exact left)
  refine ⟨copy, ?_, ?_⟩
  · rw [lost.rd Reg.TRN_QP_T3_RTO_NS, doubled]
  · rw [holds, conn, ← hc]

/-- A resend limit: the queue pair is in ERROR (R183). -/
theorem State.errs_of_connected (up : s.cst q = Cst.connected) (noPel : s.pels = []) {code : Nat} (small : code < 2 ^ 8) (detail : Nat)
    (cause : Option Nat) : (s.qpError q code detail cause).rd Reg.TRN_QP_T0_STATE q = 3 ∧
      (s.qpError q code detail cause).rd Reg.TRN_QP_T5_ERR_SYNDROME q = code := by
  have nak : Keeps State.opsAndPels nakFields (s.stopped q code detail) (s.fatalNak q code detail) := State.sendNak_keeps ..
  obtain ⟨state, syndrome, -⟩ := State.errs_of_stopped (s := s) (q := q) ⟨congrArg Prod.snd nak.frame, nak.regs⟩ noPel cause false
  rw [State.qpError_of_connected up]
  exact ⟨state, syndrome.trans (Nat.mod_eq_of_lt small)⟩

/-! READs (R176). -/

/-- Nothing of a READ has come: all of it is missing. -/
theorem missingFrom_nil {n : Nat} (some_ : n ≠ 0) : missingFrom 2 0 n [] = [(0, n)] := by
  simp [missingFrom, some_]

/-- The state after a READ's timeout (R176). -/
def State.readRespTimeout (s : State) (q n : Nat) : State :=
  match (s.sqOf q).ops.find? (fun o => o.serial == n && o.sqe.opcode == 4 && o.st == .started) with
  | none => s
  | some o =>
    if o.cut = 0 ∨ (s.connOf q).sent.any (·.serial == n) ∨ (s.connOf q).reReqs.any (·.1 == n) then s
    else if s.rd Reg.TRN_QP_T0_RETRY_MAX q ≤ o.reissues then s.qpError q Code.retryExceeded 0 (some n)
    else
      (s.updOp q n (fun x => { x with reissues := x.reissues + 1 })).setConn q { s.connOf q with
        reReqs := (s.connOf q).reReqs ++ (missingFrom (2 * o.got.length + 2) 0 o.sqe.len o.got).map (fun x => (n, x.1, x.2)) }

/-- A READ of which nothing has come asks for all of it again. -/
theorem State.readRespTimeout_of_missing {n : Nat} (only : (s.sqOf q).ops = [o]) (serial : o.serial = n) (opcode : o.sqe.opcode = 4)
    (started : o.st = .started) (cut : o.cut ≠ 0) (acked : ∀ y ∈ (s.connOf q).sent, y.serial ≠ n) (unasked : ∀ y ∈ (s.connOf q).reReqs, y.1 ≠ n)
    (left : o.reissues < s.rd Reg.TRN_QP_T0_RETRY_MAX q) (got : o.got = []) (some_ : o.sqe.len ≠ 0) :
    ((s.readRespTimeout q n).sqOf q).ops = [{ o with reissues := o.reissues + 1 }] ∧
      ((s.readRespTimeout q n).connOf q).reReqs = (s.connOf q).reReqs ++ [(n, 0, o.sqe.len)] := by
  have quiet : ¬(o.cut = 0 ∨ (s.connOf q).sent.any (·.serial == n) = true ∨ (s.connOf q).reReqs.any (·.1 == n) = true) := by
    simpa [cut] using And.intro acked fun off len h => unasked (n, off, len) h rfl
  have missing : missingFrom (2 * o.got.length + 2) 0 o.sqe.len o.got = [(0, o.sqe.len)] := by rw [got]; exact missingFrom_nil some_
  unfold State.readRespTimeout
  rw [only, List.find?_cons_of_pos (by simp [serial, opcode, started])]
  simp only
  rw [if_neg quiet, if_neg (by omega), missing, State.connOf_setConn]
  refine ⟨?_, rfl⟩
  subst serial
  exact State.ops_updOp only _

/-! The rate (R188). -/

/-- Without CE marks and below the target, the rate rises by its step, within its limits. -/
theorem State.rateUpdate_of_rise (on : s.rd Reg.TRN_CC_CTRL_ENABLE 0 = 1) (seen : (s.connOf q).ackSeen = true) (unmarked : (s.connOf q).ceSum = 0)
    (below : (s.connOf q).rMin.getD 0 ≤ s.rd Reg.TRN_CC_TC0_TARGET_NS (s.rd Reg.QP_DESC0_TC q)) :
    ((s.rateUpdate q).connOf q).ackSeen = false ∧ ((s.rateUpdate q).connOf q).rate =
      min (65536 * s.rd Reg.TRN_CC_TC1_MAX_RATE (s.rd Reg.QP_DESC0_TC q)) (max (65536 * max 1 (s.rd Reg.TRN_CC_TC1_MIN_RATE (s.rd Reg.QP_DESC0_TC q)))
        ((s.connOf q).rate + 65536 * s.rd Reg.TRN_CC_TC0_AI_MBPS (s.rd Reg.QP_DESC0_TC q))) := by
  have shown (u : State) (c : Conn) (rate : Nat) : ((u.setConn q c).setRate q rate).connOf q = { c with rate } := by
    rw [State.setRate, State.connOf_setConn]
    exact State.connOf_setConn ..
  unfold State.rateUpdate
  simp only [State.on_eq, on, seen, unmarked, beq_self_eq_true, Bool.not_true, Bool.or_self, Bool.false_eq_true, if_false, lt_irrefl, Nat.not_lt.2 below,
    shown, and_self]

end Timers

end Sys2Proof.Machine
end

section
/-! A new packet of an operation goes out (R161, R162, R187, R204). -/

namespace Sys2Proof.Machine

open Sys2Proof Sys2Proof.Safety

/-- The state but for its registers, its far ports and its connections. -/
def State.noPaced (s : State) : State := { s with regs := [], far := [], conns := [] }

/-- What the sending of a paced packet writes. -/
def pacedFields : List Fld := [Reg.TRN_QSHP_TOKENS_TOKENS, Reg.TRN_TSHP_TOKENS_TOKENS] ++ sendFields

section Transmit

variable {s : State} {q e port path : Nat} {p : Pkt} {o : Op} {b : List Byte}

/-! Hub slots (R253). -/

theorem State.freeHub_keeps (s : State) (c : Nat) (w : Work) : Keeps State.noClus workFields s (s.freeHub c w) := by
  unfold State.freeHub State.showClu
  split
  · exact .refl ..
  · exact (((Keeps.refl State.noClus workFields s).of_eq).wr _ _ _).wr _ _ _

theorem State.releaseSent_keeps (s : State) (c : Nat) : Keeps State.noClus workFields s (s.releaseSent c) :=
  .foldl ((Keeps.refl ..).of_eq) _ fun _ _ _ h => h.trans (State.freeHub_keeps ..)

theorem State.releaseAll_keeps (s : State) : Keeps State.noClus workFields s s.releaseAll :=
  .foldl (.refl ..) _ fun _ _ _ h => h.trans (State.releaseSent_keeps ..)

/-! The class queue (R187, R197, R204). -/

theorem State.charge_keeps (s : State) (q t c bytes : Nat) :
    Keeps State.noRegs [Reg.TRN_QSHP_TOKENS_TOKENS, Reg.TRN_TSHP_TOKENS_TOKENS] s (s.charge q t c bytes) :=
  .foldl (.foldl (.refl ..) _ fun _ _ _ h => h.wr _ _ _) _ fun _ _ _ h => h.wr _ _ _

/-- A packet goes to its class queue: it is sealed and counted, and its queue pair is paced. -/
structure Emits (s : State) (q e : Nat) (p : Pkt) (sent : Pkt) (u : State) : Prop where
  kept : Keeps State.noPaced pacedFields s u
  counted : u.rd Reg.TRN_TX_PKTS_COUNT 0 = (s.rd Reg.TRN_TX_PKTS_COUNT 0 + 1) % 2 ^ 64
  conn : ∃ n, u.connOf q = { s.connOf q with nextTx := n }
  packet : ∃ nonce, sent = { p with entropy := e, nonce, txTime := s.now }

theorem State.emitPkt_of_canSend (egress : s.egressPort e q = some port) (on : s.classOn port = true) (send : CanSend s q path) :
    ∃ u sent, s.emitPkt q e p unicast = .sent u sent port ∧ Emits s q e p sent u := by
  obtain ⟨v, nonce, seals, sealed_⟩ := State.sealQp_of_canSend send false
  unfold State.emitPkt
  simp only [egress, on, Bool.not_true, Bool.false_eq_true, if_false, seals]
  refine ⟨_, _, rfl, ?_⟩
  unfold unicast
  generalize hp : ({ p with entropy := e, nonce, txTime := s.now } : Pkt) = sent
  have sends := Sends.of_sealed sealed_ (v.handOver_sends port q sent)
  have same : v.connOf q = s.connOf q := sealed_.connOf q
  have conn := sends.connOf q
  generalize v.handOver port q sent = w at sends conn ⊢
  rw [same]
  generalize wireBytes _ = bytes
  have charged := w.charge_keeps q (s.qpTenant q) p.tc bytes
  generalize w.charge q (s.qpTenant q) p.tc bytes = x at charged ⊢
  rw [charged.connOf, conn]
  refine ⟨?_, ?_, ⟨_, State.connOf_setConn ..⟩, nonce, hp.symm⟩
  · exact ((sends.kept.part State.noPaced).mono (by simp +contextual [pacedFields])).trans
      (((charged.part State.noPaced).mono (by simp +contextual [pacedFields])).of_eq)
  · rw [State.setConn_rd, charged.rd Reg.TRN_TX_PKTS_COUNT, sends.counted]

/-! The window of the sender (R161, R162). -/

/-- The new packet `p` of operation `n` goes out as `sent`: it takes its PSN, and its copy is kept. -/
structure SendsNew (s : State) (q n : Nat) (p sent : Pkt) (t : State) : Prop where
  kept : Keeps State.noPaced (Reg.TRN_QP_T1_SND_NXT :: pacedFields) s t
  counted : t.rd Reg.TRN_TX_PKTS_COUNT 0 = (s.rd Reg.TRN_TX_PKTS_COUNT 0 + 1) % 2 ^ 64
  next : t.rd Reg.TRN_QP_T1_SND_NXT q = (p.psn + 1) % 2 ^ 32
  copies : (t.connOf q).sent = (s.connOf q).sent ++ [{ psn := p.psn, serial := n, pkt := sent, txTime := s.now, entropy := s.nextEntropy q }]
  uni : (t.connOf q).mcast = none
  packet : ∃ nonce, sent = { p with entropy := s.nextEntropy q, nonce, txTime := s.now }

theorem State.sendFresh_of_canSend (uni : (s.connOf q).mcast = none) (egress : s.egressPort (s.nextEntropy q) q = some port)
    (on : s.classOn port = true) (send : CanSend s q path) : ∃ sent, SendsNew s q o.serial p sent (s.sendFresh q o p) := by
  obtain ⟨u, sent, emitted, kept, counted, ⟨n, conn⟩, nonce, packet⟩ := State.emitPkt_of_canSend (p := p) egress on send
  have tree : s.treeOf q = none := by rw [State.treeOf, uni]; rfl
  have needs : u.needs q = [0] := by rw [State.needs, conn, uni]
  refine ⟨sent, ?_⟩
  unfold State.sendFresh
  simp only [tree, emitted, needs, List.map_cons, List.map_nil, conn]
  have time : sent.txTime = s.now := by rw [packet]
  rw [time]
  refine ⟨?_, ?_, State.rd_wr_self .., ?_, ?_, nonce, packet⟩
  · have moved : Keeps State.noPaced (Reg.TRN_QP_T1_SND_NXT :: pacedFields) s u := kept.mono (by simp +contextual)
    exact (moved.of_eq).wr _ _ _
  · rw [State.rd_wr_of_key _ _ _ _ _ _ (by decide), State.setConn_rd, counted]
  · exact (congrArg Conn.sent (State.connOf_setConn ..) :)
  · exact (congrArg Conn.mcast (State.connOf_setConn ..) :).trans uni

/-! A packet of a WRITE with inline data (R110, R161). -/

/-- The payload of the next packet of an operation with inline data. -/
def State.inlinePart (s : State) (q : Nat) (o : Op) (b : List Byte) : List Byte :=
  (b.drop (o.cut * s.mtu q)).take (min (s.mtu q) (o.sqe.len - o.cut * s.mtu q))

/-- The next packet of a WRITE with inline data, before its entropy and its nonce are known. -/
def State.nextWrite (s : State) (q : Nat) (o : Op) (b : List Byte) : Pkt :=
  { s.buildPkt q o o.cut (s.rd Reg.TRN_QP_T1_SND_NXT q) with payload := s.inlinePart q o b }

theorem State.nextWrite_eq (opcode : o.sqe.opcode = 2) : s.nextWrite q o b =
    { s.hdr q 2 (s.rd Reg.TRN_QP_T1_SND_NXT q) o.msn with
      ackReq := decide (o.cut + 1 = o.npk), rkey := o.sqe.rkey, target := o.sqe.raddr, pktOffset := o.cut * s.mtu q, msgLen := o.sqe.len,
      payload := s.inlinePart q o b } := by
  simp only [State.nextWrite, State.buildPkt, opcode, pktOpc, State.fullPkt]
  rfl

theorem State.opc_buildPkt (opcode : o.sqe.opcode = 2) (k psn : Nat) : (s.buildPkt q o k psn).opc = 2 := by
  simp only [State.buildPkt, opcode, pktOpc]
  rfl

/-- Inline data is gathered from the entry. -/
theorem State.gather_inline (inl : o.sqe.inl = some b) (off n : Nat) (data : List Byte) (err : Nat) :
    (if n = 0 then (s, Gather.bytes []) else s.gather q o off n data err) = (s, .bytes ((b.drop off).take n)) := by
  split
  · next none_ => rw [none_, List.take_zero]
  · rw [State.gather, inl]

theorem State.transmitFresh_of_inline {data : List Byte} {t : State} (started : o.st = .started) (opcode : o.sqe.opcode = 2) (inl : o.sqe.inl = some b)
    (sends : s.sendFresh q o (s.nextWrite q o b) = t) (moves : t.rd Reg.TRN_QP_T1_SND_NXT q ≠ s.rd Reg.TRN_QP_T1_SND_NXT q) :
    s.transmitFresh q o data 0 =
      t.updOp q o.serial (fun x => { x with cut := x.cut + 1, partialMask := x.partialMask ||| t.fencedMask q }) := by
  have opc := State.opc_buildPkt (s := s) (q := q) opcode o.cut (s.rd Reg.TRN_QP_T1_SND_NXT q)
  have full : s.fullPkt q (s.buildPkt q o o.cut (s.rd Reg.TRN_QP_T1_SND_NXT q)).opc (s.buildPkt q o o.cut (s.rd Reg.TRN_QP_T1_SND_NXT q)).format =
    s.mtu q := by rw [opc]; exact if_neg (by simp)
  have loaded : ¬((s.buildPkt q o o.cut (s.rd Reg.TRN_QP_T1_SND_NXT q)).opc = 4 ∨ (s.buildPkt q o o.cut (s.rd Reg.TRN_QP_T1_SND_NXT q)).opc = 6 ∨
    (s.buildPkt q o o.cut (s.rd Reg.TRN_QP_T1_SND_NXT q)).opc = 7) := by rw [opc]; decide
  have fresh : ¬o.st = .queued := by rw [started]; decide
  unfold State.transmitFresh
  simp only [if_neg fresh, if_neg loaded, full, State.gather_inline inl, ← State.inlinePart.eq_1, ← State.nextWrite.eq_1, sends, if_neg moves]

/-- What a queue pair that is due sends next (R161, R162, R187). -/
theorem State.transmit_of_fresh {data : List Byte} {c : Nat} (up : s.rd Reg.TRN_QP_T0_STATE q = 1) (on : s.rd Reg.TRN_CTRL_ENABLE 0 = 1)
    (valid : s.rd Reg.QP_DESC0_VALID q = 1) (due : (s.connOf q).nextTx ≤ s.now) (rate : s.rate q ≠ 0) (served : s.steer q = some c)
    (shaped : s.shapersPass q (s.qpTenant q) (s.rd Reg.QP_DESC0_TC q) = true) (next : s.nextSend q = .fresh o) :
    s.transmit q data 0 = s.transmitFresh q o data 0 := by
  unfold State.transmit
  rw [if_neg (by simp [on, State.qpValid, valid, State.cst, up, Cst.connected, due, rate, served, shaped]), next]

theorem State.nextSend_of_fresh (first : ∀ y ∈ (s.connOf q).sent, y.resend = false) (unasked : (s.connOf q).respQ = [])
    (room : d32 (s.rd Reg.TRN_QP_T1_SND_NXT q) (s.rd Reg.TRN_QP_T1_SND_UNA q) < 1024) (only : (s.sqOf q).ops = [o]) (started : o.st = .started)
    (left : o.cut < o.npk) : s.nextSend q = .fresh o := by
  have none_ : (s.connOf q).sent.find? (fun x => x.resend && !x.hold) = none := List.find?_eq_none.2 fun y hy => by simp [first y hy]
  unfold State.nextSend
  simp only [none_, unasked, if_neg (Nat.not_le.2 room), only]
  rw [List.find?_cons_of_pos (by simp [started, left])]

/-- The next packet of a WRITE with inline data goes out. -/
structure TransmitsWrite (s : State) (q : Nat) (o : Op) (b : List Byte) (t : State) : Prop where
  sent : ∃ nonce, (t.connOf q).sent = (s.connOf q).sent ++ [
    { psn := s.rd Reg.TRN_QP_T1_SND_NXT q, serial := o.serial, txTime := s.now, entropy := s.nextEntropy q
      pkt := { s.nextWrite q o b with entropy := s.nextEntropy q, nonce, txTime := s.now } }]
  next : t.rd Reg.TRN_QP_T1_SND_NXT q = (s.rd Reg.TRN_QP_T1_SND_NXT q + 1) % 2 ^ 32
  ops : (t.sqOf q).ops = [{ o with cut := o.cut + 1 }]
  counted : t.rd Reg.TRN_TX_PKTS_COUNT 0 = (s.rd Reg.TRN_TX_PKTS_COUNT 0 + 1) % 2 ^ 64

theorem State.transmitFresh_of_canSend {data : List Byte} (uni : (s.connOf q).mcast = none) (egress : s.egressPort (s.nextEntropy q) q = some port)
    (on : s.classOn port = true) (send : CanSend s q path) (only : (s.sqOf q).ops = [o]) (started : o.st = .started) (opcode : o.sqe.opcode = 2)
    (inl : o.sqe.inl = some b) :
    TransmitsWrite s q o b (s.transmitFresh q o data 0).releaseAll := by
  have psn : (s.nextWrite q o b).psn = s.rd Reg.TRN_QP_T1_SND_NXT q := by rw [State.nextWrite_eq opcode]; rfl
  obtain ⟨sent, kept, counted, next, copies, alone, nonce, packet⟩ :=
    State.sendFresh_of_canSend (o := o) (p := s.nextWrite q o b) uni egress on send
  rw [psn] at next copies
  generalize ht : s.sendFresh q o (s.nextWrite q o b) = t at kept counted next copies alone
  rw [State.transmitFresh_of_inline started opcode inl ht (by omega)]
  have unfenced : t.fencedMask q = 0 := by rw [State.fencedMask, alone]
  have ops : (t.sqOf q).ops = [o] := by rw [kept.sqOf, only]
  have cut := State.ops_updOp ops (fun x => { x with cut := x.cut + 1, partialMask := x.partialMask ||| t.fencedMask q })
  have updated := t.updOp_keeps q o.serial (fun x => { x with cut := x.cut + 1, partialMask := x.partialMask ||| t.fencedMask q }) []
  generalize t.updOp q o.serial (fun x => { x with cut := x.cut + 1, partialMask := x.partialMask ||| t.fencedMask q }) = u at cut updated ⊢
  have released := u.releaseAll_keeps
  refine ⟨⟨nonce, ?_⟩, ?_, ?_, ?_⟩
  · rw [released.connOf, updated.connOf, copies, packet]
  · rw [released.rd Reg.TRN_QP_T1_SND_NXT, updated.rd Reg.TRN_QP_T1_SND_NXT, next]
  · rw [released.sqOf, cut, unfenced]
    simp
  · rw [released.rd Reg.TRN_TX_PKTS_COUNT, updated.rd Reg.TRN_TX_PKTS_COUNT, counted]

end Transmit

end Sys2Proof.Machine

open Sys2Proof Sys2Proof.Machine Sys2Proof.Safety

/-- Settles O37: what each timer of a connected queue pair does. -/
theorem transportTimers : Obligations.TransportTimers := by
  unfold Obligations.TransportTimers
  intro s q psn mem n e c port data o x b k nxt tc up
  refine ⟨?packet, ?ack, fun sent => ⟨?rto, ?backoff, ?limit⟩, ?read, ?entropy, ?rate⟩
  case packet =>
    intro on valid due rate served shaped first unasked uni room _ only started left opcode inl egress class_ send
    have next := State.nextSend_of_fresh first unasked room only started left
    obtain ⟨⟨nonce, sent⟩, nxt, ops, counted⟩ := State.transmitFresh_of_canSend (data := data) uni egress class_ send only started opcode inl
    have runs : exec (.packetTransmit q data 0) s = .next (s.transmitFresh q o data 0).releaseAll :=
      congrArg (fun t : State => Host.Outcome.next t.releaseAll) (State.transmit_of_fresh up on valid due rate served shaped next)
    have packet := State.nextWrite_eq (s := s) (q := q) (b := b) opcode
    exact ⟨_, runs, { s.nextWrite q o b with entropy := s.nextEntropy q, nonce, txTime := s.now }, congrArg Pkt.opc packet, congrArg Pkt.psn packet,
      congrArg Pkt.msn packet, congrArg Pkt.payload packet, congrArg Pkt.target packet, congrArg Pkt.pktOffset packet, congrArg Pkt.msgLen packet, rfl,
      congrArg Pkt.ackReq packet, sent, nxt, ops, counted⟩
  case ack =>
    intro timer send
    have runs : exec (.ackCoalesceTimer q) s = .next (s.ackNow q k.ackPsn k.ackEcho k.ackRcvd) := congrArg Host.Outcome.next (if_pos timer)
    have sends := State.ackNow_of_canSend send k.ackPsn k.ackEcho k.ackRcvd
    have conn := (sends.connOf q).trans (State.connOf_setConn ..)
    exact ⟨_, runs, congrArg Conn.ackTimer conn, congrArg Conn.sinceAck conn, congrArg Conn.ce conn, sends.counted⟩
  case rto => exact fun free waits left off => ⟨_, rfl, State.rtoExpire_of_sent up sent free waits left off⟩
  case backoff =>
    intro hold
    refine ⟨_, rfl, ?_, rfl⟩
    rw [State.connOf_setConn]
    have marks := Conn.sentOf_map sent (d := { k with sent := k.sent.map (fun y =>
      if y.psn == psn && y.mem == mem && y.hold then { y with hold := false, resend := true, uncounted := true } else y) }) rfl
      (fun y => by split <;> exact ⟨rfl, rfl⟩)
    simpa [Conn.sentOf_sent sent, hold] using marks
  case limit =>
    intro nak frozen noPel
    have limited : ¬(x.nakAt = none ∨ x.nakReason = 3) := by simp [frozen, Option.isSome_iff_ne_none.1 nak]
    refine ⟨_, ?_, State.errs_of_connected up noPel (by split <;> decide) 0 (some x.serial)⟩
    show Host.Outcome.next (match (s.connOf q).sentOf psn mem with
      | none => s
      | some x =>
        if x.nakAt = none ∨ x.nakReason = 3 then s
        else s.qpError q (if x.nakReason = 0 then Code.pageTimeout else Code.retryExceeded) 0 (some x.serial)) = _
    rw [show (s.connOf q).sentOf psn mem = some x from sent]
    exact congrArg Host.Outcome.next (if_neg limited)
  case read =>
    intro only serial opcode started cut acked unasked left got some_
    exact ⟨_, rfl, State.readRespTimeout_of_missing only serial opcode started cut acked unasked left got some_⟩
  case entropy => exact ⟨_, rfl, State.connOf_setConn .., rfl⟩
  case rate => exact fun on seen unmarked below => ⟨_, rfl, State.rateUpdate_of_rise on seen unmarked below⟩
end

section
/-! Shapers and meters: what APPLY takes, and what a refill adds (R196 to R199). -/

namespace Sys2Proof.Machine

open Sys2Proof Sys2Proof.Safety

theorem State.listed_wr_of_key (s : State) (f g : Fld) (i v : Nat) (h : g.key ≠ f.key) : (s.wr f i v).listed g = s.listed g := by
  simp [State.listed, State.wr, Tbl.get_set, h]

/-- The count moves on, and nothing else changes. -/
theorem State.reach_keepsRest (s : State) (t : Nat) : Keeps State.noRegs [Reg.CAD_COUNT_COUNT] s (s.reach t) :=
  .ite _ ((Keeps.refl ..).wr _ _ _) (.refl ..)

section Shapers

variable {s : State} {act tok : Fld} {i j k cyc : Nat} {m : Meter}

/-! APPLY (R199). -/

/-- A shaper of either kind has taken a configuration: what is applied beside registers is `x`, and the tokens stay where `same` holds. -/
def State.shaperTaken (s : State) (act tok : Fld) (i cfg : Nat) (x : Traffic) (same : Prop) [Decidable same] : State :=
  let u := { s.wr act i cfg with traffic := x }
  if same then u else u.wr tok i 0

/-- What a shaper that takes a configuration holds then. -/
structure TakesShaper (s : State) (act tok : Fld) (i cfg : Nat) (x : Traffic) (same : Prop) [Decidable same] (t : State) : Prop where
  active : t.rd act i = cfg % 2 ^ act.w
  traffic : t.traffic = x
  tokens : t.rd tok i = if same then s.rd tok i else 0
  rest : SameFieldsBut [act, tok] s t

theorem State.shaperTaken_takes (cfg : Nat) (x : Traffic) (same : Prop) [Decidable same] (apart : tok.key ≠ act.key) :
    TakesShaper s act tok i cfg x same (s.shaperTaken act tok i cfg x same) := by
  have configured : SameFieldsBut [act, tok] s { s.wr act i cfg with traffic := x } :=
    (s.sameRegsBut_wr act i cfg).sameFieldsBut List.mem_cons_self
  unfold State.shaperTaken
  split
  · next h =>
    exact ⟨s.rd_wr_self act i cfg, rfl, (s.rd_wr_of_key act tok i i cfg apart).trans (if_pos h).symm, configured⟩
  · next h =>
    refine ⟨(State.rd_wr_of_key _ tok act i i 0 apart.symm).trans (s.rd_wr_self act i cfg), rfl, ?_, ?_⟩
    · rw [State.rd_wr_self, if_neg h, Nat.zero_mod]
    · exact configured.trans ((State.sameRegsBut_wr _ tok i 0).sameFieldsBut (by simp))

theorem State.qshpTake_takes (s : State) (i cfg bind : Nat) : TakesShaper s Reg.TRN_QSHP_ACT_CFG Reg.TRN_QSHP_TOKENS_TOKENS i cfg
    { s.traffic with qbind := Tbl.set 0 i bind s.traffic.qbind }
    (bits (s.rd Reg.TRN_QSHP_ACT_CFG i) 0 48 = bits cfg 0 48 ∧ Tbl.get 0 i s.traffic.qbind = bind) (s.qshpTake i cfg bind) :=
  State.shaperTaken_takes cfg _ _ (by decide)

theorem State.tshpTake_takes (s : State) (i cfg bind : Nat) : TakesShaper s Reg.TRN_TSHP_ACT_CFG Reg.TRN_TSHP_TOKENS_TOKENS i cfg
    { s.traffic with tbind := Tbl.set 0 i bind s.traffic.tbind }
    (bits (s.rd Reg.TRN_TSHP_ACT_CFG i) 0 48 = bits cfg 0 48 ∧ Tbl.get 0 i s.traffic.tbind = bind) (s.tshpTake i cfg bind) :=
  State.shaperTaken_takes cfg _ _ (by decide)

@[simp] theorem State.meterOf_setMeter (s : State) (i : Nat) (m : Meter) : (s.setMeter i m).meterOf i = m := Tbl.get_set_self ..

theorem State.mtrTake_takes (s : State) (i : Nat) (n : Meter) : (s.mtrTake i n).regs = s.regs ∧ (s.mtrTake i n).meterOf i =
    if bits (s.meterOf i).cfg0 0 48 = bits n.cfg0 0 48 ∧ bits (s.meterOf i).cfg1 0 48 = bits n.cfg1 0 48 ∧ (s.meterOf i).bind = n.bind then
      { s.meterOf i with cfg0 := n.cfg0, cfg1 := n.cfg1 }
    else { n with tc := 1024 * bits n.cfg1 0 24, tp := 1024 * bits n.cfg1 24 24 } := by
  unfold State.mtrTake
  dsimp only
  split <;> exact ⟨rfl, State.meterOf_setMeter ..⟩

/-! A refill (R198). -/

/-- The tokens of a shaper after `cyc` cycles. -/
def State.refilled (s : State) (act tok : Fld) (cyc i : Nat) : Nat :=
  wrap 64 (min (tokens (s.rd tok i) + (refillOf (bits (s.rd act i) 0 24) cyc : Nat)) ((1024 * bits (s.rd act i) 24 24 : Nat) : Int))

theorem State.refillShaper_eq (s : State) (act tok : Fld) (cyc i : Nat) :
    s.refillShaper act tok cyc i = s.wr tok i (s.refilled act tok cyc i) := rfl

theorem State.refilled_lt (s : State) (act tok : Fld) (cyc i : Nat) : s.refilled act tok cyc i < 2 ^ 64 := by
  unfold State.refilled wrap
  omega

/-- What a refill writes. -/
def refillFields : List Fld := [Reg.TRN_QSHP_TOKENS_TOKENS, Reg.TRN_TSHP_TOKENS_TOKENS]

/-- A refill of one shaper of each kind and of one meter. -/
structure Refills (s : State) (i j k cyc : Nat) (m : Meter) (t : State) : Prop where
  qp : t.rd Reg.TRN_QSHP_TOKENS_TOKENS i = s.refilled Reg.TRN_QSHP_ACT_CFG Reg.TRN_QSHP_TOKENS_TOKENS cyc i
  tenant : t.rd Reg.TRN_TSHP_TOKENS_TOKENS j = s.refilled Reg.TRN_TSHP_ACT_CFG Reg.TRN_TSHP_TOKENS_TOKENS cyc j
  meter : t.meterOf k = m.refill cyc
  rest : SameFieldsBut refillFields s t

theorem State.refillAll_of_one (qps : s.listed Reg.TRN_QSHP_ACT_CFG = [i]) (tenants : s.listed Reg.TRN_TSHP_ACT_CFG = [j])
    (meters : s.traffic.meters = [(k, m)]) : Refills s i j k cyc m (s.refillAll cyc) := by
  let u := s.refillShaper Reg.TRN_QSHP_ACT_CFG Reg.TRN_QSHP_TOKENS_TOKENS cyc i
  let v := u.refillShaper Reg.TRN_TSHP_ACT_CFG Reg.TRN_TSHP_TOKENS_TOKENS cyc j
  have still : u.listed Reg.TRN_TSHP_ACT_CFG = [j] := (s.listed_wr_of_key _ _ _ _ (by decide)).trans tenants
  have same : v.meterOf k = m := by
    show Tbl.get {} k s.traffic.meters = m
    rw [meters]
    exact if_pos rfl
  have all : s.refillAll cyc = v.setMeter k (m.refill cyc) := by
    have listed : v.traffic.meters.map Prod.fst = [k] := congrArg (List.map Prod.fst) meters
    simp only [State.refillAll, qps, List.foldl_cons, List.foldl_nil]
    rw [still, List.foldl_cons, List.foldl_nil, listed, List.foldl_cons, List.foldl_nil, same]
  have tenant : u.refilled Reg.TRN_TSHP_ACT_CFG Reg.TRN_TSHP_TOKENS_TOKENS cyc j =
      s.refilled Reg.TRN_TSHP_ACT_CFG Reg.TRN_TSHP_TOKENS_TOKENS cyc j := by
    simp only [State.refilled, u, State.refillShaper_eq]
    rw [State.rd_wr_of_key _ _ _ _ _ _ (by decide), State.rd_wr_of_key _ _ _ _ _ _ (by decide)]
  have written : Keeps State.noRegs refillFields s v := ((Keeps.refl ..).wr _ _ _).wr _ _ _
  rw [all]
  refine ⟨?_, ?_, State.meterOf_setMeter .., written.regs⟩
  · exact (State.rd_wr_of_key _ _ _ _ _ _ (by decide)).trans ((State.rd_wr_self ..).trans (Nat.mod_eq_of_lt (State.refilled_lt ..)))
  · exact (State.rd_wr_self ..).trans ((Nat.mod_eq_of_lt (State.refilled_lt ..)).trans tenant)

/-- While the cadence is not locked, a refill that does not fall at rest adds what the cycles since the last one give. -/
theorem exec_shaperRefill_of_free {at_ : Nat} (free : s.synced = false) (awake : s.resting = false)
    (due : at_ = max s.traffic.lastRefill (s.markOf 5) + s.refillCt) (ahead : s.now ≤ at_) (bound : at_ < 2 ^ 64) :
    ∃ u, u = (s.reach at_).refillAll (at_ - s.traffic.lastRefill) ∧
      exec .shaperRefill s = .next { u with traffic := { u.traffic with lastRefill := u.now } } := by
  refine ⟨_, rfl, ?_⟩
  have falls : s.periodic .refill s.refillCt (max s.traffic.lastRefill (s.markOf 5)) = (s.reach at_, true, false) := by
    rw [due]
    exact if_neg (by simp [free])
  have elapsed : (at_ + (2 ^ 64 - s.traffic.lastRefill)) % 2 ^ 64 = at_ - s.traffic.lastRefill := by omega
  show execShaperRefill s = _
  simp only [execShaperRefill, falls, awake, State.now_reach ahead bound, elapsed, Bool.not_true, Bool.false_eq_true, if_false]

theorem does_shaperRefill {at_ : Nat} (qps : s.listed Reg.TRN_QSHP_ACT_CFG = [i]) (tenants : s.listed Reg.TRN_TSHP_ACT_CFG = [j])
    (meters : s.traffic.meters = [(k, m)]) (free : s.synced = false) (awake : s.resting = false)
    (due : at_ = max s.traffic.lastRefill (s.markOf 5) + s.refillCt) (ahead : s.now ≤ at_) (bound : at_ < 2 ^ 64) :
    Does .shaperRefill s fun t => t.now = at_ ∧ t.traffic.lastRefill = at_ ∧
      t.rd Reg.TRN_QSHP_TOKENS_TOKENS i = s.refilled Reg.TRN_QSHP_ACT_CFG Reg.TRN_QSHP_TOKENS_TOKENS (at_ - s.traffic.lastRefill) i ∧
      t.rd Reg.TRN_TSHP_TOKENS_TOKENS j = s.refilled Reg.TRN_TSHP_ACT_CFG Reg.TRN_TSHP_TOKENS_TOKENS (at_ - s.traffic.lastRefill) j ∧
      t.meterOf k = m.refill (at_ - s.traffic.lastRefill) := by
  obtain ⟨u, all, runs⟩ := exec_shaperRefill_of_free free awake due ahead bound
  have reached := s.reach_keepsRest at_
  have listed (f : Fld) (hf : f.key ≠ Reg.CAD_COUNT_COUNT.key) : (s.reach at_).listed f = s.listed f := by
    unfold State.reach
    split
    · exact s.listed_wr_of_key _ _ _ _ hf
    · rfl
  have fills (act tok : Fld) (cyc n : Nat) (ha : ∀ g ∈ [Reg.CAD_COUNT_COUNT], act.key ≠ g.key)
      (ht : ∀ g ∈ [Reg.CAD_COUNT_COUNT], tok.key ≠ g.key) : (s.reach at_).refilled act tok cyc n = s.refilled act tok cyc n := by
    unfold State.refilled
    rw [reached.rd act n ha, reached.rd tok n ht]
  obtain ⟨qp, tenant, meter, rest⟩ := State.refillAll_of_one (cyc := at_ - s.traffic.lastRefill) ((listed _ (by decide)).trans qps)
    ((listed _ (by decide)).trans tenants) ((congrArg (·.traffic.meters) reached.frame :).trans meters)
  rw [← all] at qp tenant meter rest
  have now : u.now = at_ := (rest Reg.CAD_COUNT_COUNT 0 (by decide)).trans (State.now_reach ahead bound)
  exact ⟨_, runs, now, now, qp.trans (fills _ _ _ _ (by decide) (by decide)), tenant.trans (fills _ _ _ _ (by decide) (by decide)), meter⟩

end Shapers

end Sys2Proof.Machine

open Sys2Proof Sys2Proof.Machine Sys2Proof.Safety

/-- Settles O44: a refill is a write of each token field and of each meter; APPLY is one operation for shapers of either kind, and one for meters. -/
theorem trafficShaping : Obligations.TrafficShaping := by
  unfold Obligations.TrafficShaping
  intro s i j k m last at_ filled q g n o
  refine ⟨?refill, fun hi => ?qp, fun hi => ⟨?tenant, ?meter⟩⟩
  case refill => exact fun qps tenants meters free awake ahead bound => does_shaperRefill qps tenants meters free awake rfl ahead bound
  case qp =>
    have runs : exec (.trnQshpApply i) s = .next (s.qshpTake i q.1 q.2) :=
      congrArg (fun n => Host.Outcome.next (s.qshpTake n (s.qshpShadow n).1 (s.qshpShadow n).2)) (Nat.mod_eq_of_lt hi)
    obtain ⟨active, traffic, tokens, rest⟩ := s.qshpTake_takes i q.1 q.2
    exact ⟨_, runs, active, (congrArg (Tbl.get 0 i ·.qbind) traffic).trans (Tbl.get_set_self ..), tokens, rest⟩
  case tenant =>
    have runs : exec (.trnTshpApply i) s = .next (s.tshpTake i g.1 g.2) :=
      congrArg (fun n => Host.Outcome.next (s.tshpTake n (s.tshpShadow n).1 (s.tshpShadow n).2)) (Nat.mod_eq_of_lt hi)
    obtain ⟨active, traffic, tokens, rest⟩ := s.tshpTake_takes i g.1 g.2
    exact ⟨_, runs, active, (congrArg (Tbl.get 0 i ·.tbind) traffic).trans (Tbl.get_set_self ..), tokens, rest⟩
  case meter =>
    have runs : exec (.trnMtrApply i) s = .next (s.mtrTake i n) :=
      congrArg (fun n => Host.Outcome.next (s.mtrTake n (s.mtrShadow n))) (Nat.mod_eq_of_lt hi)
    exact ⟨_, runs, s.mtrTake_takes i n⟩
end

section
/-! Gates, pauses and hop flow control of a far port (R193, R200 to R202, R214). -/

namespace Sys2Proof.Machine

open Sys2Proof Sys2Proof.Safety

/-! Gates (R200, R202). -/

section Gates

variable {s : State}

theorem State.gateList_of_keeps {t : State} {l : List Fld} (h : Keeps State.noRegs l s t) (hf : ∀ g ∈ l, Reg.TRN_GCL_ACT.key ≠ g.key) :
    t.gateList = s.gateList := by
  have len : t.traffic.gateLen = s.traffic.gateLen := (congrArg (·.traffic.gateLen) h.frame :)
  simp only [State.gateList, len, h.rd Reg.TRN_GCL_ACT _ hf]

theorem State.gateReady_reach (s : State) (t : Nat) : (s.reach t).gateReady = s.gateReady := by
  have reached := s.reach_keepsRest t
  have traffic : (s.reach t).traffic = s.traffic := (congrArg State.traffic reached.frame :)
  simp only [State.gateReady, State.gateValid, State.synced, State.on_eq, State.gateList_of_keeps reached (by decide), traffic,
    reached.rd Reg.TRN_EGR_CTRL_GATE_EN, reached.rd Reg.CAD_STATUS_STATE]

theorem State.gateNow_reach (s : State) (t : Nat) : (s.reach t).gateNow =
    gateEntry s.gateList 0 (((s.reach t).now - s.traffic.gateBase) % max 1 s.traffic.gateCycle) := by
  have reached := s.reach_keepsRest t
  have traffic : (s.reach t).traffic = s.traffic := (congrArg State.traffic reached.frame :)
  rw [State.gateNow, State.gateList_of_keeps reached (by decide), traffic]

theorem State.keepGate_rd (s : State) (f : Fld) (i : Nat) : s.keepGate.rd f i = s.rd f i := by
  unfold State.keepGate
  split <;> rfl

/-- What is shown while a gate list is applied. -/
theorem State.showGate_of_on (on : s.gateOn = true) :
    s.showGate.rd Reg.TRN_GATE_STATUS_ENTRY 0 = s.gateNow.1 % 2 ^ Reg.TRN_GATE_STATUS_ENTRY.w ∧
      s.showGate.rd Reg.TRN_GATE_STATUS_RUNNING 0 = 1 ∧ s.showGate.rd Reg.TRN_GATE_STATUS_FALLBACK_ACTIVE 0 = 0 := by
  simp only [State.showGate, State.keepGate_rd, State.put_eq, on, if_true]
  refine ⟨?_, ?_, ?_⟩
  · rw [State.rd_wr_of_key _ _ _ _ _ _ (by decide), State.rd_wr_self]
  · rw [State.rd_wr_of_key _ _ _ _ _ _ (by decide), State.rd_wr_of_key _ _ _ _ _ _ (by decide), State.rd_wr_of_key _ _ _ _ _ _ (by decide),
      State.rd_wr_self]
    rfl
  · rw [State.rd_wr_of_key _ _ _ _ _ _ (by decide), State.rd_wr_of_key _ _ _ _ _ _ (by decide), State.rd_wr_self]
    rfl

theorem exec_gateEntryChange (ready : s.gateReady = true) (begun : s.traffic.gateBase ≤ s.now) (armed : s.armed = [])
    (awake : s.resting = false) : exec .gateEntryChange s = .next (s.reach (s.now + s.gateNow.2.2)).showGate := by
  have next : s.isNext .gate (s.now + s.gateNow.2.2) = true := by simp [State.isNext, armed]
  show execGateEntryChange s = _
  simp only [execGateEntryChange, ready, if_neg (Nat.not_lt.2 begun), next, awake, Bool.not_true, Bool.false_eq_true, if_false]

theorem does_gateEntryChange {at_ : Nat} (ready : s.gateReady = true) (begun : s.traffic.gateBase ≤ s.now) (armed : s.armed = [])
    (awake : s.resting = false) (due : at_ = s.now + s.gateNow.2.2) (bound : at_ < 2 ^ 64) : Does .gateEntryChange s fun t => t.now = at_ ∧
      t.rd Reg.TRN_GATE_STATUS_ENTRY 0 = (gateEntry s.gateList 0 ((at_ - s.traffic.gateBase) % max 1 s.traffic.gateCycle)).1 %
        2 ^ Reg.TRN_GATE_STATUS_ENTRY.w ∧
      t.rd Reg.TRN_GATE_STATUS_RUNNING 0 = 1 ∧ t.rd Reg.TRN_GATE_STATUS_FALLBACK_ACTIVE 0 = 0 := by
  have now : (s.reach at_).now = at_ := State.now_reach (by omega) bound
  have base : (s.reach at_).traffic.gateBase = s.traffic.gateBase := (congrArg (·.traffic.gateBase) (s.reach_keepsRest at_).frame :)
  have on : (s.reach at_).gateOn = true := by
    rw [State.gateOn, State.gateReady_reach, ready, base, now]
    exact decide_eq_true (by omega)
  have entry := s.gateNow_reach at_
  rw [now] at entry
  have shown := State.showGate_of_on on
  rw [entry] at shown
  exact ⟨_, due ▸ exec_gateEntryChange ready begun armed awake, ((s.reach at_).showGate_keeps.now).trans now, shown⟩

end Gates

/-! Hop flow control toward the peer (R193). -/

section HopFlow

variable {s : State} {n c : Nat}

theorem does_pfcXonSend (off : bit (s.rd Reg.TRN_HFC_STAT_OFF_SENT n) c = true) (drained : (s.farOf n).occ c < 1024 * s.xonKib n) :
    Does (.pfcXonSend n c) s fun t => t.out = s.out ++ [.pfc n c 0] ∧
      t.rd Reg.TRN_HFC_STAT_OFF_SENT n = clrBit (s.rd Reg.TRN_HFC_STAT_OFF_SENT n) c % 2 ^ 16 := by
  have counted := (s.emit (.pfc n c 0)).pmc_keeps 14 0x63 none 1
  exact ⟨_, congrArg Host.Outcome.next (if_pos ⟨off, drained⟩), (congrArg State.out counted.frame :), State.rd_wr_self ..⟩

theorem does_pfcRefreshTimer (off : bit (s.rd Reg.TRN_HFC_STAT_OFF_SENT n) c = true) (full : 1024 * s.xonKib n ≤ (s.farOf n).occ c) :
    Does (.pfcRefreshTimer n c) s fun t => t.out = s.out ++ [.pfc n c 0xFFFF] ∧ SameFieldsBut pmcFields s t := by
  have counted := (s.emit (.pfc n c 0xFFFF)).pmc_keeps 14 0x63 none 1
  exact ⟨_, congrArg Host.Outcome.next (if_pos ⟨off, full⟩), (congrArg State.out counted.frame :), counted.regs⟩

end HopFlow

/-! Pauses that the peer asks for (R214). -/

section Pauses

variable {s t : State} {n c quanta : Nat}

theorem State.pauseEnd_of_keeps {l : List Fld} (h : Keeps State.noRegs l s t) (n quanta : Nat)
    (hn : ∀ g ∈ l, Reg.CAD_COUNT_COUNT.key ≠ g.key := by decide) (hw : ∀ g ∈ l, Reg.MAC_PORT_CFG_WIDTH.key ≠ g.key := by decide) :
    t.pauseEnd n quanta = s.pauseEnd n quanta := by
  simp only [State.pauseEnd, State.now, State.portRate, h.rd Reg.CAD_COUNT_COUNT 0 hn, h.rd Reg.MAC_PORT_CFG_WIDTH n hw]

theorem Keeps.farOf {F : State → State} {l : List Fld} (h : Keeps F l s t) (n : Nat)
    (hF : ∀ u, State.farOf (F u) n = u.farOf n := by intro; rfl) :
    t.farOf n = s.farOf n := (h.part (State.farOf · n) hF).frame

/-- A PAUSE of all classes. -/
theorem State.setPause_all (some_ : quanta ≠ 0) : s.setPause n 16 quanta =
    s.setFar n { s.farOf n with pausedTo := Tbl.put 16 (s.pauseEnd n quanta) (s.farOf n).pausedTo } := by
  simp only [State.setPause, if_true, if_neg some_]

/-- A pause of one class is shown in its bit of PAUSED. -/
theorem State.setPause_class (class_ : c < 16) : s.setPause n c quanta =
    (s.setFar n { s.farOf n with
      pausedTo := if quanta = 0 then Tbl.del c (s.farOf n).pausedTo else Tbl.put c (s.pauseEnd n quanta) (s.farOf n).pausedTo }).wr
        Reg.TRN_HFC_STAT_PAUSED n
        (if quanta = 0 then clrBit (s.rd Reg.TRN_HFC_STAT_PAUSED n) c else setBit (s.rd Reg.TRN_HFC_STAT_PAUSED n) c) :=
  if_neg (Nat.ne_of_lt class_)

theorem does_pauseFrame (some_ : quanta ≠ 0) (on : s.rd Reg.MAC_PORT_CFG_PAUSE_RX_EN n = 1) (off : s.rd Reg.MAC_PORT_CFG_PFC_RX_EN n = 0) :
    Does (.pauseFrame n quanta) s fun t =>
      t.farOf n = { s.farOf n with pausedTo := Tbl.put 16 (s.pauseEnd n quanta) (s.farOf n).pausedTo } ∧
      SameFieldsBut [Reg.MAC_RX_PAUSE_COUNT] s t ∧ t.rd Reg.MAC_RX_PAUSE_COUNT n = satAdd 64 (s.rd Reg.MAC_RX_PAUSE_COUNT n) 1 := by
  obtain ⟨counted, -, -⟩ := s.writes_count Reg.MAC_RX_PAUSE_COUNT n 1
  have heard : Keeps State.noRegs [Reg.MAC_RX_PAUSE_COUNT] s (s.count Reg.MAC_RX_PAUSE_COUNT n) := (Keeps.refl ..).wr _ _ _
  have runs : exec (.pauseFrame n quanta) s = .next ((s.count Reg.MAC_RX_PAUSE_COUNT n).setPause n 16 quanta) := by
    show execPauseFrame n quanta s = _
    simp [execPauseFrame, on, off, some_]
  rw [State.setPause_all some_, State.pauseEnd_of_keeps heard, heard.farOf] at runs
  exact ⟨_, runs, State.farOf_setFar .., heard.regs, counted _ (List.mem_singleton_self _)⟩

theorem bit_two_pow (c d : Nat) : bit (2 ^ c) d = (c == d) := by
  rw [bit, ← Nat.testBit_eq_decide_div_mod_eq, Nat.testBit_two_pow]
  rfl

/-- A PFC frame that names one class pauses that class alone. -/
theorem exec_pfcFrame_of_class {l : List Nat} (class_ : c < 16) (on : s.rd Reg.MAC_PORT_CFG_PFC_RX_EN n = 1) : exec (.pfcFrame n (2 ^ c) l) s =
    .next ((s.count Reg.MAC_RX_PAUSE_COUNT n).setPause n c (l.getD c 0 % 65536)) := by
  have named : (List.range 16).filter (bit (2 ^ c)) = [c] := by
    have one : ∀ d < 16, (List.range 16).filter (d == ·) = [d] := by decide
    have bits_ : bit (2 ^ c) = (c == ·) := funext (bit_two_pow c)
    rw [bits_, one c class_]
  show execPfcFrame n (2 ^ c) l s = _
  simp only [execPfcFrame, State.on_eq, on, beq_self_eq_true, if_true, ← List.foldl_filter, named, List.foldl_cons, List.foldl_nil]

theorem does_pfcFrame {l : List Nat} (class_ : c < 16) (on : s.rd Reg.MAC_PORT_CFG_PFC_RX_EN n = 1) (asked : l.getD c 0 = quanta)
    (some_ : 0 < quanta) (small : quanta < 65536) : Does (.pfcFrame n (2 ^ c) l) s fun t =>
      t.farOf n = { s.farOf n with pausedTo := Tbl.put c (s.pauseEnd n quanta) (s.farOf n).pausedTo } ∧
      t.rd Reg.MAC_RX_PAUSE_COUNT n = satAdd 64 (s.rd Reg.MAC_RX_PAUSE_COUNT n) 1 ∧
      t.rd Reg.TRN_HFC_STAT_PAUSED n = setBit (s.rd Reg.TRN_HFC_STAT_PAUSED n) c % 2 ^ 16 := by
  obtain ⟨counted, -, -⟩ := s.writes_count Reg.MAC_RX_PAUSE_COUNT n 1
  have heard : Keeps State.noRegs [Reg.MAC_RX_PAUSE_COUNT] s (s.count Reg.MAC_RX_PAUSE_COUNT n) := (Keeps.refl ..).wr _ _ _
  have runs := exec_pfcFrame_of_class (l := l) class_ on
  rw [asked, Nat.mod_eq_of_lt small, State.setPause_class class_, if_neg some_.ne', if_neg some_.ne', State.pauseEnd_of_keeps heard, heard.farOf,
    heard.rd Reg.TRN_HFC_STAT_PAUSED] at runs
  refine ⟨_, runs, State.farOf_setFar .., ?_, State.rd_wr_self ..⟩
  exact (State.rd_wr_of_key _ _ _ _ _ _ (by decide)).trans (counted _ (List.mem_singleton_self _))

theorem State.now_reach_max (s : State) {t : Nat} (ht : t < 2 ^ 64) : (s.reach t).now = max s.now t := by
  rcases Nat.le_total s.now t with h | h
  · rw [State.now_reach h ht, Nat.max_eq_right h]
  · rw [State.reach, if_neg (Nat.not_lt.2 h), Nat.max_eq_left h]

theorem does_pauseExpire {e : Nat × Nat} (class_ : c < 16) (found : (s.farOf n).pausedTo.find? (fun x => x.1 == c) = some e)
    (bound : e.2 < 2 ^ 64) : Does (.pauseExpire n c) s fun t =>
      t.farOf n = { s.farOf n with pausedTo := Tbl.del c (s.farOf n).pausedTo } ∧ t.now = max s.now e.2 ∧
      t.rd Reg.TRN_HFC_STAT_PAUSED n = clrBit (s.rd Reg.TRN_HFC_STAT_PAUSED n) c % 2 ^ 16 := by
  have reached := s.reach_keepsRest e.2
  have runs : exec (.pauseExpire n c) s = .next ((s.reach e.2).setPause n c 0) := by
    show execPauseExpire n c s = _
    simp only [execPauseExpire, found, if_neg (Nat.ne_of_lt class_)]
  rw [State.setPause_class class_, if_pos rfl, if_pos rfl, reached.farOf, reached.rd Reg.TRN_HFC_STAT_PAUSED] at runs
  exact ⟨_, runs, State.farOf_setFar .., (State.now_wr_of_key _ _ _ _ (by decide)).trans (s.now_reach_max bound), State.rd_wr_self ..⟩

end Pauses

end Sys2Proof.Machine
end

section
/-! The egress scheduler (R203), where one class has frames and no gate list is applied. -/

namespace Sys2Proof.Machine

open Sys2Proof Sys2Proof.Safety

/-- What holds of an unlisted number and of every entry holds of every number. -/
theorem Tbl.get_induction {α : Type} {P : α → Prop} {d : α} {m : Tbl α} (unlisted : P d) (entries : ∀ e ∈ m, P e.2) (k : Nat) :
    P (Tbl.get d k m) := by
  induction m with
  | nil => exact unlisted
  | cons e m ih =>
    simp only [Tbl.get]
    split
    · exact entries e List.mem_cons_self
    · exact ih fun x hx => entries x (List.mem_cons_of_mem e hx)

/-- Nothing waits in an ingress buffer. -/
def State.Drained (s : State) : Prop := ∀ k, (s.farOf k).ingress = []

theorem State.drained_of_far {s : State} (h : ∀ x ∈ s.far, x.2.ingress = []) : s.Drained :=
  Tbl.get_induction (P := fun x : Far => x.ingress = []) rfl h

theorem State.Drained.setFar {s : State} {n : Nat} {v : Far} (h : s.Drained) (hv : v.ingress = []) : (s.setFar n v).Drained := by
  intro k
  by_cases hk : k = n
  · rw [hk, State.farOf_setFar, hv]
  · rw [State.farOf_setFar_ne _ _ hk, h k]

theorem State.pumpAll_of_drained {s : State} (h : s.Drained) : s.pumpAll = s :=
  List.foldlRecOn (motive := (· = s)) _ _ rfl fun t ht n _ => by rw [ht]; exact if_pos (h n)

theorem State.noteWaits_of_off {s : State} {n : Nat} (h : s.gateOn = false) : s.noteWaits n = s := if_pos (by simp [h])

/-- The state but for its far ports. -/
def State.noPorts (s : State) : State := { s with far := [] }

/-- Turns of the scheduler at port `n` have changed whose turn it is there, and deficits. -/
structure Turned (n : Nat) (s t : State) : Prop where
  frame : t.noPorts = s.noPorts
  port : ∃ deficit turn, t.farOf n = { s.farOf n with deficit, turn }
  drained : t.Drained

namespace Turned

variable {n : Nat} {s t : State}

theorem refl (h : s.Drained) : Turned n s s := ⟨rfl, ⟨_, _, rfl⟩, h⟩

theorem setFar (h : Turned n s t) (deficit : Tbl Nat) (turn : Tbl (Nat × Bool)) :
    Turned n s (t.setFar n { t.farOf n with deficit, turn }) := by
  obtain ⟨d, r, port⟩ := h.port
  refine ⟨h.frame, ⟨deficit, turn, ?_⟩, h.drained.setFar (h.drained n)⟩
  rw [State.farOf_setFar, port]

theorem queue (h : Turned n s t) (c : Nat) : (t.farOf n).queue c = (s.farOf n).queue c := by
  obtain ⟨_, _, port⟩ := h.port
  rw [port]
  rfl

theorem band (h : Turned n s t) (c : Nat) : t.band c = s.band c := (congrArg (State.band · c) h.frame :)

theorem quantum (h : Turned n s t) (c : Nat) : t.quantum c = s.quantum c := (congrArg (State.quantum · c) h.frame :)

theorem eligible (h : Turned n s t) (c : Nat) : t.eligible n c = s.eligible n c := by
  obtain ⟨_, _, port⟩ := h.port
  have start (f : Frame) : t.mayStart n f = s.mayStart n f := (congrArg (State.mayStart · n f) h.frame :)
  have admits (b : Nat) : t.gateAdmits n c b = s.gateAdmits n c b := (congrArg (State.gateAdmits · n c b) h.frame :)
  unfold State.eligible
  simp only [start, admits, port]
  rfl

end Turned

/-- The class whose turn it is in a band, and whether the turn has begun. -/
def Far.turnOf (p : Far) (b : Nat) : Nat × Bool := Tbl.get (0, false) b p.turn

/-- The deficit of a class. -/
def Far.deficitOf (p : Far) (c : Nat) : Nat := Tbl.get 0 c p.deficit

section Schedule

variable {s t : State} {n c b k : Nat} {f : Frame} {rest : List Frame}

/-- A port once the head of a class queue, of `bytes` bytes, has left it. -/
def Far.sentHead (p : Far) (c bytes : Nat) (rest : List Frame) : Far :=
  let q := p.setQueue c rest
  { q with
    waited := q.waited.filter (· ≠ c)
    deficit := Tbl.set 0 c (if rest = [] then 0 else Tbl.get 0 c q.deficit - wireBytes bytes) q.deficit }

theorem State.sendHead_eq (queue : (s.farOf n).queue c = f :: rest) : s.sendHead n c =
    ((((s.setFar n ((s.farOf n).sentHead c f.bytes rest)).emit (.frame n f)).count Reg.MAC_TX_FRAMES_COUNT n).pmc 14 0x60 none).pumpAll := by
  unfold State.sendHead
  simp only [queue]
  rfl

/-- The head of a class queue leaves, and is counted. -/
theorem State.sendHead_sends (queue : (s.farOf n).queue c = f :: rest) (drained : s.Drained) :
    (s.sendHead n c).out = s.out ++ [.frame n f] ∧ ((s.sendHead n c).farOf n).queue c = rest ∧
      (s.sendHead n c).rd Reg.MAC_TX_FRAMES_COUNT n = satAdd 64 (s.rd Reg.MAC_TX_FRAMES_COUNT n) 1 ∧
      SameFieldsBut (Reg.MAC_TX_FRAMES_COUNT :: pmcFields) s (s.sendHead n c) := by
  let v := (s.farOf n).sentHead c f.bytes rest
  let u := (s.setFar n v).emit (.frame n f)
  obtain ⟨counted, -, -⟩ := u.writes_count Reg.MAC_TX_FRAMES_COUNT n 1
  have paced := (u.count Reg.MAC_TX_FRAMES_COUNT n).pmc_keeps 14 0x60 none 1
  have far (k : Nat) : ((u.count Reg.MAC_TX_FRAMES_COUNT n).pmc 14 0x60 none).farOf k = (s.setFar n v).farOf k := paced.farOf k
  have still : ((u.count Reg.MAC_TX_FRAMES_COUNT n).pmc 14 0x60 none).Drained := fun k =>
    (congrArg Far.ingress (far k)).trans ((drained.setFar (v := v) (drained n)) k)
  have kept : Keeps State.noRegs (Reg.MAC_TX_FRAMES_COUNT :: pmcFields) u ((u.count Reg.MAC_TX_FRAMES_COUNT n).pmc 14 0x60 none) :=
    ((Keeps.refl ..).wr _ _ _).trans (paced.mono fun _ => List.mem_cons_of_mem _)
  rw [State.sendHead_eq queue, State.pumpAll_of_drained still]
  refine ⟨(congrArg State.out kept.frame :), ?_, ?_, kept.regs⟩
  · rw [far, State.farOf_setFar]
    exact Tbl.get_set_self ..
  · rw [paced.rd Reg.MAC_TX_FRAMES_COUNT]
    exact counted _ (List.mem_singleton_self _)

/-- How many turns pass before that of class `c`, from that of `d` on. -/
def turnsTo (c d : Nat) : Nat := if d < 16 then (c + 16 - d) % 16 else 16

theorem turnsTo_self (h : c < 16) : turnsTo c c = 0 := by
  rw [turnsTo, if_pos h]
  omega

theorem turnsTo_after (h : c < 16) : turnsTo c ((c + 1) % 16) = 15 := by
  rw [turnsTo, if_pos (Nat.mod_lt _ (by decide))]
  omega

theorem turnsTo_next {d : Nat} (h : c < 16) (hd : d ≠ c) : turnsTo c ((d + 1) % 16) < turnsTo c d := by
  rw [turnsTo, turnsTo, if_pos (Nat.mod_lt _ (by decide))]
  split <;> omega

/-- A bound of the turns of a band that are left before class `c` sends: its turn comes round in 16, and adds 64 bytes or more unless it has
begun. -/
def Far.turnsLeft (p : Far) (b c : Nat) : Nat :=
  turnsTo c (p.turnOf b).1 + (if (p.turnOf b).2 then 16 else 0) + (9236 - p.deficitOf c) / 4

/-- 4,000 turns are enough for any frame. -/
theorem Far.turnsLeft_lt (p : Far) (b c : Nat) : p.turnsLeft b c < 4000 := by
  have near : turnsTo c (p.turnOf b).1 ≤ 16 := by
    unfold turnsTo
    split <;> omega
  unfold Far.turnsLeft
  split <;> omega

/-- Class `c` of port `n` has frames, with `f` at the head, and may send; the other classes have none. -/
structure OnlyClass (s : State) (n c : Nat) (f : Frame) (rest : List Frame) : Prop where
  class_ : c < 16
  queue : (s.farOf n).queue c = f :: rest
  others : ∀ d, d ≠ c → (s.farOf n).queue d = []
  eligible : s.eligible n c = true

variable (only : OnlyClass s n c f rest)

include only

theorem OnlyClass.eligible_iff (d : Nat) : s.eligible n d = true ↔ d = c := by
  refine ⟨fun h => Decidable.by_contra fun hd => ?_, fun h => h ▸ only.eligible⟩
  simp [State.eligible, only.others d hd] at h

/-- The highest band that has an eligible class is the band of that class. -/
theorem OnlyClass.findBand :
    [0, 1, 2].find? (fun b => (List.range 16).any (fun d => s.band d == b && s.eligible n d)) = some (s.band c) := by
  have found : ∀ x < 3, [0, 1, 2].find? (x == ·) = some x := by decide
  have holds : (fun b => (List.range 16).any (fun d => s.band d == b && s.eligible n d)) = (s.band c == ·) := by
    funext b
    rw [Bool.eq_iff_iff]
    simp only [List.any_eq_true, List.mem_range, Bool.and_eq_true, only.eligible_iff, beq_iff_eq]
    exact ⟨fun ⟨d, _, hb, hd⟩ => hd ▸ hb, fun h => ⟨c, only.class_, h, rfl⟩⟩
  rw [holds]
  exact found _ (Nat.lt_succ_of_le (Nat.min_le_left ..))

/-- Any other class is passed over. -/
theorem OnlyClass.serveBand_other (turned : Turned n s t) (turn : ((t.farOf n).turnOf b).1 ≠ c) : ∃ u, Turned n s u ∧
    State.serveBand n b (k + 1) t = State.serveBand n b k u ∧
    (u.farOf n).turnOf b = ((((t.farOf n).turnOf b).1 + 1) % 16, false) ∧ (u.farOf n).deficitOf c = (t.farOf n).deficitOf c := by
  generalize hd : ((t.farOf n).turnOf b).1 = d at turn
  have idle : t.eligible n d = false := by
    rw [turned.eligible, ← Bool.not_eq_true, only.eligible_iff]
    exact turn
  have empty : (t.farOf n).queue d = [] := (turned.queue d).trans (only.others d turn)
  have turn_ : (Tbl.get (0, false) b (t.farOf n).turn).1 = d := hd
  have step : State.serveBand n b (k + 1) t = State.serveBand n b k (t.setFar n { t.farOf n with
      deficit := if t.band d = b then Tbl.set 0 d 0 (t.farOf n).deficit else (t.farOf n).deficit
      turn := Tbl.set (0, false) b ((d + 1) % 16, false) (t.farOf n).turn }) := by
    simp only [State.serveBand, turn_, idle, or_true, if_true, empty, List.isEmpty_nil]
    split <;> rfl
  refine ⟨_, turned.setFar _ _, step, ?_, ?_⟩
  · rw [State.farOf_setFar]
    exact Tbl.get_set_self ..
  · rw [State.farOf_setFar, Far.deficitOf]
    split
    · exact Tbl.get_set_ne 0 0 _ turn.symm
    · rfl

/-- What the class may send of on its turn: its deficit, with the quantum that a turn adds once. -/
def State.allowance (s : State) (n c b : Nat) : Nat :=
  (s.farOf n).deficitOf c + if ((s.farOf n).turnOf b).2 then 0 else s.quantum c

/-- On its turn, the class with frames goes on with its allowance. -/
theorem OnlyClass.serveBand_self (turned : Turned n s t) (band : s.band c = b) (turn : ((t.farOf n).turnOf b).1 = c) :
    let p := { t.farOf n with
      deficit := Tbl.set 0 c (t.allowance n c b) (t.farOf n).deficit, turn := Tbl.set (0, false) b (c, true) (t.farOf n).turn }
    State.serveBand n b (k + 1) t = if wireBytes f.bytes ≤ t.allowance n c b then (t.setFar n p).sendHead n c
      else State.serveBand n b k (t.setFar n { p with turn := Tbl.set (0, false) b ((c + 1) % 16, false) p.turn }) := by
  have runs : t.eligible n c = true := (turned.eligible c).trans only.eligible
  have queue : (t.farOf n).queue c = f :: rest := (turned.queue c).trans only.queue
  have goes : ¬(t.band c ≠ b ∨ t.eligible n c = false) := by simp [turned.band, band, runs]
  have turn_ : (Tbl.get (0, false) b (t.farOf n).turn).1 = c := turn
  simp only [State.serveBand, turn_, if_neg goes, queue]
  rfl

/-- The class sends where its allowance covers the frame. -/
theorem OnlyClass.serveBand_enough (turned : Turned n s t) (band : s.band c = b) (turn : ((t.farOf n).turnOf b).1 = c)
    (enough : wireBytes f.bytes ≤ t.allowance n c b) : ∃ u, Turned n s u ∧ State.serveBand n b (k + 1) t = u.sendHead n c :=
  ⟨_, turned.setFar _ _, (only.serveBand_self turned band turn).trans (if_pos enough)⟩

/-- Else its allowance becomes its deficit, and the turn passes on. -/
theorem OnlyClass.serveBand_short (turned : Turned n s t) (band : s.band c = b) (turn : ((t.farOf n).turnOf b).1 = c)
    (short : ¬wireBytes f.bytes ≤ t.allowance n c b) : ∃ u, Turned n s u ∧ State.serveBand n b (k + 1) t = State.serveBand n b k u ∧
      (u.farOf n).turnOf b = ((c + 1) % 16, false) ∧ (u.farOf n).deficitOf c = t.allowance n c b := by
  refine ⟨_, turned.setFar _ _, (only.serveBand_self turned band turn).trans (if_neg short), ?_, ?_⟩ <;> rw [State.farOf_setFar]
  · exact Tbl.get_set_self ..
  · exact Tbl.get_set_self ..

theorem OnlyClass.serveBand_sends (band : s.band c = b) (small : f.bytes ≤ 9216) (turned : Turned n s t)
    (left : (t.farOf n).turnsLeft b c < k) : ∃ u, Turned n s u ∧ State.serveBand n b k t = u.sendHead n c := by
  have class_ := only.class_
  induction k generalizing t with
  | zero => exact absurd left (Nat.not_lt_zero _)
  | succ k ih =>
    unfold Far.turnsLeft at left
    by_cases turn : ((t.farOf n).turnOf b).1 = c
    · by_cases enough : wireBytes f.bytes ≤ t.allowance n c b
      · exact only.serveBand_enough turned band turn enough
      · obtain ⟨u, next, step, after, deficit⟩ := only.serveBand_short (k := k) turned band turn enough
        have quantum : 64 ≤ t.quantum c := Nat.le_max_left ..
        rw [turn, turnsTo_self class_] at left
        rw [step]
        refine ih next ?_
        rw [Far.turnsLeft, after, deficit, turnsTo_after class_, if_neg Bool.false_ne_true]
        simp only [State.allowance, wireBytes] at enough ⊢
        cases begun : ((t.farOf n).turnOf b).2 <;> simp only [begun, Bool.false_eq_true, if_true, if_false] at left enough ⊢
        · omega
        · omega
    · obtain ⟨u, next, step, after, deficit⟩ := only.serveBand_other (k := k) turned turn
      rw [step]
      refine ih next ?_
      rw [Far.turnsLeft, after, deficit, if_neg Bool.false_ne_true]
      have nearer := turnsTo_next class_ turn
      dsimp only
      omega

theorem OnlyClass.does_egressSchedule (ungated : s.gateOn = false) (small : f.bytes ≤ 9216) (drained : s.Drained) :
    Does (.egressSchedule n) s fun t => t.out = s.out ++ [.frame n f] ∧ (t.farOf n).queue c = rest ∧
      t.rd Reg.MAC_TX_FRAMES_COUNT n = satAdd 64 (s.rd Reg.MAC_TX_FRAMES_COUNT n) 1 ∧
      SameFieldsBut (Reg.MAC_TX_FRAMES_COUNT :: pmcFields) s t := by
  obtain ⟨u, turned, serves⟩ := only.serveBand_sends rfl small (.refl drained) ((s.farOf n).turnsLeft_lt (s.band c) c)
  have runs : exec (.egressSchedule n) s = .next (u.sendHead n c) := by
    show execEgressSchedule n s = _
    simp only [execEgressSchedule, State.noteWaits_of_off ungated, only.findBand, serves]
  have same (g : Fld) (i : Nat) : u.rd g i = s.rd g i := State.rd_of_regs (congrArg State.regs turned.frame :) g i
  have out : u.out = s.out := (congrArg State.out turned.frame :)
  obtain ⟨left, queue, counted, rest_⟩ := State.sendHead_sends ((turned.queue c).trans only.queue) turned.drained
  rw [out] at left
  rw [same] at counted
  exact ⟨_, runs, left, queue, counted, fun g i hg => (rest_ g i hg).trans (same g i)⟩

end Schedule

end Sys2Proof.Machine

open Sys2Proof Sys2Proof.Machine Sys2Proof.Safety

/-- Settles O45: one lemma for each command; the scheduler's turns come round to the class with frames, and its deficit grows until it covers the
head frame. -/
theorem trafficEgress : Obligations.TrafficEgress := by
  unfold Obligations.TrafficEgress
  intro s n c quanta f rest e l p off t1 entry seen empty
  refine ⟨?gate, ?schedule, fun held => ⟨?xon, ?refresh⟩, ?pause, ?pfc, ?expire⟩
  case gate => exact fun ready begun bound armed awake => does_gateEntryChange ready begun armed awake rfl bound
  case schedule =>
    intro class_ queue others eligible ungated small drained
    exact (OnlyClass.mk class_ queue others eligible).does_egressSchedule ungated small (State.drained_of_far drained)
  case xon => exact does_pfcXonSend held
  case refresh => exact does_pfcRefreshTimer held
  case pause => exact does_pauseFrame
  case pfc => exact does_pfcFrame
  case expire => exact does_pauseExpire
end

section
/-! Frames that leave an ingress buffer (R191, R220, R221): what their forwarding writes, and what it does with a frame that has a way on. -/

namespace Sys2Proof.Machine

open Sys2Proof Sys2Proof.Safety

/-- What the passing on of frames may write (R190, R220, R221, R449). -/
def passFields : List Fld := [Reg.FWP_NO_ROUTE_COUNT, Reg.FWP_TTL_DROP_COUNT, Reg.FWP_FWD_FRAMES_COUNT, Reg.TRN_ECN_MARKED_COUNT] ++ pmcFields

theorem Keeps.setFar {l : List Fld} {s t : State} (h : Keeps State.noFar l s t) (n : Nat) (v : Far) : Keeps State.noFar l s (t.setFar n v) :=
  h.of_eq

section Pass

variable {s t : State} {n e : Nat} {f : Frame}

theorem State.passOn_keeps (passes : s.passOn n f = some t) : Keeps State.noFar passFields s t := by
  have same := Keeps.refl State.noFar passFields s
  unfold State.passOn at passes
  split at passes
  · split at passes <;> cases passes
    exact same
  · split at passes
    · cases passes
      exact same.wr _ _ _
    · split at passes
      · cases passes
        exact same.wr _ _ _
      · split at passes <;> cases passes
        exact (((s.enqueue_keeps _ _).mono (by simp [passFields])).wr _ _ _).pmc 14 0x62 none 1 (by simp +contextual [passFields])

theorem State.pumpList_keeps (frames : List Frame) (blocked : List Nat) (kept : List Frame) (s : State) :
    Keeps State.noFar passFields s (State.pumpList n frames blocked kept s).1 := by
  induction frames generalizing blocked kept s with
  | nil => exact .refl ..
  | cons f frames ih =>
    simp only [State.pumpList]
    split
    · exact ih ..
    · split
      next passes => exact (State.passOn_keeps passes).trans (ih ..)
      next => exact ih ..

theorem State.pump_keeps (s : State) (n : Nat) : Keeps State.noFar passFields s (s.pump n) :=
  .ite _ (.refl ..) ((State.pumpList_keeps ..).setFar ..)

theorem State.pumpAll_keeps (s : State) : Keeps State.noFar passFields s s.pumpAll :=
  (Keeps.refl ..).foldl _ fun u n _ hu => hu.trans (u.pump_keeps n)

/-- A frame that carries no ECN mark joins its class queue as it is. -/
theorem State.enqueue_of_unmarked (unmarked : f.ect = false) :
    s.enqueue n f = s.setFar n ((s.farOf n).setQueue f.tc ((s.farOf n).queue f.tc ++ [f])) := by
  simp [State.enqueue, unmarked]

/-- A frame as the next port gets it: its TTL is one less, and its class is that of its packet (R221). -/
def Frame.forwarded (f : Frame) : Frame := { f with ttl := f.ttl - 1, tc := (f.pkt.map (fun (k : Pkt) => k.tc)).getD f.tc }

/-- A frame that has a way on: a port that is up with room, and a TTL above 1 (R191, R221). -/
structure Forwards (s : State) (n e : Nat) (f : Frame) : Prop where
  away : f.toUs = false
  port : s.forwardPort n f.dstModule f.sport = some e
  alive : 1 < f.ttl
  room : s.classOn e = true

theorem Forwards.passOn (h : Forwards s n e f) :
    s.passOn n f = some (((s.enqueue e f.forwarded).count Reg.FWP_FWD_FRAMES_COUNT).pmc 14 0x62 none) := by
  rw [State.passOn, if_neg (by simp [h.away]), h.port]
  exact (if_neg (Nat.not_le.2 h.alive)).trans (if_pos h.room)

/-- A frame never goes back to the port it came from. -/
theorem State.ne_of_forwardPort {mod sport : Nat} (port : s.forwardPort n mod sport = some e) : e ≠ n := by
  unfold State.forwardPort at port
  dsimp only at port
  split at port
  · cases port
  · have found := List.find?_some port
    simp only [Bool.and_eq_true, bne_iff_ne] at found
    exact found.2

/-- The only frame of a buffer that can go leaves the buffer empty. -/
theorem State.pump_of_one (only : (s.farOf n).ingress = [f]) (passes : s.passOn n f = some t) :
    s.pump n = t.setFar n { t.farOf n with ingress := [] } := by
  simp [State.pump, State.pumpList, only, passes]

/-- A class without hop flow control is not held off (R193). -/
theorem State.checkXoff_of_off {c : Nat} (off : bit (s.rd Reg.TRN_HFC_CLASS_EN n) c = false) : s.checkXoff n c = s :=
  if_neg fun full => Bool.false_ne_true (off.symm.trans full.1)

/-- What a frame that is forwarded at once leaves: it stands in the class queue of the next port, and is counted. -/
structure Forwarded (s : State) (n e : Nat) (f : Frame) (t : State) : Prop where
  queued : t.farOf e = (s.farOf e).setQueue f.forwarded.tc ((s.farOf e).queue f.forwarded.tc ++ [f.forwarded])
  counted : t.rd Reg.FWP_FWD_FRAMES_COUNT 0 = satAdd 64 (s.rd Reg.FWP_FWD_FRAMES_COUNT 0) 1
  drained : (t.farOf n).ingress = []
  kept : Keeps State.noFar passFields s t

theorem Forwards.ingest (h : Forwards s n e f) (empty : (s.farOf n).ingress = []) (unmarked : f.ect = false)
    (uncontrolled : bit (s.rd Reg.TRN_HFC_CLASS_EN n) f.tc = false) : Forwarded s n e f (s.ingest n f) := by
  have apart : e ≠ n := State.ne_of_forwardPort h.port
  let u := s.setFar n { s.farOf n with ingress := [f] }
  let v := ((u.enqueue e f.forwarded).count Reg.FWP_FWD_FRAMES_COUNT).pmc 14 0x62 none
  have other : u.farOf e = s.farOf e := State.farOf_setFar_ne s _ apart
  have room : u.classOn e = true := by
    rw [← h.room]
    unfold State.classOn State.egressFree
    rw [other]
    rfl
  have passes : u.passOn n f = some v := Forwards.passOn ⟨h.away, h.port, h.alive, room⟩
  have pumps : (s.setFar n { s.farOf n with ingress := (s.farOf n).ingress ++ [f] }).pump n = v.setFar n { v.farOf n with ingress := [] } := by
    rw [empty, List.nil_append]
    exact State.pump_of_one (congrArg Far.ingress (State.farOf_setFar ..)) passes
  have kept : Keeps State.noFar passFields s v := ((Keeps.refl ..).setFar n { s.farOf n with ingress := [f] }).trans (State.passOn_keeps passes)
  have quiet : s.ingest n f = v.setFar n { v.farOf n with ingress := [] } := by
    simp only [State.ingest, pumps]
    refine State.checkXoff_of_off ?_
    rw [State.setFar_rd, kept.rd Reg.TRN_HFC_CLASS_EN n, uncontrolled]
  have paced := ((u.enqueue e f.forwarded).count Reg.FWP_FWD_FRAMES_COUNT).pmc_keeps 14 0x62 none 1
  rw [quiet]
  refine ⟨?_, ?_, congrArg Far.ingress (State.farOf_setFar ..), kept.setFar ..⟩
  · have queued : u.enqueue e f.forwarded = _ := State.enqueue_of_unmarked unmarked
    rw [State.farOf_setFar_ne _ _ apart, paced.farOf e, queued]
    exact (State.farOf_setFar ..).trans (by rw [other])
  · obtain ⟨counted, -, -⟩ := (u.enqueue e f.forwarded).writes_count Reg.FWP_FWD_FRAMES_COUNT 0 1
    rw [State.setFar_rd, paced.rd Reg.FWP_FWD_FRAMES_COUNT, counted _ (List.mem_singleton_self _), (u.enqueue_keeps ..).rd Reg.FWP_FWD_FRAMES_COUNT]
    rfl

end Pass

end Sys2Proof.Machine
end

section
/-! Far ports (R209 to R213): their configuration, their links, and the frames they receive; and the forwarding state (R222). -/

namespace Sys2Proof.Safety

open Sys2Proof Sys2Proof.Machine

theorem Writes.nil (s : State) : Writes [] s s := ⟨fun _ he => absurd he List.not_mem_nil, .refl [] s, rfl⟩

/-- A write of one more field comes before the others. -/
theorem Writes.cons {l : List (Fld × Nat × Nat)} {s t : State} {f : Fld} {i v : Nat} (h : Writes l (s.wr f i v) t) (fits : v < 2 ^ f.w)
    
    (apart : ∀ e ∈ l, f.key ≠ e.1.key := by simp +decide) : Writes ((f, i, v) :: l) s t := by
  obtain ⟨values, rest, frame⟩ := h
  have still : t.rd f i = v := by
    rw [rest f i fun e he hk => ?_, State.rd_wr_self, Nat.mod_eq_of_lt fits]
    obtain ⟨x, hx, rfl⟩ := List.mem_map.1 he
    exact apart x hx hk.1
  refine ⟨List.forall_mem_cons.2 ⟨still, values⟩, fun g j hg => ?_, frame⟩
  obtain ⟨first, others⟩ := List.forall_mem_cons.1 hg
  exact (rest g j others).trans (State.rd_wr_ne s f g i j v first)

end Sys2Proof.Safety

namespace Sys2Proof.Machine

open Sys2Proof Sys2Proof.Safety

section Ports

variable {s t : State} {n v : Nat}

/-! Links (R210, R211). -/

/-- What a link that goes down or is trained again may write. -/
def portFields : List Fld := [Reg.MAC_PORT_STATUS_LINK_UP, Reg.MAC_PORT_STATUS_LINK_CHANGE, Reg.MAC_LINK_DOWN_COUNT_COUNT,
  Reg.MAC_PORT_STATUS_RETRAINING, Reg.MAC_PORT_STATUS_CFG_ERR] ++ passFields

theorem State.pumpAll_keeps_ports (s : State) : Keeps State.noFar portFields s s.pumpAll :=
  s.pumpAll_keeps.mono fun _ hf => List.mem_append_right _ hf

theorem State.farDown_keeps (s : State) (n : Nat) : Keeps State.noFar portFields s (s.farDown n) :=
  .ite _ (.refl ..) (((((Keeps.refl ..).wr _ _ _).wr _ _ _).wr _ _ _).trans (State.pumpAll_keeps_ports _))

theorem State.retrain_keeps (s : State) (n : Nat) : Keeps State.noFar portFields s (s.retrain n) := (s.farDown_keeps n).wr _ _ _

theorem State.settlePort_keeps (s : State) (n : Nat) : Keeps State.noFar portFields s (s.settlePort n) := by
  have shown : Keeps State.noFar portFields s (s.put Reg.MAC_PORT_STATUS_CFG_ERR n (s.cfgErr n)) := (Keeps.refl ..).wr _ _ _
  exact .ite _ shown ((shown.trans (State.farDown_keeps ..)).wr _ _ _)

/-- A link that is up goes down, and is counted. -/
theorem State.farDown_of_up (up : s.rd Reg.MAC_PORT_STATUS_LINK_UP n = 1) : s.farDown n =
    (((s.wr Reg.MAC_PORT_STATUS_LINK_UP n 0).wr Reg.MAC_PORT_STATUS_LINK_CHANGE n 1).count Reg.MAC_LINK_DOWN_COUNT_COUNT n).pumpAll :=
  if_neg (by simp [up])

theorem State.rd_farDown_linkUp (s : State) (n : Nat) : (s.farDown n).rd Reg.MAC_PORT_STATUS_LINK_UP n ≠ 1 := by
  by_cases up : s.rd Reg.MAC_PORT_STATUS_LINK_UP n = 1
  · have low : (s.farDown n).rd Reg.MAC_PORT_STATUS_LINK_UP n = 0 := by
      rw [State.farDown_of_up up, (State.pumpAll_keeps _).rd Reg.MAC_PORT_STATUS_LINK_UP n, State.count_eq, State.rd_wr_of_key _ _ _ _ _ _ (by decide),
        State.rd_wr_of_key _ _ _ _ _ _ (by decide), State.rd_wr_self]
      rfl
    omega
  · rw [State.farDown, if_pos (by simp [up])]
    exact up

theorem does_farLinkDown (empty : s.Drained) (up : s.rd Reg.MAC_PORT_STATUS_LINK_UP n = 1) : Does (.farLinkDown n) s
    (Writes [(Reg.MAC_PORT_STATUS_LINK_UP, n, 0), (Reg.MAC_PORT_STATUS_LINK_CHANGE, n, 1),
      (Reg.MAC_LINK_DOWN_COUNT_COUNT, n, satAdd 64 (s.rd Reg.MAC_LINK_DOWN_COUNT_COUNT n) 1)] s) := by
  let u := (s.wr Reg.MAC_PORT_STATUS_LINK_UP n 0).wr Reg.MAC_PORT_STATUS_LINK_CHANGE n 1
  have count : u.rd Reg.MAC_LINK_DOWN_COUNT_COUNT n = s.rd Reg.MAC_LINK_DOWN_COUNT_COUNT n :=
    (State.rd_wr_of_key _ _ _ _ _ _ (by decide)).trans (State.rd_wr_of_key _ _ _ _ _ _ (by decide))
  have runs : s.farDown n = u.wr Reg.MAC_LINK_DOWN_COUNT_COUNT n (satAdd 64 (s.rd Reg.MAC_LINK_DOWN_COUNT_COUNT n) 1) := by
    rw [State.farDown_of_up up, ← count]
    exact State.pumpAll_of_drained empty
  refine ⟨_, congrArg Host.Outcome.next runs, ?_⟩
  exact (((Writes.nil _).cons (satAdd_lt ..)).cons (by decide)).cons (by decide)

theorem does_farLinkUp (empty : s.Drained) (low : s.rd Reg.MAC_PORT_STATUS_LINK_UP n = 0) (may : s.mayTrain n = true)
    (free : s.board.lanes.substs = []) : Does (.farLinkUp n) s
      (Writes [(Reg.MAC_PORT_STATUS_LINK_UP, n, 1), (Reg.MAC_PORT_STATUS_LINK_CHANGE, n, 1), (Reg.MAC_PORT_STATUS_RETRAINING, n, 0)] s) := by
  have runs : exec (.farLinkUp n) s = .next (s.farUp n).pumpAll := congrArg Host.Outcome.next (if_pos (by simp [may, low, free]))
  rw [State.pumpAll_of_drained (s := s.farUp n) empty] at runs
  exact ⟨_, runs, (((Writes.nil _).cons (by decide)).cons (by decide)).cons (by decide)⟩

/-! The configuration of a port (R209, R210). -/

/-- The width, medium, autonegotiation and enable of a port. -/
def State.portCfg (s : State) (n : Nat) : Nat × Nat × Nat × Nat :=
  (s.rd Reg.MAC_PORT_CFG_WIDTH n, s.rd Reg.MAC_PORT_CFG_PMD n, s.rd Reg.MAC_PORT_CFG_AN_EN n, s.rd Reg.MAC_PORT_CFG_ENABLE n)

theorem State.portCfg_of_keeps {α : Type} {F : State → α} {l : List Fld} (h : Keeps F l s t)
    (apart : ∀ f ∈ [Reg.MAC_PORT_CFG_WIDTH, Reg.MAC_PORT_CFG_PMD, Reg.MAC_PORT_CFG_AN_EN, Reg.MAC_PORT_CFG_ENABLE], ∀ g ∈ l, f.key ≠ g.key := by decide) :
    t.portCfg n = s.portCfg n := by
  simp only [List.forall_mem_cons] at apart
  obtain ⟨width, pmd, an, enable, -⟩ := apart
  rw [State.portCfg, h.rd _ n width, h.rd _ n pmd, h.rd _ n an, h.rd _ n enable]
  rfl

/-- The four fields that a port's training follows, as a value gives them. -/
def State.cfgWritten (s : State) (n v : Nat) : State :=
  (((s.wr Reg.MAC_PORT_CFG_WIDTH n v).wr Reg.MAC_PORT_CFG_PMD n (v / 2 ^ 3)).wr Reg.MAC_PORT_CFG_AN_EN n (v / 2 ^ 5)).wr
    Reg.MAC_PORT_CFG_ENABLE n (v / 2 ^ 6)

theorem State.portCfg_cfgWritten (s : State) (n v : Nat) :
    (s.cfgWritten n v).portCfg n = (v % 2 ^ 3, v / 2 ^ 3 % 2 ^ 2, v / 2 ^ 5 % 2, v / 2 ^ 6 % 2) := by
  simp (disch := decide) only [State.portCfg, State.cfgWritten, State.rd_wr_of_key, State.rd_wr_self]
  rfl

/-- The fields that a write of a port's configuration writes, but for those that its training follows. -/
def optionFields : List Fld := [Reg.MAC_PORT_CFG_HEVOR_ONLY, Reg.MAC_PORT_CFG_PAUSE_RX_EN, Reg.MAC_PORT_CFG_PFC_RX_EN, Reg.MAC_PORT_CFG_SLOW_PATH_EN,
  Reg.MAC_PORT_CFG_LINK_HOLD_US] ++ portFields

/-- A write of a port's configuration settles every port, and trains the port again where its training follows from what changed. -/
theorem State.writePortCfg_eq (s : State) (n v : Nat) : ∃ u, Keeps State.noFar optionFields (s.cfgWritten n v) u ∧
    s.writePortCfg n v = if s.portCfg n = u.portCfg n then u else u.retrain n := by
  refine ⟨_, ?_, rfl⟩
  refine .foldl ?_ _ fun u k _ hu => hu.trans ((u.settlePort_keeps k).mono fun _ hf => List.mem_append_right _ hf)
  exact (((((Keeps.refl ..).wr _ _ _).wr _ _ _).wr _ _ _).wr _ _ _).wr _ _ _

theorem does_macPortCfgWrite (s : State) (n v : Nat) : Does (.macPortCfgWrite n v) s fun t => t.rd Reg.MAC_PORT_CFG_WIDTH n = v % 2 ^ 3 ∧
    t.rd Reg.MAC_PORT_CFG_PMD n = v / 2 ^ 3 % 2 ^ 2 ∧ t.rd Reg.MAC_PORT_CFG_AN_EN n = v / 2 ^ 5 % 2 ∧ t.rd Reg.MAC_PORT_CFG_ENABLE n = v / 2 ^ 6 % 2 ∧
      (s.rd Reg.MAC_PORT_CFG_WIDTH n ≠ v % 2 ^ 3 → t.rd Reg.MAC_PORT_STATUS_LINK_UP n ≠ 1) := by
  obtain ⟨u, kept, runs⟩ := s.writePortCfg_eq n v
  have settled : u.portCfg n = _ := (State.portCfg_of_keeps kept).trans (s.portCfg_cfgWritten n v)
  have trained : (s.writePortCfg n v).portCfg n = u.portCfg n := by
    rw [runs]
    exact State.portCfg_of_keeps (.ite _ (.refl ..) (u.retrain_keeps n))
  have cfg := trained.trans settled
  simp only [State.portCfg, Prod.mk.injEq] at cfg
  obtain ⟨width, pmd, an, enable⟩ := cfg
  refine ⟨_, rfl, width, pmd, an, enable, fun new => ?_⟩
  have differs : s.portCfg n ≠ u.portCfg n := fun same => new (congrArg Prod.fst (same.trans settled))
  rw [runs, if_neg differs]
  have down := u.rd_farDown_linkUp n
  rwa [State.retrain, State.put_eq, State.rd_wr_of_key _ _ _ _ _ _ (by decide)]

end Ports

/-! Frames received (R212, R213, R220). -/

section Receive

variable {s : State} {n e : Nat} {f : RxFrame} {k : Pkt}

/-- A frame is counted as it arrives (R212, R449). -/
def State.frameHeard (s : State) (n : Nat) : State := (s.count Reg.MAC_RX_FRAMES_COUNT n).pmc 14 0x61 none

theorem State.frameHeard_keeps (s : State) (n : Nat) : Keeps State.noRegs (Reg.MAC_RX_FRAMES_COUNT :: pmcFields) s (s.frameHeard n) :=
  ((Keeps.refl ..).wr _ _ _).pmc 14 0x61 none 1 fun _ hf => List.mem_cons_of_mem _ hf

theorem State.rd_frameHeard (s : State) (n : Nat) :
    (s.frameHeard n).rd Reg.MAC_RX_FRAMES_COUNT n = satAdd 64 (s.rd Reg.MAC_RX_FRAMES_COUNT n) 1 := by
  obtain ⟨counted, -, -⟩ := s.writes_count Reg.MAC_RX_FRAMES_COUNT n 1
  exact ((State.pmc_keeps ..).rd Reg.MAC_RX_FRAMES_COUNT n).trans (counted _ (List.mem_singleton_self _))

/-- The port takes frames: it is up, and the module has power and is awake. -/
structure Hears (s : State) (n : Nat) : Prop where
  up : s.portUp n = true
  powered : s.board.pwr.off = false
  awake : s.power < 2

theorem Hears.passes (h : Hears s n) : ¬(!s.portUp n ∨ s.board.pwr.off ∨ s.power = 2 ∨ s.power = 3) := by
  have awake := h.awake
  simp only [h.up, h.powered, Bool.not_true, Bool.false_eq_true, false_or]
  omega

theorem Hears.does_of_bad_fcs (h : Hears s n) (bad : f.fcsOk = false) : Does (.farFrameReceive n f) s fun t =>
    t.rd Reg.MAC_RX_FRAMES_COUNT n = satAdd 64 (s.rd Reg.MAC_RX_FRAMES_COUNT n) 1 ∧
      t.rd Reg.MAC_RX_FCS_DROP_COUNT n = satAdd 64 (s.rd Reg.MAC_RX_FCS_DROP_COUNT n) 1 ∧ t.far = s.far := by
  have runs : exec (.farFrameReceive n f) s = .next ((s.frameHeard n).count Reg.MAC_RX_FCS_DROP_COUNT n) :=
    congrArg Host.Outcome.next ((if_neg h.passes).trans (if_pos (by simp [bad])))
  have heard := s.frameHeard_keeps n
  obtain ⟨dropped, -, -⟩ := (s.frameHeard n).writes_count Reg.MAC_RX_FCS_DROP_COUNT n 1
  refine ⟨_, runs, (State.rd_wr_of_key _ _ _ _ _ _ (by decide)).trans (s.rd_frameHeard n), ?_, (congrArg State.far heard.frame :)⟩
  rw [dropped _ (List.mem_singleton_self _), heard.rd Reg.MAC_RX_FCS_DROP_COUNT n]
  rfl

/-- An IPv6 frame that passes every check of R212 and R213. -/
structure Accepted (s : State) (n : Nat) (f : RxFrame) : Prop where
  fcs : f.fcsOk = true
  least : 64 ≤ f.bytes
  most : f.bytes ≤ 9216
  etype : f.etype = 0x86DD
  plain : s.rd Reg.CAD_SYNC_INTERVAL_ETYPE 0 ≠ 0x86DD
  single : groupAddr f.dst = false
  ours : f.dst = s.rd Reg.MAC_ADDR_ADDR n
  room : s.ingressFull n f = false

theorem Accepted.exec_farFrameReceive (h : Accepted s n f) (hears : Hears s n) :
    exec (.farFrameReceive n f) s = .next ((s.frameHeard n).freewheel n f) := by
  obtain ⟨fcs, least, most, etype, plain, single, ours, room⟩ := h
  have known : s.knownEtype f.etype = true := by simp [State.knownEtype, etype]
  refine congrArg Host.Outcome.next ((if_neg hears.passes).trans ?_)
  show (if !f.fcsOk then _ else _) = _
  rw [if_neg (by simp [fcs]), if_neg (Nat.not_lt.2 least), if_neg (Nat.not_lt.2 most), if_neg (by simp [known]), if_neg (by rw [single]; simp [ours]),
    if_neg (by simp [room]), if_neg (by simp [etype, plain.symm]), if_pos (.inl etype)]
  rfl

/-- A unicast Hevor frame for another module, where the module forwards (R220). -/
structure ForOther (s : State) (f : RxFrame) (k : Pkt) : Prop where
  unicast : f.tree = none
  packet : f.pkt = some k
  port : f.dport = s.fwId.2
  other : k.dstMod ≠ s.fwId.1
  enabled : s.rd Reg.FWP_CTRL_ENABLE 0 = 1
  state : s.rd Reg.FWP_STATUS_STATE 0 = 1 ∨ s.rd Reg.FWP_STATUS_STATE 0 = 2

theorem ForOther.freewheel (h : ForOther s f k) : s.freewheel n f = s.ingest n (heldFrame f false) := by
  simp only [State.freewheel, h.unicast, h.packet, if_neg (fun own => h.other own.2 : ¬(f.dport = s.fwId.2 ∧ k.dstMod = s.fwId.1))]
  exact if_pos ⟨h.port, by simp [h.enabled], h.state⟩

theorem ForOther.frameHeard (h : ForOther s f k) (n : Nat) : ForOther (s.frameHeard n) f k := by
  have heard := s.frameHeard_keeps n
  have id : (s.frameHeard n).fwId = s.fwId := by
    have kept : (s.frameHeard n).board = s.board := (congrArg State.board heard.frame :)
    simp only [State.fwId, kept, heard.rd Reg.TRN_MODULE_ID, heard.rd Reg.TRN_UDP_DPORT]
  obtain ⟨unicast, packet, port, other, enabled, state⟩ := h
  exact ⟨unicast, packet, id ▸ port, id ▸ other, heard.rd Reg.FWP_CTRL_ENABLE 0 ▸ enabled, heard.rd Reg.FWP_STATUS_STATE 0 ▸ state⟩

theorem Forwards.frameHeard {f : Frame} (h : Forwards s n e f) : Forwards (s.frameHeard n) n e f := by
  have heard := s.frameHeard_keeps n
  have up : (s.frameHeard n).portUp = s.portUp := by
    funext p
    simp only [State.portUp, State.on_eq, heard.rd Reg.MAC_PORT_CFG_ENABLE, heard.rd Reg.MAC_PORT_CFG_WIDTH, heard.rd Reg.MAC_PORT_STATUS_LINK_UP]
  have port : (s.frameHeard n).forwardPort n f.dstModule f.sport = s.forwardPort n f.dstModule f.sport := by
    rw [State.forwardPort, State.on, heard.rd Reg.FWP_FWD_ENT_COUNT_ACT, heard.rd Reg.FWP_FWD_ENT_VALID_ACT, heard.rd Reg.FWP_FWD_ENT_PORTS_ACT, up]
    rfl
  have room : (s.frameHeard n).egressFree e = s.egressFree e := by
    rw [State.egressFree, heard.rd Reg.MAC_PORT_CFG_WIDTH e, heard.farOf e, State.egressFree]
  exact ⟨h.away, port.trans h.port, h.alive, (congrArg (fun b => decide (9216 ≤ b)) room).trans h.room⟩

theorem does_farFrameReceive_of_other (hears : Hears s n) (accepted : Accepted s n f) (other : ForOther s f k) (empty : (s.farOf n).ingress = [])
    (port : s.forwardPort n k.dstMod f.sport = some e) (alive : 1 < f.ttl) (room : s.classOn e = true) (unmarked : f.ect = false)
    (uncontrolled : bit (s.rd Reg.TRN_HFC_CLASS_EN n) f.tc = false) : Does (.farFrameReceive n f) s fun t =>
      t.farOf e = (s.farOf e).setQueue k.tc ((s.farOf e).queue k.tc ++ [{ heldFrame f false with ttl := f.ttl - 1, tc := k.tc }]) ∧
      t.rd Reg.FWP_FWD_FRAMES_COUNT 0 = satAdd 64 (s.rd Reg.FWP_FWD_FRAMES_COUNT 0) 1 ∧
      t.rd Reg.MAC_RX_FRAMES_COUNT n = satAdd 64 (s.rd Reg.MAC_RX_FRAMES_COUNT n) 1 ∧ (t.farOf n).ingress = [] := by
  have heard := s.frameHeard_keeps n
  have module : (heldFrame f false).dstModule = k.dstMod := by simp [heldFrame, other.packet]
  have leaves : (heldFrame f false).forwarded = { heldFrame f false with ttl := f.ttl - 1, tc := k.tc } := by
    simp [Frame.forwarded, heldFrame, other.packet]
  have forwards : Forwards s n e (heldFrame f false) := ⟨rfl, module ▸ port, alive, room⟩
  obtain ⟨queued, counted, drained, kept⟩ := forwards.frameHeard.ingest (by rw [heard.farOf n, empty]) unmarked
    (by rw [heard.rd Reg.TRN_HFC_CLASS_EN n]; exact uncontrolled)
  have runs := accepted.exec_farFrameReceive hears
  rw [(other.frameHeard n).freewheel] at runs
  rw [leaves, heard.farOf e] at queued
  rw [heard.rd Reg.FWP_FWD_FRAMES_COUNT 0] at counted
  exact ⟨_, runs, queued, counted, (kept.rd Reg.MAC_RX_FRAMES_COUNT n).trans (s.rd_frameHeard n), drained⟩

end Receive

/-! The forwarding state (R222). -/

section ForwardingState

variable {s : State} {v : Nat}

theorem does_fwpEnableWrite_of_enabling (odd : v % 2 = 1) (off : s.rd Reg.FWP_STATUS_STATE 0 = 0) : Does (.fwpEnableWrite v) s
    (Writes [(Reg.FWP_CTRL_ENABLE, 0, 1), (Reg.FWP_CTRL_MC_EN, 0, v / 2 % 2), (Reg.FWP_STATUS_STATE, 0, 1)] s) := by
  have on := bit_zero_of_odd odd
  have multicast : b2n (bit v 1) = v / 2 % 2 := by
    simp only [bit, b2n, decide_eq_true_eq]
    split <;> omega
  have runs : exec (.fwpEnableWrite v) s =
      .next (((s.wr Reg.FWP_CTRL_ENABLE 0 1).wr Reg.FWP_CTRL_MC_EN 0 (v / 2 % 2)).wr Reg.FWP_STATUS_STATE 0 1) := by
    show Host.Outcome.next (s.writeFwpCtrl v) = _
    simp only [State.writeFwpCtrl, on, off, State.put_eq, multicast, Bool.not_true, Bool.false_eq_true, if_false, if_true]
    rfl
  exact ⟨_, runs, (((Writes.nil _).cons (by decide)).cons (Nat.mod_lt _ (by decide))).cons (by decide)⟩

theorem does_fwpConfirmGo_of_held (held : s.rd Reg.FWP_STATUS_STATE 0 = 2) : Does .fwpConfirmGo s (Writes [(Reg.FWP_STATUS_STATE, 0, 1)] s) :=
  ⟨_, congrArg Host.Outcome.next (if_pos held), (Writes.nil _).cons (by decide)⟩

theorem does_warmHoldExpire_of_held (held : s.rd Reg.FWP_STATUS_STATE 0 = 2) : Does .warmHoldExpire s (Writes [(Reg.FWP_STATUS_STATE, 0, 3)] s) :=
  ⟨_, congrArg Host.Outcome.next (if_pos held), (Writes.nil _).cons (by decide)⟩

end ForwardingState

end Sys2Proof.Machine

open Sys2Proof Sys2Proof.Machine Sys2Proof.Safety

/-- Settles O46: one lemma for each command; a link that changes leaves the ports' configuration as it is, and a frame for another module goes
through the empty ingress buffer at once. -/
theorem farPorts : Obligations.FarPorts := by
  unfold Obligations.FarPorts
  intro s n v e f k st empty rx
  refine ⟨does_macPortCfgWrite s n v, fun drained => does_farLinkDown (State.drained_of_far drained),
    fun drained => does_farLinkUp (State.drained_of_far drained), fun up powered awake => ⟨(Hears.mk up powered awake).does_of_bad_fcs, ?other⟩,
    does_fwpEnableWrite_of_enabling, fun held => ⟨does_fwpConfirmGo_of_held held, does_warmHoldExpire_of_held held⟩⟩
  case other =>
    intro fcs least most etype plain single ours room unicast packet port other enabled state drained next alive on unmarked uncontrolled
    exact does_farFrameReceive_of_other ⟨up, powered, awake⟩ ⟨fcs, least, most, etype, plain, single, ours, room⟩
      ⟨unicast, packet, port, other, enabled, state⟩ drained next alive on unmarked uncontrolled
end

section
/-! The lane-remap exchange (R216 to R218): spares, exchanges and the messages about them. -/

namespace Sys2Proof.Machine

open Sys2Proof Sys2Proof.Safety

/-- What shows the spares of a class (R418). -/
def spareFields : List Fld := [Reg.RES_SPARES_TOTAL, Reg.RES_SPARES_FREE, Reg.RES_SPARES_FENCED, Reg.RES_SPARES_IN_USE]

/-- What the state of a spare, and an exchange, write. -/
def exchFields : List Fld := [Reg.MAC_SPARE_CFG_STATE, Reg.MAC_NEAR_STATUS_REMAP_BUSY, Reg.MAC_PORT_STATUS_REMAP_BUSY] ++ spareFields

/-- The state but for its registers, its exchanges and the free values taken. -/
def State.noExch (s : State) : State :=
  { s with regs := [], fresh := 0, board := { s.board with lanes := { s.board.lanes with exchs := [] } } }

/-- The register that shows an exchange of a port. -/
def busyFld (near : Bool) : Fld := if near then Reg.MAC_NEAR_STATUS_REMAP_BUSY else Reg.MAC_PORT_STATUS_REMAP_BUSY

section Exchange

variable {s t : State} {near : Bool} {port k v : Nat} {e : Exch}

/-! Spares. -/

theorem State.showSpares_keeps (s : State) (c : Nat) : Keeps State.noRegs spareFields s (s.showSpares c) :=
  ((((Keeps.refl ..).wr _ _ _).wr _ _ _).wr _ _ _).wr _ _ _

theorem State.setSpare_keeps (s : State) (k v : Nat) : Keeps State.noRegs (Reg.MAC_SPARE_CFG_STATE :: spareFields) s (s.setSpare k v) :=
  ((Keeps.refl ..).wr _ _ _).trans ((State.showSpares_keeps ..).mono fun _ hf => List.mem_cons_of_mem _ hf)

theorem State.rd_setSpare (s : State) (k v : Nat) : (s.setSpare k v).rd Reg.MAC_SPARE_CFG_STATE k = v % 2 ^ 3 :=
  ((State.showSpares_keeps ..).rd Reg.MAC_SPARE_CFG_STATE k).trans (State.rd_wr_self ..)

/-! Exchanges. -/

theorem State.setExch_keeps (s : State) (near : Bool) (port : Nat) (e : Option Exch) :
    Keeps State.noExch [Reg.MAC_NEAR_STATUS_REMAP_BUSY, Reg.MAC_PORT_STATUS_REMAP_BUSY] s (s.setExch near port e) := by
  have listed : Keeps State.noExch [Reg.MAC_NEAR_STATUS_REMAP_BUSY, Reg.MAC_PORT_STATUS_REMAP_BUSY] s (s.modLanes fun (l : Lanes) =>
      { l with exchs := l.exchs.filter (fun (x : Exch) => !(x.near == near && x.port == port)) ++ e.toList }) := (Keeps.refl ..).of_eq
  cases near with
  | false => exact listed.wr Reg.MAC_PORT_STATUS_REMAP_BUSY port _
  | true => exact listed.wr Reg.MAC_NEAR_STATUS_REMAP_BUSY port _

theorem State.rd_setExch_busy (s : State) (near : Bool) (port : Nat) (e : Option Exch) :
    (s.setExch near port e).rd (busyFld near) port = b2n e.isSome := by
  have fits : b2n e.isSome < 2 := by cases e.isSome <;> decide
  cases near with
  | false => exact (State.rd_wr_self ..).trans (Nat.mod_eq_of_lt fits)
  | true => exact (State.rd_wr_self ..).trans (Nat.mod_eq_of_lt fits)

/-- The exchange of a port is the one set last. -/
theorem State.exchOn_setExch {e : Option Exch} (here : ∀ x ∈ e, x.near = near ∧ x.port = port) : (s.setExch near port e).exchOn near port = e := by
  have gone : (s.board.lanes.exchs.filter fun (x : Exch) => !(x.near == near && x.port == port)).find? (fun x => x.near == near && x.port == port) =
      none := by
    simp only [List.find?_eq_none, List.mem_filter]
    exact fun x hx found => by simp [found] at hx
  show (s.board.lanes.exchs.filter _ ++ e.toList).find? _ = e
  rw [List.find?_append, gone, Option.none_or]
  cases e with
  | none => rfl
  | some x =>
    obtain ⟨side, place⟩ := here x rfl
    simp [side, place]

theorem Keeps.exchOn {F : State → State} {l : List Fld} (h : Keeps F l s t) (near : Bool) (port : Nat)
    (hF : ∀ u, (F u).exchOn near port = u.exchOn near port := by intro; rfl) : t.exchOn near port = s.exchOn near port :=
  (h.part (State.exchOn · near port) hF).frame

/-- A spare takes a state, and the exchange of its port changes. -/
def State.spareExch (s : State) (near : Bool) (port k v : Nat) (e : Option Exch) : State := (s.setSpare k v).setExch near port e

/-- What that leaves. -/
structure ExchSet (s : State) (near : Bool) (port k v : Nat) (e : Option Exch) (t : State) : Prop where
  exch : t.exchOn near port = e
  spare : t.rd Reg.MAC_SPARE_CFG_STATE k = v % 2 ^ 3
  busy : t.rd (busyFld near) port = b2n e.isSome
  kept : Keeps State.noExch exchFields s t

theorem State.setExch_sets {e : Option Exch} (kept : Keeps State.noExch exchFields s t) (spare : t.rd Reg.MAC_SPARE_CFG_STATE k = v % 2 ^ 3)
    (here : ∀ x ∈ e, x.near = near ∧ x.port = port) : ExchSet s near port k v e (t.setExch near port e) where
  exch := State.exchOn_setExch here
  spare := ((State.setExch_keeps ..).rd Reg.MAC_SPARE_CFG_STATE k).trans spare
  busy := State.rd_setExch_busy ..
  kept := kept.trans ((State.setExch_keeps ..).mono (by simp +contextual [exchFields]))

theorem State.setSpare_keeps_exch (s : State) (k v : Nat) : Keeps State.noExch exchFields s (s.setSpare k v) :=
  ((s.setSpare_keeps k v).part State.noExch).mono (by simp +contextual [exchFields])

theorem State.spareExch_sets {e : Option Exch} (s : State) (k v : Nat) (here : ∀ x ∈ e, x.near = near ∧ x.port = port) :
    ExchSet s near port k v e (s.spareExch near port k v e) := State.setExch_sets (s.setSpare_keeps_exch k v) (s.rd_setSpare k v) here

theorem ExchSet.out {e : Option Exch} (h : ExchSet s near port k v e t) : t.out = s.out := (congrArg State.out h.kept.frame :)

/-! Messages. -/

/-- A message tells of the lane that serves the position, and of this module. -/
theorem State.laneMsg_of_keeps {F : State → State} {l : List Fld} (h : Keeps F l s t)
    (hF : ∀ u, (F u).board.lanes.kept = u.board.lanes.kept := by intro; rfl)
    (apart : ∀ f ∈ [Reg.MAC_LANE_MAP_PHYS, Reg.TRN_MODULE_ID, Reg.TRN_UDP_DPORT], ∀ g ∈ l, f.key ≠ g.key := by decide) :
    t.laneMsg = s.laneMsg := by
  simp only [List.forall_mem_cons] at apart
  obtain ⟨phys, module, udp, -⟩ := apart
  have kept : t.board.lanes.kept = s.board.lanes.kept := (h.part (·.board.lanes.kept) hF).frame
  funext near port logical spare seq op reason
  rw [State.laneMsg, h.rd _ _ phys, State.fwId, kept, h.rd _ _ module, h.rd _ _ udp]
  rfl

/-! A proposal (R216). -/

/-- The exchange that this module proposes for a position. -/
def State.proposal (s : State) (near : Bool) (port l k : Nat) : Exch :=
  { near, port, logical := s.logicalPos l, spare := k, seq := s.free 32, proposer := true }

/-- A port on which neither an exchange nor a pin substitution runs, exchanges are enabled, and a cabled spare is free. -/
structure CanSpare (s : State) (near : Bool) (port k : Nat) : Prop where
  idle : s.exchOn near port = none
  unsubst : s.board.lanes.substs = []
  on : s.remapOn near = true
  free : s.freeSpare near port true = some k

theorem CanSpare.does_propose {c : Instr} {l why : Nat} (h : CanSpare s near port k) (side : near = decide (36 ≤ l)) (place : s.portOf l = some port)
    (runs : exec c s = .next (s.laneFailing l why)) : Does c s fun t =>
      t.exchOn near port = some (s.proposal near port l k) ∧ t.rd Reg.MAC_SPARE_CFG_STATE k = 1 ∧ t.rd (busyFld near) port = 1 ∧
      t.out = s.out ++ [.remap near port (s.laneMsg near port (s.logicalPos l) k (s.free 32) 1 why)] := by
  have sets := s.bump.spareExch_sets (near := near) (port := port) (e := some (s.proposal near port l k)) k 1 (by simp [State.proposal])
  have starts : s.laneFailing l why = (s.bump.spareExch near port k 1 (some (s.proposal near port l k))).emit
      (.remap near port ((s.bump.spareExch near port k 1 (some (s.proposal near port l k))).laneMsg near port (s.logicalPos l) k (s.free 32) 1 why)) := by
    simp only [State.laneFailing, place, ← side, h.idle, h.unsubst, h.on, h.free, Option.isSome_none, List.any_nil, Bool.false_eq_true, or_self, if_false,
      if_true]
    rfl
  rw [starts, State.laneMsg_of_keeps sets.kept] at runs
  generalize s.bump.spareExch near port k 1 (some (s.proposal near port l k)) = u at sets runs
  exact ⟨_, runs, sets.exch, sets.spare, sets.busy, congrArg (· ++ _) sets.out⟩

theorem CanSpare.does_laneRemapPropose {m : LaneMsg} (h : CanSpare s near port k) (good : m.crcOk = true) : Does (.laneRemapPropose near port m) s
    fun t => t.out = s.out ∧ t.rd Reg.MAC_SPARE_CFG_STATE k = 1 ∧
      t.exchOn near port = some { near := near, port := port, logical := m.logical, spare := k, seq := m.seq, proposer := false } := by
  let e : Exch := { near := near, port := port, logical := m.logical, spare := k, seq := m.seq, proposer := false }
  have runs : exec (.laneRemapPropose near port m) s = .next (s.spareExch near port k 1 (some e)) := by
    show execLaneRemapPropose near port m s = _
    simp only [execLaneRemapPropose, good, h.on, h.idle, h.unsubst, State.joinExch, h.free, List.any_nil, Bool.not_true, Bool.false_eq_true, if_false]
    rfl
  have sets := s.spareExch_sets (near := near) (port := port) (e := some e) k 1 (by simp [e])
  exact ⟨_, runs, sets.out, sets.spare, sets.exch⟩

end Exchange

end Sys2Proof.Machine
end

section
/-! A position that a spare serves from now on (R218 step 5, R219), and pin substitutions (R219). -/

namespace Sys2Proof.Machine

open Sys2Proof Sys2Proof.Safety

/-- What the tests of lanes and the review of their spares write (R405, R418, R419). -/
def laneTestFields : List Fld := [Reg.RES_UNIT_STAT_STATE, Reg.RES_TESTS_COUNT, Reg.RES_REPLACE_SPARE_EXHAUSTED, Reg.RES_REPLACE_CLASSES,
  Reg.RES_ALERT_REPLACE] ++ spareFields ++ eventFields

/-- What serving a position by its spare writes. -/
def placeFields : List Fld := [Reg.MAC_LANE_MAP_PHYS, Reg.MAC_SPARE_CFG_STATE, Reg.MAC_SPARE_CFG_REPLACES] ++ laneTestFields

/-- What the start of a pin substitution writes. -/
def substFields : List Fld := [Reg.MAC_SUBST_COUNT_COUNT, Reg.MAC_SPARE_CFG_STATE, Reg.MAC_PORT_STATUS_LANE_FAULT] ++ spareFields ++ portFields

/-- The state but for its registers, its admin queues, what has left it, the free values taken, and the resilience unit's work. -/
def State.noTests (s : State) : State :=
  { s with regs := [], adms := [], out := [], fresh := 0, board := { s.board with res := {} } }

/-- The state but for its registers, its far ports and its pin substitutions. -/
def State.noSubst (s : State) : State :=
  { s with regs := [], far := [], board := { s.board with lanes := { s.board.lanes with substs := [] } } }

section Place

variable {s t : State} {l k u : Nat}

/-! Lanes as units (R401). -/

theorem spareLane_lt (k : Nat) : spareLane k < 72 := by
  by_cases h : k < 8
  · have each : ∀ j < 8, spareLane j < 72 := by decide
    exact each k h
  · rw [spareLane, List.getD_eq_default _ _ (Nat.not_lt.1 h)]
    decide

theorem unitKind_laneUnit (h : l < 72) : unitKind (laneUnit l) = 8 ∨ unitKind (laneUnit l) = 9 := by
  unfold unitKind laneUnit unitNo
  split <;> omega

theorem State.setUnit_of_lane (h : unitKind u = 8 ∨ unitKind u = 9) (v : Nat) : s.setUnit u v = s.wr Reg.RES_UNIT_STAT_STATE u v := by
  rcases h with h | h <;> simp only [State.setUnit, h, classOf]

theorem State.testUnit_keeps_of_lane (s : State) (h : unitKind u = 8 ∨ unitKind u = 9) (uncorr : Bool) (addr : Nat) :
    Keeps State.noTests laneTestFields s (s.testUnit u uncorr addr) := by
  have same := Keeps.refl State.noTests laneTestFields s
  have tested : Keeps State.noTests laneTestFields s ((s.setUnit u 2).beginTest { unit := u }) := by
    rw [State.setUnit_of_lane h]
    exact (same.wr Reg.RES_UNIT_STAT_STATE u 2).of_eq.wr Reg.RES_TESTS_COUNT 0 _
  unfold State.testUnit
  dsimp only
  refine .ite _ same ?_
  rcases h with h | h
  · rw [h]
    exact tested
  · rw [h]
    exact tested

theorem State.raiseReplace_keeps (s : State) (classes : Nat) :
    Keeps State.noTests laneTestFields s (s.raiseReplace Reg.RES_REPLACE_SPARE_EXHAUSTED classes) := by
  have raised : Keeps State.noTests laneTestFields s (((s.wr Reg.RES_REPLACE_SPARE_EXHAUSTED 0 1).wr Reg.RES_REPLACE_CLASSES 0
      (s.rd Reg.RES_REPLACE_CLASSES ||| classes)).wr Reg.RES_ALERT_REPLACE 0 1) := (((Keeps.refl ..).wr _ _ _).wr _ _ _).wr _ _ _
  exact (raised.trans (((State.event_keeps ..).part State.noTests).mono (by simp +contextual [laneTestFields]))).of_eq

theorem State.reviewClass_keeps (s : State) (c : Nat) : Keeps State.noTests laneTestFields s (s.reviewClass c) := by
  have shown : Keeps State.noTests laneTestFields s (s.showSpares c) :=
    ((s.showSpares_keeps c).part State.noTests).mono (by simp +contextual [laneTestFields])
  unfold State.reviewClass
  dsimp only
  generalize s.showSpares c = u at shown ⊢
  exact .ite _ (shown.trans (u.raiseReplace_keeps _)) shown

/-- Position `l` is served by spare `k`. -/
structure PlacesLane (s : State) (l k : Nat) (t : State) : Prop where
  lane : t.rd Reg.MAC_LANE_MAP_PHYS l = spareLane k
  spare : t.rd Reg.MAC_SPARE_CFG_STATE k = 3
  kept : Keeps State.noTests placeFields s t

theorem State.lanePlaced_places (k : Nat) (old : s.rd Reg.MAC_LANE_MAP_PHYS l < 72) : PlacesLane s l k (s.lanePlaced l k) := by
  let u := (s.wr Reg.MAC_LANE_MAP_PHYS l (spareLane k)).setSpare k 3
  have unit : Keeps State.noTests laneTestFields (u.wr Reg.MAC_SPARE_CFG_REPLACES k l) (s.lanePlaced l k) := by
    have served : Keeps State.noTests laneTestFields (u.wr Reg.MAC_SPARE_CFG_REPLACES k l)
        ((u.wr Reg.MAC_SPARE_CFG_REPLACES k l).setUnit (laneUnit (spareLane k)) 0) := by
      rw [State.setUnit_of_lane (unitKind_laneUnit (spareLane_lt k))]
      exact (Keeps.refl ..).wr _ _ _
    exact (served.trans (State.testUnit_keeps_of_lane _ (unitKind_laneUnit old) false 0)).trans (State.reviewClass_keeps ..)
  have taken := (s.wr Reg.MAC_LANE_MAP_PHYS l (spareLane k)).setSpare_keeps k 3
  refine ⟨?_, ?_, ?_⟩
  · rw [unit.rd Reg.MAC_LANE_MAP_PHYS l, State.rd_wr_of_key _ _ _ _ _ _ (by decide), taken.rd Reg.MAC_LANE_MAP_PHYS l, State.rd_wr_self]
    exact Nat.mod_eq_of_lt ((spareLane_lt k).trans (by decide))
  · rw [unit.rd Reg.MAC_SPARE_CFG_STATE k, State.rd_wr_of_key _ _ _ _ _ _ (by decide), State.rd_setSpare]
    rfl
  · have mapped : Keeps State.noTests placeFields s (s.wr Reg.MAC_LANE_MAP_PHYS l (spareLane k)) := (Keeps.refl ..).wr _ _ _
    have spared := (taken.part State.noTests).mono (m := placeFields) (by simp +contextual [placeFields, laneTestFields])
    exact ((mapped.trans spared).wr Reg.MAC_SPARE_CFG_REPLACES k l).trans (unit.mono fun _ hf => List.mem_append_right _ hf)

end Place

/-! Pin substitutions (R219). -/

section Substitution

variable {s t : State} {near : Bool} {port l k : Nat} {x : Subst}

theorem Keeps.addSubst {m : List Fld} (h : Keeps State.noSubst m s t) (x : Subst) :
    Keeps State.noSubst m s (t.modLanes fun (l : Lanes) => { l with substs := l.substs ++ [x] }) := h.of_eq

theorem State.startSubst_keeps (s : State) (port l k : Nat) : Keeps State.noSubst substFields s (s.startSubst port l k) := by
  have counted : Keeps State.noSubst substFields s (s.count Reg.MAC_SUBST_COUNT_COUNT) := (Keeps.refl ..).wr _ _ _
  have taken := counted.trans (((State.setSpare_keeps _ k 1).part State.noSubst).mono (by simp +contextual [substFields]))
  have started := taken.addSubst { port, pos := l, spare := k }
  exact (started.trans (((State.farDown_keeps ..).part State.noSubst).mono fun _ hf => List.mem_append_right _ hf)).wr _ _ _

theorem State.trySubst_keeps (s : State) (near : Bool) (port l : Nat) : Keeps State.noSubst substFields s (s.trySubst near port l) := by
  unfold State.trySubst
  split
  · exact State.startSubst_keeps ..
  · exact .ite _ (.refl ..) ((Keeps.refl ..).wr _ _ _)

theorem State.mayTrain_of_keeps {F : State → State} {m : List Fld} (h : Keeps F m s t)
    (hF : ∀ u, (F u).board.pwr = u.board.pwr := by intro; rfl)
    (apart : ∀ f ∈ [Reg.MAC_PORT_CFG_ENABLE, Reg.MAC_PORT_CFG_WIDTH, Reg.MAC_PORT_STATUS_CFG_ERR, Reg.FWP_STATUS_STATE, Reg.PWR_STATUS_STATE],
      ∀ g ∈ m, f.key ≠ g.key := by decide) : t.mayTrain port = s.mayTrain port := by
  simp only [List.forall_mem_cons] at apart
  obtain ⟨enable, width, err, state, power, -⟩ := apart
  have pwr : t.board.pwr = s.board.pwr := (h.part (·.board.pwr) hF).frame
  simp only [State.mayTrain, State.on_eq, State.power, pwr, h.rd _ _ enable, h.rd _ _ width, h.rd _ _ err, h.rd _ _ state, h.rd _ _ power]

/-- A pin substitution that succeeds ends, its position is served by its spare, and its port comes up. -/
theorem does_pinSubstitutionDone (only : s.board.lanes.substs = [x]) (here : x.port = port) (old : s.rd Reg.MAC_LANE_MAP_PHYS x.pos < 72)
    (may : s.mayTrain port = true) : Does (.pinSubstitutionDone port true) s fun t => t.board.lanes.substs = [] ∧
      t.rd Reg.MAC_LANE_MAP_PHYS x.pos = spareLane x.spare ∧ t.rd Reg.MAC_PORT_STATUS_LINK_UP port = 1 := by
  let u := s.modLanes fun (l : Lanes) => { l with substs := l.substs.filter (fun (y : Subst) => y.port != port) }
  obtain ⟨lane, -, kept⟩ := State.lanePlaced_places (s := u) x.spare old
  have train : (u.lanePlaced x.pos x.spare).mayTrain port = true := (State.mayTrain_of_keeps kept).trans may
  have runs : exec (.pinSubstitutionDone port true) s = .next ((u.lanePlaced x.pos x.spare).farUp port).pumpAll := by
    have found : s.board.lanes.substs.find? (fun (y : Subst) => y.port == port) = some x := by simp [only, here]
    show execPinSubstitutionDone port true s = _
    simp only [execPinSubstitutionDone, found, if_true]
    exact congrArg Host.Outcome.next (if_pos train)
  have up : Keeps State.noFar portFields (u.lanePlaced x.pos x.spare) ((u.lanePlaced x.pos x.spare).farUp port) :=
    (((Keeps.refl ..).wr _ _ _).wr _ _ _).wr _ _ _
  have pumped := State.pumpAll_keeps ((u.lanePlaced x.pos x.spare).farUp port)
  refine ⟨_, runs, ?_, ?_, ?_⟩
  · have ended : u.board.lanes.substs = [] := by simp [u, State.modLanes, State.modBoard, only, here]
    have lanes : (u.lanePlaced x.pos x.spare).board.lanes = u.board.lanes := (congrArg (·.board.lanes) kept.frame :)
    have after := (congrArg (·.board.lanes.substs) pumped.frame :)
    exact after.trans ((congrArg Lanes.substs lanes).trans ended)
  · rw [pumped.rd Reg.MAC_LANE_MAP_PHYS x.pos, up.rd Reg.MAC_LANE_MAP_PHYS x.pos, lane]
  · rw [pumped.rd Reg.MAC_PORT_STATUS_LINK_UP port, State.farUp, State.rd_wr_of_key _ _ _ _ _ _ (by decide),
      State.rd_wr_of_key _ _ _ _ _ _ (by decide), State.rd_wr_self]
    rfl

end Substitution

end Sys2Proof.Machine
end

section
/-! An exchange that runs (R217, R218): its end by DONE, REFUSE, ABORT or the timeout. -/

namespace Sys2Proof.Machine

open Sys2Proof Sys2Proof.Safety

section Exchange

variable {s : State} {near : Bool} {port : Nat} {e : Exch} {m : LaneMsg}

/-- Exchange `e` runs on a port. -/
structure Exchanges (s : State) (near : Bool) (port : Nat) (e : Exch) : Prop where
  running : s.exchOn near port = some e
  side : e.near = near
  place : e.port = port

/-- A message belongs to the exchange. -/
structure OfExchange (m : LaneMsg) (e : Exch) : Prop where
  good : m.crcOk = true
  seq : m.seq = e.seq

/-- What keeps goes on keeping where the same leaves both states. -/
theorem Keeps.emit {l : List Fld} {t : State} (h : Keeps State.noExch l s t) (o : Out) : Keeps State.noExch l (s.emit o) (t.emit o) :=
  ⟨congrArg (State.emit · o) h.frame, h.regs⟩

theorem Exchanges.does_spareTrained (h : Exchanges s near port e) (unsent : e.sent = false) (unheard : e.rcvd = false) :
    Does (.spareTrained near port) s fun t => t.exchOn near port = some { e with sent := true } ∧ t.rd Reg.MAC_SPARE_CFG_STATE e.spare = 2 ∧
      t.out = s.out ++ [.remap near port (s.laneMsg near port e.logical e.spare e.seq 2 0)] := by
  have runs : exec (.spareTrained near port) s = .next (((s.setSpare e.spare 2).emit
      (.remap near port (s.laneMsg near port e.logical e.spare e.seq 2 0))).setExch near port (some { e with sent := true })) := by
    show execSpareTrained near port s = _
    simp only [execSpareTrained, h.running, unsent, State.settleExch, unheard, h.side, h.place, Bool.false_eq_true, and_false, if_false]
  have kept := s.setSpare_keeps_exch e.spare 2
  have spare := s.rd_setSpare e.spare 2
  generalize s.setSpare e.spare 2 = u at kept spare runs
  have sets := State.setExch_sets (near := near) (port := port) (e := some { e with sent := true })
    (kept.emit (.remap near port (s.laneMsg near port e.logical e.spare e.seq 2 0))) spare (by simp [h.side, h.place])
  exact ⟨_, runs, sets.exch, sets.spare, sets.out⟩

theorem Exchanges.does_laneRemapDone (h : Exchanges s near port e) (mine : OfExchange m e) (sent : e.sent = true)
    (old : s.rd Reg.MAC_LANE_MAP_PHYS (positionOf near port e.logical) < 72) : Does (.laneRemapDone near port m) s fun t =>
      t.exchOn near port = none ∧ t.rd Reg.MAC_LANE_MAP_PHYS (positionOf near port e.logical) = spareLane e.spare ∧
      t.rd Reg.MAC_SPARE_CFG_STATE e.spare = 3 ∧ t.rd (busyFld near) port = 0 ∧
      t.rd Reg.MAC_REMAP_COUNT_DONE 0 = satAdd Reg.MAC_REMAP_COUNT_DONE.w (s.rd Reg.MAC_REMAP_COUNT_DONE 0) 1 := by
  have runs : exec (.laneRemapDone near port m) s =
      .next (((s.setExch near port none).count Reg.MAC_REMAP_COUNT_DONE).lanePlaced (positionOf near port e.logical) e.spare) := by
    show execLaneRemapDone near port m s = _
    simp only [execLaneRemapDone, h.running, mine.good, mine.seq, State.settleExch, sent, h.side, h.place, Bool.not_true, Bool.false_eq_true, ne_eq,
      not_true_eq_false, or_self, and_self, if_false, if_true]
  have ended := s.setExch_keeps near port none
  have idle : (s.setExch near port none).exchOn near port = none := State.exchOn_setExch (e := none) (by simp)
  have quiet := s.rd_setExch_busy near port none
  generalize s.setExch near port none = u at runs ended idle quiet
  obtain ⟨counted, -, -⟩ := u.writes_count Reg.MAC_REMAP_COUNT_DONE 0 1
  have same : (u.count Reg.MAC_REMAP_COUNT_DONE).rd Reg.MAC_LANE_MAP_PHYS (positionOf near port e.logical) =
      s.rd Reg.MAC_LANE_MAP_PHYS (positionOf near port e.logical) :=
    (State.rd_wr_of_key _ _ _ _ _ _ (by decide)).trans (ended.rd Reg.MAC_LANE_MAP_PHYS _)
  obtain ⟨lane, spare, kept⟩ := State.lanePlaced_places (s := u.count Reg.MAC_REMAP_COUNT_DONE) e.spare (same ▸ old)
  have uncounted : (busyFld near).key ≠ Reg.MAC_REMAP_COUNT_DONE.key := by cases near <;> decide
  have unplaced : ∀ g ∈ placeFields, (busyFld near).key ≠ g.key := by cases near <;> decide
  refine ⟨_, runs, (kept.exchOn near port).trans idle, lane, spare, ?_, ?_⟩
  · rw [kept.rd _ _ unplaced, State.count_eq, State.rd_wr_of_key _ _ _ _ _ _ uncounted, quiet]
    rfl
  · rw [kept.rd Reg.MAC_REMAP_COUNT_DONE 0, counted _ (List.mem_singleton_self _), ended.rd Reg.MAC_REMAP_COUNT_DONE 0]

theorem Exchanges.does_laneRemapRefuse (h : Exchanges s near port e) (mine : OfExchange m e) (proposer : e.proposer = true) :
    Does (.laneRemapRefuse near port m) s fun t =>
      t.exchOn near port = none ∧ t.rd Reg.MAC_SPARE_CFG_STATE e.spare = 0 ∧ t.out = s.out := by
  have runs : exec (.laneRemapRefuse near port m) s = .next (s.spareExch near port e.spare 0 none) := by
    show execLaneRemapRefuse near port m s = _
    simp only [execLaneRemapRefuse, h.running]
    exact congrArg Host.Outcome.next (if_neg (by simp [mine.good, mine.seq, proposer]))
  have sets := s.spareExch_sets (near := near) (port := port) (e := none) e.spare 0 (by simp)
  exact ⟨_, runs, sets.exch, sets.spare, sets.out⟩

/-- An exchange fails: its spare is free again, and the failure is counted. -/
def State.exchFailed (s : State) (near : Bool) (port k : Nat) : State := (s.spareExch near port k 0 none).count Reg.MAC_REMAP_COUNT_ABORTED

/-- What that leaves. -/
structure ExchFails (s : State) (near : Bool) (port k : Nat) (t : State) : Prop where
  exch : t.exchOn near port = none
  spare : t.rd Reg.MAC_SPARE_CFG_STATE k = 0
  counted : t.rd Reg.MAC_REMAP_COUNT_ABORTED 0 = satAdd Reg.MAC_REMAP_COUNT_ABORTED.w (s.rd Reg.MAC_REMAP_COUNT_ABORTED 0) 1
  out : t.out = s.out

theorem State.exchFailed_fails (s : State) (near : Bool) (port k : Nat) : ExchFails s near port k (s.exchFailed near port k) := by
  have sets := s.spareExch_sets (near := near) (port := port) (e := none) k 0 (by simp)
  unfold State.exchFailed
  generalize s.spareExch near port k 0 none = u at sets ⊢
  obtain ⟨counted, -, -⟩ := u.writes_count Reg.MAC_REMAP_COUNT_ABORTED 0 1
  refine ⟨sets.exch, (State.rd_wr_of_key _ _ _ _ _ _ (by decide)).trans sets.spare, ?_, sets.out⟩
  rw [counted _ (List.mem_singleton_self _), sets.kept.rd Reg.MAC_REMAP_COUNT_ABORTED 0]

theorem Exchanges.does_laneRemapAbort (h : Exchanges s near port e) (mine : OfExchange m e) : Does (.laneRemapAbort near port m) s fun t =>
    t.exchOn near port = none ∧ t.rd Reg.MAC_SPARE_CFG_STATE e.spare = 0 ∧
      t.rd Reg.MAC_REMAP_COUNT_ABORTED 0 = satAdd Reg.MAC_REMAP_COUNT_ABORTED.w (s.rd Reg.MAC_REMAP_COUNT_ABORTED 0) 1 ∧ t.out = s.out := by
  have runs : exec (.laneRemapAbort near port m) s = .next (s.exchFailed near port e.spare) := by
    show execLaneRemapAbort near port m s = _
    simp only [execLaneRemapAbort, h.running]
    exact congrArg Host.Outcome.next (if_neg (by simp [mine.good, mine.seq]))
  obtain ⟨exch, spare, counted, out⟩ := s.exchFailed_fails near port e.spare
  exact ⟨_, runs, exch, spare, counted, out⟩

theorem Exchanges.does_remapTimeout (h : Exchanges s near port e) (proposer : e.proposer = true) (unheard : e.rcvd = false) :
    Does (.remapTimeout near port) s fun t => t.exchOn near port = none ∧
      t.rd Reg.MAC_REMAP_COUNT_ABORTED 0 = satAdd Reg.MAC_REMAP_COUNT_ABORTED.w (s.rd Reg.MAC_REMAP_COUNT_ABORTED 0) 1 ∧
      t.out = s.out ++ [.remap near port (s.laneMsg near port e.logical e.spare e.seq 4 0)] := by
  let u := s.emit (.remap near port (s.laneMsg near port e.logical e.spare e.seq 4 0))
  have runs : exec (.remapTimeout near port) s =
      .next ((u.exchFailed near port e.spare).trySubst near port (positionOf near port e.logical)) := by
    show execRemapTimeout near port s = _
    simp only [execRemapTimeout, h.running]
    exact congrArg Host.Outcome.next (if_neg (by simp [proposer, unheard]))
  obtain ⟨exch, -, counted, out⟩ := u.exchFailed_fails near port e.spare
  have tried := (u.exchFailed near port e.spare).trySubst_keeps near port (positionOf near port e.logical)
  exact ⟨_, runs, (tried.exchOn near port).trans exch, (tried.rd Reg.MAC_REMAP_COUNT_ABORTED 0).trans counted,
    (congrArg State.out tried.frame :).trans out⟩

end Exchange

end Sys2Proof.Machine

open Sys2Proof Sys2Proof.Machine Sys2Proof.Safety

/-- Settles O47: a proposal, a DONE sent, and each end of an exchange set a spare and the exchange of its port together; DONE both ways and a pin
substitution that succeeds place the position's lane. -/
theorem laneSparing : Obligations.LaneSparing := by
  unfold Obligations.LaneSparing
  intro s l reason k port near m e x pos busy lost proposes
  refine ⟨fun idle unsubst on free => ?propose, fun running side place good seq => ?run, does_pinSubstitutionDone⟩
  case propose =>
    have can : CanSpare s near port k := ⟨idle, unsubst, on, free⟩
    exact ⟨fun side place => ⟨can.does_propose side place rfl, can.does_propose side place rfl⟩, can.does_laneRemapPropose⟩
  case run =>
    have runs : Exchanges s near port e := ⟨running, side, place⟩
    have mine : OfExchange m e := ⟨good, seq⟩
    exact ⟨runs.does_spareTrained, runs.does_laneRemapDone mine, runs.does_laneRemapRefuse mine, runs.does_laneRemapAbort mine, runs.does_remapTimeout⟩
end

section
/-! Spoke cores: what a scalar instruction of a thread that can issue does, once for all of them (R232, R234, R235). -/

namespace Sys2Proof.Safety

open Sys2Proof Sys2Proof.Machine

variable {c i d : Nat} {l m : List Fld} {s t u : State}

/-! What stays but for one thread. -/

theorem OnlyThread.refl (l : List Fld) (c i : Nat) (s : State) : OnlyThread l c i s s :=
  ⟨rfl, fun _ _ _ _ => rfl, fun _ _ _ => rfl, fun _ => rfl⟩

theorem OnlyThread.trans (a : OnlyThread l c i s t) (b : OnlyThread l c i t u) : OnlyThread l c i s u where
  rest := by
    have rest := b.rest
    rw [a.rest] at rest
    exact rest
  regs f j hf hj := (b.regs f j hf hj).trans (a.regs f j hf hj)
  threads e j h := (b.threads e j h).trans (a.threads e j h)
  clusters e := (b.clusters e).trans (a.clusters e)

theorem OnlyThread.mono (h : OnlyThread l c i s t) (hl : ∀ f ∈ l, f ∈ m) : OnlyThread m c i s t :=
  ⟨h.rest, fun f j hf => h.regs f j fun g hg => hf g (hl g hg), h.threads, h.clusters⟩

/-- Where only registers change, all threads stay. -/
theorem OnlyThread.of_keeps (h : Keeps State.noRegs l s t) : OnlyThread l c i s t where
  rest := (congrArg (fun u : State => { u with regs := t.regs, clus := t.clus, fresh := t.fresh }) h.frame :)
  regs f j hf _ := h.regs f j hf
  threads e j _ := (congrArg (fun u : State => u.thrOf e j) h.frame :)
  clusters e := (congrArg (fun u : State => { u.cluOf e with thr := [] }) h.frame :)

theorem OnlyThread.wr (h : OnlyThread l c i s t) (f : Fld) (j v : Nat) (hf : f.key ∈ l.map Fld.key := by decide) :
    OnlyThread l c i s (t.wr f j v) :=
  h.trans (.of_keeps ((Keeps.refl ..).wr f j v hf))

theorem OnlyThread.setThr (h : OnlyThread l c i s t) (v : Thr) : OnlyThread l c i s (t.setThr c i v) :=
  h.trans ⟨rfl, fun _ _ _ _ => rfl, fun _ _ hj => State.thrOf_setThr_ne t v hj, fun e => State.cluOf_setThr_rest t c i e v⟩

theorem OnlyThread.setG (h : OnlyThread l c i s t) (n v : Nat) : OnlyThread l c i s (t.setG c i n v) := by
  unfold State.setG
  split
  · exact h
  · exact h.setThr _

theorem OnlyThread.setV (h : OnlyThread l c i s t) (n v : Nat) : OnlyThread l c i s (t.setV c i n v) := h.setThr _

theorem OnlyThread.setP (h : OnlyThread l c i s t) (n v : Nat) : OnlyThread l c i s (t.setP c i n v) := by
  unfold State.setP
  split
  · exact h
  · exact h.setThr _

/-- A move of the program counter, which every list leaves out. -/
theorem OnlyThread.setPc (h : OnlyThread l c i s t) (v : Nat) : OnlyThread l c i s (t.setPc c i v) :=
  h.trans ⟨rfl, fun f j _ hj => State.rd_wr_ne t _ f _ j v hj, fun _ _ _ => rfl, fun _ => rfl⟩

theorem OnlyThread.step1 (h : OnlyThread l c i s t) : OnlyThread l c i s (t.step1 c i) := h.setPc _

theorem OnlyThread.bumpN (h : OnlyThread l c i s t) (n : Nat) : OnlyThread l c i s (t.bumpN n) :=
  h.trans ⟨rfl, fun _ _ _ _ => rfl, fun _ _ _ => rfl, fun _ => rfl⟩

/-! Registers of the thread. -/

/-- Two values with the same low 64 bits are one value of a general register. -/
theorem GTakes.congr {v w : Nat} (h : GTakes c i d v s t) (same : v % 2 ^ 64 = w % 2 ^ 64) : GTakes c i d w s t :=
  ⟨by rw [h.value, same], h.others, h.thread⟩

end Sys2Proof.Safety

namespace Sys2Proof.Machine

open Sys2Proof Sys2Proof.Safety

/-! Words and immediates (R234). -/

theorem i64_eq (x : Nat) : i64 x = (BitVec.ofNat 64 x).toInt := sext_toInt 64 x (by decide)

/-- The 12-bit immediate as a word is its sign extension. -/
theorem imm12_eq (imm : Nat) : imm12 imm = ((BitVec.ofNat 12 imm).signExtend 64).toNat := by
  rw [imm12, wrap_toNat, sext_toInt 12 imm (by decide)]
  rfl

/-- An immediate below 64 is its own amount. -/
theorem imm12_of_lt {imm : Nat} (h : imm % 4096 < 64) : imm12 imm = imm % 4096 := by
  have positive : sext 12 imm = (imm % 4096 : Nat) := if_pos (by omega)
  rw [imm12, positive, wrap]
  omega

theorem i64_imm12 (imm : Nat) : i64 (imm12 imm) = ((BitVec.ofNat 12 imm).signExtend 64).toInt := by
  rw [i64_eq, imm12_eq, BitVec.ofNat_toNat, BitVec.setWidth_eq]

theorem slt64_eq (x y : Nat) : slt64 x y = if i64 x < i64 y then 1 else 0 := by simp [slt64, b2n]

theorem lui_eq (imm : Nat) : wrap 64 (sext 17 imm * 2 ^ 15) = (((BitVec.ofNat 17 imm).signExtend 64) <<< 15).toNat := by
  rw [wrap_toNat, sext_toInt 17 imm (by decide), BitVec.ofInt_mul, BitVec.shiftLeft_eq_mul_twoPow]
  rfl

theorem toNat_add_word (x : Nat) (k : BitVec 64) : (x + k.toNat) % 2 ^ 64 = (BitVec.ofNat 64 x + k).toNat := by
  simp

theorem divStated_of_word {x y : Nat} (nonzero : BitVec.ofNat 64 y ≠ 0)
    (fits : ¬((BitVec.ofNat 64 x).toInt = -2 ^ 63 ∧ (BitVec.ofNat 64 y).toInt = -1)) : divStated x y = true := by
  have hy : y ≠ 0 := fun h => nonzero (by rw [h]; rfl)
  have hxy : ¬(x = 2 ^ 63 ∧ y = 2 ^ 64 - 1) := by
    rintro ⟨rfl, rfl⟩
    exact fits (by decide)
  simpa [divStated, hy, imp_iff_not_or] using hxy

/-- A command whose meaning is an instruction of a thread that can issue runs its body. -/
theorem exec_thread {s : State} {c i : Nat} (issue : CanIssue s c i) {k : Instr} (r : Result) (runs : exec k s = r) {body : State → State}
    (is_thread : r = runThread c i s body) : exec k s = .next (body s) :=
  (runs.trans is_thread).trans (runThread_of_canIssue issue body)

/-! Scalar instructions (R235). -/

section Scalar

variable {s : State} {c i d : Nat} (issue : CanIssue s c i) {k : Instr} (r : Result) {x y : State → Nat} {f : Nat → Nat → Nat}
  (runs : exec k s = r)
include issue runs

/-- A command whose meaning is a scalar instruction writes the value modulo 2^64. -/
theorem does_scalar {v : Nat} (is_scalar : r = scalar c i d x y f s) (value : f (x s) (y s) % 2 ^ 64 = v % 2 ^ 64) :
    Does k s fun t => GTakes c i d v s t ∧ PcNext c i s t ∧ OnlyThread [] c i s t := by
  obtain ⟨t, ends, takes, next, only, -⟩ := scalar_does issue d x y f
  exact ⟨t, (runs.trans is_scalar).trans ends, takes.congr value, next, only⟩

theorem does_shift {v : Nat} (is_shift : r = shift c i d x y f s) (low : y s < 64) (value : f (x s) (y s) % 2 ^ 64 = v % 2 ^ 64) :
    Does k s fun t => GTakes c i d v s t ∧ PcNext c i s t ∧ OnlyThread [] c i s t := by
  obtain ⟨t, ends, takes, next, only⟩ := shift_does issue d x y f
  rw [if_pos low] at takes
  exact ⟨t, (runs.trans is_shift).trans ends, takes.congr value, next, only⟩

/-- Whatever its amount, a shift writes one value. -/
theorem does_shift_of_any (is_shift : r = shift c i d x y f s) :
    ∃ v, Does k s fun t => GTakes c i d v s t ∧ PcNext c i s t ∧ OnlyThread [] c i s t := by
  obtain ⟨t, ends, takes, next, only⟩ := shift_does issue d x y f
  exact ⟨_, t, (runs.trans is_shift).trans ends, takes, next, only⟩

end Scalar

/-! Branches and jumps (R234, R235). -/

section Branches

variable {s : State} {c i d a : Nat} {k : Instr}

theorem State.pc_setPc (s : State) (c i v : Nat) : (s.setPc c i v).pc c i = v % 2 ^ 17 := State.rd_wr_self ..

theorem pcNext_step1 {t : State} (h : t.pc c i = s.pc c i) : PcNext c i s (t.step1 c i) := by
  rw [PcNext, State.pc_step1, h]

theorem wrap_mod (w : Nat) (z : Int) : wrap w z % 2 ^ w = wrap w z := by
  rw [wrap_toNat]
  exact Nat.mod_eq_of_lt (BitVec.isLt _)

variable (issue : CanIssue s c i) (r : Result) (runs : exec k s = r)
include issue runs

/-- A branch moves the program counter and nothing else, whether it is taken or not. -/
theorem does_branch {imm : Nat} {p : Nat → Nat → Bool} {q : Prop} (is_branch : r = branch c i d a imm p s)
    (taken : p (s.g c i d) (s.g c i a) = true ↔ q) : Does k s fun t =>
      (q → t.pc c i = s.target17 c i ((BitVec.ofNat 12 imm).toInt)) ∧ (¬q → PcNext c i s t) ∧ SameRegsBut [(Reg.CLU_THR_PC_PC, ix c i)] s t ∧
        t = { s with regs := t.regs } := by
  refine ⟨_, (runs.trans is_branch).trans (runThread_of_canIssue issue _), ?_⟩
  by_cases h : q
  · rw [if_pos (taken.2 h), sext_toInt 12 imm (by decide)]
    exact ⟨fun _ => (State.pc_setPc ..).trans (wrap_mod 17 _), fun no => absurd h no, s.sameRegsBut_wr _ _ _, rfl⟩
  · rw [if_neg (mt taken.1 h)]
    exact ⟨fun yes => absurd yes h, fun _ => pcNext_step1 rfl, s.sameRegsBut_wr _ _ _, rfl⟩

/-- A jump writes the link to g[d] and goes to its target. -/
theorem does_jump {link : Nat} {target : Int} (is_jump : r = runThread c i s fun s => (s.setG c i d link).setPc c i (wrap 17 target)) :
    Does k s fun t => t.pc c i = wrap 17 target ∧ GTakes c i d link s t ∧ OnlyThread [] c i s t := by
  obtain ⟨value, others, thread⟩ := s.gTakes_setG c i d link
  exact ⟨_, (runs.trans is_jump).trans (runThread_of_canIssue issue _), (State.pc_setPc ..).trans (wrap_mod 17 _), ⟨value, others, thread⟩,
    ((OnlyThread.refl [] c i s).setG d link).setPc _⟩

end Branches

end Sys2Proof.Machine

open Sys2Proof Sys2Proof.Machine Sys2Proof.Safety

/-- Settles O2: a shift and a division are scalar writes of one value; the corner cases of a division are those that `divStated` leaves out. -/
theorem shiftsAndDivision : Obligations.ShiftsAndDivision := by
  unfold Obligations.ShiftsAndDivision
  intro s c i d a b issue x y X Y gives
  refine ⟨fun low => ⟨?_, ?_, ?_⟩, fun _ => ⟨?_, ?_, ?_⟩, fun nonzero fits => ⟨?_, ?_⟩,
    ⟨_, does_scalar issue (execDiv c i d a b s) rfl rfl rfl⟩, ⟨_, does_scalar issue (execRem c i d a b s) rfl rfl rfl⟩⟩
  · exact does_shift issue (execShl c i d a b s) rfl rfl low rfl
  · exact does_shift issue (execShr c i d a b s) rfl rfl low rfl
  · exact does_shift issue (execSra c i d a b s) rfl rfl low (by rw [sra64, wrap_toNat, i64_eq])
  · exact does_shift_of_any issue (execShl c i d a b s) rfl rfl
  · exact does_shift_of_any issue (execShr c i d a b s) rfl rfl
  · exact does_shift_of_any issue (execSra c i d a b s) rfl rfl
  · exact does_scalar issue (execDiv c i d a b s) rfl rfl (by rw [div64, divStated_of_word nonzero fits, if_pos rfl, wrap_toNat, i64_eq, i64_eq])
  · exact does_scalar issue (execRem c i d a b s) rfl rfl (by rw [rem64, divStated_of_word nonzero fits, if_pos rfl, wrap_toNat, i64_eq, i64_eq])

/-- Settles O3: each immediate form is a scalar write of its operation on the sign-extended immediate, low 64 bits of it. -/
theorem scalarImmediate : Obligations.ScalarImmediate := by
  unfold Obligations.ScalarImmediate
  intro s c i d a imm issue x X K gives
  have low : X.toNat = x % 2 ^ 64 := BitVec.toNat_ofNat ..
  have word (v : BitVec 64) : v.toNat % 2 ^ 64 = v.toNat := Nat.mod_eq_of_lt v.isLt
  refine ⟨?_, ?_, ?_, ?_, ?_, ?_, fun small => ⟨?_, ?_, ?_⟩⟩
  · refine does_scalar issue (execAddi c i d a imm s) rfl rfl ?_
    rw [imm12_eq, toNat_add_word, word]
  · refine does_scalar issue (execAndi c i d a imm s) rfl rfl ?_
    rw [imm12_eq, Nat.and_mod_two_pow, word, word, BitVec.toNat_and, low]
  · refine does_scalar issue (execOri c i d a imm s) rfl rfl ?_
    rw [imm12_eq, Nat.or_mod_two_pow, word, word, BitVec.toNat_or, low]
  · refine does_scalar issue (execXori c i d a imm s) rfl rfl ?_
    rw [imm12_eq, Nat.xor_mod_two_pow, word, word, BitVec.toNat_xor, low]
  · refine does_scalar issue (execSlti c i d a imm s) rfl rfl ?_
    rw [slt64_eq, i64_imm12, i64_eq]
  · exact does_scalar issue (execLui c i d imm s) rfl rfl (congrArg (· % 2 ^ 64) (lui_eq imm))
  · exact does_shift issue (execShli c i d a imm s) rfl rfl (by rwa [imm12_of_lt small]) (by rw [imm12_of_lt small])
  · exact does_shift issue (execShri c i d a imm s) rfl rfl (by rwa [imm12_of_lt small]) (by rw [imm12_of_lt small])
  · exact does_shift issue (execSrai c i d a imm s) rfl rfl (by rwa [imm12_of_lt small]) (by rw [imm12_of_lt small, sra64, wrap_toNat, i64_eq])

/-- Settles O6: a branch is taken where its comparison of g[d] with g[a] holds; a jump writes g[d] and the program counter. -/
theorem branches : Obligations.Branches := by
  unfold Obligations.Branches
  intro s c i d a imm issue x y X Y br
  refine ⟨?_, ?_, ?_, ?_, ?_, ?_, ?_, ?_⟩
  · exact does_branch issue (execBeq c i d a imm s) rfl rfl beq_iff_eq
  · exact does_branch issue (execBne c i d a imm s) rfl rfl bne_iff_ne
  · exact does_branch issue (execBlt c i d a imm s) rfl rfl (by rw [decide_eq_true_iff, i64_eq, i64_eq])
  · exact does_branch issue (execBge c i d a imm s) rfl rfl (by rw [decide_eq_true_iff, i64_eq, i64_eq])
  · exact does_branch issue (execBltu c i d a imm s) rfl rfl decide_eq_true_iff
  · exact does_branch issue (execBgeu c i d a imm s) rfl rfl decide_eq_true_iff
  · rw [← sext_toInt 17 imm (by decide)]
    exact does_jump issue (execJal c i d imm s) rfl (by rw [execJal, runThread_of_canIssue issue, runThread_of_canIssue issue]; rfl)
  · rw [← wrap_toNat, ← sext_toInt 12 imm (by decide)]
    exact does_jump issue (execJalr c i d a imm s) rfl (by rw [execJalr, runThread_of_canIssue issue, runThread_of_canIssue issue])
end

section
/-! The address space of a thread (R232, R246 to R250): what the checks and places of the scratchpad depend on, and what a read and a write of
bytes do. -/

namespace Sys2Proof.Machine

open Sys2Proof Sys2Proof.Safety

/-! Bytes. -/

theorem getElem_leBytes (n v j : Nat) (h : j < (leBytes n v).length) : (leBytes n v)[j] = BitVec.ofNat 8 (v / 2 ^ (8 * j)) := by
  induction n generalizing v j with
  | zero => exact absurd h (Nat.not_lt_zero _)
  | succ n ih =>
    cases j with
    | zero => simp [leBytes]
    | succ j =>
      have smaller : j < (leBytes n (v / 256)).length := by simpa [leBytes] using h
      simp only [leBytes, List.getElem_cons_succ]
      rw [ih _ j smaller, Nat.div_div_eq_div_mul, show 256 * 2 ^ (8 * j) = 2 ^ (8 * (j + 1)) by ring]

/-! The bank map. -/

/-- The fields that the checks and places of the scratchpad read (R247, R250). -/
def bankFields : List Fld :=
  [Reg.CLU_BANK_OWN_ZEROING, Reg.CLU_BANK_OWN_TENANT, Reg.CLU_BANK_OWN_OWNER, Reg.CLU_BANK_OWN_SHARE_RD, Reg.CLU_BANK_MAP_PHYS]

/-- The banks are owned and mapped as before. -/
def SameBanks (s t : State) : Prop := ∀ f ∈ bankFields, ∀ j, t.rd f j = s.rd f j

section SameBanks

variable {s t : State}

theorem SameBanks.of_fields {l : List Fld} (h : SameFieldsBut l s t) (apart : ∀ f ∈ bankFields, ∀ g ∈ l, f.key ≠ g.key := by decide) :
    SameBanks s t := fun f hf j => h f j (apart f hf)

variable (same : SameBanks s t)
include same

theorem SameBanks.spPlace (c a : Nat) : t.spPlace c a = s.spPlace c a := by
  have phys (b : Nat) : t.rd Reg.CLU_BANK_MAP_PHYS b = s.rd Reg.CLU_BANK_MAP_PHYS b := same _ (by simp [bankFields]) b
  simp only [State.spPlace, phys]

theorem SameBanks.bankCheck (c code ten : Nat) (write : Bool) (a : Nat) : t.bankCheck c code ten write a = s.bankCheck c code ten write a := by
  simp only [SameBanks, bankFields, List.forall_mem_cons] at same
  obtain ⟨zeroing, tenant, owner, share, phys, -⟩ := same
  simp only [State.bankCheck, State.on_eq, zeroing, tenant, owner, share, phys] <;> rfl

theorem SameBanks.spCheck (c code ten : Nat) (write : Bool) (a n : Nat) : t.spCheck c code ten write a n = s.spCheck c code ten write a n := by
  simp only [State.spCheck, same.bankCheck]

theorem SameBanks.spPoisoned (board : t.board = s.board) (c a n : Nat) : t.spPoisoned c a n = s.spPoisoned c a n := by
  simp only [State.spPoisoned, State.bankLine, same.spPlace, board]

theorem SameBanks.spRead (clus : t.clus = s.clus) (c a n : Nat) : t.spRead c a n = s.spRead c a n := by
  simp only [State.spRead, State.cluOf, same.spPlace, clus]

end SameBanks

/-! Reads. -/

@[simp] theorem State.length_spRead (s : State) (c a n : Nat) : (s.spRead c a n).length = n := by simp [State.spRead]

theorem State.getElem_spRead (s : State) (c a n j : Nat) (h : j < (s.spRead c a n).length) :
    (s.spRead c a n)[j] = Mem.rd (s.cluOf c).bank (s.spPlace c (a + j)) := by simp [State.spRead]

@[simp] theorem State.length_thRead (s : State) (c i a n : Nat) : (s.thRead c i a n).length = n := by
  unfold State.thRead
  split
  · exact Mem.length_bytes ..
  · exact State.length_spRead ..

/-! Writes of the scratchpad. -/

/-- `b` is written to the scratchpad from `a` on: each byte at the place that the bank map gives, where these are distinct; every other byte of
the banks, and all else but the record of poisoned lines, stays. -/
structure WritesBanks (c a : Nat) (b : List Byte) (s t : State) : Prop where
  inside : (∀ k < b.length, ∀ j < k, s.spPlace c (a + j) ≠ s.spPlace c (a + k)) →
    ∀ j, (h : j < b.length) → Mem.rd (t.cluOf c).bank (s.spPlace c (a + j)) = b[j]
  outside : ∀ p, (∀ j < b.length, p ≠ s.spPlace c (a + j)) → Mem.rd (t.cluOf c).bank p = Mem.rd (s.cluOf c).bank p
  clusters : ∀ e, { t.cluOf e with bank := [] } = { s.cluOf e with bank := [] }
  rest : t = { s with clus := t.clus, board := t.board }

theorem State.spStore_rest (s : State) (c a : Nat) (b : List Byte) : s.spStore c a b = { s with clus := (s.spStore c a b).clus } := by
  induction b generalizing s a with
  | nil => rfl
  | cons x b ih => exact ih _ _

theorem State.cluOf_spStore (s : State) (c a e : Nat) (b : List Byte) :
    { (s.spStore c a b).cluOf e with bank := [] } = { s.cluOf e with bank := [] } := by
  induction b generalizing s a with
  | nil => rfl
  | cons x b ih =>
    rw [State.spStore, ih]
    by_cases h : e = c
    · rw [h, State.cluOf_setClu]
    · rw [State.cluOf_setClu_ne _ _ h]

theorem State.rd_spStore_of_ne (s : State) (c a p : Nat) (b : List Byte) (h : ∀ j < b.length, p ≠ s.spPlace c (a + j)) :
    Mem.rd ((s.spStore c a b).cluOf c).bank p = Mem.rd (s.cluOf c).bank p := by
  induction b generalizing s a with
  | nil => rfl
  | cons x b ih =>
    have first : p ≠ s.spPlace c a := h 0 (Nat.zero_lt_succ _)
    have later : ∀ j < b.length, p ≠ s.spPlace c (a + 1 + j) := fun j hj => by
      rw [Nat.add_assoc, Nat.add_comm 1]
      exact h (j + 1) (Nat.succ_lt_succ hj)
    refine (ih (s.setClu c { s.cluOf c with bank := Mem.wr (s.cluOf c).bank (s.spPlace c a) x }) (a + 1) later).trans ?_
    rw [State.cluOf_setClu, Mem.rd_wr, if_neg first]

theorem State.rd_spStore (s : State) (c a : Nat) (b : List Byte) (apart : ∀ k < b.length, ∀ j < k, s.spPlace c (a + j) ≠ s.spPlace c (a + k))
    (j : Nat) (hj : j < b.length) : Mem.rd ((s.spStore c a b).cluOf c).bank (s.spPlace c (a + j)) = b[j] := by
  induction b generalizing s a j with
  | nil => exact absurd hj (Nat.not_lt_zero _)
  | cons x b ih =>
    have next (n : Nat) : a + (n + 1) = a + 1 + n := by omega
    cases j with
    | zero =>
      refine (State.rd_spStore_of_ne _ c (a + 1) _ b fun n hn => ?_).trans (by rw [State.cluOf_setClu, Mem.rd_wr]; exact if_pos rfl)
      exact next n ▸ apart (n + 1) (Nat.succ_lt_succ hn) 0 (Nat.zero_lt_succ _)
    | succ j =>
      rw [next]
      refine ih _ (a + 1) (fun k hk n hn => ?_) j (Nat.lt_of_succ_lt_succ hj)
      have := apart (k + 1) (Nat.succ_lt_succ hk) (n + 1) (Nat.succ_lt_succ hn)
      rwa [next n, next k] at this

theorem State.spWrite_does (s : State) (c a : Nat) (b : List Byte) : WritesBanks c a b s (s.spWrite c a b) where
  inside := s.rd_spStore c a b
  outside p := s.rd_spStore_of_ne c a p b
  clusters e := s.cluOf_spStore c a e b
  rest := by
    have rest := s.spStore_rest c a b
    simp only [State.spWrite]
    rw [rest]

section WritesBanks

variable {c a : Nat} {b : List Byte} {s t : State} (h : WritesBanks c a b s t)
include h

theorem WritesBanks.thrOf (e j : Nat) : t.thrOf e j = s.thrOf e j := (congrArg (fun x : Clu => Tbl.get {} j x.thr) (h.clusters e) :)

theorem WritesBanks.rd (f : Fld) (j : Nat) : t.rd f j = s.rd f j := by rw [h.rest]; rfl

theorem WritesBanks.gddr : t.gddr = s.gddr := by rw [h.rest]

end WritesBanks

/-! The checks of an access (R239, R250). -/

theorem withAccess_of_ok {s : State} {c i x n align : Nat} {write : Bool} (h : s.thCheck c i write x n align = .ok) (f : State → State) :
    withAccess c i write x n align s f = f s := by rw [withAccess, h]

theorem isLocal_iff (a : Nat) : isLocal a = true ↔ 0x1000000 ≤ a ∧ a < 0x1004000 := by simp [isLocal]

/-- An aligned write within local memory passes. -/
theorem State.thCheck_local (s : State) (c i : Nat) {x n : Nat} (low : 0x1000000 ≤ x) (high : x + n ≤ 0x1004000) (some_ : 0 < n)
    (aligned : x % n = 0) : s.thCheck c i true x n n = .ok := by
  have first : isLocal x = true := (isLocal_iff x).2 (by omega)
  have last : isLocal (x + n - 1) = true := (isLocal_iff _).2 (by omega)
  simp [State.thCheck, first, last, aligned]

/-! Effective addresses (R235). -/

theorem State.ea_eq (s : State) (c i a imm : Nat) :
    s.ea c i a imm = (BitVec.ofNat 64 (s.g c i a) + (BitVec.ofNat 12 imm).signExtend 64).toNat := by
  rw [State.ea, imm12_eq, toNat_add_word]

theorem State.vea_eq (s : State) (c i a imm : Nat) :
    s.vea c i a imm = (BitVec.ofNat 64 (s.g c i a) + (BitVec.ofNat 12 imm).signExtend 64 * 64#64).toNat := by
  have scaled : wrap 64 (64 * sext 12 imm) = ((BitVec.ofNat 12 imm).signExtend 64 * 64#64).toNat := by
    rw [wrap_toNat, sext_toInt 12 imm (by decide), BitVec.ofInt_mul, BitVec.mul_comm]
    rfl
  rw [State.vea, scaled, toNat_add_word]

/-! What counting an event leaves of a thread and its accesses. -/

section Counted

variable {s u : State} {c i : Nat}

/-- A vector instruction of a thread that can issue runs its body in a state that differs by counted events alone. -/
theorem runVec_of_canIssue (issue : CanIssue s c i) (f : State → State) :
    ∃ u, Keeps State.noRegs pmcFields s u ∧ runVec c i s f = .next (f u) :=
  ⟨_, s.pmc_keeps .., runThread_of_canIssue issue _⟩

variable (kept : Keeps State.noRegs pmcFields s u)
include kept

theorem thrOf_of_counted (e j : Nat) : u.thrOf e j = s.thrOf e j := (congrArg (fun v : State => v.thrOf e j) kept.frame :)
theorem cluOf_of_counted (e : Nat) : u.cluOf e = s.cluOf e := (congrArg (fun v : State => v.cluOf e) kept.frame :)
theorem g_of_counted (n : Nat) : u.g c i n = s.g c i n := (congrArg (fun v : State => v.g c i n) kept.frame :)
theorem v_of_counted (n : Nat) : u.v c i n = s.v c i n := (congrArg (fun v : State => v.v c i n) kept.frame :)
theorem p_of_counted (n : Nat) : u.p c i n = s.p c i n := (congrArg (fun v : State => v.p c i n) kept.frame :)
theorem pc_of_counted : u.pc c i = s.pc c i := kept.rd _ _
theorem sameBanks_of_counted : SameBanks s u := .of_fields kept.regs

theorem thRead_of_counted (a n : Nat) : u.thRead c i a n = s.thRead c i a n := by
  simp only [State.thRead, thrOf_of_counted kept, (sameBanks_of_counted kept).spRead (congrArg State.clus kept.frame :)]

theorem thCheck_of_counted (write : Bool) (x n align : Nat) : u.thCheck c i write x n align = s.thCheck c i write x n align := by
  have board : u.board = s.board := (congrArg State.board kept.frame :)
  have tenant : u.thTenant c i = s.thTenant c i := kept.rd _ _
  have same := sameBanks_of_counted kept
  simp only [State.thCheck, State.localPoisoned, same.spCheck, same.spPoisoned board, tenant, board] <;> rfl

end Counted

end Sys2Proof.Machine
end

section
/-! Loads and stores (R232, R235, R250). -/

namespace Sys2Proof.Safety

open Sys2Proof Sys2Proof.Machine

/-- A write of v[d] writes v[d] and nothing else of the thread. -/
theorem VTakes.of_setV (s : State) (c i d v : Nat) : VTakes c i d v s (s.setV c i d v) where
  value := by rw [State.v, State.setV, State.thrOf_setThr, Tbl.get_set_self]
  others n hn := by rw [State.v, State.setV, State.thrOf_setThr, Tbl.get_set_ne _ _ _ hn]; rfl
  thread := by rw [State.setV, State.thrOf_setThr]

end Sys2Proof.Safety

namespace Sys2Proof.Machine

open Sys2Proof Sys2Proof.Safety

/-- A vector register write, and the step to the next instruction, of a state that differs by counted events alone. -/
theorem vTakes_of_counted {s u : State} {c i : Nat} (kept : Keeps State.noRegs pmcFields s u) (d v : Nat) :
    VTakes c i d v s ((u.setV c i d v).step1 c i) ∧ PcNext c i s ((u.setV c i d v).step1 c i) ∧
      OnlyThread pmcFields c i s ((u.setV c i d v).step1 c i) := by
  obtain ⟨value, others, thread⟩ := VTakes.of_setV u c i d v
  refine ⟨⟨value, fun n hn => (others n hn).trans (v_of_counted kept n), thread.trans ?_⟩, pcNext_step1 (pc_of_counted kept :), ?_⟩
  · rw [thrOf_of_counted kept]
  · exact ((OnlyThread.of_keeps kept).setV d v).step1

section Access

variable {s : State} {c i d a imm : Nat} (issue : CanIssue s c i) {k : Instr} (r : Result) (runs : exec k s = r)
include issue runs

/-- A load whose checks pass puts the bytes into the low bytes of g[d]. -/
theorem does_load {x n : Nat} (is_load : r = load c i d a imm n s) (ea : s.ea c i a imm = x) (pass : s.thCheck c i false x n n = .ok) :
    Does k s fun t => ∃ v, v % 2 ^ (8 * n) = leNat (s.thRead c i x n) ∧ GTakes c i d v s t ∧ PcNext c i s t ∧ OnlyThread [] c i s t := by
  have small : leNat (s.thRead c i x n) < 2 ^ (8 * n) := by
    have := leNat_lt (s.thRead c i x n)
    rwa [State.length_thRead, show 256 = 2 ^ 8 from rfl, ← Nat.pow_mul] at this
  refine ⟨_, (runs.trans is_load).trans (runThread_of_canIssue issue _), ?_⟩
  rw [ea, withAccess_of_ok pass]
  dsimp only
  split
  · exact ⟨_, Nat.mod_eq_of_lt small, s.setG_step1 c i d _⟩
  · exact ⟨_, by rw [Nat.add_mul_mod_self_right, Nat.mod_eq_of_lt small], s.setG_step1_bump c i d _⟩

/-- A store to local memory. -/
theorem does_store_local {x n : Nat} (is_store : r = store c i d a imm n s) (ea : s.ea c i a imm = x) (some_ : 0 < n) (low : 0x1000000 ≤ x)
    (high : x + n ≤ 0x1004000) (aligned : x % n = 0) : Does k s fun t =>
      t.thRead c i x n = leBytes n (s.g c i d) ∧
      (∀ y, (y < x - 0x1000000 ∨ x - 0x1000000 + n ≤ y) → Mem.rd (t.thrOf c i).mem y = Mem.rd (s.thrOf c i).mem y) ∧
      { t.thrOf c i with mem := [] } = { s.thrOf c i with mem := [] } ∧ PcNext c i s t ∧
      (∀ d j, ¬(d = c ∧ j = i) → t.thrOf d j = s.thrOf d j) ∧ SameRegsBut [(Reg.CLU_THR_PC_PC, ix c i)] s t ∧ t.gddr = s.gddr := by
  have here : isLocal x = true := (isLocal_iff x).2 (by omega)
  let b := leBytes n (s.g c i d)
  let u := s.localStore c i (x - 0x1000000) b
  have ends : exec k s = .next (u.step1 c i) := by
    refine (runs.trans is_store).trans ((runThread_of_canIssue issue _).trans ?_)
    rw [ea, withAccess_of_ok (s.thCheck_local c i low high some_ aligned), State.thWrite, here]
    rfl
  have thread : (u.step1 c i).thrOf c i = { s.thrOf c i with mem := Mem.store (s.thrOf c i).mem (x - 0x1000000) b } := s.thrOf_setThr c i _
  refine ⟨_, ends, ?_, fun y hy => ?_, ?_, pcNext_step1 rfl, fun _ _ h => s.thrOf_setThr_ne _ h, u.sameRegsBut_wr _ _ _, rfl⟩
  · have back := Mem.bytes_store_self (s.thrOf c i).mem (x - 0x1000000) b
    rw [State.thRead, here, if_pos rfl, thread]
    rwa [length_leBytes] at back
  · rw [thread]
    exact Mem.rd_store_of_lt _ _ _ _ (by rwa [length_leBytes])
  · rw [thread]

omit issue in
/-- A store to the scratchpad whose checks pass, in a state that differs by counted events alone. -/
theorem does_store_scratch {u : State} (kept : Keeps State.noRegs pmcFields s u) {x n align w : Nat} {f : State → State}
    (is_store : r = .next (withAccess c i true x n align u f)) (body : f u = (u.thWrite c i x (leBytes n w)).step1 c i) (low : x < 0x1000000)
    (pass : s.thCheck c i true x n align = .ok) (apart : ∀ k < n, ∀ j < k, s.spPlace c (x + j) ≠ s.spPlace c (x + k)) : Does k s fun t =>
      (∀ j < n, Mem.rd (t.cluOf c).bank (s.spPlace c (x + j)) = BitVec.ofNat 8 (w / 2 ^ (8 * j))) ∧
      (∀ p, (∀ j < n, p ≠ s.spPlace c (x + j)) → Mem.rd (t.cluOf c).bank p = Mem.rd (s.cluOf c).bank p) ∧
      (∀ e j, t.thrOf e j = s.thrOf e j) ∧ PcNext c i s t ∧ t.gddr = s.gddr ∧ SameFieldsBut (Reg.CLU_THR_PC_PC :: pmcFields) s t := by
  have off : isLocal x = false := Bool.eq_false_iff.2 fun h => by have := (isLocal_iff x).1 h; omega
  have place := (sameBanks_of_counted kept).spPlace c
  have ends : exec k s = .next ((u.spWrite c x (leBytes n w)).step1 c i) := by
    rw [runs, is_store, withAccess_of_ok ((thCheck_of_counted kept ..).trans pass), body, State.thWrite, off]
    rfl
  have writes := u.spWrite_does c x (leBytes n w)
  refine ⟨_, ends, fun j hj => ?_, fun p hp => ?_, fun e j => ?_, ?_, ?_, fun f j hf => ?_⟩
  · have byte := writes.inside (by simpa only [length_leBytes, place] using apart) j (by rwa [length_leBytes])
    rw [getElem_leBytes, place] at byte
    exact byte
  · rw [← cluOf_of_counted kept]
    exact writes.outside p (by simpa only [length_leBytes, place] using hp)
  · exact (writes.thrOf e j).trans (thrOf_of_counted kept e j)
  · exact pcNext_step1 ((writes.rd _ _).trans (pc_of_counted kept))
  · exact writes.gddr.trans (congrArg State.gddr kept.frame :)
  · refine (State.rd_step1_of_ne _ c i f j fun h => hf _ List.mem_cons_self h.1).trans ((writes.rd f j).trans ?_)
    exact kept.regs f j fun g hg => hf g (List.mem_cons_of_mem _ hg)

end Access

end Sys2Proof.Machine

open Sys2Proof Sys2Proof.Machine Sys2Proof.Safety

/-- Settles O4: a load whose checks pass reads the bytes of the address space at its effective address. -/
theorem loads : Obligations.Loads := by
  unfold Obligations.Loads
  constructor
  · intro s c i d a imm issue x loads
    have ea : s.ea c i a imm = x := s.ea_eq c i a imm
    exact ⟨does_load issue (execLdB c i d a imm s) rfl rfl ea, does_load issue (execLdH c i d a imm s) rfl rfl ea,
      does_load issue (execLdW c i d a imm s) rfl rfl ea, does_load issue (execLdD c i d a imm s) rfl rfl ea⟩
  · intro s c i d a imm issue x pass
    obtain ⟨u, kept, runs⟩ := runVec_of_canIssue issue fun u => withAccess c i false (u.vea c i a imm) 128 64 u fun v =>
      (v.setV c i d (leNat (v.thRead c i (v.vea c i a imm) 128))).step1 c i
    have vea : u.vea c i a imm = x := by
      rw [State.vea, g_of_counted kept]
      exact s.vea_eq c i a imm
    rw [vea, withAccess_of_ok ((thCheck_of_counted kept ..).trans pass), vea, thRead_of_counted kept] at runs
    exact ⟨_, runs, vTakes_of_counted kept d _⟩

/-- Settles O5: a store writes the bytes of its register to local memory, or to the places that the bank map gives. -/
theorem stores : Obligations.Stores := by
  unfold Obligations.Stores
  constructor
  · intro s c i d a imm issue x stores
    have ea : s.ea c i a imm = x := s.ea_eq c i a imm
    exact ⟨does_store_local issue (execStB c i d a imm s) rfl rfl ea (by decide), does_store_local issue (execStH c i d a imm s) rfl rfl ea (by decide),
      does_store_local issue (execStW c i d a imm s) rfl rfl ea (by decide), does_store_local issue (execStD c i d a imm s) rfl rfl ea (by decide)⟩
  · intro s c i d a imm issue stores x xv
    have ea : s.ea c i a imm = x := s.ea_eq c i a imm
    have scalar (n : Nat) : store c i d a imm n s =
        .next (withAccess c i true x n n s fun v => (v.thWrite c i x (leBytes n (v.g c i d))).step1 c i) := by
      rw [store, runThread_of_canIssue issue, ea]
    refine ⟨does_store_scratch _ rfl (.refl ..) (scalar 1) rfl, does_store_scratch _ rfl (.refl ..) (scalar 2) rfl,
      does_store_scratch _ rfl (.refl ..) (scalar 4) rfl, does_store_scratch _ rfl (.refl ..) (scalar 8) rfl, ?_⟩
    obtain ⟨u, kept, runs⟩ := runVec_of_canIssue issue fun u => withAccess c i true (u.vea c i a imm) 128 64 u fun v =>
      (v.thWrite c i (v.vea c i a imm) (leBytes 128 (v.v c i d))).step1 c i
    have vea : u.vea c i a imm = xv := by
      rw [State.vea, g_of_counted kept]
      exact s.vea_eq c i a imm
    rw [vea] at runs
    exact does_store_scratch (execVst c i d a imm s) rfl kept runs (by rw [vea, v_of_counted kept])
end

section
/-! Vector registers lane by lane (R232, R235, R270): which bits a lane write changes, and what the writes of a vector instruction do. -/

namespace Sys2Proof.Machine

open Sys2Proof Sys2Proof.Safety

/-! Bits of a value. -/

theorem bit_eq_testBit (v n : Nat) : bit v n = v.testBit n := by rw [bit, Nat.testBit_eq_decide_div_mod_eq]

theorem bits_lt (v lo w : Nat) : bits v lo w < 2 ^ w := Nat.mod_lt _ (Nat.two_pow_pos w)

theorem testBit_bits (v lo w j : Nat) : (bits v lo w).testBit j = (decide (j < w) && v.testBit (lo + j)) := by
  rw [bits, Nat.testBit_mod_two_pow, Nat.testBit_div_two_pow, Nat.add_comm]

/-- The bits of a field are replaced, all others stay. -/
theorem testBit_putBits (v lo w x j : Nat) :
    (putBits v lo w x).testBit j = if lo ≤ j ∧ j < lo + w then x.testBit (j - lo) else v.testBit j := by
  have below : v % 2 ^ lo < 2 ^ lo := Nat.mod_lt _ (Nat.two_pow_pos lo)
  have field : x % 2 ^ w < 2 ^ w := Nat.mod_lt _ (Nat.two_pow_pos w)
  have split_v : v = 2 ^ lo * (2 ^ w * (v / 2 ^ lo / 2 ^ w) + bits v lo w) + v % 2 ^ lo := by
    rw [bits, Nat.div_add_mod, Nat.div_add_mod]
  have put : putBits v lo w x = 2 ^ lo * (2 ^ w * (v / 2 ^ lo / 2 ^ w) + x % 2 ^ w) + v % 2 ^ lo := by
    have := Nat.mul_add (2 ^ lo) (2 ^ w * (v / 2 ^ lo / 2 ^ w)) (bits v lo w)
    have := Nat.mul_add (2 ^ lo) (2 ^ w * (v / 2 ^ lo / 2 ^ w)) (x % 2 ^ w)
    have := Nat.mul_comm (bits v lo w) (2 ^ lo)
    have := Nat.mul_comm (x % 2 ^ w) (2 ^ lo)
    unfold putBits
    omega
  rw [put, Nat.testBit_two_pow_mul_add _ below]
  conv_rhs => rw [split_v]
  rw [Nat.testBit_two_pow_mul_add _ below, Nat.testBit_two_pow_mul_add _ field, Nat.testBit_two_pow_mul_add _ (bits_lt v lo w)]
  by_cases low : j < lo
  · rw [if_pos low, if_neg (by omega), if_pos low]
  · rw [if_neg low, if_neg low]
    by_cases high : j - lo < w
    · rw [if_pos high, if_pos high, if_pos (by omega), Nat.testBit_mod_two_pow, decide_eq_true high, Bool.true_and]
    · rw [if_neg high, if_neg high, if_neg (by omega)]

theorem bits_putBits_self (v lo w x : Nat) : bits (putBits v lo w x) lo w = x % 2 ^ w := by
  refine Nat.eq_of_testBit_eq fun j => ?_
  rw [testBit_bits, testBit_putBits, Nat.testBit_mod_two_pow]
  by_cases h : j < w <;> simp [h]

theorem bits_putBits_of_disjoint {v lo w x lo' w' : Nat} (h : lo' + w' ≤ lo ∨ lo + w ≤ lo') : bits (putBits v lo w x) lo' w' = bits v lo' w' := by
  refine Nat.eq_of_testBit_eq fun j => ?_
  rw [testBit_bits, testBit_bits, testBit_putBits]
  by_cases hj : j < w'
  · rw [if_neg (by omega)]
  · simp [hj]

/-- The bits of a vector register lie below bit 1,024. -/
theorem bits_mod_1024 {v lo w : Nat} (h : lo + w ≤ 1024) : bits (v % 2 ^ 1024) lo w = bits v lo w := by
  refine Nat.eq_of_testBit_eq fun j => ?_
  rw [testBit_bits, testBit_bits, Nat.testBit_mod_two_pow]
  by_cases hj : j < w
  · rw [decide_eq_true (by omega : lo + j < 1024), Bool.true_and]
  · simp [hj]

/-! Lanes. -/

theorem lane_end_le {w l n : Nat} (h : l < n) : w * l + w ≤ w * n := by
  rw [← Nat.mul_succ]
  exact Nat.mul_le_mul_left w h

/-- Lane `l` of `n` lanes of `w` bits takes its value where the predicate is active, and stays where not. -/
theorem bits_writeLanes (p w : Nat) (f : Nat → Nat × Flags) (n old : Nat) {l : Nat} (h : l < n) :
    bits (writeLanes p w f n old).1 (w * l) w = if active p (w * l) then (f l).1 % 2 ^ w else bits old (w * l) w := by
  have stays (m : Nat) : ∀ n ≤ m, bits (writeLanes p w f n old).1 (w * m) w = bits old (w * m) w := by
    intro n
    induction n with
    | zero => exact fun _ => rfl
    | succ n ih =>
      intro hn
      rw [writeLanes]
      split
      · exact (bits_putBits_of_disjoint (.inr (lane_end_le hn))).trans (ih (Nat.le_of_succ_le hn))
      · exact ih (Nat.le_of_succ_le hn)
  induction n with
  | zero => exact absurd h (Nat.not_lt_zero _)
  | succ n ih =>
    rw [writeLanes]
    rcases Nat.lt_succ_iff_lt_or_eq.1 h with earlier | rfl
    · split
      · exact (bits_putBits_of_disjoint (.inl (lane_end_le earlier))).trans (ih earlier)
      · exact ih earlier
    · split
      · exact bits_putBits_self ..
      · exact stays l l le_rfl

/-- A predicate of all ones makes every lane active. -/
theorem active_all {pos : Nat} (h : pos < 1024) : active (2 ^ 128 - 1) pos = true := by
  rw [active, bit_eq_testBit, Nat.testBit_two_pow_sub_one]
  exact decide_eq_true (by omega)

/-- The lanes of the element formats fill a vector register. -/
theorem elemBits_mul_of_vecFormat {f : Nat} (h : vecFormat f = true) : elemBits f * (1024 / elemBits f) = 1024 := by
  simp only [vecFormat, Bool.or_eq_true, beq_iff_eq] at h
  rcases h with ((((rfl | rfl) | rfl) | rfl) | rfl) | rfl <;> rfl

theorem mul_of_laneWidth {w : Nat} (h : laneWidth w = true) : w * (1024 / w) = 1024 := by
  simp only [laneWidth, Bool.or_eq_true, beq_iff_eq] at h
  rcases h with ((rfl | rfl) | rfl) | rfl <;> rfl

/-! Flags (R267). -/

/-- The sticky flags of a thread. -/
def flagFields : List Fld :=
  [Reg.ARR_THR_FP_INVALID, Reg.ARR_THR_FP_OVERFLOW, Reg.ARR_THR_FP_UNDERFLOW, Reg.ARR_THR_FP_INEXACT, Reg.ARR_THR_FP_SATURATED]

theorem State.orFlags_keeps (s : State) (c i : Nat) (f : Flags) : Keeps State.noRegs flagFields s (s.orFlags c i f) := by
  have up {t : State} (h : Keeps State.noRegs flagFields s t) (r : Fld) (b : Bool) (hr : r.key ∈ flagFields.map Fld.key := by decide) :
      Keeps State.noRegs flagFields s (if b then t.wr r (ix c i) 1 else t) := .ite _ (h.wr _ _ _ hr) h
  exact up (up (up (up (up (.refl ..) _ _) _ _) _ _) _ _) _ _

end Sys2Proof.Machine

namespace Sys2Proof.Safety

open Sys2Proof Sys2Proof.Machine

/-- What the register writes of an instruction do does not depend on the rest of the state. -/
theorem VTakes.of_thrOf {s t u : State} {c i d v : Nat} (h : VTakes c i d v s t) (same : u.thrOf c i = t.thrOf c i) : VTakes c i d v s u where
  value := by rw [State.v, same]; exact h.value
  others n hn := by rw [State.v, same]; exact h.others n hn
  thread := by rw [same]; exact h.thread

/-- What a lane of v[d] holds after a write of lanes that fill the register. -/
theorem VTakes.lane {s t : State} {c i d p w n old l : Nat} {f : Nat → Nat × Flags} (h : VTakes c i d (writeLanes p w f n old).1 s t)
    (full : w * n = 1024) (hl : l < n) :
    bits (t.v c i d) (w * l) w = if active p (w * l) then (f l).1 % 2 ^ w else bits old (w * l) w := by
  rw [h.value, bits_mod_1024 (full ▸ lane_end_le hl), bits_writeLanes p w f n old hl]

end Sys2Proof.Safety
end

section
/-! Vector arithmetic and selection (R232, R270). -/

namespace Sys2Proof.Machine

open Sys2Proof Sys2Proof.Safety

/-- Lane `l` of v[n] in the element format of a modifier. -/
def State.lane (s : State) (c i f n l : Nat) : Nat := bits (s.v c i n) (elemBits (f % 16) * l) (elemBits (f % 16))

/-- Is the lane active under the predicate of the modifier? -/
def State.laneOn (s : State) (c i f l : Nat) : Prop := (s.p c i (f / 16 % 8)).testBit (elemBits (f % 16) * l / 8) = true

section Lanes

variable {s u : State} {c i d f : Nat} (kept : Keeps State.noRegs pmcFields s u)
include kept

theorem active_pred (l : Nat) : active (u.pred c i f) (elemBits (f % 16) * l) = true ↔ s.laneOn c i f l := by
  rw [active, bit_eq_testBit, State.pred, p_of_counted kept]
  rfl

/-- The lanes of v[d] in the element format, once lanes are written under the predicate over some old bits. -/
theorem lane_of_takes {t : State} {g : Nat → Nat × Flags} {old l : Nat} (fmt : vecFormat (f % 16) = true)
    (takes : VTakes c i d (writeLanes (u.pred c i f) (elemBits (f % 16)) g (1024 / elemBits (f % 16)) old).1 s t)
    (hl : l < 1024 / elemBits (f % 16)) : (s.laneOn c i f l → t.lane c i f d l = (g l).1 % 2 ^ elemBits (f % 16)) ∧
      (¬s.laneOn c i f l → t.lane c i f d l = bits old (elemBits (f % 16) * l) (elemBits (f % 16))) := by
  rw [State.lane, takes.lane (elemBits_mul_of_vecFormat fmt) hl]
  exact ⟨fun on => if_pos ((active_pred kept l).2 on), fun off => if_neg (mt (active_pred kept l).1 off)⟩

/-- A write of v[d] with the flags that its lanes raise, and the step to the next instruction. -/
theorem vTakes_with_flags (v : Nat) (fl : Flags) :
    VTakes c i d v s (((u.setV c i d v).orFlags c i fl).step1 c i) ∧ PcNext c i s (((u.setV c i d v).orFlags c i fl).step1 c i) ∧
      OnlyThread (pmcFields ++ flagFields) c i s (((u.setV c i d v).orFlags c i fl).step1 c i) := by
  have flagged := (u.setV c i d v).orFlags_keeps c i fl
  obtain ⟨written, -, -⟩ := vTakes_of_counted kept d v
  refine ⟨written.of_thrOf (congrArg (fun v : State => v.thrOf c i) flagged.frame :), ?_, ?_⟩
  · exact pcNext_step1 ((flagged.rd _ _).trans (pc_of_counted kept :))
  · have counted := (OnlyThread.of_keeps kept).mono (c := c) (i := i) (m := pmcFields ++ flagFields) (by simp +contextual)
    have raised := (OnlyThread.of_keeps flagged).mono (c := c) (i := i) (m := pmcFields ++ flagFields) (by simp +contextual)
    exact ((counted.setV d v).trans raised).step1

end Lanes

section LaneWise

/-- A lane-wise instruction whose residue checks pass: each active lane of v[d] takes what `op` makes of the saturation mode and of the lanes of
the vector registers. -/
def laneWise (c i d f : Nat) (op : Bool → (Nat → Nat → Nat) → Nat → Nat × Flags) (s : State) : Result :=
  runVec c i s fun s =>
    if !vecFormat (f % 16) then s.trap c i Cause.illegal 0
    else
      let w := elemBits (f % 16)
      let r := writeLanes (s.pred c i f) w (op (s.sat c i) fun n l => bits (s.v c i n) (w * l) w) (1024 / w) (s.v c i d)
      ((s.setV c i d r.1).orFlags c i r.2).step1 c i

/-- The fused product and sum of three elements (R270). -/
def fmaElem (E : Elem) (sat : Bool) (x y z : Nat) : Nat × Flags :=
  match E with
  | .int k => ((x * y + z) % 2 ^ k, {})
  | _ =>
    let v := ((E.decode x).mul (E.decode y)).add (E.decode z)
    let t := E.round .rne sat v
    (t.1, { t.2 with invalid := v.isNan && !(E.decode x).isNan && !(E.decode y).isNan && !(E.decode z).isNan })

theorem vecBin_eq_laneWise (c i d a b f : Nat) (op : Elem → Bool → Nat → Nat → Nat × Flags) (s : State) :
    vecBin c i d a b f 0 op s = laneWise c i d f (fun sat lane l => op (elemOf (f % 16)) sat (lane a l) (lane b l)) s := rfl

theorem execVfma_eq_laneWise (c i d a b f : Nat) (s : State) :
    execVfma c i d a b f 0 s = laneWise c i d f (fun sat lane l => fmaElem (elemOf (f % 16)) sat (lane a l) (lane b l) (lane d l)) s := rfl

theorem fmaElem_of_not_int {E : Elem} (h : ∀ k, E ≠ .int k) (sat : Bool) (x y z : Nat) :
    (fmaElem E sat x y z).1 = (E.round .rne sat (((E.decode x).mul (E.decode y)).add (E.decode z))).1 := by
  cases E with
  | int k => exact absurd rfl (h k)
  | flt F => rfl
  | mxint => rfl
  | none => rfl

theorem does_laneWise {s : State} {c i d f : Nat} (issue : CanIssue s c i) (fmt : vecFormat (f % 16) = true) {k : Instr}
    {op : Bool → (Nat → Nat → Nat) → Nat → Nat × Flags} (r : Result) (runs : exec k s = r) (is_laneWise : r = laneWise c i d f op s)
    {value : Nat → Nat} (is_value : ∀ l, (op (s.sat c i) (s.lane c i f) l).1 = value l) : Does k s fun t =>
      (∀ l < 1024 / elemBits (f % 16), (s.laneOn c i f l → t.lane c i f d l = value l % 2 ^ elemBits (f % 16)) ∧
        (¬s.laneOn c i f l → t.lane c i f d l = s.lane c i f d l)) ∧
      (∃ v, VTakes c i d v s t) ∧ PcNext c i s t ∧ OnlyThread (pmcFields ++ flagFields) c i s t := by
  obtain ⟨u, kept, ends⟩ := runVec_of_canIssue issue _
  have sat : u.sat c i = s.sat c i := congrArg (· == 1) (kept.rd Reg.ARR_THR_FP_SAT (ix c i))
  refine ⟨_, (runs.trans is_laneWise).trans ends, ?_⟩
  simp only [fmt, Bool.not_true, Bool.false_eq_true, if_false, v_of_counted kept, sat, ← is_value]
  obtain ⟨takes, next, only⟩ := vTakes_with_flags kept (d := d) _ _
  exact ⟨fun l hl => lane_of_takes kept fmt takes hl, ⟨_, takes⟩, next, only⟩

end LaneWise

end Sys2Proof.Machine

open Sys2Proof Sys2Proof.Machine Sys2Proof.Safety

/-- Settles O8: the four instructions are lane-wise, each with its own operation on the elements of a lane. -/
theorem vectorArithmetic : Obligations.VectorArithmetic := by
  unfold Obligations.VectorArithmetic
  intro s c i d a b f issue fmt w E lane on vec
  refine ⟨?_, ?_, ?_, fun k integer => ?_, fun float => ?_⟩
  · exact does_laneWise issue fmt (execVadd c i d a b f 0 s) rfl
      (vecBin_eq_laneWise c i d a b f (fun E sat => E.arith sat Machine.Num.add (· + ·)) s) fun _ => rfl
  · exact does_laneWise issue fmt (execVsub c i d a b f 0 s) rfl
      (vecBin_eq_laneWise c i d a b f (fun E sat => E.arith sat (fun x y => x.add y.neg) (fun x y => x + 2 ^ 64 - y)) s) fun _ => rfl
  · exact does_laneWise issue fmt (execVmul c i d a b f 0 s) rfl
      (vecBin_eq_laneWise c i d a b f (fun E sat => E.arith sat Machine.Num.mul (· * ·)) s) fun _ => rfl
  · refine does_laneWise issue fmt (execVfma c i d a b f 0 s) rfl (execVfma_eq_laneWise c i d a b f s) fun l => ?_
    rw [show elemOf (f % 16) = .int k from integer]
    rfl
  · exact does_laneWise issue fmt (execVfma c i d a b f 0 s) rfl (execVfma_eq_laneWise c i d a b f s) fun l => fmaElem_of_not_int float _ _ _ _
end

section
/-! Vector selection, comparison, permutation and moves (R235, R270). -/

namespace Sys2Proof.Machine

open Sys2Proof Sys2Proof.Safety

theorem exec_vec {s : State} {c i : Nat} (issue : CanIssue s c i) {k : Instr} (r : Result) (runs : exec k s = r) {body : State → State}
    (is_vec : r = runVec c i s body) : ∃ u, Keeps State.noRegs pmcFields s u ∧ exec k s = .next (body u) := by
  obtain ⟨u, kept, ends⟩ := runVec_of_canIssue issue body
  exact ⟨u, kept, (runs.trans is_vec).trans ends⟩

theorem State.p_zero (s : State) (c i : Nat) : s.p c i 0 = 2 ^ 128 - 1 := if_pos rfl

theorem State.p_setP_ne (s : State) (c i v : Nat) {d n : Nat} (h : n % 8 ≠ d % 8) : (s.setP c i d v).p c i n = s.p c i n := by
  unfold State.setP
  split
  · rfl
  · rw [State.p, State.p, State.thrOf_setThr, Tbl.get_set_ne _ _ _ h]

theorem State.setP_rd (s : State) (c i n v : Nat) (f : Fld) (j : Nat) : (s.setP c i n v).rd f j = s.rd f j := by
  unfold State.setP
  split <;> rfl

theorem State.thrOf_setP_rest (s : State) (c i d v : Nat) : { (s.setP c i d v).thrOf c i with p := [] } = { s.thrOf c i with p := [] } := by
  unfold State.setP
  split
  · rfl
  · rw [State.thrOf_setThr]

theorem gTakes_of_counted {s u t : State} {c i d v : Nat} (kept : Keeps State.noRegs pmcFields s u) (h : GTakes c i d v u t) :
    GTakes c i d v s t :=
  ⟨h.value, fun n hn => (h.others n hn).trans (g_of_counted kept n), h.thread.trans (by rw [thrOf_of_counted kept])⟩

section Selection

variable {s : State} {c i d a b f : Nat} (issue : CanIssue s c i) (fmt : vecFormat (f % 16) = true)
include issue fmt

theorem does_vsel : Does (.vsel c i d a b f) s fun t =>
    (∀ l < 1024 / elemBits (f % 16), (s.laneOn c i f l → t.lane c i f d l = s.lane c i f a l) ∧
      (¬s.laneOn c i f l → t.lane c i f d l = s.lane c i f b l)) ∧
    (∃ v, VTakes c i d v s t) ∧ PcNext c i s t ∧ OnlyThread pmcFields c i s t := by
  obtain ⟨u, kept, ends⟩ := exec_vec issue (k := .vsel c i d a b f) (execVsel c i d a b f s) rfl rfl
  refine ⟨_, ends, ?_⟩
  simp only [fmt, Bool.not_true, Bool.false_eq_true, if_false, v_of_counted kept]
  obtain ⟨takes, next, only⟩ := vTakes_of_counted kept d _
  refine ⟨fun l hl => ?_, ⟨_, takes⟩, next, only⟩
  obtain ⟨on, off⟩ := lane_of_takes kept fmt takes hl
  exact ⟨fun h => (on h).trans (Nat.mod_eq_of_lt (bits_lt ..)), off⟩

/-- VMIN and VMAX take the better element of an active lane where the order of the two is stated. -/
theorem does_vecPick {better : Ordering} {k : Instr} (r : Result) (runs : exec k s = r) (is_pick : r = vecPick c i d a b f better s) :
    Does k s fun t =>
      (∀ l < 1024 / elemBits (f % 16), (¬s.laneOn c i f l → t.lane c i f d l = s.lane c i f d l) ∧
        (s.laneOn c i f l → orderStated (elemOf (f % 16)) (s.lane c i f a l) (s.lane c i f b l) = true → t.lane c i f d l =
          if ((elemOf (f % 16)).decode (s.lane c i f b l)).cmp ((elemOf (f % 16)).decode (s.lane c i f a l)) = better then s.lane c i f b l
          else s.lane c i f a l)) ∧
      (∃ v, VTakes c i d v s t) ∧ PcNext c i s t ∧ OnlyThread pmcFields c i s t := by
  obtain ⟨u, kept, ends⟩ := exec_vec issue r runs is_pick
  refine ⟨_, ends, ?_⟩
  simp only [fmt, Bool.not_true, Bool.false_eq_true, if_false, v_of_counted kept]
  obtain ⟨takes, next, only⟩ := vTakes_of_counted kept d _
  refine ⟨fun l hl => ?_, ⟨_, takes.of_thrOf rfl⟩, next, only.bumpN _⟩
  obtain ⟨on, off⟩ := lane_of_takes kept fmt takes hl
  refine ⟨off, fun h stated => (on h).trans ?_⟩
  simp only [State.lane] at stated ⊢
  simp only [stated, Bool.not_true, Bool.false_eq_true, if_false]
  refine Nat.mod_eq_of_lt ?_
  split
  · exact bits_lt ..
  · exact bits_lt ..

theorem does_vcmp : Does (.vcmp c i d f) s fun t =>
    (∀ n, n % 8 ≠ d % 8 → t.p c i n = s.p c i n) ∧ t.p c i 0 = 2 ^ 128 - 1 ∧ { t.thrOf c i with p := [] } = { s.thrOf c i with p := [] } ∧
      PcNext c i s t ∧ OnlyThread pmcFields c i s t := by
  obtain ⟨u, kept, ends⟩ := exec_vec issue (k := .vcmp c i d f) (execVcmp c i d f s) rfl rfl
  simp only [fmt, Bool.not_true, Bool.false_eq_true, if_false] at ends
  have pc : (u.setP c i d (u.free 128)).pc c i = s.pc c i := (State.setP_rd ..).trans (pc_of_counted kept)
  have next : PcNext c i s ((u.setP c i d (u.free 128)).step1 c i) := pcNext_step1 pc
  have only := ((OnlyThread.of_keeps kept).setP (c := c) (i := i) d (u.free 128)).step1.bumpN 1
  refine ⟨_, ends, fun n hn => (u.p_setP_ne c i _ hn).trans (p_of_counted kept n), State.p_zero .., ?_, next, only⟩
  exact (u.thrOf_setP_rest c i d _).trans (by rw [thrOf_of_counted kept])

end Selection

section Moves

variable {s : State} {c i d a b w l : Nat} (issue : CanIssue s c i)

theorem lane_start_lt {n k : Nat} (some_ : 0 < w) (hk : k < n) : w * k < w * n := Nat.mul_lt_mul_of_pos_left hk some_

theorem pos_of_laneWidth (width : laneWidth w = true) : 0 < w := by
  rcases Nat.eq_zero_or_pos w with rfl | h
  · exact absurd width (by decide)
  · exact h

include issue

theorem does_vperm : Does (.vperm c i d a b) s fun t =>
    (∀ j < 128, ∃ k < 128, bits (t.v c i d) (8 * j) 8 = bits (s.v c i a) (8 * k) 8) ∧
      (∃ v, VTakes c i d v s t) ∧ PcNext c i s t ∧ OnlyThread pmcFields c i s t := by
  obtain ⟨u, kept, ends⟩ := exec_vec issue (k := .vperm c i d a b) (execVperm c i d a b s) rfl rfl
  obtain ⟨takes, next, only⟩ := vTakes_of_counted kept d _
  refine ⟨_, ends, fun j hj => ⟨Config.permByte (u.v c i b) j % 128, Nat.mod_lt _ (by decide), ?_⟩, ⟨_, takes⟩, next, only⟩
  rw [takes.lane rfl hj, if_pos (active_all (by omega)), v_of_counted kept]
  exact Nat.mod_eq_of_lt (bits_lt ..)

variable (width : laneWidth w = true) (inside : l < 1024 / w)
include width inside

theorem does_vbcast : Does (.vbcast c i d a w l) s fun t =>
    (∀ k < 1024 / w, bits (t.v c i d) (w * k) w = bits (s.v c i a) (w * l) w) ∧
      (∃ v, VTakes c i d v s t) ∧ PcNext c i s t ∧ OnlyThread pmcFields c i s t := by
  obtain ⟨u, kept, ends⟩ := exec_vec issue (k := .vbcast c i d a w l) (execVbcast c i d a w l s) rfl rfl
  rw [if_neg (by simp [width, inside])] at ends
  obtain ⟨takes, next, only⟩ := vTakes_of_counted kept d _
  have full := mul_of_laneWidth width
  refine ⟨_, ends, fun k hk => ?_, ⟨_, takes⟩, next, only⟩
  rw [takes.lane full hk, if_pos (active_all (full ▸ lane_start_lt (pos_of_laneWidth width) hk)), v_of_counted kept]
  exact Nat.mod_eq_of_lt (bits_lt ..)

theorem does_vmovg : Does (.vmovg c i d a w l) s fun t =>
    (∃ v, v % 2 ^ w = bits (s.v c i a) (w * l) w ∧ GTakes c i d v s t) ∧ PcNext c i s t ∧ OnlyThread pmcFields c i s t := by
  obtain ⟨u, kept, ends⟩ := exec_vec issue (k := .vmovg c i d a w l) (execVmovg c i d a w l s) rfl rfl
  rw [if_neg (by simp [width, inside])] at ends
  obtain ⟨takes, next, only⟩ := u.setG_step1_bump c i d (bits (u.v c i a) (w * l) w + u.free (64 - w) * 2 ^ w)
  refine ⟨_, ends, ⟨_, ?_, gTakes_of_counted kept takes⟩, next.trans (by rw [pc_of_counted kept]), ?_⟩
  · rw [Nat.add_mul_mod_self_right, v_of_counted kept]
    exact Nat.mod_eq_of_lt (bits_lt ..)
  · exact (OnlyThread.of_keeps kept).trans (only.mono (by simp))

theorem does_vmovv : Does (.vmovv c i d a w l) s fun t =>
    bits (t.v c i d) (w * l) w = s.g c i a % 2 ^ w ∧
      (∀ k, k ≠ l → k < 1024 / w → bits (t.v c i d) (w * k) w = bits (s.v c i d) (w * k) w) ∧
      (∃ v, VTakes c i d v s t) ∧ PcNext c i s t ∧ OnlyThread pmcFields c i s t := by
  obtain ⟨u, kept, ends⟩ := exec_vec issue (k := .vmovv c i d a w l) (execVmovv c i d a w l s) rfl rfl
  rw [if_neg (by simp [width, inside])] at ends
  obtain ⟨takes, next, only⟩ := vTakes_of_counted kept d _
  have full := mul_of_laneWidth width
  refine ⟨_, ends, ?_, fun k hk below => ?_, ⟨_, takes⟩, next, only⟩
  · rw [takes.value, bits_mod_1024 (full ▸ lane_end_le inside), bits_putBits_self, g_of_counted kept]
  · have apart : w * k + w ≤ w * l ∨ w * l + w ≤ w * k := (Nat.lt_or_gt_of_ne hk).imp lane_end_le lane_end_le
    rw [takes.value, bits_mod_1024 (full ▸ lane_end_le below), bits_putBits_of_disjoint apart, v_of_counted kept]

end Moves

end Sys2Proof.Machine

open Sys2Proof Sys2Proof.Machine Sys2Proof.Safety

/-- Settles O9: selections write lanes under the predicate, the moves and the permutation write all lanes or one. -/
theorem vectorSelection : Obligations.VectorSelection := by
  unfold Obligations.VectorSelection
  constructor
  · intro s c i d a b f issue fmt w E lane on
    exact ⟨does_vsel issue fmt, does_vecPick issue fmt (execVmin c i d a b f s) rfl rfl, does_vecPick issue fmt (execVmax c i d a b f s) rfl rfl,
      does_vcmp issue fmt⟩
  · intro s c i d a b w l issue
    exact ⟨fun width inside => ⟨does_vbcast issue width inside, does_vmovg issue width inside, does_vmovv issue width inside⟩, does_vperm issue⟩
end

section
/-! Threads that wait and go on (R236, R238, R240): what a change of a thread's wait and state leaves, and the fences, barriers and SIGNAL. -/

namespace Sys2Proof.Machine

open Sys2Proof Sys2Proof.Safety

/-! Waits. -/

/-- Thread `i` waits for `w`, and shows a state. -/
def State.setWait (s : State) (c i : Nat) (w : Wait) (st : Nat) : State := (s.setThr c i { s.thrOf c i with wait := w }).setThState c i st

section Wait

variable (s : State) (c i : Nat) (w : Wait) (st : Nat)

@[simp] theorem State.thrOf_setWait : (s.setWait c i w st).thrOf c i = { s.thrOf c i with wait := w } := s.thrOf_setThr c i _

theorem State.wait_setWait : ((s.setWait c i w st).thrOf c i).wait = w := congrArg Thr.wait (s.thrOf_setWait c i w st)

theorem State.thrOf_setWait_ne {e j : Nat} (h : ¬(e = c ∧ j = i)) : (s.setWait c i w st).thrOf e j = s.thrOf e j := s.thrOf_setThr_ne _ h

theorem State.rd_setWait_of_ne (f : Fld) (j : Nat) (h : ¬(f.key = Reg.CLU_THR_STATUS_STATE.key ∧ j = ix c i)) :
    (s.setWait c i w st).rd f j = s.rd f j := State.rd_wr_ne _ _ _ _ _ _ h

theorem State.thState_setWait (small : st < 8) : (s.setWait c i w st).thState c i = st :=
  (State.rd_wr_self ..).trans (Nat.mod_eq_of_lt small)

theorem State.g_setWait (n : Nat) : (s.setWait c i w st).g c i n = s.g c i n := by rw [State.g, State.thrOf_setWait]; rfl

theorem State.pc_setWait : (s.setWait c i w st).pc c i = s.pc c i := s.rd_setWait_of_ne c i w st _ _ fun h => absurd h.1 (by decide)

theorem State.clu_setWait (e : Nat) : { (s.setWait c i w st).cluOf e with thr := [] } = { s.cluOf e with thr := [] } :=
  s.cluOf_setThr_rest c i e _

theorem State.thState_step1 (j : Nat) : (s.step1 c i).thState c j = s.thState c j :=
  s.rd_step1_of_ne c i _ _ fun h => absurd h.1 (by decide)

end Wait

/-! Fences (R238). -/

section Fence

variable {s : State} {c i mask : Nat}

/-- Whether a fence holds does not depend on what its thread waits for. -/
theorem State.fenceHolds_setWait (w : Wait) (st : Nat) : (s.setWait c i w st).fenceHolds c i mask = s.fenceHolds c i mask := by
  have clu := s.clu_setWait c i w st c
  have slots (u k : Nat) : (s.setWait c i w st).slotOf c u k = s.slotOf c u k := (congrArg (fun x : Clu => Tbl.get {} (slotKey u k) x.slots) clu :)
  have arr : (s.setWait c i w st).arr c = s.arr c := (congrArg Clu.arr clu :)
  have spk : (s.setWait c i w st).spk c = s.spk c := (congrArg Clu.spk clu :)
  have rd (f : Fld) (h : f.key ≠ Reg.CLU_THR_STATUS_STATE.key := by decide) : (s.setWait c i w st).rd f c = s.rd f c :=
    s.rd_setWait_of_ne c i w st f c fun e => h e.1
  simp only [State.fenceHolds, State.slotsDone, slots, arr, spk, rd Reg.CLU_ARR_OWN_HOLDER, rd Reg.CLU_SPK_OWN_HOLDER, State.thrOf_setWait]

variable (noVis : mask.testBit 4 = false)
include noVis

theorem State.fenceTry_of_not_holds (open_ : s.fenceHolds c i mask = false) : s.fenceTry c i mask = s := by
  simp [State.fenceTry, bit_eq_testBit, noVis, open_]

theorem State.fenceTry_of_holds (quiet : mask.testBit 3 = true → (s.spk c).trapDue = false) (holds : s.fenceHolds c i mask = true) :
    s.fenceTry c i mask = (s.setWait c i .none Ts.ready).step1 c i := by
  have spk : (s.setWait c i .none Ts.ready).spk c = s.spk c := (congrArg Clu.spk (s.clu_setWait c i .none Ts.ready c) :)
  have calm : ¬(bit mask 3 = true ∧ (s.setWait c i .none Ts.ready).rd Reg.CLU_SPK_OWN_HOLDER c = i + 1 ∧
      ((s.setWait c i .none Ts.ready).spk c).trapDue = true) := by
    rintro ⟨three, -, due⟩
    rw [spk, quiet (bit_eq_testBit mask 3 ▸ three)] at due
    exact absurd due (by decide)
  simp only [State.fenceTry, bit_eq_testBit, noVis, Bool.false_eq_true, false_and, if_false, holds, Bool.not_true]
  exact if_neg (by rw [← bit_eq_testBit]; exact calm)

end Fence

theorem does_fence {s : State} {c i mask : Nat} (issue : CanIssue s c i) (noVis : mask.testBit 4 = false)
    (quiet : mask.testBit 3 = true → (s.spk c).trapDue = false) :
    (s.fenceHolds c i mask = true → Does (.fence c i mask) s fun t => t.thState c i = Ts.ready ∧ PcNext c i s t ∧ (t.thrOf c i).wait = .none ∧
      SameRegsBut [(Reg.CLU_THR_PC_PC, ix c i), (Reg.CLU_THR_STATUS_STATE, ix c i)] s t) ∧
    (s.fenceHolds c i mask = false → Does (.fence c i mask) s fun t => t.thState c i = Ts.waitSync ∧ t.pc c i = s.pc c i ∧
      (t.thrOf c i).wait = .fence mask) := by
  let u := s.setWait c i (.fence mask) Ts.waitSync
  have runs : exec (.fence c i mask) s = .next (u.fenceTry c i mask) :=
    exec_thread issue (execFence c i mask s) rfl rfl
  have spk : u.spk c = s.spk c := (congrArg Clu.spk (s.clu_setWait c i (.fence mask) Ts.waitSync c) :)
  have fence : u.fenceHolds c i mask = s.fenceHolds c i mask := State.fenceHolds_setWait ..
  constructor
  · intro holds
    rw [State.fenceTry_of_holds noVis (by rwa [spk]) (fence.trans holds)] at runs
    refine ⟨_, runs, (State.thState_step1 ..).trans (u.thState_setWait c i .none _ (by decide)),
      pcNext_step1 ((u.pc_setWait c i .none _).trans (s.pc_setWait c i _ _)), u.wait_setWait c i .none Ts.ready, fun f j hf => ?_⟩
    have pc : ¬(f.key = Reg.CLU_THR_PC_PC.key ∧ j = ix c i) := hf _ (.head _)
    have state : ¬(f.key = Reg.CLU_THR_STATUS_STATE.key ∧ j = ix c i) := hf _ (.tail _ (.head _))
    rw [State.rd_step1_of_ne _ c i f j pc, u.rd_setWait_of_ne c i _ _ f j state, s.rd_setWait_of_ne c i _ _ f j state]
  · intro open_
    rw [State.fenceTry_of_not_holds noVis (fence.trans open_)] at runs
    exact ⟨u, runs, s.thState_setWait c i _ _ (by decide), s.pc_setWait c i _ _, s.wait_setWait c i _ _⟩

theorem does_fenceRelease {s : State} {c i mask : Nat} (waits : (s.thrOf c i).wait = .fence mask) (noVis : mask.testBit 4 = false)
    (quiet : mask.testBit 3 = true → (s.spk c).trapDue = false) (holds : s.fenceHolds c i mask = true) :
    Does (.fenceRelease c i) s fun t => t.thState c i = Ts.ready ∧ PcNext c i s t ∧ (t.thrOf c i).wait = .none := by
  have runs : exec (.fenceRelease c i) s = .next (s.fenceTry c i mask) := by
    show execFenceRelease c i s = _
    rw [execFenceRelease, waits]
  rw [State.fenceTry_of_holds noVis quiet holds] at runs
  exact ⟨_, runs, (State.thState_step1 ..).trans (s.thState_setWait c i _ _ (by decide)), pcNext_step1 (s.pc_setWait c i _ _),
    s.wait_setWait c i .none Ts.ready⟩

/-! Barriers (R238). -/

theorem does_barrier {s : State} {c i mask : Nat} (issue : CanIssue s c i) :
    (i ∈ barrierThreads mask → Does (.barrier c i mask) s fun t => t.thState c i = Ts.waitSync ∧ (t.thrOf c i).wait = .barrier (mask % 16) ∧
      t.pc c i = s.pc c i) ∧
    (i ∉ barrierThreads mask → Does (.barrier c i mask) s fun t => PcNext c i s t ∧ OnlyThread [] c i s t ∧ t.thrOf c i = s.thrOf c i) := by
  have runs := exec_thread issue (k := .barrier c i mask) (execBarrier c i mask s) rfl rfl
  constructor
  · intro named
    rw [if_pos (List.contains_iff_mem.2 named)] at runs
    exact ⟨s.setWait c i (.barrier (mask % 16)) Ts.waitSync, runs, s.thState_setWait c i _ _ (by decide), s.wait_setWait c i _ _, s.pc_setWait c i _ _⟩
  · intro unnamed
    rw [if_neg (mt List.contains_iff_mem.1 unnamed)] at runs
    exact ⟨_, runs, pcNext_step1 rfl, (OnlyThread.refl [] c i s).step1, rfl⟩

theorem ix_inj {c i j : Nat} : ix c i = ix c j ↔ i = j := by simp [ix]

/-- Thread `j` is released from a barrier. -/
def State.release (c : Nat) (s : State) (j : Nat) : State := (s.setWait c j .none Ts.ready).step1 c j

section Release

variable (s : State) (c : Nat) {j k : Nat}

theorem State.release_self (j : Nat) : (State.release c s j).thState c j = Ts.ready ∧ PcNext c j s (State.release c s j) ∧
    ((State.release c s j).thrOf c j).wait = .none :=
  ⟨(State.thState_step1 ..).trans (s.thState_setWait c j _ _ (by decide)), pcNext_step1 (s.pc_setWait c j _ _),
    s.wait_setWait c j .none Ts.ready⟩

theorem State.release_other (h : k ≠ j) : (State.release c s j).thrOf c k = s.thrOf c k ∧ (State.release c s j).thState c k = s.thState c k ∧
    (State.release c s j).pc c k = s.pc c k := by
  have apart : ix c k ≠ ix c j := mt ix_inj.1 h
  refine ⟨s.thrOf_setWait_ne c j .none Ts.ready fun e => h e.2, ?_, ?_⟩
  · exact ((s.setWait c j .none Ts.ready).rd_step1_of_ne c j _ _ fun e => apart e.2).trans (s.rd_setWait_of_ne c j .none Ts.ready _ _ fun e => apart e.2)
  · exact ((s.setWait c j .none Ts.ready).rd_step1_of_ne c j _ _ fun e => apart e.2).trans (s.rd_setWait_of_ne c j .none Ts.ready _ _ fun e => apart e.2)

/-- Released one after the other, each of the threads goes on, and the others stay. -/
theorem State.release_all (l : List Nat) (nodup : l.Nodup) :
    (∀ j ∈ l, (l.foldl (State.release c) s).thState c j = Ts.ready ∧ PcNext c j s (l.foldl (State.release c) s) ∧
      ((l.foldl (State.release c) s).thrOf c j).wait = .none) ∧
    (∀ k ∉ l, (l.foldl (State.release c) s).thrOf c k = s.thrOf c k ∧ (l.foldl (State.release c) s).thState c k = s.thState c k ∧
      (l.foldl (State.release c) s).pc c k = s.pc c k) := by
  induction l generalizing s with
  | nil => exact ⟨fun j hj => absurd hj List.not_mem_nil, fun k _ => ⟨rfl, rfl, rfl⟩⟩
  | cons x l ih =>
    obtain ⟨new, rest⟩ := List.nodup_cons.1 nodup
    obtain ⟨freed, still⟩ := ih (State.release c s x) rest
    refine ⟨fun j hj => ?_, fun k hk => ?_⟩
    · rcases List.mem_cons.1 hj with rfl | later
      · obtain ⟨ready, next, wait⟩ := s.release_self c j
        obtain ⟨thread, state, pc⟩ := still j new
        exact ⟨state.trans ready, pc.trans next, (congrArg Thr.wait thread).trans wait⟩
      · have apart : j ≠ x := fun e => new (e ▸ later)
        obtain ⟨ready, next, wait⟩ := freed j later
        refine ⟨ready, next.trans ?_, wait⟩
        rw [(s.release_other c apart).2.2]
    · obtain ⟨ne, out⟩ := not_or.1 (mt List.mem_cons.2 hk)
      obtain ⟨thread, state, pc⟩ := still k out
      obtain ⟨thread', state', pc'⟩ := s.release_other c ne
      exact ⟨thread.trans thread', state.trans state', pc.trans pc'⟩

end Release

theorem does_barrierRelease {s : State} {c mask : Nat} (all : ∀ j ∈ barrierThreads mask, (s.thrOf c j).wait = .barrier (mask % 16)) :
    Does (.barrierRelease c mask) s fun t =>
      (∀ j ∈ barrierThreads mask, t.thState c j = Ts.ready ∧ PcNext c j s t ∧ (t.thrOf c j).wait = .none) ∧
      ∀ j, j ∉ barrierThreads mask → t.thrOf c j = s.thrOf c j := by
  have nodup : (barrierThreads mask).Nodup := List.Nodup.filter _ (by decide)
  obtain ⟨freed, still⟩ := s.release_all c (barrierThreads mask) nodup
  refine ⟨_, congrArg Host.Outcome.next (if_pos (List.all_eq_true.2 fun j hj => beq_iff_eq.2 (all j hj))), freed, fun j hj => (still j hj).1⟩

/-! SIGNAL (R303). -/

theorem does_signal {s : State} {c i v p : Nat} {o : PelOp} (issue : CanIssue s c i) (on : s.pelOn c i = some p) (op : (s.pelOf p).op = some o) :
    (v ≠ 1 → Does (.signal c i v) s fun t => t.pelOf p = { s.pelOf p with op := some { o with signal := v % 2 ^ 32 } } ∧ PcNext c i s t ∧
      (∀ q, q ≠ p → t.pelOf q = s.pelOf q) ∧ t.gddr = s.gddr ∧ t.out = s.out) ∧
    (v = 1 → Does (.signal c i v) s fun t => t = (State.deliverAll p 64 (State.sendDescs p 64 s)).step1 c i) := by
  have runs := exec_thread issue (k := .signal c i v) (execSignal c i v s) rfl rfl
  simp only [on, op] at runs
  constructor
  · intro other
    simp only [if_neg other] at runs
    exact ⟨_, runs, s.pelOf_setPel p _, pcNext_step1 rfl, fun q hq => s.pelOf_setPel_ne _ hq, rfl, rfl⟩
  · intro one
    simp only [if_pos one] at runs
    exact ⟨_, runs, rfl⟩

end Sys2Proof.Machine

open Sys2Proof Sys2Proof.Machine Sys2Proof.Safety

/-- Settles O13: a fence and a barrier change what their threads wait for; SIGNAL writes the operation's report, or sends and delivers. -/
theorem fencesBarriersSignals : Obligations.FencesBarriersSignals := by
  unfold Obligations.FencesBarriersSignals
  exact ⟨fun s c i mask => ⟨does_fence, does_fenceRelease, does_barrier, does_barrierRelease⟩,
    fun s c i v p o issue on op => does_signal issue on op⟩
end

section
/-! CREAD, CWAIT with its end, and CDEADLINE (R45, R236, R308). -/

namespace Sys2Proof.Machine

open Sys2Proof Sys2Proof.Safety

/-! The end of a CWAIT. -/

/-- A CWAIT of thread `i` has ended with a code: g[d] takes it, and the thread goes on. -/
structure CwaitEnds (c i d code : Nat) (s t : State) : Prop where
  result : t.g c i d = if d % 32 = 0 then 0 else code
  state : t.thState c i = Ts.ready
  wait : (t.thrOf c i).wait = .none
  next : PcNext c i s t
  armed : t.armed = s.armed
  now : t.now = s.now
  late : code = 1 → t.rd Reg.CLU_THR_STATUS_LATE (ix c i) = 1
  cancelled : code = 2 → t.rd Reg.CLU_THR_STATUS_CANCELLED (ix c i) = 1

/-- How a CWAIT that ends shows its code. -/
def State.showCwait (s : State) (c i code : Nat) : State :=
  if code = 1 then s.wr Reg.CLU_THR_STATUS_LATE (ix c i) 1 else if code = 2 then s.wr Reg.CLU_THR_STATUS_CANCELLED (ix c i) 1 else s

theorem State.cwaitEnd_eq (s : State) (c i d code : Nat) :
    s.cwaitEnd c i d code = (((s.showCwait c i code).setWait c i .none Ts.ready).setG c i d code).step1 c i := rfl

theorem State.showCwait_keeps (s : State) (c i code : Nat) :
    Keeps State.noRegs [Reg.CLU_THR_STATUS_LATE, Reg.CLU_THR_STATUS_CANCELLED] s (s.showCwait c i code) :=
  .ite _ ((Keeps.refl ..).wr _ _ _) (.ite _ ((Keeps.refl ..).wr _ _ _) (.refl ..))

theorem State.cwaitEnd_ends (s : State) (c i d : Nat) {code : Nat} (small : code < 2 ^ 64) : CwaitEnds c i d code s (s.cwaitEnd c i d code) := by
  have shown := s.showCwait_keeps c i code
  have late : code = 1 → (s.showCwait c i code).rd Reg.CLU_THR_STATUS_LATE (ix c i) = 1 := fun h => by
    rw [State.showCwait, if_pos h, State.rd_wr_self]; rfl
  have cancelled : code = 2 → (s.showCwait c i code).rd Reg.CLU_THR_STATUS_CANCELLED (ix c i) = 1 := fun h => by
    rw [State.showCwait, if_neg (by omega), if_pos h, State.rd_wr_self]; rfl
  rw [State.cwaitEnd_eq]
  generalize s.showCwait c i code = u at shown late cancelled
  have rd (f : Fld) (j : Nat) (pc : f.key ≠ Reg.CLU_THR_PC_PC.key := by decide) (st : f.key ≠ Reg.CLU_THR_STATUS_STATE.key := by decide) :
      (((u.setWait c i .none Ts.ready).setG c i d code).step1 c i).rd f j = u.rd f j := by
    rw [State.rd_step1_of_ne _ c i f j fun h => pc h.1, State.setG_rd, u.rd_setWait_of_ne c i _ _ f j fun h => st h.1]
  have takes := (u.setWait c i .none Ts.ready).gTakes_setG c i d code
  refine ⟨?_, ?_, ?_, pcNext_step1 ?_, ?_, (rd _ _).trans (shown.rd _ _), fun h => (rd _ _).trans (late h), fun h => (rd _ _).trans (cancelled h)⟩
  · exact takes.value.trans (by rw [Nat.mod_eq_of_lt small])
  · rw [State.thState_step1, State.thState, State.setG_rd]
    exact u.thState_setWait c i .none Ts.ready (by decide)
  · have wait : ∀ x y : Thr, { x with g := [] } = { y with g := [] } → x.wait = y.wait := fun x y h => (congrArg Thr.wait h :)
    exact (wait _ _ takes.thread).trans (u.wait_setWait c i .none Ts.ready)
  · rw [State.setG_pc, u.pc_setWait]
    exact shown.rd _ _
  · have armed : u.armed = s.armed := (congrArg State.armed shown.frame :)
    rw [← armed]
    show ((u.setWait c i .none Ts.ready).setG c i d code).armed = _
    rw [State.setG_rest]
    rfl

/-! CREAD and CWAIT. -/

section Cwait

variable {s : State} {c i d a : Nat} (issue : CanIssue s c i)
include issue

theorem does_cread : Does (.cread c i d) s fun t =>
    GTakes c i d (s.rd Reg.CAD_COUNT_COUNT) s t ∧ PcNext c i s t ∧ OnlyThread [] c i s t :=
  ⟨_, exec_thread issue (execCread c i d s) rfl rfl, s.setG_step1 c i d _⟩

/-- CWAIT in FREE and ACQUIRE is cancelled at once. -/
theorem does_cwait_unsynced (free : s.rd Reg.CAD_STATUS_STATE < 2) : Does (.cwait c i d a) s (CwaitEnds c i d 2 s) := by
  have runs := exec_thread issue (k := .cwait c i d a) (execCwait c i d a s) rfl rfl
  rw [if_pos free] at runs
  exact ⟨_, runs, s.cwaitEnd_ends c i d (by decide)⟩

/-- CWAIT for a count that has passed ends late at once. -/
theorem does_cwait_past (synced : 2 ≤ s.rd Reg.CAD_STATUS_STATE) (past : s.g c i a ≤ s.now) :
    Does (.cwait c i d a) s (CwaitEnds c i d 1 s) := by
  have runs := exec_thread issue (k := .cwait c i d a) (execCwait c i d a s) rfl rfl
  rw [if_neg (Nat.not_lt.2 synced), if_pos past] at runs
  exact ⟨_, runs, s.cwaitEnd_ends c i d (by decide)⟩

theorem does_cwait_ahead (synced : 2 ≤ s.rd Reg.CAD_STATUS_STATE) (ahead : s.now < s.g c i a) : Does (.cwait c i d a) s fun t =>
    t.thState c i = Ts.waitCadence ∧ (t.thrOf c i).wait = .cadence (s.g c i a) d ∧
      t.armed = s.armed ++ [{ kind := .cwait c i, at_ := s.g c i a }] ∧ t.pc c i = s.pc c i ∧ ∀ n, t.g c i n = s.g c i n := by
  have runs := exec_thread issue (k := .cwait c i d a) (execCwait c i d a s) rfl rfl
  rw [if_neg (Nat.not_lt.2 synced), if_neg (Nat.not_le.2 ahead)] at runs
  let u := s.arm (.cwait c i) (s.g c i a)
  exact ⟨u.setWait c i (.cadence (s.g c i a) d) Ts.waitCadence, runs, u.thState_setWait c i _ _ (by decide), u.wait_setWait c i _ _, rfl,
    u.pc_setWait c i _ _, fun n => u.g_setWait c i _ _ n⟩

end Cwait

/-! The count comes, or the wait is cancelled. -/

section Fired

variable {s : State} {c i d T T' : Nat} (waits : (s.thrOf c i).wait = .cadence T' d)
include waits

theorem exec_cwaitFire {u : State} {late : Bool} (fires : s.fire (.cwait c i) = (u, true, late)) (thread : u.thrOf c i = s.thrOf c i) :
    exec (.cwaitFire c i) s = .next (u.cwaitEnd c i d (b2n late)) := by
  show execCwaitFire c i s = _
  simp only [execCwaitFire, fires, thread, waits, if_true]

theorem does_cwaitFire (armed : s.armedAt (.cwait c i) = some T) (next : s.isNext (.cwait c i) T = true) (run : s.rd Reg.CAD_STATUS_STATE ≠ 4)
    (awake : s.resting = false) : Does (.cwaitFire c i) s fun t =>
      t.g c i d = (if d % 32 = 0 ∨ s.now ≤ T then 0 else 1) ∧ (s.now ≤ T → t.now = T % 2 ^ 64) ∧ (T < s.now → t.now = s.now) ∧
      t.thState c i = Ts.ready ∧ (t.thrOf c i).wait = .none ∧ PcNext c i s t ∧ t.armed = s.armed.filter (fun e => e.kind ≠ .cwait c i) := by
  rcases Nat.lt_or_ge T s.now with late | due
  · let u := ((s.disarm (.cwait c i)).count Reg.CAD_LATE_COUNT_COUNT).wr Reg.CAD_EVT_STATUS_LATE_FIRE 0 1
    have pc : u.pc c i = s.pc c i := (State.rd_wr_of_key _ _ _ _ _ _ (by decide)).trans (State.rd_wr_of_key _ _ _ _ _ _ (by decide))
    have now : u.now = s.now := (State.now_wr_of_key _ _ _ _ (by decide)).trans (State.now_wr_of_key _ _ _ _ (by decide))
    have ends := u.cwaitEnd_ends c i d (code := 1) (by decide)
    refine ⟨_, exec_cwaitFire waits (State.fire_of_late armed run next awake late) rfl, ?_, fun h => absurd h (Nat.not_le.2 late),
      fun _ => ends.now.trans now, ends.state, ends.wait, ends.next.trans (by rw [pc]), ends.armed⟩
    rw [if_congr (or_iff_left (Nat.not_le.2 late)) rfl rfl]
    exact ends.result
  · let u := (s.disarm (.cwait c i)).wr Reg.CAD_COUNT_COUNT 0 T
    have pc : u.pc c i = s.pc c i := State.rd_wr_of_key _ _ _ _ _ _ (by decide)
    have ends := u.cwaitEnd_ends c i d (code := 0) (by decide)
    refine ⟨_, exec_cwaitFire waits (State.fire_of_due armed run next awake due) rfl, ?_, fun _ => ends.now.trans (State.now_wr_count _ T),
      fun h => absurd h (Nat.not_lt.2 due), ends.state, ends.wait, ends.next.trans (by rw [pc]), ends.armed⟩
    rw [if_pos (.inr due)]
    exact ends.result.trans (ite_self 0)

/-- A cancelled CWAIT ends with 2. -/
theorem State.cancelEv_cwait : CwaitEnds c i d 2 (s.disarm (.cwait c i)) (s.cancelEv { kind := .cwait c i, at_ := T' }) := by
  have ends : s.cancelEv { kind := .cwait c i, at_ := T' } = (s.disarm (.cwait c i)).cwaitEnd c i d 2 := by
    have thread : (s.disarm (.cwait c i)).thrOf c i = s.thrOf c i := rfl
    simp only [State.cancelEv, thread, waits]
  rw [ends]
  exact State.cwaitEnd_ends _ c i d (by decide)

end Fired

/-! Deadlines (R236, R308). -/

section Deadline

variable {s : State} {c i d a : Nat} (issue : CanIssue s c i)
include issue

theorem does_cdeadline_of_none (none_ : s.pelOn c i = none) : Does (.cdeadline c i d a) s fun t =>
    ∃ v, GTakes c i d v s t ∧ PcNext c i s t ∧ OnlyThread [] c i s t := by
  have runs := exec_thread issue (k := .cdeadline c i d a) (execCdeadline c i d a s) rfl rfl
  simp only [none_] at runs
  exact ⟨_, runs, _, s.setG_step1_bump c i d _⟩

variable {p r T : Nat} {o : PelOp} (on : s.pelOn c i = some p) (op : (s.pelOf p).op = some o) (launch : o.launchAt ≠ 0) (step : o.stepCt ≠ 0)
  (round : r = (s.g c i a - o.base) / o.stepCt - 1) (count : T = s.g c i a + o.shiftOf r)
include on op launch step round count

theorem does_cdeadline_of_lead (may : s.mayArm T = true) : Does (.cdeadline c i d a) s fun t =>
    GTakes c i d 0 s t ∧ PcNext c i s t ∧ t.armed = s.armed.filter (fun e => e.kind ≠ .deadline p r) ++ [{ kind := .deadline p r, at_ := T }] := by
  have runs := exec_thread issue (k := .cdeadline c i d a) (execCdeadline c i d a s) rfl rfl
  simp only [on, op, launch, step, or_self, if_false, ← round, ← count, may, if_true] at runs
  let u := (s.disarm (.deadline p r)).arm (.deadline p r) T
  obtain ⟨⟨value, others, thread⟩, next, -⟩ := u.setG_step1 c i d 0
  refine ⟨_, runs, ⟨value, others, thread⟩, next, ?_⟩
  show (u.setG c i d 0).armed = _
  rw [State.setG_rest]
  rfl

theorem does_cdeadline_of_past (past : s.mayArm T = false) : Does (.cdeadline c i d a) s fun t =>
    GTakes c i d 0x28 s t ∧ PcNext c i s t ∧ t.armed = s.armed := by
  have runs := exec_thread issue (k := .cdeadline c i d a) (execCdeadline c i d a s) rfl rfl
  simp only [on, op, launch, step, or_self, if_false, ← round, ← count, past, Bool.false_eq_true] at runs
  obtain ⟨takes, next, only⟩ := s.setG_step1 c i d Code.schedulePast
  exact ⟨_, runs, takes, next, by rw [only.rest]⟩

end Deadline

end Sys2Proof.Machine

open Sys2Proof Sys2Proof.Machine Sys2Proof.Safety

/-- Settles O12: each end of a CWAIT is `State.cwaitEnd` with its own code; CDEADLINE arms its round or answers SCHEDULE_PAST. -/
theorem cadenceGroup : Obligations.CadenceGroup := by
  unfold Obligations.CadenceGroup
  constructor
  · intro s c i d a
    refine ⟨fun issue => ⟨does_cread issue, fun free => ?_, fun synced past => ?_, does_cwait_ahead issue⟩,
      fun T T' armed next run awake waits => does_cwaitFire waits armed next run awake, fun T waits => ?_⟩
    · obtain ⟨t, runs, ends⟩ := does_cwait_unsynced issue (d := d) (a := a) free
      exact ⟨t, runs, ends.result, ends.cancelled rfl, ends.state, ends.next⟩
    · obtain ⟨t, runs, ends⟩ := does_cwait_past issue (d := d) synced past
      exact ⟨t, runs, ends.result, ends.late rfl, ends.state, ends.next⟩
    · have ends := s.cancelEv_cwait waits
      exact ⟨ends.result, ends.cancelled rfl, ends.state, ends.wait, ends.next⟩
  · intro s c i d a issue
    exact ⟨does_cdeadline_of_none issue, fun p o on op launch step =>
      ⟨does_cdeadline_of_lead issue on op launch step rfl rfl, does_cdeadline_of_past issue on op launch step rfl rfl⟩⟩
end

section
/-! System instructions and work items: CSRR, CSRW, UCLAIM, URELEASE, HALT, YIELD, WORKGET and WORKDONE (R249, R253, R255, R260). -/

namespace Sys2Proof.Machine

open Sys2Proof Sys2Proof.Safety

/-! The given-up unit (R249). -/

theorem State.settleArr_of_release {s : State} {c : Nat} {a : Arr} (release : a.release = true) (queue : a.queue = []) :
    (s.setArr c a).settleArr c = ((s.setArr c a).setArr c { a with release := false }).wr Reg.CLU_ARR_OWN_HOLDER c 0 := by
  have arr : (s.setArr c a).arr c = a := congrArg Clu.arr (s.cluOf_setClu c _)
  rw [State.settleArr, arr, if_pos ⟨release, queue⟩]

theorem State.settleSpk_of_release {s : State} {c : Nat} {a : Spk} (release : a.release = true) (queue : a.queue = []) :
    (s.setSpk c a).settleSpk c = ((s.setSpk c a).setSpk c { a with release := false }).wr Reg.CLU_SPK_OWN_HOLDER c 0 := by
  have spk : (s.setSpk c a).spk c = a := congrArg Clu.spk (s.cluOf_setClu c _)
  rw [State.settleSpk, spk, if_pos ⟨release, queue⟩]

/-! Control registers (R260). -/

theorem csrOf_arr {imm : Nat} (sel : imm % 4096 / 1024 = 2) : csrOf imm = .arr (imm % 1024) := by
  have two : bits (imm % 4096) 10 2 = 2 := by rw [bits]; omega
  rw [csrOf, if_pos two, Nat.mod_mod_of_dvd _ (by decide)]

section System

variable {s : State} {c i d a imm : Nat} (issue : CanIssue s c i)
include issue

theorem does_csrr : Does (.csrr c i d imm) s fun t =>
    GTakes c i d (s.csrRead c i imm) s t ∧ PcNext c i s t ∧ OnlyThread [] c i s t :=
  ⟨_, exec_thread issue (execCsrr c i d imm s) rfl rfl, s.setG_step1 c i d _⟩

theorem does_csrw_arr (sel : imm % 4096 / 1024 = 2) (low : imm % 1024 < 0x18) : Does (.csrw c i a imm) s fun t =>
    t = (s.accessAt Reg.blockARR (0x900000 + c * 0x10000 + (0x100 + 0x20 * i + imm % 1024)) (s.g c i a)).step1 c i := by
  have runs := exec_thread issue (k := .csrw c i a imm) (execCsrw c i a imm s) rfl rfl
  simp only [csrOf_arr sel, if_pos low] at runs
  exact ⟨_, runs, rfl⟩

/-! Units (R249). -/

section Claim

variable {k : Instr} {own ten : Fld} (holderWidth : own.w = 4) (tenantWidth : ten.w = 10) (apart : own.key ≠ ten.key)
  (ownPc : own.key ≠ Reg.CLU_THR_PC_PC.key) (tenPc : ten.key ≠ Reg.CLU_THR_PC_PC.key)
  (runs : exec k s = .next (if s.rd own c = 0 ∨ s.rd own c = i + 1 then
    (((s.wr own c (i + 1)).wr ten c (s.thTenant c i)).setG c i d 1).step1 c i else (s.setG c i d 0).step1 c i))
include runs

include holderWidth tenantWidth apart ownPc tenPc in
theorem does_claim_free (free : s.rd own c = 0 ∨ s.rd own c = i + 1) : Does k s fun t =>
    t.rd own c = i + 1 ∧ t.rd ten c = s.thTenant c i % 1024 ∧ GTakes c i d 1 s t ∧ PcNext c i s t := by
  let u := (s.wr own c (i + 1)).wr ten c (s.thTenant c i)
  obtain ⟨⟨value, others, thread⟩, next, -⟩ := u.setG_step1 c i d 1
  have pc : u.pc c i = s.pc c i := (State.rd_wr_of_key _ _ _ _ _ _ tenPc.symm).trans (State.rd_wr_of_key _ _ _ _ _ _ ownPc.symm)
  have rd (f : Fld) (h : f.key ≠ Reg.CLU_THR_PC_PC.key) : ((u.setG c i d 1).step1 c i).rd f c = u.rd f c := by
    rw [State.rd_step1_of_ne _ c i f c fun e => h e.1, State.setG_rd]
  refine ⟨_, runs.trans (by rw [if_pos free]), (rd own ownPc).trans ?_, (rd ten tenPc).trans ?_, ⟨value, others, thread⟩, next.trans (by rw [pc])⟩
  · have small := issue.2.1
    rw [State.rd_wr_of_key _ _ _ _ _ _ apart, State.rd_wr_self, holderWidth]
    omega
  · rw [State.rd_wr_self, tenantWidth]
    rfl

omit issue in
include ownPc in
theorem does_claim_held (busy : s.rd own c ≠ 0) (other : s.rd own c ≠ i + 1) : Does k s fun t =>
    t.rd own c = s.rd own c ∧ GTakes c i d 0 s t ∧ PcNext c i s t ∧ OnlyThread [] c i s t := by
  refine ⟨_, runs.trans (by rw [if_neg (not_or.2 ⟨busy, other⟩)]), ?_, s.setG_step1 c i d 0⟩
  rw [State.rd_step1_of_ne _ c i own c fun e => ownPc e.1, State.setG_rd]

end Claim

theorem does_urelease_arr (held : s.rd Reg.CLU_ARR_OWN_HOLDER c = i + 1) (empty : (s.arr c).queue = []) : Does (.urelease c i 0) s fun t =>
    t.rd Reg.CLU_ARR_OWN_HOLDER c = 0 ∧ PcNext c i s t := by
  have runs := exec_thread issue (k := .urelease c i 0) (execUrelease c i 0 s) rfl rfl
  rw [if_pos rfl, if_pos held, State.settleArr_of_release (a := { s.arr c with release := true }) rfl empty] at runs
  refine ⟨_, runs, ?_, pcNext_step1 (State.rd_wr_of_key _ _ _ _ _ _ (by decide))⟩
  rw [State.rd_step1_of_ne _ c i _ c fun e => absurd e.1 (by decide), State.rd_wr_self]
  rfl

theorem does_urelease_spk (held : s.rd Reg.CLU_SPK_OWN_HOLDER c = i + 1) (empty : (s.spk c).queue = []) : Does (.urelease c i 1) s fun t =>
    t.rd Reg.CLU_SPK_OWN_HOLDER c = 0 ∧ PcNext c i s t := by
  have runs := exec_thread issue (k := .urelease c i 1) (execUrelease c i 1 s) rfl rfl
  rw [if_neg (by decide), if_pos rfl, if_pos held, State.settleSpk_of_release (a := { s.spk c with release := true }) rfl empty] at runs
  have pc (u : State) (x : Spk) : (u.setSpk c x).pc c i = u.pc c i := State.rd_wr_of_key _ _ _ _ _ _ (by decide)
  refine ⟨_, runs, ?_, pcNext_step1 ?_⟩
  · rw [State.rd_step1_of_ne _ c i _ c fun e => absurd e.1 (by decide), State.rd_wr_self]
    rfl
  · exact (State.rd_wr_of_key _ _ _ _ _ _ (by decide)).trans ((pc _ _).trans (pc _ _))

/-! Ends (R255). -/

theorem does_halt (noTransform : i % 2 = 0 ∨ s.xformOn c i = none) : Does (.halt c i) s fun t =>
    t.thState c i = Ts.halted ∧ t.rd Reg.CLU_THR_CTRL_RUN (ix c i) = 0 ∧ PcNext c i s t ∧ ∀ e j, t.thrOf e j = s.thrOf e j := by
  let u := ((s.step1 c i).wr Reg.CLU_THR_CTRL_RUN (ix c i) 0).setThState c i Ts.halted
  have runs := exec_thread issue (k := .halt c i) (execHalt c i s) rfl rfl
  have stays : exec (.halt c i) s = .next u := by
    rcases noTransform with service | none_
    · have is_service : isService i = true := beq_iff_eq.2 service
      simpa only [is_service, if_true] using runs
    · have xform : (((s.step1 c i).wr Reg.CLU_THR_CTRL_RUN (ix c i) 0).setThState c i Ts.halted).xformOn c i = none := none_
      simpa only [xform, ite_self] using runs
  refine ⟨u, stays, State.rd_wr_self .., ?_, ?_, fun _ _ => rfl⟩
  · exact (State.rd_wr_of_key _ _ _ _ _ _ (by decide)).trans (State.rd_wr_self ..)
  · have pc : u.pc c i = (s.step1 c i).pc c i := (State.rd_wr_of_key _ _ _ _ _ _ (by decide)).trans (State.rd_wr_of_key _ _ _ _ _ _ (by decide))
    exact pc.trans (s.pc_step1 c i)

theorem does_yield : Does (.yield c i) s fun t => PcNext c i s t ∧ OnlyThread [] c i s t ∧ t.thrOf c i = s.thrOf c i :=
  ⟨_, exec_thread issue (execYield c i s) rfl rfl, pcNext_step1 rfl, (OnlyThread.refl [] c i s).step1, rfl⟩

end System

/-! Work items (R253). -/

/-- The work queue's front is bound to thread `i`. -/
def State.bindFront (s : State) (c i : Nat) (w : Work) (rest : List Work) : State :=
  let u := s.setClu c { s.cluOf c with work := rest }
  (u.setThr c i { u.thrOf c i with work := some w }).showClu c

section BindFront

variable (s : State) (c i : Nat) (w : Work) (rest : List Work)

theorem State.thrOf_bindFront : (s.bindFront c i w rest).thrOf c i = { s.thrOf c i with work := some w } := by
  have same : (s.setClu c { s.cluOf c with work := rest }).thrOf c i = s.thrOf c i :=
    (congrArg (fun x : Clu => Tbl.get {} i x.thr) (s.cluOf_setClu c _) :)
  refine (State.thrOf_setThr ..).trans ?_
  rw [same]

theorem State.work_bindFront : ((s.bindFront c i w rest).cluOf c).work = rest := by
  have other := (s.setClu c { s.cluOf c with work := rest }).cluOf_setThr_rest c i c
    { (s.setClu c { s.cluOf c with work := rest }).thrOf c i with work := some w }
  rw [State.cluOf_setClu] at other
  exact (congrArg Clu.work other :)

theorem State.pc_bindFront : (s.bindFront c i w rest).pc c i = s.pc c i :=
  (State.rd_wr_of_key _ _ _ _ _ _ (by decide)).trans (State.rd_wr_of_key _ _ _ _ _ _ (by decide))

theorem State.workOcc_bindFront : (s.bindFront c i w rest).rd Reg.CLU_STATUS_WORK_OCC c = min 4096 rest.length := by
  refine (State.rd_wr_of_key _ _ _ _ _ _ (by decide)).trans ((State.rd_wr_self ..).trans ?_)
  have queue := s.work_bindFront c i w rest
  show min 4096 ((s.bindFront c i w rest).cluOf c).work.length % 2 ^ 13 = _
  rw [queue]
  omega

end BindFront

/-- A hub slot of an item's run. -/
theorem mem_hubRun {b n k : Nat} : k ∈ hubRun b n ↔ b ≤ k ∧ k < b + n := by
  simp only [hubRun, List.mem_map, List.mem_range]
  constructor
  · rintro ⟨j, low, rfl⟩
    omega
  · intro ⟨low, high⟩
    exact ⟨k - b, by omega, by omega⟩

section FreeHub

variable {s : State} {c b : Nat} {w : Work} (hub : w.hub = some b)
include hub

theorem State.hubUsed_freeHub : ((s.freeHub c w).cluOf c).hubUsed = (s.cluOf c).hubUsed.filter fun k => k < b ∨ b + w.slots ≤ k := by
  have freed : ((s.freeHub c w).cluOf c).hubUsed = (s.cluOf c).hubUsed.filter fun k => !(hubRun b w.slots).contains k := by
    simp only [State.freeHub, hub]
    exact congrArg Clu.hubUsed (s.cluOf_setClu c _)
  rw [freed]
  refine List.filter_congr fun k _ => ?_
  have apart : ¬(b ≤ k ∧ k < b + w.slots) ↔ k < b ∨ b + w.slots ≤ k := by omega
  simp only [← apart, ← mem_hubRun, ← List.contains_iff_mem, decide_not, Bool.decide_eq_true]

theorem State.thrOf_freeHub (i : Nat) : (s.freeHub c w).thrOf c i = s.thrOf c i := by
  simp only [State.freeHub, hub]
  exact (congrArg (fun x : Clu => Tbl.get {} i x.thr) (s.cluOf_setClu c _) :)

end FreeHub

section Items

variable {s : State} {c i d h : Nat} {w : Work} (issue : CanIssue s c i) (service : i % 2 = 0)
include service

/-- A service thread's privileged instruction runs its body. -/
theorem priv_of_service (f : State) : s.priv c i f = f := if_pos (beq_iff_eq.2 service)

include issue

theorem does_workget (idle : (s.thrOf c i).work = none) (front : (s.cluOf c).work.head? = some w) (hub : w.hub = some h) :
    Does (.workget c i d) s fun t =>
      (t.thrOf c i).work = some w ∧ (t.cluOf c).work = (s.cluOf c).work.tail ∧ PcNext c i s t ∧
      (∀ n, n % 32 ≠ d % 32 → t.g c i n = s.g c i n) ∧ t.rd Reg.CLU_STATUS_WORK_OCC c = min 4096 (s.cluOf c).work.tail.length := by
  have runs := exec_thread issue (k := .workget c i d) (execWorkget c i d s) rfl rfl
  obtain ⟨takes, next, only⟩ := s.setG_step1_bump c i d (s.free 64)
  have list := List.eq_cons_of_mem_head? front
  generalize (s.cluOf c).work.tail = rest at list ⊢
  generalize ((s.setG c i d (s.free 64)).step1 c i).bump = u at runs takes next only
  have work : (u.thrOf c i).work = none := ((congrArg Thr.work takes.thread :) : (u.thrOf c i).work = (s.thrOf c i).work).trans idle
  have queue : (u.cluOf c).work = w :: rest := ((congrArg Clu.work (only.clusters c) :) : (u.cluOf c).work = (s.cluOf c).work).trans list
  have gives : u.giveHub c w = (u, w) := by rw [State.giveHub, hub]
  rw [priv_of_service service] at runs
  simp only [work, queue, gives, hub, reduceCtorEq, if_false] at runs
  refine ⟨u.bindFront c i w rest, runs, ?_, u.work_bindFront .., ?_, fun n hn => ?_, u.workOcc_bindFront ..⟩
  · rw [State.thrOf_bindFront]
  · exact (u.pc_bindFront ..).trans next
  · rw [State.g, State.thrOf_bindFront]
    exact takes.others n hn

theorem does_workdone (bound : (s.thrOf c i).work = some w) (placement : w.kind = 1) (hub : w.hub = some h) : Does (.workdone c i) s fun t =>
    (t.thrOf c i).work = none ∧ (t.cluOf c).hubUsed = (s.cluOf c).hubUsed.filter (fun k => k < h ∨ h + w.slots ≤ k) ∧ PcNext c i s t ∧
    ∀ n, t.g c i n = s.g c i n := by
  have runs := exec_thread issue (k := .workdone c i) (execWorkdone c i s) rfl rfl
  have work : ((s.step1 c i).thrOf c i).work = some w := bound
  rw [priv_of_service service] at runs
  simp only [work, placement, if_true] at runs
  let u := (s.step1 c i).setThr c i { (s.step1 c i).thrOf c i with work := none }
  have kept := u.pmc_keeps c 0x19 (some (s.thTenant c i)) 1
  generalize u.pmc c 0x19 (some (s.thTenant c i)) = v at kept runs
  have thread : (v.freeHub c w).thrOf c i = { s.thrOf c i with work := none } := by
    rw [State.thrOf_freeHub hub, thrOf_of_counted kept]
    exact State.thrOf_setThr ..
  refine ⟨_, runs, ?_, ?_, ?_, fun n => ?_⟩
  · rw [thread]
  · rw [State.hubUsed_freeHub hub, cluOf_of_counted kept]
    exact (congrArg (fun x : Clu => x.hubUsed.filter _) ((s.step1 c i).cluOf_setThr_rest c i c _) :)
  · exact ((v.freeHub_keeps c w).rd _ _).trans ((pc_of_counted kept :).trans (pcNext_step1 (s := s) rfl))
  · rw [State.g, thread]
    rfl

end Items

end Sys2Proof.Machine

open Sys2Proof Sys2Proof.Machine Sys2Proof.Safety

/-- Settles O14: the units differ in their fields alone; a work item is bound from the queue's front and gives back its own run. -/
theorem systemInstructions : Obligations.SystemInstructions := by
  unfold Obligations.SystemInstructions
  constructor
  · intro s c i d a imm issue
    refine ⟨does_csrr issue, does_csrw_arr issue, ?_, does_halt issue, does_yield issue⟩
    rintro u own ten (⟨rfl, rfl, rfl⟩ | ⟨rfl, rfl, rfl⟩)
    · have runs := exec_thread issue (k := .uclaim c i d 0) (execUclaim c i d 0 s) rfl rfl
      exact ⟨does_claim_free issue rfl rfl (by decide) (by decide) (by decide) runs,
        does_claim_held (by decide) runs, fun held empty _ => does_urelease_arr issue held empty⟩
    · have runs := exec_thread issue (k := .uclaim c i d 1) (execUclaim c i d 1 s) rfl rfl
      exact ⟨does_claim_free issue rfl rfl (by decide) (by decide) (by decide) runs,
        does_claim_held (by decide) runs, fun held _ empty => does_urelease_spk issue held empty⟩
  · exact fun s c i d h w issue service => ⟨does_workget issue service, does_workdone issue service⟩
end

section
/-! The chainring: its commands, and the ends of its passes, loads and stores (R249, R271 to R276). -/

namespace Sys2Proof.Machine

open Sys2Proof Sys2Proof.Safety

/-! The array's state. -/

section Array

variable (s : State) (c : Nat) (a : Arr)

@[simp] theorem State.arr_setArr : (s.setArr c a).arr c = a := congrArg Clu.arr (s.cluOf_setClu c _)

/-- A change of a cluster that leaves its threads. -/
theorem State.thrOf_setClu_of_thr {x : Clu} (thr : x.thr = (s.cluOf c).thr) (e j : Nat) : (s.setClu c x).thrOf e j = s.thrOf e j := by
  rcases eq_or_ne e c with rfl | other
  · rw [State.thrOf, State.cluOf_setClu, thr]
    rfl
  · rw [State.thrOf, State.cluOf_setClu_ne s _ other]
    rfl

@[simp] theorem State.thrOf_setArr (e j : Nat) : (s.setArr c a).thrOf e j = s.thrOf e j := 
  s.thrOf_setClu_of_thr c (x := { s.cluOf c with arr := a }) rfl e j

theorem State.arr_setThr (i e : Nat) (v : Thr) : (s.setThr c i v).arr e = s.arr e := (congrArg Clu.arr (s.cluOf_setThr_rest c i e v) :)

/-- The command at the front goes, and the array stays with its holder. -/
theorem State.popArr_of_not_release (kept : (s.arr c).release = false) :
    s.popArr c = s.setArr c { s.arr c with queue := (s.arr c).queue.tail } := by
  rw [State.popArr, State.settleArr, State.arr_setArr, if_neg (by simp [kept])]

end Array

theorem arr_of_counted {s u : State} (kept : Keeps State.noRegs pmcFields s u) (e : Nat) : u.arr e = s.arr e :=
  congrArg Clu.arr (cluOf_of_counted kept e)

/-! A trap that no one else hears of (R239). -/

/-- Whether others hear of a thread's trap follows from the work bound and the pelotons. -/
theorem alone_congr {s t : State} {c i : Nat} (alone : Alone s c i) (work : ∀ j, (t.thrOf c j).work = (s.thrOf c j).work)
    (pels : t.pels = s.pels) : Alone t c i := by
  unfold Alone State.xformOn State.pelOn at *
  simpa only [work, pels] using alone

/-- The fields that a trap writes. -/
def trapFields : List Fld :=
  [Reg.CLU_THR_STATUS_STATE, Reg.CLU_THR_STATUS_TRAP_CAUSE, Reg.CLU_THR_TRAP_TRAP_PC, Reg.CLU_THR_TRAP_TRAP_ADDR, Reg.CLU_TRAP_COUNT_COUNT] ++ pmcFields

/-- The trap as the thread's registers show it. -/
def State.showTrap (s : State) (c i cause addr : Nat) : State :=
  (((((s.setThState c i Ts.trapped).wr Reg.CLU_THR_STATUS_TRAP_CAUSE (ix c i) cause).wr Reg.CLU_THR_TRAP_TRAP_PC (ix c i)
    (s.pc c i)).wr Reg.CLU_THR_TRAP_TRAP_ADDR (ix c i) addr).count Reg.CLU_TRAP_COUNT_COUNT c).pmc c 0x1A (some (s.thTenant c i))

section Trap

variable {s : State} {c i cause addr : Nat}

theorem State.showTrap_keeps : Keeps State.noRegs trapFields s (s.showTrap c i cause addr) :=
  ((((((Keeps.refl ..).wr _ _ _).wr _ _ _).wr _ _ _).wr _ _ _).wr _ _ _).pmc c 0x1A _ 1 fun _ hf => List.mem_append_right _ hf

theorem State.showTrap_cause (small : cause < 16) :
    (s.showTrap c i cause addr).thState c i = Ts.trapped ∧ (s.showTrap c i cause addr).rd Reg.CLU_THR_STATUS_TRAP_CAUSE (ix c i) = cause := by
  let u := (s.setThState c i Ts.trapped).wr Reg.CLU_THR_STATUS_TRAP_CAUSE (ix c i) cause
  have later : Keeps State.noRegs ([Reg.CLU_THR_TRAP_TRAP_PC, Reg.CLU_THR_TRAP_TRAP_ADDR, Reg.CLU_TRAP_COUNT_COUNT] ++ pmcFields) u
      (s.showTrap c i cause addr) :=
    ((((Keeps.refl ..).wr _ _ _).wr _ _ _).wr _ _ _).pmc c 0x1A _ 1 fun _ hf => List.mem_append_right _ hf
  refine ⟨(later.rd _ _).trans ((State.rd_wr_of_key _ _ _ _ _ _ (by decide)).trans (State.rd_wr_self ..)), (later.rd _ _).trans ?_⟩
  exact (State.rd_wr_self ..).trans (Nat.mod_eq_of_lt small)

/-- Where no one else hears of it, a trap shows itself and ends its thread's wait. -/
theorem State.trap_of_alone (alone : Alone s c i) :
    s.trap c i cause addr = (s.showTrap c i cause addr).setThr c i { s.thrOf c i with wait := .none } := by
  have kept := s.showTrap_keeps (c := c) (i := i) (cause := cause) (addr := addr)
  have thread (e j : Nat) : (s.showTrap c i cause addr).thrOf e j = s.thrOf e j := (congrArg (fun v : State => v.thrOf e j) kept.frame :)
  let t := (s.showTrap c i cause addr).setThr c i { s.thrOf c i with wait := .none }
  have work (j : Nat) : (t.thrOf c j).work = (s.thrOf c j).work := by
    rcases eq_or_ne j i with rfl | other
    · rw [State.thrOf_setThr]
    · rw [State.thrOf_setThr_ne _ _ fun h => other h.2, thread]
  have still : Alone t c i := alone_congr alone work (congrArg State.pels kept.frame :)
  show (if isService i then t.returnWork c i else match t.xformOn c i with
    | some w => t.xformFail c i w (0xC0 + cause)
    | none => match t.pelOn c i with
      | some p => t.pelLeave p (leaveReason cause)
      | none => t) = t
  unfold Alone at still
  split at still
  next service =>
    rw [if_pos service, State.returnWork, still]
  next service =>
    obtain ⟨xform, pel⟩ := still
    rw [if_neg service, xform, pel]

theorem State.trap_shows (alone : Alone s c i) (small : cause < 16) :
    (s.trap c i cause addr).thState c i = Ts.trapped ∧ (s.trap c i cause addr).rd Reg.CLU_THR_STATUS_TRAP_CAUSE (ix c i) = cause := by
  have shows := s.showTrap_cause (c := c) (i := i) (addr := addr) small
  rw [State.trap_of_alone alone]
  generalize s.showTrap c i cause addr = u at shows ⊢
  exact shows

theorem State.arr_trap (alone : Alone s c i) (e : Nat) : (s.trap c i cause addr).arr e = s.arr e := by
  rw [State.trap_of_alone alone, State.arr_setThr]
  exact (congrArg (fun v : State => v.arr e) s.showTrap_keeps.frame :)

end Trap

/-! Commands (R249, R273). -/

theorem inScratch_of_le {a n : Nat} (low : a < 0x1000000) (high : a + n ≤ 0x1000000) : inScratch a n = true := by
  simp [inScratch, isScratch, low, high]

/-- A command stands at the queue's end, and the thread goes on. -/
def CrQueued (c i : Nat) (q : CrCmd) (s t : State) : Prop :=
  (t.arr c).queue = (s.arr c).queue ++ [q] ∧ (t.arr c).planes = (s.arr c).planes ∧ (t.arr c).bufs = (s.arr c).bufs ∧ PcNext c i s t ∧
    ∀ e j, t.thrOf e j = s.thrOf e j

theorem State.pushArr_queued (s : State) (c i : Nat) (q : CrCmd) : CrQueued c i q s (s.pushArr c i q) := by
  have arr : (s.pushArr c i q).arr c = { s.arr c with queue := (s.arr c).queue ++ [q] } := s.arr_setArr c _
  exact ⟨by rw [arr], by rw [arr], by rw [arr], pcNext_step1 rfl, fun e j => s.thrOf_setArr c _ e j⟩

section Commands

variable {s : State} {c i : Nat} (issue : CanIssue s c i) (holds : s.rd Reg.CLU_ARR_OWN_HOLDER c = i + 1)
include issue holds

/-- The holder's chainring command runs its body. -/
theorem exec_byArr {k : Instr} (r : Result) (runs : exec k s = r) {body : State → State} (by_arr : r = byArr c i s body) :
    exec k s = .next (body s) := by
  have ends := exec_thread issue r runs (body := fun s => if s.rd Reg.CLU_ARR_OWN_HOLDER c = i + 1 then body s else s.trap c i Cause.unitNotOwned 0) by_arr
  rwa [if_pos holds] at ends

theorem does_crCfg {a : Nat} {y : CrCfg} (config : y = ⟨bits (s.g c i a) 0 4, bits (s.g c i a) 4 4, bits (s.g c i a) 8 4, bit (s.g c i a) 12,
      bit (s.g c i a) 13⟩) (ok : y.ok = true) (small : s.g c i a < 2 ^ 14) :
    Does (.crCfg c i a) s fun t => (t.arr c).cfg = y ∧ (t.arr c).queue = (s.arr c).queue ∧ PcNext c i s t := by
  have runs := exec_byArr issue holds (k := .crCfg c i a) (execCrCfg c i a s) rfl rfl
  simp only [← config, ok, small, and_self, if_true] at runs
  have arr : ((s.setArr c { s.arr c with cfg := y }).step1 c i).arr c = { s.arr c with cfg := y } := s.arr_setArr c _
  exact ⟨_, runs, by rw [arr], by rw [arr], pcNext_step1 rfl⟩

theorem does_crLoad {d a b : Nat} (buffer : s.g c i d ≤ 1) (steps : kOk (s.arr c).cfg.bFmt (s.g c i b) = true) (low : s.g c i a < 0x1000000)
    (high : s.g c i a + tileBytes (s.arr c).cfg.bFmt (s.g c i b) ≤ 0x1000000) :
    Does (.crLoad c i d a b) s (CrQueued c i (.load (s.arr c).cfg (s.g c i d) (s.g c i a) (s.g c i b)) s) := by
  have runs := exec_byArr issue holds (k := .crLoad c i d a b) (execCrLoad c i d a b s) rfl rfl
  simp only [Nat.not_lt.2 buffer, steps, Bool.not_true, Bool.false_eq_true, or_self, if_false, inScratch_of_le low high] at runs
  let u := s.setArr c { s.arr c with kOf := Tbl.set 0 (s.g c i d) (s.g c i b) (s.arr c).kOf }
  have arr : u.arr c = { s.arr c with kOf := Tbl.set 0 (s.g c i d) (s.g c i b) (s.arr c).kOf } := s.arr_setArr c _
  obtain ⟨queue, planes, bufs, next, threads⟩ := u.pushArr_queued c i (.load (s.arr c).cfg (s.g c i d) (s.g c i a) (s.g c i b))
  rw [arr] at queue planes bufs
  exact ⟨_, runs, queue, planes, bufs, next, fun e j => (threads e j).trans (s.thrOf_setArr c _ e j)⟩

theorem does_crMul {a b : Nat} (steps : kOk (s.arr c).cfg.aFmt (s.g c i b % 256) = true)
    (same : Tbl.get 0 (s.g c i b / 256 % 2) (s.arr c).kOf = s.g c i b % 256) (low : s.g c i a < 0x1000000)
    (high : s.g c i a + tileBytes (s.arr c).cfg.aFmt (s.g c i b % 256) ≤ 0x1000000) :
    Does (.crMul c i a b) s (CrQueued c i (.mul (s.arr c).cfg (s.g c i a) (s.g c i b % 256) (s.g c i b / 256 % 2) (bit (s.g c i b) 9)) s) := by
  have runs := exec_byArr issue holds (k := .crMul c i a b) (execCrMul c i a b s) rfl rfl
  have amount : bits (s.g c i b) 0 8 = s.g c i b % 256 := by simp [bits]
  have buffer : bits (s.g c i b) 8 1 = s.g c i b / 256 % 2 := rfl
  simp only [amount, buffer, steps, Bool.not_true, Bool.false_eq_true, if_false, same, ne_eq, not_true_eq_false, inScratch_of_le low high] at runs
  exact ⟨_, runs, s.pushArr_queued c i _⟩

theorem does_crStore {a b : Nat} (low : s.g c i a < 0x1000000) (high : s.g c i a + 16384 * (elemBits (s.arr c).cfg.outFmt / 8) ≤ 0x1000000) :
    Does (.crStore c i a b) s (CrQueued c i (.store (s.arr c).cfg (s.g c i a) (bit (s.g c i b) 0)) s) := by
  have runs := exec_byArr issue holds (k := .crStore c i a b) (execCrStore c i a b s) rfl rfl
  simp only [inScratch_of_le low high, Bool.not_true, Bool.false_eq_true, if_false] at runs
  exact ⟨_, runs, s.pushArr_queued c i _⟩

theorem does_crStat {d : Nat} : Does (.crStat c i d) s fun t =>
    GTakes c i d (s.arr c).status s t ∧ PcNext c i s t ∧ OnlyThread [] c i s t :=
  ⟨_, exec_byArr issue holds (execCrStat c i d s) rfl rfl, s.setG_step1 c i d _⟩

end Commands

/-! Ends (R271 to R276). -/

theorem State.seenFails_nil (s : State) (c : Nat) : s.seenFails c [] [] = ([], []) := by
  rw [State.seenFails]
  simp only [ite_self]

theorem State.unitBanks_of_ok {s : State} {c code h ten a n : Nat} {write : Bool} (ok : s.spCheck c code ten write a n = .ok) (drop body : State → State) :
    s.unitBanks c code h ten write a n drop body = body s := by
  rw [State.unitBanks, ok]

/-- What the end of a pass delivers. -/
theorem State.endPass_delivers {s : State} {c : Nat} (k : Nat) (plane : Tbl Nat) (kept : (s.arr c).release = false) :
    (s.endPass c k plane 0).arr c = { s.arr c with
        planes := Tbl.set [] k plane (s.arr c).planes, last := k, status := 0, failed := false, queue := (s.arr c).queue.tail } ∧
    (s.endPass c k plane 0).rd Reg.ARR_PASSES_COUNT c = satAdd 64 (s.rd Reg.ARR_PASSES_COUNT c) 1 := by
  let u := (s.setArr c { s.arr c with planes := Tbl.set [] k plane (s.arr c).planes, last := k, status := 0, failed := false }).count Reg.ARR_PASSES_COUNT c
  have ends : s.endPass c k plane 0 = (u.pmc c 0x16 (some (s.rd Reg.CLU_ARR_OWN_TENANT c))).popArr c := rfl
  have counted := u.pmc_keeps c 0x16 (some (s.rd Reg.CLU_ARR_OWN_TENANT c)) 1
  generalize u.pmc c 0x16 (some (s.rd Reg.CLU_ARR_OWN_TENANT c)) = v at ends counted
  have arr : v.arr c = { s.arr c with planes := Tbl.set [] k plane (s.arr c).planes, last := k, status := 0, failed := false } :=
    (arr_of_counted counted c).trans (s.arr_setArr c _)
  rw [State.popArr_of_not_release v c (by rw [arr]; exact kept)] at ends
  rw [ends, State.arr_setArr, arr]
  refine ⟨rfl, (counted.rd _ _).trans ((State.rd_wr_self ..).trans (Nat.mod_eq_of_lt (satAdd_lt ..)))⟩

section Ends

variable {s : State} {c : Nat} {x : CrCfg} {addr k buf : Nat} {acc : Bool} {rest : List CrCmd} (ready : s.rd Reg.ARR_STATUS_STATE c = 0)
  (kept : (s.arr c).release = false)
include ready kept

theorem does_chainringPassDone {pl : Nat} (plane : pl = if acc then (s.arr c).last else 1 - (s.arr c).last)
    (front : (s.arr c).queue = .mul x addr k buf acc :: rest)
    (ok : s.spCheck c 9 (s.rd Reg.CLU_ARR_OWN_TENANT c) false addr (tileBytes x.aFmt k) = .ok)
    (clean : s.spPoisoned c addr (tileBytes x.aFmt k) = false) : Does (.chainringPassDone c [] [] [] []) s fun t =>
      Tbl.get [] pl (t.arr c).planes = planePass x k (leNat (s.spRead c addr (tileBytes x.aFmt k))) (leNat (Tbl.get [] buf (s.arr c).bufs))
        (if acc then Tbl.get [] pl (s.arr c).planes else []) ∧
      (t.arr c).last = pl ∧ (t.arr c).status = 0 ∧ (t.arr c).failed = false ∧ (t.arr c).queue = rest ∧
      t.rd Reg.ARR_PASSES_COUNT c = satAdd 64 (s.rd Reg.ARR_PASSES_COUNT c) 1 := by
  let out := planePass x k (leNat (s.spRead c addr (tileBytes x.aFmt k))) (leNat (Tbl.get [] buf (s.arr c).bufs))
    (if acc then Tbl.get [] pl (s.arr c).planes else [])
  have runs : exec (.chainringPassDone c [] [] [] []) s = .next (s.endPass c pl out 0) := by
    show execChainringPassDone c [] [] [] [] s = _
    simp only [execChainringPassDone, front, ready, ne_eq, not_true_eq_false, if_false, State.unitBanks_of_ok ok, State.seenFails_nil, clean, Bool.not_false,
      and_self, if_true, ← plane, out]
  obtain ⟨arr, count⟩ := State.endPass_delivers pl out kept
  refine ⟨_, runs, ?_, congrArg Arr.last arr, congrArg Arr.status arr, congrArg Arr.failed arr, ?_, count⟩
  · rw [congrArg Arr.planes arr, Tbl.get_set_self]
  · exact (congrArg Arr.queue arr).trans (congrArg List.tail front)

theorem does_chainringLoadDone (front : (s.arr c).queue = .load x buf addr k :: rest)
    (ok : s.spCheck c 9 (s.rd Reg.CLU_ARR_OWN_TENANT c) false addr (tileBytes x.bFmt k) = .ok)
    (clean : s.spPoisoned c addr (tileBytes x.bFmt k) = false) : Does (.chainringCommandDone c) s fun t =>
      Tbl.get [] buf (t.arr c).bufs = s.spRead c addr (tileBytes x.bFmt k) ∧ (t.arr c).planes = (s.arr c).planes ∧ (t.arr c).queue = rest := by
  let u := s.setArr c { s.arr c with bufs := Tbl.set [] buf (s.spRead c addr (tileBytes x.bFmt k)) (s.arr c).bufs }
  have arr : u.arr c = { s.arr c with bufs := Tbl.set [] buf (s.spRead c addr (tileBytes x.bFmt k)) (s.arr c).bufs } := s.arr_setArr c _
  have runs : exec (.chainringCommandDone c) s = .next (u.popArr c) := by
    show execChainringCommandDone c s = _
    simp only [execChainringCommandDone, front, ready, ne_eq, not_true_eq_false, if_false, State.unitBanks_of_ok ok, clean, Bool.false_eq_true, u]
  rw [State.popArr_of_not_release u c (by rw [arr]; exact kept)] at runs
  refine ⟨_, runs, ?_, ?_, ?_⟩
  · rw [State.arr_setArr, arr]
    exact Tbl.get_set_self ..
  · rw [State.arr_setArr, arr]
  · rw [State.arr_setArr, arr, front]
    rfl

theorem does_chainringStoreDone_of_failed (front : (s.arr c).queue = .store x addr acc :: rest) (failed : (s.arr c).failed = true)
    (alone : Alone s c (s.rd Reg.CLU_ARR_OWN_HOLDER c - 1)) : Does (.chainringCommandDone c) s fun t =>
      t.thState c (s.rd Reg.CLU_ARR_OWN_HOLDER c - 1) = Ts.trapped ∧
      t.rd Reg.CLU_THR_STATUS_TRAP_CAUSE (ix c (s.rd Reg.CLU_ARR_OWN_HOLDER c - 1)) = Cause.arith ∧ (t.arr c).queue = rest := by
  have runs : exec (.chainringCommandDone c) s = .next ((s.popArr c).trap c (s.rd Reg.CLU_ARR_OWN_HOLDER c - 1) Cause.arith 0) := by
    show execChainringCommandDone c s = _
    simp only [execChainringCommandDone, front, ready, ne_eq, not_true_eq_false, if_false, failed, if_true]
  rw [State.popArr_of_not_release s c kept] at runs
  have still := alone_congr alone (t := s.setArr c { s.arr c with queue := (s.arr c).queue.tail }) (fun j => by rw [State.thrOf_setArr]) rfl
  obtain ⟨state, cause⟩ := State.trap_shows (addr := 0) still (cause := Cause.arith) (by decide)
  refine ⟨_, runs, state, cause, ?_⟩
  rw [State.arr_trap still, State.arr_setArr, front]
  rfl

end Ends

end Sys2Proof.Machine

open Sys2Proof Sys2Proof.Machine Sys2Proof.Safety

/-- Settles O15: the holder's commands stand in issue order; the end of each takes it from the front. -/
theorem chainring : Obligations.Chainring := by
  unfold Obligations.Chainring
  constructor
  · intro s c i d a b issue holds
    exact ⟨fun y => does_crCfg issue holds, does_crLoad issue holds, does_crMul issue holds, does_crStore issue holds, does_crStat issue holds⟩
  · intro s c x addr k buf acc rest ready
    exact ⟨fun front kept ok clean => does_chainringPassDone ready kept rfl front ok clean,
      fun front kept ok clean => does_chainringLoadDone ready kept front ok clean,
      fun front failed kept _ alone => does_chainringStoreDone_of_failed ready kept front failed alone⟩
end

section
/-! Cluster control: thread control, the program store and the handover of banks (R230, R233, R247). -/

namespace Sys2Proof.Machine

open Sys2Proof Sys2Proof.Safety

/-! CLU_THR_CTRL (R230). -/

/-- A thread's identity as a write of CLU_THR_CTRL sets it. -/
def State.identify (s : State) (c i ten ctx : Nat) : State :=
  (s.wr Reg.CLU_THR_CTRL_TENANT (ix c i) ten).wr Reg.CLU_THR_CTRL_CONTEXT (ix c i) ctx

theorem State.startThread_of_ready {s : State} {c i : Nat} (clean : (s.thrOf c i).zeroing = false) (serves : s.coreServes c (i / 2) = true) :
    s.startThread c i = s.setThState c i Ts.ready := if_neg (by simp [clean, coreOf, serves])

theorem Keeps.coreServes {l : List Fld} {s t : State} (h : Keeps State.noRegs l s t) (c k : Nat)
    (apart : ∀ g ∈ l, Reg.CLU_CTRL_CORE_EN.key ≠ g.key ∧ Reg.CLU_STATUS_STATE.key ≠ g.key := by decide) : t.coreServes c k = s.coreServes c k := by
  simp only [State.coreServes, h.rd _ _ fun g hg => (apart g hg).1, h.rd _ _ fun g hg => (apart g hg).2]

section Control

variable {s : State} {c i v : Nat}

/-- A halted thread whose identity stays starts where its core serves. -/
theorem State.writeThrCtrl_start (halted : s.rd Reg.CLU_THR_CTRL_RUN (ix c i) = 0) (run : v % 2 = 1) (tenant : v / 2 ^ 16 % 2 ^ 10 = s.thTenant c i)
    (ctx : v / 2 ^ 32 % 2 ^ 16 = s.thCtx c i) :
    s.writeThrCtrl c i v false = ((s.identify c i (s.thTenant c i) (s.thCtx c i)).wr Reg.CLU_THR_CTRL_RUN (ix c i) 1).startThread c i := by
  have one : bit v 0 = true := by simpa [bit] using run
  simp only [State.writeThrCtrl, State.on_eq, halted, bits, tenant, ctx, one, bne_self_eq_false, Nat.reduceBEq, Bool.not_false, Bool.and_true,
    Bool.or_false, Bool.and_false, Bool.false_and, Bool.false_eq_true, if_false, if_true] <;> rfl

/-- A running thread is halted, and keeps its identity. -/
theorem State.writeThrCtrl_halt (runs : s.rd Reg.CLU_THR_CTRL_RUN (ix c i) = 1) (stop : v % 2 = 0) :
    s.writeThrCtrl c i v false = (s.wr Reg.CLU_THR_CTRL_RUN (ix c i) 0).haltThread c i := by
  have zero : bit v 0 = false := by simpa [bit] using stop
  simp only [State.writeThrCtrl, State.on_eq, runs, zero, BEq.rfl, Bool.not_true, Bool.false_and, Bool.or_self, Bool.false_eq_true, if_false,
    Bool.not_false, Bool.and_self, if_true] <;> rfl

/-- A halted program thread takes its new identity with its registers and local memory zeroed. -/
theorem State.writeThrCtrl_change (halted : s.rd Reg.CLU_THR_CTRL_RUN (ix c i) = 0) (program : i % 2 = 1) (stop : v % 2 = 0)
    (change : v / 2 ^ 16 % 2 ^ 10 ≠ s.thTenant c i ∨ v / 2 ^ 32 % 2 ^ 16 ≠ s.thCtx c i) :
    s.writeThrCtrl c i v false = ((s.identify c i (v / 2 ^ 16 % 2 ^ 10) (v / 2 ^ 32 % 2 ^ 16)).setThr c i
      { (s.thrOf c i).wipe with zeroing := true }).wr Reg.CLU_THR_CTRL_RUN (ix c i) 0 := by
  have zero : bit v 0 = false := by simpa [bit] using stop
  have other : isService i = false := beq_eq_false_iff_ne.2 (by omega)
  have differs : (v / 2 ^ 16 % 2 ^ 10 != s.thTenant c i || v / 2 ^ 32 % 2 ^ 16 != s.thCtx c i) = true := by simpa using change
  simp only [State.writeThrCtrl, State.on_eq, halted, bits, differs, zero, other, Nat.reduceBEq, Bool.not_false, Bool.true_or, Bool.and_self,
    Bool.false_and, Bool.and_false, Bool.false_eq_true, if_false, if_true] <;> rfl

section Write

variable (cluster : c < 10) (thread : i < 8)
include cluster thread

theorem exec_cluThrCtrlWrite : exec (.cluThrCtrlWrite c i v) s = .next (s.writeThrCtrl c i v false) := by
  show execCluThrCtrlWrite c i v s = _
  rw [execCluThrCtrlWrite, if_pos (by simp [isThread, cluster, thread])]

variable (halted : s.rd Reg.CLU_THR_CTRL_RUN (ix c i) = 0)

include halted in
theorem does_cluThrCtrlWrite_start (run : v % 2 = 1) (tenant : v / 2 ^ 16 % 2 ^ 10 = s.thTenant c i)
    (ctx : v / 2 ^ 32 % 2 ^ 16 = s.thCtx c i) (clean : (s.thrOf c i).zeroing = false) (serves : s.coreServes c (i / 2) = true) :
    Does (.cluThrCtrlWrite c i v) s fun t => t.thState c i = Ts.ready ∧ t.rd Reg.CLU_THR_CTRL_RUN (ix c i) = 1 ∧ t.pc c i = s.pc c i ∧
      ∀ e j, t.thrOf e j = s.thrOf e j := by
  let u := (s.identify c i (s.thTenant c i) (s.thCtx c i)).wr Reg.CLU_THR_CTRL_RUN (ix c i) 1
  have kept : Keeps State.noRegs [Reg.CLU_THR_CTRL_TENANT, Reg.CLU_THR_CTRL_CONTEXT, Reg.CLU_THR_CTRL_RUN] s u :=
    (((Keeps.refl ..).wr _ _ _).wr _ _ _).wr _ _ _
  have started : u.startThread c i = u.setThState c i Ts.ready := State.startThread_of_ready clean ((kept.coreServes c _).trans serves)
  refine ⟨u.setThState c i Ts.ready, ?_, State.rd_wr_self .., ?_, ?_, fun e j => rfl⟩
  · rw [exec_cluThrCtrlWrite cluster thread, State.writeThrCtrl_start halted run tenant ctx, ← started]
  · exact (State.rd_wr_of_key _ _ _ _ _ _ (by decide)).trans (State.rd_wr_self ..)
  · exact (State.rd_wr_of_key _ _ _ _ _ _ (by decide)).trans (kept.rd _ _)

theorem does_cluThrCtrlWrite_halt (runs : s.rd Reg.CLU_THR_CTRL_RUN (ix c i) = 1) (stop : v % 2 = 0) :
    Does (.cluThrCtrlWrite c i v) s fun t => t.thState c i = Ts.halted ∧ t.rd Reg.CLU_THR_CTRL_RUN (ix c i) = 0 ∧
      t.thTenant c i = s.thTenant c i ∧ ∀ n, t.g c i n = s.g c i n := by
  let u := (s.wr Reg.CLU_THR_CTRL_RUN (ix c i) 0).disarm (.cwait c i)
  have ends := exec_cluThrCtrlWrite (s := s) (v := v) cluster thread
  rw [State.writeThrCtrl_halt runs stop] at ends
  have rd (f : Fld) (h : f.key ≠ Reg.CLU_THR_STATUS_STATE.key) : (u.setWait c i .none Ts.halted).rd f (ix c i) = u.rd f (ix c i) :=
    u.rd_setWait_of_ne c i .none Ts.halted f _ fun e => h e.1
  refine ⟨u.setWait c i .none Ts.halted, ends, u.thState_setWait c i _ _ (by decide), (rd _ (by decide)).trans (State.rd_wr_self ..), ?_,
    u.g_setWait c i .none Ts.halted⟩
  exact (rd _ (by decide)).trans (State.rd_wr_of_key _ _ _ _ _ _ (by decide))

include halted in
theorem does_cluThrCtrlWrite_change (program : i % 2 = 1) (stop : v % 2 = 0)
    (change : v / 2 ^ 16 % 2 ^ 10 ≠ s.thTenant c i ∨ v / 2 ^ 32 % 2 ^ 16 ≠ s.thCtx c i) : Does (.cluThrCtrlWrite c i v) s fun t =>
      t.thTenant c i = v / 2 ^ 16 % 2 ^ 10 ∧ t.thCtx c i = v / 2 ^ 32 % 2 ^ 16 ∧ (t.thrOf c i).zeroing = true ∧
      (∀ n, t.g c i n = 0 ∧ t.v c i n = 0) ∧ (t.thrOf c i).mem = [] := by
  have ends := exec_cluThrCtrlWrite (s := s) (v := v) cluster thread
  rw [State.writeThrCtrl_change halted program stop change] at ends
  let u := s.identify c i (v / 2 ^ 16 % 2 ^ 10) (v / 2 ^ 32 % 2 ^ 16)
  let t := (u.setThr c i { (s.thrOf c i).wipe with zeroing := true }).wr Reg.CLU_THR_CTRL_RUN (ix c i) 0
  have wiped : t.thrOf c i = { (s.thrOf c i).wipe with zeroing := true } := u.thrOf_setThr c i _
  refine ⟨t, ends, ?_, ?_, by rw [wiped], fun n => ⟨?_, ?_⟩, by rw [wiped]; rfl⟩
  · exact (State.rd_wr_of_key _ _ _ _ _ _ (by decide)).trans ((State.rd_wr_of_key _ _ _ _ _ _ (by decide)).trans
      ((State.rd_wr_self ..).trans (Nat.mod_mod ..)))
  · exact (State.rd_wr_of_key _ _ _ _ _ _ (by decide)).trans ((State.rd_wr_self ..).trans (Nat.mod_mod ..))
  · rw [State.g, wiped]
    exact ite_self 0
  · rw [State.v, wiped]
    rfl

end Write

theorem does_programThreadZeroingDone (zeroing : (s.thrOf c i).zeroing = true) (run : s.rd Reg.CLU_THR_CTRL_RUN (ix c i) = 1)
    (serves : s.coreServes c (i / 2) = true) : Does (.programThreadZeroingDone c i) s fun t =>
      (t.thrOf c i).zeroing = false ∧ t.thState c i = Ts.ready := by
  let u := s.setThr c i { s.thrOf c i with zeroing := false }
  have clean : (u.thrOf c i).zeroing = false := by rw [State.thrOf_setThr]
  have on : u.on Reg.CLU_THR_CTRL_RUN (ix c i) = true := beq_iff_eq.2 run
  have ends : exec (.programThreadZeroingDone c i) s = .next (u.setThState c i Ts.ready) := by
    show execProgramThreadZeroingDone c i s = _
    rw [execProgramThreadZeroingDone, if_pos zeroing, ← State.startThread_of_ready clean serves]
    exact congrArg Host.Outcome.next (if_pos on)
  exact ⟨_, ends, clean, State.rd_wr_self ..⟩

/-! The program store (R233). -/

theorem does_cluPstoreDataWrite (cluster : c < 10) : Does (.cluPstoreDataWrite c v) s fun t =>
    Tbl.get 0 (s.rd Reg.CLU_PSTORE_ADDR_ADDR c) (t.cluOf c).pstore = v % 2 ^ 32 ∧
    (∀ w, w ≠ s.rd Reg.CLU_PSTORE_ADDR_ADDR c → Tbl.get 0 w (t.cluOf c).pstore = Tbl.get 0 w (s.cluOf c).pstore) ∧
    t.rd Reg.CLU_PSTORE_ADDR_ADDR c = (s.rd Reg.CLU_PSTORE_ADDR_ADDR c + 1) % 2 ^ 17 := by
  have ends : exec (.cluPstoreDataWrite c v) s = .next (s.writePstore c v) := by
    show execCluPstoreDataWrite c v s = _
    rw [execCluPstoreDataWrite, if_pos cluster]
  have store : ((s.writePstore c v).cluOf c).pstore = Tbl.set 0 (s.rd Reg.CLU_PSTORE_ADDR_ADDR c) (v % 2 ^ 32) (s.cluOf c).pstore :=
    congrArg Clu.pstore (s.cluOf_setClu c _)
  refine ⟨_, ends, ?_, fun w hw => ?_, State.rd_wr_self ..⟩
  · rw [store, Tbl.get_set_self]
  · rw [store, Tbl.get_set_ne _ _ _ hw]

end Control

/-! Banks (R247). -/

section Banks

variable {s : State} {c b : Nat}

/-- Where no slot waits, there is nothing to try again. -/
theorem State.pumpSlots_of_idle (idle : ∀ u k, (s.slotOf c u k).todo = []) : s.pumpSlots c = s :=
  List.foldlRecOn (motive := (· = s)) _ _ rfl fun t same k _ => by
    subst same
    exact if_neg fun h => h.2 (idle ..)

/-- Bank `b` has an owner, readers and a tag, and is not zeroed. -/
def OwnedBy (c b owner share ten : Nat) (t : State) : Prop :=
  t.rd Reg.CLU_BANK_OWN_OWNER (ix c b) = owner ∧ t.rd Reg.CLU_BANK_OWN_SHARE_RD (ix c b) = share ∧
    t.rd Reg.CLU_BANK_OWN_TENANT (ix c b) = ten ∧ t.rd Reg.CLU_BANK_OWN_ZEROING (ix c b) = 0

theorem State.giveBank_gives {owner share ten : Nat} (idle : ∀ u k, (s.slotOf c u k).todo = []) (ready : s.rd Reg.CLU_BANK_OWN_ZEROING (ix c b) = 0)
    (owner4 : owner < 2 ^ 4) (share10 : share < 2 ^ 10) (ten10 : ten < 2 ^ 10) :
    OwnedBy c b owner share ten (s.giveBank c b owner share ten) ∧
      Keeps State.noRegs [Reg.CLU_BANK_OWN_OWNER, Reg.CLU_BANK_OWN_SHARE_RD, Reg.CLU_BANK_OWN_TENANT] s (s.giveBank c b owner share ten) := by
  let u := ((s.wr Reg.CLU_BANK_OWN_OWNER (ix c b) owner).wr Reg.CLU_BANK_OWN_SHARE_RD (ix c b) share).wr Reg.CLU_BANK_OWN_TENANT (ix c b) ten
  have kept : Keeps State.noRegs [Reg.CLU_BANK_OWN_OWNER, Reg.CLU_BANK_OWN_SHARE_RD, Reg.CLU_BANK_OWN_TENANT] s u :=
    (((Keeps.refl ..).wr _ _ _).wr _ _ _).wr _ _ _
  have gives : s.giveBank c b owner share ten = u := State.pumpSlots_of_idle (s := u) idle
  rw [gives]
  refine ⟨⟨?_, ?_, (State.rd_wr_self ..).trans (Nat.mod_eq_of_lt ten10), (kept.rd _ _).trans ready⟩, kept⟩
  · exact (State.rd_wr_of_key _ _ _ _ _ _ (by decide)).trans ((State.rd_wr_of_key _ _ _ _ _ _ (by decide)).trans
      ((State.rd_wr_self ..).trans (Nat.mod_eq_of_lt owner4)))
  · exact (State.rd_wr_of_key _ _ _ _ _ _ (by decide)).trans ((State.rd_wr_self ..).trans (Nat.mod_eq_of_lt share10))

/-- A wiped bank reads as zero. -/
theorem State.rd_wipeBank (phys x : Nat) (inside : x < 2 ^ 18) : Mem.rd ((s.wipeBank c phys).cluOf c).bank (phys * 2 ^ 18 + x) = 0 := by
  have bank : ((s.wipeBank c phys).cluOf c).bank = Mem.wipe (s.cluOf c).bank (phys * bankBytes) ((phys + 1) * bankBytes) :=
    congrArg Clu.bank (State.cluOf_setClu _ c _)
  rw [bank, Mem.rd_wipe, if_pos (by rw [bankBytes]; omega)]

section Handover

variable {v : Nat} (cluster : c < 10) (bank : b < 16)
include cluster bank

theorem exec_cluBankOwnWrite : exec (.cluBankOwnWrite c b v) s = .next (s.writeBankOwn c b v) := by
  show execCluBankOwnWrite c b v s = _
  rw [execCluBankOwnWrite, if_pos ⟨cluster, bank⟩]

/-- A handover within a tenant. -/
theorem does_cluBankOwnWrite_same (idle : ∀ u k, (s.slotOf c u k).todo = []) (same : v / 2 ^ 16 % 2 ^ 10 = s.rd Reg.CLU_BANK_OWN_TENANT (ix c b))
    (ready : s.rd Reg.CLU_BANK_OWN_ZEROING (ix c b) = 0) : Does (.cluBankOwnWrite c b v) s fun t =>
      OwnedBy c b (v % 2 ^ 4) (v / 2 ^ 4 % 2 ^ 10) (v / 2 ^ 16 % 2 ^ 10) t ∧ (t.cluOf c).bank = (s.cluOf c).bank ∧
      t.rd Reg.CLU_HANDOVERS_COUNT c = satAdd 64 (s.rd Reg.CLU_HANDOVERS_COUNT c) 1 := by
  let u := s.count Reg.CLU_HANDOVERS_COUNT c
  have ends : exec (.cluBankOwnWrite c b v) s = .next (u.giveBank c b (v % 2 ^ 4) (v / 2 ^ 4 % 2 ^ 10) (v / 2 ^ 16 % 2 ^ 10)) := by
    rw [exec_cluBankOwnWrite cluster bank]
    simp only [State.writeBankOwn, bits, same, ready, State.on_eq, Nat.reduceBEq, Bool.false_eq_true, ne_eq, not_true_eq_false, or_self, if_false,
      Nat.pow_zero, Nat.div_one] <;> rfl
  have still : u.rd Reg.CLU_BANK_OWN_ZEROING (ix c b) = 0 := (State.rd_wr_of_key _ _ _ _ _ _ (by decide)).trans ready
  obtain ⟨owned, kept⟩ := State.giveBank_gives (s := u) (c := c) (b := b) idle still (v.mod_lt (by decide)) (Nat.mod_lt (v / 2 ^ 4) (by decide))
    (Nat.mod_lt (v / 2 ^ 16) (by decide))
  generalize u.giveBank c b (v % 2 ^ 4) (v / 2 ^ 4 % 2 ^ 10) (v / 2 ^ 16 % 2 ^ 10) = t at ends owned kept
  refine ⟨_, ends, owned, (congrArg (fun x : State => (x.cluOf c).bank) kept.frame :), (kept.rd _ _).trans ?_⟩
  exact (State.rd_wr_self ..).trans (Nat.mod_eq_of_lt (satAdd_lt ..))

/-- A handover to another tenant begins with the bank's zeroing. -/
theorem does_cluBankOwnWrite_other (other : v / 2 ^ 16 % 2 ^ 10 ≠ s.rd Reg.CLU_BANK_OWN_TENANT (ix c b)) : Does (.cluBankOwnWrite c b v) s fun t =>
    t.rd Reg.CLU_BANK_OWN_ZEROING (ix c b) = 1 ∧ t.rd Reg.CLU_BANK_OWN_TENANT (ix c b) = s.rd Reg.CLU_BANK_OWN_TENANT (ix c b) ∧
    (∀ x < 2 ^ 18, Mem.rd (t.cluOf c).bank (s.rd Reg.CLU_BANK_MAP_PHYS (ix c b) * 2 ^ 18 + x) = 0) ∧
    Tbl.get (0, 0, 0x3FF) b (t.cluOf c).handing = (v % 2 ^ 4, v / 2 ^ 4 % 2 ^ 10, v / 2 ^ 16 % 2 ^ 10) := by
  let u := ((s.count Reg.CLU_HANDOVERS_COUNT c).wipeBank c (s.rd Reg.CLU_BANK_MAP_PHYS (ix c b))).wr Reg.CLU_BANK_OWN_ZEROING (ix c b) 1
  let t := u.setClu c { u.cluOf c with handing := Tbl.put b (v % 2 ^ 4, v / 2 ^ 4 % 2 ^ 10, v / 2 ^ 16 % 2 ^ 10) (u.cluOf c).handing }
  have ends : exec (.cluBankOwnWrite c b v) s = .next t := by
    rw [exec_cluBankOwnWrite cluster bank, State.writeBankOwn, if_pos (.inl other)]
    simp only [bits, Nat.pow_zero, Nat.div_one] <;> rfl
  have clu : t.cluOf c = { u.cluOf c with handing := Tbl.put b (v % 2 ^ 4, v / 2 ^ 4 % 2 ^ 10, v / 2 ^ 16 % 2 ^ 10) (u.cluOf c).handing } :=
    u.cluOf_setClu c _
  refine ⟨t, ends, State.rd_wr_self .., ?_, fun x hx => ?_, ?_⟩
  · exact (State.rd_wr_of_key _ _ _ _ _ _ (by decide)).trans (State.rd_wr_of_key _ _ _ _ _ _ (by decide))
  · rw [clu]
    exact State.rd_wipeBank _ x hx
  · rw [clu, Tbl.get_put, if_pos rfl]

end Handover

/-- The zeroing's end gives the bank. -/
theorem does_bankZeroingDone {owner share ten : Nat} (idle : ∀ u k, (s.slotOf c u k).todo = [])
    (zeroing : s.rd Reg.CLU_BANK_OWN_ZEROING (ix c b) = 1) (handing : Tbl.get (0, 0, 0x3FF) b (s.cluOf c).handing = (owner, share, ten))
    (owner4 : owner < 2 ^ 4) (share10 : share < 2 ^ 10) (ten10 : ten < 2 ^ 10) : Does (.bankZeroingDone c b) s fun t =>
      OwnedBy c b owner share ten t ∧ (t.cluOf c).bank = (s.cluOf c).bank := by
  let u := s.wr Reg.CLU_BANK_OWN_ZEROING (ix c b) 0
  let w := u.setClu c { u.cluOf c with handing := Tbl.del b (u.cluOf c).handing }
  have clu : w.cluOf c = { s.cluOf c with handing := Tbl.del b (s.cluOf c).handing } := u.cluOf_setClu c _
  have pending : Tbl.get (0, 0, 0x3FF) b ((s.wr Reg.CLU_BANK_OWN_ZEROING (ix c b) 0).cluOf c).handing = (owner, share, ten) := handing
  have ends : exec (.bankZeroingDone c b) s = .next (w.giveBank c b owner share ten) := by
    show execBankZeroingDone c b s = _
    have on : s.on Reg.CLU_BANK_OWN_ZEROING (ix c b) = true := beq_iff_eq.2 zeroing
    simp only [execBankZeroingDone, on, if_true, pending, u, w]
  have quiet (x k : Nat) : (w.slotOf c x k).todo = [] := by
    rw [State.slotOf, clu]
    exact idle x k
  obtain ⟨owned, kept⟩ := State.giveBank_gives (s := w) (c := c) (b := b) quiet (State.rd_wr_self s _ _ _) owner4 share10 ten10
  generalize w.giveBank c b owner share ten = t at ends owned kept
  refine ⟨_, ends, owned, (congrArg (fun x : State => (x.cluOf c).bank) kept.frame :).trans (congrArg Clu.bank clu :)⟩

end Banks

end Sys2Proof.Machine

open Sys2Proof Sys2Proof.Machine Sys2Proof.Safety

/-- Settles O17: a write of CLU_THR_CTRL starts, halts or wipes; a handover gives the bank at once or after its zeroing. -/
theorem clusterControl : Obligations.ClusterControl := by
  unfold Obligations.ClusterControl
  constructor
  · intro s c i v cluster thread
    exact ⟨does_cluThrCtrlWrite_start cluster thread, fun runs stop _ => does_cluThrCtrlWrite_halt cluster thread runs stop,
      does_cluThrCtrlWrite_change cluster thread, does_programThreadZeroingDone, does_cluPstoreDataWrite cluster⟩
  · intro s c b v owner share ten cluster bank idle
    exact ⟨does_cluBankOwnWrite_same cluster bank idle, does_cluBankOwnWrite_other cluster bank, does_bankZeroingDone idle⟩
end

section
/-! Stream units: slots, the runs they move, rows, hub copies, polls and waits (R240 to R245, R250). -/

namespace Sys2Proof.Machine

open Sys2Proof Sys2Proof.Safety

/-! The slots of a cluster. -/

/-- The fields in which a cluster shows its slots (R260). -/
def slotFields : List Fld := [Reg.CLU_STREAM_STATUS_BUSY, Reg.CLU_STREAM_STATUS_PARKED, Reg.CLU_STREAM_STATUS_OUTSTANDING]

/-- Nothing changes but the slots of clusters and what shows them. -/
structure SlotsOnly (s t : State) : Prop where
  rest : t = { s with regs := t.regs, clus := t.clus }
  cells : SameCells slotFields s t
  clusters : ∀ e, { t.cluOf e with slots := [] } = { s.cluOf e with slots := [] }

theorem SlotsOnly.trans {s t u : State} (a : SlotsOnly s t) (b : SlotsOnly t u) : SlotsOnly s u where
  rest := by
    have rest := b.rest
    rw [a.rest] at rest
    exact rest
  cells := a.cells.trans b.cells
  clusters e := (b.clusters e).trans (a.clusters e)

section SlotsOnly

variable {s t : State} (h : SlotsOnly s t)
include h

theorem SlotsOnly.rd (f : Fld) (j : Nat) (apart : ∀ g ∈ slotFields, f.key ≠ g.key := by decide) : t.rd f j = s.rd f j :=
  (h.cells.keeps (F := fun _ => ()) rfl).rd f j apart

theorem SlotsOnly.thrOf (e j : Nat) : t.thrOf e j = s.thrOf e j := (congrArg (fun x : Clu => Tbl.get {} j x.thr) (h.clusters e) :)

theorem SlotsOnly.bank (e : Nat) : (t.cluOf e).bank = (s.cluOf e).bank := (congrArg Clu.bank (h.clusters e) :)

theorem SlotsOnly.hub (e : Nat) : (t.cluOf e).hub = (s.cluOf e).hub := (congrArg Clu.hub (h.clusters e) :)

theorem SlotsOnly.gddr : t.gddr = s.gddr := by rw [h.rest]

theorem SlotsOnly.board : t.board = s.board := by rw [h.rest]

theorem SlotsOnly.sameBanks : SameBanks s t := .of_fields (h.cells.keeps (F := fun _ => ()) rfl).regs

theorem SlotsOnly.localRead (c : Nat) (hub : Bool) (a n : Nat) : t.localRead c hub a n = s.localRead c hub a n := by
  simp only [State.localRead, State.spRead, h.bank, h.hub, h.sameBanks.spPlace]

theorem SlotsOnly.gddrPassAll (ten ctx : Nat) (acc : AccK) (a n : Nat) : t.gddrPassAll ten ctx acc a n = s.gddrPassAll ten ctx acc a n :=
  h.cells.gddrPassAll ten ctx acc a n

theorem SlotsOnly.gddrPoisoned (a n : Nat) : t.gddrPoisoned a n = s.gddrPoisoned a n := by rw [State.gddrPoisoned, State.gddrPoisoned, h.board]

end SlotsOnly

section Slots

variable (s : State) (c u k : Nat) (v : Slot)

theorem State.cluOf_setSlot : (s.setSlot c u k v).cluOf c = { s.cluOf c with slots := Tbl.set {} (slotKey u k) v (s.cluOf c).slots } :=
  s.cluOf_setClu c _

@[simp] theorem State.slotOf_setSlot : (s.setSlot c u k v).slotOf c u k = v := by
  rw [State.slotOf, State.cluOf_setSlot]
  exact Tbl.get_set_self ..

theorem State.setSlot_only : SlotsOnly s (s.setSlot c u k v) where
  rest := rfl
  cells := ((((SameCells.refl slotFields s).of_regs rfl).wr _ _ _).wr _ _ _).wr _ _ _
  clusters e := by
    rcases eq_or_ne e c with rfl | other
    · rw [State.cluOf_setSlot]
    · exact congrArg (fun x : Clu => { x with slots := [] }) (s.cluOf_setClu_ne _ other)

end Slots

/-- A slot is busy for thread `i`, without a failure; every thread stands where it stood. -/
structure SlotHeld (c i u k : Nat) (s t : State) : Prop where
  busy : (t.slotOf c u k).busy = true
  thread : (t.slotOf c u k).thread = i
  status : (t.slotOf c u k).status = 0
  pc : t.pc c i = s.pc c i
  threads : ∀ e j, t.thrOf e j = s.thrOf e j

theorem SlotHeld.of_counted {c i u k : Nat} {s t w : State} (h : SlotHeld c i u k s t) (kept : Keeps State.noRegs pmcFields t w) : SlotHeld c i u k s w := by
  have slot : w.slotOf c u k = t.slotOf c u k := (congrArg (fun x : State => x.slotOf c u k) kept.frame :)
  exact ⟨slot ▸ h.busy, slot ▸ h.thread, slot ▸ h.status, (pc_of_counted kept).trans h.pc,
    fun e j => (thrOf_of_counted kept e j).trans (h.threads e j)⟩

/-! Local bytes: the scratchpad, or the hub buffer (R229, R232). -/

section Local

variable (s : State) (c : Nat) (hub : Bool) (a : Nat)

@[simp] theorem State.length_localRead (n : Nat) : (s.localRead c hub a n).length = n := by
  unfold State.localRead
  split
  · exact Mem.length_bytes ..
  · exact State.length_spRead ..

variable (b : List Byte)

/-- A write of local bytes leaves all but one cluster's banks and hub buffer, and the record of poisoned lines. -/
theorem State.localWrite_rest : (∀ e, { (s.localWrite c hub a b).cluOf e with bank := [], hub := [] } = { s.cluOf e with bank := [], hub := [] }) ∧
    s.localWrite c hub a b = { s with clus := (s.localWrite c hub a b).clus, board := (s.localWrite c hub a b).board } := by
  cases hub
  case false =>
    have wrote := s.spWrite_does c a b
    exact ⟨fun e => (congrArg (fun x : Clu => { x with hub := [] }) (wrote.clusters e) :), wrote.rest⟩
  case true =>
    refine ⟨fun e => ?_, rfl⟩
    show { (s.setClu c { s.cluOf c with hub := Mem.store (s.cluOf c).hub a b }).cluOf e with bank := [], hub := [] } = _
    rcases eq_or_ne e c with rfl | other
    · rw [State.cluOf_setClu]
    · rw [State.cluOf_setClu_ne _ _ other]

theorem State.localWrite_hub : (s.localWrite c true a b).cluOf c = { s.cluOf c with hub := Mem.store (s.cluOf c).hub a b } := s.cluOf_setClu c _

theorem State.slotOf_localWrite (e u k : Nat) : (s.localWrite c hub a b).slotOf e u k = s.slotOf e u k :=
  (congrArg (fun x : Clu => Tbl.get {} (slotKey u k) x.slots) ((s.localWrite_rest c hub a b).1 e) :)

theorem State.thrOf_localWrite (e j : Nat) : (s.localWrite c hub a b).thrOf e j = s.thrOf e j :=
  (congrArg (fun x : Clu => Tbl.get {} j x.thr) ((s.localWrite_rest c hub a b).1 e) :)

theorem State.rd_localWrite (f : Fld) (j : Nat) : (s.localWrite c hub a b).rd f j = s.rd f j := by rw [(s.localWrite_rest c hub a b).2]; rfl

theorem State.gddr_localWrite : (s.localWrite c hub a b).gddr = s.gddr := by rw [(s.localWrite_rest c hub a b).2]

end Local

/-! One part of a slot (R241 to R243). -/

section Part

variable {s : State} {c u k la ra n : Nat}

/-- A slot with nothing left to request stays. -/
theorem State.slotPump_of_done (done : (s.slotOf c u k).todo = []) (fuel : Nat) : State.slotPump c u k fuel s = s := by
  cases fuel with
  | zero => rfl
  | succ fuel => simp only [State.slotPump, done]

/-- A part by window offset that passes its checks is done in GDDR7, and the next part follows. -/
theorem State.slotPump_win {fuel : Nat} {rest : List (Nat × Nat × Nat)} {v : Slot} (slot : s.slotOf c u k = v) (todo : v.todo = (la, ra, n) :: rest)
    (busy : v.busy = true) (awake : v.parked = false) (win : v.win = true) (check : s.slotCheck c u v la n = .ok)
    (pass : s.gddrPassAll (s.thTenant c v.thread) (s.thCtx c v.thread) (if v.store then .write else .read) ra n = true) :
    State.slotPump c u k (fuel + 1) s =
      State.slotPump c u k fuel ((s.setSlot c u k { v with todo := rest }).slotPart c u k la ra n (.gddr ra)) := by
  simp only [State.slotPump, slot, todo, busy, awake, win, check, pass, Bool.not_true, Bool.false_eq_true, or_self, if_false, if_true]

theorem State.slotPart_store {v : Slot} (slot : s.slotOf c u k = v) (store : v.store = true) :
    Keeps State.noRegs pmcFields (s.gddrStore ra (s.localRead c v.hub la n)) (s.slotPart c u k la ra n (.gddr ra)) := by
  simp only [State.slotPart, slot, store, if_true]
  exact (State.pmc_keeps ..).trans (State.pmc_keeps ..)

theorem State.slotPart_load {v : Slot} (slot : s.slotOf c u k = v) (load : v.store = false) (clean : s.gddrPoisoned ra n = false)
    (above : unitBytes ≤ ra) :
    Keeps State.noRegs pmcFields (s.localWrite c v.hub la (Mem.bytes s.gddr ra n)) (s.slotPart c u k la ra n (.gddr ra)) := by
  simp only [State.slotPart, slot, load, clean, Bool.false_eq_true, if_false, State.gddrBytes_of_le n above]
  exact (State.pmc_keeps ..).trans (State.pmc_keeps ..)

end Part

/-! One run by window offset, within a page (R242). -/

theorem pieces_of_page {ra n : Nat} (some_ : 1 ≤ n) (page : ra % 4096 + n ≤ 4096) : pieces ra n = [(ra, n)] := by
  have low : max ra ((ra / 4096 + 0) * 4096) = ra := by omega
  have high : min (ra + n) ((ra / 4096 + 0 + 1) * 4096) = ra + n := by omega
  have nonempty : ra < ra + n := by omega
  rw [pieces, List.range_succ_eq_map, List.filterMap_cons]
  simp only [low, high, nonempty, if_true, Nat.add_sub_cancel_left, List.cons.injEq, true_and, List.filterMap_eq_nil_iff, List.mem_map]
  rintro _ ⟨j, -, rfl⟩
  exact if_neg (by omega)

theorem runParts_of_page {la ra n : Nat} (some_ : 1 ≤ n) (page : ra % 4096 + n ≤ 4096) : runParts la ra n = [(la, ra, n)] := by
  rw [runParts, pieces_of_page some_ page]
  simp

section Start

variable {s : State} {c i u k la ra n : Nat} {store hub : Bool}

/-- A run that passes its checks is one part of its slot. -/
theorem State.slotStart_win (pass : s.gddrPassAll (s.thTenant c i) (s.thCtx c i) (if store then .write else .read) ra n = true)
    (check : hub = true ∨ s.spCheck c (5 + u) (s.thTenant c i) (!store) la n = .ok) : ∃ t, SlotsOnly s t ∧
      t.slotOf c u k = { busy := true, thread := i, store, hub, win := true } ∧
      s.slotStart c i u k store hub true [(la, ra, n)] = State.slotPump c u k 1 (t.slotPart c u k la ra n (.gddr ra)) := by
  let v : Slot := { busy := true, thread := i, store, hub, win := true, todo := [(la, ra, n)] }
  have only := s.setSlot_only c u k v
  have slot := s.slotOf_setSlot c u k v
  have start : s.slotStart c i u k store hub true [(la, ra, n)] = State.slotPump c u k 2 (s.setSlot c u k v) := rfl
  generalize s.setSlot c u k v = w at only slot start
  have tenant : w.thTenant c i = s.thTenant c i := only.rd _ _
  have ctx : w.thCtx c i = s.thCtx c i := only.rd _ _
  have local_ : w.slotCheck c u v la n = .ok := by
    rcases check with rfl | ok
    · rfl
    · show (if hub then _ else w.spCheck c (5 + u) (w.thTenant c i) (!store) la n) = _
      rw [tenant, only.sameBanks.spCheck, ok, ite_self]
  have remote : w.gddrPassAll (w.thTenant c i) (w.thCtx c i) (if store then .write else .read) ra n = true := by
    rw [tenant, ctx, only.gddrPassAll, pass]
  refine ⟨w.setSlot c u k { v with todo := [] }, only.trans (w.setSlot_only ..), w.slotOf_setSlot .., start.trans ?_⟩
  exact State.slotPump_win slot rfl rfl rfl rfl local_ remote

theorem State.slotStart_store (pass : s.gddrPassAll (s.thTenant c i) (s.thCtx c i) .write ra n = true)
    (check : hub = true ∨ s.spCheck c (5 + u) (s.thTenant c i) false la n = .ok) :
    (s.slotStart c i u k true hub true [(la, ra, n)]).gddr = Mem.store s.gddr ra (s.localRead c hub la n) ∧
      SlotHeld c i u k s (s.slotStart c i u k true hub true [(la, ra, n)]) := by
  obtain ⟨t, only, slot, start⟩ := State.slotStart_win (store := true) (k := k) pass check
  have kept := State.slotPart_store (la := la) (ra := ra) (n := n) slot rfl
  rw [only.localRead] at kept
  generalize t.slotPart c u k la ra n (.gddr ra) = w at start kept
  have held : SlotHeld c i u k s w := SlotHeld.of_counted (t := t.gddrStore ra (s.localRead c hub la n)) ⟨congrArg Slot.busy slot, congrArg Slot.thread slot,
    congrArg Slot.status slot, only.rd _ _, only.thrOf⟩ kept
  have done : (w.slotOf c u k).todo = [] := ((congrArg (fun x : State => (x.slotOf c u k).todo) kept.frame :)).trans (congrArg Slot.todo slot)
  rw [start, State.slotPump_of_done done]
  refine ⟨(congrArg State.gddr kept.frame :).trans ?_, held⟩
  show Mem.store t.gddr ra _ = _
  rw [only.gddr]

theorem State.slotStart_load (pass : s.gddrPassAll (s.thTenant c i) (s.thCtx c i) .read ra n = true) (clean : s.gddrPoisoned ra n = false)
    (above : unitBytes ≤ ra) (check : hub = true ∨ s.spCheck c (5 + u) (s.thTenant c i) true la n = .ok) : ∃ t, SlotsOnly s t ∧
      (s.slotStart c i u k false hub true [(la, ra, n)]).cluOf c = (t.localWrite c hub la (Mem.bytes s.gddr ra n)).cluOf c ∧
      (s.slotStart c i u k false hub true [(la, ra, n)]).gddr = s.gddr ∧
      SlotHeld c i u k s (s.slotStart c i u k false hub true [(la, ra, n)]) := by
  obtain ⟨t, only, slot, start⟩ := State.slotStart_win (store := false) (k := k) pass check
  have kept := State.slotPart_load (la := la) (n := n) slot rfl ((only.gddrPoisoned ra n).trans clean) above
  rw [only.gddr] at kept
  generalize t.slotPart c u k la ra n (.gddr ra) = w at start kept
  have after : (t.localWrite c hub la (Mem.bytes s.gddr ra n)).slotOf c u k = { busy := true, thread := i, store := false, hub, win := true } :=
    (State.slotOf_localWrite ..).trans slot
  have held : SlotHeld c i u k s w := SlotHeld.of_counted ⟨congrArg Slot.busy after, congrArg Slot.thread after, congrArg Slot.status after,
    (State.rd_localWrite ..).trans (only.rd _ _), fun e j => (State.thrOf_localWrite ..).trans (only.thrOf e j)⟩ kept
  have done : (w.slotOf c u k).todo = [] := ((congrArg (fun x : State => (x.slotOf c u k).todo) kept.frame :)).trans (congrArg Slot.todo after)
  rw [start, State.slotPump_of_done done]
  exact ⟨t, only, cluOf_of_counted kept c, ((congrArg State.gddr kept.frame :).trans (State.gddr_localWrite ..)).trans only.gddr, held⟩

end Start

end Sys2Proof.Machine
end

section
/-! The stream instructions (R240 to R245), and the end of a slot. -/

namespace Sys2Proof.Machine

open Sys2Proof Sys2Proof.Safety

/-! The slot an instruction names (R240). -/

theorem withSlot_of_free {s : State} {c i f : Nat} (own : ownSlot i f = true) (free : (s.slotOf c (i / 2) (f / 2 % 8)).busy = false)
    (g : State → State) : withSlot c i f s g = g s := by
  have idle : (s.slotOf c (coreOf i) (slotOfF f)).busy = false := free
  simp only [withSlot, own, idle, Bool.not_true, Bool.false_eq_true, if_false]

theorem bit_zero_eq (f : Nat) : bit f 0 = (f % 2 == 1) := by simp [bit, beq_eq_decide]

/-- What an instruction that starts its slot leaves: the slot held, and its thread at the next instruction. -/
def SlotTaken (c i u k : Nat) (s t : State) : Prop :=
  (t.slotOf c u k).busy = true ∧ (t.slotOf c u k).thread = i ∧ (t.slotOf c u k).status = 0 ∧ PcNext c i s t ∧ ∀ e j, t.thrOf e j = s.thrOf e j

theorem SlotHeld.step1 {c i u k : Nat} {s t : State} (h : SlotHeld c i u k s t) : SlotTaken c i u k s (t.step1 c i) :=
  ⟨h.busy, h.thread, h.status, pcNext_step1 h.pc, h.threads⟩

/-! Runs (R241 to R243). -/

section Runs

variable {s : State} {c i d a b f : Nat} (issue : CanIssue s c i) (own : ownSlot i f = true)
  (free : (s.slotOf c (i / 2) (f / 2 % 8)).busy = false)
include issue own free

theorem exec_linear {k : Instr} {store : Bool} (low : s.g c i d < 0x1000000) (high : s.g c i d + s.g c i b ≤ 0x1000000) (r : Result)
    (runs : exec k s = r) (is_linear : r = linear c i d a b f store s) : exec k s =
      .next ((s.slotStart c i (i / 2) (f / 2 % 8) store false (bit f 0) (runParts (s.g c i d) (s.g c i a) (s.g c i b))).step1 c i) := by
  have ends := exec_thread issue r runs is_linear
  rw [withSlot_of_free own free] at ends
  simp only [inScratch_of_le low high, Bool.not_true, Bool.false_eq_true, if_false] at ends
  exact ends

theorem exec_hubRunOp {k : Instr} {store : Bool} (service : i % 2 = 0) (fits : s.g c i d + s.g c i b ≤ 2 ^ 20) (r : Result)
    (runs : exec k s = r) (is_run : r = hubRunOp c i d a b f store s) : exec k s =
      .next ((s.slotStart c i (i / 2) (f / 2 % 8) store true (bit f 0) (runParts (s.g c i d) (s.g c i a) (s.g c i b))).step1 c i) := by
  have ends := exec_thread issue r runs is_run
  have inside : ¬ hubBytes < s.g c i d + s.g c i b := Nat.not_lt.2 fits
  rw [priv_of_service service, withSlot_of_free own free, if_neg inside] at ends
  exact ends

variable (win : f % 2 = 1) {la ra n : Nat} (local_ : s.g c i d = la) (remote : s.g c i a = ra) (length : s.g c i b = n)
  (some_ : 1 ≤ n) (page : ra % 4096 + n ≤ 4096)
include win local_ remote length some_ page

omit issue own free in
/-- A run by window offset within a page starts its slot with one part. -/
theorem runParts_of_win {k : Instr} {store hub : Bool}
    (runs : exec k s =
      .next ((s.slotStart c i (i / 2) (f / 2 % 8) store hub (bit f 0) (runParts (s.g c i d) (s.g c i a) (s.g c i b))).step1 c i)) :
    exec k s = .next ((s.slotStart c i (i / 2) (f / 2 % 8) store hub true [(la, ra, n)]).step1 c i) := by
  rwa [bit_zero_eq, win, local_, remote, length, runParts_of_page some_ page] at runs

section Store

variable (pass : s.gddrPassAll (s.thTenant c i) (s.thCtx c i) .write ra n = true)
include pass

theorem does_sst (high : la + n ≤ 0x1000000) (check : s.spCheck c (5 + i / 2) (s.thTenant c i) false la n = .ok) : Does (.sst c i d a b f) s fun t =>
    (∀ j < n, Mem.rd t.gddr (ra + j) = Mem.rd (s.cluOf c).bank (s.spPlace c (la + j))) ∧ SameGddrBut ra n s t ∧
      SlotTaken c i (i / 2) (f / 2 % 8) s t := by
  have runs := runParts_of_win win local_ remote length some_ page
    (exec_linear issue own free (k := .sst c i d a b f) (by omega) (by omega) (execSst c i d a b f s) rfl rfl)
  obtain ⟨gddr, held⟩ := State.slotStart_store (hub := false) (k := f / 2 % 8) pass (.inr check)
  refine ⟨_, runs, fun j hj => ?_, fun x hx => ?_, held.step1⟩
  · refine (congrArg (Mem.rd · (ra + j)) gddr).trans ((Mem.rd_store_of_mem _ _ _ _ (by simpa using hj)).trans ?_)
    exact State.getElem_spRead ..
  · exact (congrArg (Mem.rd · x) gddr).trans (Mem.rd_store_of_lt _ _ _ _ (by simpa using hx))

theorem does_hst (service : i % 2 = 0) (fits : la + n ≤ 2 ^ 20) : Does (.hst c i d a b f) s fun t =>
    (∀ j < n, Mem.rd t.gddr (ra + j) = Mem.rd (s.cluOf c).hub (la + j)) ∧ SameGddrBut ra n s t ∧
      SlotTaken c i (i / 2) (f / 2 % 8) s t := by
  have runs := runParts_of_win win local_ remote length some_ page
    (exec_hubRunOp issue own free (k := .hst c i d a b f) service (by omega) (execHst c i d a b f s) rfl rfl)
  obtain ⟨gddr, held⟩ := State.slotStart_store (hub := true) (la := la) (u := i / 2) (k := f / 2 % 8) pass (.inl rfl)
  refine ⟨_, runs, fun j hj => ?_, fun x hx => ?_, held.step1⟩
  · refine (congrArg (Mem.rd · (ra + j)) gddr).trans ((Mem.rd_store_of_mem _ _ _ _ (by simpa using hj)).trans ?_)
    exact Mem.getElem_bytes ..
  · exact (congrArg (Mem.rd · x) gddr).trans (Mem.rd_store_of_lt _ _ _ _ (by simpa using hx))

end Store

section Load

variable (pass : s.gddrPassAll (s.thTenant c i) (s.thCtx c i) .read ra n = true) (clean : s.gddrPoisoned ra n = false) (above : 0x200000 ≤ ra)
include pass clean above

theorem does_sld (high : la + n ≤ 0x1000000) (check : s.spCheck c (5 + i / 2) (s.thTenant c i) true la n = .ok)
    (apart : ∀ k < n, ∀ j < k, s.spPlace c (la + j) ≠ s.spPlace c (la + k)) : Does (.sld c i d a b f) s fun t =>
      (∀ j < n, Mem.rd (t.cluOf c).bank (s.spPlace c (la + j)) = Mem.rd s.gddr (ra + j)) ∧
      (∀ p, (∀ j < n, p ≠ s.spPlace c (la + j)) → Mem.rd (t.cluOf c).bank p = Mem.rd (s.cluOf c).bank p) ∧ t.gddr = s.gddr ∧
      SlotTaken c i (i / 2) (f / 2 % 8) s t := by
  have runs := runParts_of_win win local_ remote length some_ page
    (exec_linear issue own free (k := .sld c i d a b f) (by omega) (by omega) (execSld c i d a b f s) rfl rfl)
  obtain ⟨t, only, clu, gddr, held⟩ := State.slotStart_load (hub := false) (k := f / 2 % 8) pass clean above (.inr check)
  have wrote := t.spWrite_does c la (Mem.bytes s.gddr ra n)
  have places := only.sameBanks.spPlace c
  have bank (p : Nat) : Mem.rd ((s.slotStart c i (i / 2) (f / 2 % 8) false false true [(la, ra, n)]).cluOf c).bank p =
      Mem.rd ((t.spWrite c la (Mem.bytes s.gddr ra n)).cluOf c).bank p := congrArg (fun x : Clu => Mem.rd x.bank p) clu
  obtain ⟨inside, outside, -, -⟩ := wrote
  simp only [Mem.length_bytes, places] at inside outside
  refine ⟨_, runs, fun j hj => ?_, fun p hp => ?_, gddr, held.step1⟩
  · exact (bank _).trans ((inside apart j hj).trans (Mem.getElem_bytes ..))
  · exact (bank _).trans ((outside p hp).trans (by rw [only.bank]))

theorem does_hld (service : i % 2 = 0) (fits : la + n ≤ 2 ^ 20) : Does (.hld c i d a b f) s fun t =>
    (∀ j < n, Mem.rd (t.cluOf c).hub (la + j) = Mem.rd s.gddr (ra + j)) ∧
    (∀ y, (y < la ∨ la + n ≤ y) → Mem.rd (t.cluOf c).hub y = Mem.rd (s.cluOf c).hub y) ∧ t.gddr = s.gddr ∧
    SlotTaken c i (i / 2) (f / 2 % 8) s t := by
  have runs := runParts_of_win win local_ remote length some_ page
    (exec_hubRunOp issue own free (k := .hld c i d a b f) service (by omega) (execHld c i d a b f s) rfl rfl)
  obtain ⟨t, only, clu, gddr, held⟩ := State.slotStart_load (hub := true) (la := la) (u := i / 2) (k := f / 2 % 8) pass clean above (.inl rfl)
  rw [State.localWrite_hub, only.hub] at clu
  have hub (p : Nat) : Mem.rd ((s.slotStart c i (i / 2) (f / 2 % 8) false true true [(la, ra, n)]).cluOf c).hub p =
      Mem.rd (Mem.store (s.cluOf c).hub la (Mem.bytes s.gddr ra n)) p := congrArg (fun x : Clu => Mem.rd x.hub p) clu
  refine ⟨_, runs, fun j hj => ?_, fun y hy => ?_, gddr, held.step1⟩
  · exact (hub _).trans ((Mem.rd_store_of_mem _ _ _ _ (by simpa using hj)).trans (Mem.getElem_bytes ..))
  · exact (hub _).trans (Mem.rd_store_of_lt _ _ _ _ (by simpa using hy))

end Load

end Runs

/-! Hub copies and rows (R240, R244). -/

section Copies

variable {s : State} {c i d a b f : Nat} (issue : CanIssue s c i) (own : ownSlot i f = true)
  (free : (s.slotOf c (i / 2) (f / 2 % 8)).busy = false)
include issue own free

section Shx

variable {sp hb n : Nat} {toHub : Bool} (scratch : s.g c i d = sp) (hub : s.g c i a = hb) (length : s.g c i b % 2 ^ 63 = n)
  (service : i % 2 = 0) (high : sp + n ≤ 0x1000000) (low : sp < 0x1000000) (fits : hb + n ≤ 2 ^ 20)
include scratch hub length service high low fits

/-- A copy whose checks pass is done at once, and its slot then is busy. -/
theorem exec_shx (way : bit (s.g c i b) 63 = toHub) (check : s.spCheck c (5 + i / 2) (s.thTenant c i) (!toHub) sp n = .ok) :
    exec (.shx c i d a b f) s = .next (((if toHub then s.localWrite c true hb (s.spRead c sp n) else s.spWrite c sp (s.localRead c true hb n)).setSlot c
      (i / 2) (f / 2 % 8) { busy := true, thread := i, store := toHub, hub := true }).step1 c i) := by
  have runs := exec_thread issue (k := .shx c i d a b f) (execShx c i d a b f s) rfl rfl
  have ok : s.spCheck c (5 + coreOf i) (s.thTenant c i) (!toHub) sp n = .ok := check
  have inside : ¬ hubBytes < hb + n := Nat.not_lt.2 fits
  rw [priv_of_service service, withSlot_of_free own free] at runs
  simp only [way, scratch, hub, length, inScratch_of_le low high, Bool.not_true, Bool.false_eq_true, if_false, inside, ok] at runs
  exact runs

theorem does_shx_hub (way : s.g c i b / 2 ^ 63 % 2 = 1) (check : s.spCheck c (5 + i / 2) (s.thTenant c i) false sp n = .ok) :
    Does (.shx c i d a b f) s fun t =>
      (∀ j < n, Mem.rd (t.cluOf c).hub (hb + j) = Mem.rd (s.cluOf c).bank (s.spPlace c (sp + j))) ∧ (t.cluOf c).bank = (s.cluOf c).bank ∧
      t.gddr = s.gddr ∧ PcNext c i s t := by
  have runs := exec_shx issue own free scratch hub length service high low fits (toHub := true) (decide_eq_true way) check
  rw [if_pos rfl] at runs
  have clu := s.localWrite_hub c hb (s.spRead c sp n)
  have gddr := s.gddr_localWrite c true hb (s.spRead c sp n)
  have rd := s.rd_localWrite c true hb (s.spRead c sp n)
  generalize s.localWrite c true hb (s.spRead c sp n) = u at runs clu gddr rd
  have only := u.setSlot_only c (i / 2) (f / 2 % 8) { busy := true, thread := i, store := true, hub := true }
  generalize u.setSlot c (i / 2) (f / 2 % 8) { busy := true, thread := i, store := true, hub := true } = w at runs only
  have next : PcNext c i s (w.step1 c i) := pcNext_step1 ((only.rd _ _).trans (rd _ _))
  refine ⟨_, runs, fun j hj => ?_, ?_, only.gddr.trans gddr, next⟩
  · refine (congrArg (Mem.rd · (hb + j)) ((only.hub c).trans (congrArg Clu.hub clu :))).trans ?_
    exact (Mem.rd_store_of_mem _ _ _ _ (by simpa using hj)).trans (State.getElem_spRead ..)
  · exact (only.bank c).trans (congrArg Clu.bank clu :)

theorem does_shx_scratch (way : s.g c i b / 2 ^ 63 % 2 = 0) (check : s.spCheck c (5 + i / 2) (s.thTenant c i) true sp n = .ok)
    (apart : ∀ k < n, ∀ j < k, s.spPlace c (sp + j) ≠ s.spPlace c (sp + k)) : Does (.shx c i d a b f) s fun t =>
      (∀ j < n, Mem.rd (t.cluOf c).bank (s.spPlace c (sp + j)) = Mem.rd (s.cluOf c).hub (hb + j)) ∧ (t.cluOf c).hub = (s.cluOf c).hub ∧
      t.gddr = s.gddr ∧ PcNext c i s t := by
  have zero : ¬ s.g c i b / 2 ^ 63 % 2 = 1 := by omega
  have runs := exec_shx issue own free scratch hub length service high low fits (toHub := false) (decide_eq_false zero) check
  rw [if_neg (by decide)] at runs
  have wrote := s.spWrite_does c sp (s.localRead c true hb n)
  generalize s.spWrite c sp (s.localRead c true hb n) = u at runs wrote
  have only := u.setSlot_only c (i / 2) (f / 2 % 8) { busy := true, thread := i, store := false, hub := true }
  generalize u.setSlot c (i / 2) (f / 2 % 8) { busy := true, thread := i, store := false, hub := true } = w at runs only
  have next : PcNext c i s (w.step1 c i) := pcNext_step1 ((only.rd _ _).trans (wrote.rd _ _))
  refine ⟨_, runs, fun j hj => ?_, ?_, only.gddr.trans wrote.gddr, next⟩
  · refine (congrArg (Mem.rd · _) (only.bank c)).trans ((wrote.inside (by simpa using apart) j (by simpa using hj)).trans ?_)
    exact Mem.getElem_bytes ..
  · exact (only.hub c).trans (congrArg Clu.hub (wrote.clusters c) :)

end Shx

/-- SGATHER and SSCATTER start their slot with the runs of their rows. -/
theorem exec_rows {k : Instr} {store : Bool} (r : Result) (runs : exec k s = r) (is_rows : r = rows c i d a b f store s) {at_ : Nat} {x : GatherD}
    (place : s.g c i b = at_) (descriptor : gatherOf (s.spRead c at_ 16) = x) (high : at_ + 16 ≤ 0x1000000) (aligned : at_ % 16 = 0)
    (check : s.spCheck c (5 + i / 2) (s.thTenant c i) false at_ 16 = .ok) (ok : x.ok = true) (low : s.g c i d < 0x1000000)
    (buffer : s.g c i d + x.rows * x.row ≤ 0x1000000) (list : s.spCheck c (5 + i / 2) (s.thTenant c i) false x.list (x.rows * x.width) = .ok) :
    exec k s = .next ((s.slotStart c i (i / 2) (f / 2 % 8) store false (f % 2 == 1) (s.rowParts c (s.g c i d) (s.g c i a) x)).step1 c i) := by
  have ends := exec_thread issue r runs is_rows
  have first : s.spCheck c (5 + coreOf i) (s.thTenant c i) false at_ 16 = .ok := check
  have second : s.spCheck c (5 + coreOf i) (s.thTenant c i) false x.list (x.rows * x.width) = .ok := list
  rw [withSlot_of_free own free] at ends
  simp only [place, descriptor, inScratch_of_le (show at_ < 0x1000000 by omega) high, aligned, State.unitRead, first, ok, inScratch_of_le low buffer, second,
    Bool.not_true, Bool.false_eq_true, ne_eq, not_true_eq_false, if_false, bit_zero_eq] at ends
  exact ends

end Copies

/-! Polls, waits and ends (R240, R245). -/

/-- A service thread takes a slot's code, which LAST_STATUS shows. -/
theorem State.slotReturn_of_service {c u i d code : Nat} (s : State) (service : i % 2 = 0) :
    GTakes c i d code s (s.slotReturn c u i d code) ∧ PcNext c i s (s.slotReturn c u i d code) ∧
      OnlyThread [Reg.CLU_STREAM_STATUS_LAST_STATUS] c i s (s.slotReturn c u i d code) ∧
      (s.slotReturn c u i d code).rd Reg.CLU_STREAM_STATUS_LAST_STATUS (ix c u) = code % 256 := by
  have returns : s.slotReturn c u i d code = ((s.setG c i d code).wr Reg.CLU_STREAM_STATUS_LAST_STATUS (ix c u) code).step1 c i := by
    have is_service : isService i = true := beq_iff_eq.2 service
    simp only [State.slotReturn, is_service, Bool.not_true, Bool.false_eq_true, false_and, if_false]
  obtain ⟨value, others, thread⟩ := s.gTakes_setG c i d code
  rw [returns]
  refine ⟨⟨value, others, thread⟩, pcNext_step1 ?_, (((OnlyThread.refl _ c i s).setG d code).wr _ _ _).step1, ?_⟩
  · exact (State.rd_wr_of_key _ _ _ _ _ _ (by decide)).trans (State.setG_pc ..)
  · rw [State.rd_step1_of_ne _ c i _ _ fun e => absurd e.1 (by decide), State.rd_wr_self]
    rfl

section Polls

variable {s : State} {c i d f : Nat} (issue : CanIssue s c i) (own : ownSlot i f = true) {v : Slot} (slot : s.slotOf c (i / 2) (f / 2 % 8) = v)
include issue own slot

/-- SPOLL on a slot of its own. -/
theorem exec_spoll : exec (.spoll c i d f) s = .next (if v.busy then (s.setG c i d 0xFF).step1 c i else s.slotReturn c (i / 2) i d v.status) := by
  have runs := exec_thread issue (k := .spoll c i d f) (execSpoll c i d f s) rfl rfl
  have named : s.slotOf c (coreOf i) (slotOfF f) = v := slot
  simp only [own, named, Bool.not_true, Bool.false_eq_true, if_false] at runs
  exact runs

/-- SWAIT on a slot of its own. -/
theorem exec_swait : exec (.swait c i d f) s =
    .next (if v.busy then s.setWait c i (.slotDone (f / 2 % 8) d) Ts.waitStream else s.slotReturn c (i / 2) i d v.status) := by
  have runs := exec_thread issue (k := .swait c i d f) (execSwait c i d f s) rfl rfl
  have named : s.slotOf c (coreOf i) (slotOfF f) = v := slot
  simp only [own, named, Bool.not_true, Bool.false_eq_true, if_false] at runs
  exact runs

theorem does_polls_of_busy (busy : v.busy = true) :
    (Does (.spoll c i d f) s fun t => GTakes c i d 0xFF s t ∧ PcNext c i s t ∧ OnlyThread [] c i s t) ∧
    (Does (.swait c i d f) s fun t => t.thState c i = Ts.waitStream ∧ (t.thrOf c i).wait = .slotDone (f / 2 % 8) d ∧ t.pc c i = s.pc c i) := by
  have polls := exec_spoll issue own slot (d := d)
  have waits := exec_swait issue own slot (d := d)
  rw [if_pos busy] at polls waits
  exact ⟨⟨_, polls, s.setG_step1 c i d 0xFF⟩,
    ⟨_, waits, s.thState_setWait c i _ _ (by decide), s.wait_setWait c i _ _, s.pc_setWait c i _ _⟩⟩

theorem does_polls_of_done (done : v.busy = false) (service : i % 2 = 0) :
    (Does (.spoll c i d f) s fun t => GTakes c i d v.status s t ∧ PcNext c i s t ∧
      t.rd Reg.CLU_STREAM_STATUS_LAST_STATUS (ix c (i / 2)) = v.status % 256) ∧
    (Does (.swait c i d f) s fun t => GTakes c i d v.status s t ∧ PcNext c i s t ∧
      t.rd Reg.CLU_STREAM_STATUS_LAST_STATUS (ix c (i / 2)) = v.status % 256) := by
  have polls := exec_spoll issue own slot (d := d)
  have waits := exec_swait issue own slot (d := d)
  rw [if_neg (by simp [done])] at polls waits
  obtain ⟨takes, next, -, last⟩ := s.slotReturn_of_service (c := c) (u := i / 2) (d := d) (code := v.status) service
  exact ⟨⟨_, polls, takes, next, last⟩, ⟨_, waits, takes, next, last⟩⟩

end Polls

/-- How a thread hears that a slot is free. -/
def State.wakeThread (c u k : Nat) (s : State) (i : Nat) : State :=
  match (s.thrOf c i).wait with
  | .slotDone j d => if j = k then (s.setWait c i .none Ts.ready).slotReturn c u i d (s.slotOf c u k).status else s
  | .slotFree j => if j = k then s.setWait c i .none Ts.ready else s
  | _ => s

theorem State.slotWake_eq (s : State) (c u k : Nat) : s.slotWake c u k = [2 * u, 2 * u + 1].foldl (State.wakeThread c u k) s := rfl

theorem State.wakeThread_of_done {s : State} {c u k i d : Nat} (waits : (s.thrOf c i).wait = .slotDone k d) :
    State.wakeThread c u k s i = (s.setWait c i .none Ts.ready).slotReturn c u i d (s.slotOf c u k).status := by
  simp only [State.wakeThread, waits, if_true]

theorem State.wakeThread_of_none {s : State} {c u k i : Nat} (quiet : (s.thrOf c i).wait = .none) : State.wakeThread c u k s i = s := by
  simp only [State.wakeThread, quiet]

/-- A slot that has moved every byte is free again, and the service thread that waits for it goes on with its code. -/
theorem does_streamSlotDone {s : State} {c i k d : Nat} {v : Slot} (slot : s.slotOf c (i / 2) k = v) (busy : v.busy = true) (todo : v.todo = [])
    (out : v.out = []) (awake : v.parked = false) (service : i % 2 = 0) (waits : (s.thrOf c i).wait = .slotDone k d)
    (other : (s.thrOf c (i + 1)).wait = .none) : Does (.streamSlotDone c (i / 2) k) s fun t =>
      (t.slotOf c (i / 2) k).busy = false ∧ t.thState c i = Ts.ready ∧ PcNext c i s t ∧
      t.g c i d = (if d % 32 = 0 then 0 else v.status % 2 ^ 64) ∧ (t.thrOf c i).wait = .none := by
  let u := s.setSlot c (i / 2) k { v with busy := false }
  have only := s.setSlot_only c (i / 2) k { v with busy := false }
  have freed : u.slotOf c (i / 2) k = { v with busy := false } := s.slotOf_setSlot ..
  let w := u.setWait c i .none Ts.ready
  have slots (e : Nat) : { w.cluOf e with thr := [] } = { u.cluOf e with thr := [] } := u.clu_setWait c i .none Ts.ready e
  obtain ⟨takes, next, only_, -⟩ := w.slotReturn_of_service (c := c) (u := i / 2) (d := d) (code := v.status) service
  have first : (u.thrOf c i).wait = .slotDone k d := (congrArg Thr.wait (only.thrOf c i)).trans waits
  have second : ((w.slotReturn c (i / 2) i d v.status).thrOf c (i + 1)).wait = .none := by
    rw [only_.threads _ _ (by omega), State.thrOf_setWait_ne _ _ _ _ _ (by omega), only.thrOf, other]
  have threads : [2 * (i / 2), 2 * (i / 2) + 1] = [i, i + 1] := by rw [show 2 * (i / 2) = i by omega]
  have wakes : u.slotWake c (i / 2) k = w.slotReturn c (i / 2) i d v.status := by
    rw [State.slotWake_eq, threads, List.foldl_cons, List.foldl_cons, List.foldl_nil, State.wakeThread_of_done first, freed,
      State.wakeThread_of_none second]
  have runs : exec (.streamSlotDone c (i / 2) k) s = .next (u.slotWake c (i / 2) k) := by
    show execStreamSlotDone c (i / 2) k s = _
    simp only [execStreamSlotDone, slot, busy, Slot.idle, todo, out, awake, BEq.rfl, Bool.not_false, Bool.and_self, if_true, u]
  rw [wakes] at runs
  generalize w.slotReturn c (i / 2) i d v.status = t at runs takes next only_
  refine ⟨t, runs, ?_, ?_, ?_, takes.value, ?_⟩
  · have same : t.slotOf c (i / 2) k = u.slotOf c (i / 2) k :=
      (congrArg (fun x : Clu => Tbl.get {} (slotKey (i / 2) k) x.slots) ((only_.clusters c).trans (slots c)) :)
    rw [same, freed]
  · exact (only_.regs _ _ (by decide) fun e => absurd e.1 (by decide)).trans (u.thState_setWait c i _ _ (by decide))
  · exact next.trans (by rw [u.pc_setWait]; exact congrArg (fun x => (x + 1) % 2 ^ 17) (only.rd _ _))
  · exact ((congrArg Thr.wait takes.thread :) : (t.thrOf c i).wait = (w.thrOf c i).wait).trans (u.wait_setWait c i .none Ts.ready)

end Sys2Proof.Machine

open Sys2Proof Sys2Proof.Machine Sys2Proof.Safety

/-- Settles O11: a run within a page is one part of its slot, done in GDDR7 once its checks pass; a freed slot wakes its thread. -/
theorem streamUnits : Obligations.StreamUnits := by
  unfold Obligations.StreamUnits
  refine ⟨?_, ?_, ?_⟩
  · intro s c i d a b f issue own free win la ra n ten ctx some_ page above taken
    refine ⟨fun pass => ⟨?_, ?_⟩, fun pass clean => ⟨?_, ?_⟩⟩
    · exact does_sst issue own free win rfl rfl rfl some_ page pass
    · exact does_hst issue own free win rfl rfl rfl some_ page pass
    · exact does_sld issue own free win rfl rfl rfl some_ page pass clean above
    · exact does_hld issue own free win rfl rfl rfl some_ page pass clean above
  · intro s c i d a b f issue own free
    constructor
    · intro sp hb n service high low fits
      exact ⟨does_shx_hub issue own free rfl rfl rfl service high low fits, does_shx_scratch issue own free rfl rfl rfl service high low fits⟩
    · intro at_ x high aligned check ok low buffer list parts
      exact ⟨⟨_, exec_rows issue own free (execSgather c i d a b f s) rfl rfl rfl rfl high aligned check ok low buffer list, rfl⟩,
        ⟨_, exec_rows issue own free (execSscatter c i d a b f s) rfl rfl rfl rfl high aligned check ok low buffer list, rfl⟩⟩
  · intro s c i d f v
    refine ⟨fun issue own => ⟨does_polls_of_busy issue own rfl, does_polls_of_done issue own rfl⟩, ?_⟩
    rintro u k busy todo out awake rfl rfl service - - waits other
    exact does_streamSlotDone rfl busy todo out awake service waits other
end
